-- ==== Sys2Proof/Word.lean ====
section
/-! DEFINITION. The machine's smallest unit of data, the byte, and a 64-bit word. -/

namespace Sys2Proof

/-- A byte. Multi-byte values are little-endian (R11, 00_scope.md). -/
abbrev Byte := BitVec 8

/-- A 64-bit word: a register, or an aligned word of a memory. -/
abbrev Word := BitVec 64

end Sys2Proof
end

