-- ==== Sys2Proof/Syntax.lean ====
section
/-! DEFINITION. The commands: one constructor for each row of the spec's table of operations and events, with the operands a
command carries in from outside. Where an outcome is the world's and not the module's (a sensor's reading, whether a retrain
succeeds, whether the host answers a request), it is an operand. -/

namespace Sys2Proof

/-- How the block-store words that an event reads are found (R433). -/
inductive StoreRead where
  /-- Sound. -/
  | clean
  /-- One was corrected. -/
  | corrected
  /-- One could not be corrected. -/
  | uncorrectable
deriving DecidableEq, Repr

/-- How a transfer between host memory and the module goes (R300, R554). -/
inductive HostWay where
  /-- It is answered. -/
  | answered
  /-- It is answered with Unsupported Request or Completer Abort. -/
  | aborted
  /-- It is answered, and a word of the buffer that stages it is corrected. -/
  | corrected
  /-- It is answered, and a word of the buffer that stages it cannot be corrected. -/
  | uncorrectable
deriving DecidableEq, Repr

/-- What becomes of the image that FW_UPDATE writes to flash (R486, R487). -/
inductive FlashWay where
  /-- The slot holds it. -/
  | written
  /-- The slot, read back, holds other bytes. -/
  | worn (bytes : List (BitVec 8))
  /-- The update goes no further than the slot, which holds these bytes, before a reset ends it. -/
  | cut (bytes : List (BitVec 8))
  /-- The slot holds it, and the write of the selector is torn before a reset ends the update. -/
  | torn
deriving DecidableEq, Repr

/-- A command to the module: an operation or an event of the table, whole and indivisible (95_what_each_step_holds.md). -/
inductive Instr where
  /-- BAR4_DESCRIPTOR_WRITE (R542): A write TLP to BAR4 submits each whole 64-byte unit it covers as one descriptor, in ascending address order, and gives each a SEQ. -/
  | bar4DescriptorWrite (offset : Nat) (data : List (BitVec 8)) (stream : Option Nat)
  /-- NOP (R550): A NOP is taken in SEQ order and completes with status 0. -/
  | nop
  /-- WAIT (R546): A WAIT command completes once its wait counter reaches WTARGET; if the condition does not hold at take, it enters the pool of wait entries. -/
  | wait
  /-- SIGNAL (R547): A SIGNAL adds N to the named counter after earlier BAR2 writes and lower-SEQ COPY and ATOMIC commands have landed. -/
  | signal
  /-- RUN (R551): A RUN is checked under R44 and then queued on its target blocks' run queues for Proofer admission. -/
  | run
  /-- PLACE_LOAD (R36): CFG checks, maps, writes, reads back and verifies a placement image, and sets PSTATE to LIVE or FAILED. -/
  | placeLoad (fences : List Nat)
  /-- PLACE_RETIRE (R39): Moves the placement to RETIRING, waits for running work and DMA to end, zeroes block state and sets EMPTY. -/
  | placeRetire
  /-- COPY (R550): Copies bytes between host and device memory; a fault leaves the destination range undefined. -/
  | copy (way : HostWay)
  /-- ATOMIC (R623): A host ATOMIC sends its AOP and operand to the LB4 and returns the old value. -/
  | atomic
  /-- SFT_LOAD (R263): Checks a Sifter program image in order and installs it in the slot as one unit. -/
  | sftLoad
  /-- SFT_UNLOAD (R262): Empties a Sifter program slot as one unit. -/
  | sftUnload
  /-- SFT_CTX_HOME (R243): Sets a context's home Sifter or none between runs; refused while the context is pinned or in use. -/
  | sftCtxHome
  /-- SFT_CTX_PIN (R243): Moves a context into its home Sifter's pinned store, within the pinning limits. -/
  | sftCtxPin
  /-- SFT_CTX_UNPIN (R243): Returns a context to paging. -/
  | sftCtxUnpin
  /-- SFT_CTX_WRITE (R243): Writes 1 to 256 bytes of a context between runs. -/
  | sftCtxWrite (way : HostWay)
  /-- SFT_CTX_READ (R243): Returns 1 to 256 bytes of a context to host memory. -/
  | sftCtxRead (way : HostWay)
  /-- SFT_TABLE (R254): Writes entries of Sifter table memory between runs, each 16-byte entry as one unit. -/
  | sftTable (way : HostWay)
  /-- SFT_RELEASE_DISCARD (R256): Host software discards a held frame by HOLD_ID. -/
  | sftReleaseDiscard
  /-- SFT_RELEASE_FORWARD (R256): Host software forwards a held frame; allowed only for holds made with HOLD_HOST = 1. -/
  | sftReleaseForward
  /-- SW_TCAM_WRITE (R285): Writes the value, mask and result of a ternary entry on all four port dies. -/
  | swTcamWrite (way : HostWay)
  /-- SW_EM_INSERT (R285): Inserts a key into the first free entry of its two buckets and returns the bucket and position. -/
  | swEmInsert
  /-- SW_EM_UPDATE (R285): Replaces the result of a key that is present. -/
  | swEmUpdate
  /-- SW_EM_DELETE (R285): Removes a key from the exact-match table. -/
  | swEmDelete
  /-- SW_MC_WRITE (R285): Writes a multicast group's port mask and HAIRPIN bit. -/
  | swMcWrite
  /-- TM_METER_WRITE (R340): Writes a meter record on the named port dies, filling both buckets and clearing RED_COUNT. -/
  | tmMeterWrite (way : HostWay)
  /-- TM_METER_READ (R340): Reads a meter record, including RED_COUNT, from one port die. -/
  | tmMeterRead (way : HostWay)
  /-- COLL_LAUNCH (R407): Checks a launch record and ticket order, then accepts the collective, holds it or ends it. -/
  | collLaunch
  /-- FW_UPDATE (R486): Checks a firmware image, writes it into the slot that is not ACTIVE, verifies it and sets TRIAL in the selector. -/
  | fwUpdate (way : FlashWay)
  /-- ATTEST (R494): Writes a signed attestation report, taken from one snapshot, to host memory. -/
  | attest (way : HostWay)
  /-- GET_RANDOM (R498): Returns 1 to 4,096 conditioned TRNG bytes; refused in strict mode or after a TRNG failure. -/
  | getRandom (way : HostWay)
  /-- JNL_APPEND (R588): Appends host bytes to the local journal as a digested entry and returns its JSEQ. -/
  | jnlAppend (way : HostWay)
  /-- JNL_CLOSE (R588): Closes the open journal range. -/
  | jnlClose
  /-- JNL_TRIM (R588): Releases every journal entry below the named JSEQ. -/
  | jnlTrim
  /-- JNL_SEND (R588): Sends a range of local or mirror journal entries to a module as FWD packets. -/
  | jnlSend
  /-- JNL_RECV (R588): In RESTORE mode, receives, verifies and appends journal entries from a named source module. -/
  | jnlRecv
  /-- JNL_EXPORT (R588): Writes a range of journal entries back to back to a destination address. -/
  | jnlExport (way : HostWay)
  /-- JNL_IMPORT (R588): In RESTORE mode, takes exported entries and recomputes every ingress digest, stopping at the first mismatch. -/
  | jnlImport (way : HostWay)
  /-- RING_COMPLETION_WRITE (R555): Writes a waiting completion record and the produced count once its ring has room. -/
  | ringCompletionWrite (ring : Nat) (hostOk : Bool)
  /-- RING_HOLDOFF_EXPIRY (R557): When HOLDOFF_US expires and the ring's produced count has moved, the ring's MSI-X vector is sent. -/
  | ringHoldoffExpiry (ring : Nat)
  /-- LONG_WORD_ISSUE (R53): An issue beat: a decoded long word issues all its slots and every fixed-latency pipeline takes one step. -/
  | longWordIssue (blk : Nat) (reads : StoreRead) (op residue : Option Nat)
  /-- EMPTY_BEAT (R57): An empty counted beat (IDLE, MMAS or ending) in which every pipeline advances without a new word. -/
  | emptyBeat (blk : Nat) (reads : StoreRead) (op residue : Option Nat)
  /-- COMMAND_END (R89): After END and its IDLE beats, once no operation remains in flight, the block writes the command's completion. -/
  | commandEnd (blk : Nat)
  /-- SIGNAL_ARRIVAL (R204): A remote or asynchronous signal adds to a counter, and the waiters whose targets it satisfies are released. -/
  | signalArrival (index : Nat)
  /-- HUDDLE_RELEASE (R212): When every non-fenced participant has arrived, the line's release is broadcast and GEN advances. -/
  | huddleRelease (line : Nat)
  /-- BLOCK_FENCE (R25): Fences a block: its counters and Huddle lines are abandoned, its waiters are released and its commands end. -/
  | blockFence (blk cause : Nat) (residue : Option Nat)
  /-- BLK_WATCHDOG (R22): Expiry of the block watchdog fences the block. -/
  | blkWatchdog (blk : Nat) (residue : Option Nat)
  /-- DIE_FABRIC (R574): A die link that fails 16 consecutive retries fences the die. -/
  | dieFabric (die : Nat) (under : Option (Nat × Nat))
  /-- DIE_VDOM (R574): A core rail that leaves 0.57 to 0.90 V fences the die. -/
  | dieVdom (die : Nat) (under : Option (Nat × Nat))
  /-- BLOCK_STORE_SCRUB (R433): Patrol scrub reads a block-store word in a free bank cycle and writes back a corrected word. -/
  | blockStoreScrub (blk word : Nat) (reads : StoreRead)
  /-- PREP_INSTRUCTION (R188): The prep core executes one RV64IMAC instruction, taking exceptions through mtvec. -/
  | prepInstruction (blk mem : Nat)
  /-- VLN_SIG (R193): Adds N to a local counter. -/
  | vlnSig (blk : Nat)
  /-- VLN_SIGR (R193): Adds N to a counter of another block. -/
  | vlnSigr (blk : Nat)
  /-- VLN_WAIT (R193): Stalls until a counter reaches its target or is abandoned. -/
  | vlnWait (blk : Nat)
  /-- VLN_READ (R193): Reads a counter value. -/
  | vlnRead (blk : Nat)
  /-- VLN_HARV (R193): Arrives on a Huddle line. -/
  | vlnHarv (blk : Nat)
  /-- VLN_HWAIT (R193): Stalls until a Huddle release or abandonment. -/
  | vlnHwait (blk : Nat)
  /-- VLN_RUN (R195): Starts an issue-stage run once the stage is idle; its END raises interrupt 17. -/
  | vlnRun (blk : Nat)
  /-- VLN_WREG (R194): Writes an A, S or LC register once the issue stage is idle. -/
  | vlnWreg (blk : Nat)
  /-- VLN_RREG (R194): Reads an A, S or LC register once the issue stage is idle. -/
  | vlnRreg (blk : Nat)
  /-- VLN_RCLR (R193): Clears the reduction state, as RCLR does. -/
  | vlnRclr (blk : Nat)
  /-- VLN_RENT (R193): Reads one reduction entry. -/
  | vlnRent (blk : Nat)
  /-- VLN_RSTAT (R193): Reads the reduction status. -/
  | vlnRstat (blk : Nat)
  /-- VLN_ARM (R193): Arms interrupt 18 on a counter target. -/
  | vlnArm (blk : Nat)
  /-- VLN_RDBC (R193): Reads the run-time beat counter. -/
  | vlnRdbc (blk : Nat)
  /-- PREP_INTERRUPT (R196): The prep core takes a local TRAP, run-end or counter interrupt. -/
  | prepInterrupt (blk : Nat)
  /-- DMA_DESCRIPTOR_START (R434): The block DMA starts descriptor i once POST is at least i + 1. -/
  | dmaDescriptorStart (blk : Nat) (reads : StoreRead)
  /-- DMA_DESCRIPTOR_END (R437): A DMA descriptor ends: it writes STATUS and signals DONE and SIG, or halts on a fault. -/
  | dmaDescriptorEnd (blk index : Nat) (reads : StoreRead)
  /-- AUDIT_DESCRIPTOR_START (R463): The audit unit starts descriptor i once AREQ is at least i + 1. -/
  | auditDescriptorStart (blk : Nat) (reads : StoreRead)
  /-- AUDIT_DESCRIPTOR_END (R468): Writes the block digest, passes an ALARM record on and signals ADONE, or halts on a fault. -/
  | auditDescriptorEnd (blk : Nat)
  /-- SEAL_RECORD_ACCEPT (R471): The security engine accepts an alarm record into the open batch, opening one if needed. -/
  | sealRecordAccept (blk : Nat)
  /-- SEAL_BATCH_CLOSE (R471): A batch closes 1 ms after opening, or at 4,096 records, and enters the signer queue. -/
  | sealBatchClose
  /-- SEAL_BATCH_SIGN (R475): The signer signs a closed batch and builds its receipts. -/
  | sealBatchSign
  /-- SEAL_RING_WRITE (R475): Writes records and then the seal into their rings once the rings have free slots. -/
  | sealRingWrite (hostOk : Bool)
  /-- ETH_FRAME_ARRIVAL (R280): Parses and looks up a received frame at byte 128 or at frame end, then meters, forwards or sends it to a Sifter. -/
  | ethFrameArrival (port : Nat) (data : List (BitVec 8)) (ended fcsOk : Bool) (upset index : Nat)
  /-- ETH_FRAME_END (R288): At frame end, checks the FCS and queues a store-and-forward copy, or discards or tail-marks the frame. -/
  | ethFrameEnd (port : Nat) (data : List (BitVec 8)) (fcsOk : Bool) (upset : Nat)
  /-- SIFTER_HANDOVER (R228): A named Sifter receives a handed-over frame head, or refuses it from a port die it does not name. -/
  | sifterHandover (index : Nat)
  /-- SIFTER_RUN (R229): After its order hold, a frame is dispatched to a run engine, its program runs, and the run commits and applies its verdict. -/
  | sifterRun (sf upset : Nat)
  /-- WATERMARK_BROADCAST (R234): Each port die broadcasts its order watermark every 32 ns. -/
  | watermarkBroadcast (pd : Nat)
  /-- SIFTER_HOLD_AGE_OUT (R256): A hold older than HOLD_AGE is discarded with a notice record. -/
  | sifterHoldAgeOut (sf : Nat)
  /-- PAGE_IN_DONE (R297): A page-in completes and the accesses waiting for it proceed. -/
  | pageInDone (page : Nat) (ok : Bool)
  /-- PAGING_SWEEP (R297): Every SWEEP_US, touched marks are cleared and untouched pages are paged out while frames are short. -/
  | pagingSweep
  /-- LEAK_AUDIT_SWEEP (R312): Every PERIOD_MS, the auditor sweeps the allocation bitmap and reports, and optionally reclaims, leaks. -/
  | leakAuditSweep
  /-- TX_SELECT (R327): An idle transmitter selects the next copy by strict priority and then deficit round robin. -/
  | txSelect (port : Nat)
  /-- AGE_CHECK (R313): Every 1 µs, the head copy of a paused or gated queue is checked for age. -/
  | ageCheck (port : Nat)
  /-- SHAPER_REFILL (R333): Every REFILL_NS, every shaper of a port is refilled and pending shaper writes apply. -/
  | shaperRefill (port : Nat)
  /-- GATE_ENTRY_CHANGE (R329): At the end of an entry interval or cycle, the port moves to the next gate state. -/
  | gateEntryChange (port : Nat)
  /-- PFC_FRAME_RECEIVE (R309): A received PFC frame pauses the egress queue of its priority. -/
  | pfcFrameReceive (port : Nat) (prio quanta : Nat)
  /-- PFC_PAUSE_REPEAT (R309): While XOFF is in force, a PAUSE frame is repeated every QUANTA / 2. -/
  | pfcPauseRepeat (port prio : Nat)
  /-- TIME_STEP (R341): Firmware steps module time, and enabled gate schedules restart. -/
  | timeStep (time : Nat)
  /-- RESEQ_TIMEOUT (R292): After TIMEOUT_US, the resequencer skips the gap and records RSQ_GAP. -/
  | reseqTimeout (stream : Nat)
  /-- FLIT_RECEIVE (R355): Receives a flit in FSEQ order, applies credits and ACKSEQ, and discards a bad flit and NAKs. -/
  | flitReceive (port : Nat) (flit : List (BitVec 8)) (codewords : Nat)
  /-- REPLAY_TIMEOUT (R355): After 8 µs without ACKSEQ progress, the sender replays, and retrains after 8 replays. -/
  | replayTimeout (port : Nat)
  /-- RETRAIN_TIMEOUT (R356): A retrain that does not succeed in 100 ms takes the port DOWN and raises RALLY_LINK_DOWN. -/
  | retrainTimeout (port : Nat)
  /-- RALLY_LANES_TRAINED (R358): When the lanes have trained, the link layer sends IDENT. -/
  | rallyLanesTrained (port : Nat)
  /-- RALLY_IDENT_RECEIVE (R367): The peer's IDENT is checked; the port sends credits or holds in MISMATCH. -/
  | rallyIdentReceive (port sysId extents peer : Nat)
  /-- RALLY_CREDITS_RECEIVE (R358): The peer's credits arrive and the port becomes UP. -/
  | rallyCreditsReceive (port : Nat) (credits : List Nat)
  /-- RALLY_PACKET_ARRIVAL (R368): A whole packet is routed onward, detoured, resequenced, delivered to its sink, or discarded. -/
  | rallyPacketArrival (port upset : Nat)
  /-- DETOUR_TIMEOUT (R370): After NM_WAIT × 64 ns without credit, a packet takes a non-minimal hop. -/
  | detourTimeout (port lane : Nat)
  /-- COLL_SLOT_START (R400): An accepted collective takes its free slot, reserves its Loaves and sends READY. -/
  | collSlotStart (slot : Nat)
  /-- COLL_JOIN (R392): A received JOIN's group digest is compared with this member's digest. -/
  | collJoin (index : Nat)
  /-- COLL_READY (R400): A received READY raises the cumulative grant of chunks. -/
  | collReady (index : Nat)
  /-- COLL_DATA (R399): A received chunk is CRC-checked and reduced or stored. -/
  | collData (index upset : Nat)
  /-- COLL_FIN (R404): A received FIN is counted; with every FIN held, the member delivers. -/
  | collFin (index : Nat)
  /-- COLL_ABORT (R412): A received ABORT ends an undelivered collective with the same fault code. -/
  | collAbort (index : Nat)
  /-- COLL_CHUNK_SEND (R406): An engine picks and sends the next chunk among its ready slots by weighted round robin. -/
  | collChunkSend (engine : Nat)
  /-- COLL_TILE_READY (R402): A tile counter advance lets the engine read and send that tile. -/
  | collTileReady (slot : Nat)
  /-- COLL_TIMEOUT (R411): No progress for the slot's limit ends the collective and sends ABORT. -/
  | collTimeout (slot : Nat)
  /-- COLL_HOLD_EXPIRY (R408): A launch held longer than CROSS_US ends with COLL_ORDER. -/
  | collHoldExpiry (index : Nat)
  /-- MEM_ACCESS (R422): An LB4 serves a device-memory read or write through its shared cache. -/
  | memAccess (write : Bool) (addr len : Nat) (data : List (BitVec 8)) (outcome : Nat)
  /-- ATOMIC_ADD (R428): Integer add, returning the old value. -/
  | atomicAdd (addr width operand : Nat)
  /-- ATOMIC_SMIN (R428): Signed minimum, returning the old value. -/
  | atomicSmin (addr width operand : Nat)
  /-- ATOMIC_SMAX (R428): Signed maximum, returning the old value. -/
  | atomicSmax (addr width operand : Nat)
  /-- ATOMIC_UMIN (R428): Unsigned minimum, returning the old value. -/
  | atomicUmin (addr width operand : Nat)
  /-- ATOMIC_UMAX (R428): Unsigned maximum, returning the old value. -/
  | atomicUmax (addr width operand : Nat)
  /-- ATOMIC_SWAP (R428): Swap, returning the old value. -/
  | atomicSwap (addr width operand : Nat)
  /-- ATOMIC_CAS (R428): Compare and swap, returning the old value. -/
  | atomicCas (addr width compare operand : Nat)
  /-- ATOMIC_FADD (R431): FP32 add rounded to nearest even; refused in strict mode. -/
  | atomicFadd (addr operand : Nat)
  /-- ADD_EXACT (R430): Adds an operand exactly into the 72-byte total of a line. -/
  | addExact (addr fmt operand : Nat)
  /-- HBM_SCRUB (R438): HBM patrol scrub reads a word and writes back a correction. -/
  | hbmScrub (word outcome : Nat)
  /-- HBM_RETRAIN_START (R441): A channel retrain starts on too many corrections, a 10 °C drift or a request. -/
  | hbmRetrainStart (stack ch : Nat)
  /-- HBM_RETRAIN_DONE (R441): A retrain ends; a third consecutive failure takes the stack OFFLINE. -/
  | hbmRetrainDone (stack : Nat) (ok : Bool)
  /-- SELF_REFRESH_ENTRY (R444): With SR = 1, a stack re-enters self-refresh after 1 ms without access. -/
  | selfRefreshEntry (stack : Nat)
  /-- BAR2_READ (R541): A BAR2 read reaches device memory through the window base. -/
  | bar2Read (offset len : Nat) (stream : Option Nat)
  /-- BAR2_WRITE (R541): A BAR2 write reaches device memory; failing words are dropped. -/
  | bar2Write (offset : Nat) (data : List (BitVec 8)) (stream : Option Nat)
  /-- BAR2_RESIZE (R540): A Resizable BAR change rounds HIF_BAR2_BASE down to the new size. -/
  | bar2Resize (log2 : Nat)
  /-- PCIE_POWER_STATE (R539): A change between D0 and D3hot closes or reopens the windows and keeps all state. -/
  | pciePowerState (d3hot : Bool)
  /-- BAR_ACCESS (R561): A BAR0 access of an illegal size or alignment is refused or dropped. -/
  | barAccess (write : Bool) (offset size : Nat) (data : Nat)
  /-- REF_PAGE_TIMEOUT (R576): A page that does not answer within 20 µs reads 0 or drops the write. -/
  | refPageTimeout (write : Bool) (offset : Nat)
  /-- GENERIC_REGISTER_WRITE (R12): A write to a register with no row of its own, applied field by field under its access codes and R14. -/
  | genericRegisterWrite (offset size data : Nat)
  /-- RC_REGISTER_READ (R12): A read of a register with RC fields returns and clears them. -/
  | rcRegisterRead (offset size : Nat)
  /-- ERR_STAT_WRITE (R559): An RW1C write to ERR_STAT clears bits; when all are clear the first-error capture is released. -/
  | errStatWrite (offset size data : Nat)
  /-- HIF_ERRQ_READ (R563): A read returns and removes one entry of the error-page queue. -/
  | hifErrqRead
  /-- BLK_TRACE_CTRL_WRITE (R104): EN from 0 to 1 applies BASE and SIZE, resets HEAD and clears WRAPPED. -/
  | blkTraceCtrlWrite (blk data : Nat)
  /-- SD_SEL_WRITE (R217): Starts a sideband fetch of a counter or Huddle line, abandoning any fetch in progress. -/
  | sdSelWrite (data : Nat)
  /-- SD_FETCH_DONE (R217): A sideband fetch completes and sets DONE. -/
  | sdFetchDone (mgmt : Bool)
  /-- DIE_ARB_WEIGHT_WRITE (R51): New arbiter weights apply at the arbiter's next round. -/
  | dieArbWeightWrite (die data : Nat)
  /-- CFG_DET_WRITE (R456): REQ sets STRICT at once in EMPTY or FAILED, otherwise when PSTATE next becomes one of them. -/
  | cfgDetWrite (data : Nat)
  /-- SFT_PORTCFG_WRITE (R264): A port configuration write, refused when it would break a resident program's checks. -/
  | sftPortcfgWrite (sf port data : Nat)
  /-- SFT_ORDER_WRITE (R238): Sets SRC_DIES; refused when a port has INLINE = 1. -/
  | sftOrderWrite (sf data : Nat)
  /-- SFT_TAB_WRITE (R274): Sets a table range, applied between runs. -/
  | sftTabWrite (sf table data : Nat)
  /-- SIFTER_RING_ENABLE (R273): EN from 0 to 1 applies the ring layout and resets PROD. -/
  | sifterRingEnable (sf ring data : Nat)
  /-- PNT_CSCFG_WRITE (R314): EN from 0 to 1 validates the layout and fills the free rings; refused when the layout is invalid or buffers are in use. -/
  | pntCscfgWrite (data : Nat)
  /-- TM_GATE_CTRL_WRITE (R331): Setting CHANGE requests replacement of the gate schedule. -/
  | tmGateCtrlWrite (port data : Nat)
  /-- MT_PTPCFG_WRITE (R347): Restarts the PTP instance and clears SYNC. -/
  | mtPtpcfgWrite (data : Nat)
  /-- RL_PMODE_WRITE (R349): Takes each port of a changed group down and brings it up in the new mode. -/
  | rlPmodeWrite (data : Nat)
  /-- RL_COORD_WRITE (R366): Sets the coordinate and extents; refused unless every Rally port is down. -/
  | rlCoordWrite (data : Nat)
  /-- RL_EPOCH_WRITE (R376): Changes version states, INJ or axis order, subject to the refusals. -/
  | rlEpochWrite (data : Nat)
  /-- RL_RTE_WRITE (R376): Writes a route entry of a RETIRED version. -/
  | rlRteWrite (version axis coord data : Nat)
  /-- RL_FENCE_WRITE (R380): Sets or clears the fence bits of neighbours. -/
  | rlFenceWrite (data : Nat)
  /-- PORT_CFG_WRITE (R385): A write to RL_PORTCFG or EP_CFG of an up port restarts the port with the new values. -/
  | portCfgWrite (port reg data : Nat)
  /-- COL_LAST_WRITE (R409): Re-bases ticket order; refused while a slot is busy or a launch is held. -/
  | colLastWrite (data : Nat)
  /-- MEM_MODE_WRITE (R425): Changes NF only when its conditions hold, after the caches are written back. -/
  | memModeWrite (data : Nat)
  /-- MEM_MAINT_RETRAIN (R441): Requests a retrain of channel CH; refused unless the stack is UP. -/
  | memMaintRetrain (stack data : Nat)
  /-- SEC_CTRL_COMMIT (R488): Raises OTP_SVN to the running image's SVN; refused in TRIAL. -/
  | secCtrlCommit (data : Nat)
  /-- SEC_CTRL_IDE_REQ (R497): Requires IDE for BAR2 and BAR4 traffic; clearing it is refused. -/
  | secCtrlIdeReq (data : Nat)
  /-- CLK_MUX_WRITE (R527): Starts a glitch-free clock switch; refused while PENDING or toward an unlocked PLL. -/
  | clkMuxWrite (mux data : Nat)
  /-- CLK_MUX_SWITCH_DONE (R527): A clock switch finds the low phases and restarts its domain. -/
  | clkMuxSwitchDone (mux : Nat)
  /-- CLKSW_STUCK (R528): A switch pending for 2 ms is fatal, and the Referee domain is forced to the monitor oscillator. -/
  | clkswStuck (mux : Nat)
  /-- HIF_BAR2_BASE_WRITE (R540): Sets the BAR2 window base for later requests. -/
  | hifBar2BaseWrite (data : Nat)
  /-- HIF_RING_CFG_WRITE (R564): EN from 0 to 1 applies the ring layout; disabling is refused while commands are outstanding. -/
  | hifRingCfgWrite (ring reg data : Nat)
  /-- RF_RESET_WRITE (R565): GO = 1 with KEY 0xA5 causes a full reset. -/
  | rfResetWrite (data : Nat)
  /-- RF_MTEST_START (R570): Starts the destructive full memory test when its conditions hold. -/
  | rfMtestStart (data : Nat)
  /-- MTEST_DONE (R570): The full memory test ends; failing stacks go OFFLINE. -/
  | mtestDone (failMask : Nat)
  /-- JNL_CTRL_WRITE (R597): Changes journal mode, mirroring and layout; MODE OFF empties the ring; refused during a transfer. -/
  | jnlCtrlWrite (data : Nat)
  /-- SB_CTRL_WRITE (R592): Requests a Scorebook copy write. -/
  | sbCtrlWrite (data : Nat)
  /-- PRF_DIE_WRITE (R514): VFIX holds a die at VSET. -/
  | prfDieWrite (die data : Nat)
  /-- PROOFER_SAMPLE (R510): Every 10 µs, the Proofer reads its sensors and meters and sets the held share of each die. -/
  | prooferSample (sensors : List Nat)
  /-- PROOFER_WINDOW (R505): At each 100 µs window start, the Proofer recomputes budgets, applies register changes and sets die voltages. -/
  | prooferWindow
  /-- PROOFER_ADMIT (R508): When a command becomes ready or ends, or at a window start, ready commands are admitted by class and age. -/
  | prooferAdmit
  /-- PRF_OVERPOWER (R511): Input power above 1.1 × LIMIT_W for 20 µs holds every non-INLINE block until the next window. -/
  | prfOverpower
  /-- PROOFER_WARM (R515): After 200 ms of readings, WARM is set and full admission begins. -/
  | prooferWarm
  /-- THERMAL_TRIP (R516): A sensor at 105 °C switches off its die's supply and asserts THERMTRIP_N. -/
  | thermalTrip (unit sensor : Nat)
  /-- MONITOR_WINDOW (R522): At the end of each monitor window, the REFCLK count is checked against C0 or nominal, and C0 is refreshed. -/
  | monitorWindow (count : Nat)
  /-- CLK_MON_FAIL (R526): No monitor window in 20 µs stops use of the monitor. -/
  | clkMonFail
  /-- CLK_PLL_UNLOCK (R521): A PLL fails its lock test and relocks, with effects by PLL kind. -/
  | clkPllUnlock (pll : Nat)
  /-- PLL_RELOCK (R521): A PLL locks again and its dependants resume. -/
  | pllRelock (pll : Nat)
  /-- PLL_RELOCK_TIMEOUT (R521): A PLL unlocked for 1 ms takes its stack OFFLINE or raises REFCLK failure. -/
  | pllRelockTimeout (pll : Nat)
  /-- POWER_APPLY (R613): 54 V in range for 20 ms releases the power-applied reset cause. -/
  | powerApply
  /-- POWER_FAIL (R614): An under- or overvoltage opens the input switch, asserts FAULT_N and loses device memory. -/
  | powerFail
  /-- PERST_ASSERT (R565): PERST# gives a full reset. -/
  | perstAssert
  /-- PCIE_HOT_RESET (R537): A hot reset gives a full reset. -/
  | pcieHotReset
  /-- PCIE_LINK_DISABLE (R537): A link disable gives a full reset. -/
  | pcieLinkDisable
  /-- REFEREE_WATCHDOG (R565): A watchdog not serviced for 1 s gives a full reset. -/
  | refereeWatchdog
  /-- RESET_RELEASE (R567): On release, the boot chain, training, self-test, journal recovery and start-up run to READY. -/
  | resetRelease (env : List Nat)
  /-- EPO_N_ASSERT (R610): EPO_N asserted for 10 µs enters emergency power-off. -/
  | epoNAssert (held : Bool)
  /-- MGMT_READ (R577): Reads a Referee or Scorebook register without side effects. -/
  | mgmtRead (reg : Nat)
  /-- MGMT_WRITE (R577): Writes SD_SEL, SB_SEL, SB_CTRL or RF_RESET over the management interface. -/
  | mgmtWrite (reg data : Nat)
  /-- MGMT_RESET (R577): A RESET command gives a full reset with cause 0x06. -/
  | mgmtReset
  /-- MGMT_EPO (R577): An EPO command enters emergency power-off. -/
  | mgmtEpo
  /-- RECOVERY_DATA (R577): In RECOVERY, writes bytes into the image buffer. -/
  | recoveryData (data : List (BitVec 8))
  /-- RECOVERY_DONE (R577): In RECOVERY, checks the image and installs it in slot A. -/
  | recoveryDone (len : Nat)
  /-- TRNG_HEALTH_FAIL (R498): A failed health test stops TRNG output and raises SEC_TRNG_FAIL. -/
  | trngHealthFail
  /-- SEC_IDE_FAULT (R497): A TLP failing its integrity check moves its stream to Insecure. -/
  | secIdeFault (stream : Nat)
  /-- SPDM_REQUEST (R496): The SPDM responder answers a request on the DOE mailbox. -/
  | spdmRequest (code param1 param2 : Nat) (data : List (BitVec 8))
  /-- JNL_COMMIT_TICK (R582): Every 100 µs, the commit point advances to the highest wholly visible JSEQ. -/
  | jnlCommitTick
  /-- JNL_MIRROR_RECEIVE (R585): A buddy stores a mirrored entry after checking its digest. -/
  | jnlMirrorReceive
  /-- JNL_ACK_SEND (R586): Every 10 µs while its mirror advances, the buddy reports the highest JSEQ and the last gap. -/
  | jnlAckSend
  /-- JNL_ACK_RECEIVE (R586): The client updates JNL_ACKED and its gap registers, raising JOURNAL_GAP on a new gap. -/
  | jnlAckReceive
  /-- JOURNAL_UNMIRRORED (R586): No acknowledgement progress for TIMEOUT_MS raises JOURNAL_UNMIRRORED. -/
  | journalUnmirrored
  /-- JNL_TRANSFER_TIMEOUT (R589): A journal transfer with no progress for TIMEOUT_MS ends with JOURNAL_LOST. -/
  | jnlTransferTimeout
  /-- SCOREBOOK_PERIODIC (R592): Every 15 minutes of power-on time, a Scorebook copy is written. -/
  | scorebookPeriodic
  /-- SCOREBOOK_WRITE_DONE (R591): A Scorebook sector write ends; a failure raises SB_WRITE and retries in the next sector. -/
  | scorebookWriteDone (ok : Bool)
  /-- HISTOGRAM_TICK (R594): Each second, or each hour for HBM, the histograms add to their bins. -/
  | histogramTick
  /-- ETHERNET_LINK_UP (R350): An Ethernet port finishes auto-negotiation and link training and comes up, so that it carries frames and counts as up for multicast and cut-through. -/
  | ethernetLinkUp (port : Nat)
  /-- ETHERNET_LINK_DOWN (R350): An Ethernet port loses its link through the cable, the partner or loss of signal, and goes down, so that multicast leaves it out and its queues stop. -/
  | ethernetLinkDown (port : Nat)
  /-- PAGE_OUT_DONE (R297): A page-out write to the HBM spill region completes, freeing a frame for an access that waits for a page-out first. -/
  | pageOutDone (page : Nat)
  /-- PFC_PAUSE_EXPIRY (R309): The pause time of a received PFC frame runs out and the egress queue of that class on the port is eligible again. -/
  | pfcPauseExpiry (port prio : Nat)
  /-- PTP_MESSAGE_RECEIVE (R343): The firmware PTP ordinary clock takes a Sync, Follow_Up or Delay_Resp message, updates OFFSET and SYNC, and slews module time. -/
  | ptpMessageReceive (port domain : Nat) (udp : Bool) (kind t : Nat)
  /-- AUX_12V_CHANGE (R609): AUX_12V is applied or removed; with no 54 V present this powers the Referee island, and with it the management interface, up or down. -/
  | aux12vChange (applied : Bool)
  /-- BUS_MASTER_ENABLE_CHANGE (R539): A configuration write to Bus Master Enable stops, or resumes, every module request to host memory, including completions, copies and report writes that are waiting. -/
  | busMasterEnableChange (on memSpace : Bool)
deriving DecidableEq, Repr

end Sys2Proof
end

