-- ==== Sys2Proof/Decode.lean ====
section
/-! DEFINITION. Commands spelt by a word. No row of the table of operations and events gives bits: a command arrives as an
operation of a bus or a pin, or as an event, and no number spells one (log 23). -/

namespace Sys2Proof

/-- The command that `nbits` bits `w` spell: none, since no row of the table has an encoding. -/
def decodeTableWord (_nbits _w : Nat) : Option Instr := none

end Sys2Proof
end

