-- ==== Sys2Proof/Machine/Bits.lean ====
section
/-! DEFINITION. Bit fields, byte order, masks held as numbers, and ceilings. -/

namespace Sys2Proof.Machine

/-- Bits `hi:lo` of `n` (R10, 00_scope.md). -/
def bits (n hi lo : Nat) : Nat := (n >>> lo) % 2 ^ (hi + 1 - lo)

/-- Bit `i` of `n` as 0 or 1. -/
def bit (n i : Nat) : Nat := (n >>> i) % 2

/-- Bit `i` of `n` as a truth value. -/
def bitOn (n i : Nat) : Bool := n.testBit i

/-- A truth value as a bit. -/
def b2n (b : Bool) : Nat := if b then 1 else 0

/-- `n` with bits `hi:lo` replaced by the low bits of `v`. -/
def setBits (n hi lo v : Nat) : Nat :=
  n - bits n hi lo * 2 ^ lo + (v % 2 ^ (hi + 1 - lo)) * 2 ^ lo

/-- `n` with bit `i` set. -/
def setBit (n i : Nat) : Nat := n ||| 2 ^ i

/-- `n` with bit `i` clear. -/
def clearBit (n i : Nat) : Nat := if n.testBit i then n - 2 ^ i else n

/-- The `k`-bit pattern of `n` as a two's-complement number. -/
def toSigned (k n : Nat) : Int :=
  if n % 2 ^ k < 2 ^ (k - 1) then (n % 2 ^ k : Nat) else ((n % 2 ^ k : Nat) : Int) - ((2 ^ k : Nat) : Int)

/-- The `k`-bit two's-complement pattern of `z`. -/
def ofSigned (k : Nat) (z : Int) : Nat := (z % ((2 ^ k : Nat) : Int)).toNat

/-- The bytes of `n`, lowest first (R11). -/
def leBytes : Nat → Nat → List Byte
  | 0, _ => []
  | k + 1, n => BitVec.ofNat 8 n :: leBytes k (n / 256)

/-- The number whose bytes, lowest first, are `bs` (R11). -/
def leNat : List Byte → Nat
  | [] => 0
  | b :: bs => b.toNat + 256 * leNat bs

/-- The bytes of `n`, highest first. -/
def beBytes (k n : Nat) : List Byte := (leBytes k n).reverse

/-- The number whose bytes, highest first, are `bs`. -/
def beNat (bs : List Byte) : Nat := leNat bs.reverse

/-- `len` bytes of `bs` from offset `off`; bytes past the end read 0. -/
def slice (bs : List Byte) (off len : Nat) : List Byte :=
  let t := (bs.drop off).take len
  t ++ List.replicate (len - t.length) 0

/-- The little-endian number in `len` bytes of `bs` from offset `off`. -/
def field (bs : List Byte) (off len : Nat) : Nat := leNat (slice bs off len)

/-- `n / d` rounded up. -/
def ceilDiv (n d : Nat) : Nat := (n + d - 1) / d

/-- How many of the low `k` bits of `n` are ones. -/
def popCount : Nat → Nat → Nat
  | 0, _ => 0
  | k + 1, n => n % 2 + popCount k (n / 2)

/-- The positions of the ones among the low `k` bits of `n`, lowest first. -/
def onesOf (k n : Nat) : List Nat := (List.range k).filter (fun i => n.testBit i)

/-- The number with ones at the positions listed. -/
def maskOf (is : List Nat) : Nat := is.foldl setBit 0

/-- The position of the lowest one among the low `k` bits. -/
def lowestOne (k n : Nat) : Option Nat := (List.range k).find? (fun i => n.testBit i)

/-- `f` applied to the element at position `i`, the list otherwise as it was. -/
def modifyAt {α : Type} (f : α → α) : Nat → List α → List α
  | _, [] => []
  | 0, a :: as => f a :: as
  | i + 1, a :: as => a :: modifyAt f i as

/-- The list without its element at position `i`. -/
def removeAt {α : Type} : Nat → List α → List α
  | _, [] => []
  | 0, _ :: as => as
  | i + 1, a :: as => a :: removeAt i as

/-- An element placed in a sorted list after those not above it. -/
def insertBy {α : Type} (le : α → α → Bool) (x : α) : List α → List α
  | [] => [x]
  | y :: ys => if le y x then y :: insertBy le x ys else x :: y :: ys

/-- A list in order; elements that compare equal keep their order. -/
def sortBy {α : Type} (le : α → α → Bool) : List α → List α
  | [] => []
  | x :: xs => sortInto le [x] xs
where
  /-- The rest of a list placed one after another. -/
  sortInto {α : Type} (le : α → α → Bool) (acc : List α) : List α → List α
    | [] => acc
    | y :: ys => sortInto le (insertBy le y acc) ys

/-- A list of bytes cut into pieces of `k` bytes, the last one padded with zeros. -/
def chunksOf (k : Nat) (bs : List Byte) : List (List Byte) :=
  (List.range (ceilDiv bs.length k)).map (fun i => slice bs (k * i) k)

/-- Every byte of the list is zero. -/
def allZero (bs : List Byte) : Bool := bs.all (fun b => b == 0)

end Sys2Proof.Machine
end

