-- ==== Sys2Proof/Config.lean ====
section
/-! DEFINITION. What the spec leaves open: free values, which nothing constrains, and secrets: none of these has a body, so no
proof can rest on a value of one (log 2). With them, the keys and the firmware image that the model gives a new part (log 10). -/

namespace Sys2Proof

/-- The free value of an index: a value the spec leaves open. Each use takes the next index (log 2). -/
opaque Config.free : Nat → Nat

/-- A free value of a key and an index: one that the spec leaves open and that is the same wherever what the key names is the same (log 74,
log 75). -/
opaque Config.keyed : List Nat → Nat → Nat

/-- The secret seed of a key pair, of 32 bytes: Ed25519 (0) or ML-DSA-65 (1), and the pair's number: 0 the identity pair's, from 1 on the seal
pairs' in the order in which they were made (R491, R493). It never leaves the engine. -/
opaque Config.secretSeed : Nat → Nat → List Byte

/-- The X.509 v3 certificate of an identity public key, Ed25519's (0) or ML-DSA-65's (1), with the chain up to its root, as module flash holds
them (R491). -/
opaque Config.certChain : Nat → List Byte

/-- The size in MiB of Pantry's metadata region for a spill size and four pool registers, which the spec does not state (R303,
log 32). -/
opaque Config.metaMib : Nat → List Nat → Nat

/-- Bytes of a table given 64 at a time. -/
def Machine.romBytes (n : Nat) (rows : List Nat) : List Byte := (rows.flatMap (Machine.leBytes 64)).take n

/-- The firmware signing public key of an index in the boot ROM, for Ed25519: values the model names, as the spec gives none (R481, log 10). -/
def Config.bootKeyEd (index : Nat) : List Byte :=
  Machine.leBytes 32 (if index = 0 then 0x8221a1ae50de363160c8edec958a38ee1ce400f4f885a18de846d9c7993a424a else
    0xd4b16405757ac5ddb55307af4c55b2654008a82348dca29c38fd80b67182692a)

/-- The firmware signing public key of index 0 in the boot ROM, for ML-DSA-65 (R481, log 10). -/
def Config.bootKeyMl0 : List Byte :=
  Machine.romBytes 1952
  [0xea8f7affbca671a38cc75367a206c60351a3dc112ddafc2adf084c86082beb3f45ef1d78642982ea0770d63761a3f506faa54a1e588ca2dddedc5b40f891e0a0,
   0x52ae94d18ee559d476a2f8690a059d67d5ffc09cb7fb4f7002735a5522976ad44b2cc40ce485ce69fd27b5c202499c3c69d3e0cb85cf12b9c73de12fabb8e87,
   0xa09439ead406f737cbe4b46c4994733f7f87f577ead011c24e80e5f76afcf7cc7d15569e45f1a346b61fb8d7f5def317a9f36bc218b5016b9ec0edfefcd0995c,
   0x76e2fd8faf6ff8ebcd65111637454726d9777c65202c111c3157215ebffb693d34954dc6c658178e867d22398df256101d5d31976bcd294867b854d67ece1f2b,
   0xf32b1e16addfdeeca1e331ca7faf29722adfbe6e94f6fce4722769677c01a16c6a23618c1c395df96e7a8b601e0935180e7590094e3c02414a940f631545c16e,
   0xcb42c663155767622ca51f111c1b3d8b953ffca67829b2aa6d9d41d93b1e9f14a14be059e50d8968bd733790bb0f94c1e17b1c060ed1e451e14308746802a108,
   0x111722c0d55bd79457f65d52a9aa01e5955fcb2d315950dc02d5455c43cd576d3d76412f794523a7c7924ae919bbab4896d415ce7c031d22945d394ee42f50b0,
   0xaf72f04165a2b139c97583772a32bfc6df57c852a678119d52bc6c2a349699ba484e3559c97afd59e7aa297b33399f511d0c1f34081dda01f6ec7ddc079215c4,
   0x1ea77959a5e6c1a491ddb542c0e2716bc2d6242d4313f8b082cc2a0a774d123b796964a4b2a757060678ed350f8b2f36b43344b0225727a96e455ce44e99a8ac,
   0x1ae327e700d78f350c78fdf1017a44e8b8253257139411aa8d695e194c0f316cf48c9fe0058446ecb74e16b4d9ab0c711d1005dd8eceeb4d359edf96d690fba3,
   0xf3152abbfc258711cc3932c59f2fab39eac61e3a42bba934beaa1cbd6aeb4a09e5c18091f9b3471a9c230abeddd3ed3f89548207b29b304291a1bb4448890eb8,
   0x8719ec28d88c1d9a43bad1f3fbbe4a5f1e5f0c894d403742aaff0ae185080ef54160590d71c135e7cd166f9f425003542aa7d8dc3baee4392e1f9accb02c314f,
   0x63456e8f9875ae5a194a7b74122d5546e7d7b4a976f079ff42f6c0fcd06231d676d02b7ae26ae497f92bea095a085c792e0c5337dd8e5d780b20f370f3b29621,
   0x1abcfc2027db3bf80aec933eeabda0c2f391ee9e80976af67b7de07a0f514bf8358e4d94ef38d2e8e39cc990cfef1cef23b92ec0b11d6930e717fa5fd182ce87,
   0xe0e8b6d1ececf8e863fc88ea5a8a7880e35a2a5ed5040afc4986f120374819cb4dc4e62848001dc6820da5adcf50e0ad757f5304f0000616dd0d32e1c2010615,
   0xe03a5bc675e6a5c27bee59d4179ac670415b59280c86e6fd0491a5b44741b024eb6a7fb37f0629ff7e89e0b1132436e3e895c55cfbe39630f383618d12ff764e,
   0xfeb3282b2df98f1efc2795a7fcb95d94e3c03e9b02cdb46f62cb918f4029577f0f5bcb2074572c9d026ae52198646a01e32414536f8c0bb4d9ec03e8d79e6456,
   0x3dfacd00e93504be42f4ff84a67f2f116c3a45ffedf945c9e8b3ee980512ded15b4cf7d44e678abdfefa071f7c0c596d3d01c093bfa4c3637d246766017644aa,
   0x201799f2128a277d560a7cbd894288ceb304257fcb7495876b780b8f6b20e34d6a22429ff4ab1d92e016c738078573987aa7b8d8ff91221e9779f57a65763324,
   0x620964c3e97f66382381526ccd2c565f2acaaee35b209954a5b69794d165775d3a391c7c8ebff0e71efc602891aa369a9ad34c02a9c7ac8414d8392b4dba1ad5,
   0x8e94fabec01a1062eec0b7248bb17ca2f3abb2740e016f966e60cc6afb8e073c339d8a91db3d8b7f52bea352312fa0b8b2d15d40c5bc79dff24fe7ecbca7778,
   0x662ab3aba3a4cdad6016b33efa73b0f75887b99cd86d7100218fb783ef0af1b888f1d8fca928fb16acf7736716bb7731b8f1f0c1859d7b023cf9da76b8e0c133,
   0x1a8b44cd0aeed4ef63cd162853ace1a1b7e14d2507032500f358232edaac47826e22ba5586a91b8b07ec61018625b0f3d5785751c5edce1bc3d789c639064624,
   0xed32674b32ddc3260185ed6328c8bbe1ba6a6fb85c09bc2db8937548644b293f0a3138f23c5bedcf3a2b23b326047af61b9e9036fe10dbed696cf4caff3bc2e9,
   0x1d5f32fea43f7ac5a6248e09581ff8b379e3f1911ee2a43ea3b09e65f2cbf78c214cdc203a42b426d31f2ca9965aaaed17df4649f611bfcfd6eb59b42dde43ac,
   0x3d7154bdc73172103c6055e4515fd89c7773a56d49865e1b406cfdaae1e0051a2152deeaabb8bf1ac6a9ef9f65eeb1809142849de6e432f8507955515dd7a6f8,
   0xe53a98e4964553183df076244cff6783b3691bd73a65e2181fbd3d5a54590b27ed3421e09a1720a8918348fe86b87adadf669f41cc6e63dfb7382d0f48c84248,
   0xb20ec3f5a0ea3d031764ed05957c0980dbad01ec1e393c8fd46448057b2d1229099c8fdb2546d60a0e6d191f5bbcead3c00912f6b6579cad3acd69a92375d401,
   0x65187190bf27f100604104c5bd316f58c24e5281cf8ef22ac762d79e8579933db2abfc5fe9c74e3074d831f198f9225647960334e18894f488362e0540ef1ccf,
   0xc76ac1d0417653d5560ad75fb92c2e7bfb018bbc7ce5c77bffca9ebfebe8b8c47015b61e985312069bfc578fa564428614d23c84f32bf4eab7277be543ce057a,
   0xa9f62265b0a41fff3ead7056358fdce9ed47d57ef38dc2ffcd3b8ff0b77f07b]

/-- The firmware signing public key of index 1 in the boot ROM, for ML-DSA-65 (R481, log 10). -/
def Config.bootKeyMl1 : List Byte :=
  Machine.romBytes 1952
  [0xf9c4429da404fae16e7d5bb4e15a4f267e4aa4686f678e36f90eba1e6ec8c265ed98f7f6d6f1d0bbf68bf7f4ec6395daaa05541a393c75714fceed40a772d98,
   0xb0c8e81f27320dc3c59d2a3c4b4a75601ac35e55364c4022c098225bf9826158841afce02e1aeb3508838d6ed39afa3e62a7ce39b10bd0e7dc6d07a085936397,
   0xbbd6b6caa7c0ee42b652fa82d1c8f928d0333932dd955988109f9308f452e563e60db63a65d14badee98c3715a9226ac27f92e8fcf79763d793eccc01a790a35,
   0x2305ab1cd4cc9b0fcc0e3bae36865a1351480d715a7859fff31c30490c9801f4ba6f5cf7fcbe8ef7f4a2bce1c860032b4a754a14c8994c518be18a42043faa9,
   0xe141b944f550b56e202dc633fedce3b7ffc059b8d176e11c11c05da7a54deaff0b80f52208f4990f2ca0be03771ee4b328bbe4a8c7a7b4520ee1a4cda6903f68,
   0x99cf9e5d0f74ace850d28e3ec23a46aeeb870c8e835d3e1a327f25a180eb9157adb7acb26202bd6c7293fde2fe6d7390ae387530d0051ad15ef6257ba9380117,
   0x762e1565f7e8a8904b2eba128322a166b6c42320c21af741b7ac315d6dfbe2b23f7b68a2222c8598554663ccd6be4ce4946885aaf541aa444ec395bf58e66f1,
   0x4bfb92a5d10349e1db33bbae56e3453b2d61de5156c0570f972338d8372682e96b27bfb00215f7afaeabeeb116994dad573364f4a8c1a533f3d0621b649acb9c,
   0x8330e397dd60b154f18015cf7050dde6e0a6ca734d13372e4d69eded98fcda9765cc7e61f1c6f85c2db37c42d510dabfb43c0755fb045faff48ea9662a6adbcb,
   0xd1bcf8ed87ef70cbb52083c211ab989b09345537d72a46c7b303a7159d479d503fca046c7ece369b5cab3a4065b2dc9533159d0d1bac3e3eb9e74de8d15eb4b7,
   0xf1d8405b3b0b2e5d6f464d44e3ac03aa13abee335568461eb7cd24e676a9d0b33d4d360bfeb59288b07705378aaf58d22b5034325a9246a8786a261e4ace5fbc,
   0x94fe2e8a1fa2e4377fbf2ce221e36c01fcac04b714502048838636e2fa54a4efe87dd38f51489fc48da9ea186732f64ba2fc32013f3d10e366c6ba7f64b25e0,
   0x1bd2e88756b14f0da5588376df2e660fcbb72f268c0ca6918aeec5dc4e27fccb38ec13ed61b88252e9187e825322ebc0c92a8bce3ecbe6c769da46a7141f5340,
   0x51e69e640d35a345fcb34ec74b3c0ac868e449255f9766dc2b170b4ec2ab59c2a213dd203fe6abd04f43a585cc62dff82245391504c4b6349f786577e8d0bdb5,
   0xd8d32d0d33a0b8a82502943c94297f095f669ca4c40d6ab3ab6a6729e824f5a80e918972cb06a3136dddb517fd33daaf8907cdfd96b83a931629a3ec603c4c3a,
   0x997b1ca85634c9bc6b7158b4b3635009488c42a6a3d6e61a4dbeb796c631fd00d3266edf5e1587dae403f034409c3ff13b48cba01339ca1e222825f4adf753e1,
   0x6db29583f228f0be6debb95def91b318c18db7a9b21ed64e20a05a751dd8c24d28b78401298a8446b8ec5564b729141c60ef3db1f3d38d1118d4b00df3eafe9,
   0x8f556746eeadff8158cfc7fa5f2fd5b19900732b34dc589f15154d0828d72760f8b84d67993eadfe1cdbe3d9c72a86ce50201c44833d3328efd933fae0e82e12,
   0xef5a2850f9fdc475167ab47c8ed4e5348f869afbd3a33936ff82e2150fe2ac5b3ea8d34ea44a65cdb850de875a39da166ec7dd6331fa0b140dd62997cf7a4392,
   0xf3d185d21d5132c38299d7b08a6a81b07340eb9c3340212fb103a27dfd17a30a9b7216a761445e6671fe8ce6c18e0b0aefa9f7ac48c170fa6344f9b4ff557827,
   0xb615c894f43bb8cb3cc33154d5a555a3905f5ea0d8df66b9acf262eae2fc988716847c7ea352a3dc336eb187a92a3712865a3baffa088a2d47e18a23687d3b51,
   0x5dc7e52cbf7e60e128332ba800dbd54d7d0378a431b2c3ae4d5d24f1736ce68a28228ce947d82c721e42fc54701f7255f77d164faea6f8a07f4d9a8e775a1d12,
   0xceb7e5a7d2eb3740c477d59a68936905f134362de2715d4a74cc407bdf6bfb4c572aae366289782f3209a7494de6d5455f1ad68ef39e3b3eebb3dccc78568e31,
   0x472b152ae9a8d2b57fd3e8813a88d606ad7bc888176b7e16978765a6e3b4e6ff046203834cda8e5c3d9f6ad8197d02f646289e44799ad8a8dc510dffa187f753,
   0xa49a032ee7ce9d5d1909a3f923dea76bfaebbac02c4982ab46291ea6413a6c28c1902f9ca15f454e0c5505b4c522dcee7158a7981e2ae6babfa8bf3a59b9831c,
   0x354a2d5a0d2f72276a1ed56d30923947399a72556a053a2c69d7d57f3170682bd8d3734bb67cd83cd38e8b4e1cc93843369d49751a8b7e6852ebabdef9222b4e,
   0xad468a5bab96d5704a8ffc92f5392e1373320c1c91833bf9cf6ab3f1f1fc5555b38a71712bce437c1c6267e41acd269130b3153e0dbda06f2dee8695aaac21a1,
   0xfd51294b5f3d7175ff8867901212a6d2e7fcc7bab2b2ab5221a8780a712ac1f400f5772e9adb707e0e1d31fc87861fb4d69646e350e0edf0db20451474c04198,
   0xb604a91aa9e9a3ee751d9b3d9339c91345f6274dcacdb6a68c6f1288a1ae11450ad99ff496f1ee04d34ced8fba34b828fc20cb5662560d42621c4eb4134a63b9,
   0x62573a74bf822eb52a2202adfd89b4654f44c3efda3f77ed29e7251256159e2678c017435b4f7d7f08e95aa269f2ffdbe738362dfcca55734de81ae411fce156,
   0x26a71afb835129ded970983736971ad6c11f183b4bb57995eaefa369b0c9b9b2]

/-- ED_SIG of the image that a new part holds (R482, log 10). -/
def Config.factoryEdSig : List Byte :=
  Machine.romBytes 64
  [0x8a34fa2e1e5b12e9a857f0a3f858a8c71bab8b03ace8e732a0d7ada9d2134da304d55738933a5d1eabad72d5ba53c6cb2f91fde84f81e24d47f6ea1a91d434c]

/-- MLDSA_SIG of the image that a new part holds (R482, log 10). -/
def Config.factoryMlSig : List Byte :=
  Machine.romBytes 3309
  [0x78d268298f2ece81a09c29bd2a10825b37e25018959e3888506452b430ed5f70e693843d58e785974b5d74b108fba628245c5ee9707a54c854496d5b69d3855c,
   0xca43d08f0d1af9a560d70cd67d909c6c125af270044fb7a0210532fd601f08e31530cac6d979150d991bba2315a501f45bf8f454c96d7a15dc53fcd6a86feb32,
   0x11e55ecd2e8a97b65857f4f7785b6927d14bee1341a8f7396e93441cd78cf3c3dea72d5250b73bd33a8669652543527fee47840f586945fdfc595ab0c5f060ef,
   0x9d421855a0b9b62bc53ec4c6eff5e8fdafed7fa361ea94df9203e1353e7d70378339ea5fea588617b4b77ceea1f596a6eec9c67d4cb4d76ffc65e32546b8c1db,
   0x6358be6500ffc85730b899a9ee5fd64874571db64688eb5c37c0c0b9052b126ea2873d0934d9c78f419d700f7b2ccd9c74964b740cfc803a17bc4cbad4d7d5dd,
   0xed9047d65574c678943b30667957b59547a685ee6cfc5271996a1cce4f0ea5e5a5907dc50042b1ba5d44d515ac9bbe48542de55deada2689663ecf8367cf27e6,
   0xf259e53c44f9aec8804f104b2704a1c976ff5fe0c1f7724ded7167a353f7f2cabd0bbfdacea82ddabc67c88d670544f34a17f6c5e6762b1208a23de5c6500f75,
   0x5552775a56c834845f03c73029b531d9b5c7dfc35d2c666468ed922248fd335131426690d314f86ec458e8494dd7616a10726ce06ba89a813856e4d33e414ece,
   0x39c4d091b41887094c43d5e71275fa6a5987329e6e03ee0d6809b972ca9bc2d75c18eab899cc1539c1e9ffa609b1dcef120e6ad672d5f960c469a32f2880d3ab,
   0x52ceec581103a90a26bc65b131ce831063d44f4845165818f78e5e1a34d01bb7cc97a512de50ec6a25cad1357b0e13baf0b1727fec5fb01cfd48c6f8e57b6496,
   0x803bf53499566f71c1b0142b6e4910be4f459d56a3303cc1456383c283254f59742215cb619bf89de63ba47c503df1a7d78bb64446f4cdb0e2133d54ad425399,
   0x188f64072dcbdd8f283bc5bfd1f9558227e48a453c2123e0f676299abec584f51ac479fa6fee6c9e0eccccf344382e82f7395feaf2030d28925bc1054c628df0,
   0x17502efb56bc391a0ba089cf32aa86a0bf5a9799f7ea3c6c4825f3699d619dc9a5e4759c88ddade4b600e1a7955a93f73df6a4f78ba665ceda99206f351bd290,
   0xc6f01f17a28841de48ec308df327b31f7c29270ae8161fa7e823ae1cc8ffa467bd1f2934e79d6159b8fb26739f8127ea9dd766e85638bb4ca66bcd9d2e3256d1,
   0x17a503f0cdfefb19b3af2e88f1d3c68de09f31b38675495428a6100a8b456e51e49844b8a2980f65ed0d8b28c76be178c79cfb20049bc97ba09e5529456bb6f6,
   0xe1439944ad9d982ec56c0608060289c44b87732887b0e74b55798470719086e4fdadc5510da5bf5c5309ddfc379bb1cb495dc470dd5001e62d3afa89ee2da7c1,
   0xf0dbe4f2e57fa4d42ef2a32126664a2b4108ef9bf2c176356ea211ca461c95ab7c07a58a61de92c5cd5f120c680bf061580528920898cb1b53eb119d3006c44d,
   0x78c36a2ee04e51b0cae5fb9b36ca415d948e0fe827d4cf7376b97fba8f300f0ff85ed4aeed6126c9488f0745907c35b16a6fe4b2b91b7ea8e4d218b6cd9fa67e,
   0x95080eb3f216768b8d80bf1c456a845d56dc033bdfc37ccae883a1a049b3660df2484b9949e6cd85cdbcb49917c7f392ca6ddbc16c504294a97e8119815a7e71,
   0x8c77794628ca8d546969e83a0c892eb1454782436d67a9485b29291149777bf1df4b1876eecdeb98da0a82fcbf570222a3d6ea4e9b45cabafe45730108e5513,
   0x632311bb981fa15ee51d48e1a6a1262f89c8cee6c2ada8015427bdbe87cf7ffdfb9dfa1641d81fd307a80d289b48ce9dc3b3f7003d02cccd6f8e730847aed71f,
   0x256873123aa4784194cafe7f59332390450703c768a9d5f26da12f189fd063a0ed3ce3c210f1da0d53f04e5241ae9796695554d6afa7fb4ac0144b94ce37bbe3,
   0x4e49de3e7d8cae2095abc0ed18b2a7ea3fb161ced33f5bffd8c76abaf1edaa6b489e713f19fb0d8429b317c80c09241287b1244248c06e2a6b48d442b3f35695,
   0xeeebf34d47f87887d7e41e1347aee92c68223f3ce3a2311d245362dfb9633caac02e03756b65c91f256fc45cecdb577c64b41ed16200a9621b487605027531e1,
   0x170abffb5a448b3a94c7f36fbbf49b98d259d00ad67cc102a98942af2b14b95850f5f42da317d0c017fce3f7a99fcabe81b7f58c78e1587bd46b0c4efc888b5c,
   0xf80347745b089093a1360df5478c130a159f937f3178ed992cd7dface02e6ec6f96f5e02f47b9ef7b196b5ff8390aec5678a7abf2b75225c8a13b0610b6ee14e,
   0xa3a35839cf745dac0d54a3a3d96217a53de001a31b838b60f24c4297416b852f39f0962dace68b75eeb502b30e64d856c669d6fd52af319d377d4418a4e4400d,
   0x4db75bbf49141bbe05bc9f14908ad57ed2135fdfdd1078f3e279eee8d0da31d7f85f7a1d808c9eca205a082fc23307b7cb8ca3116b7a6563e6d2943d7a00f682,
   0x6c6cc92ab2c2c940c112e552945112466df0e727f139f2129621a94403b159af2685068d666e104fc860a93d659b862319a8610d7bdefd01dbcb16391357e63d,
   0x26fa55bef7b5b64d0658601acdfebfb5e5cf59154859fc8ce59573dbc332f6420530347e5750b3b601e4bfd56a7b6998f386a760c0592bfeaa3f7c5d6f33f543,
   0x35879e6278f62f3819cd1283c6bdba9a09065e72881cc284101167c4c4f2fa1b08617a826da9a731c447b0d8c2103c6a2b4a712a3e084ba60e5e6a55172441fe,
   0x4abdd3bfd7ae563e3d997bb8489379efec1e50365500148c4e4176d3cd03127883cb82fc115fb309acc35641e35c6f9c523077b349b7b3ecf98c365aa6a51afd,
   0x877eb6c28fa0e2b1eb764ed803c95e42e7664ee5afc51fd8b8d4ad8b96963cab45326f3a4adb441b1572542e426c8f057d3a721aedbe00e07d5a5868fa38418a,
   0xaefa60afda47fe7a582ec51cbd0d6f27cd956cb422d4314967660ff228d46c6a9e3cc18edfd2addee99bda09c60503bcf2e75aa584166d11a8a79c3acf92c73e,
   0x3bdab8b6ffcb410e50d576cf734c8ae2c5386524ef74dada49108db0e69a63a93266e16da3c7b1157b4ef4be06ef623fedc97d26c19982137e7e2f0f6756d561,
   0x154a4ac01686862709ea773ce930db111a2803a31a878620eba577529c8d5dca991d40d0ae79c8ea4e3e3cc0218f908383ae918ac0965fa57c66049bee90a8c8,
   0x3d424288a0ef332e7f603026783e6dcbec25f30cf08f9e7163afdf474f67e0e606a9d3a326784aa452c8caa64dd4e66fabf3c909df324b3f54eac40a3ef69b89,
   0x21c6703a911c331b6e62b4e778ece799cbf73cb10975380a669dfae97c36f104aa3ac93b54bd912b2149c893c8b5d410bd92ec2e180208626ade7e5cfa16a4ca,
   0x5a4b004b8f2622598c811b1ad3a6583a8f5a72109227fd2b623324e5f0ea19e7c4915957b5568f4157875912bb4288aa482189ab0b6b19a6f0a4d0f8a9b65de9,
   0x48862f54e2e9880028dc0a42d2a0c4c0609064afc4224964b357e1d7de1a8dfc4a7e75c727c53ada4c5ae591b2976cf0b7bb0997232c8939e5c95f6a6100c609,
   0x6705d7ecbe2268a719ef46a96959598dc9b2bc2640d8228fff71129cccb6ae243993de77e2463a9adda1871d94d415f04c363f7b5579e7b59d8607aca535dae,
   0xa8a892e6864c018e35af0d6c264870c43779520372afe8125c77247a10c998bb2e53396294d5ccc79099e0ec21fa7395b161fb21ea9b07015514e43d97a2f9bf,
   0xb50f40460df14692408916aea4f589e0d1edb4464314b68b3a6622f8b1217c0c20a9bc6c8a1abd9e848c654d1cea5f92284d6028b38f67540a4b86b924c59923,
   0x35a9114e65500a17f63f5eda253037c440d9197adf06a4aabf71d92b41496ffe84cbc3e288bf190e302989ca4e2d8b529fc87dfa0669b74f0df109a3890b96fe,
   0x4e7a2ebb12412b16766e2975d22fc7b661e96c2a1183ca5099747f413bcff6b512257e527e6c2f7eef7332518fc1b6f18443b233a2495a5159a0237822797a30,
   0x1f3aeca4c168661b0dbc2c4c29d0100ecf2629ae82d87fc41efd57f2cc1b03b5a4583f6ba59b86147128266a772e4381f69964d6fe4f4f217915d91e193675e5,
   0xedaf0b1361bebaaeea91e50705efdd741962f79e26c461a3991d265a06ea720a14b62e8ee773fdcb16d072c3b6a76375cd82b2da32c8f17262b04a95f219368d,
   0x7e5b173589d147bb3cef527e6b2d4b16b6d5022b6cb6a188d5bc2e496aaf447ae9bae30a8add27a8f6fc198b846e8748c7978bdc2171507f748293ee99127f75,
   0x2bb81172cdcd134af087298dae5e0e7a7d113ee3593a8d653939e81976feee94fa4fa33e2b4e93a707b4f4daa402c184681b59b0222637e0a1a506679b8a68d,
   0xd2e2c557cb49bfd2f87435019af4fc72b1cacd2f90d600b225f5ab18186a82f87e7b0a82a3f3fbfc1f4032c80c5896a7d83f0eaebe8d4338a2e8799275fc3032,
   0xc3b89a9190837e6adfaa997c29de3411a32dc9e26c38e54da83f3a8fbf8887785af7589624b79882522b74031c488c6655e6bf22783e82ad90a81f6d976a95e4,
   0x241f1a11080300000000000000000000000000000000000000ceb68a83819978725014dba695877b6b662811df]

/-- The header of the firmware image that a new part holds in slot A: FW_VERSION 0, SVN 0, both keys of index 0, one byte of payload that is
0, its IMAGE_DIGEST and its two signatures, which the keys of index 0 verify (R482, log 10). -/
def Config.factoryHeader : List Byte :=
  Machine.leBytes 4 0x57464C56 ++ Machine.leBytes 2 1 ++ Machine.leBytes 2 4096 ++ Machine.leBytes 16 0 ++ Machine.leBytes 8 1 ++ Machine.leBytes 32 0 ++
  Machine.leBytes 32 0x81a0a0715822b84cd1d72fe0e509099f5540c0f97f3bf07f2a06a1b3390b6e2 ++
  Machine.leBytes 32 0xe6c9b4360ec0634eadfd082be316bcefe7004ebe19534ff2f96622953c7f2cec ++
  Config.factoryEdSig ++ Config.factoryMlSig ++ List.replicate 595 0

/-- A free value of `w` bits. -/
def Config.freeBits (w i : Nat) : BitVec w := BitVec.ofNat w (Config.free i)

/-- `n` free bytes from index `i` on. -/
def Config.freeBytes (n i : Nat) : List Byte := (List.range n).map (fun j => Config.freeBits 8 (i + j))

end Sys2Proof
end

