-- ==== Sys2Proof/Machine/RegTable.lean ====
section
/-! DEFINITION. The register tables of the spec as data: for each page, each register's offset, repeat count, stride and
fields, with each field's access code and reset value. Reserved fields are not listed: they read 0 and ignore writes (R13). -/

namespace Sys2Proof.Machine

/-- Access codes (R12, 00_scope.md). -/
inductive Acc where
  /-- RO: a write is ignored. -/
  | ro
  /-- RW: a write stores the value. -/
  | rw
  /-- RW1C: a 1 clears the bit. -/
  | w1c
  /-- RW1S: a 1 sets the bit and starts its action. -/
  | w1s
  /-- RC: a read clears the field. -/
  | rc
  /-- WO: reads 0; a write performs the action. -/
  | wo
deriving DecidableEq, Repr

/-- A register field: its top and bottom bit, its access code and its reset value. -/
structure RField where
  /-- Top bit. -/
  hi : Nat
  /-- Bottom bit. -/
  lo : Nat
  /-- Access code. -/
  acc : Acc
  /-- Reset value. -/
  reset : Nat
deriving DecidableEq, Repr

/-- A register of a page, repeated `cnt` times at `stride` bytes. -/
structure RegDesc where
  /-- Offset within the page. -/
  off : Nat
  /-- How many times it repeats. -/
  cnt : Nat
  /-- Bytes from one to the next. -/
  stride : Nat
  /-- Its fields. -/
  fields : List RField
deriving DecidableEq, Repr

/-- The kinds of BAR0 pages (R560, 16_host_interface_and_register_pages.md). -/
inductive Page where
  /-- The Referee page. -/
  | ref
  /-- The configuration controller page. -/
  | cfg
  /-- The Proofer page. -/
  | prf
  /-- The clocks page. -/
  | clk
  /-- The security engine page. -/
  | sec
  /-- The Scorebook page. -/
  | sb
  /-- The Huddle page. -/
  | hud
  /-- The host interface page. -/
  | hif
  /-- The compute die page. -/
  | die
  /-- The logical block page. -/
  | blk
  /-- The port page. -/
  | port
  /-- The Sifter page. -/
  | sft
  /-- The collective engine page. -/
  | coll
  /-- The Pantry page. -/
  | pnt
  /-- The switch core page. -/
  | sw
  /-- The HBM stack page. -/
  | stk
  /-- The memory control page. -/
  | mctl
  /-- The fabric routing page. -/
  | fab
deriving DecidableEq, Repr

/-- The common header of every page but for ERR_STAT (R558). -/
def hdrRegs : List RegDesc :=
  [⟨0x0, 1, 0, [⟨39, 32, .ro, 0⟩, ⟨31, 16, .ro, 0⟩, ⟨15, 0, .ro, 0⟩]⟩,
   ⟨0x8, 1, 0, [⟨63, 0, .ro, 0⟩]⟩,
   ⟨0x18, 1, 0, [⟨63, 2, .ro, 0⟩, ⟨1, 1, .ro, 0⟩, ⟨0, 0, .ro, 0⟩]⟩,
   ⟨0x28, 1, 0, [⟨31, 0, .rw, 0⟩]⟩,
   ⟨0x30, 1, 0, [⟨63, 62, .rw, 0⟩, ⟨61, 60, .rw, 0⟩, ⟨59, 58, .rw, 0⟩, ⟨57, 56, .rw, 0⟩, ⟨55, 54, .rw, 0⟩, ⟨53, 52, .rw, 0⟩, ⟨51, 50, .rw, 0⟩, ⟨49, 48, .rw, 0⟩, ⟨47, 46, .rw, 0⟩, ⟨45, 44, .rw, 0⟩, ⟨43, 42, .rw, 0⟩, ⟨41, 40, .rw, 0⟩, ⟨39, 38, .rw, 0⟩, ⟨37, 36, .rw, 0⟩, ⟨35, 34, .rw, 0⟩, ⟨33, 32, .rw, 0⟩, ⟨31, 30, .rw, 0⟩, ⟨29, 28, .rw, 0⟩, ⟨27, 26, .rw, 0⟩, ⟨25, 24, .rw, 0⟩, ⟨23, 22, .rw, 0⟩, ⟨21, 20, .rw, 0⟩, ⟨19, 18, .rw, 0⟩, ⟨17, 16, .rw, 0⟩, ⟨15, 14, .rw, 0⟩, ⟨13, 12, .rw, 0⟩, ⟨11, 10, .rw, 0⟩, ⟨9, 8, .rw, 0⟩, ⟨7, 6, .rw, 0⟩, ⟨5, 4, .rw, 0⟩, ⟨3, 2, .rw, 0⟩, ⟨1, 0, .rw, 0⟩]⟩,
   ⟨0x38, 1, 0, [⟨63, 63, .ro, 0⟩, ⟨4, 0, .ro, 0⟩]⟩,
   ⟨0x40, 1, 0, [⟨31, 0, .ro, 0⟩]⟩,
   ⟨0x48, 3, 8, [⟨63, 0, .ro, 0⟩]⟩,
   ⟨0x80, 8, 8, [⟨63, 0, .rc, 0⟩]⟩,
   ⟨0xF8, 1, 0, [⟨63, 0, .rw, 0⟩]⟩]

/-- The registers of the Referee page. -/
def regsRef : List RegDesc :=
  [⟨0x300, 1, 0, [⟨16, 16, .rw, 0⟩, ⟨15, 11, .rw, 0⟩, ⟨10, 6, .rw, 0⟩, ⟨5, 0, .rw, 0⟩]⟩,
   ⟨0x308, 1, 0, [⟨63, 0, .ro, 0⟩]⟩,
   ⟨0x310, 1, 0, [⟨63, 63, .ro, 0⟩, ⟨62, 62, .ro, 0⟩, ⟨61, 61, .ro, 0⟩, ⟨60, 60, .ro, 0⟩, ⟨59, 59, .ro, 0⟩, ⟨58, 58, .ro, 0⟩, ⟨57, 48, .ro, 0⟩, ⟨47, 32, .ro, 0⟩, ⟨31, 16, .ro, 0⟩]⟩,
   ⟨0x318, 1, 0, [⟨63, 0, .ro, 0⟩]⟩,
   ⟨0x400, 1, 0, [⟨63, 0, .ro, 0⟩]⟩,
   ⟨0x408, 1, 0, [⟨63, 63, .ro, 0⟩, ⟨62, 62, .ro, 0⟩, ⟨47, 32, .ro, 0⟩, ⟨31, 0, .ro, 0⟩]⟩,
   ⟨0x410, 1, 0, [⟨16, 16, .rw, 0⟩, ⟨15, 8, .rw, 0⟩, ⟨7, 7, .rw, 0⟩, ⟨6, 0, .rw, 0⟩]⟩,
   ⟨0x20, 1, 0, [⟨9, 9, .w1c, 0⟩, ⟨8, 8, .w1c, 0⟩, ⟨7, 7, .w1c, 0⟩, ⟨6, 6, .w1c, 0⟩, ⟨5, 5, .w1c, 0⟩, ⟨4, 4, .w1c, 0⟩, ⟨3, 3, .w1c, 0⟩, ⟨2, 2, .w1c, 0⟩, ⟨1, 1, .w1c, 0⟩, ⟨0, 0, .w1c, 0⟩]⟩,
   ⟨0x48, 1, 0, [⟨63, 0, .ro, 0⟩]⟩,
   ⟨0x50, 1, 0, [⟨63, 0, .ro, 0⟩]⟩,
   ⟨0x58, 1, 0, [⟨27, 16, .ro, 0⟩, ⟨15, 0, .ro, 0⟩]⟩,
   ⟨0x100, 1, 0, [⟨63, 32, .ro, 0⟩, ⟨31, 24, .ro, 0⟩, ⟨23, 16, .ro, 0⟩, ⟨1, 1, .ro, 0⟩, ⟨0, 0, .ro, 0⟩]⟩] ++
  [⟨0x108, 1, 0, [⟨15, 8, .wo, 0⟩, ⟨0, 0, .wo, 0⟩]⟩,
   ⟨0x110, 1, 0, [⟨31, 16, .rw, 0⟩, ⟨0, 0, .w1s, 0⟩]⟩,
   ⟨0x118, 1, 0, [⟨63, 48, .ro, 0⟩, ⟨47, 32, .ro, 0⟩, ⟨15, 8, .ro, 0⟩, ⟨1, 1, .ro, 0⟩, ⟨0, 0, .ro, 0⟩]⟩,
   ⟨0x500, 1, 0, [⟨63, 48, .rw, 50⟩, ⟨43, 32, .rw, 0⟩, ⟨27, 16, .rw, 0⟩, ⟨4, 4, .rw, 0⟩, ⟨3, 3, .rw, 0⟩, ⟨2, 2, .rw, 0⟩, ⟨1, 0, .rw, 0⟩]⟩,
   ⟨0x508, 1, 0, [⟨63, 30, .rw, 0⟩, ⟨7, 0, .rw, 1⟩]⟩,
   ⟨0x510, 1, 0, [⟨63, 30, .rw, 0⟩, ⟨7, 0, .rw, 1⟩]⟩,
   ⟨0x518, 1, 0, [⟨63, 0, .rw, 0⟩]⟩,
   ⟨0x520, 1, 0, [⟨63, 0, .ro, 0⟩]⟩,
   ⟨0x528, 1, 0, [⟨63, 0, .ro, 0⟩]⟩,
   ⟨0x530, 1, 0, [⟨63, 0, .ro, 0⟩]⟩,
   ⟨0x538, 1, 0, [⟨63, 0, .ro, 0⟩]⟩,
   ⟨0x540, 1, 0, [⟨63, 0, .ro, 0⟩]⟩] ++
  [⟨0x548, 1, 0, [⟨8, 8, .ro, 0⟩, ⟨5, 0, .ro, 0⟩]⟩,
   ⟨0x550, 1, 0, [⟨63, 0, .ro, 0⟩]⟩,
   ⟨0x558, 1, 0, [⟨63, 0, .ro, 0⟩]⟩,
   ⟨0x560, 1, 0, [⟨63, 0, .ro, 0⟩]⟩,
   ⟨0x568, 1, 0, [⟨63, 0, .ro, 0⟩]⟩]

/-- The registers of the configuration controller page. -/
def regsCfg : List RegDesc :=
  [⟨0x8, 1, 0, [⟨15, 8, .ro, 0⟩, ⟨3, 0, .ro, 0⟩]⟩,
   ⟨0x100, 1, 0, [⟨63, 32, .ro, 0⟩, ⟨15, 8, .ro, 0⟩, ⟨2, 0, .ro, 0⟩]⟩,
   ⟨0x108, 1, 0, [⟨63, 0, .ro, 0⟩]⟩,
   ⟨0x110, 4, 8, [⟨63, 0, .ro, 0⟩]⟩,
   ⟨0x130, 4, 8, [⟨63, 0, .ro, 0⟩]⟩,
   ⟨0x200, 32, 8, [⟨52, 51, .ro, 0⟩, ⟨50, 34, .ro, 0⟩, ⟨33, 17, .ro, 0⟩, ⟨16, 0, .ro, 0⟩]⟩,
   ⟨0x180, 1, 0, [⟨8, 8, .ro, 0⟩, ⟨0, 0, .rw, 0⟩]⟩,
   ⟨0x20, 1, 0, [⟨0, 0, .w1c, 0⟩]⟩]

/-- The registers of the Proofer page. -/
def regsPrf : List RegDesc :=
  [⟨0x20, 1, 0, [⟨5, 5, .w1c, 0⟩, ⟨4, 4, .w1c, 0⟩, ⟨3, 3, .w1c, 0⟩, ⟨2, 2, .w1c, 0⟩, ⟨1, 1, .w1c, 0⟩, ⟨0, 0, .w1c, 0⟩]⟩,
   ⟨0x48, 1, 0, [⟨63, 56, .ro, 0⟩, ⟨55, 52, .ro, 0⟩, ⟨51, 40, .ro, 0⟩, ⟨23, 0, .ro, 0⟩]⟩,
   ⟨0x100, 1, 0, [⟨47, 32, .rw, 1000⟩, ⟨31, 16, .rw, 600⟩, ⟨15, 0, .rw, 15000⟩]⟩,
   ⟨0x108, 1, 0, [⟨39, 32, .rw, 95⟩, ⟨31, 16, .rw, 380⟩, ⟨15, 0, .rw, 10⟩]⟩,
   ⟨0x110, 1, 0, [⟨63, 32, .ro, 0⟩, ⟨31, 16, .ro, 0⟩, ⟨1, 1, .ro, 0⟩, ⟨0, 0, .ro, 0⟩]⟩,
   ⟨0x200, 32, 8, [⟨63, 48, .ro, 0⟩, ⟨47, 36, .ro, 0⟩, ⟨35, 28, .ro, 0⟩, ⟨27, 20, .ro, 0⟩, ⟨13, 8, .rw, 26⟩, ⟨7, 7, .rw, 0⟩, ⟨5, 0, .ro, 0⟩]⟩]

/-- The registers of the clocks page. -/
def regsClk : List RegDesc :=
  [⟨0x20, 1, 0, [⟨5, 5, .w1c, 0⟩, ⟨4, 4, .w1c, 0⟩, ⟨3, 3, .w1c, 0⟩, ⟨2, 2, .w1c, 0⟩, ⟨1, 1, .w1c, 0⟩, ⟨0, 0, .w1c, 0⟩]⟩,
   ⟨0x100, 1, 0, [⟨63, 63, .ro, 0⟩, ⟨62, 62, .ro, 0⟩, ⟨47, 32, .ro, 0⟩, ⟨31, 16, .ro, 0⟩, ⟨15, 0, .ro, 0⟩]⟩,
   ⟨0x108, 1, 0, [⟨15, 0, .ro, 0⟩]⟩,
   ⟨0x200, 42, 8, [⟨3, 3, .w1c, 0⟩, ⟨2, 2, .ro, 0⟩, ⟨1, 1, .ro, 0⟩, ⟨0, 0, .ro, 0⟩]⟩,
   ⟨0x400, 25, 8, [⟨3, 3, .ro, 0⟩, ⟨2, 2, .ro, 0⟩, ⟨1, 0, .rw, 2⟩]⟩]

/-- The registers of the security engine page. -/
def regsSec : List RegDesc :=
  [⟨0x400, 1, 0, [⟨63, 12, .rw, 0⟩]⟩,
   ⟨0x408, 1, 0, [⟨63, 32, .ro, 0⟩, ⟨8, 4, .rw, 4⟩, ⟨0, 0, .rw, 0⟩]⟩,
   ⟨0x410, 1, 0, [⟨63, 3, .rw, 0⟩]⟩,
   ⟨0x418, 1, 0, [⟨63, 12, .rw, 0⟩]⟩,
   ⟨0x420, 1, 0, [⟨63, 32, .ro, 0⟩, ⟨8, 4, .rw, 4⟩, ⟨0, 0, .rw, 0⟩]⟩,
   ⟨0x428, 1, 0, [⟨63, 3, .rw, 0⟩]⟩,
   ⟨0x430, 1, 0, [⟨63, 20, .ro, 0⟩, ⟨16, 4, .ro, 0⟩, ⟨3, 0, .ro, 0⟩]⟩,
   ⟨0x20, 1, 0, [⟨7, 7, .w1c, 0⟩, ⟨6, 6, .w1c, 0⟩, ⟨5, 5, .w1c, 0⟩, ⟨4, 4, .w1c, 0⟩, ⟨3, 3, .w1c, 0⟩, ⟨2, 2, .w1c, 0⟩, ⟨1, 1, .w1c, 0⟩, ⟨0, 0, .w1c, 0⟩]⟩,
   ⟨0x100, 1, 0, [⟨39, 36, .ro, 0⟩, ⟨35, 35, .ro, 0⟩, ⟨34, 34, .ro, 0⟩, ⟨33, 33, .ro, 0⟩, ⟨32, 32, .ro, 0⟩, ⟨23, 16, .ro, 0⟩, ⟨15, 8, .ro, 0⟩, ⟨1, 1, .ro, 0⟩, ⟨0, 0, .ro, 0⟩]⟩,
   ⟨0x108, 1, 0, [⟨1, 1, .rw, 0⟩, ⟨0, 0, .w1s, 0⟩]⟩]

/-- The registers of the Scorebook page. -/
def regsSb : List RegDesc :=
  [⟨0x20, 1, 0, [⟨3, 3, .w1c, 0⟩, ⟨2, 2, .w1c, 0⟩, ⟨1, 1, .w1c, 0⟩, ⟨0, 0, .w1c, 0⟩]⟩,
   ⟨0x100, 1, 0, [⟨63, 32, .ro, 0⟩, ⟨31, 24, .ro, 0⟩, ⟨1, 1, .ro, 0⟩, ⟨0, 0, .ro, 0⟩]⟩,
   ⟨0x108, 1, 0, [⟨15, 0, .rw, 0⟩]⟩,
   ⟨0x110, 1, 0, [⟨63, 0, .ro, 0⟩]⟩,
   ⟨0x118, 1, 0, [⟨0, 0, .w1s, 0⟩]⟩]

/-- The registers of the Huddle page. -/
def regsHud : List RegDesc :=
  [⟨0x100, 16, 8, [⟨63, 63, .ro, 0⟩, ⟨51, 42, .ro, 0⟩, ⟨41, 32, .ro, 0⟩, ⟨31, 0, .ro, 0⟩]⟩,
   ⟨0x20, 1, 0, [⟨0, 0, .w1c, 0⟩]⟩]

/-- The registers of the host interface page. -/
def regsHif : List RegDesc :=
  [⟨0x20, 1, 0, [⟨6, 6, .w1c, 0⟩, ⟨5, 5, .w1c, 0⟩, ⟨4, 4, .w1c, 0⟩, ⟨3, 3, .w1c, 0⟩, ⟨2, 2, .w1c, 0⟩, ⟨1, 1, .w1c, 0⟩, ⟨0, 0, .w1c, 0⟩]⟩,
   ⟨0x100, 1, 0, [⟨63, 32, .ro, 0⟩, ⟨12, 0, .ro, 0⟩]⟩,
   ⟨0x108, 1, 0, [⟨39, 30, .rw, 0⟩]⟩,
   ⟨0x110, 1, 0, [⟨63, 63, .rc, 0⟩, ⟨62, 62, .rc, 0⟩, ⟨13, 0, .rc, 0⟩]⟩,
   ⟨0x118, 1, 0, [⟨8, 0, .ro, 0⟩]⟩,
   ⟨0x400, 64, 32, [⟨63, 12, .rw, 0⟩]⟩,
   ⟨0x408, 64, 32, [⟨63, 48, .rw, 0⟩, ⟨42, 32, .rw, 2⟩, ⟨31, 16, .ro, 0⟩, ⟨11, 7, .rw, 6⟩, ⟨1, 1, .rw, 0⟩, ⟨0, 0, .rw, 0⟩]⟩,
   ⟨0x410, 64, 32, [⟨63, 3, .rw, 0⟩]⟩,
   ⟨0x418, 64, 32, [⟨63, 3, .rw, 0⟩]⟩]

/-- The registers of the compute die page. -/
def regsDie : List RegDesc :=
  [⟨0x100, 1, 0, [⟨63, 60, .rw, 1⟩, ⟨59, 56, .rw, 1⟩, ⟨55, 52, .rw, 1⟩, ⟨51, 48, .rw, 1⟩, ⟨47, 44, .rw, 1⟩, ⟨43, 40, .rw, 1⟩, ⟨39, 36, .rw, 1⟩, ⟨35, 32, .rw, 1⟩, ⟨31, 28, .rw, 1⟩, ⟨27, 24, .rw, 1⟩, ⟨23, 20, .rw, 1⟩, ⟨19, 16, .rw, 1⟩, ⟨15, 12, .rw, 1⟩, ⟨11, 8, .rw, 1⟩, ⟨7, 4, .rw, 1⟩, ⟨3, 0, .rw, 1⟩]⟩,
   ⟨0x20, 1, 0, [⟨4, 4, .w1c, 0⟩, ⟨3, 3, .w1c, 0⟩, ⟨2, 2, .w1c, 0⟩, ⟨1, 1, .w1c, 0⟩, ⟨0, 0, .w1c, 0⟩]⟩,
   ⟨0x48, 1, 0, [⟨63, 60, .ro, 0⟩, ⟨59, 48, .ro, 0⟩, ⟨47, 47, .ro, 0⟩, ⟨46, 42, .ro, 0⟩, ⟨41, 36, .ro, 0⟩]⟩]

/-- The registers of the logical block page. -/
def regsBlk : List RegDesc :=
  [⟨0x20, 1, 0, [⟨16, 16, .w1c, 0⟩, ⟨14, 14, .w1c, 0⟩, ⟨13, 13, .w1c, 0⟩, ⟨12, 12, .w1c, 0⟩, ⟨11, 11, .w1c, 0⟩, ⟨10, 10, .w1c, 0⟩, ⟨9, 9, .w1c, 0⟩, ⟨8, 8, .w1c, 0⟩, ⟨7, 7, .w1c, 0⟩, ⟨6, 6, .w1c, 0⟩, ⟨5, 5, .w1c, 0⟩, ⟨4, 4, .w1c, 0⟩, ⟨3, 3, .w1c, 0⟩, ⟨2, 2, .w1c, 0⟩, ⟨1, 1, .w1c, 0⟩, ⟨0, 0, .w1c, 0⟩]⟩,
   ⟨0x48, 1, 0, [⟨63, 40, .ro, 0⟩, ⟨39, 37, .ro, 0⟩, ⟨36, 35, .ro, 0⟩, ⟨34, 34, .ro, 0⟩, ⟨31, 0, .ro, 0⟩]⟩,
   ⟨0x50, 1, 0, [⟨63, 0, .ro, 0⟩]⟩,
   ⟨0x58, 1, 0, [⟨63, 32, .ro, 0⟩, ⟨4, 0, .ro, 0⟩]⟩,
   ⟨0x100, 1, 0, [⟨63, 32, .ro, 0⟩, ⟨31, 8, .ro, 0⟩, ⟨3, 0, .ro, 0⟩]⟩,
   ⟨0x108, 1, 0, [⟨63, 0, .ro, 0⟩]⟩,
   ⟨0x110, 1, 0, [⟨63, 12, .rw, 0⟩]⟩,
   ⟨0x118, 1, 0, [⟨63, 40, .rc, 0⟩, ⟨39, 16, .ro, 0⟩, ⟨15, 12, .rw, 0⟩, ⟨11, 11, .ro, 0⟩, ⟨7, 4, .rw, 15⟩, ⟨0, 0, .rw, 0⟩]⟩,
   ⟨0x120, 1, 0, [⟨11, 8, .w1c, 0⟩, ⟨7, 4, .w1c, 0⟩, ⟨3, 0, .w1c, 0⟩]⟩,
   ⟨0x128, 1, 0, [⟨20, 20, .ro, 0⟩, ⟨19, 18, .ro, 0⟩, ⟨17, 17, .ro, 0⟩, ⟨12, 8, .ro, 0⟩, ⟨4, 0, .ro, 0⟩]⟩,
   ⟨0x130, 1, 0, [⟨63, 32, .rc, 0⟩, ⟨31, 0, .rc, 0⟩]⟩,
   ⟨0x138, 1, 0, [⟨63, 32, .ro, 0⟩, ⟨23, 16, .ro, 0⟩, ⟨3, 0, .ro, 0⟩]⟩] ++
  [⟨0x140, 1, 0, [⟨31, 16, .ro, 0⟩, ⟨15, 0, .ro, 0⟩]⟩,
   ⟨0x200, 48, 8, [⟨63, 0, .ro, 0⟩]⟩,
   ⟨0x380, 1, 0, [⟨47, 0, .ro, 0⟩]⟩,
   ⟨0x148, 1, 0, [⟨35, 32, .ro, 0⟩, ⟨31, 26, .ro, 0⟩, ⟨25, 20, .ro, 0⟩, ⟨19, 19, .ro, 0⟩, ⟨14, 0, .ro, 0⟩]⟩,
   ⟨0x150, 1, 0, [⟨63, 56, .ro, 0⟩, ⟨55, 44, .ro, 0⟩, ⟨41, 41, .ro, 0⟩, ⟨35, 32, .ro, 0⟩, ⟨31, 0, .ro, 0⟩]⟩,
   ⟨0x158, 1, 0, [⟨35, 32, .ro, 0⟩, ⟨31, 26, .ro, 0⟩, ⟨25, 20, .ro, 0⟩, ⟨19, 19, .ro, 0⟩, ⟨14, 0, .ro, 0⟩]⟩,
   ⟨0x160, 1, 0, [⟨63, 56, .ro, 0⟩, ⟨55, 44, .ro, 0⟩, ⟨41, 41, .ro, 0⟩, ⟨31, 0, .ro, 0⟩]⟩]

/-- The registers of the port page. -/
def regsPort : List RegDesc :=
  [⟨0x400, 1, 0, [⟨14, 8, .rw, 0⟩, ⟨2, 1, .rw, 0⟩, ⟨0, 0, .rw, 1⟩]⟩,
   ⟨0x408, 1, 0, [⟨39, 20, .rw, 1048575⟩, ⟨19, 0, .rw, 1048575⟩]⟩,
   ⟨0x410, 1, 0, [⟨55, 42, .rw, 0⟩, ⟨41, 28, .rw, 0⟩, ⟨27, 14, .rw, 0⟩, ⟨13, 0, .rw, 0⟩]⟩,
   ⟨0x418, 1, 0, [⟨39, 24, .rw, 65535⟩, ⟨15, 8, .rw, 0⟩, ⟨7, 0, .rw, 0⟩]⟩,
   ⟨0x500, 1, 0, [⟨39, 32, .rw, 0⟩, ⟨26, 24, .rw, 0⟩, ⟨23, 21, .rw, 7⟩, ⟨20, 18, .rw, 6⟩, ⟨17, 15, .rw, 5⟩, ⟨14, 12, .rw, 4⟩, ⟨11, 9, .rw, 3⟩, ⟨8, 6, .rw, 2⟩, ⟨5, 3, .rw, 1⟩, ⟨2, 0, .rw, 0⟩]⟩,
   ⟨0x508, 1, 0, [⟨63, 56, .rw, 24⟩, ⟨55, 48, .rw, 24⟩, ⟨47, 40, .rw, 24⟩, ⟨39, 32, .rw, 24⟩, ⟨31, 24, .rw, 24⟩, ⟨23, 16, .rw, 24⟩, ⟨15, 8, .rw, 24⟩, ⟨7, 0, .rw, 24⟩]⟩,
   ⟨0x510, 1, 0, [⟨16, 0, .rw, 1000⟩]⟩,
   ⟨0x540, 8, 8, [⟨63, 63, .rw, 0⟩, ⟨55, 26, .rw, 0⟩, ⟨23, 0, .rw, 9236⟩]⟩,
   ⟨0x580, 1, 0, [⟨22, 16, .ro, 0⟩, ⟨14, 8, .rw, 1⟩, ⟨3, 3, .w1c, 0⟩, ⟨2, 2, .w1c, 0⟩, ⟨1, 1, .w1s, 0⟩, ⟨0, 0, .rw, 0⟩]⟩,
   ⟨0x588, 1, 0, [⟨63, 0, .rw, 0⟩]⟩,
   ⟨0x590, 1, 0, [⟨31, 0, .rw, 1000000⟩]⟩,
   ⟨0x600, 64, 8, [⟨39, 32, .rw, 255⟩, ⟨31, 0, .rw, 1000000⟩]⟩] ++
  [⟨0x800, 1, 0, [⟨7, 6, .rw, 0⟩, ⟨5, 2, .rw, 0⟩, ⟨0, 0, .rw, 0⟩]⟩,
   ⟨0x808, 1, 0, [⟨63, 32, .rc, 0⟩, ⟨31, 16, .rc, 0⟩, ⟨15, 4, .ro, 0⟩, ⟨2, 0, .ro, 0⟩]⟩,
   ⟨0x810, 1, 0, [⟨4, 3, .rw, 2⟩, ⟨2, 2, .rw, 0⟩, ⟨1, 1, .rw, 1⟩, ⟨0, 0, .rw, 0⟩]⟩,
   ⟨0x20, 1, 0, [⟨0, 0, .w1c, 0⟩]⟩]

/-- The registers of the Sifter page. -/
def regsSft : List RegDesc :=
  [⟨0x20, 1, 0, [⟨9, 9, .w1c, 0⟩, ⟨8, 8, .w1c, 0⟩, ⟨7, 7, .w1c, 0⟩, ⟨6, 6, .w1c, 0⟩, ⟨5, 5, .w1c, 0⟩, ⟨4, 4, .w1c, 0⟩, ⟨3, 3, .w1c, 0⟩, ⟨2, 2, .w1c, 0⟩, ⟨1, 1, .w1c, 0⟩, ⟨0, 0, .w1c, 0⟩]⟩,
   ⟨0x48, 1, 0, [⟨63, 48, .ro, 0⟩, ⟨47, 40, .ro, 0⟩, ⟨39, 36, .ro, 0⟩, ⟨30, 24, .ro, 0⟩, ⟨23, 0, .ro, 0⟩]⟩,
   ⟨0x50, 1, 0, [⟨63, 0, .ro, 0⟩]⟩,
   ⟨0x58, 1, 0, [⟨63, 0, .ro, 0⟩]⟩,
   ⟨0x100, 4, 8, [⟨11, 10, .rw, 1⟩, ⟨8, 8, .rw, 0⟩, ⟨6, 0, .rw, 64⟩]⟩,
   ⟨0x140, 16, 8, [⟨63, 32, .ro, 0⟩, ⟨28, 16, .ro, 0⟩, ⟨15, 8, .ro, 0⟩, ⟨7, 4, .ro, 0⟩, ⟨0, 0, .ro, 0⟩]⟩,
   ⟨0x1C0, 1, 0, [⟨3, 0, .rw, 0⟩]⟩,
   ⟨0x1C8, 1, 0, [⟨47, 32, .ro, 0⟩, ⟨23, 15, .ro, 0⟩, ⟨14, 8, .ro, 0⟩, ⟨5, 0, .ro, 0⟩]⟩,
   ⟨0x1D0, 1, 0, [⟨63, 0, .rc, 0⟩]⟩,
   ⟨0x200, 2, 32, [⟨63, 12, .rw, 0⟩]⟩,
   ⟨0x208, 2, 32, [⟨63, 32, .ro, 0⟩, ⟨8, 4, .rw, 4⟩, ⟨1, 1, .rw, 0⟩, ⟨0, 0, .rw, 0⟩]⟩,
   ⟨0x210, 2, 32, [⟨63, 3, .rw, 0⟩]⟩] ++
  [⟨0x218, 2, 32, [⟨16, 16, .rw, 0⟩, ⟨15, 7, .rw, 0⟩, ⟨5, 0, .rw, 0⟩]⟩,
   ⟨0x300, 16, 8, [⟨29, 16, .rw, 0⟩, ⟨12, 0, .rw, 0⟩]⟩]

/-- The registers of the collective engine page. -/
def regsColl : List RegDesc :=
  [⟨0x20, 1, 0, [⟨10, 10, .w1c, 0⟩, ⟨9, 9, .w1c, 0⟩, ⟨8, 8, .w1c, 0⟩, ⟨7, 7, .w1c, 0⟩, ⟨6, 6, .w1c, 0⟩, ⟨5, 5, .w1c, 0⟩, ⟨4, 4, .w1c, 0⟩, ⟨3, 3, .w1c, 0⟩, ⟨2, 2, .w1c, 0⟩, ⟨1, 1, .w1c, 0⟩, ⟨0, 0, .w1c, 0⟩]⟩,
   ⟨0x48, 1, 0, [⟨63, 0, .ro, 0⟩]⟩,
   ⟨0x50, 1, 0, [⟨63, 52, .ro, 0⟩, ⟨51, 51, .ro, 0⟩, ⟨50, 47, .ro, 0⟩, ⟨43, 32, .ro, 0⟩, ⟨23, 0, .ro, 0⟩]⟩,
   ⟨0x58, 1, 0, [⟨63, 0, .ro, 0⟩]⟩,
   ⟨0x100, 1, 0, [⟨39, 32, .rw, 4⟩, ⟨31, 16, .rw, 1000⟩, ⟨15, 0, .rw, 100⟩]⟩,
   ⟨0x108, 1, 0, [⟨63, 0, .rw, 0⟩]⟩,
   ⟨0x110, 1, 0, [⟨63, 0, .ro, 0⟩]⟩,
   ⟨0x120, 4, 16, [⟨63, 0, .ro, 0⟩]⟩,
   ⟨0x128, 4, 16, [⟨63, 52, .ro, 0⟩, ⟨51, 39, .ro, 0⟩, ⟨38, 36, .ro, 0⟩, ⟨35, 24, .ro, 0⟩, ⟨23, 0, .ro, 0⟩]⟩]

/-- The registers of the Pantry page. -/
def regsPnt : List RegDesc :=
  [⟨0x20, 1, 0, [⟨8, 8, .w1c, 0⟩, ⟨7, 7, .w1c, 0⟩, ⟨6, 6, .w1c, 0⟩, ⟨5, 5, .w1c, 0⟩, ⟨4, 4, .w1c, 0⟩, ⟨3, 3, .w1c, 0⟩, ⟨2, 2, .w1c, 0⟩, ⟨1, 1, .w1c, 0⟩, ⟨0, 0, .w1c, 0⟩]⟩,
   ⟨0x48, 1, 0, [⟨63, 56, .ro, 0⟩, ⟨55, 52, .ro, 0⟩, ⟨51, 50, .ro, 0⟩, ⟨49, 49, .ro, 0⟩, ⟨35, 32, .ro, 0⟩, ⟨31, 0, .ro, 0⟩]⟩,
   ⟨0x50, 1, 0, [⟨63, 0, .ro, 0⟩]⟩,
   ⟨0x58, 1, 0, []⟩,
   ⟨0x100, 1, 0, [⟨15, 9, .rw, 0⟩, ⟨0, 0, .rw, 0⟩]⟩,
   ⟨0x108, 1, 0, [⟨63, 30, .rw, 0⟩]⟩,
   ⟨0x110, 1, 0, [⟨63, 20, .rw, 0⟩]⟩,
   ⟨0x118, 4, 8, [⟨59, 40, .rw, 0⟩, ⟨39, 20, .rw, 0⟩, ⟨19, 0, .rw, 0⟩]⟩,
   ⟨0x138, 1, 0, [⟨41, 29, .rw, 512⟩, ⟨28, 16, .rw, 256⟩, ⟨15, 0, .rw, 100⟩]⟩,
   ⟨0x140, 1, 0, [⟨63, 32, .rc, 0⟩, ⟨31, 16, .rw, 1000⟩, ⟨1, 1, .rw, 0⟩, ⟨0, 0, .rw, 0⟩]⟩,
   ⟨0x148, 1, 0, [⟨33, 32, .ro, 0⟩, ⟨31, 0, .ro, 0⟩]⟩,
   ⟨0x150, 1, 0, [⟨63, 52, .ro, 0⟩, ⟨51, 38, .ro, 0⟩, ⟨0, 0, .ro, 0⟩]⟩] ++
  [⟨0x200, 16, 8, [⟨31, 16, .rw, 0⟩, ⟨0, 0, .rw, 0⟩]⟩,
   ⟨0x300, 64, 8, [⟨62, 42, .rw, 2097151⟩, ⟨41, 21, .rw, 2097151⟩, ⟨20, 0, .rw, 2097151⟩]⟩,
   ⟨0x500, 64, 8, [⟨63, 62, .ro, 0⟩, ⟨31, 0, .ro, 0⟩]⟩]

/-- The registers of the switch core page. -/
def regsSw : List RegDesc :=
  [⟨0x20, 1, 0, [⟨3, 3, .w1c, 0⟩, ⟨2, 2, .w1c, 0⟩, ⟨1, 1, .w1c, 0⟩, ⟨0, 0, .w1c, 0⟩]⟩,
   ⟨0x48, 1, 0, [⟨63, 62, .ro, 0⟩, ⟨61, 59, .ro, 0⟩, ⟨58, 47, .ro, 0⟩, ⟨31, 16, .ro, 0⟩, ⟨15, 0, .ro, 0⟩]⟩,
   ⟨0x100, 16, 8, [⟨36, 36, .rw, 0⟩, ⟨35, 31, .rw, 0⟩, ⟨30, 24, .rw, 0⟩, ⟨23, 22, .rw, 0⟩, ⟨21, 17, .rw, 0⟩, ⟨16, 10, .rw, 0⟩, ⟨9, 8, .rw, 0⟩, ⟨7, 0, .rw, 0⟩]⟩,
   ⟨0x180, 1, 0, [⟨31, 16, .rw, 50⟩, ⟨8, 0, .rw, 128⟩]⟩]

/-- The registers of the HBM stack page. -/
def regsStk : List RegDesc :=
  [⟨0x20, 1, 0, [⟨7, 7, .w1c, 0⟩, ⟨6, 6, .w1c, 0⟩, ⟨5, 5, .w1c, 0⟩, ⟨4, 4, .w1c, 0⟩, ⟨3, 3, .w1c, 0⟩, ⟨2, 2, .w1c, 0⟩, ⟨1, 1, .w1c, 0⟩, ⟨0, 0, .w1c, 0⟩]⟩,
   ⟨0x48, 1, 0, [⟨63, 58, .ro, 0⟩, ⟨57, 56, .ro, 0⟩, ⟨39, 0, .ro, 0⟩]⟩,
   ⟨0x50, 1, 0, [⟨63, 56, .ro, 0⟩, ⟨55, 47, .ro, 0⟩, ⟨46, 35, .ro, 0⟩]⟩,
   ⟨0x58, 1, 0, [⟨15, 8, .ro, 0⟩, ⟨7, 0, .ro, 0⟩]⟩,
   ⟨0x100, 1, 0, [⟨47, 40, .ro, 0⟩, ⟨33, 29, .ro, 0⟩, ⟨28, 28, .ro, 0⟩, ⟨21, 17, .ro, 0⟩, ⟨16, 16, .ro, 0⟩, ⟨2, 0, .ro, 0⟩]⟩,
   ⟨0x108, 1, 0, [⟨32, 32, .w1s, 0⟩, ⟨31, 27, .rw, 0⟩, ⟨15, 0, .rw, 24⟩]⟩]

/-- The registers of the memory control page. -/
def regsMctl : List RegDesc :=
  [⟨0x100, 1, 0, [⟨1, 1, .rw, 0⟩, ⟨0, 0, .rw, 1⟩]⟩,
   ⟨0x108, 1, 0, [⟨15, 0, .rw, 8⟩]⟩,
   ⟨0x20, 1, 0, [⟨1, 1, .w1c, 0⟩, ⟨0, 0, .w1c, 0⟩]⟩]

/-- The registers of the fabric routing page. -/
def regsFab : List RegDesc :=
  [⟨0x20, 1, 0, [⟨6, 6, .w1c, 0⟩, ⟨5, 5, .w1c, 0⟩, ⟨4, 4, .w1c, 0⟩, ⟨3, 3, .w1c, 0⟩, ⟨2, 2, .w1c, 0⟩, ⟨1, 1, .w1c, 0⟩, ⟨0, 0, .w1c, 0⟩]⟩,
   ⟨0x48, 1, 0, [⟨63, 57, .ro, 0⟩, ⟨56, 55, .ro, 0⟩, ⟨54, 51, .ro, 0⟩, ⟨50, 48, .ro, 0⟩]⟩,
   ⟨0x100, 1, 0, [⟨27, 24, .rw, 0⟩, ⟨23, 20, .rw, 0⟩, ⟨19, 16, .rw, 0⟩, ⟨11, 0, .rw, 0⟩]⟩,
   ⟨0x108, 1, 0, [⟨63, 0, .rw, 0⟩]⟩,
   ⟨0x110, 1, 0, [⟨31, 30, .rw, 0⟩, ⟨29, 28, .rw, 0⟩, ⟨27, 26, .rw, 0⟩, ⟨25, 24, .rw, 0⟩, ⟨23, 22, .rw, 0⟩, ⟨21, 20, .rw, 0⟩, ⟨19, 18, .rw, 0⟩, ⟨17, 16, .rw, 0⟩, ⟨15, 14, .rw, 0⟩, ⟨13, 12, .rw, 0⟩, ⟨11, 10, .rw, 0⟩, ⟨9, 8, .rw, 0⟩, ⟨7, 6, .rw, 0⟩, ⟨5, 4, .rw, 0⟩, ⟨3, 2, .rw, 0⟩, ⟨1, 0, .rw, 0⟩]⟩,
   ⟨0x118, 1, 0, [⟨23, 16, .rw, 16⟩, ⟨15, 15, .rw, 0⟩, ⟨14, 9, .rw, 6⟩, ⟨8, 3, .rw, 6⟩, ⟨2, 2, .rw, 0⟩, ⟨1, 1, .rw, 0⟩, ⟨0, 0, .rw, 0⟩]⟩,
   ⟨0x120, 1, 0, [⟨47, 0, .rw, 0⟩]⟩,
   ⟨0x128, 1, 0, [⟨48, 42, .rw, 8⟩, ⟨41, 35, .rw, 8⟩, ⟨34, 28, .rw, 8⟩, ⟨27, 21, .rw, 8⟩, ⟨20, 14, .rw, 8⟩, ⟨13, 7, .rw, 8⟩, ⟨6, 0, .rw, 8⟩]⟩,
   ⟨0x180, 2, 24, [⟨63, 0, .ro, 0⟩]⟩,
   ⟨0x188, 2, 24, [⟨63, 0, .ro, 0⟩]⟩,
   ⟨0x190, 2, 24, [⟨63, 0, .ro, 0⟩]⟩,
   ⟨0x400, 96, 8, [⟨31, 28, .rw, 0⟩, ⟨27, 27, .rw, 0⟩, ⟨23, 23, .rw, 0⟩, ⟨22, 16, .rw, 0⟩, ⟨15, 15, .rw, 0⟩, ⟨14, 8, .rw, 0⟩]⟩]

/-- The registers of a page: its own, then the common header (an own register hides the header's). -/
def pageRegs : Page → List RegDesc
  | .ref => regsRef ++ hdrRegs
  | .cfg => regsCfg ++ hdrRegs
  | .prf => regsPrf ++ hdrRegs
  | .clk => regsClk ++ hdrRegs
  | .sec => regsSec ++ hdrRegs
  | .sb => regsSb ++ hdrRegs
  | .hud => regsHud ++ hdrRegs
  | .hif => regsHif ++ hdrRegs
  | .die => regsDie ++ hdrRegs
  | .blk => regsBlk ++ hdrRegs
  | .port => regsPort ++ hdrRegs
  | .sft => regsSft ++ hdrRegs
  | .coll => regsColl ++ hdrRegs
  | .pnt => regsPnt ++ hdrRegs
  | .sw => regsSw ++ hdrRegs
  | .stk => regsStk ++ hdrRegs
  | .mctl => regsMctl ++ hdrRegs
  | .fab => regsFab ++ hdrRegs

/-- The reset value of ERR_SEV: two bits for each error, 0b00 corrected, 0b01 contained, 0b10 fatal (R558). -/
def sevReset : Page → Nat
  | .ref => 0x55540
  | .cfg => 0x0
  | .prf => 0x910
  | .clk => 0x690
  | .sec => 0x5000
  | .sb => 0x50
  | .hud => 0x0
  | .hif => 0x1450
  | .die => 0x150
  | .blk => 0x15555554
  | .port => 0x0
  | .sft => 0x5554
  | .coll => 0x155550
  | .pnt => 0x24510
  | .sw => 0x50
  | .stk => 0x6440
  | .mctl => 0x0
  | .fab => 0x1540

/-- The unit type T of a page (R558, R560). -/
def Page.type : Page → Nat
  | .ref => 0x1
  | .cfg => 0x2
  | .prf => 0x3
  | .clk => 0x4
  | .sec => 0x5
  | .sb => 0x6
  | .hud => 0x7
  | .hif => 0x8
  | .die => 0x10
  | .blk => 0x11
  | .port => 0x20
  | .sft => 0x21
  | .coll => 0x22
  | .pnt => 0x23
  | .sw => 0x24
  | .stk => 0x30
  | .mctl => 0x31
  | .fab => 0x40

/-- BAR0 offset of instance 0 of a page (R560). -/
def Page.base : Page → Nat
  | .ref => 0x0
  | .cfg => 0x1000
  | .prf => 0x2000
  | .clk => 0x3000
  | .sec => 0x4000
  | .sb => 0x5000
  | .hud => 0x6000
  | .hif => 0x7000
  | .die => 0x100000
  | .blk => 0x1000000
  | .port => 0x2000000
  | .sft => 0x2100000
  | .coll => 0x2200000
  | .pnt => 0x2300000
  | .sw => 0x2304000
  | .stk => 0x2400000
  | .mctl => 0x2410000
  | .fab => 0x2500000

/-- Bytes from one instance of a page to the next (R560). -/
def Page.stride : Page → Nat
  | .ref => 0x0
  | .cfg => 0x0
  | .prf => 0x0
  | .clk => 0x0
  | .sec => 0x0
  | .sb => 0x0
  | .hud => 0x0
  | .hif => 0x0
  | .die => 0x20000
  | .blk => 0x1000
  | .port => 0x1000
  | .sft => 0x1000
  | .coll => 0x1000
  | .pnt => 0x0
  | .sw => 0x0
  | .stk => 0x1000
  | .mctl => 0x0
  | .fab => 0x0

/-- Instances of a page on grade -A (R560). -/
def Page.count : Page → Nat
  | .ref => 1
  | .cfg => 1
  | .prf => 1
  | .clk => 1
  | .sec => 1
  | .sb => 1
  | .hud => 1
  | .hif => 1
  | .die => 32
  | .blk => 512
  | .port => 128
  | .sft => 32
  | .coll => 4
  | .pnt => 1
  | .sw => 1
  | .stk => 16
  | .mctl => 1
  | .fab => 1

/-- Every kind of page. -/
def Page.all : List Page :=
  [.ref, .cfg, .prf, .clk, .sec, .sb, .hud, .hif, .die, .blk, .port, .sft, .coll, .pnt, .sw, .stk, .mctl, .fab]

/-- BAR0 offset of an instance of a page (R560). -/
def Page.at (p : Page) (i : Nat) : Nat := p.base + p.stride * i

/-- The page, its instance and the offset within it that a BAR0 offset names (R560). -/
def pageOf (a : Nat) : Option (Page × Nat × Nat) :=
  Page.all.findSome? (fun p =>
    if p.stride = 0 then (if p.base ≤ a ∧ a < p.base + 0x1000 then some (p, 0, a - p.base) else none)
    else
      let i := (a - p.base) / p.stride
      if p.base ≤ a ∧ i < p.count ∧ (a - p.base) % p.stride < 0x1000 then some (p, i, (a - p.base) % p.stride) else none)

/-- The register that holds an offset of a page, and which of its repeats. -/
def findReg (p : Page) (off : Nat) : Option (RegDesc × Nat) :=
  (pageRegs p).findSome? (fun d =>
    if d.cnt ≤ 1 then (if off = d.off then some (d, 0) else none)
    else if d.off ≤ off ∧ (off - d.off) % d.stride = 0 ∧ (off - d.off) / d.stride < d.cnt then
      some (d, (off - d.off) / d.stride)
    else none)

/-- The value a list of fields gives at reset. -/
def fieldsReset (fs : List RField) : Nat := fs.foldl (fun v f => v + f.reset * 2 ^ f.lo) 0

/-- The reset value of the programmed bits of a register: the tables', with ERR_SEV by page, SFT_ORDER's own port die (R272)
and CLK_MUX0's monitor oscillator (R535). -/
def regReset (p : Page) (inst off : Nat) : Nat :=
  if off = 0x30 then sevReset p
  else match p with
  | .sft => if off = 0x1C0 then 2 ^ (inst / 8) else match findReg p off with | some (d, _) => fieldsReset d.fields | none => 0
  | .clk => if off = 0x400 then 2 else match findReg p off with | some (d, _) => fieldsReset d.fields | none => 0
  | _ => match findReg p off with | some (d, _) => fieldsReset d.fields | none => 0

end Sys2Proof.Machine
end

