-- ==== Sys2Proof/Machine/Sparse.lean ====
section
/-! DEFINITION. Byte memories and keyed tables: lists of (key, value) pairs in one canonical form, keys strictly rising and no
entry equal to what an unlisted key reads as, so that equal contents are equal data. -/

namespace Sys2Proof.Machine

/-- A byte memory: (address, byte) pairs, addresses strictly rising, no zero byte listed. An unlisted address reads 0. -/
abbrev Mem := List (Nat × BitVec 8)

/-- A table: (key, value) pairs, keys strictly rising, no value listed that equals the table's default. -/
abbrev Sparse (α : Type) := List (Nat × α)

/-- The canonical form: keys strictly rising and no listed byte zero. -/
def Mem.wf (m : Mem) : Bool :=
  decide (m.Pairwise (fun a b => a.1 < b.1)) && m.all (fun c => c.2 != 0)

/-- The byte at an address. -/
def Mem.get : Mem → Nat → Byte
  | [], _ => 0
  | c :: m, a => if c.1 = a then c.2 else Mem.get m a

/-- `n` bytes from an address. -/
def Mem.read (m : Mem) (a n : Nat) : List Byte := (List.range n).map (fun i => m.get (a + i))

/-- The little-endian number in `n` bytes from an address (R11). -/
def Mem.readNat (m : Mem) (a n : Nat) : Nat := leNat (m.read a n)

/-- The cells of the non-zero bytes of `bs` laid from address `a`. -/
def Mem.cells : Nat → List Byte → Mem
  | _, [] => []
  | a, b :: bs => if b = 0 then Mem.cells (a + 1) bs else (a, b) :: Mem.cells (a + 1) bs

/-- The memory with `bs` written from address `a`; it keeps the canonical form. -/
def Mem.write (m : Mem) (a : Nat) (bs : List Byte) : Mem :=
  m.filter (fun c => c.1 < a) ++ Mem.cells a bs ++ m.filter (fun c => a + bs.length ≤ c.1)

/-- The memory with `n` bytes of the number `v` written from address `a`, lowest byte first (R11). -/
def Mem.writeNat (m : Mem) (a n v : Nat) : Mem := m.write a (leBytes n v)

/-- The memory with `n` bytes from address `a` zeroed. -/
def Mem.zero (m : Mem) (a n : Nat) : Mem := m.filter (fun c => c.1 < a) ++ m.filter (fun c => a + n ≤ c.1)

/-- The bytes of the range that are not zero, listed. -/
def Mem.window (m : Mem) (a n : Nat) : Mem := m.filter (fun c => a ≤ c.1 && c.1 < a + n)

/-- The value at a key, or the table's default. -/
def Sparse.get {α : Type} (d : α) : Sparse α → Nat → α
  | [], _ => d
  | c :: m, k => if c.1 = k then c.2 else Sparse.get d m k

/-- The table with the value at a key replaced; a value equal to the default is not listed. -/
def Sparse.set {α : Type} [DecidableEq α] (d : α) (m : Sparse α) (k : Nat) (v : α) : Sparse α :=
  m.filter (fun c => c.1 < k) ++ (if v = d then [] else [(k, v)]) ++ m.filter (fun c => k < c.1)

/-- The value at a key, if the table lists one. -/
def Sparse.get? {α : Type} : Sparse α → Nat → Option α
  | [], _ => none
  | c :: m, k => if c.1 = k then some c.2 else Sparse.get? m k

/-- The table with the value at a key listed, whatever it is. -/
def Sparse.put {α : Type} (m : Sparse α) (k : Nat) (v : α) : Sparse α :=
  m.filter (fun c => c.1 < k) ++ [(k, v)] ++ m.filter (fun c => k < c.1)

/-- The table without the key. -/
def Sparse.del {α : Type} (m : Sparse α) (k : Nat) : Sparse α := m.filter (fun c => c.1 != k)

/-- The keys listed. -/
def Sparse.keys {α : Type} (m : Sparse α) : List Nat := m.map Prod.fst

/-- A number of a table whose default is 0. -/
def Sparse.num (m : Sparse Nat) (k : Nat) : Nat := Sparse.get 0 m k

/-- A table of numbers with `n` written at a key. -/
def Sparse.setNum (m : Sparse Nat) (k n : Nat) : Sparse Nat := Sparse.set 0 m k n

/-- A table of numbers with `n` added at a key. -/
def Sparse.addNum (m : Sparse Nat) (k n : Nat) : Sparse Nat := m.setNum k (m.num k + n)

/-- A number added to a list without repeats. -/
def addTo (l : List Nat) (a : Nat) : List Nat := if l.contains a then l else l ++ [a]

end Sys2Proof.Machine
end

