-- ==== Sys2Proof/Machine/State.lean ====
section
/-! DEFINITION. The state of the module: every register, buffer, counter, mode and pin the spec names, as plain data, and
the queue of waiting commands; the module right after reset; and `State.keep`, which says once which parts of the state a
command may change. -/

namespace Sys2Proof.Machine

/-- Why the machine would stop with a fault. No command of this part stops the module: every error the spec names is
recorded in the state and the module goes on, so no meaning raises this. It is safe: nothing rests on it. -/
inductive Fault where
  /-- Raised by no command. -/
  | noneRaised
deriving DecidableEq, Repr

/-- Why a command would be refused. -/
inductive Refusal where
  /-- A command that has no meaning in this model yet, by its mnemonic. Raised by `exec` alone; safe, since it claims nothing. -/
  | notModelled (mnemonic : String)
deriving DecidableEq, Repr

/-- What manufacture fixed in this part: nothing a command does changes it. -/
structure Hw where
  /-- grade -B instead of grade -A (1 bit; R1 (00), R47 (01)). Reset: DESIGN CHOICE false, grade -A (log 5). -/
  gradeB : Bool := false
  /-- physical blocks fused off: bit 17 d + b for block b of die d (544 bits; R50 (01)). Reset: DESIGN CHOICE no block fused off (log 5). -/
  fused : Nat := 0
  /-- SERIAL of the manufacturing record (128 bits; R494 (14), R593 (17)). Reset: DESIGN CHOICE 0 (log 5). -/
  serial : Nat := 0
  /-- revocation fuses of the two Ed25519 signing keys (2 fuses; R481 (14)). Reset: DESIGN CHOICE 0 (log 5). -/
  revokedEd : Nat := 0
  /-- revocation fuses of the two ML-DSA-65 signing keys (2 fuses; R481 (14)). Reset: DESIGN CHOICE 0 (log 5). -/
  revokedMl : Nat := 0
  /-- write-protected manufacturing record (4 KiB; R591, R593 (17)). Reset: DESIGN CHOICE zero bytes (log 5). -/
  mfgRecord : Mem := []
  /-- Ed25519 firmware signing public keys in the boot ROM, by index (2 x 32 bytes; R481 (14)). Reset: DESIGN CHOICE two keys (log 10). -/
  romEd : List (List (BitVec 8)) := [Config.bootKeyEd 0, Config.bootKeyEd 1]
  /-- ML-DSA-65 firmware signing public keys in the boot ROM, by index (2 x 1,952 bytes; R481 (14)). Reset: DESIGN CHOICE two keys (log 10). -/
  romMl : List (List (BitVec 8)) := [Config.bootKeyMl0, Config.bootKeyMl1]
  /-- X.509 certificate of the Ed25519 identity key with its chain, in module flash (bytes; R491 (14)). Reset: a free value: the spec names no bytes (log 2). -/
  certEd : List (BitVec 8) := Config.certChain 0
  /-- X.509 certificate of the ML-DSA-65 identity key with its chain, in module flash (bytes; R491 (14)). Reset: a free value: the spec names no bytes (log 2). -/
  certMl : List (BitVec 8) := Config.certChain 1
deriving DecidableEq, Repr

/-- One set of the sync dump registers (R216 to R219): the host's, or the management interface's. -/
structure SdSet where
  /-- SD_SEL (64 bits; R217 (06)). Reset: 0. -/
  sel : BitVec 64 := 0
  /-- SD_VALUE (64 bits; R218 (06)). Reset: 0. -/
  value : BitVec 64 := 0
  /-- SD_INFO (64 bits; R218 (06)). Reset: 0. -/
  info : BitVec 64 := 0
  /-- SD_TARGET (64 bits; R219 (06)). Reset: 0. -/
  target : BitVec 64 := 0
  /-- a fetch is under way (1 bit; R217 (06)). Reset: false. -/
  busy : Bool := false
deriving DecidableEq, Repr

/-- The Referee island: power, pins, reset and start-up state, and the PCIe function's own configuration bits. -/
structure Ref where
  /-- the 54 V entry is within its range and its switch closed (1 bit; R613 (18)). Reset: DESIGN CHOICE true: the state is that after a power-applied reset (log 3). -/
  p54 : Bool := true
  /-- AUX_12V is applied (1 bit; R608, R609 (18)). Reset: DESIGN CHOICE true (log 3). -/
  aux12 : Bool := true
  /-- the Referee island has power (1 bit; R609 (18)). Reset: true. -/
  island : Bool := true
  /-- the core supplies are up (1 bit; R516 (15), R579 (17), R608 (18)). Reset: true. -/
  coresOn : Bool := true
  /-- PWRGD (1 pin; R608 (18)). Reset: true. -/
  pwrgd : Bool := true
  /-- FAULT_N is asserted (1 pin; R573 (17)). Reset: false, not asserted (R566). -/
  faultN : Bool := false
  /-- THERMTRIP_N is asserted (1 pin; R516 (15)). Reset: false, not asserted (R566). -/
  thermtripN : Bool := false
  /-- EPO_N is held asserted (1 pin; R610 (18)). Reset: DESIGN CHOICE false (log 3). -/
  epoPin : Bool := false
  /-- RF_STATE.EPO (1 bit; R579, R597 (17)). Reset: false. -/
  epo : Bool := false
  /-- a full reset has been caused and the start-up has not yet run (1 bit; R565, R567 (17)). Reset: true. -/
  inReset : Bool := true
  /-- PG_STAT.READY of the Referee page (1 bit; R558 (16), R567 (17)). Reset: false. -/
  ready : Bool := false
  /-- the PCIe link is up and configuration space open (1 bit; R565, R567 (17)). Reset: false. -/
  linkUp : Bool := false
  /-- RF_STATE.RSTCAUSE (8 bits; R565 (17)). Reset: DESIGN CHOICE 0x01, 54 V power applied (log 3). -/
  rstCause : Nat := 1
  /-- RF_STATE.STAGE (8 bits; R597 (17)). Reset: 0. -/
  stage : Nat := 0
  /-- RF_STATE.FAULTED (1 bit; R573 (17)). Reset: false. -/
  faulted : Bool := false
  /-- RF_MTEST_STAT.RUNNING (1 bit; R597 (17)). Reset: false. -/
  mtRunning : Bool := false
  /-- stacks named by the test under way (16 bits; R570 (17)). Reset: 0. -/
  mtStacks : Nat := 0
  /-- RF_MTEST_STAT.DONEMASK (16 bits; R597 (17)). Reset: 0. -/
  mtDone : Nat := 0
  /-- RF_MTEST_STAT.FAILMASK (16 bits; R597 (17)). Reset: 0. -/
  mtFail : Nat := 0
  /-- RF_MTEST_STAT.ABORTED (1 bit; R569 (17)). Reset: false. -/
  mtAborted : Bool := false
  /-- RF_MTEST_STAT.PROGRESS (8 bits; R597 (17)). Reset: 0. -/
  mtProgress : Nat := 0
  /-- the sync dump registers of the Referee page (5 fields; R216 (06)). Reset: all 0. -/
  sdHost : SdSet := {}
  /-- the management interface's own set (5 fields; R216 (06)). Reset: all 0. -/
  sdMgmt : SdSet := {}
  /-- Bus Master Enable (1 bit; R539 (16)). Reset: PRESUMED false, the PCI Express reset value (log 6). -/
  busMaster : Bool := false
  /-- Memory Space Enable (1 bit; R539 (16)). Reset: PRESUMED false, the PCI Express reset value (log 6). -/
  memSpace : Bool := false
  /-- the function is in D3hot (1 bit; R539 (16)). Reset: PRESUMED false, D0 (log 6). -/
  d3hot : Bool := false
  /-- log2 of the BAR2 size in GiB (3 bits; R538 (16)). Reset: 4, that is 16 GiB. -/
  bar2Log2 : Nat := 4
deriving DecidableEq, Repr

/-- Module time (R341 to R347). -/
structure Time where
  /-- module time in ns (64 bits; R341, R347 (09)). Reset: 0. -/
  now : Nat := 0
  /-- MT_STAT.UNTIMED (1 bit; R341, R347 (09)). Reset: false. -/
  untimed : Bool := false
  /-- MT_STAT.SYNC (1 bit; R341, R347 (09)). Reset: false. -/
  sync : Bool := false
  /-- MT_STAT.STEPS (16 bits; R341, R347 (09)). Reset: 0. -/
  steps : Nat := 0
  /-- MT_STAT.OFFSET (32 bits signed; R347 (09)). Reset: 0. -/
  offset : Int := 0
  /-- the slew in force, within 500 ppm (signed ppm; R341 (09)). Reset: 0. -/
  slewPpm : Int := 0
  /-- origin time of the last Sync, from Follow_Up (64 bits; R343 (09)). Reset: DESIGN CHOICE 0 (log 4). -/
  ptpT1 : Int := 0
  /-- receive time of the last Sync (64 bits; R343 (09)). Reset: DESIGN CHOICE 0 (log 4). -/
  ptpT2 : Int := 0
  /-- transmit time of the last Delay_Req (64 bits; R343 (09)). Reset: DESIGN CHOICE 0 (log 4). -/
  ptpT3 : Int := 0
  /-- mean path delay measured (ns; R343 (09)). Reset: DESIGN CHOICE 0 (log 4). -/
  ptpDelay : Int := 0
deriving DecidableEq, Repr

/-- One PLL (R520, R521, R535). -/
structure Pll where
  /-- CLK_PLLn.EN (1 bit; R535 (15)). Reset: false. -/
  en : Bool := false
  /-- CLK_PLLn.LOCKED (1 bit; R535 (15)). Reset: false. -/
  locked : Bool := false
  /-- CLK_PLLn.HOLDOVER (1 bit; R535 (15)). Reset: false. -/
  holdover : Bool := false
  /-- CLK_PLLn.UNLOCKED_SEEN (1 bit; R535 (15)). Reset: false. -/
  unlockedSeen : Bool := false
deriving DecidableEq, Repr

/-- One glitch-free clock multiplexer (R527, R535). -/
structure Mux where
  /-- CLK_MUXm.SRC (2 bits; R535 (15)). Reset: 0b00, and 0b10 for m = 0. -/
  src : Nat := 0
  /-- CLK_MUXm.PENDING (1 bit; R527 (15)). Reset: false. -/
  pending : Bool := false
  /-- the source a pending switch leaves (2 bits; R527 (15)). Reset: 0. -/
  old : Nat := 0
  /-- CLK_MUXm.STUCK (1 bit; R528 (15)). Reset: false. -/
  stuck : Bool := false
  /-- module time at which the switch hung, where a timestamp domain stays (ns; R528 (15)). Reset: none. -/
  stuckAt : Nat := 0
deriving DecidableEq, Repr

/-- The reference clock's monitor, the PLLs and the multiplexers. -/
structure Clk where
  /-- CLK_STAT.COAST (1 bit; R524 (15)). Reset: false. -/
  coast : Bool := false
  /-- CLK_STAT.SSC (1 bit; R535 (15)). Reset: false. -/
  ssc : Bool := false
  /-- CLK_STAT.SPREAD_PPM (16 bits; R535 (15)). Reset: 0. -/
  spreadPpm : Nat := 0
  /-- CLK_STAT.C0 (16 bits; R522 (15)). Reset: 0, not set. -/
  c0 : Nat := 0
  /-- CLK_STAT.LAST (16 bits; R535 (15)). Reset: 0. -/
  last : Nat := 0
  /-- the last monitor windows (up to 64 counts; R522, R523 (15)). Reset: empty. -/
  windows : List Nat := []
  /-- windows since C0 was last set (windows; R522 (15)). Reset: 0. -/
  c0Age : Nat := 0
  /-- CLK_TRIM (16 bits signed; R519 (15)). Reset: 0. -/
  trim : Int := 0
  /-- the monitor is out of use (1 bit; R526 (15)). Reset: false. -/
  monFailed : Bool := false
  /-- the PLLs by index (42; R520 (15)). Reset: every PLL off and unlocked. -/
  plls : Sparse Pll := []
  /-- the multiplexers by index (25; R535 (15)). Reset: SRC 0b10 for m = 0, 0b00 otherwise. -/
  muxes : Sparse Mux := [(0, { src := 2 })]
deriving DecidableEq, Repr

/-- One HBM4E stack and its LB4 (R419 to R448). -/
structure Stack where
  /-- MEM_STAT.STATE (3 bits; R448 (12)). Reset: 0b000 TRAINING. -/
  state : Nat := 0
  /-- MEM_STAT.FAILED (1 bit; R448 (12)). Reset: false. -/
  failed : Bool := false
  /-- MEM_STAT.FAILED_CH (5 bits; R448 (12)). Reset: 0. -/
  failedCh : Nat := 0
  /-- MEM_STAT.RETRAINING (1 bit; R448 (12)). Reset: false. -/
  retraining : Bool := false
  /-- MEM_STAT.RETRAIN_CH (5 bits; R448 (12)). Reset: 0. -/
  retrainCh : Nat := 0
  /-- consecutive failed retrains by channel (32 counts; R442 (12)). Reset: 0. -/
  retrainFails : Sparse Nat := []
  /-- lost-line table: device line numbers (up to 64 entries; R440 (12)). Reset: kept across a reset (R566); empty at power-on. -/
  lost : List Nat := []
  /-- dirty lines of the shared cache (line numbers; R426 (12)). Reset: empty. -/
  dirty : List Nat := []
  /-- uncorrectable 32-byte code words (word numbers; R422, R438 (12)). Reset: DESIGN CHOICE empty (log 4). -/
  bad : List Nat := []
  /-- the LB4 holds its requests while its PLL is unlocked (1 bit; R521 (15)). Reset: false. -/
  held : Bool := false
deriving DecidableEq, Repr

/-- An access to device memory that waits (R441, R521): one given to an LB4 as a command, or the host's through BAR2. -/
structure MemReq where
  /-- it writes (1 bit; R422 (12)). Reset: none. -/
  write : Bool := false
  /-- its device address (40 bits; R419 (12)). Reset: none. -/
  addr : Nat := 0
  /-- its length (bytes; R422 (12)). Reset: none. -/
  len : Nat := 0
  /-- what it writes, or an atomic's operand (bytes; R422 (12)). Reset: none. -/
  data : List (BitVec 8) := []
  /-- its AOP, if it is an atomic (8 bits; R428 (12)). Reset: none. -/
  aop : Option Nat := none
  /-- what the hardware makes of it (3 bits; R438 (12)). Reset: none. -/
  outcome : Nat := 0
  /-- of a BAR2 access, the SEQ of the next descriptor when it arrived (32 bits; R547 (16)). Reset: none. -/
  stamp : Option Nat := none
deriving DecidableEq, Repr

/-- The sixteen HBM stacks and their LB4 base dies. -/
structure MemSys where
  /-- the stacks (16; R419 (12)). Reset: each at its own reset. -/
  units : Sparse Stack := []
  /-- accesses of the host that wait, oldest first (accesses; R441 (12)). Reset: empty. -/
  queue : List MemReq := []
deriving DecidableEq, Repr

/-- The fences in force (R22 to R25, R50, R574). -/
structure FenceMap where
  /-- fenced blocks: bit 17 d + b for block b of die d (544 bits; R23, R50 (01)). Reset: 0 (R566). -/
  blocks : Nat := 0
  /-- dies with DSTATE FENCED (32 bits; R23, R50 (01), R574 (17)). Reset: 0 (R566). -/
  dies : Nat := 0
deriving DecidableEq, Repr

/-- A pinned flow of the route section (R33). -/
structure Pin where
  /-- FROM (8 bits; R33 (01)). Reset: none held. -/
  src : Nat := 0
  /-- TO (8 bits; R33 (01)). Reset: none held. -/
  dst : Nat := 0
  /-- VIA (up to 11 bytes; R33 (01)). Reset: none held. -/
  via : List Nat := []
deriving DecidableEq, Repr

/-- The configuration controller's placement state (R34 to R50, R625). -/
structure Place where
  /-- CFG_PLC_STAT.PSTATE (3 bits; R48 (01)). Reset: 0b000 EMPTY. -/
  pstate : Nat := 0
  /-- CFG_PLC_ID (64 bits; R49, R625 (01)). Reset: 0. -/
  id : Nat := 0
  /-- CFG_PLC_STAT.LOAD_TAG (32 bits; R48 (01)). Reset: 0. -/
  loadTag : Nat := 0
  /-- CFG_PLC_STAT.PROGRESS (8 bits; R48 (01)). Reset: 0. -/
  progress : Nat := 0
  /-- DIE_MASK of the placement (32 bits; R26 (01)). Reset: 0. -/
  dieMask : Nat := 0
  /-- SHAPE_BLOCKS of the placement (8 bits; R26 (01)). Reset: 0. -/
  shapeBlocks : Nat := 0
  /-- CFG_PROG_DIG0-3 (32 bytes; R49, R625 (01)). Reset: 0 (the empty list reads 0). -/
  progDig : List (BitVec 8) := []
  /-- CFG_WGT_DIG0-3 (32 bytes; R49, R625 (01)). Reset: 0 (the empty list reads 0). -/
  wgtDig : List (BitVec 8) := []
  /-- the mapping of the placement: 1 + physical block number by shape number (shape to physical block + 1; R40 (01)). Reset: empty. -/
  map : Sparse Nat := []
  /-- pinned flows (up to 1,024; R33 (01)). Reset: empty. -/
  pins : List Pin := []
  /-- CFG_DET.STRICT (1 bit; R456, R457 (13)). Reset: false. -/
  strict : Bool := false
  /-- CFG_DET.REQ (1 bit; R457 (13)). Reset: false. -/
  req : Bool := false
  /-- the PLACE_RETIRE under way (SEQ; R39 (01), R544 (16)). Reset: none. -/
  retireSeq : Option Nat := none
  /-- dies whose voltage domain failed or was switched off (32 bits; R218 (06), R516 (15)). Reset: 0. -/
  dieOff : Nat := 0
  /-- CFG_DIEd.TESTFAIL: bit 17 d + b for block b of die d (544 bits; R50 (01)). Reset: cleared; the start-up self-test decides it (R566). -/
  testfail : Nat := 0
deriving DecidableEq, Repr

/-- One total register (R141). -/
structure Total where
  /-- CLS: 0 finite, 1 plus infinity, 2 minus infinity, 3 NaN (2 bits; R141 (04)). Reset: exact +0 (R60). -/
  cls : Nat := 0
  /-- INV (1 bit; R141 (04)). Reset: false. -/
  inv : Bool := false
  /-- OVF (1 bit; R141 (04)). Reset: false. -/
  ovf : Bool := false
  /-- LOSS (1 bit; R141 (04)). Reset: false. -/
  loss : Bool := false
  /-- ZST (2 bits; R141 (04)). Reset: 0b00. -/
  zst : Nat := 0
  /-- VALUE in units of 2^-272 (569 bits signed; R141 (04)). Reset: 0. -/
  value : Int := 0
deriving DecidableEq, Repr

/-- One matrix cell (R58). -/
structure Cell where
  /-- V0-V31, byte i of Vn at 256 n + i (32 x 256 B; R58 (02)). Reset: 0 (R60). -/
  v : Mem := []
  /-- T0-T3 and their sidecars, byte i of Tn at 8448 n + i (4 x (8 KiB + 256 B); R58 (02)). Reset: 0 (R60). -/
  t : Mem := []
  /-- A0-A15 (16 x 64 bits; R58 (02)). Reset: 0 (R60). -/
  a : Sparse (BitVec 64) := []
  /-- MFMT.WFMT (4 bits; R58 (02)). Reset: 0 (R60). -/
  wfmt : Nat := 0
  /-- MFMT.AFMT (4 bits; R58 (02)). Reset: 0 (R60). -/
  afmt : Nat := 0
  /-- DRAIN_CNT (6 bits; R58 (02)). Reset: 0 (R60). -/
  drainCnt : Nat := 0
  /-- totals, column j row r at 64 j + r (4,096 x 576 bits; R58 (02), R141 (04)). Reset: exact +0 (R60). -/
  totals : Sparse Total := []
  /-- first beat at which the array takes a new MMA (beat number; R87 (02)). Reset: 0. -/
  arrayFree : Nat := 0
  /-- the beat after the last product of the matrix operations issued (beat number; R86 (02)). Reset: 0. -/
  lastProduct : Nat := 0
  /-- s of the cell's last DRAIN (beat number; R87 (02)). Reset: none. -/
  lastDrain : Option Nat := none
deriving DecidableEq, Repr

/-- One entry of the reduction state (R157). -/
structure RedEntry where
  /-- value (32 bits; R157 (04)). Reset: no entry. -/
  val : BitVec 32 := 0
  /-- position (32 bits; R157 (04)). Reset: no entry. -/
  pos : BitVec 32 := 0
  /-- order of the RMRG that merged it, for ties (issue order; R159 (04)). Reset: no entry. -/
  seq : Nat := 0
  /-- cell it came from, for ties (2 bits; R159 (04)). Reset: no entry. -/
  cell : Nat := 0
deriving DecidableEq, Repr

/-- The block reduction unit (R157). -/
structure Rdu where
  /-- K (5 bits; R157, R166 (04)). Reset: 1 at load. -/
  k : Nat := 1
  /-- MODE: 0 top-k, 1 min, 2 max, 3 unset (2 bits; R157, R166 (04)). Reset: unset. -/
  mode : Nat := 3
  /-- TYPE (1 bit; R157, R166 (04)). Reset: FP32. -/
  int32 : Bool := false
  /-- entries in rank order (up to 16; R157 (04)). Reset: empty. -/
  entries : List RedEntry := []
  /-- NAN_SEEN (1 bit; R157, R166 (04)). Reset: false. -/
  nanSeen : Bool := false
  /-- MODE as the issue stage has fixed it (2 bits; R158 (04)). Reset: unset. -/
  issMode : Nat := 3
  /-- TYPE as the issue stage has fixed it (1 bit; R158 (04)). Reset: FP32. -/
  issInt32 : Bool := false
deriving DecidableEq, Repr

/-- One entry of the counter table (R200). -/
structure CntEntry where
  /-- USED (1 bit; R200 (06)). Reset: false. -/
  used : Bool := false
  /-- REMOTE (1 bit; R200 (06)). Reset: false. -/
  remote : Bool := false
  /-- HOST (1 bit; R200 (06)). Reset: false. -/
  hostOk : Bool := false
  /-- COLL (1 bit; R200 (06)). Reset: false. -/
  coll : Bool := false
  /-- SRC_FIRST (9 bits; R200 (06)). Reset: 0. -/
  first : Nat := 0
  /-- SRC_LAST (9 bits; R200 (06)). Reset: 0. -/
  last : Nat := 0
deriving DecidableEq, Repr

/-- One sync counter (R198, R207). -/
structure Cnt where
  /-- the counter (64 bits; R198 (06)). Reset: 0. -/
  value : Nat := 0
  /-- the own issue stage's signals it sees and other agents do not yet (64 bits; R203 (06)). Reset: 0. -/
  ahead : Nat := 0
  /-- ABANDONED, with the shape number of the fenced block that caused it (shape number; R207, R209 (06)). Reset: none. -/
  abandoned : Option Nat := none
deriving DecidableEq, Repr

/-- What an operation in flight will write when it becomes visible (R84 to R86). -/
inductive PendKind where
  /-- bits lo to lo + len - 1 of a V register; `last` marks the write until which the register is pending (R93), `drain` one that a DRAIN makes (R156) -/
  | vreg (cell reg lo len val : Nat) (last drain : Bool)
  /-- a tile part 0-7, or the sidecar as part 8 (R620) -/
  | tile (cell tr part off : Nat) (bytes : List (BitVec 8))
  /-- an A register -/
  | areg (cell reg : Nat) (val : BitVec 64)
  /-- an S register -/
  | sreg (reg : Nat) (val : BitVec 64)
  /-- a loop counter -/
  | lc (reg val : Nat)
  /-- MFMT -/
  | mfmt (cell w a : Nat)
  /-- DRAIN_CNT -/
  | drainCnt (cell val : Nat)
  /-- a local signal: the own issue stage sees it when due; others once the stores due by `beat` are visible and `gate` DMA descriptors have ended (R203) -/
  | sig (cnt n beat gate : Nat)
  /-- the signal of a drain with SIG, at the end of the drain path, which does not advance while the block is held (R56, R152) -/
  | drainSig (cnt n beat gate : Nat)
  /-- a store to the block store; `off` its OFF field, `range` the bytes R93 counts -/
  | store (addr off : Nat) (bytes : List (BitVec 8)) (range : Nat)
  /-- an RMRG: (value, position, cell) of each lane -/
  | merge (vals : List (BitVec 32 × BitVec 32 × Nat)) (mode : Nat) (int32 : Bool) (seq : Nat)
  /-- an RCLR; it clears every merge issued before it (R162) -/
  | redClear (k seq : Nat)
  /-- the mask check of a compressed load that will find an overfull group (R186) -/
  | overfull (slot cell group lwoff step : Nat)
  /-- the flags a drain read (R151) -/
  | numFlag (cell : Nat) (ovf loss inv : Bool)
  /-- a matrix operation whose totals are not complete yet (R83, R89) -/
  | token
deriving DecidableEq, Repr

/-- One operation in flight in the block's fixed-latency pipelines. -/
structure Pend where
  /-- beat at which it becomes visible (beat number; R84 (02)). Reset: none in flight. -/
  due : Nat := 0
  /-- what it writes (-; R84 (02)). Reset: none in flight. -/
  kind : PendKind := .token
deriving DecidableEq, Repr

/-- A run accepted for a block and not yet started (R195). -/
structure RunReq where
  /-- the RUN command's SEQ, or none for vln.run (SEQ; R195 (06), R551 (16)). Reset: none. -/
  seq : Option Nat := none
  /-- TAG (32 bits; R551 (16)). Reset: none. -/
  tag : Nat := 0
  /-- entry offset (24 bits; R551 (16)). Reset: none. -/
  entry : Nat := 0
  /-- CHK (1 bit; R551 (16)). Reset: none. -/
  chk : Bool := false
  /-- DENSE (1 bit; R551 (16)). Reset: none. -/
  dense : Bool := false
  /-- STEP when STEP_SET = 1 (64 bits; R551 (16)). Reset: none. -/
  stepSet : Option Nat := none
  /-- CLASS (2 bits; R551 (16), R504 (15)). Reset: none. -/
  cls : Nat := 3
  /-- EST_W (16 bits; R551 (16)). Reset: none. -/
  estW : Nat := 0
  /-- module time at which it was accepted (ns; R508 (15)). Reset: none. -/
  isNew : Nat := 0
  /-- charge of a vln.run run once admitted, as OpenCmd.charge (1/7680 W; R504 (15)). Reset: none. -/
  charge : Nat := 0
deriving DecidableEq, Repr

/-- Why the issue stage holds (R56). -/
inductive Hold where
  /-- not held -/
  | none
  /-- an unsatisfied WAIT -/
  | wait (cnt : Nat) (target : Nat)
  /-- an unsatisfied HWAIT -/
  | hwait (line : Nat)
  /-- held by the Proofer -/
  | proofer
deriving DecidableEq, Repr

/-- Where a running command stands. -/
inductive Phase where
  /-- the next word is to issue -/
  | issue
  /-- n IDLE beats remain -/
  | idle (n : Nat)
  /-- n empty beats of MMAS remain, then the word's IDLE beats -/
  | mmas (n idle : Nat)
  /-- END has issued; n IDLE beats remain, then beats until nothing is in flight -/
  | ending (n : Nat)
deriving DecidableEq, Repr

/-- An operation a running command has issued and that is not over: what a failure found after its issue names (R90, R156). -/
structure FlightOp where
  /-- a load or a store, which may read the block store, rather than an MMA, MMAS or DRAIN (1 bit; R433 (12)). Reset: none. -/
  mem : Bool := false
  /-- offset of the word that issued it (24 bits; R102 (02)). Reset: none. -/
  lwoff : Nat := 0
  /-- its slot (3 bits; R102 (02)). Reset: none. -/
  slot : Nat := 0
  /-- its cell (2 bits; R102 (02)). Reset: none. -/
  cell : Nat := 0
  /-- step counter at its word's issue beat (64 bits; R102 (02)). Reset: none. -/
  step : Nat := 0
  /-- the last beat in which it is under way (beat number; R83 (02)). Reset: none. -/
  till : Nat := 0
deriving DecidableEq, Repr

/-- The command a block runs. -/
structure Run where
  /-- the accepted run (-; R195 (06)). Reset: none running. -/
  req : RunReq := {}
  /-- offset of the next word (24 bits; R66 (02)). Reset: none running. -/
  pc : Nat := 0
  /-- issue, IDLE, MMAS or ending (-; R57, R89 (02)). Reset: none running. -/
  phase : Phase := .issue
  /-- the word with END has issued (1 bit; R68 (02)). Reset: none running. -/
  last : Bool := false
  /-- module time at which it started (ns; R503 (15)). Reset: none running. -/
  start : Nat := 0
  /-- energy the block's meter has shown since it started (mJ; R503 (15)). Reset: none running. -/
  energy : Nat := 0
  /-- the matrix operations, loads and stores this command has issued and that are not over, oldest first (operations; R90 (02), R156 (04)). Reset: none. -/
  ops : List FlightOp := []
deriving DecidableEq, Repr

/-- The prep core (R188 to R197, R220). -/
structure Prep where
  /-- BLK_PREP.PSTATE (4 bits; R220 (06)). Reset: 0x0 stopped. -/
  state : Nat := 0
  /-- pc (64 bits; R190 (06)). Reset: 0. -/
  pc : BitVec 64 := 0
  /-- x1-x31 (x0 reads 0 and is never stored) (31 x 64 bits; R190 (06)). Reset: 0. -/
  x : Sparse (BitVec 64) := []
  /-- mstatus (64 bits; R190 (06)). Reset: MIE = 0; other bits PRESUMED (log 9). -/
  mstatus : BitVec 64 := 0x1800
  /-- mie (64 bits; R196 (06)). Reset: PRESUMED 0 (log 9). -/
  mie : BitVec 64 := 0
  /-- mip bits 16-18 (64 bits; R196 (06)). Reset: PRESUMED 0 (log 9). -/
  mip : BitVec 64 := 0
  /-- mtvec (64 bits; R190 (06)). Reset: 0. -/
  mtvec : BitVec 64 := 0
  /-- mscratch (64 bits; R188 (06)). Reset: PRESUMED 0 (log 9). -/
  mscratch : BitVec 64 := 0
  /-- mepc (64 bits; R188, R192 (06)). Reset: PRESUMED 0 (log 9). -/
  mepc : BitVec 64 := 0
  /-- mcause (64 bits; R188, R192 (06)). Reset: PRESUMED 0 (log 9). -/
  mcause : BitVec 64 := 0
  /-- mtval (64 bits; R188 (06)). Reset: PRESUMED 0 (log 9). -/
  mtval : BitVec 64 := 0
  /-- mcycle (64 bits; R191 (06)). Reset: PRESUMED 0 (log 9). -/
  mcycle : BitVec 64 := 0
  /-- minstret (64 bits; R188 (06)). Reset: PRESUMED 0 (log 9). -/
  minstret : BitVec 64 := 0
  /-- mcountinhibit (32 bits; R188 (06)). Reset: PRESUMED 0 (log 9). -/
  inhibit : BitVec 64 := 0
  /-- between a trap entry and the following MRET (1 bit; R192 (06)). Reset: false. -/
  inTrap : Bool := false
  /-- the LR reservation (address and width; R188, R189 (06)). Reset: none. -/
  resv : Option (Nat × Nat) := none
  /-- XVTRAP (16 bits; R191 (06)). Reset: PRESUMED 0 (log 9). -/
  xvtrap : Nat := 0
  /-- the vln.arm arming (counter and target; R193 (06)). Reset: none. -/
  arm : Option (Nat × Nat) := none
  /-- BLK_PREP.MCAUSE (8 bits; R220 (06)). Reset: 0. -/
  lastCause : Nat := 0
deriving DecidableEq, Repr

/-- A descriptor ring in the block store: the block DMA's (R434) or the audit unit's (R463). -/
structure Queue where
  /-- EN (1 bit; R450 (12), R478 (13)). Reset: false. -/
  en : Bool := false
  /-- SLOTS_LOG2 (4 bits; R450 (12), R478 (13)). Reset: 0. -/
  slotsLog2 : Nat := 0
  /-- DONE or ADONE counter (6 bits; R450 (12), R478 (13)). Reset: 0. -/
  done : Nat := 0
  /-- POST or AREQ counter (6 bits; R450 (12), R478 (13)). Reset: 0. -/
  post : Nat := 0
  /-- BASE in units of 4 KiB (15 bits; R450 (12), R478 (13)). Reset: 0. -/
  base : Nat := 0
  /-- descriptors started since LIVE (count; R434 (12), R463 (13)). Reset: 0. -/
  started : Nat := 0
  /-- ENDED (32 bits; R450 (12), R478 (13)). Reset: 0. -/
  ended : Nat := 0
  /-- descriptors in flight, with the status each will end with (index and status; R436 (12), R463 (13)). Reset: none. -/
  flight : List (Nat × Nat) := []
  /-- HALTED (1 bit; R450 (12), R478 (13)). Reset: false. -/
  halted : Bool := false
  /-- CODE (8 bits; R450 (12), R478 (13)). Reset: 0. -/
  code : Nat := 0
  /-- INDEX (12 bits; R450 (12), R478 (13)). Reset: 0. -/
  index : Nat := 0
  /-- block digest of the audit descriptor in flight (32 bytes; R466 (13)). Reset: none. -/
  digest : List (BitVec 8) := []
  /-- its input digest (32 bytes; R465 (13)). Reset: none. -/
  indig : List (BitVec 8) := []
  /-- the security engine has accepted its record (1 bit; R468 (13)). Reset: false. -/
  accepted : Bool := false
  /-- module time at which its record arrived at the security engine (ns; R471 (13)). Reset: none. -/
  since : Nat := 0
deriving DecidableEq, Repr

/-- The trace ring's applied layout (R99 to R104). -/
structure Trace where
  /-- tracing is on (1 bit; R103 (02)). Reset: false. -/
  en : Bool := false
  /-- the BASE applied (40 bits; R104 (02)). Reset: 0. -/
  base : Nat := 0
  /-- the SIZE applied (4 bits; R104 (02)). Reset: 0. -/
  sizeLog2 : Nat := 0
  /-- HEAD (24 bits; R103 (02)). Reset: 0. -/
  head : Nat := 0
  /-- WRAPPED (1 bit; R103 (02)). Reset: false. -/
  wrapped : Bool := false
  /-- DROPS (24 bits; R103 (02)). Reset: 0. -/
  drops : Nat := 0
deriving DecidableEq, Repr

/-- One physical block (R22, R58, R103). -/
structure Block where
  /-- the four matrix cells (4; R58 (02)). Reset: 0 (R60). -/
  cells : Sparse Cell := []
  /-- S0-S7 (8 x 64 bits; R58 (02)). Reset: 0 (R60). -/
  s : Sparse (BitVec 64) := []
  /-- LC0-LC3 (4 x 24 bits; R58 (02)). Reset: 0 (R60). -/
  lc : Sparse Nat := []
  /-- the step counter, equal in the four cells (64 bits; R57 (02)). Reset: 0. -/
  step : Nat := 0
  /-- the run-time beat counter (64 bits; R81 (02)). Reset: 0. -/
  beats : Nat := 0
  /-- the block store (2^27 bytes; R433 (12)). Reset: 0 (R567). -/
  store : Mem := []
  /-- prep-core instruction memory (64 KiB; R189 (06)). Reset: 0 (R567). -/
  imem : Mem := []
  /-- prep-core data memory (256 KiB; R189 (06)). Reset: 0 (R567). -/
  dmem : Mem := []
  /-- SEED of the block's program section (32 bytes; R30 (01), R154 (04)). Reset: none until a load. -/
  seed : List (BitVec 8) := []
  /-- LW_BASE (32 bits; R30 (01)). Reset: none until a load. -/
  lwBase : Nat := 0
  /-- LW_BYTES (32 bits; R30 (01)). Reset: none until a load. -/
  lwBytes : Nat := 0
  /-- the pipelines (operations in flight; R84 (02)). Reset: empty. -/
  pend : List Pend := []
  /-- own signals its issue stage sees and other agents do not yet: each waits for its stores, due by the beat, and for the DMA descriptors counted (counter, N, beat, descriptors; R203 (06)). Reset: empty. -/
  sigs : List (Nat × Nat × Nat × Nat) := []
  /-- accepted runs, oldest first (runs; R195 (06)). Reset: empty. -/
  runq : List RunReq := []
  /-- the run under way (-; R195 (06)). Reset: none. -/
  run : Option Run := none
  /-- why the issue stage holds (-; R56 (02)). Reset: not held. -/
  hold : Hold := .none
  /-- the Proofer holds the block (1 bit; R510, R511 (15)). Reset: false. -/
  prooferHold : Bool := false
  /-- BLK_STATE.TAG (32 bits; R103 (02)). Reset: 0. -/
  lastTag : Nat := 0
  /-- BLK_STATE.LWOFF (24 bits; R103 (02)). Reset: 0. -/
  lastOff : Nat := 0
  /-- step counter at the issue beat of the last word issued (64 bits; R99 (02)). Reset: 0. -/
  lastStep : Nat := 0
  /-- class of the last host command admitted (2 bits; R504 (15)). Reset: BULK. -/
  lastCls : Nat := 3
  /-- the reduction unit (-; R157 (04)). Reset: as RCLR with K = 1. -/
  rdu : Rdu := {}
  /-- RMRGs issued (issue order; R159 (04)). Reset: 0. -/
  rmrgSeq : Nat := 0
  /-- BLK_NUMFLAG.OVF_SEEN (4 bits; R165 (04)). Reset: 0. -/
  numOvf : Nat := 0
  /-- BLK_NUMFLAG.LOSS_SEEN (4 bits; R165 (04)). Reset: 0. -/
  numLoss : Nat := 0
  /-- BLK_NUMFLAG.INV_SEEN (4 bits; R165 (04)). Reset: 0. -/
  numInv : Nat := 0
  /-- BLK_SPSTAT.MMAS_BEATS (32 bits; R187 (05)). Reset: 0. -/
  mmasBeats : Nat := 0
  /-- BLK_SPSTAT.DENSE_BEATS (32 bits; R187 (05)). Reset: 0. -/
  denseBeats : Nat := 0
  /-- sync counters (48; R198 (06)). Reset: 0. -/
  cnts : Sparse Cnt := []
  /-- counter table entries (48; R200 (06)). Reset: not used. -/
  cntCfg : Sparse CntEntry := []
  /-- HUDDLE_MASK (16 bits; R200, R221 (06)). Reset: 0. -/
  hudMask : Nat := 0
  /-- ARR by line (16 counts; R212 (06)). Reset: 0. -/
  arr : Sparse Nat := []
  /-- the prep core (-; R188 (06)). Reset: stopped. -/
  prep : Prep := {}
  /-- the block DMA (-; R434 (12)). Reset: not configured. -/
  dma : Queue := {}
  /-- the audit unit (-; R463 (13)). Reset: not configured. -/
  aud : Queue := {}
  /-- the trace ring (-; R99 (02)). Reset: off. -/
  trace : Trace := {}
deriving DecidableEq, Repr

/-- One Huddle line (R212, R215). -/
structure HudLine where
  /-- GEN (32 bits shown; R212, R223 (06)). Reset: 0. -/
  gen : Nat := 0
  /-- ABANDONED, with the fenced block's shape number (shape number; R215 (06)). Reset: none. -/
  abandoned : Option Nat := none
deriving DecidableEq, Repr

/-- A descriptor in the command window (R543, R544). -/
structure WinEntry where
  /-- SEQ (32 bits; R544 (16)). Reset: none. -/
  seq : Nat := 0
  /-- the descriptor (64 bytes; R548 (16)). Reset: none. -/
  bytes : List (BitVec 8) := []
deriving DecidableEq, Repr

/-- A command taken and not yet completed. -/
structure OpenCmd where
  /-- SEQ (32 bits; R544 (16)). Reset: none. -/
  seq : Nat := 0
  /-- TAG (32 bits; R548 (16)). Reset: none. -/
  tag : Nat := 0
  /-- OPCODE (8 bits; R550 (16)). Reset: none. -/
  opcode : Nat := 0
  /-- RING byte (8 bits; R548 (16)). Reset: none. -/
  ring : Nat := 0
  /-- its wait condition (shape, counter, target; R546 (16)). Reset: none. -/
  wait : Option (Nat × Nat × Nat) := none
  /-- a RUN's targets that have not ended (shape, physical block; R551 (16)). Reset: none. -/
  targets : List (Nat × Nat) := []
  /-- the first listed target, or the lowest shape under ALL (shape number; R552 (16)). Reset: none. -/
  first : Nat := 0
  /-- that target's step counter after R89 (64 bits; R552 (16)). Reset: none. -/
  okStep : Nat := 0
  /-- targets that faulted (shape, STATUS, step, RESULT1; R552 (16)). Reset: none. -/
  faults : List (Nat × Nat × Nat × Nat) := []
  /-- the Proofer has admitted the RUN (1 bit; R509 (15)). Reset: none. -/
  admitted : Bool := false
  /-- its charge: a power for 100 µs, in units of 1/7680 W (1/7680 W; R503 (15)). Reset: none. -/
  charge : Nat := 0
  /-- every target of a RUN (shape, physical block; R507 (15)). Reset: none. -/
  all : List (Nat × Nat) := []
  /-- module time at which it was admitted (ns; R503 (15)). Reset: none. -/
  start : Nat := 0
  /-- energy its ended targets have used (mJ; R503 (15)). Reset: none. -/
  energy : Nat := 0
  /-- its class (2 bits; R551 (16)). Reset: none. -/
  cls : Nat := 3
  /-- its entry offset (24 bits; R503 (15)). Reset: none. -/
  entryOff : Nat := 0
  /-- its EST_W (16 bits; R503 (15)). Reset: none. -/
  estW : Nat := 0
  /-- module time at which it was accepted (ns; R508 (15)). Reset: none. -/
  since : Nat := 0
  /-- what a held SIGNAL will add (shape, counter, N; R547 (16)). Reset: none. -/
  signal : Option (Nat × Nat × Nat) := none
deriving DecidableEq, Repr

/-- A completion record waiting for its ring (R553). -/
structure Compl where
  /-- SEQ (32 bits; R553 (16)). Reset: none. -/
  seq : Nat := 0
  /-- TAG (32 bits; R553 (16)). Reset: none. -/
  tag : Nat := 0
  /-- OPCODE (8 bits; R553 (16)). Reset: none. -/
  opcode : Nat := 0
  /-- RING byte (8 bits; R553 (16)). Reset: none. -/
  ring : Nat := 0
  /-- STATUS (16 bits; R554 (16)). Reset: none. -/
  status : Nat := 0
  /-- RESULT0 (64 bits; R553 (16)). Reset: none. -/
  r0 : Nat := 0
  /-- RESULT1 (64 bits; R553 (16)). Reset: none. -/
  r1 : Nat := 0
  /-- NFAULT (8 bits; R553 (16)). Reset: none. -/
  nfault : Nat := 0
deriving DecidableEq, Repr

/-- A command that has ended but finds no room for its completion: it stays in its queue (R556). -/
structure Ending where
  /-- its completion record (record; R556 (16)). Reset: none. -/
  c : Compl := {}
  /-- the queue it stays in (queue; R544 (16)). Reset: none. -/
  queue : Nat := 0
  /-- the targets of a RUN, which it holds (physical blocks; R556 (16)). Reset: none. -/
  targets : List Nat := []
deriving DecidableEq, Repr

/-- A completion ring's applied layout and counts (R555, R564). -/
structure HRing where
  /-- the BASE applied (64 bits; R563, R564 (16)). Reset: 0. -/
  base : Nat := 0
  /-- the SIZE_LOG2 applied (5 bits; R563, R564 (16)). Reset: 0. -/
  sizeLog2 : Nat := 0
  /-- the PROD_ADDR applied (64 bits; R563, R564 (16)). Reset: 0. -/
  prod : Nat := 0
  /-- the CONS_ADDR applied (64 bits; R563, R564 (16)). Reset: 0. -/
  cons : Nat := 0
  /-- the produced count (64 bits; R555 (16)). Reset: 0. -/
  produced : Nat := 0
  /-- HOLDOFF_US is running (1 bit; R557 (16)). Reset: false. -/
  holdoff : Bool := false
  /-- the count has moved since the last VEC (1 bit; R557 (16)). Reset: false. -/
  moved : Bool := false
deriving DecidableEq, Repr

/-- A signal on its way to a counter (R203), with the writes it must follow. -/
inductive InFlight where
  /-- from block `src`: visible once its stores due by `beat` are visible and `gate` DMA descriptors have ended -/
  | remote (src shape cnt n beat gate : Nat)
  /-- from the host, with the SEQ of its SIGNAL, or from a collective engine or a Sifter ring -/
  | host (shape cnt n : Nat) (seq : Option Nat)
deriving DecidableEq, Repr

/-- The host interface: command window, queues of commands, completions and interrupts. -/
structure Hif where
  /-- descriptors not yet taken (up to 4,096; R543 (16)). Reset: empty. -/
  window : List WinEntry := []
  /-- SEQ_NEXT (32 bits; R563 (16)). Reset: 0. -/
  seqNext : Nat := 0
  /-- commands taken that wait in their queue and have executed nothing, in SEQ order (descriptors; R544 (16)). Reset: empty. -/
  parked : List WinEntry := []
  /-- commands taken and not yet completed (commands; R544 (16)). Reset: empty. -/
  opened : List OpenCmd := []
  /-- the pool of wait entries (up to 256 SEQs; R546 (16)). Reset: empty. -/
  waits : List Nat := []
  /-- completions waiting for their ring (up to 4,096 beyond what their rings have room for; R556 (16)). Reset: empty. -/
  done : List Compl := []
  /-- commands that have ended and find no room for their completion (commands; R556 (16)). Reset: empty. -/
  ending : List Ending := []
  /-- completion rings (64; R555 (16)). Reset: off. -/
  rings : Sparse HRing := []
  /-- HIF_ERRQ (up to 1,024 pages; R563 (16)). Reset: empty. -/
  errq : List Nat := []
  /-- HIF_ERRQ.OVF (1 bit; R563 (16)). Reset: false. -/
  errqOvf : Bool := false
  /-- signals on their way to a counter (signals; R203 (06)). Reset: empty. -/
  inflight : List InFlight := []
  /-- 1 where the MSI-X table entry is unmasked (2,048 bits; R557, R560 (16)). Reset: PRESUMED 1 after reset, stored inverted (log 6). -/
  msixMask : Sparse Nat := []
  /-- pending vectors (vectors; R557, R560 (16)). Reset: empty. -/
  msixPba : List Nat := []
  /-- address and data words of the MSI-X table (32 KiB; R560 (16)). Reset: PRESUMED 0 (log 6). -/
  msixTable : Mem := []
deriving DecidableEq, Repr

/-- A copy or notice record in preparation; it is written at its frame's end (R229, R257, R258). -/
structure SRec where
  /-- the frame it is about (serial; R229 (07)). Reset: none. -/
  frame : Nat := 0
  /-- it goes to ring 1, else to ring 0 (1 bit; R257 (07)). Reset: none. -/
  notice : Bool := false
  /-- STAMP (64 bits; R258 (07)). Reset: none. -/
  stamp : Nat := 0
  /-- the frame's SEQ on its port (64 bits; R581 (17)). Reset: none. -/
  seq : Nat := 0
  /-- SEQNO (64 bits; R258 (07)). Reset: none. -/
  seqno : Nat := 0
  /-- PROGRAM_ID (64 bits; R258 (07)). Reset: none. -/
  progId : Nat := 0
  /-- PORT (16 bits; R258 (07)). Reset: none. -/
  port : Nat := 0
  /-- VERDICT but for BAD (8 bits; R258 (07)). Reset: none. -/
  verdict : Nat := 0
  /-- CLASS (8 bits; R258 (07)). Reset: none. -/
  cls : Nat := 0
  /-- MARK (16 bits; R258 (07)). Reset: none. -/
  mark : Nat := 0
  /-- REASON (16 bits; R258 (07)). Reset: none. -/
  reason : Nat := 0
  /-- CTX_A (16 bits; R258 (07)). Reset: none. -/
  ctxA : Nat := 0xFFFF
  /-- CTX_B (16 bits; R258 (07)). Reset: none. -/
  ctxB : Nat := 0xFFFF
  /-- SIFTER (8 bits; R258 (07)). Reset: none. -/
  sifter : Nat := 0
  /-- COLOUR (8 bits; R258 (07)). Reset: none. -/
  colour : Nat := 0
  /-- HOLD_ID (32 bits; R258 (07)). Reset: none. -/
  holdId : Nat := 0xFFFFFFFF
  /-- RESULT (16 bytes; R258 (07)). Reset: none. -/
  result : List (BitVec 8) := []
  /-- the Crumb or Roll buffer it passes through, once it is ready (pointer; R257 (07), R276 (08)). Reset: none. -/
  buf : Option Nat := none
deriving DecidableEq, Repr

/-- An Ethernet frame held in the central store (R276). -/
structure Frame where
  /-- the model's own number of the frame, rising with arrival (serial; R276 (08)). Reset: none held. -/
  id : Nat := 0
  /-- input port (7 bits; R233 (07)). Reset: none held. -/
  port : Nat := 0
  /-- ingress timestamp (64 bits; R233 (07), R342 (09)). Reset: none held. -/
  stamp : Nat := 0
  /-- arrival count on its port (64 bits; R233 (07)). Reset: none held. -/
  seq : Nat := 0
  /-- bytes received so far, FCS included (up to 9,216 bytes; R276 (08)). Reset: none held. -/
  bytes : List (BitVec 8) := []
  /-- its end has been received (1 bit; R288 (08)). Reset: none held. -/
  complete : Bool := false
  /-- its FCS failed, or it is marked at its tail (1 bit; R229 (07), R289 (08)). Reset: none held. -/
  bad : Bool := false
  /-- store class charged (4 bits; R275 (08)). Reset: none held. -/
  cls : Nat := 0
  /-- its buffers (pointers; R301, R304 (08)). Reset: none held. -/
  bufs : List Nat := []
  /-- its lookup and verdict are settled (1 bit; R291 (08)). Reset: none held. -/
  decided : Bool := false
  /-- outputs for which no copy has been queued, sent or dropped yet (ports; R294 (08)). Reset: none held. -/
  outs : List Nat := []
  /-- egress class (3 bits; R325 (09)). Reset: none held. -/
  ocls : Nat := 0
  /-- copies queued to outputs (count; R294, R305 (08)). Reset: none held. -/
  refs : Nat := 0
  /-- a Sifter holds it (1 bit; R256 (07)). Reset: none held. -/
  held : Bool := false
  /-- outputs on which it is departing cut-through (ports; R287 (08)). Reset: none held. -/
  ct : List Nat := []
  /-- what a meter charged before the end (meter, length, buckets; R337 (09)). Reset: none held. -/
  meter : Option (Nat × Nat × Nat) := none
  /-- records that wait for its end (count; R229 (07)). Reset: none held. -/
  recs : Nat := 0
  /-- copies its group names for ports that were down at the lookup (count; R294 (08)). Reset: none held. -/
  lack : Nat := 0
  /-- its result names a multicast group (1 bit; R294 (08)). Reset: none held. -/
  group : Bool := false
deriving DecidableEq, Repr

/-- A frame in a Sifter's ingress queue, or on its way to one (R226, R233). -/
structure SftFrame where
  /-- the stored frame (serial; R226 (07)). Reset: none queued. -/
  frame : Nat := 0
  /-- STAMP (64 bits; R233 (07)). Reset: none queued. -/
  stamp : Nat := 0
  /-- PORT (7 bits; R233 (07)). Reset: none queued. -/
  port : Nat := 0
  /-- SEQ (64 bits; R233 (07)). Reset: none queued. -/
  seq : Nat := 0
  /-- program slot (4 bits; R226 (07)). Reset: none queued. -/
  slot : Nat := 0
  /-- context A, or 0xFFFF (16 bits; R226 (07)). Reset: none queued. -/
  ctxA : Nat := 0xFFFF
  /-- context B, or 0xFFFF (16 bits; R226 (07)). Reset: none queued. -/
  ctxB : Nat := 0xFFFF
  /-- ingress meter colour (2 bits; R250 (07)). Reset: none queued. -/
  colour : Nat := 0
  /-- egress class before the verdict (3 bits; R255 (07)). Reset: none queued. -/
  cls : Nat := 0
  /-- the bytes a run reads (up to 128 bytes; R229 (07)). Reset: none queued. -/
  head : List (BitVec 8) := []
deriving DecidableEq, Repr

/-- A resident Ilnus program (R260, R271). -/
structure Prog where
  /-- PROGRAM_ID (64 bits; R260 (07)). Reset: slot empty. -/
  id : Nat := 0
  /-- instruction words (1-256 words; R260 (07)). Reset: slot empty. -/
  insns : List (BitVec 64) := []
  /-- PORTMASK (4 bits; R260 (07)). Reset: slot empty. -/
  portMask : Nat := 0
  /-- FALLBACK (8 bits; R260 (07)). Reset: slot empty. -/
  fallback : Nat := 0
  /-- KEY_B (16 bits; R260 (07)). Reset: slot empty. -/
  keyB : Nat := 0
  /-- HOLD_AGE in µs (32 bits; R260 (07)). Reset: slot empty. -/
  holdAge : Nat := 1
  /-- S (13 bits; R261, R271 (07)). Reset: slot empty. -/
  bound : Nat := 0
deriving DecidableEq, Repr

/-- A held frame (R256). -/
structure HoldRec where
  /-- HOLD_ID (32 bits; R258 (07)). Reset: none held. -/
  id : Nat := 0
  /-- the context it is keyed to (16 bits; R256 (07)). Reset: none held. -/
  ctx : Nat := 0
  /-- the stored frame (serial; R256 (07)). Reset: none held. -/
  frame : Nat := 0
  /-- HOLD_HOST (1 bit; R255 (07)). Reset: none held. -/
  hostOk : Bool := false
  /-- module time of the hold (ns; R256 (07)). Reset: none held. -/
  since : Nat := 0
  /-- the program's HOLD_AGE (µs; R256 (07)). Reset: none held. -/
  age : Nat := 0
  /-- what a record of this hold carries (-; R258 (07)). Reset: none held. -/
  base : SRec := {}
deriving DecidableEq, Repr

/-- A run dispatched that waits for a context (R235, R241). -/
structure SRun where
  /-- its frame (-; R235 (07)). Reset: none waiting. -/
  sf : SftFrame := {}
  /-- its place in the Sifter's dispatch order (64 bits; R258 (07)). Reset: none waiting. -/
  seqno : Nat := 0
  /-- the program that stood in the slot at dispatch (-; R262 (07)). Reset: none waiting. -/
  prog : Prog := {}
  /-- SFT_CTX commands on its contexts that waited when it was dispatched, which it follows (SEQs; R243 (07)). Reset: none waiting. -/
  behind : List Nat := []
deriving DecidableEq, Repr

/-- A Sifter ring's applied layout (R259, R273), also used for the seal rings (R479). -/
structure SRing where
  /-- EN (1 bit; R273 (07)). Reset: false. -/
  en : Bool := false
  /-- the BASE applied (64 bits; R273 (07)). Reset: 0. -/
  base : Nat := 0
  /-- slot size applied (log2 bytes; R273 (07)). Reset: 256 B. -/
  slotLog2 : Nat := 8
  /-- the SLOTS_LOG2 applied (5 bits; R273 (07)). Reset: 4. -/
  slotsLog2 : Nat := 4
  /-- records written since EN was set (64 bits; R273 (07)). Reset: 0. -/
  prod : Nat := 0
deriving DecidableEq, Repr

/-- One Sifter (R224). -/
structure Sifter where
  /-- program slots (16; R224 (07)). Reset: empty. -/
  slots : Sparse Prog := []
  /-- table memory (8,192 x 16 B; R224, R254 (07)). Reset: cleared, reads 0 (R566). -/
  table : Mem := []
  /-- ingress queue (up to 64; R224 (07)). Reset: empty. -/
  queue : List SftFrame := []
  /-- dispatched runs that wait for a context, in dispatch order (up to 32; R235, R241 (07)). Reset: none. -/
  runs : List SRun := []
  /-- records that wait for their frames' ends, in SEQNO order (records; R229 (07), R580 (17)). Reset: empty. -/
  recq : List SRec := []
  /-- dispatch count since full reset (64 bits; R258 (07)). Reset: 0. -/
  seqno : Nat := 0
  /-- held frames in hold order (up to 256; R256 (07)). Reset: empty. -/
  holds : List HoldRec := []
  /-- next hold serial (27 bits; R258 (07)). Reset: 0. -/
  holdSerial : Nat := 0
  /-- ring 0 (-; R273 (07)). Reset: off. -/
  copyRing : SRing := {}
  /-- ring 1 (-; R273 (07)). Reset: off. -/
  noticeRing : SRing := {}
  /-- SFT_HODROP.COUNT (64 bits; R272 (07)). Reset: 0. -/
  hodrop : Nat := 0
deriving DecidableEq, Repr

/-- One context's control state (R239, R240). -/
structure Ctx where
  /-- home Sifter (0-31; R239 (07)). Reset: none. -/
  home : Option Nat := none
  /-- pinned (1 bit; R240 (07)). Reset: false. -/
  pinned : Bool := false
  /-- faults SIFTER_CTX_UE until rewritten whole (1 bit; R265 (07)). Reset: false. -/
  ue : Bool := false
  /-- the frame that last committed it (STAMP and port die; R237 (07)). Reset: none. -/
  lastStamp : Option (Nat × Nat) := none
deriving DecidableEq, Repr

/-- Sifters and contexts. -/
structure Sft where
  /-- the Sifters (32; R224 (07)). Reset: empty. -/
  units : Sparse Sifter := []
  /-- the contexts' control state (8,192; R239 (07)). Reset: home none, unpinned. -/
  ctxs : Sparse Ctx := []
  /-- the contexts' bytes, context c at 256 c (8,192 x 256 B; R239 (07)). Reset: 0. -/
  ctxMem : Mem := []
  /-- frames on their way to a named Sifter (Sifter, source die, frame; R227, R228 (07)). Reset: empty. -/
  handovers : List (Nat × Nat × SftFrame) := []
  /-- order watermark last broadcast by each port die (4 x 64 bits; R234 (07)). Reset: 0. -/
  watermark : Sparse Nat := []
deriving DecidableEq, Repr

/-- A ternary entry (R280, R281). -/
structure TcamE where
  /-- key value (640 bits; R280 (08)). Reset: entry not in use. -/
  value : Nat := 0
  /-- mask (640 bits; R280 (08)). Reset: entry not in use. -/
  mask : Nat := 0
  /-- result (64 bits; R281 (08)). Reset: VALID = 0. -/
  result : Nat := 0
  /-- uncorrectable, acts as absent (1 bit; R321 (08)). Reset: false. -/
  bad : Bool := false
deriving DecidableEq, Repr

/-- An exact-match entry (R283). -/
structure EmE where
  /-- key, byte 0 lowest (24 bytes; R283 (08)). Reset: free. -/
  key : Nat := 0
  /-- result (64 bits; R281 (08)). Reset: VALID = 0. -/
  result : Nat := 0
  /-- uncorrectable, acts as absent (1 bit; R321 (08)). Reset: false. -/
  bad : Bool := false
deriving DecidableEq, Repr

/-- A multicast group (R294). -/
structure McE where
  /-- port mask (128 bits; R294 (08)). Reset: 0. -/
  mask : Nat := 0
  /-- HAIRPIN (1 bit; R294 (08)). Reset: false. -/
  hairpin : Bool := false
  /-- uncorrectable, acts as absent (1 bit; R321 (08)). Reset: false. -/
  bad : Bool := false
deriving DecidableEq, Repr

/-- One ingress meter (R335 to R340). -/
structure Meter where
  /-- CTRL (8 bits; R340 (09)). Reset: 0: colour-blind RFC 2697. -/
  ctrl : Nat := 0
  /-- CIR (32 bits; R340 (09)). Reset: the largest rate. -/
  cir : Nat := 800000000
  /-- EIR_PIR (32 bits; R340 (09)). Reset: 0. -/
  pir : Nat := 0
  /-- CBS (32 bits; R340 (09)). Reset: the largest size. -/
  cbs : Nat := 4294967295
  /-- EBS_PBS (32 bits; R340 (09)). Reset: the largest size. -/
  ebs : Nat := 4294967295
  /-- first bucket (units of 1/8,000,000 byte; R336 (09)). Reset: full. -/
  tc : Int := 34359738360000000
  /-- second bucket (units of 1/8,000,000 byte; R336 (09)). Reset: full. -/
  te : Int := 34359738360000000
  /-- last STAMP (64 bits; R336, R340 (09)). Reset: the next frame's STAMP. -/
  last : Option Nat := none
  /-- RED_COUNT (64 bits; R340 (09)). Reset: 0. -/
  red : Nat := 0
deriving DecidableEq, Repr

/-- Switch core: tables, meters and the frames it holds. -/
structure Sw where
  /-- ternary classifier (8,192; R280 (08)). Reset: not in use (R566). -/
  tcam : Sparse TcamE := []
  /-- exact-match table, bucket b position p at 4 b + p (16,384 x 4; R283 (08)). Reset: free (R566). -/
  em : Sparse EmE := []
  /-- multicast groups (4,096; R294 (08)). Reset: 0 (R566). -/
  mc : Sparse McE := []
  /-- meter m of port die d at 4096 d + m (4 x 4,096; R335, R340 (09)). Reset: R340's reset meter. -/
  meters : Sparse Meter := []
  /-- frames in the central store (frames; R276 (08)). Reset: empty. -/
  frames : List Frame := []
  /-- the model's own serial of the next frame (serial; R276 (08)). Reset: 1. -/
  nextFrame : Nat := 1
  /-- stamp and port of the last arrival by port die (4 x (stamp, port); R233 (07), R336 (09)). Reset: none. -/
  lastKey : Sparse (Nat × Nat) := []
deriving DecidableEq, Repr

/-- An allocated central-store buffer (R304, R306). -/
structure BufInfo where
  /-- pool: 0 Crumb, 1 Roll, 2 Loaf, 3 Batch (2 bits; R301 (08)). Reset: none. -/
  pool : Nat := 0
  /-- store class charged (4 bits; R275 (08)). Reset: none. -/
  cls : Nat := 0
  /-- paged tier (1 bit; R296 (08)). Reset: none. -/
  paged : Bool := false
  /-- the input port charged (7 bits; R306 (08)). Reset: none. -/
  port : Option Nat := none
  /-- consecutive audit sweeps that found it leaked (count; R312 (08)). Reset: none. -/
  seen : Nat := 0
deriving DecidableEq, Repr

/-- Pantry: layout in force, allocation state and paging. -/
structure Pnt where
  /-- PNT_CSCFG.EN (1 bit; R314, R318 (08)). Reset: 0. -/
  en : Bool := false
  /-- SPILL_GIB in force (7 bits; R314 (08)). Reset: 0. -/
  spillGib : Nat := 0
  /-- spill region in force (34 bits; R314 (08)). Reset: 0. -/
  spillBase : Nat := 0
  /-- metadata region in force (44 bits; R314 (08)). Reset: 0. -/
  metaBase : Nat := 0
  /-- PNT_POOLp in force (4 x 64 bits; R314, R318 (08)). Reset: 0. -/
  pools : Sparse (BitVec 64) := []
  /-- allocated buffers by pointer (pointers; R304 (08)). Reset: empty. -/
  bufs : Sparse BufInfo := []
  /-- buffers held, class c pool p at 4 c + p (64 x 32 bits; R306, R320 (08)). Reset: 0. -/
  occ : Sparse Nat := []
  /-- bytes of buffer size by input port (128 counts; R306 (08)). Reset: 0. -/
  inBytes : Sparse Nat := []
  /-- bytes of buffer size queued by output port (128 counts; R306 (08)). Reset: 0. -/
  outBytes : Sparse Nat := []
  /-- paged-tier pages that hold a frame (page numbers; R297 (08)). Reset: empty. -/
  resident : List Nat := []
  /-- resident pages with their touched mark (page numbers; R297 (08)). Reset: empty. -/
  touched : List Nat := []
  /-- pages whose page-out has not finished (page numbers; R297 (08)). Reset: empty. -/
  pagingOut : List Nat := []
  /-- pages whose page-in is asked for (page numbers; R297 (08)). Reset: empty. -/
  waitIn : List Nat := []
  /-- PNT_AUDIT_LAST (34 bits; R319 (08)). Reset: 0. -/
  lastLeak : Nat := 0
  /-- PNT_AUDIT.LEAKS (32 bits; R319 (08)). Reset: 0. -/
  leaks : Nat := 0
  /-- 4 c + p for each class c that has reached THROTTLE in pool p and not fallen below ALERT since (class and pool; R308 (08)). Reset: empty. -/
  throttled : List Nat := []
  /-- classes for which each port has XOFF in force (128 x 8 bits; R308, R309 (08)). Reset: 0. -/
  xoff : Sparse Nat := []
  /-- fabric classes whose credits are withheld (6 bits; R308 (08)). Reset: 0. -/
  withheld : Nat := 0
  /-- pages are being paged out until FRAME_HIGH frames are free (1 bit; R297 (08)). Reset: false. -/
  paging : Bool := false
  /-- the LEVEL last seen of class c and pool p at 4 c + p (64 x 2 bits; R308 (08)). Reset: 0. -/
  levels : Sparse Nat := []
deriving DecidableEq, Repr

/-- A copy queued to an output (R294). -/
structure Copy where
  /-- the stored frame (serial; R294 (08)). Reset: none queued. -/
  frame : Nat := 0
  /-- ingress STAMP (64 bits; R313 (08)). Reset: none queued. -/
  stamp : Nat := 0
  /-- input port (7 bits; R291 (08)). Reset: none queued. -/
  inPort : Nat := 0
  /-- arrival count (64 bits; R291 (08)). Reset: none queued. -/
  seq : Nat := 0
  /-- frame length (16 bits; R327 (09)). Reset: none queued. -/
  len : Nat := 0
  /-- store class (4 bits; R313 (08)). Reset: none queued. -/
  cls : Nat := 0
deriving DecidableEq, Repr

/-- One shaper (R333, R334). -/
structure Shaper where
  /-- EN in force (1 bit; R334 (09)). Reset: false. -/
  en : Bool := false
  /-- RATE in force (30 bits; R334 (09)). Reset: 0. -/
  rate : Nat := 0
  /-- BURST in force (24 bits; R334 (09)). Reset: 0x2414. -/
  burst : Nat := 9236
  /-- the bucket (units of 1/8,000,000 byte; R333 (09)). Reset: 0. -/
  tokens : Int := 0
  /-- a copy whose length is not known yet has started and is still to be charged (1 bit; R333 (09)). Reset: false. -/
  owing : Bool := false
  /-- the most the caps since that start leave in the bucket (units of 1/8,000,000 byte; R333 (09)). Reset: none. -/
  most : Option Int := none
deriving DecidableEq, Repr

/-- A port's gate schedule (R329 to R332). -/
structure Gate where
  /-- operational list (up to 64 (gates, ns); R329 (09)). Reset: none. -/
  oper : List (Nat × Nat) := []
  /-- its base time (64 bits; R329 (09)). Reset: 0. -/
  base : Nat := 0
  /-- its cycle time (32 bits; R329 (09)). Reset: 0x000F_4240. -/
  cycle : Nat := 1000000
  /-- current entry (6 bits; R329 (09)). Reset: 0. -/
  entry : Nat := 0
  /-- module time at which the entry began (ns; R329 (09)). Reset: 0. -/
  start : Nat := 0
  /-- every gate closed until the next cycle start (1 bit; R332 (09)). Reset: false. -/
  closed : Bool := false
  /-- cycle start at which a pending change takes effect (ns; R331 (09)). Reset: none. -/
  changeAt : Option Nat := none
deriving DecidableEq, Repr

/-- A port's Ethernet side (R325 to R334). -/
structure Port where
  /-- the Ethernet link is up (1 bit; R350 (10)). Reset: false. -/
  up : Bool := false
  /-- the frame being received (serial; R288 (08)). Reset: none. -/
  rx : Option Nat := none
  /-- arrival count since full reset (64 bits; R233 (07)). Reset: 0. -/
  arrivals : Nat := 0
  /-- egress queues by class (8 queues; R325 (09)). Reset: empty. -/
  queues : Sparse (List Copy) := []
  /-- deficits by class (8 counts; R327 (09)). Reset: 0. -/
  deficit : Sparse Nat := []
  /-- classes visited this round (8 bits; R327 (09)). Reset: 0. -/
  visited : Nat := 0
  /-- class served last (3 bits; R327 (09)). Reset: DESIGN CHOICE 7, so that the first scan starts at class 0 (log 7). -/
  lastServed : Nat := 7
  /-- shapers by class (8; R333 (09)). Reset: disabled. -/
  shapers : Sparse Shaper := []
  /-- REFILL_NS in force (17 bits; R334 (09)). Reset: 0x03E8. -/
  refillNs : Nat := 1000
  /-- gate schedule (-; R329 (09)). Reset: none. -/
  gate : Gate := {}
  /-- egress queues paused by received PFC (8 bits; R309 (08)). Reset: 0. -/
  paused : Nat := 0
deriving DecidableEq, Repr

/-- A flit held in the retry buffer (R354). -/
structure Retry where
  /-- FSEQ (12 bits; R354 (10)). Reset: none. -/
  fseq : Nat := 0
  /-- the flit (256 bytes; R353 (10)). Reset: none. -/
  flit : List (BitVec 8) := []
  /-- epoch of its packet (1 bit; R356 (10)). Reset: none. -/
  epoch : Nat := 0
  /-- it ends a packet (1 bit; R356 (10)). Reset: none. -/
  isEnd : Bool := false
deriving DecidableEq, Repr

/-- A Rally packet (R359). -/
structure Pkt where
  /-- the header, high word in bits 127:64 (128 bits; R359 (10)). Reset: none. -/
  hdr : Nat := 0
  /-- payload (up to 16,384 bytes; R359 (10)). Reset: none. -/
  payload : List (BitVec 8) := []
  /-- lane (3 bits; R357 (10)). Reset: none. -/
  lane : Nat := 0
  /-- marked bad at its tail (1 bit; R289 (08), R353 (10)). Reset: none. -/
  bad : Bool := false
  /-- port it came in on, while its credits are held (port; R357 (10)). Reset: none. -/
  inPort : Option Nat := none
  /-- its buffers (pointers; R357 (10)). Reset: none. -/
  bufs : List Nat := []
  /-- cut-through, as decided once when its output is known (1 bit, or not decided; R287 (08)). Reset: none. -/
  ct : Option Bool := none
  /-- the buffer reserved for it that it lies in (pointer; R361 (10), R400 (11)). Reset: none. -/
  loaf : Option Nat := none
deriving DecidableEq, Repr

/-- A port's Rally side (R352 to R358, R385). -/
structure Link where
  /-- RL_PORTSTAT.STATE (3 bits; R385 (10)). Reset: 0b000 DOWN. -/
  st : Nat := 0
  /-- RL_PORTSTAT.PEER (12 bits; R385 (10)). Reset: 0. -/
  peer : Nat := 0
  /-- next FSEQ to send (12 bits; R354 (10)). Reset: PRESUMED 0 (log 8). -/
  txFseq : Nat := 0
  /-- FSEQ expected (12 bits; R355 (10)). Reset: PRESUMED 0 (log 8). -/
  rxFseq : Nat := 0
  /-- retry buffer (up to 1,024; R354 (10)). Reset: empty. -/
  retry : List Retry := []
  /-- flits are being discarded until the expected one arrives intact; one NAK has been sent (1 bit; R355 (10)). Reset: false. -/
  nakSent : Bool := false
  /-- consecutive replays without progress (4 bits; R356 (10)). Reset: 0. -/
  noProg : Nat := 0
  /-- credits held by lane (7 counts; R357 (10)). Reset: 0. -/
  credits : Sparse Nat := []
  /-- credits to return by lane (7 counts; R357 (10)). Reset: 0. -/
  owed : Sparse Nat := []
  /-- content of the packet being received (bytes; R359 (10)). Reset: empty. -/
  rxPart : List (BitVec 8) := []
  /-- a packet is being received (1 bit; R356 (10)). Reset: false. -/
  rxOn : Bool := false
  /-- packets queued by lane (7 lanes; R357 (10)). Reset: empty. -/
  txq : Sparse (List Pkt) := []
  /-- place of the next flit received in its pair of codewords (0-4; R352 (10)). Reset: 0. -/
  pos : Nat := 0
  /-- codewords of the pair being received that cannot be corrected (2 bits; R352 (10)). Reset: 0. -/
  cwBad : Nat := 0
  /-- control flits that wait for room in the retry buffer (kind, ACKSEQ; R354 (10)). Reset: empty. -/
  ctl : List (Nat × Nat) := []
  /-- the state a retrain returns to (3 bits; R356 (10)). Reset: 3. -/
  resume : Nat := 3
  /-- the peer has sent an IDENT that passed (1 bit; R358 (10)). Reset: false. -/
  identOk : Bool := false
  /-- the peer has sent its credits (1 bit; R358 (10)). Reset: false. -/
  gotCredits : Bool := false
deriving DecidableEq, Repr

/-- One resequencer stream (R292, R362). -/
structure Reseq where
  /-- number expected (16 bits; R362 (10)). Reset: PRESUMED 0 (log 8). -/
  expected : Nat := 0
  /-- packets ahead, by number (up to 256; R292 (08)). Reset: empty. -/
  waiting : List (Nat × Pkt) := []
deriving DecidableEq, Repr

/-- A reservation for the reply to a REQ (R361). -/
structure Resv where
  /-- TXN (15 bits; R361 (10)). Reset: none. -/
  txn : Nat := 0
  /-- the module the REQ went to (12 bits; R361 (10)). Reset: none. -/
  dst : Nat := 0
  /-- the buffer of class 9 that the reply lands in (32 bits; R361 (10)). Reset: none. -/
  buf : Nat := 0
deriving DecidableEq, Repr

/-- Rally links and the fabric. -/
structure Rly where
  /-- Rally sides of the ports (128; R352 (10)). Reset: down. -/
  links : Sparse Link := []
  /-- whole packets received and not yet routed (port, packet; R368 (10)). Reset: empty. -/
  arrived : List (Nat × Pkt) := []
  /-- RL_INJe (2 x 64 bits; R377 (10)). Reset: 0. -/
  inj : Sparse Nat := []
  /-- RL_DLVe (2 x 64 bits; R377 (10)). Reset: 0. -/
  dlv : Sparse Nat := []
  /-- RL_DROPe (2 x 64 bits; R377 (10)). Reset: 0. -/
  drop : Sparse Nat := []
  /-- next SEQ by stream (streams; R362 (10)). Reset: PRESUMED 0 (log 8). -/
  txSeq : Sparse Nat := []
  /-- resequencers by source, class and MC (streams; R292 (08)). Reset: empty. -/
  reseq : Sparse Reseq := []
  /-- reservations held for replies (up to 32,768; R361 (10)). Reset: empty. -/
  txns : List Resv := []
  /-- REQs that wait at their requester for a buffer or a TXN (destination, OPC, address, payload; R361 (10)). Reset: empty. -/
  reqOut : List (Nat × Nat × Nat × List (BitVec 8)) := []
  /-- Referee receive area (256 KiB; R360 (10)). Reset: empty. -/
  mgt : List Pkt := []
  /-- REQs that wait for the memory they name (packets; R432 (12)). Reset: empty. -/
  reqIn : List Pkt := []
  /-- FWD packets delivered to the journal and not yet taken (packets; R360 (10)). Reset: empty. -/
  fwd : List Pkt := []
  /-- RSPs delivered to their requesters (packets; R361 (10)). Reset: empty. -/
  rspIn : List Pkt := []
deriving DecidableEq, Repr

/-- A partial of an exact reduction (R395). -/
structure Partial where
  /-- CLS (2 bits; R395 (11)). Reset: none. -/
  cls : Nat := 0
  /-- INV (1 bit; R395 (11)). Reset: none. -/
  inv : Bool := false
  /-- OVF (1 bit; R395 (11)). Reset: none. -/
  ovf : Bool := false
  /-- LOSS (1 bit; R395 (11)). Reset: none. -/
  loss : Bool := false
  /-- ZST (2 bits; R395 (11)). Reset: none. -/
  zst : Nat := 0
  /-- VALUE in the partial's unit (up to 620 bits signed; R395 (11)). Reset: none. -/
  value : Int := 0
  /-- OVR (12 bits; R395 (11)). Reset: none. -/
  ovr : Nat := 0xFFF
  /-- sign of the input of rank OVR (1 bit; R397 (11)). Reset: none. -/
  ovrNeg : Bool := false
deriving DecidableEq, Repr

/-- A launch record in force (R388). -/
structure LRec where
  /-- TICKET (64 bits; R388 (11)). Reset: none. -/
  ticket : Nat := 0
  /-- PREV (64 bits; R388 (11)). Reset: none. -/
  prev : Nat := 0
  /-- OP (8 bits; R388 (11)). Reset: none. -/
  op : Nat := 0
  /-- RED (8 bits; R388 (11)). Reset: none. -/
  red : Nat := 0
  /-- IFMT (8 bits; R388 (11)). Reset: none. -/
  ifmt : Nat := 0
  /-- OFMT (8 bits; R388 (11)). Reset: none. -/
  ofmt : Nat := 0
  /-- RND (8 bits; R388 (11)). Reset: none. -/
  rnd : Nat := 0
  /-- FLAGS (8 bits; R388 (11)). Reset: none. -/
  flags : Nat := 0
  /-- WEIGHT (8 bits; R388 (11)). Reset: none. -/
  weight : Nat := 0
  /-- N (64 bits; R388 (11)). Reset: none. -/
  n : Nat := 0
  /-- ROOT (16 bits; R388 (11)). Reset: none. -/
  root : Nat := 0
  /-- TIMEOUT_MS (16 bits; R388 (11)). Reset: none. -/
  timeout : Nat := 0
  /-- SRC (64 bits; R388 (11)). Reset: none. -/
  src : Nat := 0
  /-- DST (64 bits; R388 (11)). Reset: none. -/
  dst : Nat := 0
  /-- TILE (64 bits; R388 (11)). Reset: none. -/
  tile : Nat := 0
  /-- DONE (64 bits; R388 (11)). Reset: none. -/
  done : Nat := 0
  /-- member module numbers in rank order (up to 4,096; R389 (11)). Reset: none. -/
  members : List Nat := []
deriving DecidableEq, Repr

/-- One collective slot (R386, R418). -/
structure Slot where
  /-- STATE (3 bits; R418 (11)). Reset: 0b000 free. -/
  state : Nat := 0
  /-- the launch record (-; R388 (11)). Reset: free. -/
  launch : LRec := {}
  /-- SEQ of the launch command (32 bits; R404 (11)). Reset: free. -/
  seq : Nat := 0
  /-- TAG of the launch command (32 bits; R416 (11)). Reset: free. -/
  tag : Nat := 0
  /-- RANK (12 bits; R418 (11)). Reset: free. -/
  rank : Nat := 0
  /-- ranks whose FIN is held (ranks; R404 (11)). Reset: free. -/
  fins : List Nat := []
  /-- ranks whose JOIN is held (ranks; R392, R398 (11)). Reset: free. -/
  joins : List Nat := []
  /-- chunks received (24 bits; R418 (11)). Reset: free. -/
  chunks : Nat := 0
  /-- cumulative grant received (by rank; R400 (11)). Reset: free. -/
  granted : Sparse Nat := []
  /-- cumulative grant sent (by rank; R400 (11)). Reset: free. -/
  given : Sparse Nat := []
  /-- chunks sent (by rank; R400 (11)). Reset: free. -/
  sent : Sparse Nat := []
  /-- chunks received, of rank r in phase p at 4096 r + p (by rank and phase; R400 (11)). Reset: free. -/
  got : Sparse Nat := []
  /-- partials received, of rank r's element i at 2^40 r + i (by rank and element; R395, R396 (11)). Reset: free. -/
  acc : Sparse Partial := []
  /-- 1 + elements received for a MIN or MAX, in the same places (by rank and element; R397 (11)). Reset: free. -/
  minmax : Sparse Nat := []
  /-- bytes received, by their index in the operation's own space (bytes; R391 (11)). Reset: free. -/
  outBytes : Mem := []
  /-- tiles whose counter has been seen (count; R402 (11)). Reset: free. -/
  tiles : Nat := 0
  /-- reserved buffers (pointers; R400 (11)). Reset: free. -/
  loaves : List Nat := []
  /-- senders that READY has gone to (ranks; R400, R401 (11)). Reset: free. -/
  asked : List Nat := []
deriving DecidableEq, Repr

/-- A launch accepted into a queue: held (R408), or waiting for its slot (R407). -/
structure HeldLaunch where
  /-- its record (-; R408 (11)). Reset: none. -/
  launch : LRec := {}
  /-- its SEQ (32 bits; R408 (11)). Reset: none. -/
  seq : Nat := 0
  /-- its TAG (32 bits; R408 (11)). Reset: none. -/
  tag : Nat := 0
  /-- ranks whose JOIN is held since acceptance (ranks; R392, R410 (11)). Reset: none. -/
  joins : List Nat := []
  /-- ranks whose FIN is held since acceptance (ranks; R404, R410 (11)). Reset: none. -/
  fins : List Nat := []
  /-- cumulative grant received since acceptance (by rank; R400, R410 (11)). Reset: none. -/
  granted : Sparse Nat := []
deriving DecidableEq, Repr

/-- A control packet kept for a ticket not yet accepted (R410). -/
structure PendCtl where
  /-- OPC (8 bits; R410 (11)). Reset: none. -/
  opc : Nat := 0
  /-- TICKET (64 bits; R410 (11)). Reset: none. -/
  ticket : Nat := 0
  /-- sender's rank (12 bits; R398 (11)). Reset: none. -/
  rank : Nat := 0
  /-- ARG 23:0 (24 bits; R398 (11)). Reset: none. -/
  arg : Nat := 0
  /-- DIGEST (32 bits; R398 (11)). Reset: none. -/
  digest : Nat := 0
  /-- CODE (16 bits; R398 (11)). Reset: none. -/
  code : Nat := 0
  /-- ORIGIN (16 bits; R398 (11)). Reset: none. -/
  origin : Nat := 0
deriving DecidableEq, Repr

/-- The four collective engines. -/
structure Coll where
  /-- COL_LAST (64 bits; R407, R418 (11)). Reset: 0. -/
  last : Nat := 0
  /-- slots (16; R386 (11)). Reset: free. -/
  slots : Sparse Slot := []
  /-- held launches (up to 16; R408 (11)). Reset: empty. -/
  held : List HeldLaunch := []
  /-- accepted launches waiting for their slot (launches; R407 (11)). Reset: empty. -/
  queued : List HeldLaunch := []
  /-- pending tables by engine (4 x 64; R410 (11)). Reset: empty. -/
  table : Sparse (List PendCtl) := []
  /-- COLL packets delivered and not yet taken (packets; R398 (11)). Reset: empty. -/
  inbox : List Pkt := []
  /-- tickets and destinations of packets discarded here whose collectives have not yet been ended (ticket, module; R413 (11)). Reset: empty. -/
  lost : List (Nat × Nat) := []
  /-- tickets whose collective has ended here (tickets; R410, R412 (11)). Reset: empty. -/
  ended : List Nat := []
  /-- chunks each slot has sent this round (16 counts; R406 (11)). Reset: 0. -/
  round : Sparse Nat := []
deriving DecidableEq, Repr

/-- A journal entry held in a ring (R581). -/
structure JEntry where
  /-- JSEQ (64 bits; R581 (17)). Reset: none. -/
  jseq : Nat := 0
  /-- device address (40 bits; R581 (17)). Reset: none. -/
  addr : Nat := 0
  /-- UNITS (16 bits; R581 (17)). Reset: none. -/
  units : Nat := 2
deriving DecidableEq, Repr

/-- A range of journal entries (R583). -/
structure JRange where
  /-- first JSEQ (64 bits; R583 (17)). Reset: none. -/
  first : Nat := 0
  /-- last JSEQ (64 bits; R583 (17)). Reset: none. -/
  last : Nat := 0
deriving DecidableEq, Repr

/-- A journal transfer under way (R588). -/
structure Transfer where
  /-- JNL_RECV rather than JNL_SEND (1 bit; R588 (17)). Reset: none. -/
  recv : Bool := false
  /-- SEQ of its command (32 bits; R588 (17)). Reset: none. -/
  seq : Nat := 0
  /-- first (64 bits; R588 (17)). Reset: none. -/
  first : Nat := 0
  /-- last (64 bits; R588 (17)). Reset: none. -/
  last : Nat := 0
  /-- the other module (12 bits; R588 (17)). Reset: none. -/
  peer : Nat := 0
  /-- last JSEQ verified or acknowledged (64 bits; R588, R589 (17)). Reset: none. -/
  reached : Option Nat := none
  /-- entries verified since the last acknowledgement sent (1 bit; R588 (17)). Reset: none. -/
  news : Bool := false
deriving DecidableEq, Repr

/-- The input journal and its mirror (R580 to R590). -/
structure Jnl where
  /-- local ring in force (40 bits; R597 (17)). Reset: 0. -/
  base : Nat := 0
  /-- its size (bytes; R597 (17)). Reset: 0. -/
  size : Nat := 0
  /-- entries of the local ring, oldest first (entries; R581 (17)). Reset: recovered at start-up (R587). -/
  entries : List JEntry := []
  /-- closed ranges (up to 32; R583 (17)). Reset: recovered at start-up (R587). -/
  closed : List JRange := []
  /-- first JSEQ of the open range (64 bits; R583 (17)). Reset: none. -/
  openFirst : Option Nat := none
  /-- JNL_NEXT (64 bits; R597 (17)). Reset: 0. -/
  next : Nat := 0
  /-- where the next entry goes (ring offset; R581, R582 (17)). Reset: after the control record. -/
  wptr : Nat := 4096
  /-- JNL_COMMIT (64 bits; R582, R597 (17)). Reset: all ones (none). -/
  commit : Option Nat := none
  /-- JNL_ACKED (64 bits; R586, R597 (17)). Reset: all ones (none). -/
  acked : Option Nat := none
  /-- mirror ring in force (40 bits; R597 (17)). Reset: 0. -/
  mbase : Nat := 0
  /-- its size (bytes; R597 (17)). Reset: 0. -/
  msize : Nat := 0
  /-- entries of the mirror ring (entries; R585 (17)). Reset: empty. -/
  mirror : List JEntry := []
  /-- JSEQ the mirror expects next (64 bits; R586 (17)). Reset: none. -/
  mexp : Option Nat := none
  /-- where the next mirror entry goes (ring offset; R585 (17)). Reset: after the control record. -/
  mwptr : Nat := 4096
  /-- JNL_GAPF, JNL_GAPL (two JSEQs; R586, R597 (17)). Reset: all ones (none). -/
  gap : Option (Nat × Nat) := none
  /-- JNL_MGAPF, JNL_MGAPL (two JSEQs; R586, R597 (17)). Reset: all ones (none). -/
  mgap : Option (Nat × Nat) := none
  /-- JNL_GAPL as latched by a read of JNL_GAPF (64 bits; R597 (17)). Reset: none. -/
  latchGap : Option Nat := none
  /-- JNL_MGAPL as latched by a read of JNL_MGAPF (64 bits; R597 (17)). Reset: none. -/
  latchMgap : Option Nat := none
  /-- the mirror has advanced since the last acknowledgement (1 bit; R586 (17)). Reset: false. -/
  mnew : Bool := false
  /-- host append count since full reset (64 bits; R461 (13), R581 (17)). Reset: 0. -/
  hostAppends : Nat := 0
  /-- the transfer under way (-; R588 (17)). Reset: none. -/
  transfer : Option Transfer := none
deriving DecidableEq, Repr

/-- A firmware image (R482). -/
structure FwImage where
  /-- header (4,096 bytes; R482 (14)). Reset: none. -/
  hdr : List (BitVec 8) := []
  /-- payload (up to 64 MiB; R482 (14)). Reset: none. -/
  payload : List (BitVec 8) := []
deriving DecidableEq, Repr

/-- One of the two copies of the slot selector in module flash (R485). -/
structure SelCopy where
  /-- its sequence number (32 bits; R485 (14)). Reset: none. -/
  seq : Nat := 0
  /-- ACTIVE (1 bit; R485 (14)). Reset: none. -/
  active : Nat := 0
  /-- TRIAL (slot or none; R485 (14)). Reset: none. -/
  trial : Option Nat := none
  /-- its CRC-32C (32 bits; R485 (14)). Reset: none. -/
  crc : Nat := 0
deriving DecidableEq, Repr

/-- An alarm record accepted into a batch (R469). -/
structure AlarmRec where
  /-- bytes 0x0000-0x00FF (header, 256 bytes; R469 (13)). Reset: none. -/
  bytes : List (BitVec 8) := []
  /-- IN_LIST (up to 4,096 bytes; R469 (13)). Reset: none. -/
  inList : List (BitVec 8) := []
  /-- BODY (up to 7,936 bytes; R469 (13)). Reset: none. -/
  body : List (BitVec 8) := []
  /-- SIGN_EACH (1 bit; R469 (13)). Reset: none. -/
  each : Bool := false
deriving DecidableEq, Repr

/-- A batch of alarm records (R471). -/
structure Batch where
  /-- BATCH (64 bits; R471 (13)). Reset: none. -/
  number : Nat := 0
  /-- its records in acceptance order (up to 4,096; R471 (13)). Reset: none. -/
  recs : List AlarmRec := []
  /-- OPEN_TIME (64 bits; R473 (13)). Reset: none. -/
  openTime : Nat := 0
  /-- CLOSE_TIME (64 bits; R473 (13)). Reset: none. -/
  closeTime : Nat := 0
  /-- FIRST_RECNO (64 bits; R473 (13)). Reset: none. -/
  firstRec : Nat := 0
  /-- EARLY (1 bit; R473 (13)). Reset: none. -/
  early : Bool := false
  /-- UNTIMED (1 bit; R473 (13)). Reset: none. -/
  untimed : Bool := false
  /-- its seal record once signed (seal record; R473 (13)). Reset: none. -/
  signed : List (BitVec 8) := []
  /-- records written to the record ring (count; R475 (13)). Reset: none. -/
  written : Nat := 0
deriving DecidableEq, Repr

/-- The security engine: boot, firmware, OTP, identity, sealing, SPDM, IDE and TRNG. -/
structure Sec where
  /-- flash slot A (64 MiB; R485 (14)). Reset: PRESUMED a bootable factory image (log 10). -/
  slotA : FwImage := { hdr := Config.factoryHeader, payload := [0] }
  /-- flash slot B (64 MiB; R485 (14)). Reset: PRESUMED empty (log 10). -/
  slotB : FwImage := {}
  /-- selector ACTIVE (1 bit; R485 (14)). Reset: PRESUMED A (log 10). -/
  active : Nat := 0
  /-- selector TRIAL (slot or none; R485 (14)). Reset: PRESUMED none (log 10). -/
  trial : Option Nat := none
  /-- sequence number of the selector in force (32 bits; R485 (14)). Reset: PRESUMED 0 (log 10). -/
  selSeq : Nat := 0
  /-- the two copies of the selector in flash (2; R485 (14)). Reset: PRESUMED one copy that selects A, the other not yet written (log 10). -/
  copies : List SelCopy := [{ crc := 4200017883 }, {}]
  /-- SEC_STAT.SLOT (1 bit; R501 (14)). Reset: decided at boot. -/
  running : Nat := 0
  /-- SEC_STAT.SVN (8 bits; R501 (14)). Reset: decided at boot. -/
  svn : Nat := 0
  /-- FW_DIGEST (64 bytes; R494 (14)). Reset: decided at boot. -/
  fwDigest : List (BitVec 8) := []
  /-- FW_DIGEST_ALT (the empty list reads 0) (64 bytes; R494 (14)). Reset: decided at boot. -/
  fwAlt : List (BitVec 8) := []
  /-- SEC_STAT.TRIAL (1 bit; R501 (14)). Reset: false. -/
  inTrial : Bool := false
  /-- SEC_STAT.RECOVERY (1 bit; R490 (14)). Reset: false. -/
  recovery : Bool := false
  /-- SEC_STAT.UPDATING (1 bit; R501 (14)). Reset: false. -/
  updating : Bool := false
  /-- the engine's image buffer (64 MiB; R577 (17)). Reset: empty. -/
  recBuf : Mem := []
  /-- SEC_STAT.TRNG_OK (1 bit; R501 (14)). Reset: false. -/
  trngOk : Bool := false
  /-- the model's number of the seal key pairs in force (serial; R493 (14)). Reset: none. -/
  sealKey : Nat := 0
  /-- seal key pairs made so far (count; R493 (14)). Reset: 0. -/
  keysMade : Nat := 0
  /-- SEC_STAT.IDE_SECURE (4 bits; R497 (14)). Reset: 0. -/
  ideSecure : Nat := 0
  /-- streams moved to Insecure (4 bits; R497 (14)). Reset: 0. -/
  ideInsecure : Nat := 0
  /-- SPDM sessions open (2 bits; R496 (14)). Reset: 0. -/
  spdm : Nat := 0
  /-- GET_VERSION has been answered (1 bit; R496 (14)). Reset: false. -/
  spdmVer : Bool := false
  /-- records accepted (64 bits; R469 (13)). Reset: 0. -/
  recno : Nat := 0
  /-- number of the next batch to open (64 bits; R471, R479 (13)). Reset: 0. -/
  batchNo : Nat := 0
  /-- the open batch (-; R471 (13)). Reset: none. -/
  openB : Option Batch := none
  /-- closed batches (up to 8; R475 (13)). Reset: empty. -/
  queue : List Batch := []
  /-- PREV_SEAL of the next seal (32 bytes; R473 (13)). Reset: 0 (the empty list reads 0). -/
  prevSeal : List (BitVec 8) := []
  /-- record ring (-; R479 (13)). Reset: off. -/
  recRing : SRing := {}
  /-- seal ring (-; R479 (13)). Reset: off. -/
  sealRing : SRing := {}
deriving DecidableEq, Repr

/-- An entry of the Proofer's learned table (R503). -/
structure Learned where
  /-- PLACEMENT_ID (64 bits; R503 (15)). Reset: none. -/
  id : Nat := 0
  /-- entry offset (24 bits; R503 (15)). Reset: none. -/
  entry : Nat := 0
  /-- mean powers of the last 16 runs (up to 16 W; R503 (15)). Reset: none. -/
  powers : List Nat := []
deriving DecidableEq, Repr

/-- The Proofer's state for one compute die (R533). -/
structure DiePow where
  /-- POWER_W (16 bits; R533 (15)). Reset: 0. -/
  powerW : Nat := 0
  /-- TMAX, in quarter degrees (12 bits; R533 (15)). Reset: 0. -/
  tmax : Nat := 0
  /-- SENSOR_OK (8 bits; R533 (15)). Reset: 0xFF. -/
  sensorOk : Nat := 0xFF
  /-- HELD (8 bits; R533 (15)). Reset: 0. -/
  held : Nat := 0
  /-- VNOW (6 bits; R533 (15)). Reset: 0x1A. -/
  vnow : Nat := 0x1A
  /-- consecutive windows in which R510 held blocks of the die (count; R512 (15)). Reset: 0. -/
  heldWins : Nat := 0
  /-- R510 has held blocks in this window (1 bit; R512 (15)). Reset: false. -/
  heldNow : Bool := false
  /-- energy of the die in this window (mJ; R502, R533 (15)). Reset: 0. -/
  accMj : Nat := 0
  /-- readings of this window after which blocks were held (count; R510, R533 (15)). Reset: 0. -/
  accHeld : Nat := 0
deriving DecidableEq, Repr

/-- The Proofer. -/
structure Prf where
  /-- WINDOWS (32 bits; R532 (15)). Reset: 0. -/
  windows : Nat := 0
  /-- WARM (1 bit; R532 (15)). Reset: false. -/
  warm : Bool := false
  /-- HOLDALL (1 bit; R532 (15)). Reset: false. -/
  holdAll : Bool := false
  /-- POWER_W (16 bits; R532 (15)). Reset: 0. -/
  powerW : Nat := 0
  /-- the static power S of the window (W; R502 (15)). Reset: 0. -/
  staticW : Nat := 0
  /-- LIMIT_W in force (16 bits; R532 (15)). Reset: 0x3A98. -/
  limitW : Nat := 15000
  /-- INLINE_W in force (16 bits; R532 (15)). Reset: 0x0258. -/
  inlineW : Nat := 600
  /-- COLL_FLOOR_W in force (16 bits; R532 (15)). Reset: 0x03E8. -/
  floorW : Nat := 1000
  /-- TJ_TARGET in force (8 bits; R532 (15)). Reset: 0x5F. -/
  tjTarget : Nat := 95
  /-- DIE_MAX_W in force (16 bits; R532 (15)). Reset: 0x017C. -/
  dieMaxW : Nat := 380
  /-- AGE_MS in force (16 bits; R532 (15)). Reset: 0x000A. -/
  ageMs : Nat := 10
  /-- the general remainder R, as charges are held (1/7680 W; R505 (15)). Reset: 0. -/
  rem : Nat := 0
  /-- C_coll of the window, with what was admitted in it (1/7680 W; R505 (15)). Reset: 0. -/
  collC : Nat := 0
  /-- learned table (up to 1,024; R503 (15)). Reset: empty. -/
  learned : List Learned := []
  /-- the readings of the last 10 µs (935 readings; R502 (15)). Reset: none. -/
  last : List Nat := []
  /-- consecutive readings at which a sensor has not changed while its die drew more than 50 W (by sensor; R517 (15)). Reset: 0. -/
  frozen : Sparse Nat := []
  /-- readings since full reset, of 10 µs each (count; R515 (15)). Reset: 0. -/
  samples : Nat := 0
  /-- sum of the input power readings of this window (W; R532 (15)). Reset: 0. -/
  accW : Nat := 0
  /-- readings of this window (count; R532 (15)). Reset: 0. -/
  accN : Nat := 0
  /-- energy that running compute commands used in this window (mJ; R502 (15)). Reset: 0. -/
  accRun : Nat := 0
  /-- energy taken at the entry and not yet counted as a whole kJ (µJ; R593 (17)). Reset: 0. -/
  energyUj : Nat := 0
  /-- the compute dies (32; R533 (15)). Reset: R533's reset. -/
  dies : Sparse DiePow := []
deriving DecidableEq, Repr

/-- A copy of the Scorebook in module flash (R591). -/
structure SbCopy where
  /-- sequence number (32 bits; R591 (17)). Reset: none. -/
  seq : Nat := 0
  /-- sector (8 bits; R591 (17)). Reset: none. -/
  sector : Nat := 0
  /-- the counts (items of 64 bits; R593 (17)). Reset: none. -/
  counts : Sparse Nat := []
  /-- its CRC is correct (1 bit; R591 (17)). Reset: none. -/
  ok : Bool := true
deriving DecidableEq, Repr

/-- The Scorebook. -/
structure Sb where
  /-- the copy in force (-; R591 (17)). Reset: PRESUMED none yet: a new part holds zero counts (log 10). -/
  inForce : Option SbCopy := none
  /-- the alternate (-; R591 (17)). Reset: PRESUMED none yet (log 10). -/
  alt : Option SbCopy := none
  /-- counts in retention RAM not yet written (items; R592 (17)). Reset: kept across a reset (R566). -/
  pend : Sparse Nat := []
  /-- the write under way (PENDING) (-; R592, R599 (17)). Reset: none. -/
  writing : Option SbCopy := none
  /-- one further write is asked for (1 bit; R592 (17)). Reset: false. -/
  again : Bool := false
  /-- HBM corrections of each stack counted by the last whole hour (16 counts; R594 (17)). Reset: 0. -/
  hbmBase : Sparse Nat := []
deriving DecidableEq, Repr

/-- A Delay_Req that the PTP instance sent (R343). -/
structure PtpTx where
  /-- the port (7 bits; R343 (09)). Reset: none. -/
  port : Nat := 0
  /-- over UDP/IPv4, else Ethernet (1 bit; R343, R347 (09)). Reset: none. -/
  udp : Bool := false
  /-- domainNumber (8 bits; R343, R347 (09)). Reset: none. -/
  domain : Nat := 0
  /-- its transmit timestamp (64 bits; R343 (09)). Reset: none. -/
  stamp : Nat := 0
deriving DecidableEq, Repr

/-- The algorithms of the SPDM responder (R496). -/
inductive SpdmAlg where
  /-- Signing: Ed25519. -/
  | ed25519
  /-- Hash: SHA-512. -/
  | sha512
  /-- Key exchange: secp384r1. -/
  | secp384r1
  /-- AEAD: AES-256-GCM. -/
  | aes256gcm
deriving DecidableEq, Repr

/-- What the SPDM responder answers (R496). Message layouts and transcripts are those of SPDM 1.3 (log 86). -/
inductive SpdmReply where
  /-- ERROR. -/
  | error
  /-- VERSION: 1.3. -/
  | version
  /-- CAPABILITIES. -/
  | capabilities
  /-- ALGORITHMS: those selected. -/
  | algorithms (signing hash exchange aead : SpdmAlg)
  /-- DIGESTS: the hash of the certificate chain of slot 0, the only slot. -/
  | digests (slot0 : List (BitVec 8))
  /-- CERTIFICATE of slot 0: a portion of the chain and the bytes that remain. -/
  | certificate (portion : List (BitVec 8)) (left : Nat)
  /-- CHALLENGE_AUTH: the hash of the chain of slot 0 and a signature by the identity key. -/
  | challengeAuth (chain sig : List (BitVec 8))
  /-- MEASUREMENTS: index and value of each that was asked for, the number there are, and the signature where one was asked for. -/
  | measurements (blocks : List (Nat × List (BitVec 8))) (count : Nat) (sig : List (BitVec 8))
  /-- KEY_EXCHANGE_RSP: the hash of the chain and a signature by the identity key; a session opens. -/
  | keyExchange (chain sig : List (BitVec 8))
  /-- FINISH_RSP. -/
  | finish
  /-- KEY_UPDATE_ACK. -/
  | keyUpdate
  /-- HEARTBEAT_ACK. -/
  | heartbeat
  /-- END_SESSION_ACK. -/
  | endSession
  /-- VENDOR_DEFINED_RESPONSE, to the IDE key management protocol (R497). -/
  | vendor
deriving DecidableEq, Repr

/-- What the module has sent to the outside, oldest first, and its last answers. -/
structure Out where
  /-- last BAR0 or HIF answer: status 0 OK, 1 Unsupported Request, 2 Completer Abort, 3 no answer (status, data; R12, R561 (00, 16)). Reset: none. -/
  read : Option (Nat × Nat) := none
  /-- last BAR2 answer (status, bytes; R541 (16)). Reset: none. -/
  bar2 : Option (Nat × List (BitVec 8)) := none
  /-- last answer of an LB4 to an access or atomic given as a command (STATUS, bytes; R422, R428 (12)). Reset: none. -/
  mem : Option (Nat × List (BitVec 8)) := none
  /-- last management answer, none for a NACK (64 bits; R577 (17)). Reset: none. -/
  mgmt : Option (BitVec 64) := none
  /-- MSI-X messages sent (vectors; R557 (16)). Reset: empty. -/
  msix : List Nat := []
  /-- Ethernet frames sent (port, bytes, bad; R289, R327 (08, 09)). Reset: empty. -/
  frames : List (Nat × List (BitVec 8) × Bool) := []
  /-- PFC PAUSE frames sent (port, priority, time; R309 (08)). Reset: empty. -/
  pause : List (Nat × Nat × Nat) := []
  /-- Rally flits sent (port, flit; R353 (10)). Reset: empty. -/
  flits : List (Nat × List (BitVec 8)) := []
  /-- last SPDM response (response; R496 (14)). Reset: none. -/
  spdm : Option SpdmReply := none
  /-- events of an occupancy that reaches ALERT (1) or THROTTLE (2) (class, pool, level; R308 (08)). Reset: empty. -/
  levels : List (Nat × Nat × Nat) := []
  /-- event messages sent by the PTP instance (Delay_Req messages; R343 (09)). Reset: empty. -/
  ptp : List PtpTx := []
deriving DecidableEq, Repr

/-- The whole module. -/
structure State where
  /-- what manufacture fixed (part; R1 (00)). Reset: see its fields. -/
  hw : Hw := {}
  /-- Referee island (part; R565 (17)). Reset: see its fields. -/
  ref : Ref := {}
  /-- module time (part; R341 (09)). Reset: see its fields. -/
  time : Time := {}
  /-- clocks (part; R520 (15)). Reset: see its fields. -/
  clk : Clk := {}
  /-- device memory by device address, as normal service places it (2^40 bytes; R419 (12)). Reset: DESIGN CHOICE unlisted bytes read 0 (log 1). -/
  dev : Mem := []
  /-- host memory, as the module reaches it (host bytes; R536, R549 (16)). Reset: DESIGN CHOICE unlisted bytes read 0 (log 1). -/
  host : Mem := []
  /-- the stacks (part; R419 (12)). Reset: see its fields. -/
  mem : MemSys := {}
  /-- the fences in force (part; R23 (01)). Reset: none fenced (R566). -/
  fence : FenceMap := {}
  /-- OTP_SVN (7 bits; R488 (14)). Reset: PRESUMED 0 at manufacture (log 10). -/
  otp : Nat := 0
  /-- placement state (part; R34 (01)). Reset: see its fields. -/
  place : Place := {}
  /-- physical blocks, die d block b at 17 d + b (544; R22 (01)). Reset: see Block. -/
  blocks : Sparse Block := []
  /-- Huddle lines (16; R212 (06)). Reset: GEN 0. -/
  hud : Sparse HudLine := []
  /-- host interface (part; R542 (16)). Reset: see its fields. -/
  hif : Hif := {}
  /-- Sifters and contexts (part; R224 (07)). Reset: see its fields. -/
  sft : Sft := {}
  /-- switch core (part; R275 (08)). Reset: see its fields. -/
  sw : Sw := {}
  /-- Pantry (part; R301 (08)). Reset: see its fields. -/
  pnt : Pnt := {}
  /-- Ethernet sides of the ports (128; R325 (09)). Reset: see Port. -/
  ports : Sparse Port := []
  /-- Rally (part; R352 (10)). Reset: see its fields. -/
  rly : Rly := {}
  /-- collective engines (part; R386 (11)). Reset: see its fields. -/
  coll : Coll := {}
  /-- input journal (part; R580 (17)). Reset: see its fields. -/
  jnl : Jnl := {}
  /-- security engine (part; R480 (14)). Reset: see its fields. -/
  sec : Sec := {}
  /-- Proofer (part; R502 (15)). Reset: see its fields. -/
  prf : Prf := {}
  /-- Scorebook (part; R591 (17)). Reset: see its fields. -/
  sb : Sb := {}
  /-- register fields that hold written values, by BAR0 byte offset (see the register lines below) (64 bits each; R12, R560 (00, 16)). Reset: each register's reset value, stored as the difference. -/
  regs : Sparse (BitVec 64) := []
  /-- what has been sent outside (part; R557 (16)). Reset: empty. -/
  out : Out := {}
  /-- index of the next free value; no statement rests on it (count; the model's own field). Reset: DESIGN CHOICE 0 (log 2). -/
  free : Nat := 0
  /-- commands waiting, first in first out (queue; the model's own field). Reset: empty. -/
  pending : List Instr := []
deriving DecidableEq, Repr

/-- The module right after the cause of a power-applied reset has gone: every field at the value its line above gives, with
the start-up (RESET_RELEASE) still to run (log 3). -/
def State.reset : State := {}

/-- Which parts of the state a command may change. A command changes no part that its `Touch` does not name. -/
structure Touch where
  /-- The part `ref`. -/
  ref : Bool := false
  /-- The part `time`. -/
  time : Bool := false
  /-- The part `clk`. -/
  clk : Bool := false
  /-- The part `dev`. -/
  dev : Bool := false
  /-- The part `host`. -/
  host : Bool := false
  /-- The part `mem`. -/
  mem : Bool := false
  /-- The part `otp`. -/
  otp : Bool := false
  /-- The part `place`. -/
  place : Bool := false
  /-- The part `blocks`. -/
  blocks : Bool := false
  /-- The part `hud`. -/
  hud : Bool := false
  /-- The part `hif`. -/
  hif : Bool := false
  /-- The part `sft`. -/
  sft : Bool := false
  /-- The part `sw`. -/
  sw : Bool := false
  /-- The part `pnt`. -/
  pnt : Bool := false
  /-- The part `ports`. -/
  ports : Bool := false
  /-- The part `rly`. -/
  rly : Bool := false
  /-- The part `coll`. -/
  coll : Bool := false
  /-- The part `jnl`. -/
  jnl : Bool := false
  /-- The part `sec`. -/
  sec : Bool := false
  /-- The part `prf`. -/
  prf : Bool := false
  /-- The part `sb`. -/
  sb : Bool := false
  /-- The part `regs`. -/
  regs : Bool := false
  /-- The part `out`. -/
  out : Bool := false
  /-- The part `free`. -/
  free : Bool := false
  /-- The part `fence`, which a command may only add to (R23). -/
  fence : Bool := false
  /-- A full reset, the one event that clears fences (R23, R566). -/
  unfence : Bool := false
deriving DecidableEq, Repr

/-- Fences accumulate: what is fenced stays fenced until a full reset (R23). -/
def FenceMap.join (a b : FenceMap) : FenceMap := { blocks := a.blocks ||| b.blocks, dies := a.dies ||| b.dies }

/-- The state a command leaves: the parts its `Touch` names as the command's effect `new` gives them, every other part as it
was in `old`. What manufacture fixed and the queue of waiting commands are never a command's to change (the queue is moved
on by `step` alone), and a fence is left by a full reset alone (R23). -/
def State.keep (m : Touch) (old new : State) : State where
  hw := old.hw
  ref := if m.ref then new.ref else old.ref
  time := if m.time then new.time else old.time
  clk := if m.clk then new.clk else old.clk
  dev := if m.dev then new.dev else old.dev
  host := if m.host then new.host else old.host
  mem := if m.mem then new.mem else old.mem
  fence := if m.unfence then new.fence else if m.fence then old.fence.join new.fence else old.fence
  otp := if m.otp then new.otp else old.otp
  place := if m.place then new.place else old.place
  blocks := if m.blocks then new.blocks else old.blocks
  hud := if m.hud then new.hud else old.hud
  hif := if m.hif then new.hif else old.hif
  sft := if m.sft then new.sft else old.sft
  sw := if m.sw then new.sw else old.sw
  pnt := if m.pnt then new.pnt else old.pnt
  ports := if m.ports then new.ports else old.ports
  rly := if m.rly then new.rly else old.rly
  coll := if m.coll then new.coll else old.coll
  jnl := if m.jnl then new.jnl else old.jnl
  sec := if m.sec then new.sec else old.sec
  prf := if m.prf then new.prf else old.prf
  sb := if m.sb then new.sb else old.sb
  regs := if m.regs then new.regs else old.regs
  out := if m.out then new.out else old.out
  free := if m.free then new.free else old.free
  pending := old.pending

end Sys2Proof.Machine
end

