-- ==== Sys2Proof/Machine/Ops.lean ====
section
/-! DEFINITION. The named operations every unit shares: the register file, event counts, the Scorebook's pending counts, MSI-X
vectors, error recording (R558, R559), fatal errors (R573), the placement's mapping, command descriptors and completions. -/

namespace Sys2Proof.Machine

/-- The outcome of a command: it always leaves a next state, which differs from the one before only in the parts named. -/
def State.answer (m : Touch) (s t : State) : Host.Outcome State Fault Refusal := .next (s.keep m t)

/-- The programmed value of a register. -/
def State.reg (s : State) (p : Page) (i off : Nat) : Nat :=
  (Sparse.get (0#64) s.regs (p.at i + off)).toNat ^^^ regReset p i off

/-- The register with a value stored. -/
def State.setReg (s : State) (p : Page) (i off v : Nat) : State :=
  { s with regs := Sparse.set (0#64) s.regs (p.at i + off) (BitVec.ofNat 64 (v ^^^ regReset p i off)) }

/-- A field of a register. -/
def State.fld (s : State) (p : Page) (i off hi lo : Nat) : Nat := bits (s.reg p i off) hi lo

/-- The largest 64-bit number, at which counts saturate (R558, R592). -/
def max64 : Nat := 2 ^ 64 - 1

/-- `n` added to event count `k` of a page; it saturates (R558). -/
def State.evtAdd (p : Page) (i k n : Nat) (s : State) : State :=
  s.setReg p i (0x80 + 8 * k) (min max64 (s.reg p i (0x80 + 8 * k) + n))

/-- The value of a Scorebook item: the count written and the count pending (R593). -/
def State.sbCount (s : State) (item : Nat) : Nat :=
  min max64 ((match s.sb.inForce with | some c => c.counts.num item | none => 0) + s.sb.pend.num item)

/-- `n` added to a Scorebook item, in retention RAM until the next write (R592). -/
def State.sbAdd (item n : Nat) (s : State) : State := { s with sb.pend := s.sb.pend.addNum item n }

/-- The counts a Scorebook write takes: every item's count written plus its count pending. -/
def State.sbMerged (s : State) : Sparse Nat :=
  s.sb.pend.foldl (fun m c => m.setNum c.1 (min max64 (m.num c.1 + c.2)))
    (match s.sb.inForce with | some c => c.counts | none => [])

/-- A request to write the Scorebook: it starts a write of the next sector in rotation, or asks for one further write after
the one under way (R591, R592). -/
def State.sbRequest (s : State) : State :=
  match s.sb.writing with
  | some _ => { s with sb.again := true }
  | none =>
    let c : SbCopy := match s.sb.inForce with
      | some f => { seq := (f.seq + 1) % 2 ^ 32, sector := (f.sector + 1) % 256, counts := s.sbMerged }
      | none => { seq := 1, sector := 0, counts := s.sbMerged }
    { s with sb.writing := some c }

/-- An MSI-X message: sent when bus mastering is on and its table entry is unmasked, otherwise pending (R539, R557). -/
def State.sendVec (v : Nat) (s : State) : State :=
  if s.ref.busMaster && s.hif.msixMask.num v == 1 then { s with out.msix := s.out.msix ++ [v] }
  else { s with hif.msixPba := addTo s.hif.msixPba v }

/-- Severity of an error bit as ERR_SEV has it: 0 corrected, 1 contained, 2 fatal (R558). -/
def State.severity (s : State) (p : Page) (i b : Nat) : Nat := s.fld p i 0x30 (2 * b + 1) (2 * b)

/-- No error bit of the page that is unmasked and not fatal is among those set in `v` (R557). -/
def State.quiet (s : State) (p : Page) (i v : Nat) : Bool :=
  (onesOf 32 v).all (fun b => bitOn (s.reg p i 0x28) b || s.severity p i b == 2)

/-- A page enters the queue of pages with new errors; a full queue records the loss (R557, R563). -/
def State.errqPush (pg : Nat) (s : State) : State :=
  if s.hif.errq.length < 1024 then { s with hif.errq := s.hif.errq ++ [pg] } else { s with hif.errqOvf := true }

/-- ERR_STAT takes a value; the change from nothing reportable to something sends vector 1 and queues the page (R557). -/
def State.setErrStat (p : Page) (i v : Nat) (s : State) : State :=
  let was := s.quiet p i (s.reg p i 0x20)
  let t := s.setReg p i 0x20 v
  if was && !(s.quiet p i v) then (t.sendVec 1).errqPush (p.at i / 4096) else t

/-- What a fatal error brings about: FAULT_N, vector 0, FAULTED and a Scorebook write (R573). -/
def State.fatal (s : State) : State :=
  (({ s with ref.faultN := true, ref.faulted := true } : State).sendVec 0 |>.sbAdd 0x0008 1 |>.evtAdd .ref 0 6 1).sbRequest

/-- The Scorebook's item for the level of an error of R22, if it is one (R593). -/
def levelItem (p : Page) (b : Nat) : Option Nat :=
  match p with
  | .blk => if b = 7 then some 0 else if b = 12 ∨ b = 13 ∨ b = 14 then some 1 else none
  | .die => if b = 2 ∨ b = 3 then some 2 else none
  | _ => none

/-- An error sets its bit in a page: the first one is captured with its tag and detail (R559), the Scorebook counts it (R593),
vector 1 may be sent (R557), and a bit of fatal severity acts as R573 says. -/
def State.raise (p : Page) (i b tag i0 i1 i2 : Nat) (s : State) : State :=
  let s1 := if bitOn (s.reg p i 0x38) 63 then s
    else ((((s.setReg p i 0x38 (2 ^ 63 + b)).setReg p i 0x40 tag).setReg p i 0x48 i0).setReg p i 0x50 i1).setReg p i 0x58 i2
  let s2 := s1.setErrStat p i (setBit (s1.reg p i 0x20) b)
  let s3 := s2.sbAdd (0x1000 + 0x20 * p.type + b) 1
  let s4 := match levelItem p b with | some k => s3.sbAdd k 1 | none => s3
  if s4.severity p i b == 2 then (s4.sbAdd 3 1).fatal else s4

/-- An error with no tag and no detail. -/
def State.raise0 (p : Page) (i b : Nat) (s : State) : State := s.raise p i b 0 0 0 0

/-- The STATUS that names error bit `b` of a page (R554). -/
def statusOf (p : Page) (b : Nat) : Nat := p.type * 0x100 + b

/-! ### Blocks and the placement's mapping -/

/-- Blocks of a compute die. -/
def blocksPerDie : Nat := 17

/-- Physical blocks of the module. -/
def blockCount : Nat := 544

/-- The compute die of a physical block. -/
def dieOf (b : Nat) : Nat := b / blocksPerDie

/-- The index of a physical block on its die. -/
def pblkOf (b : Nat) : Nat := b % blocksPerDie

/-- Blocks the grade exposes on each compute die (R1, R47). -/
def State.exposed (s : State) : Nat := if s.hw.gradeB then 15 else 16

/-- A physical block. -/
def State.block (s : State) (b : Nat) : Block := Sparse.get {} s.blocks b

/-- The physical block with a new state. -/
def State.setBlock (s : State) (b : Nat) (x : Block) : State := { s with blocks := Sparse.set {} s.blocks b x }

/-- A physical block changed by a function. -/
def State.onBlock (b : Nat) (f : Block → Block) (s : State) : State := s.setBlock b (f (s.block b))

/-- The block is fenced (R23). -/
def State.fencedBlock (s : State) (b : Nat) : Bool := s.fence.blocks.testBit b

/-- The block is in service: present, not fused off, not excluded by self-test (R25). -/
def State.inService (s : State) (b : Nat) : Bool :=
  decide (b < blockCount) && !s.hw.fused.testBit b && !s.place.testfail.testBit b

/-- The block is usable for a mapping (R40). -/
def State.usable (s : State) (b : Nat) : Bool := s.inService b && !s.fencedBlock b

/-- The physical block of a shape number under the placement's mapping. -/
def State.physOf (s : State) (shape : Nat) : Option Nat :=
  match s.place.map.num shape with | 0 => none | k + 1 => some k

/-- The shape number mapped to a physical block. -/
def State.shapeOf (s : State) (b : Nat) : Option Nat :=
  (s.place.map.find? (fun c => c.2 == b + 1)).map Prod.fst

/-- The logical block number of a shape number (R7): die × exposed + index, the shape number being die × SHAPE_BLOCKS + index. -/
def State.logicalOf (s : State) (shape : Nat) : Nat :=
  shape / s.place.shapeBlocks * s.exposed + shape % s.place.shapeBlocks

/-- The logical block page of a physical block, if the placement maps it (R8). -/
def State.pageOfBlock (s : State) (b : Nat) : Option Nat := (s.shapeOf b).map s.logicalOf

/-- The physical block of a logical block page (R7). -/
def State.blockOfPage (s : State) (l : Nat) : Option Nat :=
  let die := l / s.exposed
  let idx := l % s.exposed
  if idx < s.place.shapeBlocks then s.physOf (die * s.place.shapeBlocks + idx) else none

/-- The placement's states (R48). -/
def psEmpty : Nat := 0
/-- PSTATE LOADING. -/
def psLoading : Nat := 1
/-- PSTATE VERIFYING. -/
def psVerifying : Nat := 2
/-- PSTATE LIVE. -/
def psLive : Nat := 3
/-- PSTATE RETIRING. -/
def psRetiring : Nat := 4
/-- PSTATE FAILED. -/
def psFailed : Nat := 5

/-- A placement is LIVE. -/
def State.live (s : State) : Bool := s.place.pstate == psLive

/-! ### Free values -/

/-- The next free value's index, and the state with it used up (log 2). -/
def State.useFree (s : State) : State := { s with free := s.free + 1 }

/-! ### Bus addresses -/

/-- An XADDR names device memory (R549). -/
def xDev (x : Nat) : Bool := x.testBit 63

/-- An XADDR is well formed (R549). -/
def xOk (x : Nat) : Bool := !xDev x || bits x 62 40 == 0

/-- The address an XADDR carries (R549). -/
def xAddr (x : Nat) : Nat := if xDev x then bits x 39 0 else bits x 62 0

/-- A device XADDR (R549). -/
def xIsDev (x : Nat) : Bool := xDev x && xOk x

/-! ### Command descriptors (R548) -/

/-- TAG. -/
def WinEntry.tag (e : WinEntry) : Nat := field e.bytes 0 4
/-- OPCODE. -/
def WinEntry.opcode (e : WinEntry) : Nat := field e.bytes 4 1
/-- The RING byte. -/
def WinEntry.ringByte (e : WinEntry) : Nat := field e.bytes 5 1
/-- The completion ring. -/
def WinEntry.ring (e : WinEntry) : Nat := bits e.ringByte 5 0
/-- FENCE (R545). -/
def WinEntry.fenceBit (e : WinEntry) : Bool := bitOn e.ringByte 6
/-- The WAIT field. -/
def WinEntry.waitField (e : WinEntry) : Nat := field e.bytes 6 2
/-- WEN. -/
def WinEntry.wen (e : WinEntry) : Bool := bitOn e.waitField 15
/-- WSHAPE. -/
def WinEntry.wshape (e : WinEntry) : Nat := bits e.waitField 14 6
/-- WCNT. -/
def WinEntry.wcnt (e : WinEntry) : Nat := bits e.waitField 5 0
/-- WTARGET. -/
def WinEntry.wtarget (e : WinEntry) : Nat := field e.bytes 8 8
/-- An operand: `len` bytes at descriptor offset `off`. -/
def WinEntry.op (e : WinEntry) (off len : Nat) : Nat := field e.bytes off len
/-- The descriptor bytes from `off` to `stop` are zero. -/
def WinEntry.zeros (e : WinEntry) (off stop : Nat) : Bool := allZero (slice e.bytes off (stop - off))

/-- The header's own format rules (R546, R548). -/
def WinEntry.headerOk (e : WinEntry) : Bool :=
  !bitOn e.ringByte 7 &&
  (if e.wen then decide (e.opcode = 1 ∨ e.opcode = 2 ∨ e.opcode = 0x10) && decide (e.wcnt < 48)
   else e.waitField == 0 && e.wtarget == 0 && e.opcode != 1)

/-- The command as it is held once taken. -/
def WinEntry.toOpen (e : WinEntry) : OpenCmd :=
  { seq := e.seq, tag := e.tag, opcode := e.opcode, ring := e.ringByte }

/-! ### Completions (R553 to R556) -/

/-- A ring as applied. -/
def State.hring (s : State) (r : Nat) : HRing := Sparse.get {} s.hif.rings r

/-- A ring replaced. -/
def State.setHring (r : Nat) (x : HRing) (s : State) : State := { s with hif.rings := Sparse.set {} s.hif.rings r x }

/-- CONSUMED of a ring, as host memory holds it (R555). -/
def State.consumed (s : State) (r : Nat) : Nat := leNat (s.host.read (s.hring r).cons 8)

/-- Slots of a ring that the host has left free (R555). -/
def State.ringFree (s : State) (r : Nat) : Nat := s.consumed r + 2 ^ (s.hring r).sizeLog2 - (s.hring r).produced

/-- The ring of a RING byte. -/
def ringOf (b : Nat) : Nat := bits b 5 0

/-- Completions that wait for a ring. -/
def State.waitingFor (s : State) (r : Nat) : Nat := (s.hif.done.filter (fun c => ringOf c.ring == r)).length

/-- Records in the module's buffer: those for which their rings have no slot free (R556). -/
def State.buffered (s : State) : Nat :=
  ((s.hif.done.map (fun c => ringOf c.ring)).eraseDups.map (fun r => s.waitingFor r - s.ringFree r)).sum

/-- A completion for a ring has room: a slot of the ring itself, or a place of the buffer of 4,096 (R556). -/
def State.room (s : State) (ring : Nat) : Bool :=
  decide (s.hif.done.length < 4096) || decide (s.waitingFor (ringOf ring) < s.ringFree (ringOf ring)) || decide (s.buffered < 4096)

/-- The queues of R544: 0 none, 1 CFG, 2 switch tables, 3 meters, 4 collective launch, 5 security, 6 copy, 7 journal, 0x100 + n Sifter n. The
Sifter is given by the descriptor, or is the home of the context it names. -/
def queueOf (home : Nat → Option Nat) (e : WinEntry) : Nat :=
  let o := e.opcode
  if o = 0x11 ∨ o = 0x12 then 1
  else if 0x40 ≤ o ∧ o ≤ 0x44 then 2
  else if o = 0x48 then 3
  else if o = 0x50 then 4
  else if 0x60 ≤ o ∧ o ≤ 0x62 then 5
  else if o = 0x20 ∨ o = 0x21 then 6
  else if 0x70 ≤ o ∧ o ≤ 0x76 then 7
  else if o = 0x30 ∨ o = 0x31 ∨ o = 0x33 then 0x100 + field e.bytes 0x10 1
  else if o = 0x32 then 0x100 + (home (field e.bytes 0x12 2)).getD 0
  else if o = 0x34 then 0x100 + field e.bytes 0x10 4 / 2 ^ 27
  else 0

/-- The queue of a descriptor now; a command for a context whose home is none uses sf00 (R544). -/
def State.queueOf (s : State) (e : WinEntry) : Nat := Machine.queueOf (fun c => (Sparse.get {} s.sft.ctxs c).home) e

/-- A command ends (R553): its completion waits for its ring; without room for it, the command stays in its queue (R556). -/
def State.finishIn (queue : Nat) (targets : List Nat) (c : Compl) (s : State) : State :=
  if s.room c.ring then { s with hif.done := s.hif.done ++ [c] }
  else { s with hif.ending := s.hif.ending ++ [{ c, queue, targets }] }

/-- A descriptor just taken ends (R553). -/
def State.finishEntry (e : WinEntry) (status r0 : Nat) (s : State) : State :=
  s.finishIn (s.queueOf e) [] { seq := e.seq, tag := e.tag, opcode := e.opcode, ring := e.ringByte, status, r0 }

/-- A command that was open ends (R553). -/
def State.finishOpen (c : OpenCmd) (status r0 r1 nfault : Nat) (s : State) : State :=
  ({ s with hif.opened := s.hif.opened.filter (fun o => o.seq != c.seq) } : State).finishIn
    (Machine.queueOf (fun _ => none) { bytes := [0, 0, 0, 0, BitVec.ofNat 8 c.opcode] }) (c.all.map Prod.snd)
    { seq := c.seq, tag := c.tag, opcode := c.opcode, ring := c.ring, status, r0, r1, nfault }

/-- Commands whose completions now have room complete, oldest first (R556). -/
def State.admitEnding (s : State) : State :=
  s.hif.ending.foldl (fun s h => if s.room h.c.ring then
      { s with hif.done := s.hif.done ++ [h.c], hif.ending := s.hif.ending.filter (fun x => x.c.seq != h.c.seq) } else s) s

/-- The command with a SEQ among those open. -/
def State.openCmd (s : State) (seq : Nat) : Option OpenCmd := s.hif.opened.find? (fun o => o.seq == seq)

/-- An open command replaced by SEQ. -/
def State.setOpen (c : OpenCmd) (s : State) : State :=
  { s with hif.opened := s.hif.opened.map (fun o => if o.seq == c.seq then c else o) }

/-- The module takes commands: it is ready, powered, and not in reset (R543, R568, R579). -/
def State.serving (s : State) : Bool := s.ref.ready && !s.ref.inReset && s.ref.coresOn && !s.ref.epo

/-- The descriptor may be taken now: the module serves, and its fence, if set, is met: every command before it has written its completion
(R545). -/
def State.canTake (s : State) (e : WinEntry) : Bool :=
  s.serving &&
  (!e.fenceBit || (s.hif.opened.isEmpty && s.hif.done.isEmpty && s.hif.parked.isEmpty && s.hif.ending.isEmpty))

/-- A bus-master request was answered with an error: HOST_ABORT is recorded and the command ends with it (R554, R562). -/
def State.hostAbort (e : WinEntry) (addr : Nat) (s : State) : State :=
  (s.raise .hif 0 6 e.tag addr (e.seq + e.opcode * 2 ^ 32) 0).finishEntry e 0x0806 0

/-- A multiplexer. -/
def State.mux (s : State) (m : Nat) : Mux := Sparse.get {} s.clk.muxes m
/-- A multiplexer replaced. -/
def State.setMux (m : Nat) (x : Mux) (s : State) : State := { s with clk.muxes := Sparse.set {} s.clk.muxes m x }

/-- The clock of a multiplexer's domain has stopped for good: nothing that runs on it goes on (R528). -/
def State.clockStopped (s : State) (m : Nat) : Bool := m != 0 && (s.mux m).stuck

/-- Something that happens in the domain of a multiplexer, if its clock runs (R528). -/
def State.inDomain (m : Nat) (go : State → State) (s : State) : State := if s.clockStopped m then s else go s

/-- The multiplexer of a port die's switch clock, on which its switch core, Sifters, central store and Pantry run (R520, R535). -/
def switchMux (die : Nat) : Nat := 1 + die
/-- The multiplexer of a port die's timestamps (R520, R535). -/
def stampMux (die : Nat) : Nat := 5 + die
/-- The multiplexer of a stack's LB4 (R520, R535). -/
def lb4Mux (stack : Nat) : Nat := 9 + stack

/-- The port die of a port, and of a Sifter by the same division (R18). -/
def portDie (port : Nat) : Nat := port / 32

/-- Module time as a port die's counter shows it: where its clock hung, if it did (R341, R528). -/
def State.timeOn (s : State) (die : Nat) : Nat := if s.clockStopped (stampMux die) then (s.mux (stampMux die)).stuckAt else s.time.now

/-- The PCIe link carries requests: it is up and the module is neither in reset nor without its core supplies (R565, R567). -/
def State.linked (s : State) : Bool := s.ref.linkUp && !s.ref.inReset && s.ref.coresOn

/-- Places of the command window (R543). -/
def windowSize : Nat := 4096

/-- Posted-request credits are withheld: no write of the host reaches any BAR (R543). -/
def State.stalled (s : State) : Bool := decide (windowSize < s.hif.window.length + 8)

/-- The three BARs answer: the function is in D0 with Memory Space Enable set (R539). -/
def State.barsOpen (s : State) : Bool := s.ref.memSpace && !s.ref.d3hot

/-- BAR0 answers: the link is up and the windows are open (R539, R565). -/
def State.bar0Open (s : State) : Bool := s.linked && s.barsOpen

/-- A request that comes on a selective IDE stream, or outside any, is refused by IDE: its stream is Insecure, or IDE is required and it came
outside a Secure stream (R497). -/
def State.ideRefused (s : State) (stream : Option Nat) : Bool :=
  match stream with
  | some k => bitOn s.sec.ideInsecure k || (s.fld .sec 0 0x108 1 1 == 1 && !bitOn s.sec.ideSecure k)
  | none => s.fld .sec 0 0x108 1 1 == 1

/-- A request to BAR2 or BAR4 is refused: the windows are closed (R539), the module is not ready (R568), or IDE refuses it (R497). -/
def State.barRefused (s : State) (stream : Option Nat) : Bool := !s.barsOpen || !s.ref.ready || s.ideRefused stream

/-- STATUS CMD_FORMAT. -/
def stFormat : Nat := 0x0840
/-- STATUS CMD_WAIT_FULL. -/
def stWaitFull : Nat := 0x0841
/-- STATUS DET_VARIANT of ATOMIC FADD and GET_RANDOM. -/
def stVariant : Nat := 0x0842
/-- STATUS REF_FATAL. -/
def stFatal : Nat := 0x0140
/-- STATUS HOST_ABORT. -/
def stHostAbort : Nat := 0x0806
/-- STATUS CMD_NO_PLACEMENT. -/
def stNoPlacement : Nat := 0x0240
/-- STATUS SYNC_BAD_TARGET, bit 11 of a block page. -/
def stBadTarget : Nat := 0x110B
/-- STATUS SYNC_ABANDONED, bit 10 of a block page. -/
def stAbandoned : Nat := 0x110A

/-- The module may issue bus-master requests: bus mastering is on (R539), and with IDE_REQ set a Secure stream exists (R497). -/
def State.hostDma (s : State) : Bool := s.ref.busMaster && (s.fld .sec 0 0x108 1 1 == 0 || s.sec.ideSecure != 0)

/-- Bytes by XADDR that a COPY or an ATOMIC reads or writes: host or device, address, length. -/
def WinEntry.ranges (e : WinEntry) : List (Bool × Nat × Nat) :=
  let at_ := fun (x n : Nat) => (xDev x, xAddr x, n)
  if e.opcode = 0x20 then [at_ (e.op 0x10 8) (e.op 0x20 8), at_ (e.op 0x18 8) (e.op 0x20 8)]
  else [(true, e.op 0x18 8, 128), at_ (e.op 0x30 8) 72]

/-- Two commands of the Copy queue touch a common byte. -/
def WinEntry.meets (d e : WinEntry) : Bool :=
  d.ranges.any (fun x => e.ranges.any (fun y => x.1 == y.1 && decide (x.2.1 < y.2.1 + y.2.2) && decide (y.2.1 < x.2.1 + x.2.2)))

/-- A command may execute, those in `before` having been taken before it and not yet executed: it is the first of its queue, and no command
of the queue is held at its end (R544, R556). The Copy queue issues up to 16, where no bytes overlap (R421). -/
def State.mayRun (s : State) (before : List WinEntry) (e : WinEntry) : Bool :=
  let q := s.queueOf e
  let mine := before.filter (fun d => s.queueOf d == q)
  q == 0 || (s.hif.ending.all (fun h => h.queue != q) &&
    (if q = 6 then decide (mine.length < 16) && mine.all (fun d => !d.meets e) else mine.isEmpty))

/-- The oldest command of those chosen that waits in its queue and may execute now. -/
def State.parkedNext (chosen : WinEntry → Bool) (waits : State → WinEntry → Bool) (s : State) : Option WinEntry :=
  (s.hif.parked.zipIdx.find? (fun x => chosen x.1 && s.mayRun (s.hif.parked.take x.2) x.1 && !waits s x.1)).map Prod.fst

/-- A command of a queue put behind those that wait in it. -/
def State.park (e : WinEntry) (s : State) : State := { s with hif.parked := s.hif.parked ++ [e] }

/-- A command leaves those that wait. -/
def State.unpark (e : WinEntry) (s : State) : State := { s with hif.parked := s.hif.parked.filter (fun d => d.seq != e.seq) }

/-- Taking the descriptor at the front of the window, if it is one of those chosen and may be taken now. The steps every
descriptor shares come first: a ring that is off (R553), a fatal state (R573), the format of the header and of the operands
(R544); then `go` carries the command on. -/
def State.takeFront (chosen formatOk : WinEntry → Bool) (go : WinEntry → State → State) (s : State) : State :=
  match s.hif.window with
  | [] => s
  | e :: rest =>
    if !chosen e || !s.canTake e then s
    else
      let t : State := { s with hif.window := rest }
      if s.fld .hif 0 (0x408 + 0x20 * e.ring) 0 0 == 0 then t.raise .hif 0 3 e.tag 0 (e.seq + e.opcode * 2 ^ 32) 0
      else if s.ref.faulted then t.finishEntry e stFatal 0
      else if !e.headerOk || !formatOk e then t.finishEntry e stFormat 0
      else go e t

/-- A command of those chosen goes on: the oldest that waits in its queue and may execute now, or else the descriptor at the front of the
window, which waits in its queue where it may not execute yet (R544). `body` executes it. -/
def State.take (chosen formatOk : WinEntry → Bool) (waits : State → WinEntry → Bool) (body : WinEntry → State → State)
    (s : State) : State :=
  match (if s.serving then s.parkedNext chosen waits else none) with
  | some e => body e (s.unpark e)
  | none => s.takeFront chosen formatOk (fun e t =>
      if waits t e || !t.mayRun t.hif.parked e then t.park e else body e t)

/-! ### Host and device memory by XADDR -/

/-- Bytes of host memory. -/
def State.hostRead (s : State) (a n : Nat) : List Byte := s.host.read a n

/-- Bytes written to host memory. -/
def State.hostWrite (a : Nat) (bs : List Byte) (s : State) : State := { s with host := s.host.write a bs }

/-- Strict mode is on (R456). -/
def State.strict (s : State) : Bool := s.place.strict

end Sys2Proof.Machine
end

