-- ==== Sys2Proof/Machine/Pantry.lean ====
section
/-! DEFINITION. Pantry and the central store: store classes, pools and tiers, allocation and return of buffers, occupancy, thresholds
and back-pressure, and paging (R275, R276, R295 to R314; 08_switch_core_and_central_store.md). -/

namespace Sys2Proof.Machine

/-! ### Layout (R295, R296, R301, R314) -/

/-- PNT_POOLp in force. -/
def State.poolReg (s : State) (p : Nat) : Nat := (Sparse.get (0#64) s.pnt.pools p).toNat
/-- First page of a pool register's region. -/
def poolBase (v : Nat) : Nat := bits v 19 0
/-- Pages of a pool register's region. -/
def poolPages (v : Nat) : Nat := bits v 39 20
/-- Resident-tier pages of a pool register's region. -/
def poolRes (v : Nat) : Nat := bits v 59 40

/-- A buffer of pool `p` in units of 256 bytes: Crumb 1, Roll 8, Loaf 64, Batch 512 (R301). -/
def poolUnits (p : Nat) : Nat := 8 ^ p
/-- Bytes of a buffer of pool `p`. -/
def poolBytes (p : Nat) : Nat := 256 * poolUnits p
/-- Units of 256 bytes in a page of 128 KiB (R295). -/
def pageUnits : Nat := 512
/-- The page of a pointer (R304). -/
def pageOfPtr (ptr : Nat) : Nat := ptr / pageUnits

/-- The smallest pool that holds a length, if one does (R301). -/
def poolFor (len : Nat) : Option Nat := (List.range 4).find? (fun p => decide (len ≤ poolBytes p))

/-- A page always has a frame: it lies in a resident tier, or there is no spill region (R296). -/
def State.pageFixed (s : State) (pg : Nat) : Bool :=
  s.pnt.spillGib == 0 || (List.range 4).any (fun p =>
    let v := s.poolReg p
    decide (poolBase v ≤ pg) && decide (pg < poolBase v + poolRes v))

/-- A page has a frame. -/
def State.pageResident (s : State) (pg : Nat) : Bool := s.pageFixed pg || s.pnt.resident.contains pg

/-- Frames in use by resident tiers. -/
def State.fixedFrames (s : State) : Nat := ((List.range 4).map (fun p => poolRes (s.poolReg p))).sum

/-- Free frames (R295, R319). -/
def State.freeFrames (s : State) : Nat :=
  if s.pnt.en && s.pnt.spillGib != 0 then 8192 - s.fixedFrames - s.pnt.resident.length else 0

/-- Some allocated buffer lies in a page. -/
def State.pageInUse (s : State) (pg : Nat) : Bool :=
  s.pnt.bufs.any (fun c => decide (pageOfPtr c.1 ≤ pg) && decide (pg * pageUnits < c.1 + poolUnits c.2.pool))

/-- An access to a page: a resident one is marked touched and its page-out is cancelled; a paged-out one is asked for (R297). -/
def State.touchPage (pg : Nat) (s : State) : State :=
  if s.pageFixed pg then s
  else if s.pnt.resident.contains pg then
    { s with pnt.touched := addTo s.pnt.touched pg, pnt.pagingOut := s.pnt.pagingOut.filter (· != pg) }
  else { s with pnt.waitIn := addTo s.pnt.waitIn pg }

/-- A page holds some of a list of buffers. -/
def State.inPage (s : State) (pg : Nat) (bufs : List Nat) : Bool :=
  bufs.any (fun q => match Sparse.get? s.pnt.bufs q with
    | some i => decide (pageOfPtr q ≤ pg) && decide (pg * pageUnits < q + poolUnits i.pool)
    | none => false)

/-- A page is being read or written by a port (R297). -/
def State.pageBusy (s : State) (pg : Nat) : Bool := s.sw.frames.any (fun f => !f.complete && s.inPage pg f.bufs)

/-- A list turned to start elsewhere. -/
def rotate {α : Type} (n : Nat) (l : List α) : List α := if l.isEmpty then l else l.drop (n % l.length) ++ l.take (n % l.length)

/-- Frames that are free or will be when the page-outs under way have finished. -/
def State.framesSoon (s : State) : Nat := s.freeFrames + s.pnt.pagingOut.length

/-- Untouched pages leave their frames until FRAME_HIGH frames are free or on their way (R297): one that holds no buffer at once, without
a write. -/
def State.outPages (s : State) (cands : List Nat) : State :=
  cands.foldl (fun s pg =>
    if s.fld .pnt 0 0x138 41 29 ≤ s.framesSoon then s
    else if 16 ≤ pg ∧ !s.pageInUse pg then { s with pnt.resident := s.pnt.resident.filter (· != pg), pnt.touched := s.pnt.touched.filter (· != pg) }
    else { s with pnt.pagingOut := addTo s.pnt.pagingOut pg }) s

/-- Page-out goes on, from the moment the free frames fall below FRAME_LOW until FRAME_HIGH are free (R297). Which untouched page goes first is
not stated: the list starts at a free value. -/
def State.pageWork (s : State) : State :=
  if !s.pnt.en || s.pnt.spillGib == 0 || !(s.pnt.paging || decide (s.freeFrames < s.fld .pnt 0 0x138 28 16)) then s
  else
    let cands := s.pnt.resident.filter (fun pg => !s.pnt.touched.contains pg && !s.pageBusy pg && !s.pnt.pagingOut.contains pg)
    let t := s.useFree.outPages (rotate (Config.free s.free) cands)
    { t with pnt.paging := decide (t.framesSoon < t.fld .pnt 0 0x138 41 29) }

/-- A buffer is about to be allocated in a page: a page that holds no buffer takes a free frame with nothing to read. -/
def State.enterPage (pg : Nat) (s : State) : State :=
  if !s.pageFixed pg && !s.pnt.resident.contains pg && !s.pageInUse pg && decide (0 < s.freeFrames) then
    ({ s with
      pnt.resident := s.pnt.resident ++ [pg], pnt.touched := addTo s.pnt.touched pg, pnt.waitIn := s.pnt.waitIn.filter (· != pg) } : State).pageWork
  else s.touchPage pg

/-! ### Errors (R315, R316) -/

/-- ERR_INFO0 of the Pantry page. -/
def pntInfo (unit cls pool tier reason ptr : Nat) : Nat :=
  unit * 2 ^ 56 + cls * 2 ^ 52 + pool * 2 ^ 50 + tier * 2 ^ 49 + reason * 2 ^ 32 + ptr % 2 ^ 32

/-- An error on the Pantry page. -/
def State.pntErr (bit info addr : Nat) (s : State) : State := s.raise .pnt 0 bit 0 info addr 0

/-! ### Occupancy, thresholds and back-pressure (R306 to R309) -/

/-- Buffers held by a class in a pool. -/
def State.occ (s : State) (c p : Nat) : Nat := s.pnt.occ.num (4 * c + p)

/-- PNT_THRc_p: ALERT, THROTTLE and STOP in buffers. -/
def State.thr (s : State) (c p k : Nat) : Nat := 16 * s.fld .pnt 0 (0x300 + 0x20 * c + 8 * p) (21 * k + 20) (21 * k)

/-- PNT_OCCc_p.LEVEL (R308, R320). -/
def State.level (s : State) (c p : Nat) : Nat :=
  let n := s.occ c p
  if s.thr c p 2 ≤ n then 3 else if s.thr c p 1 ≤ n then 2 else if s.thr c p 0 ≤ n then 1 else 0

/-- The class is at THROTTLE or above in some pool. -/
def State.atThrottle (s : State) (c : Nat) : Bool := (List.range 4).any (fun p => decide (2 ≤ s.level c p))

/-- The mode of a port: 0 off, 1 Ethernet, 2 Rally (R348, R383). -/
def State.portMode (s : State) (n : Nat) : Nat := bits (s.reg .fab 0 0x110) (2 * (n / 8) + 1) (2 * (n / 8))

/-- The port's SerDes are clocked: the PLL of its mode group is locked, outside COAST (R520, R521, R524). -/
def State.serdesOn (s : State) (n : Nat) : Bool := (Sparse.get {} s.clk.plls (10 + n / 8)).locked && !s.clk.coast

/-- The Ethernet side of a port. -/
def State.port (s : State) (n : Nat) : Port := Sparse.get {} s.ports n
/-- The Ethernet side of a port replaced. -/
def State.setPort (n : Nat) (x : Port) (s : State) : State := { s with ports := Sparse.set {} s.ports n x }

/-- A port carries Ethernet traffic: in Ethernet mode, up, and not in COAST (R225, R350). -/
def State.ethUp (s : State) (n : Nat) : Bool := s.portMode n == 1 && (s.port n).up && !s.clk.coast

/-- The class has reached THROTTLE in some pool and has not fallen below ALERT there since. -/
def State.throttling (s : State) (c : Nat) : Bool := (List.range 4).any (fun p => s.pnt.throttled.contains (4 * c + p))

/-- A PFC PAUSE frame of a port (R309). -/
def State.sendPause (n c q : Nat) (s : State) : State :=
  if s.ethUp n then { s with out.pause := s.out.pause ++ [(n, c, q)] } else s

/-- XOFF of a class on a port follows the class's state and TX_EN (R308, R309). -/
def State.pfcPort (c : Nat) (s : State) (n : Nat) : State :=
  let want := s.throttling c && s.portMode n == 1 && bitOn (s.reg .port n 0x418) c
  let has := bitOn (s.pnt.xoff.num n) c
  if want && !has then
    ({ s with pnt.xoff := s.pnt.xoff.setNum n (setBit (s.pnt.xoff.num n) c) } : State).sendPause n c (s.fld .port n 0x418 39 24)
  else if !want && has then
    ({ s with pnt.xoff := s.pnt.xoff.setNum n (clearBit (s.pnt.xoff.num n) c) } : State).sendPause n c 0
  else s

/-- The levels of a class are noted; an occupancy that reaches ALERT or THROTTLE is an event (R308). -/
def State.noteLevels (c : Nat) (s : State) : State :=
  (List.range 4).foldl (fun s p =>
    let l := s.level c p
    let seen := s.pnt.levels.num (4 * c + p)
    { s with
      pnt.levels := s.pnt.levels.setNum (4 * c + p) l
      out.levels := s.out.levels ++ ([1, 2].filter (fun k => decide (seen < k) && decide (k ≤ l))).map (fun k => (c, p, k)) }) s

/-- A class's occupancy is compared with its thresholds (R308). -/
def State.compareClass (c : Nat) (s0 : State) : State :=
  let s := s0.noteLevels c
  let hold (t : List Nat) (p : Nat) : List Nat :=
    if s.thr c p 1 ≤ s.occ c p then addTo t (4 * c + p)
    else if s.occ c p < s.thr c p 0 then t.filter (· != 4 * c + p) else t
  let s1 : State := { s with pnt.throttled := (List.range 4).foldl hold s.pnt.throttled }
  if c < 8 then (List.range 128).foldl (State.pfcPort c) s1
  else if c < 14 then
    { s1 with pnt.withheld := if s1.throttling c then setBit s1.pnt.withheld (c - 8) else clearBit s1.pnt.withheld (c - 8) }
  else s1

/-! ### Allocation and return (R302, R304, R307) -/

/-- A tier of a pool: its first pointer and how many buffers it has. -/
def State.tier (s : State) (p : Nat) (paged : Bool) : Nat × Nat :=
  let v := s.poolReg p
  if paged then ((poolBase v + poolRes v) * pageUnits, (poolPages v - poolRes v) * pageUnits / poolUnits p)
  else (poolBase v * pageUnits, poolRes v * pageUnits / poolUnits p)

/-- A free buffer of a tier. The order in which pointers are handed out is not promised (R302): the search starts at a free value. -/
def State.freePtr (s : State) (p : Nat) (paged : Bool) : Option Nat :=
  let (base, n) := s.tier p paged
  if n = 0 then none
  else
    let start := if n = 1 then 0 else Config.free s.free % n
    ((List.range (min n (s.pnt.bufs.length + 1))).map (fun i => base + poolUnits p * ((start + i) % n))).find?
      (fun q => (Sparse.get? s.pnt.bufs q).isNone)

/-- The class may spill: it allocates from the paged tier (R296). -/
def State.spills (s : State) (c : Nat) : Bool := s.fld .pnt 0 (0x200 + 8 * c) 0 0 == 0

/-- Bytes of buffer size held by frames received on a port are below IN_LIMIT (R307, R324). -/
def State.inBelow (s : State) (port : Option Nat) : Bool :=
  match port with | some n => decide (s.pnt.inBytes.num n < 4096 * s.fld .port n 0x408 19 0) | none => true

/-- Bytes of buffer size queued to a port are below OUT_LIMIT (R307, R324). -/
def State.outBelow (s : State) (n : Nat) : Bool := decide (s.pnt.outBytes.num n < 4096 * s.fld .port n 0x408 39 20)

/-- An allocation from a pool can be granted (R307). -/
def State.canAlloc (s : State) (c p : Nat) (port : Option Nat) : Bool :=
  s.pnt.en && s.inBelow port && decide (s.occ c p < s.thr c p 2) && (s.freePtr p (s.spills c)).isSome

/-- A buffer of pool `p` for class `c`: its pointer, and the state with it allocated, or none where it is refused (R307). -/
def State.alloc (c p : Nat) (port : Option Nat) (s : State) : Option (Nat × State) :=
  if !s.canAlloc c p port then none
  else match s.freePtr p (s.spills c) with
  | none => none
  | some q =>
    let s1 : State := (s.useFree).enterPage (pageOfPtr q)
    let s2 : State := { s1 with
      pnt.bufs := Sparse.put s1.pnt.bufs q { pool := p, cls := c, paged := s.spills c, port := port }
      pnt.occ := s1.pnt.occ.addNum (4 * c + p) 1
      pnt.inBytes := match port with | some n => s1.pnt.inBytes.addNum n (poolBytes p) | none => s1.pnt.inBytes }
    some (q, s2.compareClass c)

/-- A number of a table lowered, to 0 at the least. -/
def Sparse.subNum (m : Sparse Nat) (k n : Nat) : Sparse Nat := m.setNum k (m.num k - n)

/-- A pointer returned to a pool by a unit, after the checks of R304. -/
def State.freeBuf (unit pool : Nat) (s : State) (q : Nat) : State :=
  let v := s.poolReg pool
  let lo := poolBase v * pageUnits
  let info := Sparse.get? s.pnt.bufs q
  let bad (reason : Nat) : State :=
    (s.pntErr 2 (pntInfo unit ((info.map BufInfo.cls).getD 0) pool (b2n ((info.map BufInfo.paged).getD false)) reason q) 0).evtAdd .pnt 0 5 1
  if q < lo ∨ lo + poolPages v * pageUnits ≤ q then bad 0
  else if (q - lo) % poolUnits pool ≠ 0 then bad 1
  else match info with
  | none => bad 2
  | some i =>
    let s1 : State := { s with
      pnt.bufs := Sparse.del s.pnt.bufs q
      pnt.occ := s.pnt.occ.subNum (4 * i.cls + i.pool) 1
      pnt.inBytes := match i.port with | some n => s.pnt.inBytes.subNum n (poolBytes i.pool) | none => s.pnt.inBytes }
    s1.compareClass i.cls

/-- Pointers returned by a unit, each to the pool it came from. -/
def State.freeBufs (unit : Nat) (qs : List Nat) (s : State) : State :=
  qs.foldl (fun s q => s.freeBuf unit (((Sparse.get? s.pnt.bufs q).map BufInfo.pool).getD 0) q) s

/-- Bytes of buffer size of a list of pointers (R306). -/
def State.bufBytes (s : State) (qs : List Nat) : Nat :=
  (qs.map (fun q => match Sparse.get? s.pnt.bufs q with | some i => poolBytes i.pool | none => 0)).sum

/-- An access to the pages of buffers (R297). -/
def State.touchBufs (qs : List Nat) (s : State) : State := qs.foldl (fun s q => s.touchPage (pageOfPtr q)) s

/-- Every page of the buffers has a frame. -/
def State.bufsResident (s : State) (qs : List Nat) : Bool := qs.all (fun q => s.pageResident (pageOfPtr q))

/-- A fabric packet refused a buffer (R307). -/
def State.overrun (unit c p : Nat) (s : State) : State :=
  (s.pntErr 4 (pntInfo unit c p (b2n (s.spills c)) 0 0) 0).evtAdd .pnt 0 7 1

/-- A central-store error met in a buffer by a unit, for a command's tag: 1 corrected, 2 uncorrectable; the record names the buffer (R300, R316).
The port die whose SRAM holds the page is not stated: it is a free value. -/
def State.storeError (unit tag upset q : Nat) (s : State) : State :=
  let i := (Sparse.get? s.pnt.bufs q).getD {}
  let info := pntInfo unit i.cls i.pool (b2n i.paged) 0 q
  if upset = 1 then (s.useFree.raise .pnt 0 6 tag info 0 0).sbAdd (0x0140 + Config.free s.free % 4) 1
  else if upset = 2 then s.raise .pnt 0 7 tag info 0 0
  else s

/-- The pool that stages a transfer of a length; a longer one than a Batch goes through one Batch after another (R301, log 58). -/
def hostPool (n : Nat) : Nat := (poolFor n).getD 3

/-- A buffer for a transfer between host memory and the module can be had (R276, R301, R307). Until Pantry is enabled nothing is staged. -/
def State.hostStaged (s : State) (n : Nat) : Bool := !s.pnt.en || s.canAlloc 14 (hostPool n) none

/-- A command that moves data to or from host memory waits while no bus-master request may be issued (R497, R539) or no buffer
can be had for it (R307). -/
def State.hostWaits (s : State) (len : Option Nat) : Bool :=
  match len with | none => false | some n => !(s.hostDma && s.hostStaged n)

/-- STATUS CS_UE. -/
def stCsUe : Nat := 0x2307

/-- The central-store error that a transfer meets. -/
def upsetOf (w : HostWay) : Nat := match w with | .corrected => 1 | .uncorrectable => 2 | _ => 0

/-- What the host interface does with a transfer of a command: host memory answers with an error, or the bytes pass through a buffer of class 14,
which goes back when they have passed (R275, R276, R300, R301, R554). `go` makes the transfer. -/
def State.viaHost (way : HostWay) (e : WinEntry) (len : Option Nat) (addr : Nat) (go : State → State) (s : State) : State :=
  match len with
  | none => go s
  | some n =>
    if way = .aborted then s.hostAbort e addr
    else match s.alloc 14 (hostPool n) none with
    | none => go s
    | some (q, t) =>
      let u := t.storeError 0x10 e.tag (upsetOf way) q
      (if way = .uncorrectable then u.finishEntry e stCsUe 0 else go u).freeBuf 0x10 (hostPool n) q

/-! ### The layout put in force (R299, R303, R314) -/

/-- Two ranges overlap. -/
def spansMeet (a m b n : Nat) : Bool := decide (a < b + n) && decide (b < a + m) && decide (0 < m) && decide (0 < n)

/-- The programmed pool registers. -/
def State.poolRegs (s : State) : List Nat := (List.range 4).map (fun p => s.reg .pnt 0 (0x118 + 8 * p))

/-- The layout registers have been written: some pool has a region (R303, log 119). -/
def State.laidOut (s : State) : Bool := s.poolRegs.any (fun v => v != 0)

/-- PNT_STAT.META_MIB for the layout programmed (R303). -/
def State.metaMib (s : State) (spill : Nat) : Nat := Config.metaMib spill s.poolRegs % 4096

/-- The layout programmed is valid with a spill size (R299, R303, R314). -/
def State.layoutOk (s : State) (spill : Nat) : Bool :=
  let vs := s.poolRegs
  let sb := s.reg .pnt 0 0x108 / 2 ^ 30 * 2 ^ 30
  let mb := s.reg .pnt 0 0x110 / 2 ^ 20 * 2 ^ 20
  let sn := spill * 2 ^ 30
  let mn := s.metaMib spill * 2 ^ 20
  let stackOf (a n : Nat) : Nat × Nat := (a / 2 ^ 36, (a + (n - 1)) / 2 ^ 36)
  vs.all (fun v => !spansMeet (poolBase v) (poolPages v) 0 16 && decide (poolBase v + poolPages v ≤ 8192 * (1 + spill)) &&
      decide (poolRes v ≤ poolPages v)) &&
    (List.range 4).all (fun i => (List.range i).all (fun j =>
      !spansMeet (poolBase (vs.getD i 0)) (poolPages (vs.getD i 0)) (poolBase (vs.getD j 0)) (poolPages (vs.getD j 0)))) &&
    decide ((vs.map poolRes).sum ≤ 7936) &&
    decide (sb + sn ≤ 2 ^ 40) && decide (mb + mn ≤ 2 ^ 40) &&
    (stackOf mb mn).1 == (stackOf mb mn).2 &&
    (spill == 0 || ((stackOf sb sn).1 == (stackOf sb sn).2 && (stackOf sb sn).1 == (stackOf mb mn).1)) &&
    !spansMeet sb sn mb mn

/-- EN's change from 0 to 1: the layout takes effect and every buffer is free (R302, R314). -/
def State.pantryOn (spill : Nat) (s : State) : State :=
  { s with
    pnt.en := true, pnt.spillGib := spill
    pnt.spillBase := s.reg .pnt 0 0x108 / 2 ^ 30, pnt.metaBase := s.reg .pnt 0 0x110 / 2 ^ 20
    pnt.pools := (List.range 4).foldl (fun m p => Sparse.set (0#64) m p (BitVec.ofNat 64 (s.reg .pnt 0 (0x118 + 8 * p)))) []
    pnt.bufs := [], pnt.occ := [], pnt.inBytes := [], pnt.outBytes := [], pnt.levels := [], pnt.paging := false
    pnt.resident := [], pnt.touched := [], pnt.pagingOut := [], pnt.waitIn := [] }

/-- The regions of device memory, as [first, end) ranges, whose contents are the module's own: Pantry's spill and metadata regions (R299, R303)
and the control records of the journal and the mirror (R582). -/
def State.heldRegions (s : State) : List (Nat × Nat) :=
  (if s.pnt.en then
    [(s.pnt.spillBase * 2 ^ 30, (s.pnt.spillBase + s.pnt.spillGib) * 2 ^ 30),
     (s.pnt.metaBase * 2 ^ 20, (s.pnt.metaBase + Config.metaMib s.pnt.spillGib ((List.range 4).map s.poolReg) % 4096) * 2 ^ 20)] else []) ++
  (if 0 < s.jnl.size then [(s.jnl.base, s.jnl.base + 4096)] else []) ++
  (if 0 < s.jnl.msize then [(s.jnl.mbase, s.jnl.mbase + 4096)] else [])

/-- The byte at a device address is the module's own. -/
def State.moduleHolds (s : State) (a : Nat) : Bool := s.heldRegions.any (fun r => decide (r.1 ≤ a) && decide (a < r.2))

/-- A range of device memory meets a region whose contents are the module's own. -/
def State.holdsIn (s : State) (a n : Nat) : Bool := s.heldRegions.any (fun r => decide (r.1 < a + n) && decide (a < r.2))

end Sys2Proof.Machine
end

