-- ==== Sys2Proof/Machine/Crypto.lean ====
section
/-! DEFINITION. The published functions the manual names without repeating their text: SHA3-256 and SHAKE, SHA-512, the ChaCha block
function with 8 rounds (R154), CRC-32 and CRC-32C. -/

namespace Sys2Proof.Machine

/-! ### Rotations -/

/-- A `w`-bit number rotated left by `k`. -/
def rotl (w n k : Nat) : Nat := ((n <<< (k % w)) % 2 ^ w) ||| (n >>> (w - k % w))

/-- A `w`-bit number rotated right by `k`. -/
def rotr (w n k : Nat) : Nat := rotl w n (w - k % w)

/-- The ones' complement of a `w`-bit number. -/
def notw (w n : Nat) : Nat := 2 ^ w - 1 - n % 2 ^ w

/-! ### SHA3 and SHAKE (FIPS 202)

The 1,600 bits of the permutation's state are one number: lane (x, y) is its bits from 64 (x + 5 y) up, so that the five lanes of
one y are 320 bits that θ and χ treat together. -/

/-- Where each lane goes in the steps ρ and π: the lane, how far it turns, and the lane it becomes. -/
def keccakMoves : List (Nat × Nat × Nat) :=
  [(0, 0, 0), (1, 1, 10), (2, 62, 20), (3, 28, 5), (4, 27, 15),
   (5, 36, 16), (6, 44, 1), (7, 6, 11), (8, 55, 21), (9, 20, 6),
   (10, 3, 7), (11, 10, 17), (12, 43, 2), (13, 25, 12), (14, 39, 22),
   (15, 41, 23), (16, 45, 8), (17, 15, 18), (18, 21, 3), (19, 8, 13),
   (20, 18, 14), (21, 2, 24), (22, 61, 9), (23, 56, 19), (24, 14, 4)]

/-- The step ι's constants: bit j of an entry stands for bit 2^j − 1 of the lane. -/
def keccakIota : List Nat :=
  [0x01, 0x1A, 0x5E, 0x70, 0x1F, 0x21, 0x79, 0x55, 0x0E, 0x0C, 0x35, 0x26, 0x3F, 0x4F, 0x5D, 0x53, 0x52, 0x48, 0x16, 0x66, 0x79, 0x58, 0x21, 0x74]

/-- The lane constant that an entry of `keccakIota` stands for. -/
def iotaLane (code : Nat) : Nat :=
  (List.range 7).foldl (fun v j => v + (code / 2 ^ j % 2) * 2 ^ (2 ^ j - 1)) 0

/-- A pattern of 320 bits in each of the five planes. -/
def perPlane (v : Nat) : Nat := v * (1 + 2 ^ 320 + 2 ^ 640 + 2 ^ 960 + 2 ^ 1280)

/-- θ: each lane takes the parities of the column before it and, turned by one, of the column behind it. -/
def keccakTheta (a : Nat) : Nat :=
  let par := (a ^^^ (a >>> 320) ^^^ (a >>> 640) ^^^ (a >>> 960) ^^^ (a >>> 1280)) % 2 ^ 320
  let behind := rotl 320 par 256
  let low := 1 + 2 ^ 64 + 2 ^ 128 + 2 ^ 192 + 2 ^ 256
  let turned := ((behind <<< 1) &&& (low * (2 ^ 64 - 2))) ||| ((behind >>> 63) &&& low)
  a ^^^ perPlane (rotl 320 par 64 ^^^ turned)

/-- ρ and π: each lane is turned and takes its new place. -/
def keccakTurn (a : Nat) : Nat :=
  keccakMoves.foldl (fun v m => v + rotl 64 ((a >>> (64 * m.1)) % 2 ^ 64) m.2.1 <<< (64 * m.2.2)) 0

/-- The lanes of each plane moved so that lane x holds what lane x + 1 held. -/
def planesNext (a : Nat) : Nat :=
  ((a >>> 64) &&& perPlane (2 ^ 256 - 1)) ||| ((a &&& perPlane (2 ^ 64 - 1)) <<< 256)

/-- χ: a bit flips where the next lane has a 0 and the one after it a 1. -/
def keccakChi (a : Nat) : Nat :=
  let n := planesNext a
  let m := planesNext n
  a ^^^ m ^^^ (n &&& m)

/-- The 24 rounds. -/
def keccakF (a : Nat) : Nat := keccakIota.foldl (fun v code => keccakChi (keccakTurn (keccakTheta v)) ^^^ iotaLane code) a

/-- `n` bytes squeezed out of the state, `rate` at a time; the first argument bounds the number of permutations. -/
def spongeOut (rate : Nat) : Nat → Nat → Nat → List Byte
  | 0, _, _ => []
  | k + 1, n, a => if n ≤ rate then leBytes n a else leBytes rate a ++ spongeOut rate k (n - rate) (keccakF a)

/-- The sponge: `msg` and the suffix bits of its function are absorbed `rate` bytes at a time, and `n` bytes come out. -/
def sponge (rate suffix : Nat) (msg : List Byte) (n : Nat) : List Byte :=
  let whole := msg.length / rate
  let st := (List.range whole).foldl (fun a i => keccakF (a ^^^ leNat (slice msg (rate * i) rate))) 0
  let tail := msg.drop (rate * whole)
  let last := leNat tail ^^^ (suffix * 2 ^ (8 * tail.length)) ^^^ 2 ^ (8 * rate - 1)
  spongeOut rate (n / rate + 1) n (keccakF (st ^^^ last))

/-- SHA3-256 of a byte string. -/
def sha3 (msg : List Byte) : List Byte := sponge 136 0x06 msg 32

/-- `n` bytes of SHAKE128. -/
def shake128 (msg : List Byte) (n : Nat) : List Byte := sponge 168 0x1F msg n

/-- `n` bytes of SHAKE256. -/
def shake256 (msg : List Byte) (n : Nat) : List Byte := sponge 136 0x1F msg n

/-! ### SHA-512 (FIPS 180-4) -/

/-- The whole `r`-th root of `n`, bit by bit from bit `i` down. -/
def rootFrom (r : Nat) : Nat → Nat → Nat → Nat
  | 0, acc, _ => acc
  | i + 1, acc, n => if (acc + 2 ^ i) ^ r ≤ n then rootFrom r i (acc + 2 ^ i) n else rootFrom r i acc n

/-- The first 80 primes. -/
def primes80 : List Nat :=
  [2, 3, 5, 7, 11, 13, 17, 19, 23, 29, 31, 37, 41, 43, 47, 53, 59, 61, 67, 71, 73, 79, 83, 89, 97, 101, 103, 107, 109, 113,
   127, 131, 137, 139, 149, 151, 157, 163, 167, 173, 179, 181, 191, 193, 197, 199, 211, 223, 227, 229, 233, 239, 241, 251,
   257, 263, 269, 271, 277, 281, 283, 293, 307, 311, 313, 317, 331, 337, 347, 349, 353, 359, 367, 373, 379, 383, 389, 397,
   401, 409]

/-- The round constants: the first 64 fraction bits of the cube roots of the first 80 primes. -/
def sha512K : List Nat := primes80.map (fun p => rootFrom 3 68 0 (p * 2 ^ 192) % 2 ^ 64)

/-- The initial state: the first 64 fraction bits of the square roots of the first 8 primes. -/
def sha512H : List Nat := (primes80.take 8).map (fun p => rootFrom 2 68 0 (p * 2 ^ 128) % 2 ^ 64)

/-- The message schedule, newest word first, extended by `k` words. -/
def sha512Extend : Nat → List Nat → List Nat
  | 0, w => w
  | k + 1, w =>
    let s0 := let x := w.getD 14 0; rotr 64 x 1 ^^^ rotr 64 x 8 ^^^ (x >>> 7)
    let s1 := let x := w.getD 1 0; rotr 64 x 19 ^^^ rotr 64 x 61 ^^^ (x >>> 6)
    sha512Extend k (((w.getD 15 0 + s0 + w.getD 6 0 + s1) % 2 ^ 64) :: w)

/-- One round of SHA-512 on the working variables a to h. -/
def sha512Round (v : List Nat) (kw : Nat × Nat) : List Nat :=
  match v with
  | [a, b, c, d, e, f, g, h] =>
    let s1 := rotr 64 e 14 ^^^ rotr 64 e 18 ^^^ rotr 64 e 41
    let ch := (e &&& f) ^^^ (notw 64 e &&& g)
    let t1 := h + s1 + ch + kw.1 + kw.2
    let s0 := rotr 64 a 28 ^^^ rotr 64 a 34 ^^^ rotr 64 a 39
    let mj := (a &&& b) ^^^ (a &&& c) ^^^ (b &&& c)
    [(t1 + s0 + mj) % 2 ^ 64, a, b, c, (d + t1) % 2 ^ 64, e, f, g]
  | v => v

/-- A 128-byte block absorbed into the state. -/
def sha512Block (h : List Nat) (blk : List Byte) : List Nat :=
  let w0 := ((List.range 16).map (fun i => beNat (slice blk (8 * i) 8))).reverse
  let w := (sha512Extend 64 w0).reverse
  let v := (sha512K.zip w).foldl sha512Round h
  List.zipWith (fun a b => (a + b) % 2 ^ 64) h v

/-- SHA-512 of a byte string. -/
def sha512 (msg : List Byte) : List Byte :=
  let z := (239 - msg.length % 128) % 128
  let m := msg ++ [0x80] ++ List.replicate z 0 ++ beBytes 16 (8 * msg.length)
  ((chunksOf 128 m).foldl sha512Block sha512H).flatMap (fun x => beBytes 8 x)

/-! ### ChaCha with 8 rounds -/

/-- A quarter round on four words of a state. -/
def chachaQuarter (s : List Nat) (q : Nat × Nat × Nat × Nat) : List Nat :=
  let (ia, ib, ic, id) := q
  let a := s.getD ia 0
  let b := s.getD ib 0
  let c := s.getD ic 0
  let d := s.getD id 0
  let a := (a + b) % 2 ^ 32
  let d := rotl 32 (d ^^^ a) 16
  let c := (c + d) % 2 ^ 32
  let b := rotl 32 (b ^^^ c) 12
  let a := (a + b) % 2 ^ 32
  let d := rotl 32 (d ^^^ a) 8
  let c := (c + d) % 2 ^ 32
  let b := rotl 32 (b ^^^ c) 7
  (((s.set ia a).set ib b).set ic c).set id d

/-- A column round then a diagonal round. -/
def chachaDouble (s : List Nat) : List Nat :=
  [(0, 4, 8, 12), (1, 5, 9, 13), (2, 6, 10, 14), (3, 7, 11, 15),
   (0, 5, 10, 15), (1, 6, 11, 12), (2, 7, 8, 13), (3, 4, 9, 14)].foldl chachaQuarter s

/-- The sixteen words of a ChaCha8 block: constants, seed, block counter, nonce (R154). -/
def chacha8 (seed : List Byte) (counter nonce : Nat) : List Nat :=
  let st := [0x61707865, 0x3320646E, 0x79622D32, 0x6B206574] ++ (List.range 8).map (fun i => field seed (4 * i) 4) ++
    [bits counter 31 0, bits counter 63 32, bits nonce 31 0, bits nonce 63 32]
  let r := chachaDouble (chachaDouble (chachaDouble (chachaDouble st)))
  List.zipWith (fun a b => (a + b) % 2 ^ 32) st r

/-- The random word of R154: purpose, cell, index of the block counter, the step as nonce, and which word of the block. -/
def randomWord (seed : List Byte) (purpose cell index step word : Nat) : Nat :=
  (chacha8 seed (purpose * 2 ^ 56 + cell * 2 ^ 48 + index % 2 ^ 48) (step % 2 ^ 64)).getD word 0

/-! ### Cyclic redundancy checks -/

/-- One bit of a reflected CRC. -/
def crcBit (poly c : Nat) : Nat := if c % 2 = 1 then (c >>> 1) ^^^ poly else c >>> 1

/-- One byte of a reflected CRC. -/
def crcByte (poly c : Nat) (b : Byte) : Nat :=
  let x := c ^^^ b.toNat
  crcBit poly (crcBit poly (crcBit poly (crcBit poly (crcBit poly (crcBit poly (crcBit poly (crcBit poly x)))))))

/-- A reflected 32-bit CRC, with all ones in and out. -/
def crcOf (poly : Nat) (bs : List Byte) : Nat := notw 32 (bs.foldl (crcByte poly) 0xFFFFFFFF)

/-- CRC-32, the Ethernet polynomial. -/
def crc32 (bs : List Byte) : Nat := crcOf 0xEDB88320 bs

/-- CRC-32C. -/
def crc32c (bs : List Byte) : Nat := crcOf 0x82F63B78 bs

end Sys2Proof.Machine
end

