-- ==== Sys2Proof/Machine/Operands.lean ====
section
/-! DEFINITION. Operand forms: the element formats of a matrix cell, their widths and layouts, the scales, and the exact value
that an encoding decodes to (03_number_formats.md). -/

namespace Sys2Proof.Machine

/-- An exact value: finite `±m × 2^e` (a zero keeps its sign), an infinity, or NaN (R116, R117). -/
inductive Num where
  /-- Finite: sign, magnitude and binary exponent. -/
  | fin (neg : Bool) (m : Nat) (e : Int)
  /-- Infinity. -/
  | inf (neg : Bool)
  /-- NaN. -/
  | nan
deriving DecidableEq, Repr

/-- Width in bits of an element of a format code (R70, R110). -/
def fmtWidth (f : Nat) : Nat :=
  if f = 0x2 ∨ f = 0x3 then 6 else if f = 0x4 ∨ f = 0xD then 4
  else if f = 0x8 ∨ f = 0x9 then 16 else if f = 0xA then 32 else if f = 0xB then 64 else 8

/-- The format code is not reserved (R70). -/
def fmtOk (f : Nat) : Bool := decide (f < 0xE)

/-- An MX format, with one scale for each 32 elements (R113). -/
def fmtMx (f : Nat) : Bool := decide (f ≤ 5)

/-- A per-tensor FP8 format, with one scale for the operand (R114). -/
def fmtTensor (f : Nat) : Bool := f == 6 || f == 7

/-- The format takes scale bytes (R113, R114). -/
def fmtScaled (f : Nat) : Bool := fmtMx f || fmtTensor f

/-- An integer output format (R124). -/
def fmtInt (f : Nat) : Bool := f == 0xC || f == 0xD

/-- Decoding of an encoding with `ew` exponent and `mw` mantissa bits, without infinities or NaNs. -/
def decodePlain (ew mw bias v : Nat) : Num :=
  let s := v.testBit (ew + mw)
  let ex := bits v (ew + mw - 1) mw
  let mn := v % 2 ^ mw
  if ex = 0 then .fin s mn (1 - (bias : Int) - mw) else .fin s (2 ^ mw + mn) ((ex : Int) - bias - mw)

/-- Decoding of an IEEE 754 style encoding: the top exponent is infinity or NaN. -/
def decodeIeee (ew mw bias v : Nat) : Num :=
  if bits v (ew + mw - 1) mw = 2 ^ ew - 1 then
    (if v % 2 ^ mw = 0 then .inf (v.testBit (ew + mw)) else .nan)
  else decodePlain ew mw bias v

/-- Decoding of a `w`-bit two's-complement integer times `2^e`; it has no −0 (R111). -/
def decodeInt (w : Nat) (e : Int) (v : Nat) : Num :=
  let z := toSigned w v
  .fin (decide (z < 0)) z.natAbs e

/-- The exact value of an element of a format, its scale apart (R110, R111). -/
def decodeElem (f v : Nat) : Num :=
  if f = 0x0 ∨ f = 0x6 then (if v % 128 = 127 then .nan else decodePlain 4 3 7 v)
  else if f = 0x1 ∨ f = 0x7 then decodeIeee 5 2 15 v
  else if f = 0x2 then decodePlain 3 2 3 v
  else if f = 0x3 then decodePlain 2 3 1 v
  else if f = 0x4 then decodePlain 2 1 1 v
  else if f = 0x5 then decodeInt 8 (-6) v
  else if f = 0x8 then decodeIeee 8 7 127 v
  else if f = 0x9 then decodeIeee 5 10 15 v
  else if f = 0xA then decodeIeee 8 23 127 v
  else if f = 0xB then decodeIeee 11 52 1023 v
  else if f = 0xC then decodeInt 8 0 v
  else decodeInt 4 0 v

/-- A value under an E8M0 scale byte: 0xFF makes it NaN (R112). -/
def Num.scaled (x : Nat) : Num → Num
  | .fin s m e => if x = 0xFF then .nan else .fin s m (e + (x : Int) - 127)
  | .inf s => if x = 0xFF then .nan else .inf s
  | .nan => .nan

/-- Element `i` of a byte string packed at `w` bits an element, from the least significant bit up (R106). -/
def packedAt (bs : List Byte) (w i : Nat) : Nat :=
  let lo := w * i
  let first := lo / 8
  let last := (lo + w - 1) / 8
  (field bs first (last + 1 - first) >>> (lo % 8)) % 2 ^ w

/-- A list of encodings packed at `w` bits each into bytes (R106). -/
def packElems (w : Nat) (vs : List Nat) : List Byte :=
  let n := vs.foldr (fun v acc => v % 2 ^ w + 2 ^ w * acc) 0
  leBytes (ceilDiv (w * vs.length) 8) n

/-! ### Operand classes (R62) -/

/-- The 4/6-bit class. -/
def fmtNarrow (f : Nat) : Bool := f == 2 || f == 3 || f == 4 || f == 0xD

/-- The 16-bit class. -/
def fmt16 (f : Nat) : Bool := f == 8 || f == 9

/-- The tile width `k` of a pair of formats (R62, R107). -/
def tileK (w a : Nat) : Nat :=
  if w = 0xB ∨ a = 0xB then 16 else if w = 0xA ∨ a = 0xA then 32
  else if fmtNarrow w && fmtNarrow a then 128 else 64

/-- The array occupancy in beats of a pair of formats (R62); FP32 beside a 16-bit partner takes the FP32 class's 3 (log 11). -/
def occupancy (w a : Nat) : Nat :=
  if w = 0xB ∨ a = 0xB then 7 else if w = 0xA ∨ a = 0xA then 3
  else if fmt16 w || fmt16 a then 4 else 1

/-- Row pitch of a tile in bytes (R107). -/
def rowPitch (w a : Nat) : Nat := tileK w a * fmtWidth w / 8

/-- Tile parts a matrix operation reads: those below 64 rows of the pitch (R107, R620). -/
def partsRead (w a : Nat) : Nat := ceilDiv (64 * rowPitch w a) 1024

/-- The scale byte of element `i` of row `r` of a tile, in its sidecar (R113, R114). -/
def sidecarIndex (f k r i : Nat) : Nat :=
  if fmtTensor f then 0 else if k = 16 then r else r * (k / 32) + i / 32

/-- Element `i` of row `r` of a tile whose 64 rows lie in `tile` and whose sidecar is `side`. -/
def tileElem (w k : Nat) (tile side : List Byte) (r i : Nat) : Num :=
  let pitch := k * fmtWidth w / 8
  let raw := decodeElem w (packedAt (slice tile (r * pitch) pitch) (fmtWidth w) i)
  if fmtScaled w then raw.scaled ((side.getD (sidecarIndex w k r i) 0).toNat) else raw

/-- The scale byte of element `i` of a column, in its V register (R113, R114). -/
def columnScaleIndex (f k i : Nat) : Nat :=
  if fmtTensor f then 192 else if k = 16 then 192 else 192 + i / 32

/-- Element `i` of a packed column held in the 256 bytes `v` (R108). -/
def columnElem (f k : Nat) (v : List Byte) (i : Nat) : Num :=
  let raw := decodeElem f (packedAt v (fmtWidth f) i)
  if fmtScaled f then raw.scaled ((v.getD (columnScaleIndex f k i) 0).toNat) else raw

/-! ### Pieces of split operands -/

/-- The three pieces of a finite FP32 operand, from the bits of its 24-bit significand (R130). -/
def fp32Pieces (neg : Bool) (m : Nat) (e : Int) : List Num :=
  [.fin neg (bits m 23 16) (e + 16), .fin neg (bits m 15 8) (e + 8), .fin neg (bits m 7 0) e]

/-- The exponent of the leading bit of a finite non-zero value. -/
def Num.lead : Num → Option Int
  | .fin _ m e => if m = 0 then none else some (e + Nat.log2 m)
  | _ => none

/-- The largest leading exponent of a group, 0 when it has no finite non-zero element (R133). -/
def sharedExp (xs : List Num) : Int :=
  (xs.filterMap Num.lead).foldl (fun (acc : Option Int) e => some (match acc with | none => e | some a => max a e)) none
    |>.getD 0

/-- The 56-bit magnitude of a group's element in units of 2^(E_s − 55), truncated toward zero (R133). -/
def alignFp64 (es : Int) : Num → Num
  | .fin s m e =>
    let sh := e - (es - 55)
    .fin s (if 0 ≤ sh then m <<< sh.toNat else m >>> (-sh).toNat) (es - 55)
  | x => x

/-- Slice `i` of a 56-bit magnitude (R134). -/
def slice64 (m i : Nat) : Nat := bits m (8 * i + 7) (8 * i)

/-- The exact product of two values (R117). -/
def Num.mul : Num → Num → Num
  | .fin s m e, .fin t n d => .fin (s != t) (m * n) (e + d)
  | .inf s, .inf t => .inf (s != t)
  | .inf s, .fin t n _ => if n = 0 then .nan else .inf (s != t)
  | .fin s m _, .inf t => if m = 0 then .nan else .inf (s != t)
  | .nan, _ => .nan
  | _, .nan => .nan

/-- The product is NaN through 0 × ∞ (R117, R146). -/
def Num.mulInvalid : Num → Num → Bool
  | .inf _, .fin _ n _ => n == 0
  | .fin _ m _, .inf _ => m == 0
  | _, _ => false

/-- The terms that a pair of elements contributes to its chunk (R118, R131, R134): one product, the FP32 piece products, or
the FP64 slice products. `w` and `a` are the pair's formats; FP64 operands come aligned already. -/
def pairTerms (w a : Nat) (x y : Num) : List Num :=
  match x, y with
  | .fin s m e, .fin t n d =>
    if w = 0xB ∨ a = 0xB then
      (List.range 7).flatMap (fun i => (List.range 7).filterMap (fun j =>
        if 6 ≤ i + j then some (.fin (s != t) (slice64 m i * slice64 n j) (e + d + 8 * ((i + j : Nat) : Int))) else none))
    else if w = 0xA ∧ a = 0xA then
      let p := fp32Pieces s m e
      let q := fp32Pieces t n d
      (List.range 3).flatMap (fun i => (List.range 3).filterMap (fun j =>
        if i + j ≤ 2 then some ((p.getD i .nan).mul (q.getD j .nan)) else none))
    else if w = 0xA then (fp32Pieces s m e).map (fun p => p.mul y)
    else if a = 0xA then (fp32Pieces t n d).map (fun q => x.mul q)
    else [x.mul y]
  | _, _ => [x.mul y]

end Sys2Proof.Machine
end

