-- ==== Sys2Proof/Machine/Flags.lean ====
section
/-! DEFINITION. Rounding and the result rules: the five rounding modes, overflow, saturation, canonical NaNs, the sign of a zero,
block scales, and the lane arithmetic of FP32 and BF16 (R71, R119 to R129, R153). -/

namespace Sys2Proof.Machine

/-- Rounding codes (R71): 0 nearest even, 1 toward zero, 2 up, 3 down, 4 stochastic with the row's random word `u`. -/
structure Rnd where
  /-- The RND code. -/
  mode : Nat
  /-- The random word of a stochastic drain (R154). -/
  u : Nat := 0
deriving DecidableEq, Repr

/-- Round to nearest even. -/
def rne : Rnd := { mode := 0 }

/-- Whether a magnitude with quotient `q` and remainder `r` of a division by `2^k` goes to the next value away from zero. -/
def roundUp (rd : Rnd) (neg : Bool) (q r k : Nat) : Bool :=
  if r = 0 then false
  else if rd.mode = 0 then decide (2 ^ k < 2 * r) || (2 * r == 2 ^ k && q % 2 == 1)
  else if rd.mode = 1 then false
  else if rd.mode = 2 then !neg
  else if rd.mode = 3 then neg
  else decide (rd.u < r * 2 ^ 32 / 2 ^ k)

/-- The magnitude `m × 2^e` rounded to a whole number of units of `2^lsb` (R124, R153). -/
def roundTo (rd : Rnd) (neg : Bool) (m : Nat) (e lsb : Int) : Nat :=
  if lsb ≤ e then m <<< (e - lsb).toNat
  else
    let k := (lsb - e).toNat
    let q := m >>> k
    let r := m % 2 ^ k
    if roundUp rd neg q r k then q + 1 else q

/-- A floating output format: exponent width, mantissa width, bias, the largest finite exponent field and mantissa, and
whether it has infinities. -/
structure FloatFmt where
  /-- Exponent bits. -/
  ew : Nat
  /-- Mantissa bits. -/
  mw : Nat
  /-- Bias. -/
  bias : Nat
  /-- Encoding of max finite, without its sign. -/
  maxEnc : Nat
  /-- Overflow goes to infinity under the modes of IEEE 754; otherwise it saturates. -/
  ieee : Bool
  /-- Encoding of +∞, for the formats that have one. -/
  infEnc : Nat
  /-- Canonical NaN (R119). -/
  nanEnc : Nat
deriving DecidableEq, Repr

/-- The floating formats by code (R110, R119, R124). -/
def floatFmt (f : Nat) : FloatFmt :=
  if f = 0x0 ∨ f = 0x6 then ⟨4, 3, 7, 0x7E, false, 0x7E, 0x7F⟩
  else if f = 0x1 ∨ f = 0x7 then ⟨5, 2, 15, 0x7B, false, 0x7C, 0x7E⟩
  else if f = 0x2 then ⟨3, 2, 3, 0x1F, false, 0x1F, 0⟩
  else if f = 0x3 then ⟨2, 3, 1, 0x1F, false, 0x1F, 0⟩
  else if f = 0x4 then ⟨2, 1, 1, 0x7, false, 0x7, 0⟩
  else if f = 0x8 then ⟨8, 7, 127, 0x7F7F, true, 0x7F80, 0x7FC0⟩
  else if f = 0x9 then ⟨5, 10, 15, 0x7BFF, true, 0x7C00, 0x7E00⟩
  else if f = 0xA then ⟨8, 23, 127, 0x7F7FFFFF, true, 0x7F800000, 0x7FC00000⟩
  else ⟨11, 52, 1023, 0x7FEFFFFFFFFFFFFF, true, 0x7FF0000000000000, 0x7FF8000000000000⟩

/-- An encoding with its sign bit. -/
def FloatFmt.signed (g : FloatFmt) (neg : Bool) (v : Nat) : Nat := v + (if neg then 2 ^ (g.ew + g.mw) else 0)

/-- What a finite value beyond max finite becomes (R124). -/
def FloatFmt.overflow (g : FloatFmt) (rd : Rnd) (neg : Bool) : Nat :=
  g.signed neg
    (if !g.ieee then g.maxEnc
     else if rd.mode = 1 then g.maxEnc
     else if rd.mode = 2 then (if neg then g.maxEnc else g.infEnc)
     else if rd.mode = 3 then (if neg then g.infEnc else g.maxEnc)
     else g.infEnc)

/-- A value rounded once into a floating format (R124, R153). -/
def FloatFmt.encode (g : FloatFmt) (rd : Rnd) : Num → Nat
  | .nan => g.nanEnc
  | .inf neg => g.signed neg g.infEnc
  | .fin neg m e =>
    if m = 0 then g.signed neg 0
    else
      let emin : Int := 1 - (g.bias : Int)
      let lead : Int := e + Nat.log2 m
      let lsb : Int := max lead emin - g.mw
      let q := roundTo rd neg m e lsb
      let v := ((lsb + g.mw - emin).toNat) * 2 ^ g.mw + q
      if v ≤ g.maxEnc then g.signed neg v else g.overflow rd neg

/-- A value rounded to an integer of `w` bits in units of `2^lsb` and saturated to `lo … hi` (R124). NaN gives 0. -/
def encodeInt (rd : Rnd) (w : Nat) (lsb lo hi : Int) : Num → Nat
  | .nan => 0
  | .inf neg => ofSigned w (if neg then lo else hi)
  | .fin neg m e =>
    let q : Int := roundTo rd neg m e lsb
    ofSigned w (max lo (min hi (if neg then -q else q)))

/-- A value converted into an element of a format, block scale apart (R124). -/
def encodeElem (f : Nat) (rd : Rnd) (x : Num) : Nat :=
  if f = 0x5 then encodeInt rd 8 (-6) (-127) 127 x
  else if f = 0xC then encodeInt rd 8 0 (-128) 127 x
  else if f = 0xD then encodeInt rd 4 0 (-8) 7 x
  else (floatFmt f).encode rd x

/-- Largest normal exponent of an MX element format (R125). -/
def mxEmax (f : Nat) : Int :=
  if f = 0 then 8 else if f = 1 then 15 else if f = 2 then 4 else if f = 3 then 2 else if f = 4 then 2 else 0

/-- The scale byte chosen for a block from its unrounded finite values (R125, R128). -/
def blockScale (f : Nat) (xs : List Num) : Nat :=
  match (xs.filterMap Num.lead).foldl (fun (acc : Option Int) e => some (match acc with | none => e | some a => max a e)) none with
  | none => 0
  | some l => (max 0 (min 254 (l - mxEmax f + 127))).toNat

/-- The element format holds no NaN, so that a NaN takes its whole block with it (R128). -/
def fmtNoNan (f : Nat) : Bool := f == 2 || f == 3 || f == 4 || f == 5

/-- A block's scale byte and element encodings, each element with its own rounding (R125, R128, R129). -/
def encodeBlock (f : Nat) (xs : List (Num × Rnd)) : Nat × List Nat :=
  if fmtNoNan f && xs.any (fun x => x.1 == .nan) then (0xFF, xs.map (fun _ => 0))
  else
    let sc := blockScale f (xs.map Prod.fst)
    (sc, xs.map (fun x => encodeElem f x.2
      (match x.1 with | .fin s m e => .fin s m (e + 127 - (sc : Int)) | y => y)))

/-- A list cut into blocks of `k`. -/
def blocksOf {α : Type} (k : Nat) (xs : List α) : List (List α) :=
  (List.range (ceilDiv xs.length k)).map (fun i => (xs.drop (k * i)).take k)

/-- Encodings and scale bytes of a run of values in a format: MX formats choose a scale for each block of 32, per-tensor FP8
writes scale 2^0 (R126), the others have none. -/
def encodeAll (f : Nat) (xs : List (Num × Rnd)) : List Nat × List Nat :=
  if fmtMx f then
    let bs := (blocksOf 32 xs).map (encodeBlock f)
    (bs.flatMap Prod.snd, bs.map Prod.fst)
  else (xs.map (fun x => encodeElem f x.2 x.1), if fmtTensor f then [0x7F] else [])

/-- The 256 bytes of a packed column: elements from byte 0, scales from byte 192, zeros elsewhere (R109). -/
def packedColumn (f : Nat) (elems scales : List Nat) : List Byte :=
  let eb := packElems (fmtWidth f) elems
  if scales.isEmpty then slice eb 0 256
  else slice (slice eb 0 192 ++ scales.map (fun s => BitVec.ofNat 8 s)) 0 256

/-! ### Exact lane arithmetic -/

/-- The exact sum of two values; an exact zero takes the sign R121 gives: −0 if both are −0, else +0, or −0 toward −∞. -/
def Num.add (mode : Nat) : Num → Num → Num
  | .nan, _ => .nan
  | _, .nan => .nan
  | .inf s, .inf t => if s = t then .inf s else .nan
  | .inf s, .fin .. => .inf s
  | .fin .., .inf t => .inf t
  | .fin s m e, .fin t n d =>
    let lo := min e d
    let a : Int := (m <<< (e - lo).toNat : Nat)
    let b : Int := (n <<< (d - lo).toNat : Nat)
    let z := (if s then -a else a) + (if t then -b else b)
    if z = 0 then .fin (if m = 0 ∧ n = 0 ∧ s ∧ t then true else mode == 3) 0 lo
    else .fin (decide (z < 0)) z.natAbs lo

/-- The value with its sign changed. -/
def Num.neg : Num → Num
  | .fin s m e => .fin (!s) m e
  | .inf s => .inf (!s)
  | .nan => .nan

/-- A finite value as a pair of integers for comparison: `a ≤ b` for numbers that are not NaN. -/
def Num.le : Num → Num → Bool
  | .nan, _ => false
  | _, .nan => false
  | .inf s, y => s || (match y with | .inf t => !t | _ => false)
  | .fin .., .inf t => !t
  | .fin s m e, .fin t n d =>
    let lo := min e d
    let a : Int := (m <<< (e - lo).toNat : Nat)
    let b : Int := (n <<< (d - lo).toNat : Nat)
    decide ((if s then -a else a) ≤ (if t then -b else b))

/-- Numerical equality; +0 and −0 are equal, NaN equals nothing (R122). -/
def Num.eqv (x y : Num) : Bool := x.le y && y.le x

/-- Strictly less. -/
def Num.lt (x y : Num) : Bool := x.le y && !y.le x

/-- The value is zero. -/
def Num.isZero : Num → Bool
  | .fin _ m _ => m == 0
  | _ => false

/-- The sign of a value. -/
def Num.isNeg : Num → Bool
  | .fin s _ _ => s
  | .inf s => s
  | .nan => false

/-- Maximum (`hi` true) or minimum of two encodings of a float format under R120: NaN gives the canonical NaN, zeros of two
signs are ordered, otherwise the winning encoding is returned unchanged. -/
def fminmax (f : Nat) (hi : Bool) (a b : Nat) : Nat :=
  let x := decodeElem f a
  let y := decodeElem f b
  if x = .nan ∨ y = .nan then (floatFmt f).nanEnc
  else if x.isZero && y.isZero then
    (if hi then (if x.isNeg then b else a) else (if x.isNeg then a else b))
  else if hi then (if x.le y then b else a) else (if x.le y then a else b)

/-- Addition of two encodings of a float format, rounded once (R123). -/
def fadd (f mode a b : Nat) : Nat :=
  (floatFmt f).encode { mode := mode } ((decodeElem f a).add mode (decodeElem f b))

/-- Subtraction (R123). -/
def fsub (f mode a b : Nat) : Nat :=
  (floatFmt f).encode { mode := mode } ((decodeElem f a).add mode (decodeElem f b).neg)

/-- Multiplication (R123). -/
def fmul (f mode a b : Nat) : Nat :=
  (floatFmt f).encode { mode := mode } ((decodeElem f a).mul (decodeElem f b))

/-- Fused multiply-add, rounded once (R123). -/
def ffma (f mode a b c : Nat) : Nat :=
  (floatFmt f).encode { mode := mode } (((decodeElem f a).mul (decodeElem f b)).add mode (decodeElem f c))

/-- Binary32 addition to nearest even, as a bit pattern. -/
def fadd32 (a b : Nat) : Nat := fadd 0xA 0 a b
/-- Binary32 subtraction to nearest even. -/
def fsub32 (a b : Nat) : Nat := fsub 0xA 0 a b
/-- Binary32 multiplication to nearest even. -/
def fmul32 (a b : Nat) : Nat := fmul 0xA 0 a b

end Sys2Proof.Machine
end

