-- ==== Sys2Proof/Machine/Totals.lean ====
section
/-! DEFINITION. Chunks, total registers and drains (04_total_registers_and_reductions.md): a chunk's products are summed exactly
at unit 2^-272 and added to a total; a drain rounds a total once. -/

namespace Sys2Proof.Machine

/-- The exact +0 state of a total (R143). -/
def Total.zero : Total := {}

/-- A term placed at the total's unit: its magnitude, and whether non-zero bits were discarded (R140). -/
def placeTerm (m : Nat) (e : Int) : Nat × Bool :=
  let sh := e + 272
  if 0 ≤ sh then (m <<< sh.toNat, false) else (m >>> (-sh).toNat, m % 2 ^ (-sh).toNat != 0)

/-- The sum of a chunk's terms. -/
structure ChunkSum where
  /-- Class: 0 finite, 1 +∞, 2 −∞, 3 NaN (R146). -/
  cls : Nat := 0
  /-- The chunk is invalid (R146). -/
  invalid : Bool := false
  /-- The exact sum of the placed terms, in units of 2^-272 (R139). -/
  sum : Int := 0
  /-- Non-zero bits were discarded (R140). -/
  loss : Bool := false
  /-- The sign of the largest product out of range, if there is one (R140). -/
  beyond : Option Bool := none
  /-- The chunk holds a term. -/
  any : Bool := false
  /-- Every term is −0 (R147). -/
  allNegZero : Bool := true
deriving DecidableEq, Repr

/-- A term is −0 for ZST: a zero with its sign set, a finite term that truncates to zero included when it is placed (R147). -/
def negZeroTerm (placed : Bool) : Num → Bool
  | .fin s m e => s && (if placed then (placeTerm m e).1 == 0 else m == 0)
  | _ => false

/-- The first product of the largest magnitude among those out of range (R140): its magnitude and sign. -/
def largestOver (ts : List Num) : Option (Nat × Bool) :=
  ts.foldl (fun acc t => match t with
    | .fin s m e =>
      let p := (placeTerm m e).1
      if p < 2 ^ 544 then acc else (match acc with
        | none => some (p, s)
        | some (q, _) => if q < p then some (p, s) else acc)
    | _ => acc) none

/-- The chunk of a list of terms in element order; `zeroTimesInf` says that a product was NaN through 0 × ∞ (R138 to R147). -/
def chunkOf (ts : List Num) (zeroTimesInf : Bool) : ChunkSum :=
  let pos := ts.contains (.inf false)
  let neg := ts.contains (.inf true)
  let cls := if ts.contains .nan ∨ (pos ∧ neg) then 3 else if pos then 1 else if neg then 2 else 0
  let fin := cls == 0
  { cls
    invalid := zeroTimesInf || (pos && neg)
    sum := if fin then ts.foldl (fun acc t => match t with
        | .fin s m e => let p : Int := ((placeTerm m e).1 : Nat); if s then acc - p else acc + p
        | _ => acc) 0 else 0
    loss := fin && ts.any (fun t => match t with | .fin _ m e => (placeTerm m e).2 | _ => false)
    beyond := if fin then (largestOver ts).map Prod.snd else none
    any := !ts.isEmpty
    allNegZero := ts.all (negZeroTerm fin) }

/-- ZST after a chunk (R147). -/
def zstAfter (z : Nat) (c : ChunkSum) : Nat :=
  if !c.any then z else if c.allNegZero then (if z = 0 then 1 else z) else 2

/-- The value to which a total saturates (R145). -/
def saturated (neg : Bool) : Int := if neg then -(2 ^ 568 - 1) else 2 ^ 568 - 1

/-- A chunk of finite class entering VALUE (R139, R140, R145). Bits discarded where its products are placed set LOSS, even where the chunk
is then not added; a chunk that is ignored once OVF is set changes nothing (log 12). -/
def Total.addFinite (t : Total) (c : ChunkSum) : Total :=
  if t.ovf then t
  else match c.beyond with
  | some neg => { t with value := saturated neg, ovf := true, loss := t.loss || c.loss }
  | none =>
    let v := t.value + c.sum
    if v < -(2 ^ 568) then { t with value := saturated true, ovf := true, loss := t.loss || c.loss }
    else if 2 ^ 568 ≤ v then { t with value := saturated false, ovf := true, loss := t.loss || c.loss }
    else { t with value := v, loss := t.loss || c.loss }

/-- The class of a total after a chunk, and whether INV is set by it (R146). -/
def clsAfter (t : Total) (c : ChunkSum) : Nat × Bool :=
  if c.cls = 0 then (t.cls, false)
  else if c.cls = 3 ∨ t.cls = 3 then (3, c.invalid)
  else if t.cls = 0 ∨ t.cls = c.cls then (c.cls, false)
  else (3, true)

/-- A chunk added to a total. -/
def Total.addChunk (t : Total) (c : ChunkSum) : Total :=
  let u := if c.cls = 0 then t.addFinite c else t
  let (k, i) := clsAfter t c
  { u with cls := k, inv := t.inv || i || c.invalid, zst := zstAfter t.zst c }

/-- The chunk of elements `lo` to `hi − 1` of a row against a column, for formats `w` and `a`. -/
def rowChunk (w a : Nat) (row col : List Num) (lo hi : Nat) : ChunkSum :=
  let ps := ((row.drop lo).take (hi - lo)).zip ((col.drop lo).take (hi - lo))
  chunkOf (ps.flatMap (fun p => pairTerms w a p.1 p.2)) (ps.any (fun p => p.1.mulInvalid p.2))

/-- The elements of a row or column as the array uses them: aligned to their shared exponent when the pair is FP64-split (R133). -/
def alignGroup (w a : Nat) (xs : List Num) : List Num :=
  if w = 0xB ∨ a = 0xB then let es := sharedExp xs; xs.map (alignFp64 es) else xs

/-- One total after a row of a tile has been multiplied by a column (R61, R138). -/
def Total.addRow (w a : Nat) (row col : List Num) (t : Total) : Total :=
  let k := tileK w a
  let r := alignGroup w a row
  let step := if k = 16 then 16 else 32
  (List.range (k / step)).foldl (fun t j => t.addChunk (rowChunk w a r col (step * j) (step * j + step))) t

/-- Row `r` of a tile, decoded. -/
def tileRow (w k : Nat) (tile side : List Byte) (r : Nat) : List Num := (List.range k).map (tileElem w k tile side r)

/-- A packed column, decoded. -/
def columnOf (f k : Nat) (v : List Byte) : List Num := (List.range k).map (columnElem f k v)

/-- Index of total (column, row) of a cell. -/
def totalAt (col row : Nat) : Nat := 64 * col + row

/-- A total of a cell. -/
def Cell.total (c : Cell) (i : Nat) : Total := Sparse.get {} c.totals i

/-- A total of a cell replaced. -/
def Cell.setTotal (c : Cell) (i : Nat) (t : Total) : Cell := { c with totals := Sparse.set {} c.totals i t }

/-- A decoded column multiplied by a tile into a total column of a cell (R61). -/
def Cell.mmaColumn (c : Cell) (w a : Nat) (tile side : List Byte) (x : List Num) (col : Nat) (acc : Bool) : Cell :=
  let k := tileK w a
  let xa := alignGroup w a x
  (List.range 64).foldl (fun c r =>
    let t := if acc then c.total (totalAt col r) else {}
    c.setTotal (totalAt col r) (t.addRow w a (tileRow w k tile side r) xa)) c

/-- Totals of a run of columns set to exact +0 (R73, R143). -/
def Cell.zeroColumns (c : Cell) (col n : Nat) : Cell :=
  { c with totals := c.totals.filter (fun e => e.1 < 64 * col || 64 * (col + n) ≤ e.1) }

/-- The exact value a drain reads of a total (R150): the class, then VALUE, then the zero that ZST gives under the rounding
mode. A ZST of 0b11 is read as 0b10 (log 13). -/
def Total.toNum (t : Total) (rnd : Nat) : Num :=
  if t.cls = 1 then .inf false else if t.cls = 2 then .inf true else if t.cls = 3 then .nan
  else if t.value = 0 then .fin (if t.zst = 0 then false else if t.zst = 1 then true else rnd == 3) 0 0
  else .fin (decide (t.value < 0)) t.value.natAbs (-272)

/-- The rounding of drain row `r` of cell `c`: its random word comes from the block's seed and the step (R154). -/
def drainRnd (rnd cell step : Nat) (seed : List Byte) (r : Nat) : Rnd :=
  if rnd = 4 then { mode := 4, u := randomWord seed 1 cell (r / 16) step (r % 16) } else { mode := rnd }

/-- The 64 values of a total column with their roundings, as a drain reads them (R149, R150). -/
def Cell.drainValues (c : Cell) (col rnd cell step : Nat) (seed : List Byte) : List (Num × Rnd) :=
  (List.range 64).map (fun r => ((c.total (totalAt col r)).toNum rnd, drainRnd rnd cell step seed r))

/-- The flags of the totals of a column: OVF, LOSS, INV (R151). -/
def Cell.columnFlags (c : Cell) (col : Nat) : Bool × Bool × Bool :=
  let ts := (List.range 64).map (fun r => c.total (totalAt col r))
  (ts.any Total.ovf, ts.any Total.loss, ts.any Total.inv)

/-! ### The memory form (R142) -/

/-- A total as its 576-bit register (R141). -/
def Total.toNat576 (t : Total) : Nat :=
  t.cls * 2 ^ 574 + b2n t.inv * 2 ^ 573 + b2n t.ovf * 2 ^ 572 + b2n t.loss * 2 ^ 571 + t.zst * 2 ^ 569 + ofSigned 569 t.value

/-- The total a 576-bit register holds (R141). -/
def Total.ofNat576 (n : Nat) : Total :=
  { cls := bits n 575 574, inv := bitOn n 573, ovf := bitOn n 572, loss := bitOn n 571, zst := bits n 570 569,
    value := toSigned 569 (bits n 568 0) }

/-- A total's 72-byte memory form (R142). -/
def Total.toBytes (t : Total) : List Byte := leBytes 72 t.toNat576

/-- The total of a 72-byte memory form (R142). -/
def Total.ofBytes (bs : List Byte) : Total := Total.ofNat576 (leNat bs)

end Sys2Proof.Machine
end

