-- ==== Sys2Proof/Machine/Dev.lean ====
section
/-! DEFINITION. Device memory as every unit reaches it: the two address maps, uncorrectable words, lost lines and stacks out of
service, reads, writes and atomics (12_memory_system.md). -/

namespace Sys2Proof.Machine

/-- STATUS of an uncorrectable word (R447). -/
def stMemUe : Nat := 0x3003
/-- STATUS of a refused atomic (R447). -/
def stAtomicFormat : Nat := 0x3005
/-- STATUS of a stack out of service (R447). -/
def stOffline : Nat := 0x3007

/-- Bytes of device memory (R419). -/
def devBytes : Nat := 2 ^ 40

/-- A stack. -/
def State.stack (s : State) (n : Nat) : Stack := Sparse.get {} s.mem.units n

/-- A stack replaced. -/
def State.setStack (n : Nat) (k : Stack) (s : State) : State := { s with mem.units := Sparse.set {} s.mem.units n k }

/-- Near/far mode (R423). -/
def State.nearFar (s : State) : Bool := s.fld .mctl 0 0x100 0 0 == 1

/-- The device address, under the map in force, of a byte that normal service places at `x` (R420, R423). -/
def State.addrNow (s : State) (x : Nat) : Nat :=
  if s.nearFar then
    let u := bits x 35 8
    x / 2 ^ 36 * 2 ^ 36 + ((u % 64) ^^^ (u / 64 % 64) ^^^ (u / 4096 % 64)) * 2 ^ 30 + u / 64 * 2 ^ 8 + x % 256
  else x

/-- The address in normal service of the byte at a near/far address (R420, R423). -/
def nearFarToNormal (a : Nat) : Nat :=
  let g := bits a 29 8
  let u := g * 64 + ((bits a 35 30) ^^^ (g % 64) ^^^ (g / 64 % 64))
  a / 2 ^ 36 * 2 ^ 36 + u * 256 + a % 256

/-- The pseudo-channel of an address in normal service (R420). -/
def pseudoChannel (a : Nat) : Nat :=
  let u := bits a 35 8
  (u % 64) ^^^ (u / 64 % 64) ^^^ (u / 4096 % 64)

/-- A range of `n` bytes from `a` cut where units of `u` bytes meet; the first number bounds how many pieces there are. -/
def piecesOf (u : Nat) : Nat → Nat → Nat → List (Nat × Nat)
  | 0, _, _ => []
  | f + 1, a, n =>
    if n = 0 then []
    else (a, min n (u - a % u)) :: piecesOf u f (a + min n (u - a % u)) (n - min n (u - a % u))

/-- The ranges, as normal service places them, of an access under the map in force, each within one stack. -/
def State.devPieces (s : State) (a n : Nat) : List (Nat × Nat) :=
  if s.nearFar then (piecesOf 256 (n / 256 + 2) a n).map (fun p => (nearFarToNormal p.1, p.2)) else piecesOf (2 ^ 36) (n / 2 ^ 36 + 2) a n

/-- The access is refused because a stack it names is out of service (R442, R443). -/
def State.devOffline (s : State) (write : Bool) (ps : List (Nat × Nat)) : Bool :=
  ps.any (fun p =>
    let k := s.stack (p.1 / 2 ^ 36)
    k.state == 3 && (!s.nearFar || write || pseudoChannel p.1 / 2 == k.failedCh))

/-- The 256-byte granules that `n` bytes from `a` touch (R420). -/
def granules (a n : Nat) : Nat := if n = 0 then 0 else (a + n - 1) / 256 - a / 256 + 1

/-- The access waits: a stack it names holds its requests (R521) or has no clock (R528), or the channel of one is retraining (R441). -/
def State.devBusy (s : State) (a n : Nat) : Bool :=
  (s.devPieces a n).any (fun p =>
    let k := s.stack (p.1 / 2 ^ 36)
    k.held || s.clockStopped (lb4Mux (p.1 / 2 ^ 36)) || (k.retraining && (List.range (min 128 (granules p.1 p.2))).any (fun j =>
      pseudoChannel (p.1 + 256 * j) / 2 == k.retrainCh)))

/-- A range meets unit `i` of `w` bytes. -/
def meetsUnit (w : Nat) (p : Nat × Nat) (i : Nat) : Bool := decide (p.1 < w * (i + 1)) && decide (w * i < p.1 + p.2)

/-- A range covers the whole of unit `i` of `w` bytes. -/
def coversUnit (w : Nat) (p : Nat × Nat) (i : Nat) : Bool := decide (p.1 ≤ w * i) && decide (w * (i + 1) ≤ p.1 + p.2)

/-- The lowest byte address at which a read of the ranges meets an uncorrectable word or a lost line (R438, R440), with its kind: 0 HBM, 1
cache. -/
def State.devBad (s : State) (ps : List (Nat × Nat)) : Option (Nat × Nat) :=
  ps.findSome? (fun p =>
    let k := s.stack (p.1 / 2 ^ 36)
    match k.lost.find? (meetsUnit 128 p) with
    | some l => some (128 * l, 1)
    | none => (k.bad.find? (meetsUnit 32 p)).map (fun w => (32 * w, 0)))

/-- What a requester gives with its access: for ERR_INFO1 its unit code, a shape number for a block DMA and a source module for a Rally REQ
(R316, R448), and in the bits that ERR_INFO1 reserves the tag of the command it acts for (R98). -/
def whoOf (unit : Nat) (shape : Nat := 0) (source : Nat := 0) (tag : Nat := 0) : Nat :=
  unit * 2 ^ 56 + shape * 2 ^ 47 + source * 2 ^ 35 + tag

/-- The tag of the command that a requester acts for. -/
def whoTag (who : Nat) : Nat := who % 2 ^ 32

/-- ERR_INFO1 of a requester. -/
def whoInfo (who : Nat) : Nat := who - who % 2 ^ 35

/-- MEM_UE is recorded on the stack's page (R438, R448), for the byte that normal service places at `a`. -/
def State.memUe (who kind a : Nat) (s : State) : State :=
  let n := a / 2 ^ 36
  (s.raise .stk n 3 (whoTag who) (pseudoChannel a * 2 ^ 58 + kind * 2 ^ 56 + s.addrNow a) (whoInfo who) 0).evtAdd .stk n 1 1

/-- The stacks of the ranges leave self-refresh (R444). -/
def State.wake (ps : List (Nat × Nat)) (s : State) : State :=
  ps.foldl (fun s p =>
    let n := p.1 / 2 ^ 36
    if (s.stack n).state = 2 then s.setStack n { s.stack n with state := 1 } else s) s

/-- The bytes of a range, as normal service places it: free values, from the `k`-th of this access on, where the module's own regions lie
(R299, R303, R582, log 33). -/
def State.devBytesAt (s : State) (k : Nat) (p : Nat × Nat) : List Byte :=
  let bs := s.dev.read p.1 p.2
  if !s.holdsIn p.1 p.2 then bs
  else bs.zipIdx.map (fun c => if s.moduleHolds (p.1 + c.2) then Config.freeBits 8 (s.free + k + c.2) else c.1)

/-- The bytes of ranges one after another. -/
def State.devBytesOf (s : State) : Nat → List (Nat × Nat) → List Byte
  | _, [] => []
  | k, p :: ps => s.devBytesAt k p ++ s.devBytesOf (k + p.2) ps

/-- A read of device memory: STATUS, the bytes, and the state it leaves (R422, R438 to R444). KIND of an error is that of what failed, unless
the access gives one of its own (R448). -/
def State.devReadAs (kind : Option Nat) (who a n : Nat) (s : State) : Nat × List Byte × State :=
  let ps := s.devPieces a n
  if s.devOffline false ps || decide (devBytes < a + n) then (stOffline, [], s)
  else match s.devBad ps with
  | some (x, k) => (stMemUe, [], (s.wake ps).memUe who (kind.getD k) x)
  | none =>
    let t := s.wake ps
    (0, s.devBytesOf 0 ps, if ps.any (fun p => s.holdsIn p.1 p.2) then { t with free := t.free + n } else t)

/-- A read of device memory that is no atomic. -/
def State.devRead (who a n : Nat) (s : State) : Nat × List Byte × State := s.devReadAs none who a n

/-- The lines of a range. -/
def linesOf (p : Nat × Nat) : List Nat := if p.2 = 0 then [] else
  (List.range ((p.1 + p.2 - 1) / 128 + 1 - p.1 / 128)).map (fun i => p.1 / 128 + i)

/-- Lines of the shared cache of a stack (R426). -/
def cacheLines : Nat := 2 ^ 19

/-- A line written enters the cache as dirty; where the cache is full, another, which is a free value, is written back (R426, log 117). With
it the next free value's index. -/
def dirtied (x : List Nat × Nat) (l : Nat) : List Nat × Nat :=
  let d := addTo x.1 l
  if cacheLines < d.length then (d.eraseIdx (Config.free x.2 % d.length), x.2 + 1) else (d, x.2)

/-- A range of one stack written in memory: bytes that fall in a partly covered uncorrectable word or lost line are dropped;
a word or line covered whole is written anew (R422, R440). The flag says that something was dropped. -/
def State.devPut (p : Nat × Nat) (bs : List Byte) (s : State) : State × Option (Nat × Nat) :=
  let n := p.1 / 2 ^ 36
  let k := s.stack n
  let lost := k.lost.filter (fun l => meetsUnit 128 p l && !coversUnit 128 p l)
  let bad := k.bad.filter (fun w => meetsUnit 32 p w && !coversUnit 32 p w)
  let keepBack (m : Mem) (u w i : Nat) : Mem :=
    let lo := max p.1 (u * i)
    let hi := min (p.1 + p.2) (u * i + w)
    m.write lo (s.dev.read lo (hi - lo))
  let m1 := s.dev.write p.1 bs
  let m2 := lost.foldl (fun m l => keepBack m 128 128 l) m1
  let m3 := bad.foldl (fun m w => keepBack m 32 32 w) m2
  let d := if s.nearFar then (k.dirty, s.free) else (linesOf p).foldl dirtied (k.dirty, s.free)
  let k2 := { k with
    lost := k.lost.filter (fun l => !coversUnit 128 p l)
    bad := k.bad.filter (fun w => !coversUnit 32 p w)
    dirty := d.1 }
  (({ s with dev := m3, free := d.2 } : State).setStack n k2,
    match lost with
    | l :: _ => some (128 * l, 1)
    | [] => match bad with | w :: _ => some (32 * w, 0) | [] => none)

/-- The ranges of an access written one after another. -/
def State.devPutAll (s : State) : List (Nat × Nat) → List Byte → State × Option (Nat × Nat)
  | [], _ => (s, none)
  | p :: ps, bs =>
    let (t, d) := s.devPut p (bs.take p.2)
    let (u, e) := t.devPutAll ps (bs.drop p.2)
    (u, match d with | some x => some x | none => e)

/-- A write of device memory: STATUS and the state it leaves. -/
def State.devWrite (who a : Nat) (bs : List Byte) (s : State) : Nat × State :=
  if bs.isEmpty then (0, s)
  else
    let ps := s.devPieces a bs.length
    if s.devOffline true ps || decide (devBytes < a + bs.length) then (stOffline, s)
    else
      let (t, d) := (s.wake ps).devPutAll ps bs
      match d with
      | some (x, k) => (stMemUe, t.memUe who k x)
      | none => (0, t)

/-! ### Atomics (R428 to R431) -/

/-- OP of an AOP byte. -/
def aopOp (aop : Nat) : Nat := aop % 16
/-- Bytes an atomic works on. -/
def aopBytes (aop : Nat) : Nat := if aopOp aop = 8 then 128 else if bitOn aop 4 then 8 else 4
/-- KIND of ADD_EXACT. -/
def aopKind (aop : Nat) : Nat := bits aop 6 5

/-- The AOP names a defined operation with its unused fields 0 (R428). -/
def aopOk (aop : Nat) : Bool :=
  !bitOn aop 7 && decide (aopOp aop ≤ 8) && (aopOp aop == 8 || aopKind aop == 0) && !(decide (7 ≤ aopOp aop) && bitOn aop 4)

/-- The alignment an atomic needs (R429). -/
def aopAligned (aop a : Nat) : Bool := a % aopBytes aop == 0

/-- Bytes of operand an atomic takes (R428, R430, R432). -/
def aopOperandBytes (aop : Nat) : Nat :=
  if aopOp aop = 8 then (if aopKind aop = 1 then 4 else if aopKind aop = 3 then 72 else 8)
  else if aopOp aop = 6 then 2 * aopBytes aop else aopBytes aop

/-- What an integer atomic or FADD stores (R428); `x` is the operand and `y` CAS's new value. -/
def atomicResult (op w old x y : Nat) : Nat :=
  if op = 0 then (old + x) % 2 ^ w
  else if op = 1 then (if toSigned w x < toSigned w old then x else old)
  else if op = 2 then (if toSigned w old < toSigned w x then x else old)
  else if op = 3 then min old x
  else if op = 4 then max old x
  else if op = 5 then x
  else if op = 6 then (if old = x then y else old)
  else fadd 0xA 0 old x

/-- ZST of two partials together (R396). -/
def zstJoin (a b : Nat) : Nat := if b = 0 ∨ b = 3 then a else if a = 0 then b else if a = 1 ∧ b = 1 then 1 else 2

/-- A TOTAL operand added into a total (R430). -/
def Total.addTotal (t o : Total) : Total :=
  let c : ChunkSum := { cls := o.cls, invalid := o.inv, sum := o.value }
  let u := t.addFinite { c with loss := o.loss }
  let (k, i) := clsAfter t c
  { u with cls := k, inv := t.inv || i || o.inv, ovf := u.ovf || o.ovf, loss := u.loss || o.loss, zst := zstJoin t.zst o.zst }

/-- The value of an ADD_EXACT operand by KIND, other than TOTAL (R430). -/
def exactOperand (kind : Nat) (bs : List Byte) : Num :=
  if kind = 0 then decodeElem 0xB (field bs 0 8)
  else if kind = 1 then decodeElem 0xA (field bs 0 4)
  else decodeInt 64 0 (field bs 0 8)

/-- A line's total after ADD_EXACT (R430). -/
def addExactTotal (kind : Nat) (t : Total) (bs : List Byte) : Total :=
  if kind = 3 then t.addTotal (Total.ofBytes (slice bs 0 72))
  else t.addChunk (chunkOf [exactOperand kind bs] false)

/-- MEM_ATOMIC_FORMAT recorded on the stack's page (R429, R448). -/
def State.atomicFormat (who aop a : Nat) (s : State) : State :=
  let pc := if s.nearFar then bits a 35 30 else pseudoChannel a
  s.raise .stk (a / 2 ^ 36 % 16) 5 (whoTag who) (pc * 2 ^ 58 + 2 * 2 ^ 56 + a) (whoInfo who) (aop % 256)

/-- An atomic executed by the LB4 of its address: STATUS, the old value, and the state it leaves (R428 to R431). -/
def State.devAtomic (who aop a : Nat) (operand : List Byte) (s : State) : Nat × Nat × State :=
  if !aopOk aop || !aopAligned aop a || s.nearFar then (stAtomicFormat, 0, s.atomicFormat who aop a)
  else
    let len := if aopOp aop = 8 then 72 else aopBytes aop
    match s.devReadAs (some 2) who a len with
    | (0, bs, t) =>
      let old := leNat bs
      let n := a / 2 ^ 36
      if aopOp aop = 8 then
        let tot := Total.ofBytes bs
        if tot.zst = 3 then (stAtomicFormat, 0, t.atomicFormat who aop a)
        else
          let (st, u) := t.devWrite who a (addExactTotal (aopKind aop) tot operand).toBytes
          (st, 0, u.evtAdd .stk n 4 1)
      else
        let x := field operand 0 len
        let y := field operand len len
        let (st, u) := t.devWrite who a (leBytes len (atomicResult (aopOp aop) (8 * len) old x y))
        (st, old, u.evtAdd .stk n 3 1)
    | (st, _, t) => (st, 0, t)

/-! ### Reads and writes by XADDR (R549) -/

/-- Bytes by XADDR for the host's command of a tag: STATUS, bytes, state. -/
def State.xRead (tag x n : Nat) (s : State) : Nat × List Byte × State :=
  if xDev x then s.devRead (whoOf 0x10 0 0 tag) (xAddr x) n else (0, s.hostRead (xAddr x) n, s)

/-- Bytes written by XADDR for the host's command of a tag: STATUS and state. -/
def State.xWrite (tag x : Nat) (bs : List Byte) (s : State) : Nat × State :=
  if xDev x then s.devWrite (whoOf 0x10 0 0 tag) (xAddr x) bs else (0, s.hostWrite (xAddr x) bs)

/-- The descriptor's data lies in host memory. -/
def xHost (x : Nat) : Bool := !xDev x

/-- The length a command moves to or from host memory, by an XADDR: none where the address names device memory. -/
def hostLen (x n : Nat) : Option Nat := if xHost x then some n else none

/-- A device range by XADDR waits (R441, R521). -/
def State.xBusy (s : State) (x n : Nat) : Bool := xDev x && s.devBusy (xAddr x) n

/-- A device range lies within device memory. -/
def xFits (x n : Nat) : Bool := xOk x && (!xDev x || decide (xAddr x + n ≤ devBytes))

/-- `n` bytes of device memory, as normal service places them, become free values (R437, R442, log 2). -/
def State.freeDev (a n : Nat) (s : State) : State :=
  { s with free := s.free + n, dev := s.dev.write a (Config.freeBytes n s.free) }

/-- The bytes of a range of device addresses become free values, wherever the map in force places them (R423, R437, R623). -/
def State.freeAt (a n : Nat) (s : State) : State := (s.devPieces a n).foldl (fun s p => s.freeDev p.1 p.2) s

end Sys2Proof.Machine
end

