-- ==== Sys2Proof/Machine/Elementary.lean ====
section
/-! DEFINITION. The correctly rounded elementary operations on binary32 lanes: 2^x, log2 x, 1/x and 1/√x (R123). The irrational
results are formed in fixed point with 256 fraction bits, far more than binary32 needs to decide a rounding, and a low bit
that is always one keeps an inexact result from passing for a tie. -/

namespace Sys2Proof.Machine

/-- Fraction bits of the fixed-point series. -/
def fixP : Nat := 256

/-- The terms from `k` on of atanh z = Σ z^(2k+1)/(2k+1), `t` being z^(2k+1) and `z2` z². -/
def atanhTail : Nat → Nat → Nat → Nat → Nat
  | 0, _, _, _ => 0
  | fuel + 1, k, t, z2 => t / (2 * k + 1) + atanhTail fuel (k + 1) (t * z2 / 2 ^ fixP) z2

/-- atanh (a / b) in fixed point, for a / b at most 1/3. -/
def atanhFix (a b : Nat) : Nat :=
  let z := a * 2 ^ fixP / b
  atanhTail 100 0 z (z * z / 2 ^ fixP)

/-- ln 2 in fixed point. -/
def ln2Fix : Nat := 2 * atanhFix 1 3

/-- The terms from `k` on of e^a, `t` being a^k / k!. -/
def expTail : Nat → Nat → Nat → Nat → Nat
  | 0, _, _, _ => 0
  | fuel + 1, k, t, a => t + expTail fuel (k + 1) (t * a / 2 ^ fixP / (k + 1)) a

/-- The whole square root, bit by bit from bit `i` down. -/
def isqrtFrom : Nat → Nat → Nat → Nat
  | 0, r, _ => r
  | i + 1, r, n => if (r + 2 ^ i) * (r + 2 ^ i) ≤ n then isqrtFrom i (r + 2 ^ i) n else isqrtFrom i r n

/-- The whole square root. -/
def isqrt (n : Nat) : Nat := isqrtFrom (Nat.log2 n / 2 + 1) 0 n

/-- A positive magnitude known to lie strictly between `q` and `q + 1` units of `2^e`, or to be `q` exactly. -/
def sticky (neg exact : Bool) (q : Nat) (e : Int) : Num := .fin neg (2 * q + (if exact then 0 else 1)) (e - 1)

/-- 2^x of a binary32 encoding (R123). -/
def fexp2 (v : Nat) : Nat :=
  (floatFmt 0xA).encode rne (match decodeElem 0xA v with
    | .nan => .nan
    | .inf neg => if neg then .fin false 0 0 else .inf false
    | .fin neg m e =>
      if m = 0 then .fin false 1 0
      else if 8 ≤ e + (Nat.log2 m : Int) then (if neg then .fin false 0 0 else .inf false)
      else
        let mag : Int := (m <<< (e + 192).toNat : Nat)
        let x := if neg then -mag else mag
        let n := x / (2 ^ 192 : Nat)
        let f := (x % (2 ^ 192 : Nat)).toNat
        if f = 0 then .fin false 1 n
        else sticky false false (expTail 90 0 (2 ^ fixP) (f * ln2Fix / 2 ^ 192)) (n - fixP))

/-- log2 x of a binary32 encoding (R123). -/
def flog2 (v : Nat) : Nat :=
  (floatFmt 0xA).encode rne (match decodeElem 0xA v with
    | .nan => .nan
    | .inf neg => if neg then .nan else .inf false
    | .fin neg m e =>
      if m = 0 then .inf true
      else if neg then .nan
      else
        let l := Nat.log2 m
        let n := e + l
        if m = 2 ^ l then (if n = 0 then .fin false 0 0 else .fin (decide (n < 0)) n.natAbs 0)
        else
          let y := 2 * atanhFix (m - 2 ^ l) (m + 2 ^ l) * 2 ^ fixP / ln2Fix
          let z := n * (2 ^ fixP : Nat) + y
          sticky (decide (z < 0)) false z.natAbs (-fixP))

/-- 1/x of a binary32 encoding (R123). -/
def frcp (v : Nat) : Nat :=
  (floatFmt 0xA).encode rne (match decodeElem 0xA v with
    | .nan => .nan
    | .inf neg => .fin neg 0 0
    | .fin neg m e =>
      if m = 0 then .inf neg
      else
        let k := Nat.log2 m + 64
        sticky neg (2 ^ k % m == 0) (2 ^ k / m) (-e - k))

/-- 1/√x of a binary32 encoding (R123). -/
def frsq (v : Nat) : Nat :=
  (floatFmt 0xA).encode rne (match decodeElem 0xA v with
    | .nan => .nan
    | .inf neg => if neg then .nan else .fin false 0 0
    | .fin neg m e =>
      if m = 0 then .inf neg
      else if neg then .nan
      else
        let m' := if e % 2 = 0 then m else 2 * m
        let e' := if e % 2 = 0 then e else e - 1
        let q := isqrt (2 ^ 128 / m')
        sticky false (q * q * m' == 2 ^ 128) q (-64 - e' / 2))

end Sys2Proof.Machine
end

