-- ==== Sys2Proof/Machine/Records.lean ====
section
/-! DEFINITION. Run-time activation sparsity: the bitmap record, the beats a sparse matrix operation takes, and the 2-of-4 weight
format (05_activation_sparsity.md). -/

namespace Sys2Proof.Machine

/-- A format has bitmap form (R168). -/
def bitmapForm (f : Nat) : Bool := f ≤ 9 || f == 0xC || f == 0xD

/-- Elements of a record of a format (R168). -/
def recElems (f : Nat) : Nat := if fmtNarrow f then 128 else 64

/-- Bitmap words of a record of a format (R168). -/
def recNb (f : Nat) : Nat := recElems f / 64

/-- The scale byte index that covers element `i` of a record: Sj for MX block j, S0 for per-tensor FP8 (R167). -/
def recScaleOf (f i : Nat) : Nat := if fmtMx f then i / 32 else 0

/-- An element is present: its encoding has a bit set, or it lies under a scale of 0xFF (R169). -/
def recPresent (f : Nat) (scales : List Nat) (i enc : Nat) : Bool :=
  enc != 0 || (fmtScaled f && scales.getD (recScaleOf f i) 0 == 0xFF)

/-- The 256 bytes of the record of `elems` under `scales` (R167, R169). -/
def recordOf (f : Nat) (elems scales : List Nat) : List Byte :=
  let n := recElems f
  let here := (List.range n).filter (fun i => i < elems.length && recPresent f scales i (elems.getD i 0))
  let bm := maskOf here
  let vals := packElems (fmtWidth f) (here.map (fun i => elems.getD i 0))
  let len := 8 + 8 * recNb f + ceilDiv (here.length * fmtWidth f) 8
  let sc := (List.range 4).map (fun j => BitVec.ofNat 8 (if fmtScaled f then scales.getD j 0 else 0))
  slice ([BitVec.ofNat 8 f, BitVec.ofNat 8 (ceilDiv len 64), BitVec.ofNat 8 here.length, 0] ++ sc ++
    leBytes (8 * recNb f) bm ++ vals) 0 256

/-- The presence bitmaps of a record read under format `f` (R170). -/
def recBitmap (f : Nat) (v : List Byte) : Nat := field v 8 (8 * recNb f)

/-- The first `n` elements of a record read under format `f`: an encoding where present (R170). -/
def recElements (f n : Nat) (v : List Byte) : List (Option Nat) :=
  let bm := recBitmap f v
  let vals := v.drop (8 + 8 * recNb f)
  (List.range n).map (fun i =>
    if bm.testBit i then some (packedAt vals (fmtWidth f) (popCount i bm)) else none)

/-- The scale bytes of a record (R167). -/
def recScales (v : List Byte) : List Nat := (List.range 4).map (fun j => field v (4 + j) 1)

/-- The column of `k` exact values that a matrix operation reads from a record: an absent element is +0 (R148, R169). -/
def recColumn (f k : Nat) (v : List Byte) : List Num :=
  let sc := recScales v
  ((recElements f k v).zip (List.range k)).map (fun p => match p.1 with
    | none => .fin false 0 0
    | some enc =>
      let raw := decodeElem f enc
      if fmtScaled f then raw.scaled (sc.getD (recScaleOf f p.2) 0) else raw)

/-- An element's encoding as a format operation writes it: a NaN becomes the canonical one of the format (R119, R122). -/
def canonElem (f v : Nat) : Nat := if decodeElem f v = .nan then (floatFmt f).nanEnc else v

/-- The packed column of a record: absent elements are zero encodings, scales from byte 192 (R172). -/
def recUnpack (f : Nat) (v : List Byte) : List Byte :=
  let n := recElems f
  let elems := (recElements f n v).map (fun o => canonElem f (o.getD 0))
  let sc := if fmtMx f then (recScales v).take (n / 32) else if fmtTensor f then (recScales v).take 1 else []
  packedColumn f elems sc

/-- The record of a packed column (R172). -/
def recPack (f : Nat) (v : List Byte) : List Byte :=
  let n := recElems f
  let elems := (List.range n).map (fun i => canonElem f (packedAt v (fmtWidth f) i))
  let sc := if fmtMx f then (List.range (n / 32)).map (fun j => field v (192 + j) 1)
    else if fmtTensor f then [field v 192 1] else []
  recordOf f elems sc

/-- Bytes a bitmap store writes: 64 × UNITS, a UNITS of 0 or above 4 being taken as 4 (R173). -/
def recStoreBytes (v : List Byte) : Nat :=
  let u := field v 1 1
  64 * (if u = 0 ∨ 4 < u then 4 else u)

/-! ### Lane groups and work stealing (R179, R180) -/

/-- A batch on its way: the beat it is due, the group, its items. -/
abbrev Flight := Nat × Nat × Nat

/-- Items removed from the front of a queue of batches. -/
def formItems : Nat → List Nat → List Nat
  | _, [] => []
  | k, b :: q => if k < b then (b - k) :: q else formItems (k - b) q

/-- Items queued. -/
def queued (q : List Nat) : Nat := q.foldl (· + ·) 0

/-- Group `d` may lend a batch over distance `h` (R180). -/
def donor (cap : Nat) (q : List Nat) (h : Nat) : Bool := decide (2 ≤ q.length) && decide (h * cap < queued q)

/-- Distance between two groups. -/
def groupDist (a b : Nat) : Nat := if a < b then b - a else a - b

/-- The donor a group asks: the nearest, then the one with more items, then the lowest (R180). -/
def pickDonor (cap : Nat) (qs : List (List Nat)) (g : Nat) : Option Nat :=
  (List.range 8).foldl (fun (best : Option Nat) d =>
    if d = g ∨ !donor cap (qs.getD d []) (groupDist d g) then best
    else match best with
      | none => some d
      | some b =>
        let hd := groupDist d g
        let hb := groupDist b g
        if hd < hb ∨ (hd = hb ∧ queued (qs.getD b []) < queued (qs.getD d [])) then some d else some b) none

/-- Whether request `x` of group gx comes before `y`: by distance, then fewer items, then lower group (R180). -/
def requestBefore (ns : List Nat) (d x y : Nat) : Bool :=
  let hx := groupDist d x
  let hy := groupDist d y
  hx < hy || (hx == hy && (ns.getD x 0 < ns.getD y 0 || (ns.getD x 0 == ns.getD y 0 && x < y)))

/-- A request placed in order among others. -/
def insertRequest (ns : List Nat) (d x : Nat) : List Nat → List Nat
  | [] => [x]
  | y :: ys => if requestBefore ns d x y then x :: y :: ys else y :: insertRequest ns d x ys

/-- Group `d` serves its requests in order while it may still lend (R180). -/
def serveRequests (cap t d : Nat) : List Nat → List (List Nat) × List Flight → List (List Nat) × List Flight
  | [], s => s
  | g :: gs, (qs, fl) =>
    let q := qs.getD d []
    if donor cap q (groupDist d g) then
      serveRequests cap t d gs (qs.set d q.dropLast, fl ++ [(t + groupDist d g, g, q.getLastD 0)])
    else serveRequests cap t d gs (qs, fl)

/-- The beats of an MMAS from beat `t` on: the last beat in which an item is formed (R177, R180). -/
def stealLoop (cap : Nat) : Nat → Nat → Nat → List (List Nat) → List Flight → Nat
  | 0, _, last, _, _ => last
  | fuel + 1, t, last, qs, fl =>
    if qs.all List.isEmpty && fl.isEmpty then last
    else
      let last := if qs.all List.isEmpty then last else t
      let qs1 := qs.map (formItems cap)
      let due := fl.filter (fun f => f.1 == t)
      let fl1 := fl.filter (fun f => f.1 != t)
      let qs2 := due.foldl (fun qs f => qs.set f.2.1 (qs.getD f.2.1 [] ++ [f.2.2])) qs1
      let ns := qs2.map queued
      let asks := (List.range 8).filterMap (fun g =>
        if ns.getD g 0 < cap ∧ fl1.all (fun f => f.2.1 != g) then (pickDonor cap qs2 g).map (fun d => (d, g)) else none)
      let (qs3, fl3) := (List.range 8).foldl (fun s d =>
        serveRequests cap t d ((asks.filter (fun a => a.1 == d)).foldl (fun l a => insertRequest ns d a.2 l) []) s) (qs2, fl1)
      stealLoop cap fuel (t + 1) last qs3 fl3

/-- The beats C of an MMAS on the records of one cell, for tile width `k` (R177 to R180). -/
def mmasBeats (a k : Nat) (recs : List (List Byte)) : Nat :=
  let q := k / 64
  let bms := recs.map (fun v => recBitmap a v % 2 ^ k)
  let qs := (List.range 8).map (fun g =>
    (bms.map (fun bm => popCount (8 * q) (bm >>> (8 * q * g)))).filter (fun n => n != 0))
  1 + stealLoop (8 * q) 64 0 0 qs []

/-! ### The 2-of-4 weight format (R183 to R186) -/

/-- A weight format has the 2-of-4 form (R183). -/
def twoOfFour (w : Nat) : Bool := fmtWidth w == 8 || w == 4 || w == 0xD || fmt16 w

/-- Bytes of a compressed record (R184). -/
def compBytes (w : Nat) : Nat := 8192 / fmtWidth w / 4 / 2 + 512

/-- Groups of a compressed record (R184). -/
def compGroups (w : Nat) : Nat := 8192 / fmtWidth w / 4

/-- The mask of group `j` (R184). -/
def compMask (v : List Byte) (j : Nat) : Nat := packedAt v 4 j

/-- The lowest group whose mask has three or four bits set (R186). -/
def compOverfull (w : Nat) (v : List Byte) : Option Nat :=
  (List.range (compGroups w)).find? (fun j => 2 < popCount 4 (compMask v j))

/-- The four element encodings of group `j` (R185). -/
def compGroup (w : Nat) (v : List Byte) (j : Nat) : List Nat :=
  let m := compMask v j
  let vals := v.drop (compGroups w / 2)
  (List.range 4).map (fun i => if m.testBit i then packedAt vals (fmtWidth w) (2 * j + popCount i m) else 0)

/-- The 1,024 decoded bytes of a compressed record (R185). -/
def compDecode (w : Nat) (v : List Byte) : List Byte :=
  slice (packElems (fmtWidth w) ((List.range (compGroups w)).flatMap (compGroup w v))) 0 1024

end Sys2Proof.Machine
end

