-- ==== Sys2Proof/Machine/Vector.lean ====
section
/-! DEFINITION. The vector unit's lane operations (R76, R77, R119 to R127) and the block reduction unit's merge, read and sample
(R157 to R164). -/

namespace Sys2Proof.Machine

/-- The 64 lanes of a V register. -/
def lanesOf (v : List Byte) : List Nat := (List.range 64).map (fun i => field v (4 * i) 4)

/-- The 128 BF16 elements of a V register, the low one of each lane first (R77). -/
def halvesOf (v : List Byte) : List Nat := (List.range 128).map (fun i => field v (2 * i) 2)

/-- Lanes as 256 bytes. -/
def ofLanes (ls : List Nat) : List Byte := ls.flatMap (leBytes 4)

/-- BF16 elements as 256 bytes. -/
def ofHalves (ls : List Nat) : List Byte := ls.flatMap (leBytes 2)

/-- A lane operation of three sources applied element by element under TYPE: 2 is BF16 (R76). -/
def lanewise (type : Nat) (f : Nat → Nat → Nat → Nat) (a b d : List Byte) : List Byte :=
  if type = 2 then ofHalves (List.zipWith (fun x yz => f x yz.1 yz.2) (halvesOf a) ((halvesOf b).zip (halvesOf d)))
  else ofLanes (List.zipWith (fun x yz => f x yz.1 yz.2) (lanesOf a) ((lanesOf b).zip (lanesOf d)))

/-- The float format of a TYPE: FP32 or BF16. -/
def typeFmt (type : Nat) : Nat := if type = 2 then 0x8 else 0xA

/-- Element bits of a TYPE. -/
def typeBits (type : Nat) : Nat := if type = 2 then 16 else 32

/-- A signed comparison of INT32 lanes, or of float encodings under R122: 0 EQ, 1 LT, 2 LE, 3 NE. -/
def laneCmp (type cc x y : Nat) : Nat :=
  if type = 1 then
    let a := toSigned 32 x
    let b := toSigned 32 y
    b2n (if cc = 0 then a == b else if cc = 1 then decide (a < b) else if cc = 2 then decide (a ≤ b) else a != b)
  else
    let a := decodeElem (typeFmt type) x
    let b := decodeElem (typeFmt type) y
    b2n (if cc = 0 then a.eqv b else if cc = 1 then a.lt b else if cc = 2 then a.le b else !a.eqv b)

/-- Minimum or maximum of two elements under TYPE (R120). -/
def laneMinMax (type : Nat) (hi : Bool) (x y : Nat) : Nat :=
  if type = 1 then
    (if hi then (if toSigned 32 x ≤ toSigned 32 y then y else x) else (if toSigned 32 x ≤ toSigned 32 y then x else y))
  else fminmax (typeFmt type) hi x y

/-- The element-wise VEC operations by OP: VMOV to VSRA and VEXP2 to VRSQ (R77). -/
def laneOp (op type aux : Nat) (x y d : Nat) : Nat :=
  let f := typeFmt type
  let w := typeBits type
  let rnd := bits aux 2 0
  if op = 0x00 then x
  else if op = 0x01 then (if type = 1 then (x + y) % 2 ^ 32 else fadd f rnd x y)
  else if op = 0x02 then (if type = 1 then (x + 2 ^ 32 - y) % 2 ^ 32 else fsub f rnd x y)
  else if op = 0x03 then (if type = 1 then (x * y) % 2 ^ 32 else fmul f rnd x y)
  else if op = 0x04 then ffma f rnd x y d
  else if op = 0x05 then laneMinMax type false x y
  else if op = 0x06 then laneMinMax type true x y
  else if op = 0x07 then
    (if type = 1 then (if x.testBit 31 then (2 ^ 32 - x) % 2 ^ 32 else x) else clearBit x (w - 1))
  else if op = 0x08 then (if type = 1 then (2 ^ 32 - x) % 2 ^ 32 else x ^^^ 2 ^ (w - 1))
  else if op = 0x09 then laneCmp type (bits aux 1 0) x y
  else if op = 0x0A then (if d = 0 then y else x)
  else if op = 0x0B then x &&& y
  else if op = 0x0C then x ||| y
  else if op = 0x0D then x ^^^ y
  else if op = 0x0E then (x <<< aux) % 2 ^ 32
  else if op = 0x0F then x >>> aux
  else if op = 0x10 then ofSigned 32 (toSigned 32 x / (2 ^ aux : Nat))
  else if op = 0x12 then fexp2 x
  else if op = 0x13 then flog2 x
  else if op = 0x14 then frcp x
  else frsq x

/-- The exact value of a lane element under TYPE. -/
def laneNum (type x : Nat) : Num := if type = 1 then decodeInt 32 0 x else decodeElem (typeFmt type) x

/-- The lane element a value rounds to under TYPE, to nearest even (R127). -/
def laneOfNum (type : Nat) (x : Num) : Nat :=
  if type = 1 then encodeInt rne 32 0 (-(2 ^ 31)) (2 ^ 31 - 1) x else (floatFmt (typeFmt type)).encode rne x

/-- How many elements a VCVT converts (R127). -/
def cvtCount (type : Nat) : Nat := if type = 2 then 128 else 64

/-- A VCVT's packed form fits its register (R127). -/
def cvtFits (type f : Nat) : Bool :=
  decide (cvtCount type * fmtWidth f ≤ 8 * (if fmtScaled f then 192 else 256))

/-- VCVT from lanes to a packed format (R127). -/
def cvtPack (type f : Nat) (v : List Byte) : List Byte :=
  let xs := if type = 2 then halvesOf v else lanesOf v
  let (es, sc) := encodeAll f (xs.map (fun x => (laneNum type x, rne)))
  packedColumn f es sc

/-- VCVT from a packed format to lanes (R127); element `i` lies under scale byte 192 + i / 32 of an MX format. -/
def cvtUnpack (type f : Nat) (v : List Byte) : List Byte :=
  let xs := (List.range (cvtCount type)).map (fun i => laneOfNum type (columnElem f 64 v i))
  if type = 2 then ofHalves xs else ofLanes xs

/-- The result of an element-wise VEC operation, VCVT, VBCAST, VPACK or VUNPK on one cell's registers (R77). -/
def vecResult (op type aux vb : Nat) (a b d : List Byte) : List Byte :=
  if op = 0x11 then (if bitOn aux 4 then cvtUnpack type (bits aux 3 0) a else cvtPack type (bits aux 3 0) a)
  else if op = 0x16 then ofLanes (List.replicate 64 ((lanesOf a).getD (vb + 32 * bits aux 0 0) 0))
  else if op = 0x17 then recPack (bits aux 3 0) a
  else if op = 0x18 then recUnpack (bits aux 3 0) a
  else lanewise type (laneOp op type aux) a b d

/-! ### The reduction unit -/

/-- Rank key of a value: a larger key ranks higher (R159). +0 and −0 rank equal. -/
def rankKey (int32 : Bool) (v : Nat) : Int :=
  if int32 then toSigned 32 v
  else match decodeElem 0xA v with
    | .nan => 2 ^ 40
    | .inf neg => if neg then -(2 ^ 36) else 2 ^ 36
    | .fin neg m _ => if m = 0 then 0 else let k : Int := (v % 2 ^ 31 : Nat); if neg then -k else k

/-- Entry `x` comes before `y`: higher rank, then lower position, then the earlier merge, then the lower cell (R159). -/
def entryBefore (int32 : Bool) (x y : RedEntry) : Bool :=
  let kx := rankKey int32 x.val.toNat
  let ky := rankKey int32 y.val.toNat
  decide (ky < kx) || (kx == ky && (decide (x.pos.toNat < y.pos.toNat) || (x.pos == y.pos &&
    (decide (x.seq < y.seq) || (x.seq == y.seq && decide (x.cell < y.cell))))))

/-- An entry placed in rank order. -/
def insertEntry (int32 : Bool) (x : RedEntry) : List RedEntry → List RedEntry
  | [] => [x]
  | y :: ys => if entryBefore int32 x y then x :: y :: ys else y :: insertEntry int32 x ys

/-- A NaN of FP32 is stored as the canonical NaN (R159). -/
def canonVal (int32 : Bool) (v : BitVec 32) : BitVec 32 :=
  if !int32 && decodeElem 0xA v.toNat == .nan then 0x7FC00000#32 else v

/-- One value merged in min or max mode: the result of R120, with the lowest position among the merged values equal to it,
equal here meaning the same bits (R160). -/
def mergeMinMax (int32 hi : Bool) (x : RedEntry) : List RedEntry → List RedEntry
  | [] => [x]
  | y :: _ =>
    let r := BitVec.ofNat 32 (laneMinMax (if int32 then 1 else 0) hi y.val.toNat x.val.toNat)
    if r = y.val ∧ r = x.val then [if x.pos.toNat < y.pos.toNat then x else y]
    else if r = y.val then [y] else [{ x with val := r }]

/-- One value merged into the reduction state (R159, R160). -/
def Rdu.mergeOne (r : Rdu) (mode : Nat) (int32 : Bool) (x0 : RedEntry) : Rdu :=
  let x := { x0 with val := canonVal int32 x0.val }
  let nan := !int32 && decodeElem 0xA x0.val.toNat == .nan
  let es := if mode = 0 then (insertEntry int32 x r.entries).take r.k else mergeMinMax int32 (mode == 2) x r.entries
  { r with entries := es, nanSeen := r.nanSeen || nan, mode, int32 }

/-- RCLR (R157). TYPE keeps its value (log 14). -/
def Rdu.clear (r : Rdu) (k : Nat) : Rdu := { r with k, mode := 3, entries := [], nanSeen := false }

/-- The result of RRD (R161). -/
def Rdu.read (r : Rdu) : List Byte :=
  let n := r.entries.length
  let w33 := b2n r.nanSeen + 2 * r.mode + 8 * b2n r.int32
  ofLanes ((List.range 16).map (fun i => (r.entries.map (fun e => e.val.toNat)).getD i 0) ++
    (List.range 16).map (fun i => (r.entries.map (fun e => e.pos.toNat)).getD i 0xFFFFFFFF) ++
    [n, w33] ++ List.replicate 30 0)

/-- A binary32 comparison: `a ≤ b`. -/
def fle32 (a b : Nat) : Bool := (decodeElem 0xA a).le (decodeElem 0xA b)
/-- A binary32 comparison: `a < b`. -/
def flt32 (a b : Nat) : Bool := (decodeElem 0xA a).lt (decodeElem 0xA b)

/-- The running sums of the weights of RSMP (R163). -/
def rsmpCum (beta e0 : Nat) : Nat → List Nat → List Nat
  | _, [] => []
  | c, v :: vs =>
    let c' := fadd32 c (fexp2 (fmul32 (fsub32 v e0) beta))
    c' :: rsmpCum beta e0 c' vs

/-- RSMP's position, its count m, and whether the draw was refused (R163); `word` is word 0 of its ChaCha8 block. Where no
sum reaches the threshold (a NaN), every entry is kept (R122, log 15). -/
def Rdu.sample (r : Rdu) (s7 word : Nat) : Nat × Nat × Bool :=
  match r.entries with
  | [] => (0xFFFFFFFF, 0, false)
  | e0 :: _ =>
    let p0 := bits s7 31 0
    let beta := bits s7 63 32
    let v0 := e0.val.toNat
    if r.nanSeen then (0xFFFFFFFF, 0, true)
    else if r.mode ≠ 0 ∨ r.int32 then (e0.pos.toNat, 1, false)
    else if !flt32 0 beta || v0 == 0x7F800000 || v0 == 0xFF800000 then (e0.pos.toNat, 1, false)
    else
      let p := if flt32 0 p0 && fle32 p0 0x3F800000 then p0 else 0x3F800000
      let cum := rsmpCum beta v0 0 (r.entries.map (fun e => e.val.toNat))
      let n := cum.length
      let tau := fmul32 p (cum.getD (n - 1) 0)
      let m := match (List.range n).find? (fun i => fle32 tau (cum.getD i 0)) with | some i => i + 1 | none => n
      let u := word >>> 8
      let uf := (floatFmt 0xA).encode rne (.fin false u (-24))
      let rr := fmul32 uf (cum.getD (m - 1) 0)
      let j := match (List.range m).find? (fun i => flt32 rr (cum.getD i 0)) with | some i => i | none => m - 1
      (((r.entries.map (fun e => e.pos.toNat)).getD j 0xFFFFFFFF), m, false)

/-- The result register of RSMP (R163). -/
def rsmpBytes (r : Nat × Nat × Bool) : List Byte :=
  ofLanes ([r.1, r.2.1 + (if r.2.2 then 2 ^ 31 else 0)] ++ List.replicate 62 0)

end Sys2Proof.Machine
end

