-- ==== Sys2Proof/Machine/LongWord.lean ====
section
/-! DEFINITION. The compressed long word: header, slots and their fields, the registers each slot reads and writes, and the word
faults that depend on the word's bits and the placement alone (R64 to R80, R95, R619, R620, 02_matrix_cells_and_long_words.md). -/

namespace Sys2Proof.Machine

/-- A fetched long word: its header and its present slots as (slot number, 32 bits), slot numbers as SLOTCELL codes them (R65, R99). -/
structure LongWord where
  /-- The 16-bit header. -/
  hdr : Nat
  /-- The present slots, in order. -/
  slots : List (Nat × Nat)
deriving DecidableEq, Repr

/-- Slots present in a header, by number (R64). -/
def slotsOf (hdr : Nat) : List Nat := (List.range 8).filter (fun i => hdr.testBit (15 - i))

/-- Bytes of a word with this header (R65). -/
def wordBytes (hdr : Nat) : Nat := 2 + 4 * (slotsOf hdr).length

/-- END (R64). -/
def LongWord.isEnd (w : LongWord) : Bool := bitOn w.hdr 6
/-- HAZARD_OK (R97). -/
def LongWord.hazardOk (w : LongWord) : Bool := bitOn w.hdr 7
/-- IDLE (R67). -/
def LongWord.idle (w : LongWord) : Nat := bits w.hdr 3 0
/-- A slot's bits, if present. -/
def LongWord.slot (w : LongWord) (i : Nat) : Option Nat := (w.slots.find? (fun p => p.1 == i)).map Prod.snd
/-- The word's length in 2-byte units. -/
def LongWord.units (w : LongWord) : Nat := wordBytes w.hdr / 2

/-- The word at byte offset `o` of a long-word program of `len` bytes at `base` of a block store; none where it lies outside the
program (R619). -/
def fetchWord (store : Mem) (base len o : Nat) : Option LongWord :=
  if len < o + 2 then none
  else
    let hdr := store.readNat (base + o) 2
    if len < o + wordBytes hdr then none
    else
      let is := slotsOf hdr
      some { hdr, slots := is.zip ((List.range is.length).map (fun j => store.readNat (base + o + 2 + 4 * j) 4)) }

/-! ### Slot fields -/

/-- The cell mask of a slot (R72, R74 to R76, R80). SETA, ADDA and SETDC carry it at 26:23; the slots without one count in cell 0. -/
def slotMask (slot raw : Nat) : Nat :=
  if slot ≤ 1 then bits raw 27 24
  else if slot ≤ 5 then bits raw 31 28
  else if slot = 7 ∧ (bits raw 31 27 = 4 ∨ bits raw 31 27 = 5 ∨ bits raw 31 27 = 8) then bits raw 26 23
  else 1

/-- OP of an M slot (R72). -/
def mOp (r : Nat) : Nat := bits r 31 28
/-- T of MMA and MMAS. -/
def mT (r : Nat) : Nat := bits r 23 22
/-- VSRC or VBASE. -/
def mV (r : Nat) : Nat := bits r 21 17
/-- COL of MMA and MMAS. -/
def mCol (r : Nat) : Nat := bits r 16 11
/-- ACC. -/
def mAcc (r : Nat) : Bool := bitOn r 10
/-- NCOL of MMAS. -/
def mNcol (r : Nat) : Nat := bits r 9 7 + 1
/-- COL of DRAIN and ZERO. -/
def dCol (r : Nat) : Nat := bits r 23 18
/-- VD of DRAIN. -/
def dVd (r : Nat) : Nat := bits r 17 13
/-- FMT of DRAIN. -/
def dFmt (r : Nat) : Nat := bits r 12 9
/-- RND of DRAIN. -/
def dRnd (r : Nat) : Nat := bits r 8 6
/-- BM of DRAIN. -/
def dBm (r : Nat) : Bool := bitOn r 5
/-- CLR of DRAIN. -/
def dClr (r : Nat) : Bool := bitOn r 4
/-- SIG of DRAIN. -/
def dSig (r : Nat) : Bool := bitOn r 3
/-- COUNT of ZERO. -/
def zCount (r : Nat) : Nat := bits r 17 12 + 1

/-- KIND of a load, MODE of a store (R74, R75). -/
def lKind (r : Nat) : Nat := bits r 27 26
/-- DST or SRC. -/
def lReg (r : Nat) : Nat := bits r 25 21
/-- T index of a tile load. -/
def lT (r : Nat) : Nat := bits r 25 24
/-- PART of a tile load. -/
def lPart (r : Nat) : Nat := bits r 23 21
/-- AREG. -/
def lAreg (r : Nat) : Nat := bits r 20 17
/-- OFF. -/
def lOff (r : Nat) : Nat := bits r 16 3
/-- LEN. -/
def lLen (r : Nat) : Nat := bits r 2 1
/-- DEC. -/
def lDec (r : Nat) : Bool := bitOn r 0
/-- Bytes of a LEN code (R74). -/
def lenBytes (l : Nat) : Nat := if l = 0 then 64 else if l = 1 then 128 else 256

/-- OP of a VEC slot (R76). -/
def vOp (r : Nat) : Nat := bits r 27 22
/-- VD. -/
def vD (r : Nat) : Nat := bits r 21 17
/-- VA. -/
def vA (r : Nat) : Nat := bits r 16 12
/-- VB. -/
def vB (r : Nat) : Nat := bits r 11 7
/-- TYPE. -/
def vType (r : Nat) : Nat := bits r 6 5
/-- AUX. -/
def vAux (r : Nat) : Nat := bits r 4 0

/-- OP of a SYNC slot (R78). -/
def sOp (r : Nat) : Nat := bits r 31 29
/-- CNT. -/
def sCnt (r : Nat) : Nat := bits r 28 23
/-- LBLK. -/
def sShape (r : Nat) : Nat := bits r 22 14
/-- N. -/
def sN (r : Nat) : Nat := bits r 13 0
/-- SREG. -/
def sReg (r : Nat) : Nat := bits r 22 20
/-- IMM. -/
def sImm (r : Nat) : Nat := bits r 19 0
/-- LINE. -/
def sLine (r : Nat) : Nat := bits r 28 25

/-- OP of a CTL slot (R80). -/
def cOp (r : Nat) : Nat := bits r 31 27
/-- Signed branch offset in 2-byte units. -/
def cOffset (r : Nat) : Int := toSigned 24 (bits r 23 0)
/-- LC. -/
def cLc (r : Nat) : Nat := bits r 26 25
/-- AREG of SETA and ADDA. -/
def cAreg (r : Nat) : Nat := bits r 22 19
/-- Sign-extended IMM of SETA and ADDA. -/
def cImmA (r : Nat) : Int := toSigned 19 (bits r 18 0)
/-- SREG. -/
def cSreg (r : Nat) : Nat := bits r 26 24
/-- CNT of SETDC. -/
def cDc (r : Nat) : Nat := bits r 22 17

/-! ### Error bits of a block page (R101) -/

/-- LW_ENCODING. -/
def eEncoding : Nat := 1
/-- LW_SLOT_CONFLICT. -/
def eConflict : Nat := 2
/-- LW_ARRAY_BUSY. -/
def eBusy : Nat := 3
/-- LW_ADDR_RANGE. -/
def eAddr : Nat := 4
/-- LW_HAZARD. -/
def eHazard : Nat := 5
/-- DET_VARIANT. -/
def eVariant : Nat := 6
/-- CELL_RESIDUE. -/
def eResidue : Nat := 7
/-- FMT_GROUP_OVERFULL. -/
def eOverfull : Nat := 8
/-- FMT_INDEX_RANGE. -/
def eIndex : Nat := 9
/-- SYNC_ABANDONED. -/
def eAbandoned : Nat := 10
/-- SYNC_BAD_TARGET. -/
def eBadTarget : Nat := 11
/-- BLK_STORE_UE. -/
def eStoreUe : Nat := 12
/-- BLK_PREP_FAULT. -/
def ePrepFault : Nat := 13
/-- BLK_WATCHDOG. -/
def eWatchdog : Nat := 14
/-- BLK_STORE_CE. -/
def eStoreCe : Nat := 16

/-- A fault of a word: its ERR_STAT bit, slot, cell, DETAIL and AUX (R102). -/
structure WFault where
  /-- ERR_STAT bit. -/
  code : Nat
  /-- Slot. -/
  slot : Nat := 0
  /-- Cell. -/
  cell : Nat := 0
  /-- DETAIL. -/
  detail : Nat := 0
  /-- AUX. -/
  aux : Nat := 0
deriving DecidableEq, Repr

/-- A fault of the header (R95). -/
def headerFault (code aux : Nat) : WFault := { code, detail := 1, aux }

/-! ### Registers a slot names -/

/-- A register for R69, R93 and R94. A tile register counts as nine: parts 0 to 7 and the sidecar as 8 (R620). -/
inductive Reg where
  /-- A V register. -/
  | v (i : Nat)
  /-- A tile part, or the sidecar as part 8. -/
  | t (i part : Nat)
  /-- An A register. -/
  | a (i : Nat)
  /-- An S register. -/
  | s (i : Nat)
  /-- A loop counter. -/
  | lc (i : Nat)
  /-- A sync counter. -/
  | cnt (i : Nat)
  /-- MFMT. -/
  | mfmt
  /-- DRAIN_CNT. -/
  | drainCnt
deriving DecidableEq, Repr

/-- Class and index of a register as DETAIL has them (R102). MFMT is index 0 of class 7 and DRAIN_CNT index 1 (log 16). -/
def Reg.detail : Reg → Nat
  | .v i => i * 2 ^ 16
  | .t i p => 2 ^ 28 + (16 * i + p) * 2 ^ 16
  | .a i => 2 * 2 ^ 28 + i * 2 ^ 16
  | .s i => 3 * 2 ^ 28 + i * 2 ^ 16
  | .lc i => 4 * 2 ^ 28 + i * 2 ^ 16
  | .cnt i => 5 * 2 ^ 28 + i * 2 ^ 16
  | .mfmt => 7 * 2 ^ 28
  | .drainCnt => 7 * 2 ^ 28 + 2 ^ 16

/-- The register belongs to a cell; the others belong to the block and count as cell 0 (log 16). -/
def Reg.perCell : Reg → Bool
  | .s _ => false
  | .lc _ => false
  | .cnt _ => false
  | _ => true

/-- VEC operations that write VD (R77). -/
def vecWritesVd (op : Nat) : Bool := op != 0x20 && op != 0x22

/-- VEC operations that read VB as a V register (R77). -/
def vecReadsVb (op : Nat) : Bool := (decide (1 ≤ op) && decide (op ≤ 6)) || (decide (9 ≤ op) && decide (op ≤ 0xD))

/-- VEC operations that read VA (R77). -/
def vecReadsVa (op : Nat) : Bool := decide (op ≤ 0x18) || op == 0x20

/-- The registers a slot writes, on the cells of its mask (R69). -/
def slotWrites (slot r : Nat) : List Reg :=
  if slot ≤ 1 then
    (if mOp r = 3 then (if dFmt r = 0xB then [.v (dVd r), .v (dVd r + 1)] else [.v (dVd r)])
     else if mOp r = 5 then [.mfmt] else [])
  else if slot ≤ 3 then
    (if lKind r = 0 then [.v (lReg r)] else if lKind r = 1 then [.t (lT r) (lPart r)] else [.t (lT r) 8])
  else if slot = 5 then (if vecWritesVd (vOp r) then [.v (vD r)] else [])
  else if slot = 6 then (if sOp r = 3 then [.s (sReg r)] else [])
  else if slot = 7 then
    (let o := cOp r
     if o = 2 ∨ o = 3 then [.lc (cLc r)]
     else if o = 4 ∨ o = 5 then [.a (cAreg r)]
     else if o = 6 ∨ o = 7 ∨ o = 0xA ∨ o = 0xB ∨ o = 0xC then [.s (cSreg r)]
     else if o = 8 then [.drainCnt] else [])
  else []

/-- The registers a slot reads under MFMT formats `w` and `a`, in the order its table lists its operands (R93, R620). -/
def slotReads (slot r w a : Nat) : List Reg :=
  if slot ≤ 1 then
    (let tile : List Reg := .mfmt :: ((List.range (partsRead w a)).map (fun p => Reg.t (mT r) p) ++ (if fmtScaled w then [.t (mT r) 8] else []))
     if mOp r = 1 then tile ++ [.v (mV r)]
     else if mOp r = 2 then tile ++ (List.range (mNcol r)).map (fun n => Reg.v (mV r + n))
     else if mOp r = 3 ∧ dSig r then [.drainCnt] else [])
  else if slot ≤ 3 then .a (lAreg r) :: (if lDec r then [.mfmt] else [])
  else if slot = 4 then [.v (lReg r), .a (lAreg r)]
  else if slot = 5 then
    (let o := vOp r
     (if o = 0x04 ∨ o = 0x0A then [Reg.v (vD r)] else []) ++ (if vecReadsVa o then [.v (vA r)] else []) ++
       (if vecReadsVb o then [.v (vB r)] else []) ++ (if o = 0x20 then [.a (bits (vB r) 3 0)] else []) ++
       (if o = 0x23 then [.s 7] else []))
  else if slot = 6 then (if sOp r = 2 then [.cnt (sCnt r), .s (sReg r)] else if sOp r = 3 then [.cnt (sCnt r)] else [])
  else if slot = 7 then
    (let o := cOp r
     if o = 2 then [.lc (cLc r)] else if o = 5 then [.a (cAreg r)] else if o = 7 then [.s (cSreg r)] else [])
  else []

/-! ### Word faults -/

/-- An M slot's own encoding rules that depend on its bits alone (R69, R72, R73, R168). -/
def mOk (r : Nat) : Bool :=
  slotMask 0 r != 0 &&
  (if mOp r = 1 then bits r 9 0 == 0
   else if mOp r = 2 then bits r 6 0 == 0 && decide (mV r + mNcol r ≤ 32) && decide (mCol r + mNcol r ≤ 64)
   else if mOp r = 3 then bits r 2 0 == 0 && fmtOk (dFmt r) && decide (dRnd r ≤ 4) && !(dFmt r == 0xB && dVd r % 2 == 1) &&
     !(dBm r && !bitmapForm (dFmt r))
   else if mOp r = 4 then bits r 11 0 == 0 && decide (dCol r + zCount r ≤ 64)
   else if mOp r = 5 then bits r 15 0 == 0 && fmtOk (bits r 23 20) && fmtOk (bits r 19 16)
   else false)

/-- A load slot's own encoding rules (R74, R174). -/
def ldOk (r : Nat) : Bool :=
  slotMask 2 r != 0 &&
  (if lKind r = 0 then lLen r != 3 && !(lDec r && lLen r != 2)
   else if lKind r = 1 then lLen r == 0
   else if lKind r = 2 then lLen r == 0 && bits r 23 21 == 0 && !lDec r
   else false)

/-- A store slot's own encoding rules (R75). -/
def stOk (r : Nat) : Bool :=
  slotMask 4 r != 0 && !bitOn r 0 && (if lKind r = 0 then lLen r != 3 else lKind r == 1 && lLen r == 0)

/-- A TYPE a VEC operation allows (R77). -/
def vecTypeOk (op type : Nat) : Bool :=
  if op = 0x04 then type == 0 || type == 2
  else if 0x0B ≤ op ∧ op ≤ 0x10 then type == 1
  else if 0x12 ≤ op ∧ op ≤ 0x15 then type == 0
  else if op = 0x17 ∨ op = 0x18 ∨ op = 0x22 ∨ op = 0x23 then type == 0
  else if op = 0x20 ∨ op = 0x21 then type == 0 || type == 1
  else decide (type ≤ 2)

/-- An AUX a VEC operation allows (R77, R127, R168). -/
def vecAuxOk (op type aux : Nat) : Bool :=
  if 1 ≤ op ∧ op ≤ 4 then decide (bits aux 2 0 ≤ 3) && bits aux 4 3 == 0
  else if op = 0x09 then bits aux 4 2 == 0
  else if 0x0E ≤ op ∧ op ≤ 0x10 then true
  else if op = 0x11 then fmtOk (bits aux 3 0) && cvtFits type (bits aux 3 0)
  else if op = 0x16 then bits aux 4 1 == 0
  else if op = 0x17 ∨ op = 0x18 then aux < 16 && bitmapForm (bits aux 3 0) && fmtOk (bits aux 3 0)
  else if op = 0x20 then decide (bits aux 1 0 ≤ 2) && bits aux 4 2 == 0
  else if op = 0x22 then decide (aux < 16)
  else aux == 0

/-- A VEC slot's own encoding rules. -/
def vecOk (r : Nat) : Bool :=
  let o := vOp r
  slotMask 5 r != 0 && (decide (o ≤ 0x18) || (decide (0x20 ≤ o) && decide (o ≤ 0x23))) && decide (vType r ≤ 2) &&
    vecTypeOk o (vType r) && vecAuxOk o (vType r) (vAux r)

/-- A SYNC slot's own encoding rules (R78). -/
def syncOk (r : Nat) : Bool :=
  let o := sOp r
  if o = 0 then decide (sCnt r ≤ 47) && bits r 22 14 == 0 && sN r != 0
  else if o = 1 then decide (sCnt r ≤ 47) && sN r != 0
  else if o = 2 then decide (sCnt r ≤ 47)
  else if o = 3 then decide (sCnt r ≤ 47) && sImm r == 0
  else if o = 4 ∨ o = 5 then bits r 24 0 == 0
  else false

/-- A CTL slot's own encoding rules (R80); END beside BR or LOOP is one of them (R69). -/
def ctlOk (isEnd : Bool) (r : Nat) : Bool :=
  let o := cOp r
  if o = 1 then bits r 26 24 == 0 && !isEnd
  else if o = 2 then !bitOn r 24 && !isEnd
  else if o = 3 then !bitOn r 24
  else if o = 4 ∨ o = 5 then slotMask 7 r != 0
  else if o = 6 ∨ o = 7 then true
  else if o = 8 then slotMask 7 r != 0 && bits r 16 0 == 0 && decide (cDc r ≤ 47)
  else if o = 9 then bits r 26 16 == 0
  else if o = 0xA ∨ o = 0xB ∨ o = 0xC then bits r 23 0 == 0
  else false

/-- A slot's own encoding rules. -/
def slotOk (isEnd : Bool) (slot r : Nat) : Bool :=
  if slot ≤ 1 then mOk r else if slot ≤ 3 then ldOk r else if slot = 4 then stOk r else if slot = 5 then vecOk r
  else if slot = 6 then syncOk r else ctlOk isEnd r

/-- The lowest cell of a mask, 0 for none. -/
def lowCell (m : Nat) : Nat := (lowestOne 4 m).getD 0

/-- The cells of a slot on which a register of a class counts. -/
def regCells (x : Reg) (slot r : Nat) : Nat := if x.perCell then slotMask slot r else 1

/-- The lowest common cell of two slots that conflict (R69, R95). -/
def conflictCell (s1 r1 s2 r2 : Nat) : Option Nat :=
  let both := slotMask s1 r1 &&& slotMask s2 r2
  if s1 = 0 ∧ s2 = 1 ∧ both ≠ 0 then some (lowCell both)
  else
    let cells := (slotWrites s1 r1).flatMap (fun x => (slotWrites s2 r2).filterMap (fun y =>
      let c := regCells x s1 r1 &&& regCells y s2 r2
      if x = y ∧ c ≠ 0 then some (lowCell c) else none))
    cells.foldl (fun acc c => match acc with | none => some c | some d => some (min c d)) none

/-- The lowest common cell of a slot with an earlier slot of its word. -/
def conflictWith (earlier : List (Nat × Nat)) (slot r : Nat) : Option Nat :=
  (earlier.filterMap (fun p => conflictCell p.1 p.2 slot r)).foldl
    (fun acc c => match acc with | none => some c | some d => some (min c d)) none

/-- The target of a BR or LOOP in 2-byte units (R80). -/
def branchTarget (pc r : Nat) : Int := (pc : Int) + cOffset r

/-- What the placement tells a word's tests: bytes of the long-word program, strict mode, the shapes placed, the block's
HUDDLE_MASK. -/
structure WordEnv where
  /-- LW_BYTES. -/
  lwBytes : Nat
  /-- Strict mode. -/
  strict : Bool
  /-- A shape number is placed. -/
  placed : Nat → Bool
  /-- HUDDLE_MASK. -/
  hudMask : Nat

/-- A V-marked operation (R83). -/
def vMarked (slot r : Nat) : Bool := (slot == 6 && sOp r == 3) || (slot == 7 && (cOp r == 0xB || cOp r == 0xC))

/-- The word fault of one slot, after the slots before it proved free of any (R95, R619). -/
def slotWordFault (v : WordEnv) (pc : Nat) (w : LongWord) (earlier : List (Nat × Nat)) (slot r : Nat) : Option WFault :=
  if !slotOk w.isEnd slot r then some { code := eEncoding, slot, cell := lowCell (slotMask slot r) }
  else match conflictWith earlier slot r with
  | some c => some { code := eConflict, slot, cell := c }
  | none =>
    if slot = 7 ∧ (cOp r = 1 ∨ cOp r = 2) ∧ ¬ (0 ≤ branchTarget pc r ∧ branchTarget pc r < (v.lwBytes / 2 : Nat)) then
      some { code := eAddr, slot, aux := ofSigned 32 (branchTarget pc r) }
    else if vMarked slot r && v.strict then some { code := eVariant, slot }
    else if slot = 6 ∧ sOp r = 1 ∧ !v.placed (sShape r) then
      some { code := eBadTarget, slot, detail := 2 ^ 28 + sShape r * 2 ^ 16 }
    else if slot = 6 ∧ (sOp r = 4 ∨ sOp r = 5) ∧ !bitOn v.hudMask (sLine r) then
      some { code := eBadTarget, slot, detail := 2 * 2 ^ 28 + sLine r * 2 ^ 16 }
    else none

/-- The first word fault among slots, in slot order. -/
def slotsWordFault (v : WordEnv) (pc : Nat) (w : LongWord) : List (Nat × Nat) → List (Nat × Nat) → Option WFault
  | _, [] => none
  | earlier, (i, r) :: rest =>
    match slotWordFault v pc w earlier i r with
    | some f => some f
    | none => slotsWordFault v pc w (earlier ++ [(i, r)]) rest

/-- The word fault of a word that lies inside the program (R95, R619). -/
def wordFault (v : WordEnv) (pc : Nat) (w : LongWord) : Option WFault :=
  if bits w.hdr 5 4 ≠ 0 then some (headerFault eEncoding 0) else slotsWordFault v pc w [] w.slots

end Sys2Proof.Machine
end

