-- ==== Sys2Proof/Machine/Sync.lean ====
section
/-! DEFINITION. Sync counters, the Huddle, the commands that wait on them, and how a run begins and ends in a block (06, R46, R89,
R99, R552). -/

namespace Sys2Proof.Machine

/-! ### Counters -/

/-- A counter of a block. -/
def Block.cnt (b : Block) (i : Nat) : Cnt := Sparse.get {} b.cnts i

/-- A counter replaced. -/
def Block.setCnt (i : Nat) (c : Cnt) (b : Block) : Block := { b with cnts := Sparse.set {} b.cnts i c }

/-- A counter table entry of a block (R200). -/
def Block.cntEntry (b : Block) (i : Nat) : CntEntry := Sparse.get {} b.cntCfg i

/-- Interrupt 18 once the armed counter reaches its target or is abandoned; arming is then cleared (R196). -/
def Block.checkArm (b : Block) : Block :=
  match b.prep.arm with
  | none => b
  | some (i, t) =>
    if (b.cnt i).abandoned.isSome || decide (t ≤ (b.cnt i).value) then
      { b with prep.arm := none, prep.mip := b.prep.mip ||| 0x40000#64 }
    else b

/-- A signal adds N, up to 2^64 − 1; an ABANDONED counter ignores it (R198, R207). -/
def Block.addCnt (i n : Nat) (b : Block) : Block :=
  let c := b.cnt i
  if c.abandoned.isSome then b else (b.setCnt i { c with value := min max64 (c.value + n) }).checkArm

/-- The value the block's own issue stage sees: its own signals come to it ahead of other agents (R203). -/
def Block.ownView (b : Block) (i : Nat) : Nat := min max64 ((b.cnt i).value + (b.cnt i).ahead)

/-- A store due by beat `d` is not yet visible. -/
def Block.storesPending (b : Block) (d : Nat) : Bool :=
  b.pend.any (fun p => match p.kind with | .store .. => decide (p.due ≤ d) | _ => false)

/-- The beat by which every store issued so far is visible, 0 for none pending. -/
def Block.storesBy (b : Block) : Nat :=
  b.pend.foldl (fun m p => match p.kind with | .store .. => max m p.due | _ => m) 0

/-- The writes a signal follows have become visible: the stores due by a beat, and the DMA descriptors started before it (R203). -/
def Block.gateOpen (b : Block) (beat gate : Nat) : Bool :=
  !b.storesPending beat && b.dma.flight.all (fun f => decide (gate ≤ f.1))

/-- One own signal published to the other agents, if the writes it follows are visible. -/
def Block.publishOne (b : Block) (e : Nat × Nat × Nat × Nat) : Block :=
  if b.gateOpen e.2.2.1 e.2.2.2 then
    let c := b.cnt e.1
    (b.setCnt e.1 { c with ahead := c.ahead - e.2.1 }).addCnt e.1 e.2.1
  else { b with sigs := b.sigs ++ [e] }

/-- Every own signal whose earlier writes are visible is published (R203). -/
def Block.publish (b : Block) : Block := b.sigs.foldl Block.publishOne { b with sigs := [] }

/-! ### Completions of commands on blocks -/

/-- The fault of the lowest shape number among those recorded. -/
def lowestFault (fs : List (Nat × Nat × Nat × Nat)) : Option (Nat × Nat × Nat × Nat) :=
  fs.foldl (fun acc f => match acc with | none => some f | some g => some (if f.1 < g.1 then f else g)) none

/-- The Proofer's learned power of an entry: the highest of the last 16 runs (R503). -/
def State.learned (s : State) (entry : Nat) : Option Nat :=
  (s.prf.learned.find? (fun e => e.id == s.place.id && e.entry == entry)).map (fun e => e.powers.foldl max 0)

/-- The mean power of a run that has ended enters the learned table: energy in mJ over a time in ns. Nothing is learned before WARM
(R515) nor from a run that took no module time; the oldest of 1,024 entries makes room (R503, log 27). -/
def State.learn (entry energy start : Nat) (s : State) : State :=
  if !s.prf.warm || s.time.now ≤ start then s
  else
    let w := energy * 1000000 / (s.time.now - start)
    let mine : Learned → Bool := fun e => e.id == s.place.id && e.entry == entry
    match s.prf.learned.find? mine with
    | some e => { s with prf.learned := s.prf.learned.map (fun x =>
        if mine x then { e with powers := e.powers.drop (e.powers.length - 15) ++ [w] } else x) }
    | none => { s with prf.learned := s.prf.learned.drop (s.prf.learned.length - 1023) ++ [{ id := s.place.id, entry, powers := [w] }] }

/-- A RUN whose targets have all ended completes (R552). -/
def State.finishRun (c : OpenCmd) (s0 : State) : State :=
  let s := s0.learn c.entryOff c.energy c.start
  match lowestFault c.faults with
  | none => s.finishOpen c 0 c.okStep 0 0
  | some (shape, st, step, r1) => s.finishOpen c st step (r1 + shape) c.faults.length

/-- A target of a RUN has ended, with STATUS 0 or the STATUS of its fault (R552). -/
def State.targetEnd (seq shape status step r1 : Nat) (s : State) : State :=
  match s.openCmd seq with
  | none => s
  | some c =>
    let c' := { c with
      targets := c.targets.filter (fun t => t.1 != shape)
      okStep := if shape = c.first then step else c.okStep
      faults := if status = 0 then c.faults else c.faults ++ [(shape, status, step, r1)] }
    if c'.targets.isEmpty then s.finishRun c' else s.setOpen c'

/-- A command that executes nothing ends: it leaves every run queue it stands in (R45, R208, R546). -/
def State.dropCmd (seq status : Nat) (s : State) : State :=
  match s.openCmd seq with
  | none => s
  | some c =>
    (c.targets.foldl (fun (s : State) t => s.onBlock t.2 (fun b => { b with runq := b.runq.filter (fun q => q.seq != some seq) })) s
      |> fun (s : State) => ({ s with hif.waits := s.hif.waits.filter (fun x => x != seq) } : State)).finishOpen c status 0 0 0

/-- The counter a command waits on, where the placement has it. -/
def State.waitCnt (s : State) (w : Nat × Nat × Nat) : Option Cnt :=
  (s.physOf w.1).map (fun p => (s.block p).cnt w.2.1)

/-- The condition of a waiting command: satisfied, not yet, or abandoned (R205, R208). -/
inductive WaitState where
  /-- The counter has reached the target. -/
  | ok
  /-- Not yet. -/
  | notYet
  /-- The counter is ABANDONED. -/
  | abandoned
deriving DecidableEq, Repr

/-- The state of a wait condition of the host. -/
def State.waitState (s : State) (w : Option (Nat × Nat × Nat)) : WaitState :=
  match w with
  | none => .ok
  | some w => match s.waitCnt w with
    | none => .notYet
    | some c => if c.abandoned.isSome then .abandoned else if w.2.2 ≤ c.value then .ok else .notYet

/-- A command in the pool of wait entries is released when its condition is decided (R208, R546). -/
def State.wakeOne (s : State) (seq : Nat) : State :=
  match s.openCmd seq with
  | none => s
  | some c => match s.waitState c.wait with
    | .notYet => s
    | .abandoned => s.dropCmd seq stAbandoned
    | .ok =>
      let t : State := { s with hif.waits := s.hif.waits.filter (fun x => x != seq) }
      let u : State := match c.signal with
        | none => t
        | some (shape, i, n) => { t with hif.inflight := t.hif.inflight ++ [.host shape i n (some c.seq)] }
      u.finishOpen c 0 0 0 0

/-- Every command in the pool whose condition is decided is released; a RUN whose counter is ABANDONED ends (R208, R546). -/
def State.wakeHost (s : State) : State :=
  let t := s.hif.waits.foldl State.wakeOne s
  (t.hif.opened.filter (fun c => c.opcode == 0x10 && !c.admitted && t.waitState c.wait == .abandoned)).foldl
    (fun s c => s.dropCmd c.seq stAbandoned) t

/-- A signal reaches a counter (R204). -/
def State.cntAdd (p i n : Nat) (s : State) : State := (s.onBlock p (Block.addCnt i n)).wakeHost

/-- A SEQ lies before another, in a window of half the numbers: SEQ counts modulo 2^32. -/
def seqBefore (a b : Nat) : Bool := a != b && decide ((b + 2 ^ 32 - a) % 2 ^ 32 < 2 ^ 31)

/-- The writes that a SIGNAL follows have landed: every COPY and ATOMIC of lower SEQ, and every BAR2 write that arrived before its
descriptor (R547). -/
def State.copiesLanded (s : State) (seq : Nat) : Bool :=
  s.hif.parked.all (fun e => !((e.opcode == 0x20 || e.opcode == 0x21) && seqBefore e.seq seq)) &&
  s.mem.queue.all (fun m => match m.stamp with | some k => !(m.write && (k == seq || seqBefore k seq)) | none => true)

/-- A signal on its way: visible to its counter once the writes it must follow are (R203, R547). -/
def State.signalReady (s : State) : InFlight → Bool
  | .remote src _ _ _ beat gate => (s.block src).gateOpen beat gate
  | .host _ _ _ seq => match seq with | some q => s.copiesLanded q | none => true

/-- The target of a signal on its way. -/
def InFlight.target : InFlight → Nat × Nat × Nat
  | .remote _ shape i n _ _ => (shape, i, n)
  | .host shape i n _ => (shape, i, n)

/-- A signal put on its way from a block to a counter, behind the writes the block has under way (R203). -/
def State.sendSignal (src shape i n : Nat) (s : State) : State :=
  let b := s.block src
  { s with hif.inflight := s.hif.inflight ++ [.remote src shape i n b.storesBy b.dma.started] }

/-! ### The Huddle -/

/-- A Huddle line. -/
def State.line (s : State) (l : Nat) : HudLine := Sparse.get {} s.hud l

/-- The blocks the placement maps, by shape number and physical block. -/
def State.placed (s : State) : List (Nat × Nat) := s.place.map.map (fun c => (c.1, c.2 - 1))

/-- The blocks that take part in a line (R212). -/
def State.members (s : State) (l : Nat) : List Nat :=
  (s.placed.map Prod.snd).filter (fun p => bitOn (s.block p).hudMask l)

/-- ARR of a block on a line. -/
def Block.arrivals (b : Block) (l : Nat) : Nat := b.arr.num l

/-- The releases a line's arrivals bring about: the smallest ARR of its participants (R212, R621). -/
def State.finalGen (s : State) (l : Nat) : Nat :=
  match (s.members l).map (fun p => (s.block p).arrivals l) with
  | [] => 0
  | a :: as => as.foldl min a

/-! ### Traces and runs -/

/-- A trace record enters the ring of a block, if tracing is on for its kind; a record whose write fails is dropped and counted
(R99, R100). Kinds: 0 START, 1 END, 2 FAULT, 3 TRAP. -/
def State.traceRec (p kind lwoff step cause slotcell code detail aux : Nat) (s : State) : State :=
  let b := s.block p
  match s.pageOfBlock p with
  | none => s
  | some l =>
    if !b.trace.en || !bitOn (s.fld .blk l 0x118 7 4) kind then s
    else
      let size := 4096 * 2 ^ b.trace.sizeLog2
      let rec_ := leBytes 4 b.lastTag ++ leBytes 3 lwoff ++ leBytes 1 (kind + 1) ++ leBytes 8 step ++ leBytes 2 l ++
        leBytes 2 (dieOf p * 32 + pblkOf p) ++ leBytes 1 cause ++ leBytes 1 slotcell ++ leBytes 2 code ++ leBytes 4 detail ++ leBytes 4 aux
      let addr := b.trace.base + 32 * b.trace.head
      if s.devBusy addr 32 then s.onBlock p (fun b => { b with trace.drops := min (2 ^ 24 - 1) (b.trace.drops + 1) })
      else
        match s.devWrite (whoOf 0x40 ((s.shapeOf p).getD 0)) addr rec_ with
        | (0, t) => t.onBlock p (fun b =>
            let h := b.trace.head + 1
            if 32 * h = size then { b with trace.head := 0, trace.wrapped := true } else { b with trace.head := h })
        | (_, t) => t.onBlock p (fun b => { b with trace.drops := min (2 ^ 24 - 1) (b.trace.drops + 1) })

/-- The Proofer holds a block: for its die (R510), or every block that does not run INLINE work (R511). -/
def State.proofed (s : State) (p : Nat) : Bool :=
  let b := s.block p
  b.prooferHold || (s.prf.holdAll && match b.run with | some r => r.req.cls != 0 | none => false)

/-- A block starts a run it has accepted (R195, R509): the step counter is set when the command says so (R458). -/
def State.startRun (p : Nat) (r : RunReq) (s : State) : State :=
  let t := s.onBlock p (fun b => { b with
    run := some { req := r, pc := r.entry, start := s.time.now }
    runq := b.runq.tail
    hold := .none, prooferHold := false
    step := r.stepSet.getD b.step
    lastTag := r.tag
    lastCls := if r.seq.isSome then r.cls else b.lastCls })
  t.traceRec p 0 r.entry (t.block p).step 0xFF 0 0 0 0

/-- A RUN that has ended and finds no room for its completion holds its targets (R556). -/
def State.heldAtEnd (s : State) (p : Nat) : Bool := s.hif.ending.any (fun h => h.targets.contains p)

/-- Energy used by a target that has ended, added to its command's. -/
def State.addEnergy (q e : Nat) (s : State) : State :=
  match s.openCmd q with
  | none => s
  | some c => s.setOpen { c with energy := c.energy + e }

/-- A run ends in its block: a host command's target ends (R552), a run of vln.run raises interrupt 17 (R195). -/
def State.endRun (p status step r1 : Nat) (s : State) : State :=
  match (s.block p).run with
  | none => s
  | some r =>
    let t := s.onBlock p (fun b => { b with run := none, hold := .none })
    match r.req.seq with
    | none => (t.onBlock p (fun b => { b with prep.mip := b.prep.mip ||| 0x20000#64 })).learn r.req.entry r.energy r.start
    | some q => (t.addEnergy q r.energy).targetEnd q ((s.shapeOf p).getD 0) status step r1

/-! ### Landing -/

/-- Bits of a V register replaced. -/
def Cell.putBits (c : Cell) (reg lo len val : Nat) : Cell :=
  let a := 256 * reg + lo / 8
  let n := (lo + len + 7) / 8 - lo / 8
  let old := c.v.readNat a n
  { c with v := c.v.writeNat a n (if len = 0 then old else setBits old (lo % 8 + len - 1) (lo % 8) val) }

/-- A cell of a block. -/
def Block.cell (b : Block) (i : Nat) : Cell := Sparse.get {} b.cells i

/-- A cell of a block changed. -/
def Block.onCell (i : Nat) (f : Cell → Cell) (b : Block) : Block := { b with cells := Sparse.set {} b.cells i (f (b.cell i)) }

/-- An S register. -/
def Block.sreg (b : Block) (i : Nat) : Nat := (Sparse.get (0#64) b.s i).toNat

/-- An A register of a cell. -/
def Cell.areg (c : Cell) (i : Nat) : Nat := (Sparse.get (0#64) c.a i).toNat

/-- A signal of the block's own issue stage reaches its own WAIT and READ, and waits for the writes before it (R203). -/
def Block.ownSignal (i n beat gate : Nat) (b : Block) : Block :=
  let c := b.cnt i
  if c.abandoned.isSome then b else { (b.setCnt i { c with ahead := c.ahead + n }) with sigs := b.sigs ++ [(i, n, beat, gate)] }

/-- An operation in flight becomes visible (R84). -/
def Block.landOne (b : Block) (p : Pend) : Block :=
  match p.kind with
  | .vreg c r lo len v _ _ => b.onCell c (fun x => x.putBits r lo len v)
  | .tile c t part off bs => b.onCell c (fun x => { x with t := x.t.write (8448 * t + 1024 * part + off) bs })
  | .areg c r v => b.onCell c (fun x => { x with a := Sparse.set 0 x.a r v })
  | .sreg r v => { b with s := Sparse.set 0 b.s r v }
  | .lc r v => { b with lc := b.lc.setNum r v }
  | .mfmt c w a => b.onCell c (fun x => { x with wfmt := w, afmt := a })
  | .drainCnt c v => b.onCell c (fun x => { x with drainCnt := v })
  | .sig i n beat gate => b.ownSignal i n beat gate
  | .drainSig i n beat gate => b.ownSignal i n beat gate
  | .store a _ bs _ => { b with store := b.store.write a bs }
  | .merge vs mode int32 seq =>
    { b with rdu := vs.foldl (fun r v => r.mergeOne mode int32 { val := v.1, pos := v.2.1, seq, cell := v.2.2 }) b.rdu }
  | .redClear k q =>
    { b with rdu := b.rdu.clear k
             pend := b.pend.filter (fun p => match p.kind with | .merge _ _ _ seq => decide (q ≤ seq) | _ => true) }
  | .overfull .. => b
  | .numFlag c o l i =>
    { b with numOvf := if o then setBit b.numOvf c else b.numOvf, numLoss := if l then setBit b.numLoss c else b.numLoss,
             numInv := if i then setBit b.numInv c else b.numInv }
  | .token => b

/-- What is due by a beat becomes visible, in issue order (R84, R85), and the own signals whose earlier writes are visible by
then are published (R203). -/
def Block.land (b : Block) (n : Nat) : Block :=
  ((b.pend.filter (fun p => decide (p.due ≤ n))).foldl Block.landOne
    { b with pend := b.pend.filter (fun p => decide (n < p.due)) }).publish

/-- The last beat at which something in flight is due. -/
def Block.lastDue (b : Block) : Nat := b.pend.foldl (fun m p => max m p.due) 0

/-- Everything in flight completes and lands, beat by beat (R90): afterwards no array or drain path is occupied. -/
def Block.flush (b : Block) : Block :=
  let t := (List.range (b.lastDue + 1 - b.beats)).foldl (fun b i => b.land (b.beats + i)) b
  { (t.land (b.lastDue)) with cells := (t.cells.map (fun c => (c.1, { c.2 with arrayFree := 0, lastProduct := 0, lastDrain := none }))).filter (fun c => c.2 != {}) }

/-- Signals of the SYNC slot in flight become visible to the block's own WAIT as a hold begins, since counter updates go on in it and no
pipeline advances (R56, log 18). -/
def Block.landSigs (b : Block) : Block :=
  let isSig : Pend → Bool := fun p => match p.kind with | .sig .. => true | _ => false
  ((b.pend.filter isSig).foldl Block.landOne { b with pend := b.pend.filter (fun p => !isSig p) }).publish

/-- The fault of a running command: it ends at this beat in all four cells, what was issued before it lands (R90), and the
record names the word (R102). -/
def State.faultRun (p : Nat) (f : WFault) (lwoff step : Nat) (s : State) : State :=
  match s.pageOfBlock p with
  | none => s
  | some l =>
    let t := s.onBlock p Block.flush
    let r1 := lwoff * 2 ^ 40 + f.slot * 2 ^ 37 + f.cell * 2 ^ 35
    let u := t.raise .blk l f.code (t.block p).lastTag (r1 + f.detail) step (f.aux * 2 ^ 32 + pblkOf p)
    ((u.traceRec p 2 lwoff step f.code (f.slot * 32 + f.cell * 8) 0 f.detail f.aux).endRun p (statusOf .blk f.code) step r1).wakeHost

end Sys2Proof.Machine
end

