-- ==== Sys2Proof/Machine/FenceOps.lean ====
section
/-! DEFINITION. Fencing a block or a die: counters and Huddle lines abandoned, waiters released, commands ended (R22 to R25, R46,
R207 to R209, R215, R621). -/

namespace Sys2Proof.Machine

/-- A counter of a block is abandoned by the fence of shape F: the block is F's own, or F is a declared remote source (R207). -/
def Block.abandonsBy (b : Block) (own : Bool) (f i : Nat) : Bool :=
  let e := b.cntEntry i
  own || (e.used && e.remote && decide (e.first ≤ f) && decide (f ≤ e.last))

/-- The counters of a block that the fence of shape F abandons are marked, those already marked keeping their first cause. -/
def Block.abandon (own : Bool) (f : Nat) (b : Block) : Block :=
  ((List.range 48).foldl (fun b i =>
    if b.abandonsBy own f i && (b.cnt i).abandoned.isNone then b.setCnt i { b.cnt i with abandoned := some f } else b) b).checkArm

/-- The offset of the word a held block has next. -/
def Block.nextOff (b : Block) : Nat := match b.run with | some r => r.pc | none => 0

/-- A block held on a counter or line that is now abandoned is released: its word never reaches its issue beat and its command
ends with SYNC_ABANDONED (R208, R209, R215). -/
def State.releaseHeld (p : Nat) (s : State) : State :=
  let b := s.block p
  if b.run.isNone || s.fencedBlock p then s
  else match b.hold with
  | .wait i _ => match (b.cnt i).abandoned with
    | some f => s.faultRun p { code := eAbandoned, slot := 6, detail := i * 2 ^ 16 + f } b.nextOff b.step
    | none => s
  | .hwait l => match (s.line l).abandoned with
    | some _ =>
      if s.finalGen l < b.arrivals l then
        s.faultRun p { code := eAbandoned, slot := 6, detail := 2 ^ 28 + l * 2 ^ 16 } b.nextOff b.step
      else s
    | none => s
  | _ => s

/-- The lines a block takes part in become ABANDONED (R215). -/
def State.abandonLines (p f : Nat) (s : State) : State :=
  (List.range 16).foldl (fun s l =>
    if bitOn (s.block p).hudMask l && (s.line l).abandoned.isNone then
      { s with hud := Sparse.set {} s.hud l { s.line l with abandoned := some f } }
    else s) s

/-- The block stops at the fence: nothing in flight lands, its prep core stops, and its DMA and audit unit start nothing further
(R46, R190, R436). -/
def Block.stopAt (b : Block) : Block :=
  { b with pend := [], sigs := [], hold := .none, prep := { b.prep with state := if b.prep.state = 5 then 5 else 0 } }

/-- The word a record of a block names where no operation of the running command is to blame: the last word issued, with no slot and no
cell (R102, log 115). -/
def Block.lastWord (b : Block) : FlightOp := { lwoff := b.lastOff, step := b.lastStep }

/-- ERR_INFO0 and RESULT1 of an operation: the offset of its word, its slot and its cell (R102, R552). -/
def FlightOp.info (o : FlightOp) : Nat := o.lwoff * 2 ^ 40 + o.slot * 2 ^ 37 + o.cell * 2 ^ 35

/-- The commands of a fenced block end: the running one with the fence's own fault, its record naming `o`, those not yet started as a whole
with CMD_BLOCK_FENCED (R46, log 19). -/
def State.endFenced (p status : Nat) (o : FlightOp) (s : State) : State :=
  let b := s.block p
  let t := s.endRun p status o.step o.info
  let v := (b.runq.filterMap (fun q => q.seq)).foldl (fun s q => s.dropCmd q 0x0243) t
  v.onBlock p (fun b => { b with runq := [] })

/-- Signals of the fenced block that still waited for stores of its own never leave it (R46, R203). -/
def State.dropSignals (p : Nat) (s : State) : State :=
  { s with hif.inflight := s.hif.inflight.filter (fun x => match x with
      | .remote src _ _ _ beat _ => src != p || !(s.block p).storesPending beat
      | .host .. => true) }

/-- What the fence of a block, already on record, brings about; its running command ends with STATUS `status` and a completion that names
`o` (R25, R46). -/
def State.fenceEffects (p status : Nat) (o : FlightOp) (s : State) : State :=
  match s.shapeOf p with
  | none => s.onBlock p Block.stopAt
  | some f =>
    let u := (s.dropSignals p).onBlock p Block.stopAt
    let v := u.placed.foldl (fun s c => s.onBlock c.2 (Block.abandon (c.2 == p) f)) u
    let w := (v.abandonLines p f).endFenced p status o
    (w.placed.foldl (fun s c => s.releaseHeld c.2) w).wakeHost

/-- A block in service that is not yet fenced is fenced (R23, R25). -/
def State.fenceBlock (p status : Nat) (o : FlightOp) (s : State) : State :=
  if !s.inService p || s.fencedBlock p then s
  else ({ s with fence.blocks := setBit s.fence.blocks p } : State).fenceEffects p status o

/-- The placement still maps the block to a logical block page (R25, log 20). -/
def State.reportsOnPage (s : State) (p : Nat) : Bool := s.live && (s.shapeOf p).isSome

/-- The operation of a running command that a number names among those under way: a matrix operation, or a load or store (R90). -/
def Block.opAt (b : Block) (mem : Bool) (k : Option Nat) : Option FlightOp :=
  match k, b.run with
  | some i, some r => (r.ops[i]?).filter (fun o => o.mem == mem && decide (b.beats ≤ o.till))
  | _, _ => none

/-- A block is fenced on its own for the error of a block page's bit `code`: reported on its logical block page, or on its die
page as DIE_SPARE_FENCE where no live placement maps it (R22, R25, R598). The record names `o`; a residue failure of the same beat,
`under`, is attached in its place, as secondary (R24). -/
def State.fenceFor (p code : Nat) (o : FlightOp) (under : Option FlightOp) (detail aux : Nat) (s : State) : State :=
  if !s.inService p || s.fencedBlock p then s
  else
    let b := s.block p
    match (if s.reportsOnPage p then s.pageOfBlock p else none) with
    | some l =>
      let named := under.getD o
      let t := s.raise .blk l code b.lastTag (named.info + (if under.isSome then 2 ^ 34 else 0) + detail) named.step (aux * 2 ^ 32 + pblkOf p)
      let u := if b.run.isSome then t.traceRec p 2 named.lwoff named.step code (named.slot * 32 + named.cell * 8) 0 detail aux else t
      u.fenceBlock p (statusOf .blk code) named
    | none =>
      (s.raise .die (dieOf p) 4 b.lastTag (pblkOf p * 2 ^ 42 + code * 2 ^ 36) 0 0).fenceBlock p
        (statusOf .die 4) o

/-- A read of a block store that was corrected sets BLK_STORE_CE and is counted (R433, R101, R593). -/
def State.storeCorrected (p : Nat) (o : FlightOp) (s : State) : State :=
  if !s.inService p then s
  else
    let t := s.sbAdd (0x0100 + dieOf p) 1
    match (if s.reportsOnPage p then s.pageOfBlock p else none) with
    | some l => t.raise .blk l eStoreCe (s.block p).lastTag o.info o.step (pblkOf p)
    | none => t

/-- Every block of a die in service is fenced with the die (R25); `bit` is 2 for DIE_FABRIC and 3 for DIE_VDOM (R598). -/
def State.fenceDie (d bit i0 i1 i2 : Nat) (s : State) : State :=
  if 32 ≤ d || s.fence.dies.testBit d then s
  else
    let t : State := { s with fence.dies := setBit s.fence.dies d }
    let u := t.raise .die d bit 0 i0 i1 i2
    let ps := ((List.range blocksPerDie).map (fun b => blocksPerDie * d + b)).filter (fun p => u.inService p && !u.fencedBlock p)
    let v : State := { u with fence.blocks := ps.foldl setBit u.fence.blocks }
    ps.foldl (fun s p => s.fenceEffects p (statusOf .die bit) (s.block p).lastWord) v

/-- ERR_INFO0 of a die page for an error of one of its blocks in the same beat, given by block and cause: recorded as secondary (R24, log
116). -/
def State.underInfo (s : State) (d : Nat) (under : Option (Nat × Nat)) : Nat :=
  match under with
  | some (b, cause) =>
    if b < blocksPerDie ∧ s.usable (blocksPerDie * d + b) ∧ (cause = 7 ∨ cause = 12 ∨ cause = 13 ∨ cause = 14) then b * 2 ^ 42 + cause * 2 ^ 36
    else 0
  | none => 0

/-- Sixteen retries of a link of a die fail: each sets DIE_FABRIC_CE and is counted, and the die is fenced (R574). Which link it is, is a
free value (log 87). -/
def State.linkRetriesFail (d : Nat) (under : Option (Nat × Nat)) (s : State) : State :=
  let i0 := Config.free s.free % 8 * 2 ^ 60
  ((((s.useFree).raise .die d 1 0 i0 0 0).evtAdd .die d 0 16).fenceDie d 2 (i0 + s.underInfo d under) 0 0)

/-- The core rail of a die leaves its range (R574, R598): RAIL_MV is a free value outside 570 to 900 (log 87). The die is off from then on
(R218). -/
def State.railFails (d : Nat) (under : Option (Nat × Nat)) (s : State) : State :=
  let v := Config.free s.free % 3765
  let t := s.useFree.fenceDie d 3 ((if v < 570 then v else v + 331) * 2 ^ 48 + s.underInfo d under) 0 0
  { t with place.dieOff := setBit t.place.dieOff d }

end Sys2Proof.Machine
end

