-- ==== Sys2Proof/Machine/Issue.lean ====
section
/-! DEFINITION. The issue stage: the state faults of a word, the schedule checker, what each slot does at its issue beat, and the
beats of a command (02, 04, 05 and R78, R79, R212 of 06). -/

namespace Sys2Proof.Machine

/-! ### What is pending -/

/-- The register an operation in flight makes pending, with its cell (R93). -/
def Pend.reg (p : Pend) : Option (Reg × Nat) :=
  match p.kind with
  | .vreg c r _ _ _ last _ => if last then some (.v r, c) else none
  | .tile c t part _ _ => some (.t t part, c)
  | .areg c r _ => some (.a r, c)
  | .sreg r _ => some (.s r, 0)
  | .lc r _ => some (.lc r, 0)
  | .mfmt c _ _ => some (.mfmt, c)
  | .drainCnt c _ => some (.drainCnt, c)
  | .sig i _ _ _ => some (.cnt i, 0)
  | .drainSig i _ _ _ => some (.cnt i, 0)
  | _ => none

/-- The last beat at which a pending write to a register becomes visible, 0 for none (R102). -/
def Block.pendUntil (b : Block) (x : Reg) (c : Nat) : Nat :=
  b.pend.foldl (fun m p => if p.reg = some (x, c) then max m p.due else m) 0

/-- The pending store overlapping a range that becomes visible last: its beat and OFF (R93, R102). -/
def Block.pendStore (b : Block) (a n : Nat) : Option (Nat × Nat) :=
  b.pend.foldl (fun m p => match p.kind with
    | .store x off _ range =>
      if a < x + range ∧ x < a + n then
        (match m with | none => some (p.due, off) | some (d, o) => if d < p.due then some (p.due, off) else some (d, o))
      else m
    | _ => m) none

/-! ### Addresses -/

/-- Bytes of a block store (R433). -/
def storeBytes : Nat := 2 ^ 27

/-- A[AREG] + 64 × OFF, modulo 2^64 (R74, log 21). -/
def slotAddr (c : Cell) (r : Nat) : Nat := (c.areg (lAreg r) + 64 * lOff r) % 2 ^ 64

/-- Bytes a load reads from the block store (R74, R174, R184). -/
def loadBytes (w r : Nat) : Nat :=
  if lKind r = 0 then (if lDec r then 256 else lenBytes (lLen r))
  else if lKind r = 1 then (if lDec r then compBytes w else 1024)
  else 256

/-- The alignment a load needs (R74, R174, R184). -/
def loadAlign (r : Nat) : Nat :=
  if lDec r then 64 else if lKind r = 0 then lenBytes (lLen r) else if lKind r = 1 then 1024 else 256

/-- The bytes a store's pending range counts and its address must leave room for (R75, R173). -/
def storeRange (r : Nat) : Nat := if lKind r = 1 then 256 else lenBytes (lLen r)

/-- The alignment a store needs. -/
def storeAlign (r : Nat) : Nat := if lKind r = 1 then 64 else lenBytes (lLen r)

/-- The range lies in the block store and is aligned. -/
def addrOk (a n al : Nat) : Bool := a % al == 0 && decide (a + n ≤ storeBytes)

/-! ### State faults (R619) -/

/-- The beat a drain of a cell starts at when it issues at beat `n` (R86). -/
def Cell.drainStart (c : Cell) (n : Nat) : Nat := max n c.lastProduct

/-- The last beat at which a slot's write to a register becomes visible (R83, R93). -/
def slotVisible (c : Cell) (n slot r : Nat) (x : Reg) : Nat :=
  if slot ≤ 1 then
    (if mOp r = 3 then
      (if dFmt r = 0xB ∧ x = .v (dVd r) then c.drainStart n + 14 else c.drainStart n + 18)
     else n + 1)
  else if slot ≤ 3 then n + 12
  else if slot = 5 then
    (let o := vOp r
     n + (if 0x12 ≤ o ∧ o ≤ 0x15 then 8 else if o = 0x17 ∨ o = 0x18 then 6 else if o = 0x23 then 8 else 4))
  else if slot = 6 then n + 2
  else if cOp r = 0xA ∨ cOp r = 0xB ∨ cOp r = 0xC then n + 2 else n + 1

/-- DETAIL of LW_HAZARD: class and index, and REMAIN (R102). -/
def hazardDetail (x : Reg) (remain : Nat) : Nat := x.detail + min remain 255 * 2 ^ 8

/-- A register counts in a cell of a slot: per-cell registers in each cell of its mask, the others once, in its lowest cell. -/
def regIn (x : Reg) (mask c : Nat) : Bool := x.perCell || c == lowCell mask

/-- The cell under which a register of the block is kept. -/
def regCell (x : Reg) (c : Nat) : Nat := if x.perCell then c else 0

/-- The hazard of one slot in one cell with the checker on (R93, R94, R97, R620). -/
def slotHazard (b : Block) (n : Nat) (w : LongWord) (slot r c : Nat) : Option WFault :=
  let cell := b.cell c
  let mask := slotMask slot r
  let rd := if w.hazardOk then none else (slotReads slot r cell.wfmt cell.afmt).findSome? (fun x =>
    let d := b.pendUntil x (regCell x c)
    if regIn x mask c && decide (n < d) then some (hazardDetail x (d - n)) else none)
  let st := if w.hazardOk ∨ ¬ (slot = 2 ∨ slot = 3) then none
    else (b.pendStore (slotAddr cell r) (loadBytes cell.wfmt r)).bind (fun p =>
      if n < p.1 then some (6 * 2 ^ 28 + p.2 % 2 ^ 12 * 2 ^ 16 + min (p.1 - n) 255 * 2 ^ 8) else none)
  let wr := (slotWrites slot r).findSome? (fun x =>
    let d := b.pendUntil x (regCell x c)
    if regIn x mask c && decide (n < d) && decide (slotVisible cell n slot r x ≤ d) then some (hazardDetail x (d - n)) else none)
  match rd with
  | some d => some { code := eHazard, slot, cell := c, detail := d }
  | none => match st with
    | some d => some { code := eHazard, slot, cell := c, detail := d }
    | none => wr.map (fun d => { code := eHazard, slot, cell := c, detail := d })

/-- The state faults of a slot in one cell that rest on the cell's own state, lowest ERR_STAT bit first (R69, R87, R158, R173 to
R175, R183, R184). -/
def cellFault (b : Block) (n slot r c : Nat) : Option WFault :=
  let cell := b.cell c
  let mk (code detail aux : Nat) : Option WFault := some { code, slot, cell := c, detail, aux }
  if slot ≤ 1 then
    (if mOp r = 2 ∧ occupancy cell.wfmt cell.afmt ≠ 1 then mk eEncoding 0 0
     else if (mOp r = 1 ∨ mOp r = 2) ∧ n < cell.arrayFree then mk eBusy 0 0
     else if mOp r == 3 && (match cell.lastDrain with | some d => decide (cell.drainStart n < d + 8) | none => false) then mk eBusy 0 0
     else none)
  else if slot ≤ 3 then
    (let a := slotAddr cell r
     if lDec r ∧ lKind r = 0 ∧ !bitmapForm cell.afmt then mk eEncoding 0 0
     else if lDec r ∧ lKind r = 1 ∧ !twoOfFour cell.wfmt then mk eEncoding 0 0
     else if !addrOk a (loadBytes cell.wfmt r) (loadAlign r) then mk eAddr 0 (a % 2 ^ 32)
     else none)
  else if slot = 4 then
    (let a := slotAddr cell r
     if !addrOk a (storeRange r) (storeAlign r) then mk eAddr 0 (a % 2 ^ 32) else none)
  else if slot = 5 then
    (if vOp r = 0x20 ∧ b.rdu.issMode ≠ 3 ∧ (b.rdu.issMode ≠ bits (vAux r) 1 0 ∨ b.rdu.issInt32 ≠ (vType r == 1)) then mk eEncoding 0 0
     else none)
  else none

/-- A compressed load of a part that the tile does not read (R183, R186). -/
def indexFault (b : Block) (slot r c : Nat) : Option WFault :=
  let cell := b.cell c
  if (slot = 2 ∨ slot = 3) ∧ lKind r = 1 ∧ lDec r ∧ 64 * rowPitch cell.wfmt cell.afmt ≤ 1024 * lPart r then
    some { code := eIndex, slot, cell := c, aux := 2048 * lPart r / fmtWidth cell.wfmt }
  else none

/-- The state faults of a Huddle operation (R214, R215, R621); a word held on HWAIT that passes has none. -/
def huddleFault (s : State) (p : Nat) (passed : Bool) (r : Nat) : Option WFault :=
  let l := sLine r
  let b := s.block p
  if sOp r ≠ 4 ∧ sOp r ≠ 5 then none
  else match (s.line l).abandoned with
  | some _ => if sOp r = 5 ∧ passed then none
    else some { code := eAbandoned, slot := 6, detail := 2 ^ 28 + l * 2 ^ 16 }
  | none =>
    if sOp r = 4 ∧ 255 < b.arrivals l + 1 - (s.line l).gen then
      some { code := eBadTarget, slot := 6, detail := 3 * 2 ^ 28 + l * 2 ^ 16 }
    else none

/-- The first of two faults by ERR_STAT bit (R95). -/
def lowerFault (x y : Option WFault) : Option WFault :=
  match x, y with
  | none, f => f
  | f, none => f
  | some f, some g => if g.code < f.code then some g else some f

/-- The state fault of one slot: the lowest cell that has one, and in it the lowest ERR_STAT bit (R95). -/
def slotStateFault (s : State) (p n : Nat) (chk passed : Bool) (w : LongWord) (slot r : Nat) : Option WFault :=
  let b := s.block p
  let cells := if slotMask slot r = 0 then [0] else onesOf 4 (slotMask slot r)
  let hud := if slot = 6 then huddleFault s p passed r else none
  cells.findSome? (fun c =>
    lowerFault (cellFault b n slot r c)
      (lowerFault (if chk then slotHazard b n w slot r c else none) (lowerFault (indexFault b slot r c) hud)))

/-- The state fault of a word, slots in order (R95). -/
def stateFault (s : State) (p n : Nat) (chk passed : Bool) (w : LongWord) : Option WFault :=
  w.slots.findSome? (fun x => slotStateFault s p n chk passed w x.1 x.2)

/-! ### What the slots do at their issue beat -/

/-- An operation put in flight. -/
def Block.post (due : Nat) (k : PendKind) (b : Block) : Block := { b with pend := b.pend ++ [{ due, kind := k }] }

/-- A V register's 256 bytes. -/
def Cell.vreg (c : Cell) (i : Nat) : List Byte := c.v.read (256 * i) 256

/-- The bytes of a tile register and of its sidecar. -/
def Cell.tileBytes (c : Cell) (t : Nat) : List Byte := c.t.read (8448 * t) (64 * rowPitch c.wfmt c.afmt)

/-- The sidecar of a tile register. -/
def Cell.sideBytes (c : Cell) (t : Nat) : List Byte := c.t.read (8448 * t + 8192) 256

/-- A whole V register written at a beat. -/
def Block.postV (due c reg : Nat) (bs : List Byte) (b : Block) : Block :=
  b.post due (.vreg c reg 0 (8 * bs.length) (leNat bs) true false)

/-- MMA in one cell (R61 to R63, R83, R86, R87). -/
def Block.mma (n r c : Nat) (b : Block) : Block :=
  let cell := b.cell c
  let occ := occupancy cell.wfmt cell.afmt
  let x := columnOf cell.afmt (tileK cell.wfmt cell.afmt) (cell.vreg (mV r))
  let cell' := cell.mmaColumn cell.wfmt cell.afmt (cell.tileBytes (mT r)) (cell.sideBytes (mT r)) x (mCol r) (mAcc r)
  (b.onCell c (fun _ => { cell' with arrayFree := n + occ, lastProduct := n + occ })).post (n + occ + 5) .token

/-- The records an MMAS reads in a cell. -/
def Cell.mmasRecs (c : Cell) (r : Nat) : List (List Byte) := (List.range (mNcol r)).map (fun i => c.vreg (mV r + i))

/-- The beats of an MMAS in a cell: by its bitmaps, or NCOL for a DENSE command (R177, R178). -/
def Cell.mmasCount (c : Cell) (dense : Bool) (r : Nat) : Nat :=
  if dense then mNcol r else mmasBeats c.afmt (tileK c.wfmt c.afmt) (c.mmasRecs r)

/-- MMAS in one cell (R176 to R178). -/
def Block.mmas (dense : Bool) (n r c : Nat) (b : Block) : Block :=
  let cell := b.cell c
  let k := tileK cell.wfmt cell.afmt
  let cc := cell.mmasCount dense r
  let cols := (cell.mmasRecs r).map (recColumn cell.afmt k)
  let cell' := ((List.range (mNcol r)).zip cols).foldl (fun x ic =>
    x.mmaColumn cell.wfmt cell.afmt (cell.tileBytes (mT r)) (cell.sideBytes (mT r)) ic.2 (mCol r + ic.1) (mAcc r)) cell
  (b.onCell c (fun _ => { cell' with arrayFree := n + cc, lastProduct := n + cc })).post (n + cc + 5) .token

/-- Drain rows `lo` to `hi − 1` of width `w` into a V register, each visible at s + 10 + ceil(r / 8) (R83), the scale byte of an MX
block with its last row, every other byte with row 63 (R109). -/
def Block.postRows (s c reg lo hi w : Nat) (mx : Bool) (img : List Byte) (b : Block) : Block :=
  let b1 := (List.range (hi - lo)).foldl (fun b i =>
    let r := lo + i
    b.post (s + 10 + ceilDiv r 8) (.vreg c reg (w * i) w (packedAt img w i) (i + 1 == hi - lo) true)) b
  let used := ceilDiv (w * (hi - lo)) 8
  let b2 := if mx then (List.range 2).foldl (fun b j =>
    b.post (s + 10 + ceilDiv (32 * j + 31) 8) (.vreg c reg (8 * (192 + j)) 8 (field img (192 + j) 1) false true)) b1 else b1
  if used < 256 then
    let b3 := b2.post (s + 18) (.vreg c reg (8 * used) (8 * ((if mx then 192 else 256) - used)) (field img used ((if mx then 192 else 256) - used)) false true)
    if mx then b3.post (s + 18) (.vreg c reg (8 * 194) (8 * 62) 0 false true) else b3
  else b2

/-- DRAIN in one cell (R73, R86, R149 to R154, R171). -/
def Block.drain (n r c : Nat) (b : Block) : Block :=
  let cell := b.cell c
  let s := cell.drainStart n
  let f := dFmt r
  let vals := cell.drainValues (dCol r) (dRnd r) c b.step b.seed
  let (elems, scales) := encodeAll f vals
  let (o, l, i) := cell.columnFlags (dCol r)
  let cell' := { (if dClr r then cell.zeroColumns (dCol r) 1 else cell) with lastDrain := some s }
  let b1 := b.onCell c (fun _ => cell')
  let b2 := if o || l || i then b1.post s (.numFlag c o l i) else b1
  let b3 :=
    if dBm r then b2.post (s + 18) (.vreg c (dVd r) 0 2048 (leNat (recordOf f elems scales)) true true)
    else if f = 0xB then
      (b2.postRows s c (dVd r) 0 32 64 false (packElems 64 (elems.take 32))).postRows s c (dVd r + 1) 32 64 64 false (packElems 64 (elems.drop 32))
    else b2.postRows s c (dVd r) 0 64 (fmtWidth f) (fmtMx f) (packedColumn f elems scales)
  if dSig r then b3.post (s + 18) (.drainSig cell.drainCnt 1 b.storesBy b.dma.started) else b3

/-- An M slot in one cell. -/
def Block.mSlot (dense : Bool) (n r c : Nat) (b : Block) : Block :=
  if mOp r = 1 then b.mma n r c
  else if mOp r = 2 then b.mmas dense n r c
  else if mOp r = 3 then b.drain n r c
  else if mOp r = 4 then b.onCell c (fun x => x.zeroColumns (dCol r) (zCount r))
  else b.post (n + 1) (.mfmt c (bits r 23 20) (bits r 19 16))

/-- The first overfull group of a compressed tile load, in the lowest cell that has one (R186). -/
def Block.overfull (b : Block) (r : Nat) : Option (Nat × Nat) :=
  if lKind r = 1 ∧ lDec r then
    (onesOf 4 (slotMask 2 r)).findSome? (fun c =>
      let cell := b.cell c
      (compOverfull cell.wfmt (b.store.read (slotAddr cell r) (compBytes cell.wfmt))).map (fun g => (c, g)))
  else none

/-- A load in one cell (R74, R174, R183 to R185). -/
def Block.load (n r c : Nat) (b : Block) : Block :=
  let cell := b.cell c
  let bs := b.store.read (slotAddr cell r) (loadBytes cell.wfmt r)
  if lKind r = 0 then b.postV (n + 12) c (lReg r) (if lDec r then recUnpack cell.afmt bs else bs)
  else if lKind r = 1 then b.post (n + 12) (.tile c (lT r) (lPart r) 0 (if lDec r then compDecode cell.wfmt bs else bs))
  else b.post (n + 12) (.tile c (lT r) 8 0 bs)

/-- A load slot. A compressed load with an overfull group writes no byte in any cell, though its writes are pending until the group is
found at issue + 2 (R93, R186). -/
def Block.ldSlot (n pc slot r : Nat) (b : Block) : Block :=
  match b.overfull r with
  | some (c, g) => (onesOf 4 (slotMask slot r)).foldl (fun b c => b.post (n + 12) (.tile c (lT r) (lPart r) 0 []))
      (b.post (n + 2) (.overfull slot c g pc b.step))
  | none => (onesOf 4 (slotMask slot r)).foldl (fun b c => b.load n r c) b

/-- A store in one cell (R75, R173). -/
def Block.storeSlot (n r c : Nat) (b : Block) : Block :=
  let cell := b.cell c
  let v := cell.vreg (lReg r)
  let len := if lKind r = 1 then recStoreBytes v else lenBytes (lLen r)
  b.post (n + 8) (.store (slotAddr cell r) (lOff r) (v.take len) (storeRange r))

/-- The values RMRG merges: each lane of VA in each cell, with its position and cell (R159). -/
def Block.mergeVals (b : Block) (r : Nat) : List (BitVec 32 × BitVec 32 × Nat) :=
  (onesOf 4 (slotMask 5 r)).flatMap (fun c =>
    let cell := b.cell c
    let base := cell.areg (bits (vB r) 3 0)
    ((List.range 64).zip (lanesOf (cell.vreg (vA r)))).map (fun il =>
      (BitVec.ofNat 32 il.2, BitVec.ofNat 32 (base + il.1), c)))

/-- A VEC slot (R77, R157 to R163). -/
def Block.vecSlot (n r : Nat) (b : Block) : Block :=
  let cells := onesOf 4 (slotMask 5 r)
  let o := vOp r
  if o = 0x20 then
    ({ b with rmrgSeq := b.rmrgSeq + 1, rdu.issMode := bits (vAux r) 1 0, rdu.issInt32 := vType r == 1 } : Block).post (n + 6)
      (.merge (b.mergeVals r) (bits (vAux r) 1 0) (vType r == 1) b.rmrgSeq)
  else if o = 0x22 then
    ({ b with rdu.issMode := 3 } : Block).post (n + 1) (.redClear (bits (vAux r) 3 0 + 1) b.rmrgSeq)
  else if o = 0x21 then cells.foldl (fun x c => x.postV (n + 4) c (vD r) b.rdu.read) b
  else if o = 0x23 then
    let res := rsmpBytes (b.rdu.sample (b.sreg 7) (randomWord b.seed 2 0 0 b.step 0))
    cells.foldl (fun x c => x.postV (n + 8) c (vD r) res) b
  else
    cells.foldl (fun x c =>
      let cell := b.cell c
      let due := slotVisible cell n 5 r (.v (vD r))
      x.postV due c (vD r) (vecResult o (vType r) (vAux r) (vB r) (cell.vreg (vA r)) (cell.vreg (vB r)) (cell.vreg (vD r)))) b

/-- A SYNC slot (R78, R203, R212). -/
def State.syncSlot (p n r : Nat) (s : State) : State :=
  let b := s.block p
  if sOp r = 0 then s.onBlock p (Block.post (n + 3) (.sig (sCnt r) (sN r) b.storesBy b.dma.started))
  else if sOp r = 1 then s.sendSignal p (sShape r) (sCnt r) (sN r)
  else if sOp r = 3 then s.onBlock p (Block.post (n + 2) (.sreg (sReg r) (BitVec.ofNat 64 (b.ownView (sCnt r)))))
  else if sOp r = 4 then s.onBlock p (fun b => { b with arr := b.arr.addNum (sLine r) 1 })
  else s

/-- Module time as RDTS and MT_NOW give it: bit 63 shows UNTIMED (R80). -/
def State.timeWord (s : State) : Nat := s.time.now % 2 ^ 63 + (if s.time.untimed then 2 ^ 63 else 0)

/-- A CTL slot other than its branch (R80, R81, R196). -/
def State.ctlSlot (p n pc r : Nat) (s : State) : State :=
  let b := s.block p
  let o := cOp r
  let post := fun (d : Nat) (k : PendKind) => s.onBlock p (Block.post (n + d) k)
  if o = 2 then (if b.lc.num (cLc r) = 0 then s else post 1 (.lc (cLc r) (b.lc.num (cLc r) - 1)))
  else if o = 3 then post 1 (.lc (cLc r) (bits r 23 0))
  else if o = 4 then (onesOf 4 (slotMask 7 r)).foldl (fun s c =>
    s.onBlock p (Block.post (n + 1) (.areg c (cAreg r) (BitVec.ofInt 64 (cImmA r))))) s
  else if o = 5 then (onesOf 4 (slotMask 7 r)).foldl (fun s c =>
    s.onBlock p (Block.post (n + 1) (.areg c (cAreg r) (BitVec.ofInt 64 (((b.cell c).areg (cAreg r) : Int) + cImmA r))))) s
  else if o = 6 then post 1 (.sreg (cSreg r) (BitVec.ofNat 64 (bits r 23 0)))
  else if o = 7 then post 1 (.sreg (cSreg r) (BitVec.ofNat 64 (b.sreg (cSreg r) + bits r 23 0)))
  else if o = 8 then (onesOf 4 (slotMask 7 r)).foldl (fun s c => s.onBlock p (Block.post (n + 1) (.drainCnt c (cDc r)))) s
  else if o = 9 then
    (s.onBlock p (fun b => { b with prep.xvtrap := bits r 15 0, prep.mip := b.prep.mip ||| 0x10000#64 })).traceRec
      p 3 pc b.step 0xFF (7 * 32) (bits r 15 0) 0 0
  else if o = 0xA then post 2 (.sreg (cSreg r) (BitVec.ofNat 64 b.step))
  else if o = 0xB then post 2 (.sreg (cSreg r) (BitVec.ofNat 64 b.beats))
  else if o = 0xC then post 2 (.sreg (cSreg r) (BitVec.ofNat 64 s.timeWord))
  else s

/-- One slot of a word that issues. -/
def State.issueSlot (p n pc : Nat) (dense : Bool) (s : State) (x : Nat × Nat) : State :=
  let (i, r) := x
  if i ≤ 1 then s.onBlock p (fun b => (onesOf 4 (slotMask i r)).foldl (fun b c => b.mSlot dense n r c) b)
  else if i ≤ 3 then s.onBlock p (Block.ldSlot n pc i r)
  else if i = 4 then s.onBlock p (fun b => (onesOf 4 (slotMask 4 r)).foldl (fun b c => b.storeSlot n r c) b)
  else if i = 5 then s.onBlock p (Block.vecSlot n r)
  else if i = 6 then s.syncSlot p n r
  else s.ctlSlot p n pc r

/-- Where the next word is (R67, R80, R82). -/
def nextPc (b : Block) (pc : Nat) (w : LongWord) : Nat :=
  match w.slot 7 with
  | none => pc + w.units
  | some r =>
    if cOp r = 1 ∨ (cOp r = 2 ∧ 1 < b.lc.num (cLc r)) then (branchTarget pc r).toNat else pc + w.units

/-- The largest C and the largest NCOL of the MMAS slots of a word; 0 where it has none (R177, R187). -/
def mmasOf (b : Block) (dense : Bool) (w : LongWord) : Nat × Nat :=
  (w.slots.filter (fun x => decide (x.1 ≤ 1) && mOp x.2 == 2)).foldl (fun acc x =>
    ((onesOf 4 (slotMask x.1 x.2)).foldl (fun m c => max m ((b.cell c).mmasCount dense x.2)) acc.1, max acc.2 (mNcol x.2))) (0, 0)

/-- The last beat in which an operation that issues at beat `n` is under way in a cell, for one that may fail after its issue: a matrix
operation to the end of its path (R83, R86, R177), a load or a store until its bytes are visible (R83). -/
def opTill (b : Block) (dense : Bool) (n slot r c : Nat) : Option Nat :=
  let cell := b.cell c
  if slot ≤ 1 then
    (if mOp r = 1 then some (n + occupancy cell.wfmt cell.afmt + 5)
     else if mOp r = 2 then some (n + cell.mmasCount dense r + 5)
     else if mOp r = 3 then some (cell.drainStart n + 18)
     else none)
  else if slot ≤ 3 then some (n + 12)
  else if slot = 4 then some (n + 8)
  else none

/-- The operations under way once a word has issued at beat `n`: those still under way, then the word's own, slot by slot and cell by cell. -/
def opsAfter (b : Block) (dense : Bool) (n pc : Nat) (w : LongWord) (ops : List FlightOp) : List FlightOp :=
  ops.filter (fun o => decide (n ≤ o.till)) ++ w.slots.flatMap (fun x =>
    (onesOf 4 (slotMask x.1 x.2)).filterMap (fun c =>
      (opTill b dense n x.1 x.2 c).map (fun e =>
        { mem := decide (2 ≤ x.1), lwoff := pc, slot := x.1, cell := c, step := b.step, till := e })))

/-- What follows a word: the beats of MMAS, its IDLE beats, then the next word or, after END, the ending (R67, R68, R91). -/
def phaseAfter (last : Bool) (extra idle : Nat) : Phase :=
  if extra ≠ 0 then .mmas extra idle
  else if last then .ending idle
  else if idle ≠ 0 then .idle idle else .issue

/-- A counted beat is over (R57, R81). -/
def Block.countBeat (b : Block) : Block := { b with beats := b.beats + 1, step := (b.step + 1) % 2 ^ 64 }

/-- A word issues: every slot reads the state before the word and its results are put in flight (R53, R84). -/
def State.issueWord (p : Nat) (run : Run) (w : LongWord) (s : State) : State :=
  let b := s.block p
  let n := b.beats
  let dense := run.req.dense
  let (cmax, ncol) := mmasOf b dense w
  let t := w.slots.foldl (State.issueSlot p n run.pc dense) s
  t.onBlock p (fun x => ({ x with
    hold := .none
    lastOff := run.pc
    lastStep := b.step
    mmasBeats := min (2 ^ 32 - 1) (x.mmasBeats + cmax)
    denseBeats := min (2 ^ 32 - 1) (x.denseBeats + ncol)
    run := some { run with
      pc := nextPc b run.pc w
      last := w.isEnd
      ops := opsAfter b dense n run.pc w run.ops
      phase := phaseAfter w.isEnd (cmax - 1) w.idle } } : Block).countBeat)

/-! ### Beats -/

/-- The late fault due at a beat: a group mask found overfull (R186). -/
def Block.lateFault (b : Block) (n : Nat) : Option (WFault × Nat × Nat) :=
  b.pend.findSome? (fun p => match p.kind with
    | .overfull slot c g off step =>
      if p.due ≤ n then some ({ code := eOverfull, slot, cell := c, aux := g }, off, step) else none
    | _ => none)

/-- The totals of a cell after a residue failure: free values (R156, log 2). -/
def freeTotals (from_ : Nat) : Sparse Total :=
  ((List.range 4096).map (fun i => (i, Total.ofNat576 (Config.free (from_ + i))))).filter (fun e => e.2 != {})

/-- Operations in flight after a residue failure of a cell: its drains' rows become free values (R156, log 2). -/
def freeRows (cell : Nat) : Nat → List Pend → List Pend
  | _, [] => []
  | i, p :: ps => (match p.kind with
      | .vreg c r lo len _ last true => if c = cell then { p with kind := .vreg c r lo len (Config.free i % 2 ^ len) last true } else p
      | _ => p) :: freeRows cell (i + 1) ps

/-- A residue mismatch in an operation of a cell ends the command at the beat it is detected (R155, R156). -/
def State.residueFault (p : Nat) (o : FlightOp) (s : State) : State :=
  let b := s.block p
  let t := s.onBlock p (fun b => { (b.onCell o.cell (fun c => { c with totals := freeTotals s.free })) with
    pend := freeRows o.cell (s.free + 4096) b.pend })
  ({ t with free := s.free + 4096 + b.pend.length } : State).faultRun p
    { code := eResidue, slot := o.slot, cell := o.cell } o.lwoff o.step

/-- The matrix operation under way that a residue failure strikes, if there is one of that number (R156). -/
def Block.residueHit (b : Block) (residue : Option Nat) : Option FlightOp := b.opAt false residue

/-- What a read of the block store in a beat belongs to: a load or a store under way, by number; with no number the fetch of the next
word, which that word itself is named for (R90, R433, log 115). -/
def Block.readHit (b : Block) (op : Option Nat) : Option FlightOp :=
  match op, b.run with
  | some _, _ => b.opAt true op
  | none, some r => if r.last then none else some { mem := true, lwoff := r.pc, step := b.step }
  | none, none => none

/-- Whether a word's WAIT or HWAIT lets it issue (R79, R205, R208, R212, R215). -/
inductive HoldTest where
  /-- It may issue. -/
  | pass
  /-- It is held. -/
  | hold (h : Hold)
  /-- Its hold ends by abandonment. -/
  | abandon (f : WFault)
deriving DecidableEq, Repr

/-- The hold of a SYNC slot. -/
def State.holdTest (s : State) (p r : Nat) : HoldTest :=
  let b := s.block p
  if sOp r = 2 then
    let target := b.sreg (sReg r) + sImm r
    match (b.cnt (sCnt r)).abandoned with
    | some f => .abandon { code := eAbandoned, slot := 6, detail := sCnt r * 2 ^ 16 + f }
    | none => if target ≤ b.ownView (sCnt r) then .pass else .hold (.wait (sCnt r) target)
  else if sOp r = 5 then
    let l := sLine r
    if b.arrivals l ≤ (s.line l).gen then .pass
    else match (s.line l).abandoned with
    | none => .hold (.hwait l)
    | some _ =>
      if b.hold ≠ .hwait l then .pass
      else if b.arrivals l ≤ s.finalGen l then .hold (.hwait l)
      else .abandon { code := eAbandoned, slot := 6, detail := 2 ^ 28 + l * 2 ^ 16 }
  else .pass

/-- The tests of a word against the placement. -/
def State.wordEnv (s : State) (p : Nat) : WordEnv :=
  { lwBytes := (s.block p).lwBytes, strict := s.strict, placed := fun x => (s.physOf x).isSome, hudMask := (s.block p).hudMask }

/-- The next word of a run is taken up: it faults, is held, or issues (R53, R69, R79, R90, R619). -/
def State.nextWord (p : Nat) (run : Run) (s : State) : State :=
  let b := s.block p
  let fault := fun (f : WFault) => s.faultRun p f run.pc b.step
  match fetchWord b.store b.lwBase b.lwBytes (2 * run.pc) with
  | none => fault (headerFault eAddr run.pc)
  | some w =>
    match wordFault (s.wordEnv p) run.pc w with
    | some f => fault f
    | none =>
      let test := match w.slot 6 with | some r => s.holdTest p r | none => .pass
      match test with
      | .abandon f => fault f
      | .hold h =>
        let t := s.onBlock p (fun b => { b.landSigs with hold := h })
        match (match w.slot 6 with | some r => t.holdTest p r | none => .pass) with
        | .pass => match stateFault t p b.beats run.req.chk true w with
          | some f => t.faultRun p f run.pc b.step
          | none => t.issueWord p run w
        | _ => t
      | .pass =>
        match stateFault s p b.beats run.req.chk (b.hold ≠ .none) w with
        | some f => fault f
        | none => s.issueWord p run w

/-- A block may take a beat: it runs, is not fenced and is not held by the Proofer (R56). -/
def State.canBeat (s : State) (p : Nat) : Bool :=
  !s.fencedBlock p && (s.block p).run.isSome && !s.proofed p

/-- The start of a beat: what is due becomes visible; a late fault or a residue failure then ends the command, and otherwise `next`
goes on (R84, R90, R156). -/
def State.beat (p : Nat) (residue : Option Nat) (next : State → State) (s : State) : State :=
  let n := (s.block p).beats
  let late := (s.block p).lateFault n
  let t := s.onBlock p (fun b => b.land n)
  (match late with
    | some (f, off, step) => t.faultRun p f off step
    | none => match (t.block p).residueHit residue with
      | some o => t.residueFault p o
      | none => next t).wakeHost

/-- A beat in which a read of the block store may have been corrected, or may have failed and fences the block (R433). -/
def State.storeBeat (p : Nat) (reads : StoreRead) (op residue : Option Nat) (next : State → State) (s : State) : State :=
  match reads, (s.block p).readHit op with
  | .uncorrectable, some o => s.fenceFor p eStoreUe o ((s.block p).residueHit residue) 0 0
  | .corrected, some o => (s.storeCorrected p o).beat p residue next
  | _, _ => s.beat p residue next

/-- While the Proofer holds a block, its local signals in flight still come to their counters (R56). -/
def State.heldBeat (p : Nat) (s : State) : State :=
  if !s.fencedBlock p && (s.block p).run.isSome && s.proofed p then (s.onBlock p Block.landSigs).wakeHost else s

/-- LONG_WORD_ISSUE (R53). -/
def State.longWordBeat (p : Nat) (reads : StoreRead) (op residue : Option Nat) (s : State) : State :=
  match (s.block p).run with
  | some run =>
    if !s.canBeat p then s.heldBeat p
    else if run.phase ≠ .issue then s
    else s.storeBeat p reads op residue (State.nextWord p run)
  | none => s

/-- The phase after an empty beat, where one is due (R57, R89, R91). -/
def phaseBeat (r : Run) (inFlight : Bool) : Option Phase :=
  match r.phase with
  | .issue => none
  | .idle n => some (if n ≤ 1 then .issue else .idle (n - 1))
  | .mmas n idle => some (if n ≤ 1 then phaseAfter r.last 0 idle else .mmas (n - 1) idle)
  | .ending n => if n = 0 then (if inFlight then some (.ending 0) else none) else some (.ending (n - 1))

/-- EMPTY_BEAT (R57, R89, R91). -/
def State.emptyBeat (p : Nat) (reads : StoreRead) (op residue : Option Nat) (s : State) : State :=
  match (s.block p).run with
  | some run =>
    if !s.canBeat p then s.heldBeat p
    else if run.phase = .issue then s
    else s.storeBeat p reads op residue (fun t =>
      match phaseBeat run (!(t.block p).pend.isEmpty) with
      | none => t
      | some ph => t.onBlock p (fun b => ({ b with run := some { run with phase := ph } } : Block).countBeat))
  | none => s

/-- COMMAND_END (R89): nothing is in flight any more. A completion without room keeps the command in its queue (R556). -/
def State.commandEnd (p : Nat) (s : State) : State :=
  match (s.block p).run with
  | some run =>
    if s.fencedBlock p || run.phase ≠ .ending 0 then s
    else s.beat p none (fun t =>
      let b := t.block p
      if !b.pend.isEmpty then t
      else (t.traceRec p 1 b.lastOff b.lastStep 0xFF 0 0 0 0).endRun p 0 b.step 0)
  | none => s

end Sys2Proof.Machine
end

