-- ==== Sys2Proof/Machine/BlockDma.lean ====
section
/-! DEFINITION. The block DMA: its descriptors, what they move, and how they end (R434 to R437, 12_memory_system.md). -/

namespace Sys2Proof.Machine

/-- A block-DMA descriptor (R435). -/
structure DmaDesc where
  /-- OP. -/
  op : Nat
  /-- FLAGS. -/
  flags : Nat
  /-- Rows. -/
  rows : Nat
  /-- LEN, or AOP in bits 7:0. -/
  len : Nat
  /-- REMOTE. -/
  remote : Nat
  /-- LOCAL, all 32 bits. -/
  loc : Nat
  /-- STATUS and the reserved byte. -/
  stat : Nat
  /-- SIGTGT. -/
  sigtgt : Nat
  /-- LSTRIDE. -/
  lstride : Nat
  /-- RSTRIDE. -/
  rstride : Nat
deriving DecidableEq, Repr

/-- The descriptor in 32 bytes (R435). -/
def DmaDesc.ofBytes (bs : List Byte) : DmaDesc :=
  { op := field bs 0 1, flags := field bs 1 1, rows := field bs 2 2 + 1, len := field bs 4 4, remote := field bs 8 8,
    loc := field bs 16 4, stat := field bs 21 1, sigtgt := field bs 22 2, lstride := field bs 24 4, rstride := field bs 28 4 }

/-- SIG. -/
def DmaDesc.sig (d : DmaDesc) : Bool := bitOn d.flags 0
/-- RET. -/
def DmaDesc.ret (d : DmaDesc) : Bool := bitOn d.flags 1
/-- Shape number of a PUSH. -/
def DmaDesc.pushShape (d : DmaDesc) : Nat := bits d.remote 35 27
/-- Store offset of a PUSH. -/
def DmaDesc.pushOff (d : DmaDesc) : Nat := bits d.remote 26 0

/-- Address of a slot of a descriptor ring of 2^n slots of `size` bytes. -/
def Queue.slotAddr (q : Queue) (size i : Nat) : Nat := 4096 * q.base + size * (i % 2 ^ q.slotsLog2)

/-- Descriptor `i` of a block. -/
def Block.dmaDesc (b : Block) (i : Nat) : DmaDesc := DmaDesc.ofBytes (b.store.read (b.dma.slotAddr 32 i) 32)

/-- Row `r` of a strided range. -/
def rowAt (base stride r : Nat) : Nat := base + stride * r

/-- The last byte of the rows, one past it. -/
def rowsEnd (base stride rows len : Nat) : Nat := base + stride * (rows - 1) + len

/-- The SIGTGT of a descriptor with SIG names a counter of a placed block (R435). -/
def State.sigTargetOk (s : State) (sig : Bool) (t : Nat) : Bool :=
  !bitOn t 15 && (!sig || (decide (bits t 5 0 ≤ 47) && (s.physOf (bits t 14 6)).isSome))

/-- A row move's own rules (R435): lengths, alignments and ranges. -/
def DmaDesc.rowsOk (d : DmaDesc) (localLimit remoteBase remoteLimit : Nat) : Bool :=
  decide (d.rows ≤ 4096) && d.len % 64 == 0 && decide (64 ≤ d.len) && decide (d.len ≤ storeBytes) && d.loc % 64 == 0 && remoteBase % 64 == 0 &&
    d.lstride % 64 == 0 && d.rstride % 64 == 0 && decide (rowsEnd d.loc d.lstride d.rows d.len ≤ localLimit) &&
    decide (rowsEnd remoteBase d.rstride d.rows d.len ≤ remoteLimit)

/-- An ATOMIC descriptor's own rules (R435). AOP and alignment are the LB4's to judge (R429). -/
def DmaDesc.atomicOk (d : DmaDesc) : Bool :=
  d.rows == 1 && d.loc % 64 == 0 && decide (d.len < 256) && d.lstride == 0 && d.rstride == 0 && decide (d.remote < 2 ^ 40) &&
    decide (d.loc + (if d.ret then 136 else aopOperandBytes d.len) ≤ storeBytes) && !(d.ret && aopOp d.len == 8)

/-- The descriptor has no format fault (R435, R437). -/
def State.dmaFormatOk (s : State) (d : DmaDesc) : Bool :=
  decide (d.flags < (if d.op = 4 then 4 else 2)) && d.stat == 0 && s.sigTargetOk d.sig d.sigtgt &&
  (if d.op = 1 ∨ d.op = 2 then decide (d.remote < 2 ^ 40) && d.rowsOk storeBytes d.remote devBytes
   else if d.op = 3 then decide (d.remote < 2 ^ 36) && (s.physOf d.pushShape).isSome && d.rowsOk storeBytes d.pushOff storeBytes
   else if d.op = 4 then d.atomicOk
   else false)

/-- STATUS code of a descriptor for a STATUS of the LB4 (R437). -/
def dmaStatus (st : Nat) : Nat :=
  if st = 0 then 0x01 else if st = stMemUe then 0x80 else if st = stOffline then 0x81 else 0x82

/-- `n` bytes of a block store become free values (R437, log 2). -/
def State.freeStore (p a n : Nat) (s : State) : State :=
  ({ s with free := s.free + n } : State).onBlock p (fun b => { b with store := b.store.write a (Config.freeBytes n s.free) })

/-- READ, rows from `r` on. -/
def State.dmaRead (p who : Nat) (d : DmaDesc) : Nat → Nat → State → Nat × State
  | 0, _, s => (0x01, s)
  | k + 1, r, s =>
    match s.devRead who (rowAt d.remote d.rstride r) d.len with
    | (0, bs, t) => State.dmaRead p who d k (r + 1) (t.onBlock p (fun b => { b with store := b.store.write (rowAt d.loc d.lstride r) bs }))
    | (st, _, t) => (dmaStatus st, t)

/-- WRITE, rows from `r` on. -/
def State.dmaWrite (p who : Nat) (d : DmaDesc) : Nat → Nat → State → Nat × State
  | 0, _, s => (0x01, s)
  | k + 1, r, s =>
    match s.devWrite who (rowAt d.remote d.rstride r) ((s.block p).store.read (rowAt d.loc d.lstride r) d.len) with
    | (0, t) => State.dmaWrite p who d k (r + 1) t
    | (st, t) => (dmaStatus st, t)

/-- PUSH, rows from `r` on, to block `q`. -/
def State.dmaPush (p q : Nat) (d : DmaDesc) : Nat → Nat → State → State
  | 0, _, s => s
  | k + 1, r, s =>
    let bs := (s.block p).store.read (rowAt d.loc d.lstride r) d.len
    State.dmaPush p q d k (r + 1) (s.onBlock q (fun b => { b with store := b.store.write (rowAt d.pushOff d.rstride r) bs }))

/-- Each row of a strided destination filled by `f`. -/
def eachRow (base stride rows : Nat) (f : Nat → State → State) (s : State) : State :=
  (List.range rows).foldl (fun s r => f (rowAt base stride r) s) s

/-- The rows of a descriptor's destination, in the store of a block or in device memory, become free values (R436, R437): those that lie in
it. -/
def State.freeRowsOf (q : Option Nat) (base stride rows len : Nat) (s : State) : State :=
  eachRow base stride rows (fun a s => match q with
    | some p => if a + len ≤ storeBytes then s.freeStore p a len else s
    | none => if a + len ≤ devBytes then s.freeAt a len else s) s

/-- The destination range of a descriptor that ended with a code other than 0x01 is left undefined: free values, within what its fields name
(R437). A PUSH to a fenced block has had its writes discarded; an atomic that failed leaves memory as it was and its returned value
undefined. -/
def State.freeDest (p code : Nat) (d : DmaDesc) (s : State) : State :=
  let rows := min d.rows 4096
  if d.op = 1 then s.freeRowsOf (some p) d.loc d.lstride rows d.len
  else if d.op = 2 then s.freeRowsOf none d.remote d.rstride rows d.len
  else if d.op = 3 then
    match s.physOf d.pushShape with
    | some q => if code = 0x84 ∨ s.fencedBlock q then s else s.freeRowsOf (some q) d.pushOff d.rstride rows d.len
    | none => s
  else if d.op = 4 ∧ d.ret then s.freeRowsOf (some p) (d.loc + 128) 0 1 (aopBytes d.len)
  else s

/-- What a descriptor moves: its STATUS and the state (R435, R437). -/
def State.dmaMove (p : Nat) (d : DmaDesc) (s : State) : Nat × State :=
  let who := whoOf 0x40 ((s.shapeOf p).getD 0)
  if d.op = 1 then s.dmaRead p who d d.rows 0
  else if d.op = 2 then s.dmaWrite p who d d.rows 0
  else if d.op = 3 then
    match s.physOf d.pushShape with
    | none => (0x83, s)
    | some q => if s.fencedBlock q then (0x84, s) else (0x01, s.dmaPush p q d d.rows 0)
  else
    let aop := d.len
    if s.strict && aopOp aop == 7 && aopOk aop && aopAligned aop d.remote && !s.nearFar then (0x85, s)
    else
      let operand := (s.block p).store.read d.loc (aopOperandBytes aop)
      match s.devAtomic who aop d.remote operand with
      | (0, old, t) =>
        (0x01, if d.ret then t.onBlock p (fun b => { b with store := b.store.write (d.loc + 128) (leBytes (aopBytes aop) old) }) else t)
      | (st, _, t) => (dmaStatus st, t)

/-- A descriptor of a fenced block that was in flight: no result lands in the block itself, and what it may still write elsewhere is
undefined (R46, R436). -/
def State.dmaFenced (d : DmaDesc) (s : State) : State :=
  if !s.dmaFormatOk d then s
  else if d.op = 2 then s.freeRowsOf none d.remote d.rstride d.rows d.len
  else if d.op = 3 then
    match s.physOf d.pushShape with
    | some q => if s.fencedBlock q then s else s.freeRowsOf (some q) d.pushOff d.rstride d.rows d.len
    | none => s
  else if d.op = 4 ∧ aopOk d.len ∧ aopAligned d.len d.remote ∧ !s.nearFar then
    s.freeAt d.remote (if aopOp d.len = 8 then 72 else aopBytes d.len)
  else s

/-- The ranges of a block's store that the descriptors in flight of block `q` will write (R197). -/
def State.dmaWritesTo (s : State) (q p : Nat) : List (Nat × Nat) :=
  let b := s.block q
  b.dma.flight.flatMap (fun f =>
    let d := b.dmaDesc f.1
    if !s.dmaFormatOk d then []
    else if d.op = 1 ∧ q = p then (List.range d.rows).map (fun r => (rowAt d.loc d.lstride r, d.len))
    else if d.op = 3 ∧ s.physOf d.pushShape = some p then (List.range d.rows).map (fun r => (rowAt d.pushOff d.rstride r, d.len))
    else if d.op = 4 ∧ d.ret ∧ q = p then [(d.loc + 128, aopBytes d.len)] else [])

/-- The descriptor rings may start work: a placement is LIVE, or RETIRING with commands still running (R39, R436). -/
def State.ringsRun (s : State) : Bool := s.live || s.place.pstate == psRetiring

/-- DMA_DESCRIPTOR_START (R434), its read of the block store as `reads` says (R433). What the descriptor does, its format included, is
judged when it ends, as if it ran alone in ring order (R436). -/
def State.dmaStart (p : Nat) (reads : StoreRead) (s : State) : State :=
  let b := s.block p
  let q := b.dma
  if !s.ringsRun || !q.en || q.halted || s.fencedBlock p || decide (8 ≤ q.flight.length) ||
      decide ((b.cnt q.post).value < q.started + 1) then s
  else if reads = .uncorrectable then s.fenceFor p eStoreUe b.lastWord none 0 0
  else
    (if reads = .corrected then s.storeCorrected p b.lastWord else s).onBlock p
      (fun b => { b with dma.started := q.started + 1, dma.flight := q.flight ++ [(q.started, 0x01)] })

/-- A descriptor's memory traffic must wait (R441, R521). -/
def State.dmaMustWait (s : State) (d : DmaDesc) : Bool :=
  (d.op == 1 || d.op == 2) && (List.range d.rows).any (fun r => s.devBusy (rowAt d.remote d.rstride r) d.len) ||
    d.op == 4 && s.devBusy d.remote (aopBytes d.len)

/-- DMA_DESCRIPTOR_END (R436, R437): the oldest descriptor in flight ends. In a fenced block nothing follows it but the writes that may have
left the block (R436). -/
def State.dmaEnd (p index : Nat) (reads : StoreRead) (s : State) : State :=
  let b := s.block p
  match b.dma.flight with
  | [] => s
  | (i, _) :: rest =>
    let d := b.dmaDesc i
    let ok := s.dmaFormatOk d
    if i ≠ index then s
    else if s.fencedBlock p then (s.dmaFenced d).onBlock p (fun b => { b with dma.flight := rest })
    else if ok && s.dmaMustWait d then s
    else if reads = .uncorrectable then s.fenceFor p eStoreUe b.lastWord none 0 0
    else
      let s1 := if reads = .corrected then s.storeCorrected p b.lastWord else s
      let (st, t0) := if ok then s1.dmaMove p d else (0x83, s1)
      let halted := st != 0x01
      let t := if halted then t0.freeDest p st d else t0
      let u := t.onBlock p (fun b => { b with
        store := b.store.write (b.dma.slotAddr 32 i + 20) [BitVec.ofNat 8 st]
        dma := { b.dma with
          flight := if halted then [] else rest
          started := if halted then i + 1 else b.dma.started
          ended := (b.dma.ended + 1) % 2 ^ 32
          halted := halted
          code := if halted then st else 0
          index := if halted then i % 2 ^ b.dma.slotsLog2 else 0 } })
      let v := u.cntAdd p b.dma.done 1
      let w : State := if d.sig && !halted then
        { v with hif.inflight := v.hif.inflight ++ [.remote p (bits d.sigtgt 14 6) (bits d.sigtgt 5 0) 1 0 0] } else v
      (w.onBlock p Block.publish).wakeHost

end Sys2Proof.Machine
end

