-- ==== Sys2Proof/Machine/RallyOps.lean ====
section
/-! DEFINITION. Rally links and the HyperX fabric: flits, replay, credits, packets, routing, resequencing, injection and the units that
packets sink into (R292, R293, R348 to R380, R432; 10_rally_fabric_and_routing.md). -/

namespace Sys2Proof.Machine

/-! ### Packets (R359) -/

/-- DST. -/
def Pkt.dst (k : Pkt) : Nat := bits k.hdr 127 116
/-- SRC. -/
def Pkt.src (k : Pkt) : Nat := bits k.hdr 115 104
/-- CLS. -/
def Pkt.cls (k : Pkt) : Nat := bits k.hdr 103 101
/-- LOOSE. -/
def Pkt.loose (k : Pkt) : Bool := bitOn k.hdr 100
/-- ESC. -/
def Pkt.esc (k : Pkt) : Bool := bitOn k.hdr 99
/-- NMH. -/
def Pkt.nmh (k : Pkt) : Bool := bitOn k.hdr 98
/-- EPOCH. -/
def Pkt.epoch (k : Pkt) : Nat := bit k.hdr 97
/-- MC. -/
def Pkt.mc (k : Pkt) : Bool := bitOn k.hdr 96
/-- MCAXIS. -/
def Pkt.mcAxis (k : Pkt) : Nat := bits k.hdr 95 94
/-- LEN. -/
def Pkt.len (k : Pkt) : Nat := bits k.hdr 93 79
/-- TXN. -/
def Pkt.txn (k : Pkt) : Nat := bits k.hdr 78 64
/-- SEQ. -/
def Pkt.seq (k : Pkt) : Nat := bits k.hdr 63 48
/-- OPC. -/
def Pkt.opc (k : Pkt) : Nat := bits k.hdr 47 40
/-- ARG. -/
def Pkt.arg (k : Pkt) : Nat := bits k.hdr 39 0

/-- Credits a packet of a payload length costs (R357). -/
def creditCost (len : Nat) : Nat := if len = 0 then 1 else poolUnits ((poolFor len).getD 3)

/-- Flits a packet of a payload length takes (R359). -/
def flitCount (len : Nat) : Nat := ceilDiv (16 + len) 246

/-- The store class of a lane (R357). -/
def laneClass (l : Nat) : Nat := if l < 5 then 8 + l else 13

/-- The header uses no reserved encoding (R359, R362). -/
def Pkt.wellFormed (k : Pkt) : Bool :=
  decide (k.cls ≤ 4) && decide (k.mcAxis ≤ 2) && (k.mc || k.mcAxis == 0) && decide (k.len ≤ 16384) &&
  (decide (k.cls ≤ 1) || k.txn == 0) && (!k.loose || k.seq == 0) && (!k.loose || k.cls == 0 || k.cls == 2 || k.cls == 3)

/-! ### Links -/

/-- The Rally side of a port. -/
def State.link (s : State) (n : Nat) : Link := Sparse.get {} s.rly.links n
/-- The Rally side of a port replaced. -/
def State.setLink (n : Nat) (x : Link) (s : State) : State := { s with rly.links := Sparse.set {} s.rly.links n x }

/-- Link states (R385). -/
def lkDown : Nat := 0
/-- TRAINING. -/
def lkTraining : Nat := 1
/-- MISMATCH. -/
def lkMismatch : Nat := 2
/-- UP. -/
def lkUp : Nat := 3
/-- RETRAINING. -/
def lkRetraining : Nat := 4

/-- The port is in Rally mode and not stopped by COAST (R225, R348). -/
def State.rallyOn (s : State) (n : Nat) : Bool := s.portMode n == 2 && !s.clk.coast

/-- A port that a route entry may use (R369). -/
def State.linkUp (s : State) (n : Nat) : Bool := s.rallyOn n && (s.link n).st == lkUp

/-- A flit with its CRC (R353). -/
def mkFlit (fseq ack type : Nat) (bad : Bool) (cvc ccount : Nat) (content : List Byte) : List Byte :=
  let body := leBytes 6 (fseq * 2 ^ 36 + ack * 2 ^ 24 + type * 2 ^ 21 + b2n bad * 2 ^ 20 + cvc * 2 ^ 17 + ccount * 2 ^ 8) ++ content
  body ++ leBytes 4 (crc32 body)

/-- A flit sent on a port. -/
def State.putFlit (n : Nat) (f : List Byte) (s : State) : State := { s with out.flits := s.out.flits ++ [(n, f)] }

/-- The FSEQ last received in order on a port. -/
def Link.ackSeq (k : Link) : Nat := (k.rxFseq + 4095) % 4096

/-- An idle flit that returns credits of a lane (R353, R357). An idle flit's FSEQ and content are free values (log 34). -/
def State.sendCredits (n lane count : Nat) (s : State) : State :=
  ({ s with free := s.free + 247 } : State).putFlit n
    (mkFlit (Config.free s.free % 4096) (s.link n).ackSeq 0 false lane count (Config.freeBytes 246 (s.free + 1)))

/-- A packet or control flit: it takes the next FSEQ and stays in the retry buffer (R354). -/
def State.sendHeld (n type : Nat) (bad isEnd : Bool) (epoch ack : Nat) (content : List Byte) (s : State) : State :=
  let k := s.link n
  let f := mkFlit k.txFseq ack type bad 7 0 content
  (s.setLink n { k with
    txFseq := (k.txFseq + 1) % 4096
    retry := k.retry ++ [{ fseq := k.txFseq, flit := f, epoch := epoch, isEnd := isEnd }] }).putFlit n f

/-- What an IDENT says: SYSTEM_ID, extents, coordinate and port number (R358). Where they stand in CONTENT is not stated (log 34). -/
def State.identBytes (s : State) (n : Nat) : List Byte :=
  leBytes 8 (s.reg .fab 0 0x108) ++ leBytes 2 (s.fld .fab 0 0x100 27 16) ++ leBytes 2 (s.fld .fab 0 0x100 11 0) ++ leBytes 1 n

/-- A control flit of a kind goes out, with the rest of its content a free value (R354, log 34). -/
def State.putControl (n kind ack : Nat) (s : State) : State :=
  ({ s with free := s.free + 245 } : State).sendHeld n 5 false false 0 ack
    ((leBytes 1 kind ++ (if kind = 1 then s.identBytes n else []) ++ Config.freeBytes 245 s.free).take 246)

/-- The retry buffer has room for a number of flits (R354). -/
def Link.fits (k : Link) (m : Nat) : Bool := decide (k.retry.length + m ≤ 1024)

/-- A control flit goes out, or waits for room in the retry buffer (R354). -/
def State.sendControl (n kind ack : Nat) (s : State) : State :=
  let k := s.link n
  if k.ctl.isEmpty && k.fits 1 then s.putControl n kind ack else s.setLink n { k with ctl := k.ctl ++ [(kind, ack)] }

/-- Control flits that wait go out as far as the retry buffer has room. -/
def State.flushControl (n : Nat) : Nat → State → State
  | 0, s => s
  | fuel + 1, s =>
    let k := s.link n
    match k.ctl with
    | [] => s
    | c :: rest => if k.fits 1 then State.flushControl n fuel ((s.setLink n { k with ctl := rest }).putControl n c.1 c.2) else s

/-- Credits owed to a port's peer are sent, but for classes whose credits are withheld (R308, R357). -/
def State.flushLane (n : Nat) (s : State) (lane : Nat) : State :=
  let k := s.link n
  let c := k.owed.num lane
  if c = 0 ∨ k.st ≠ lkUp ∨ bitOn s.pnt.withheld (laneClass lane - 8) then s
  else
    let parts := (List.range (ceilDiv c 511)).map (fun i => min 511 (c - 511 * i))
    parts.foldl (fun s m => s.sendCredits n lane m) (s.setLink n { k with owed := k.owed.setNum lane 0 })

/-- The input's credits for a packet come back to its peer (R357). -/
def State.returnCredits (k : Pkt) (s : State) : State :=
  match k.inPort with
  | none => s
  | some n => (s.setLink n { s.link n with owed := (s.link n).owed.addNum k.lane (creditCost k.len) }).flushLane n k.lane

/-- The flits of a packet sent (R359). Content past the packet's end is a free value (log 34). -/
def State.sendPacket (n : Nat) (k : Pkt) (s : State) : State :=
  let body := leBytes 8 (bits k.hdr 127 64) ++ leBytes 8 (bits k.hdr 63 0) ++ k.payload
  let count := flitCount k.len
  let pad := 246 * count - body.length
  let whole := body ++ Config.freeBytes pad s.free
  (List.range count).foldl (fun s i =>
    let type := if count = 1 then 4 else if i = 0 then 1 else if i + 1 = count then 3 else 2
    s.sendHeld n type (k.bad && decide (i + 1 = count)) (decide (i + 1 = count)) k.epoch (s.link n).ackSeq (slice whole (246 * i) 246))
    { s with free := s.free + pad }

/-- The unit code of a port's switch core (R316). -/
def unitOfPort (n : Option Nat) : Nat := match n with | some p => p / 32 | none => 0

/-- A packet's buffers go back. -/
def State.freePkt (k : Pkt) (s : State) : State := s.freeBufs (unitOfPort k.inPort) k.bufs

/-- Lanes of a port whose head packet can go now: credits for its whole cost, room for its flits in the retry buffer, and a frame for each of its
pages (R297, R354, R357). -/
def State.sendable (s : State) (n : Nat) : List Nat :=
  let k := s.link n
  if !s.linkUp n || !k.ctl.isEmpty then []
  else (List.range 7).filter (fun l => match Sparse.get [] k.txq l with
    | [] => false
    | p :: _ => decide (creditCost p.len ≤ k.credits.num l) && k.fits (flitCount p.len) && s.bufsResident p.bufs)

/-- The pages of the packets at the heads of a port's lanes that have no frame are asked for (R297). -/
def State.askHeads (n : Nat) (s : State) : State :=
  (s.link n).txq.foldl (fun s q => match q.2 with
    | p :: _ => if s.bufsResident p.bufs then s else s.touchBufs p.bufs
    | [] => s) s

/-- The port sends what it can, one packet after another. Which lane goes first is not stated: a free value picks among several
(log 34). -/
def State.pump (n : Nat) : Nat → State → State
  | 0, s => s
  | fuel + 1, s =>
    match s.sendable n with
    | [] => s
    | l :: ls =>
      let s0 := if ls.isEmpty then s else s.useFree
      let lane := if ls.isEmpty then l else (l :: ls).getD (Config.free s.free % (ls.length + 1)) l
      match Sparse.get [] (s0.link n).txq lane with
      | [] => s0
      | p :: rest =>
        let k := s0.link n
        let s1 := s0.setLink n { k with
          txq := Sparse.set [] k.txq lane rest, credits := k.credits.setNum lane (k.credits.num lane - creditCost p.len) }
        let s2 : State := { s1 with pnt.outBytes := s1.pnt.outBytes.subNum n (s1.bufBytes p.bufs) }
        State.pump n fuel ((((s2.touchBufs p.bufs).sendPacket n p).freePkt p).returnCredits p)

/-- Packets queued on a port. -/
def State.queuedPkts (s : State) (n : Nat) : Nat := ((s.link n).txq.map (fun c => c.2.length)).sum

/-- The port sends what it can, control flits first. -/
def State.pumpPort (n : Nat) (s : State) : State :=
  let t := (s.flushControl n (s.link n).ctl.length).askHeads n
  t.pump n (t.queuedPkts n)

/-- Every port returns the credits no longer withheld and sends what it can. -/
def State.pumpAll (s : State) : State :=
  s.rly.links.keys.foldl (fun s n => ((List.range 7).foldl (State.flushLane n) s).pumpPort n) s

/-! ### Errors and counts (R377, R382) -/

/-- An error on the fabric page, with the header's high word of the packet concerned. -/
def State.fabErr (bit port axis coord reason hi : Nat) (s : State) : State :=
  s.raise .fab 0 bit 0 (port * 2 ^ 57 + axis * 2 ^ 55 + coord * 2 ^ 51 + reason * 2 ^ 48) hi 0

/-- A packet of an epoch is discarded here (R377). -/
def State.dropCount (e n : Nat) (s : State) : State := { s with rly.drop := s.rly.drop.addNum e n }

/-- A packet is discarded: its buffers and credits go back and DROP of its epoch counts it (R377). -/
def State.dropPkt (k : Pkt) (s : State) : State := ((s.freePkt k).returnCredits k).dropCount k.epoch 1

/-! ### Routing (R366 to R371) -/

/-- This module's number (R383). -/
def State.module (s : State) : Nat := s.fld .fab 0 0x100 11 0
/-- A coordinate of a module number (R364). -/
def coordOf (m a : Nat) : Nat := bits m (4 * a + 3) (4 * a)
/-- RL_EPOCH. -/
def State.rlEpoch (s : State) : Nat := s.reg .fab 0 0x118
/-- A version is ACTIVE (R375). -/
def State.versionActive (s : State) (v : Nat) : Bool := bitOn s.rlEpoch (1 + v)
/-- The axis order of a version (R383). -/
def axisOrder (r v : Nat) : List Nat :=
  let lo := if v = 0 then 3 else 9
  [bits r (lo + 5) (lo + 4), bits r (lo + 3) (lo + 2), bits r (lo + 1) lo]
/-- A route entry (R384). -/
def State.rte (s : State) (v a c : Nat) : Nat := s.reg .fab 0 (0x400 + 0x180 * v + 0x80 * a + 8 * c)
/-- The valid ports of an entry. -/
def entryPorts (e : Nat) : List Nat := (if bitOn e 15 then [bits e 14 8] else []) ++ (if bitOn e 23 then [bits e 22 16] else [])
/-- The usable ports of an entry (R369). -/
def State.usablePorts (s : State) (e : Nat) : List Nat := (entryPorts e).filter s.linkUp
/-- RL_FENCE has the neighbour's bit (R380). -/
def State.neighbourFenced (s : State) (a c : Nat) : Bool := bitOn (s.reg .fab 0 0x120) (16 * a + c)

/-- The port with more credits free on the lane; the lower number on equal credits (R369). -/
def State.bestPort (s : State) (lane : Nat) : List Nat → Option Nat
  | [] => none
  | p :: ps =>
    match s.bestPort lane ps with
    | none => some p
    | some q =>
      let cp := (s.link p).credits.num lane
      let cq := (s.link q).credits.num lane
      some (if cq < cp ∨ (cp = cq ∧ p ≤ q) then p else q)

/-- A packet queued on a port's lane; a full output refuses it (R307, R369). Whether it goes cut-through is decided the first time alone: a packet
routed again keeps the decision (R287). -/
def State.queuePkt (n lane : Nat) (k0 : Pkt) (s : State) : State :=
  let l := s.link n
  let ct := k0.ct.getD (k0.inPort.isSome && (Sparse.get [] l.txq lane).isEmpty)
  let k : Pkt := { k0 with ct := some ct }
  if !s.outBelow n then (s.overrun (unitOfPort k.inPort) (laneClass lane) ((poolFor k.len).getD 0)).dropPkt k
  else
    if k.bad && !ct then s.dropPkt k
    else
      let s1 := s.setLink n { l with txq := Sparse.set [] l.txq lane (Sparse.get [] l.txq lane ++ [k]) }
      let s2 : State := { s1 with pnt.outBytes := s1.pnt.outBytes.addNum n (s1.bufBytes k.bufs) }
      let s3 := if ct && k0.ct.isNone then s2.evtAdd .sw 0 2 1 else s2
      (if k.bad && k0.ct.isNone then s3.evtAdd .sw 0 3 1 else s3).pumpPort n

/-- A discarded packet of class COLL is noted with its ticket and destination: its collective ends where it runs here (R413). -/
def State.noteLost (k : Pkt) (s : State) : State :=
  if k.cls = 3 then { s with coll.lost := s.coll.lost ++ [(field k.payload 0 8, k.dst)] } else s

/-- A packet that cannot move (R371). -/
def State.noRoute (k : Pkt) (axis coord reason : Nat) (s : State) : State :=
  (((s.noteLost k).fabErr 4 (k.inPort.getD 0) axis coord reason (bits k.hdr 127 64)).evtAdd .fab 0 2 1).dropPkt k

/-- A packet's first axis that differs from this module's coordinate, in its version's order (R368). -/
def State.nextAxis (s : State) (k : Pkt) : Option Nat :=
  (axisOrder s.rlEpoch k.epoch).find? (fun a => coordOf k.dst a != coordOf s.module a)

/-- A packet with ESC and NMH set (R370). -/
def Pkt.escaped (k : Pkt) : Pkt := { k with hdr := setBit (setBit k.hdr 99) 98 }

/-- The detour of a packet on an axis toward coordinate `c`, if the entry permits one and its neighbour can be reached (R370). -/
def State.detourPort (s : State) (k : Pkt) (a c : Nat) : Option (Nat × Nat) :=
  let e := s.rte k.epoch a c
  if !bitOn e 27 || k.nmh || k.mc then none
  else
    let d := bits e 31 28
    (s.bestPort 5 (s.usablePorts (s.rte k.epoch a d))).map (fun p => (d, p))

/-- A packet takes its non-minimal hop (R370, R371). -/
def State.takeDetour (k : Pkt) (a d p : Nat) (s : State) : State :=
  if s.neighbourFenced a d then s.noRoute k a d 1
  else (s.evtAdd .fab 0 1 1).queuePkt p 5 k.escaped

/-- A packet for another module is sent on its way (R368 to R371). -/
def State.route (k : Pkt) (s : State) : State :=
  match s.nextAxis k with
  | none => s.dropPkt k
  | some a =>
    let c := coordOf k.dst a
    let lane := if k.esc then 6 else k.cls
    if s.neighbourFenced a c then s.noRoute k a c 1
    else match s.bestPort lane (s.usablePorts (s.rte k.epoch a c)) with
    | some p => s.queuePkt p lane k
    | none =>
      match s.detourPort k a c with
      | some (d, p) => s.takeDetour k a d p
      | none => s.noRoute k a c 0

/-- A packet under a RETIRED version (R375). -/
def State.stale (k : Pkt) (s : State) : State :=
  (((s.noteLost k).fabErr 5 (k.inPort.getD 0) 0 0 0 (bits k.hdr 127 64)).evtAdd .fab 0 3 1).dropPkt k

/-! ### Injection (R361, R362, R375, R379) -/

/-- The key of a stream (R362). -/
def streamKey (m cls : Nat) (mc : Bool) : Nat := m * 16 + cls * 2 + b2n mc

/-- A packet's header. -/
def mkHdr (dst src cls : Nat) (loose : Bool) (epoch : Nat) (mc : Option Nat) (len txn seq opc arg : Nat) : Nat :=
  dst * 2 ^ 116 + src * 2 ^ 104 + cls * 2 ^ 101 + b2n loose * 2 ^ 100 + epoch * 2 ^ 97 + b2n mc.isSome * 2 ^ 96 +
  mc.getD 0 * 2 ^ 94 + len * 2 ^ 79 + txn * 2 ^ 64 + seq * 2 ^ 48 + opc * 2 ^ 40 + arg % 2 ^ 40

/-- A packet injected here: counted, given a buffer and its number, and routed (R362, R375, R377); a loose one has no number. -/
def State.injectAs (loose : Bool) (unit dst cls txn opc arg : Nat) (mc : Option Nat) (payload : List Byte) (s : State) : State :=
  let e := bit s.rlEpoch 0
  let s1 : State := { s with rly.inj := s.rly.inj.addNum e 1 }
  let key := streamKey dst cls mc.isSome
  let pkt (seq : Nat) (bufs : List Nat) : Pkt :=
    { hdr := mkHdr dst s.module cls loose e mc payload.length txn seq opc arg, payload := payload, lane := cls, bufs := bufs }
  if !s1.versionActive e then s1.stale (pkt 0 [])
  else
    let go (bufs : List Nat) (s : State) : State :=
      let q := s.rly.txSeq.num key
      if loose then s.route (pkt 0 bufs)
      else ({ s with rly.txSeq := s.rly.txSeq.setNum key ((q + 1) % 2 ^ 16) } : State).route (pkt q bufs)
    if payload.isEmpty then go [] s1
    else
      let p := (poolFor payload.length).getD 3
      match s1.alloc (8 + cls) p none with
      | some (b, s2) => go [b] s2
      | none => (s1.overrun unit (8 + cls) p).dropCount e 1

/-- A sequenced packet injected here. -/
def State.inject (unit dst cls txn opc arg : Nat) (mc : Option Nat) (payload : List Byte) (s : State) : State :=
  s.injectAs false unit dst cls txn opc arg mc payload

/-- A packet injected on one of this module's axis lines: one copy for each neighbour named, none for a fenced one. The flag says that
a fenced neighbour was left out (R379, R380). -/
def State.injectLine (loose : Bool) (unit axis mask cls opc arg : Nat) (payload : List Byte) (s : State) : State × Bool :=
  let me := coordOf s.module axis
  let named := (List.range 16).filter (fun c => bitOn mask c && c != me)
  let fenced := named.filter (s.neighbourFenced axis)
  let s1 := s.evtAdd .fab 0 5 fenced.length
  let send (s : State) (c : Nat) : State :=
    let dst := setBits s.module (4 * axis + 3) (4 * axis) c
    (s.injectAs loose unit dst cls 0 opc (mask % 2 ^ 16 + arg * 2 ^ 16) (some axis) payload).evtAdd .fab 0 4 1
  ((named.filter (fun c => !s.neighbourFenced axis c)).foldl send s1, !fenced.isEmpty)

/-! ### Where packets sink (R360, R361, R432) -/

/-- The length that the reply to a REQ needs room for (R361). -/
def replyLen (opc : Nat) (payload : List Byte) : Nat := if opc = 2 then field payload 0 4 else 8

/-- A TXN that no REQ outstanding uses (R361). -/
def State.freeTxn (s : State) : Option Nat :=
  if 32768 ≤ s.rly.txns.length then none else (List.range (s.rly.txns.length + 1)).find? (fun t => s.rly.txns.all (fun r => r.txn != t))

/-- A requester's REQ: a buffer of class 9 and a TXN are reserved for its reply, and it is injected; where either cannot be had it waits (R361). -/
def State.request (unit dst opc addr : Nat) (payload : List Byte) (s : State) : State :=
  let wait : State := { s with rly.reqOut := s.rly.reqOut ++ [(dst, opc, addr, payload)] }
  match s.freeTxn with
  | none => wait
  | some t =>
    match s.alloc 9 ((poolFor (replyLen opc payload)).getD 3) none with
    | none => wait
    | some (b, u) => ({ u with rly.txns := u.rly.txns ++ [{ txn := t, dst := dst, buf := b }] } : State).inject unit dst 0 t opc addr none payload

/-- REQs that wait are tried again, oldest first (R361). -/
def State.retryReqs (unit : Nat) (s : State) : State :=
  s.rly.reqOut.foldl (fun s q => s.request unit q.1 q.2.1 q.2.2.1 q.2.2.2) { s with rly.reqOut := [] }

/-- A requester has consumed the RSP of a TXN, or its operation has ended by a fault: the reservation is released (R361). -/
def State.endReq (unit txn : Nat) (s : State) : State :=
  match s.rly.txns.find? (fun r => r.txn == txn) with
  | none => s
  | some r => State.freeBufs unit [r.buf] { s with
      rly.txns := s.rly.txns.filter (fun q => q.txn != txn), rly.rspIn := s.rly.rspIn.filter (fun k => k.txn != txn) }

/-- The UNIT code under which the REQ server's packets and errors stand: R316 lists none for it, and its packets enter at a switch core (log 121). -/
def unitReq : Nat := 0x00

/-- An RSP to a REQ. -/
def State.reply (k : Pkt) (opc : Nat) (payload : List Byte) (s : State) : State :=
  s.inject unitReq k.src 1 k.txn opc k.arg none payload

/-- The status code of R437 for a STATUS of device memory. -/
def reqStatus (st : Nat) : Nat := if st = stMemUe then 0x80 else if st = stOffline then 0x81 else 0x82

/-- The requester code of a Rally REQ (R448). -/
def reqWho (k : Pkt) : Nat := whoOf 0x41 0 k.src

/-- The REQ server performs a remote write, read or atomic and answers (R432). -/
def State.serveReq (k : Pkt) (s : State) : State :=
  let done (s : State) : State := s.freePkt k
  let fault (code : Nat) (s : State) : State := (done s).reply k 0x8F (leBytes 1 code)
  if k.opc = 1 then
    if k.payload.isEmpty then fault 0x83 s
    else
      let (st, t) := s.devWrite (reqWho k) k.arg k.payload
      if st = 0 then (done t).reply k 0x81 [] else fault (reqStatus st) t
  else if k.opc = 2 then
    let n := field k.payload 0 4
    if k.payload.length ≠ 8 ∨ n = 0 ∨ 16384 < n ∨ field k.payload 4 4 ≠ 0 then fault 0x83 s
    else
      let (st, bs, t) := s.devRead (reqWho k) k.arg n
      if st = 0 then (done t).reply k 0x82 bs else fault (reqStatus st) t
  else if k.opc = 3 then
    let aop := field k.payload 0 1
    if k.payload.length ≠ 8 + aopOperandBytes aop ∨ field k.payload 1 7 ≠ 0 then
      if aopOk aop then fault 0x83 s else fault 0x82 (s.atomicFormat (reqWho k) aop k.arg)
    else if s.strict && aopOp aop == 7 && aopOk aop && aopAligned aop k.arg && !s.nearFar then fault 0x85 s
    else
      let (st, old, t) := s.devAtomic (reqWho k) aop k.arg (k.payload.drop 8)
      if st = 0 then (done t).reply k 0x83 (if aopOp aop = 8 then [] else leBytes (aopBytes aop) old)
      else fault (reqStatus st) t
  else fault 0x83 s

/-- A REQ waits while the memory it names does (R441, R521). -/
def State.reqWaits (s : State) (k : Pkt) : Bool :=
  s.devBusy k.arg (if k.opc = 1 then k.payload.length else if k.opc = 2 then min 16384 (field k.payload 0 4) else 72)

/-- REQs are served in order until one waits. -/
def State.serveReqs : Nat → State → State
  | 0, s => s
  | n + 1, s =>
    match s.rly.reqIn with
    | [] => s
    | k :: rest => if s.reqWaits k then s else State.serveReqs n (({ s with rly.reqIn := rest } : State).serveReq k)

/-- Bytes held in the Referee receive area (R360). -/
def State.mgtBytes (s : State) : Nat := (s.rly.mgt.map (fun k => 16 + k.payload.length)).sum

/-- A packet that has reached its place in its stream is handed to the unit it sinks into (R360, R361). -/
def State.deliver (k : Pkt) (s : State) : State :=
  if k.cls = 0 then ({ s with rly.reqIn := s.rly.reqIn ++ [k] } : State).serveReqs (s.rly.reqIn.length + 1)
  else if k.cls = 1 then { s with rly.rspIn := s.rly.rspIn ++ [k] }
  else if k.cls = 2 then { s with rly.fwd := s.rly.fwd ++ [k] }
  else if k.cls = 3 ∧ (k.opc = 0 ∨ 5 < k.opc) then (s.freePkt k).evtAdd .coll (bits k.arg 39 36 % 4) 4 1
  else if k.cls = 3 then { s with coll.inbox := s.coll.inbox ++ [k] }
  else if 262144 < s.mgtBytes + 16 + k.payload.length then (s.freePkt k).evtAdd .fab 0 7 1
  else { (s.freePkt k) with rly.mgt := s.rly.mgt ++ [{ k with bufs := [] }] }

/-! ### Resequencing (R292, R362) -/

/-- A stream's resequencer. -/
def State.stream (s : State) (key : Nat) : Reseq := Sparse.get {} s.rly.reseq key

/-- The waiting packets that now follow in order are delivered. -/
def State.drainStream (key : Nat) : Nat → State → State
  | 0, s => s
  | n + 1, s =>
    let r := s.stream key
    match r.waiting.find? (fun w => w.1 == r.expected) with
    | none => s
    | some w =>
      let r2 : Reseq := { expected := (r.expected + 1) % 2 ^ 16, waiting := r.waiting.filter (fun x => x.1 != r.expected) }
      State.drainStream key n (({ s with rly.reseq := Sparse.set {} s.rly.reseq key r2 } : State).deliver w.2)

/-- A packet that has reached its destination (R292, R293, R361, R377). Each is counted once: in DLV, or in DROP if it is discarded here. An
RSP that matches no reservation is discarded. -/
def State.arriveHere (k : Pkt) (s : State) : State :=
  let dlv (s : State) : State := { s with rly.dlv := s.rly.dlv.addNum k.epoch 1 }
  if k.bad then s.dropPkt k
  else if k.cls = 1 ∧ !s.rly.txns.any (fun r => r.txn == k.txn && r.dst == k.src) then s.dropPkt k
  else if k.loose then ((dlv (s.returnCredits k)).evtAdd .sw 0 7 1).deliver { k with inPort := none }
  else
    let key := streamKey k.src k.cls k.mc
    let r := s.stream key
    let ahead := (k.seq + 2 ^ 16 - r.expected) % 2 ^ 16
    if s.fld .sw 0 0x180 8 0 < ahead ∨ r.waiting.any (fun w => w.1 == k.seq) then (s.dropPkt k).evtAdd .sw 0 6 1
    else
      let s1 := dlv (s.returnCredits k)
      let r2 : Reseq := { r with waiting := r.waiting ++ [(k.seq, { k with inPort := none })] }
      ({ s1 with rly.reseq := Sparse.set {} s1.rly.reseq key r2 } : State).drainStream key (r2.waiting.length)

/-- The resequencer's wait is over: it skips to the nearest packet waiting and delivers what follows (R292). -/
def State.skipGap (key : Nat) (s : State) : State :=
  let r := s.stream key
  let ahead (q : Nat) : Nat := (q + 2 ^ 16 - r.expected) % 2 ^ 16
  match r.waiting with
  | [] => s
  | w :: ws =>
    let gap := ws.foldl (fun m x => min m (ahead x.1)) (ahead w.1)
    let s1 := s.raise .sw 0 3 0 ((key / 2 % 8) * 2 ^ 59 + (key / 16) * 2 ^ 47 + r.expected * 2 ^ 16 + gap) 0 0
    let r2 : Reseq := { r with expected := (r.expected + gap) % 2 ^ 16 }
    ({ s1 with rly.reseq := Sparse.set {} s1.rly.reseq key r2 } : State).drainStream key r.waiting.length

/-! ### Arrival of a whole packet (R368) -/

/-- The lane a packet came in on: its class, or on the escape channel ESC.D where it has not reached its coordinate on the port's axis yet
(R357, R370). -/
def State.laneIn (s : State) (n : Nat) (k : Pkt) : Nat :=
  if !k.esc then k.cls
  else
    let a := s.fld .port n 0x800 7 6
    if coordOf k.dst a = coordOf s.module a then 6 else 5

/-- Every packet held, wherever it waits. -/
def State.packets (s : State) : List Pkt :=
  (s.rly.links.flatMap (fun c => c.2.txq.flatMap (fun q => q.2))) ++ (s.rly.reseq.flatMap (fun c => c.2.waiting.map Prod.snd)) ++
  s.rly.reqIn ++ s.rly.fwd ++ s.rly.rspIn ++ s.coll.inbox

/-- The buffer reserved here for a packet: an RSP's own, or a Loaf of the slot that a chunk is for in which no other chunk lies (R361, R400). -/
def State.loafFor (s : State) (k : Pkt) : Option Nat :=
  if k.cls = 1 then (s.rly.txns.find? (fun r => r.txn == k.txn && r.dst == k.src)).map Resv.buf
  else (Sparse.get {} s.coll.slots (bits k.arg 39 36)).loaves.find? (fun q => s.packets.all (fun p => p.loaf != some q))

/-- A whole packet received on a port (R307, R359, R361, R368, R375). An RSP and a collective's chunk land in buffers reserved for them
(R361, R400). `upset` is a central-store error met in its buffer: an uncorrectable one marks the packet, which is discarded where no copy has
started to depart (R289, R300). -/
def State.packetIn (n upset : Nat) (k0 : Pkt) (s : State) : State :=
  let k : Pkt := { k0 with inPort := some n, lane := min 6 (s.laneIn n k0) }
  let c := laneClass k.lane
  if !k.wellFormed ∨ k.payload.length ≠ k.len then s.dropPkt k
  else if !s.versionActive k.epoch then s.stale k
  else
    let here := k.dst = s.module
    let go (k : Pkt) (s : State) : State := if here then s.arriveHere k else s.route k
    let held (k : Pkt) (b : Nat) (s : State) : State := go { k with bad := k.bad || upset == 2 } (s.storeError (n / 32) 0 upset b)
    if k.payload.isEmpty then go k s
    else if here ∧ (k.cls = 1 ∨ (k.cls = 3 ∧ k.opc = 3)) then
      match s.loafFor k with
      | some q => held { k with loaf := some q } q s
      | none => go k s
    else
      let p := (poolFor k.len).getD 3
      match s.alloc c p (some n) with
      | some (b, s1) => held { k with bufs := [b] } b s1
      | none => (s.overrun (n / 32) c p).dropPkt k

/-! ### Flits (R353 to R356) -/

/-- The peer has acknowledged every flit up to an FSEQ (R354, R356). -/
def Link.acked (k : Link) (ack : Nat) : Link :=
  match k.retry with
  | [] => k
  | r :: _ =>
    let n := (ack + 4096 + 1 - r.fseq) % 4096
    if n = 0 ∨ k.retry.length < n then k else { k with retry := k.retry.drop n, noProg := 0 }

/-- A port's lanes retrain; the state it was in comes back after (R356). -/
def State.retrain (n : Nat) (s : State) : State :=
  let r := s.reg .port n 0x808
  let k := s.link n
  ((s.setLink n { k with st := lkRetraining, resume := if k.st = lkRetraining then k.resume else k.st, noProg := 0 }).setReg .port n 0x808
    (setBits r 31 16 (min 0xFFFF (bits r 31 16 + 1)))).sbAdd (0x0200 + n) 1

/-- A replay of the flits from an FSEQ on; the eighth without progress retrains the lanes (R355, R356). -/
def State.replay (n fseq : Nat) (s : State) : State :=
  let k := s.link n
  let r := s.reg .port n 0x808
  let from' := k.retry.dropWhile (fun x => x.fseq != fseq)
  let s1 := ((from'.foldl (fun s x => s.putFlit n x.flit) s).setReg .port n 0x808
    (setBits r 63 32 (min 0xFFFFFFFF (bits r 63 32 + 1)))).sbAdd (0x0300 + n) 1
  if 8 ≤ k.noProg + 1 then
    ((s1.setLink n { k with noProg := 0 }).sendControl n 3 k.ackSeq).retrain n
  else s1.setLink n { k with noProg := k.noProg + 1 }

/-- The bytes received make a whole packet. -/
def State.packetEnd (n : Nat) (bad : Bool) (content : List Byte) (s : State) : State :=
  let hdr := field content 0 8 * 2 ^ 64 + field content 8 8
  let len := bits hdr 93 79
  let k : Pkt := { hdr := hdr, payload := if flitCount len * 246 = content.length then slice content 16 len else [], bad := bad }
  { (s.setLink n { s.link n with rxPart := [], rxOn := false }) with rly.arrived := s.rly.arrived ++ [(n, k)] }

/-- A flit taken in order (R354, R359). -/
def State.flitTaken (n type ack : Nat) (bad : Bool) (content : List Byte) (s : State) : State :=
  let k := s.link n
  if type = 1 then s.setLink n { k with rxPart := content, rxOn := true }
  else if type = 2 then (if k.rxOn then s.setLink n { k with rxPart := k.rxPart ++ content } else s)
  else if type = 3 then (if k.rxOn then s.packetEnd n bad (k.rxPart ++ content) else s)
  else if type = 4 then s.packetEnd n bad content
  else if type = 5 then
    let kind := field content 0 1
    if kind = 2 then s.replay n ack
    else if kind = 3 then (if k.st = lkUp then s.retrain n else if k.st = lkMismatch then s.setLink n { k with st := lkTraining } else s)
    else s
  else s

/-- A flit of a place in its pair of codewords touches a codeword that cannot be corrected: the first codeword's 5,140 bits reach into the third
flit, where the second begins (R352). -/
def cwTouches (pos bad : Nat) : Bool := (decide (pos ≤ 2) && bitOn bad 0) || (decide (2 ≤ pos) && bitOn bad 1)

/-- A flit received (R352 to R355). `codewords` says, with the first flit of a pair, which of the two codewords cannot be corrected. -/
def State.flitIn (n : Nat) (f : List Byte) (codewords : Nat) (s' : State) : State :=
  let k0 := s'.link n
  if !s'.rallyOn n ∨ k0.st = lkDown ∨ k0.st = lkRetraining then s'
  else
    let cwBad := if k0.pos = 0 then codewords % 4 else k0.cwBad
    let k : Link := { k0 with pos := (k0.pos + 1) % 5, cwBad := cwBad }
    let s := s'.setLink n k
    let ctl := field f 0 6
    let fseq := bits ctl 47 36
    let ack := bits ctl 35 24
    let type := bits ctl 23 21
    let cvc := bits ctl 19 17
    let okCrc := crc32 (slice f 0 252) == field f 252 4 && !cwTouches k0.pos cwBad
    let expected := type != 0 && fseq == k.rxFseq
    if !okCrc then (if k.nakSent then s else (s.setLink n { k with nakSent := true }).sendControl n 2 k.rxFseq)
    else if (k.nakSent && !expected) || (type != 0 && !expected) then s
    else
      let isNak := type = 5 ∧ field f 6 1 = 2
      let k1 := k.acked (if isNak then (ack + 4095) % 4096 else ack)
      let k2 := if cvc < 7 then { k1 with credits := k1.credits.addNum cvc (bits ctl 16 8) } else k1
      if type = 0 then (s.setLink n k2).pumpPort n
      else
        let k3 := { k2 with rxFseq := (k2.rxFseq + 1) % 4096, nakSent := false }
        ((s.setLink n k3).flitTaken n type ack (bitOn ctl 20) (slice f 6 246)).pumpPort n

/-! ### A link going down and coming up (R349, R356, R358, R367, R380) -/

/-- The packets of one epoch whose last flit is not acknowledged. -/
def Link.unacked (k : Link) (e : Nat) : Nat := (k.retry.filter (fun r => r.isEnd && r.epoch == e)).length

/-- Some other port that serves the neighbour is up. -/
def State.servedElsewhere (s : State) (n axis coord : Nat) : Bool :=
  (List.range 128).any (fun m => m != n && s.rallyOn m && ((s.link m).st == lkUp || (s.link m).st == lkRetraining) &&
    s.fld .port m 0x800 7 6 == axis && s.fld .port m 0x800 5 2 == coord)

/-- A port's Rally link goes down: unacknowledged packets are discarded, queued ones are routed again, and the last port to a neighbour
sets its fence bit (R356, R369, R380). -/
def State.linkDown (n : Nat) (s : State) : State :=
  let k := s.link n
  if k.st = lkDown then s
  else
    let wasUp := k.st = lkUp ∨ (k.st = lkRetraining ∧ k.resume = lkUp)
    let axis := s.fld .port n 0x800 7 6
    let coord := s.fld .port n 0x800 5 2
    let s1 := ((s.setLink n { peer := k.peer }).dropCount 0 (k.unacked 0)).dropCount 1 (k.unacked 1)
    let s2 : State := { s1 with pnt.outBytes := s1.pnt.outBytes.setNum n 0 }
    let s3 := if wasUp ∧ !s.servedElsewhere n axis coord then
        s2.setReg .fab 0 0x120 (setBit (s2.reg .fab 0 0x120) (16 * axis + coord)) else s2
    (k.txq.flatMap Prod.snd).foldl (fun s p => (s.evtAdd .fab 0 0 1).route p) s3

/-- The lanes are trained: IDENT goes out, or a retrain ends and the link is up again with its buffer and numbers kept (R356, R358). -/
def State.lanesTrained (n : Nat) (s : State) : State :=
  let k := s.link n
  if k.st = lkRetraining then
    (s.setLink n { k with st := k.resume, pos := 0 }).pumpPort n
  else if !s.rallyOn n ∨ !s.serdesOn n ∨ s.fld .port n 0x800 0 0 = 0 ∨ k.st = lkUp then s
  else (s.setLink n { k with st := lkTraining, identOk := false, gotCredits := false, pos := 0 }).sendControl n 1 k.ackSeq

/-- The port is UP once the peer's IDENT has passed and its credits are here (R358). -/
def State.linkReady (n : Nat) (s : State) : State :=
  let k := s.link n
  if k.st = lkTraining ∧ k.identOk ∧ k.gotCredits then (s.setLink n { k with st := lkUp }).pumpPort n else s

/-- The peer's IDENT: its SYSTEM_ID, extents (DX − 1, DY − 1, DZ − 1 in four bits each) and module number (R358, R367). -/
def State.identIn (n sysId extents peer : Nat) (s : State) : State :=
  let k := s.link n
  if k.st ≠ lkTraining ∧ k.st ≠ lkMismatch then s
  else
    let me := s.module
    let axis := s.fld .port n 0x800 7 6
    let differing := (List.range 3).filter (fun a => coordOf peer a != coordOf me a)
    let reason : Option Nat :=
      if sysId ≠ s.reg .fab 0 0x108 then some 0
      else if extents ≠ s.fld .fab 0 0x100 27 16 then some 1
      else if differing ≠ [axis] then some 2
      else if coordOf peer axis ≠ s.fld .port n 0x800 5 2 then some 3
      else none
    match reason with
    | some r =>
      let a := differing.headD axis
      (s.setLink n { k with st := lkMismatch, peer := peer, identOk := false }).fabErr 2 n a (coordOf peer a) r 0
    | none =>
      let grant (lane : Nat) : Nat := 16 * s.fld .fab 0 0x128 (7 * lane + 6) (7 * lane)
      State.linkReady n <| (List.range 7).foldl (fun s lane =>
          ((List.range (ceilDiv (grant lane) 511)).map (fun i => min 511 (grant lane - 511 * i))).foldl (fun s m => s.sendCredits n lane m) s)
        (s.setLink n { k with st := lkTraining, peer := peer, identOk := true })

/-- The peer's credits have arrived (R358). -/
def State.creditsIn (n : Nat) (credits : List Nat) (s : State) : State :=
  let k := s.link n
  if k.st ≠ lkTraining ∧ k.st ≠ lkMismatch then s
  else (s.setLink n { k with gotCredits := true, credits := (List.range 7).foldl (fun m l => m.setNum l (credits.getD l 0)) [] }).linkReady n

end Sys2Proof.Machine
end

