-- ==== Sys2Proof/Machine/JournalOps.lean ====
section
/-! DEFINITION. The input journal: entries, rings, ranges, mirroring and transfers (R461, R462, R580 to R590; 13_determinism_and_audit.md,
17_reset_faults_and_scorebook.md). -/

namespace Sys2Proof.Machine

/-- All ones, where a JSEQ is shown and there is none (R597). -/
def noJseq : Nat := 2 ^ 64 - 1

/-- JNL_CTRL.MODE: 0 OFF, 1 RUN, 2 RESTORE. -/
def State.jnlMode (s : State) : Nat := s.fld .ref 0 0x500 1 0
/-- JNL_CTRL.AUTO_TRIM. -/
def State.autoTrim (s : State) : Bool := s.fld .ref 0 0x500 2 2 == 1
/-- JNL_CTRL.MIRROR_EN. -/
def State.mirrorEn (s : State) : Bool := s.fld .ref 0 0x500 3 3 == 1
/-- JNL_CTRL.MIRROR_RX. -/
def State.mirrorRx (s : State) : Bool := s.fld .ref 0 0x500 4 4 == 1
/-- JNL_CTRL.BUDDY. -/
def State.buddy (s : State) : Nat := s.fld .ref 0 0x500 27 16
/-- JNL_CTRL.CLIENT. -/
def State.client (s : State) : Nat := s.fld .ref 0 0x500 43 32

/-- The unit code of the journal (R316). -/
def unitJnl : Nat := 0x11

/-- A journal error on the Referee page (R595, R596), with the tag of the command that caused it, or 0 (R98). -/
def State.jnlErr (bit i0 i1 peer : Nat) (s : State) (tag : Nat := 0) : State := s.raise .ref 0 bit tag i0 i1 (peer % 4096 * 2 ^ 16)

/-! ### Entries (R461, R581) -/

/-- Units of 64 bytes of an entry with a number of data bytes. -/
def unitsFor (n : Nat) : Nat := max 2 (ceilDiv (128 + n) 64)

/-- The ingress digest of the fields and bytes of an entry (R461). -/
def ingressDigest (stamp port seq frameLen flags : Nat) (data : List Byte) : List Byte :=
  sha3 (leBytes 8 stamp ++ leBytes 2 port ++ leBytes 8 seq ++ leBytes 2 frameLen ++ leBytes 2 data.length ++ leBytes 1 (flags % 2) ++ data)

/-- What an entry says of itself besides its JSEQ and data. -/
structure JHead where
  /-- STAMP. -/
  stamp : Nat
  /-- SEQ. -/
  seq : Nat
  /-- PORT. -/
  port : Nat
  /-- FRAME_LEN. -/
  frameLen : Nat
  /-- FLAGS. -/
  flags : Nat
  /-- SIFTER. -/
  sifter : Nat
  /-- PROGRAM_ID. -/
  progId : Nat
  /-- MARK. -/
  mark : Nat
  /-- REASON. -/
  reason : Nat
  /-- VERDICT. -/
  verdict : Nat
  /-- CLASS. -/
  cls : Nat

/-- The bytes of an entry (R581). -/
def entryBytes (j : Nat) (h : JHead) (data : List Byte) : List Byte :=
  let u := unitsFor data.length
  slice (leBytes 8 j ++ leBytes 8 h.stamp ++ leBytes 8 h.seq ++ leBytes 2 h.port ++ leBytes 2 h.frameLen ++ leBytes 2 data.length ++
    leBytes 1 h.flags ++ leBytes 1 h.sifter ++ leBytes 8 h.progId ++ leBytes 2 h.mark ++ leBytes 2 h.reason ++ leBytes 1 h.verdict ++
    leBytes 1 h.cls ++ leBytes 2 u ++ List.replicate 16 0 ++ ingressDigest h.stamp h.port h.seq h.frameLen h.flags data ++
    List.replicate 32 0 ++ data) 0 (64 * u)

/-- JSEQ of an entry's bytes. -/
def entryJseq (bs : List Byte) : Nat := field bs 0 8
/-- UNITS of an entry's bytes. -/
def entryUnits (bs : List Byte) : Nat := field bs 0x2E 2
/-- COPY_LEN of an entry's bytes. -/
def entryLen (bs : List Byte) : Nat := field bs 0x1C 2

/-- The header is sane and the bytes it counts are there (R587). -/
def entrySane (bs : List Byte) : Bool :=
  entryJseq bs != noJseq && decide (2 ≤ entryUnits bs) && decide (entryUnits bs ≤ 256) &&
  decide (128 + entryLen bs ≤ 64 * entryUnits bs) && decide (64 * entryUnits bs ≤ bs.length)

/-- The recomputed ingress digest equals the entry's (R462). -/
def entryGenuine (bs : List Byte) : Bool :=
  ingressDigest (field bs 0x08 8) (field bs 0x18 2) (field bs 0x10 8) (field bs 0x1A 2) (field bs 0x1E 1) (slice bs 0x80 (entryLen bs))
    == slice bs 0x40 32

/-- An entry is verified (R585, R587). -/
def entryOk (bs : List Byte) : Bool := entrySane bs && entryGenuine bs

/-! ### Rings (R581 to R584) -/

/-- Two spans of a ring meet. -/
def spansTouch (a m b n : Nat) : Bool := decide (a < b + n) && decide (b < a + m)

/-- Where an entry of `len` bytes goes in a ring of `size` bytes whose next place is `w`: at `w`, or, past a pad that fills the tail, after
the control record (R581). -/
def ringAt (size w len : Nat) : Nat := if w + len ≤ size then w else 4096

/-- The spans of the ring the entry takes, its pad among them. -/
def ringSpans (size w len : Nat) : List (Nat × Nat) :=
  if w + len ≤ size then [(w, len)] else [(w, size - w), (4096, len)]

/-- An entry's span in its ring. -/
def JEntry.span (base : Nat) (e : JEntry) : Nat × Nat := (e.addr - base, 64 * e.units)

/-- An entry of a ring lies where the spans go. -/
def JEntry.inSpans (base : Nat) (spans : List (Nat × Nat)) (e : JEntry) : Bool :=
  spans.any (fun p => spansTouch p.1 p.2 (e.span base).1 (e.span base).2)

/-- There is room for an entry of `len` bytes in the local ring. -/
def State.ringRoom (s : State) (len : Nat) : Bool :=
  decide (4096 + len ≤ s.jnl.size) &&
  !s.jnl.entries.any (JEntry.inSpans s.jnl.base (ringSpans s.jnl.size s.jnl.wptr len))

/-- The pad that fills a ring's tail, and the entry after it, written to device memory. A pad's fields other than JSEQ and UNITS are
free values. -/
def State.ringPut (base size w tag : Nat) (bs : List Byte) (s : State) : State :=
  let tail := size - w
  let s1 := if w + bs.length ≤ size ∨ tail < 128 then s
    else (({ s with free := s.free + 112 } : State).devWrite (whoOf unitJnl 0 0 tag) (base + w)
      (leBytes 8 noJseq ++ Config.freeBytes 38 s.free ++ leBytes 2 (tail / 64) ++ Config.freeBytes 80 (s.free + 38))).2
  (s1.devWrite (whoOf unitJnl 0 0 tag) (base + ringAt size w bs.length) bs).2

/-- Entries of the local ring in a span of JSEQs. -/
def State.jnlBetween (s : State) (a b : Nat) : List JEntry := s.jnl.entries.filter (fun e => decide (a ≤ e.jseq) && decide (e.jseq ≤ b))

/-- The last JSEQ held in the local ring. -/
def State.jnlLast (s : State) : Option Nat := s.jnl.entries.getLast?.map JEntry.jseq

/-- The oldest range is released (R583, R584). -/
def State.releaseOldest (s : State) : State :=
  match s.jnl.closed with
  | [] => s
  | r :: rest =>
    let gone := s.jnl.entries.filter (fun e => decide (e.jseq ≤ r.last))
    ({ s with
      jnl.closed := rest
      jnl.entries := s.jnl.entries.filter (fun e => !decide (e.jseq ≤ r.last)) } : State).evtAdd .ref 0 1 gone.length

/-- The open range closes; an empty one closes without a slot (R583). -/
def State.closeRange (s : State) : State :=
  match s.jnl.openFirst, s.jnlLast with
  | some f, some l =>
    let s1 := if 32 ≤ s.jnl.closed.length then s.releaseOldest else s
    { s1 with jnl.closed := s1.jnl.closed ++ [{ first := f, last := l }], jnl.openFirst := none }
  | _, _ => { s with jnl.openFirst := none }

/-- Closed ranges are released, oldest first, until the entry has room (R584). -/
def State.makeRoom (len : Nat) : Nat → State → State
  | 0, s => s
  | n + 1, s => if s.ringRoom len ∨ s.jnl.closed.isEmpty then s else State.makeRoom len n s.releaseOldest

/-- An entry's bytes take their place in the local ring under the next JSEQ; without room the entry is discarded (R583, R584). -/
def State.storeEntry (tag : Nat) (bs : List Byte) (s : State) : State × Bool :=
  let s1 := if s.autoTrim then s.makeRoom bs.length (s.jnl.closed.length + 1) else s
  if !s1.ringRoom bs.length then ((((s1.jnlErr 5 0 0 0 tag)).closeRange).evtAdd .ref 0 1 1, false)
  else
    let j := s1.jnl.next
    let at' := ringAt s1.jnl.size s1.jnl.wptr bs.length
    let s2 := s1.ringPut s1.jnl.base s1.jnl.size s1.jnl.wptr tag bs
    (({ s2 with
      jnl.entries := s2.jnl.entries ++ [{ jseq := j, addr := s2.jnl.base + at', units := bs.length / 64 }]
      jnl.openFirst := some (s2.jnl.openFirst.getD j)
      jnl.next := (j + 1) % 2 ^ 64
      jnl.wptr := at' + bs.length } : State).evtAdd .ref 0 0 1, true)

/-- A new entry of this module: stored, and sent to the buddy as one FWD packet (R580, R581, R585). -/
def State.appendEntry (tag : Nat) (h : JHead) (data : List Byte) (s : State) : State × Bool :=
  let j := s.jnl.next
  let bs := entryBytes j h data
  let (t, ok) := s.storeEntry tag bs
  if ok ∧ t.mirrorEn then (t.inject unitJnl t.buddy 2 0 1 j none bs, true) else (t, ok)

/-- A Sifter's copy enters the journal: in RUN it is appended, in RESTORE it is discarded and counted, in OFF there is no journal (R580,
R589). -/
def State.journalCopy (h : JHead) (data : List Byte) (s : State) : State :=
  if s.jnlMode = 1 then (s.appendEntry 0 h data).1
  else if s.jnlMode = 2 then s.evtAdd .ref 0 1 1
  else s

/-! ### Commands (R588) -/

/-- STATUS JNL_STATE. -/
def stJnlState : Nat := 0x0141
/-- STATUS JNL_RANGE. -/
def stJnlRange : Nat := 0x0142
/-- STATUS JOURNAL_LOST. -/
def stJnlLost : Nat := 0x0108
/-- STATUS JOURNAL_DIGEST. -/
def stJnlDigest : Nat := 0x0109
/-- STATUS JOURNAL_FULL. -/
def stJnlFull : Nat := 0x0105

/-- The entry's bytes as they stand in device memory: STATUS and bytes. -/
def State.readEntry (e : JEntry) (s : State) (tag : Nat := 0) : Nat × List Byte × State :=
  s.devRead (whoOf unitJnl 0 0 tag) e.addr (64 * e.units)

/-- JNL_FIRST. -/
def State.jnlFirst (s : State) : Nat := match s.jnl.entries with | e :: _ => e.jseq | [] => noJseq

/-- A ring's entries: 0 local, 1 mirror. -/
def State.jnlRing (s : State) (ring : Nat) : List JEntry := if ring = 0 then s.jnl.entries else s.jnl.mirror

/-- The entries `first` to `last` of a ring, if every one is held. -/
def State.heldRange (s : State) (ring first last : Nat) : Option (List JEntry) :=
  let es := (s.jnlRing ring).filter (fun e => decide (first ≤ e.jseq) && decide (e.jseq ≤ last))
  if first ≤ last ∧ es.length = last - first + 1 then some es else none

/-- JNL_APPEND (R581, R588). -/
def State.jnlAppendCmd (way : HostWay) : State → State :=
  State.take (fun e => e.opcode == 0x70)
    (fun e => xOk (e.op 0x10 8) && decide (1 ≤ e.op 0x18 2) && decide (e.op 0x18 2 ≤ 16256) && e.zeros 0x1A 0x40)
    (fun s e => s.hostWaits (hostLen (e.op 0x10 8) (e.op 0x18 2))) (fun e s =>
    let x := e.op 0x10 8
    let n := e.op 0x18 2
    if s.jnlMode ≠ 1 then s.finishEntry e stJnlState 0
    else s.viaHost way e (hostLen x n) (xAddr x) (fun s =>
      let (st, bs, t) := s.xRead e.tag x n
      if st ≠ 0 then t.finishEntry e st 0
      else
        let k := t.jnl.hostAppends + 1
        let j := t.jnl.next
        let (u, ok) := ({ t with jnl.hostAppends := k } : State).appendEntry e.tag
          { stamp := t.time.now, seq := k, port := 0xFFFF, frameLen := n, flags := 2, sifter := 0xFF, progId := 0, mark := 0,
            reason := 0, verdict := 0, cls := 0 } bs
        if ok then u.finishEntry e 0 j else u.finishEntry e stJnlFull 0))

/-- JNL_CLOSE (R583, R588). -/
def State.jnlCloseCmd : State → State :=
  State.take (fun e => e.opcode == 0x71) (fun e => e.zeros 0x10 0x40) (fun _ _ => false) (fun e s =>
    let last := if s.jnl.openFirst.isSome then s.jnlLast.getD noJseq else noJseq
    s.closeRange.finishEntry e 0 last)

/-- Entries below a JSEQ are released, and ranges wholly below it go (R584). -/
def State.trimBelow (j : Nat) (s : State) : State :=
  let gone := s.jnl.entries.filter (fun e => decide (e.jseq < j))
  ({ s with
    jnl.entries := s.jnl.entries.filter (fun e => !decide (e.jseq < j))
    jnl.closed := (s.jnl.closed.filter (fun r => decide (j ≤ r.last))).map (fun r => { r with first := max r.first j }) } : State).evtAdd
      .ref 0 1 gone.length

/-- JNL_TRIM (R584, R588): a JSEQ beyond the first of the open range is outside its stated range. -/
def State.jnlTrimCmd : State → State :=
  State.take (fun e => e.opcode == 0x72) (fun e => e.zeros 0x18 0x40) (fun _ _ => false) (fun e s =>
    let j := e.op 0x10 8
    if (s.jnl.openFirst.getD s.jnl.next) < j then s.finishEntry e stFormat 0
    else
      let t := s.trimBelow j
      t.finishEntry e 0 t.jnlFirst)

/-- The entries of a transfer sent as FWD packets; the first that cannot be read ends it with its STATUS. -/
def State.sendEntries (dst tag : Nat) : List JEntry → State → Nat × State
  | [], s => (0, s)
  | e :: es, s =>
    match s.readEntry e tag with
    | (0, bs, t) => State.sendEntries dst tag es (t.inject unitJnl dst 2 0 2 e.jseq none bs)
    | (st, _, t) => (st, t)

/-- JNL_SEND (R588). -/
def State.jnlSendCmd : State → State :=
  State.take (fun e => e.opcode == 0x73)
    (fun e => decide (e.op 0x20 2 < 4096) && decide (e.op 0x22 1 ≤ 1) && e.zeros 0x23 0x40) (fun _ _ => false) (fun e s =>
    let first := e.op 0x10 8
    let last := e.op 0x18 8
    if s.jnl.transfer.isSome then s.finishEntry e stJnlState 0
    else match s.heldRange (e.op 0x22 1) first last with
    | none => s.finishEntry e stJnlRange 0
    | some es =>
      let dst := e.op 0x20 2
      let s1 : State := { s with
        hif.opened := s.hif.opened ++ [e.toOpen]
        jnl.transfer := some { recv := false, seq := e.seq, first := first, last := last, peer := dst } }
      let (st, t) := s1.sendEntries dst e.tag es
      if st = 0 then t else ({ t with jnl.transfer := none } : State).finishOpen e.toOpen st noJseq 0 0)

/-- JNL_RECV (R588). -/
def State.jnlRecvCmd : State → State :=
  State.take (fun e => e.opcode == 0x74) (fun e => decide (e.op 0x20 2 < 4096) && e.zeros 0x22 0x40) (fun _ _ => false) (fun e s =>
    let first := e.op 0x10 8
    let last := e.op 0x18 8
    if s.jnlMode ≠ 2 ∨ s.jnl.transfer.isSome then s.finishEntry e stJnlState 0
    else if last < first ∨ (!s.jnl.entries.isEmpty ∧ first ≠ s.jnl.next) then s.finishEntry e stJnlRange 0
    else { s with
      hif.opened := s.hif.opened ++ [e.toOpen]
      jnl.transfer := some { recv := true, seq := e.seq, first := first, last := last, peer := e.op 0x20 2 } })

/-- The entries' bytes, back to back; the first that cannot be read ends it with its STATUS. -/
def State.exportBytes (tag : Nat) : List JEntry → State → Nat × List Byte × State
  | [], s => (0, [], s)
  | e :: es, s =>
    match s.readEntry e tag with
    | (0, bs, t) => let (st, rest, u) := State.exportBytes tag es t; (st, bs ++ rest, u)
    | (st, _, t) => (st, [], t)

/-- Bytes of a list of entries. -/
def bytesOf (es : List JEntry) : Nat := (es.map (fun j => 64 * j.units)).sum

/-- JNL_EXPORT (R588). -/
def State.jnlExportCmd (way : HostWay) : State → State :=
  State.take (fun e => e.opcode == 0x75)
    (fun e => decide (e.op 0x20 1 ≤ 1) && e.zeros 0x21 0x28 && xOk (e.op 0x28 8) && e.zeros 0x38 0x40)
    (fun s e => s.hostWaits (hostLen (e.op 0x28 8) (bytesOf ((s.heldRange (e.op 0x20 1) (e.op 0x10 8) (e.op 0x18 8)).getD []))))
    (fun e s =>
    let x := e.op 0x28 8
    match s.heldRange (e.op 0x20 1) (e.op 0x10 8) (e.op 0x18 8) with
    | none => s.finishEntry e stJnlRange 0
    | some es =>
      let n := bytesOf es
      if e.op 0x30 8 < n then s.finishEntry e stJnlRange 0
      else
        let (st, bs, t) := s.exportBytes e.tag es
        if st ≠ 0 then t.finishEntry e st 0
        else t.viaHost way e (hostLen x n) (xAddr x) (fun t =>
          let (st2, u) := t.xWrite e.tag x bs
          u.finishEntry e st2 (if st2 = 0 then n else 0)))

/-- A verified entry of another module takes its place in the local ring with its own JSEQ (R588, R589). -/
def State.restoreEntry (tag : Nat) (bs : List Byte) (s : State) : State × Bool :=
  let j := entryJseq bs
  let s1 : State := if s.jnl.entries.isEmpty then { s with jnl.next := j } else s
  if j ≠ s1.jnl.next then (s1, false) else s1.storeEntry tag (bs.take (64 * entryUnits bs))

/-- Entries taken in from their bytes, up to the first that is not verified: STATUS, the last JSEQ verified, and the state. -/
def State.importEntries (tag : Nat) : Nat → List Byte → Nat → State → Nat × Nat × State
  | 0, _, last, s => (0, last, s)
  | n + 1, bs, last, s =>
    if bs.isEmpty then (0, last, s)
    else if !entryOk bs then (stJnlDigest, last, s.jnlErr 9 (entryJseq bs) 0 0 tag)
    else
      match s.restoreEntry tag bs with
      | (t, true) => State.importEntries tag n (bs.drop (64 * entryUnits bs)) (entryJseq bs) t
      | (t, false) => (stJnlDigest, last, t.jnlErr 9 (entryJseq bs) 0 0 tag)

/-- JNL_IMPORT (R588). -/
def State.jnlImportCmd (way : HostWay) : State → State :=
  State.take (fun e => e.opcode == 0x76) (fun e => xOk (e.op 0x10 8) && e.zeros 0x20 0x40)
    (fun s e => s.hostWaits (hostLen (e.op 0x10 8) (e.op 0x18 8))) (fun e s =>
    let x := e.op 0x10 8
    let n := e.op 0x18 8
    if s.jnlMode ≠ 2 ∨ s.jnl.transfer.isSome then s.finishEntry e stJnlState 0
    else s.viaHost way e (hostLen x n) (xAddr x) (fun s =>
      let (st, bs, t) := s.xRead e.tag x n
      if st ≠ 0 then t.finishEntry e st 0
      else if !t.jnl.entries.isEmpty ∧ entryJseq bs ≠ t.jnl.next then t.finishEntry e stJnlRange 0
      else
        let (st2, last, u) := t.importEntries e.tag (n / 128 + 1) bs noJseq
        (if st2 = 0 then u else u.closeRange).finishEntry e st2 last))

/-! ### Mirroring and transfers (R585, R586, R588, R589) -/

/-- The transfer under way ends. -/
def State.endTransfer (t : Transfer) (status : Nat) (s : State) : State :=
  let s1 : State := { s with jnl.transfer := none }
  let s2 := if status = stJnlLost then
      let u := s1.jnlErr 8 (t.reached.getD noJseq) 0 t.peer (((s1.openCmd t.seq).map OpenCmd.tag).getD 0)
      if t.recv then u.closeRange else u
    else s1
  match s2.openCmd t.seq with
  | some c => s2.finishOpen c status (t.reached.getD noJseq) 0 0
  | none => s2

/-- A gap in the mirror, from its first to its last JSEQ (R586). -/
def State.mirrorGap (first last : Nat) (s : State) : State :=
  ({ s with jnl.mgap := some (first, last) } : State).jnlErr 6 first last s.client

/-- An entry of CLIENT's takes its place in the mirror ring, over its oldest entries (R585). -/
def State.mirrorStore (bs : List Byte) (s : State) : State :=
  let len := 64 * entryUnits bs
  let j := entryJseq bs
  if s.jnl.msize < 4096 + len then s
  else
    let spans := ringSpans s.jnl.msize s.jnl.mwptr len
    let at' := ringAt s.jnl.msize s.jnl.mwptr len
    let s1 := s.ringPut s.jnl.mbase s.jnl.msize s.jnl.mwptr 0 (bs.take len)
    let s2 := match s1.jnl.mexp with
      | some x => if x < j then s1.mirrorGap x (j - 1) else s1
      | none => s1
    ({ s2 with
      jnl.mirror := s2.jnl.mirror.filter (fun e => !e.inSpans s2.jnl.mbase spans) ++
        [{ jseq := j, addr := s2.jnl.mbase + at', units := entryUnits bs }]
      jnl.mwptr := at' + len
      jnl.mexp := some (j + 1), jnl.mnew := true } : State).evtAdd .ref 0 2 1

/-- A FWD packet delivered to the journal is taken: a mirror entry, an entry of a transfer, or neither (R585, R588). -/
def State.takeFwd (s : State) : State :=
  match s.rly.fwd with
  | [] => s
  | k :: rest =>
    let t := ({ s with rly.fwd := rest } : State).freePkt k
    let bs := k.payload
    if k.opc = 1 ∧ t.mirrorRx ∧ k.src = t.client then
      if entryOk bs then t.mirrorStore bs
      else
        let u := t.jnlErr 9 (entryJseq bs) 0 k.src
        let first := u.jnl.mexp.getD (entryJseq bs)
        if first ≤ entryJseq bs then ({ u with jnl.mexp := some (entryJseq bs + 1) } : State).mirrorGap first (entryJseq bs) else u
    else match t.jnl.transfer with
    | some tr =>
      if k.opc = 2 ∧ tr.recv ∧ k.src = tr.peer then
        let tag := ((t.openCmd tr.seq).map OpenCmd.tag).getD 0
        if !entryOk bs then t.jnlErr 9 (entryJseq bs) 0 k.src tag
        else match t.restoreEntry tag bs with
        | (u, false) => u
        | (u, true) =>
          let tr2 : Transfer := { tr with reached := some (entryJseq bs), news := true }
          let u2 : State := { u with jnl.transfer := some tr2 }
          if entryJseq bs = tr.last then
            (u2.inject unitJnl tr.peer 4 0 0x20 0 none (leBytes 8 tr.last ++ leBytes 8 noJseq ++ leBytes 8 noJseq)).endTransfer tr2 0
          else u2
      else t.evtAdd .ref 0 3 1
    | none => t.evtAdd .ref 0 3 1

/-- The acknowledgements due are sent: to CLIENT while its mirror advances, and to the sender of a transfer (R586, R588). -/
def State.sendAcks (s : State) : State :=
  let pair (g : Option (Nat × Nat)) : List Byte := match g with
    | some p => leBytes 8 p.1 ++ leBytes 8 p.2
    | none => leBytes 8 noJseq ++ leBytes 8 noJseq
  let s1 := if s.mirrorRx ∧ s.jnl.mnew then
      ({ s with jnl.mnew := false } : State).inject unitJnl s.client 4 0 0x20 0 none
        (leBytes 8 ((s.jnl.mirror.getLast?.map JEntry.jseq).getD noJseq) ++ pair s.jnl.mgap)
    else s
  match s1.jnl.transfer with
  | some t =>
    if t.recv ∧ t.news then
      ({ s1 with jnl.transfer := some { t with news := false } } : State).inject unitJnl t.peer 4 0 0x20 0 none
        (leBytes 8 (t.reached.getD noJseq) ++ pair none)
    else s1
  | none => s1

/-- An acknowledgement packet acts: on a JNL_SEND to its sender, or on the buddy's mirror (R586, R588). -/
def State.ackIn (k : Pkt) (s : State) : State :=
  let v := field k.payload 0 8
  let g0 := field k.payload 8 8
  let g1 := field k.payload 16 8
  let mirror (s : State) : State :=
    if k.src ≠ s.buddy ∨ !s.mirrorEn then s
    else
      let s1 : State := { s with jnl.acked := if v = noJseq then none else some v }
      if g0 = noJseq ∨ s.jnl.gap = some (g0, g1) then s1
      else ({ s1 with jnl.gap := some (g0, g1) } : State).jnlErr 6 g0 g1 k.src
  match s.jnl.transfer with
  | some t =>
    if !t.recv ∧ t.peer = k.src ∧ v ≠ noJseq then
      let t2 : Transfer := { t with reached := some v }
      let s1 : State := { s with jnl.transfer := some t2 }
      if v = t.last then s1.endTransfer t2 0 else s1
    else mirror s
  | none => mirror s

/-- The Referee takes acknowledgements from its receive area, up to the first; other MGT packets have no operation the spec names (R360,
R586). -/
def State.takeAck : Nat → State → State
  | 0, s => s
  | n + 1, s =>
    match s.rly.mgt with
    | [] => s
    | k :: rest =>
      let t : State := { s with rly.mgt := rest }
      if k.opc = 0x20 ∧ k.payload.length = 24 then t.ackIn k else State.takeAck n t

/-- Entries stand above the last acknowledged (R586). -/
def State.unmirrored (s : State) : Bool :=
  s.mirrorEn && match s.jnlLast with
    | some l => (match s.jnl.acked with | some a => decide (a < l) | none => true)
    | none => false

/-- The commit point moves to the last entry wholly visible: every entry is stored in one step (R582). -/
def State.commitTick (s : State) : State :=
  match s.jnlLast with | some l => { s with jnl.commit := some l } | none => s

/-- A transfer whose peer is a neighbour with its RL_FENCE bit set ends (R589). -/
def State.fencedTransfer (s : State) : State :=
  match s.jnl.transfer with
  | none => s
  | some t =>
    let axes := (List.range 3).filter (fun a => coordOf t.peer a != coordOf s.module a)
    match axes with
    | [a] => if s.neighbourFenced a (coordOf t.peer a) then s.endTransfer t stJnlLost else s
    | _ => s

/-! ### JNL_CTRL and start-up (R583, R587, R597) -/

/-- The local ring is emptied (R597). -/
def State.emptyRing (s : State) : State := { s with jnl.entries := [], jnl.closed := [], jnl.openFirst := none }

/-- A ring register's base and size in bytes. -/
def ringLayout (v : Nat) : Nat × Nat := (v / 2 ^ 30 * 2 ^ 30, v % 256 * 2 ^ 30)

/-- MODE leaves one value for another (R583, R597). -/
def State.jnlModeChange (was now' : Nat) (s : State) : State :=
  let s1 := if was = 1 ∧ now' ≠ 1 then s.closeRange else s
  let s2 := if was = 0 ∧ now' ≠ 0 then
      let (b, n) := ringLayout (s1.reg .ref 0 0x508)
      { s1 with jnl.base := b, jnl.size := n, jnl.wptr := if s1.jnl.entries.isEmpty then 4096 else s1.jnl.wptr }
    else s1
  if now' = 0 ∧ was ≠ 0 then s2.emptyRing else s2

/-- MIRROR_RX goes from 0 to 1 (R597). -/
def State.mirrorOn (s : State) : State :=
  let (b, n) := ringLayout (s.reg .ref 0 0x510)
  { s with jnl.mbase := b, jnl.msize := n, jnl.mirror := [], jnl.mwptr := 4096, jnl.mexp := none }

/-- How many of the entries, in order, are verified: those up to the commit point are, and above it each is read again (R587). -/
def State.verifiedEntries (s : State) (commit : Option Nat) : List JEntry → List JEntry × State
  | [] => ([], s)
  | e :: es =>
    let below := match commit with | some c => decide (e.jseq ≤ c) | none => false
    let (st, bs, t) := if below then (0, [], s) else s.readEntry e
    if below || (st == 0 && entryOk bs && entryJseq bs == e.jseq) then
      let (r, u) := t.verifiedEntries commit es
      (e :: r, u)
    else ([], t)

/-- The local ring is recovered at start-up (R587): the control record is read, entries above the commit point are verified, and the open
range closes at the last valid one. -/
def State.recoverLocal (s : State) : State :=
  let (st, _, s0) := s.devRead (whoOf unitJnl) s.jnl.base 4096
  if st ≠ 0 then (s0.emptyRing).jnlErr 8 noJseq 0 0
  else
    let (good, t) := s0.verifiedEntries s.jnl.commit s.jnl.entries
    let last := good.getLast?.map JEntry.jseq
    let t1 : State := { t with
      jnl.entries := good
      jnl.next := match last with | some l => (l + 1) % 2 ^ 64 | none => t.jnl.next
      jnl.wptr := match good.getLast? with | some e => e.addr - t.jnl.base + 64 * e.units | none => 4096 }
    t1.closeRange

/-- The mirror ring is recovered at start-up (R587). -/
def State.recoverMirror (s : State) : State :=
  let (st, _, s0) := s.devRead (whoOf unitJnl) s.jnl.mbase 4096
  if st ≠ 0 then ({ s0 with jnl.mirror := [] } : State).jnlErr 8 noJseq 0 0
  else
    let (good, t) := s0.verifiedEntries none s.jnl.mirror
    { t with
      jnl.mirror := good
      jnl.mexp := good.getLast?.map (fun e => e.jseq + 1)
      jnl.mwptr := match good.getLast? with | some e => e.addr - t.jnl.mbase + 64 * e.units | none => 4096 }

end Sys2Proof.Machine
end

