-- ==== Sys2Proof/Machine/Signatures.lean ====
section
/-! DEFINITION. The two signature schemes the manual names without repeating their text: Ed25519 (RFC 8032, PureEdDSA) and ML-DSA-65
(FIPS 204, pure form, empty context) (R474, R482; 13_determinism_and_audit.md, 14_security_and_attestation.md). -/

namespace Sys2Proof.Machine

/-! ### Ed25519 -/

/-- A power modulo `m`; the exponent has at most `bits` bits. -/
def powMod (m b e bits : Nat) : Nat :=
  (List.range bits).reverse.foldl (fun acc i => acc * acc % m * (if e.testBit i then b else 1) % m) (1 % m)

/-- The field's prime. -/
def edP : Nat := 2 ^ 255 - 19
/-- The order of the base point. -/
def edL : Nat := 2 ^ 252 + 27742317777372353535851937790883648493
/-- The curve constant d. -/
def edD : Nat := 37095705934669439343138083508754565189542113879843219016388785533085940283555

/-- A difference in the field. -/
def edSub (a b : Nat) : Nat := (a + (edP - b)) % edP

/-- A point of the curve: projective X, Y, Z, and T with X Y = Z T. -/
structure EdPoint where
  /-- X. -/
  x : Nat
  /-- Y. -/
  y : Nat
  /-- Z. -/
  z : Nat
  /-- T. -/
  t : Nat
deriving DecidableEq, Repr

/-- The neutral point. -/
def EdPoint.zero : EdPoint := { x := 0, y := 1, z := 1, t := 0 }

/-- The sum of two points. -/
def EdPoint.add (p q : EdPoint) : EdPoint :=
  let a := edSub p.y p.x * edSub q.y q.x % edP
  let b := (p.y + p.x) * (q.y + q.x) % edP
  let c := 2 * p.t * q.t % edP * edD % edP
  let d := 2 * p.z * q.z % edP
  let e := edSub b a
  let f := edSub d c
  let g := (d + c) % edP
  let h := (b + a) % edP
  { x := e * f % edP, y := g * h % edP, z := f * g % edP, t := e * h % edP }

/-- `n` times a point, for `n` of at most 512 bits. -/
def EdPoint.times (n : Nat) (p : EdPoint) : EdPoint :=
  (List.range (n.log2 + 1)).reverse.foldl (fun acc i => let d := acc.add acc; if n.testBit i then d.add p else d) EdPoint.zero

/-- Two points are the same. -/
def EdPoint.same (p q : EdPoint) : Bool :=
  (p.x * q.z) % edP == (q.x * p.z) % edP && (p.y * q.z) % edP == (q.y * p.z) % edP

/-- A point's 32 bytes. -/
def EdPoint.bytes (p : EdPoint) : List Byte :=
  let zi := powMod edP p.z (edP - 2) 255
  leBytes 32 (p.y * zi % edP + (p.x * zi % edP) % 2 * 2 ^ 255)

/-- The point that 32 bytes stand for, where they stand for one. -/
def edPointOf (bs : List Byte) : Option EdPoint :=
  let n := leNat bs
  let y := n % 2 ^ 255
  let sign := n / 2 ^ 255
  let u := edSub (y * y % edP) 1
  let v := (edD * (y * y % edP) + 1) % edP
  let r := u * powMod edP v 3 2 % edP * powMod edP (u * powMod edP v 7 3 % edP) ((edP - 5) / 8) 252 % edP
  let x := if v * (r * r % edP) % edP = u then r else r * powMod edP 2 ((edP - 1) / 4) 253 % edP
  if bs.length ≠ 32 ∨ edP ≤ y ∨ v * (x * x % edP) % edP ≠ u ∨ (x = 0 ∧ sign = 1) then none
  else
    let x1 := if x % 2 = sign then x else edP - x
    some { x := x1, y := y, z := 1, t := x1 * y % edP }

/-- The base point. -/
def edBase : EdPoint :=
  (edPointOf (leBytes 32 0x6666666666666666666666666666666666666666666666666666666666666658)).getD EdPoint.zero

/-- The scalar of a private key and the prefix that its signatures hash. -/
def edExpand (seed : List Byte) : Nat × List Byte :=
  let h := sha512 seed
  (leNat (slice h 0 32) % 2 ^ 254 / 8 * 8 + 2 ^ 254, slice h 32 32)

/-- The public key of a 32-byte private key. -/
def edPublic (seed : List Byte) : List Byte := (EdPoint.times (edExpand seed).1 edBase).bytes

/-- The signature of a message. -/
def edSign (seed msg : List Byte) : List Byte :=
  let (a, pre) := edExpand seed
  let r := leNat (sha512 (pre ++ msg)) % edL
  let rb := (EdPoint.times r edBase).bytes
  let k := leNat (sha512 (rb ++ edPublic seed ++ msg)) % edL
  rb ++ leBytes 32 ((r + k * a) % edL)

/-- A signature verifies. -/
def edVerify (pk msg sig : List Byte) : Bool :=
  let s := leNat (slice sig 32 32)
  match edPointOf pk, edPointOf (slice sig 0 32) with
  | some a, some r =>
    let k := leNat (sha512 (slice sig 0 32 ++ pk ++ msg)) % edL
    sig.length == 64 && decide (s < edL) &&
      (EdPoint.times (8 * s) edBase).same ((EdPoint.times 8 r).add (EdPoint.times (8 * k) a))
  | _, _ => false

/-! ### ML-DSA-65 -/

/-- The modulus. -/
def mlQ : Nat := 8380417
/-- Bits dropped from t. -/
def mlD : Nat := 13
/-- Coefficients of ±1 in the challenge. -/
def mlTau : Nat := 49
/-- The range of y. -/
def mlGamma1 : Nat := 2 ^ 19
/-- The low-order rounding range. -/
def mlGamma2 : Nat := (mlQ - 1) / 32
/-- The bound on secret coefficients. -/
def mlEta : Nat := 4
/-- Bytes of the challenge's hash. -/
def mlCt : Nat := 48
/-- Rows of A. -/
def mlK : Nat := 6
/-- Columns of A. -/
def mlL : Nat := 5
/-- The largest number of hints. -/
def mlOmega : Nat := 55
/-- The bound τ η. -/
def mlBeta : Nat := mlTau * mlEta

/-- A polynomial of 256 coefficients modulo q, the lowest power first. -/
abbrev Poly := List Nat

/-- A sum of polynomials. -/
def polyAdd (a b : Poly) : Poly := List.zipWith (fun x y => (x + y) % mlQ) a b
/-- A difference of polynomials. -/
def polySub (a b : Poly) : Poly := List.zipWith (fun x y => (x + (mlQ - y)) % mlQ) a b
/-- A product of transforms. -/
def polyMul (a b : Poly) : Poly := List.zipWith (fun x y => x * y % mlQ) a b
/-- A polynomial by a scalar. -/
def polyScale (c : Nat) (a : Poly) : Poly := a.map (fun x => c * x % mlQ)
/-- The zero polynomial. -/
def polyZero : Poly := List.replicate 256 0

/-- An 8-bit number with its bits in the other order. -/
def bitRev8 (n : Nat) : Nat := (List.range 8).foldl (fun r i => r * 2 + n / 2 ^ i % 2) 0

/-- The root that splits node `k` of the transform's tree. -/
def mlZeta (k : Nat) : Nat := powMod mlQ 1753 (bitRev8 k) 8

/-- The transform below node `k`, `fuel` levels deep: each half is the remainder by one factor of the node's polynomial. -/
def nttFrom : Nat → Nat → Poly → Poly
  | 0, _, a => a
  | f + 1, k, a =>
    let h := a.length / 2
    let lo := a.take h
    let hi := polyScale (mlZeta k) (a.drop h)
    nttFrom f (2 * k) (polyAdd lo hi) ++ nttFrom f (2 * k + 1) (polySub lo hi)

/-- The inverse below node `k`, but for the factor 1/2 of each level. -/
def unttFrom : Nat → Nat → Poly → Poly
  | 0, _, a => a
  | f + 1, k, a =>
    let h := a.length / 2
    let u := unttFrom f (2 * k) (a.take h)
    let v := unttFrom f (2 * k + 1) (a.drop h)
    polyAdd u v ++ polyScale (powMod mlQ (mlZeta k) (mlQ - 2) 23) (polySub u v)

/-- The transform. -/
def ntt (a : Poly) : Poly := nttFrom 8 1 a
/-- Its inverse. -/
def untt (a : Poly) : Poly := polyScale (powMod mlQ 256 (mlQ - 2) 23) (unttFrom 8 1 a)

/-- A coefficient's distance from 0, modulo q. -/
def mlAbs (x : Nat) : Nat := min x (mlQ - x)

/-- Every coefficient of a vector lies closer to 0 than a bound. -/
def mlBelow (n : Nat) (v : List Poly) : Bool := v.all (fun p => p.all (fun x => decide (mlAbs x < n)))

/-! #### Packing -/

/-- Numbers of `w` bits one after another. -/
def packBits (w : Nat) (xs : List Nat) : List Byte :=
  leBytes (xs.length * w / 8) (xs.foldr (fun x acc => acc * 2 ^ w + x) 0)

/-- The 256 numbers of `w` bits in a byte string. -/
def unpackBits (w : Nat) (bs : List Byte) : List Nat :=
  (chunksOf w bs).flatMap (fun c => let n := leNat c; (List.range 8).map (fun i => n / 2 ^ (w * i) % 2 ^ w))

/-- Coefficients of z and y: γ1 less the coefficient, in 20 bits. -/
def packZ (a : Poly) : List Byte := packBits 20 (a.map (fun x => (mlGamma1 + (mlQ - x)) % mlQ))
/-- The coefficients that `packZ` packed. -/
def unpackZ (bs : List Byte) : Poly := (unpackBits 20 bs).map (fun x => (mlGamma1 + (mlQ - x)) % mlQ)

/-! #### Rounding -/

/-- The high and the low part of a coefficient, the low part modulo q. -/
def mlDecompose (r : Nat) : Nat × Nat :=
  let g := 2 * mlGamma2
  let lo := r % g
  let low := if mlGamma2 < lo then mlQ - (g - lo) else lo
  if (r + (mlQ - low)) % mlQ = mlQ - 1 then (0, (low + (mlQ - 1)) % mlQ) else ((r + (mlQ - low)) % mlQ / g, low)

/-- The high part. -/
def mlHigh (r : Nat) : Nat := (mlDecompose r).1
/-- The low part. -/
def mlLow (r : Nat) : Nat := (mlDecompose r).2

/-- The high part that a hint corrects. -/
def mlUseHint (h r : Nat) : Nat :=
  let (r1, r0) := mlDecompose r
  if h = 0 then r1 else if 0 < r0 ∧ r0 ≤ mlGamma2 then (r1 + 1) % 16 else (r1 + 15) % 16

/-- t in its high part and its low one, modulo q. -/
def mlPower2Round (r : Nat) : Nat × Nat :=
  let lo := r % 2 ^ mlD
  let low := if 2 ^ (mlD - 1) < lo then (lo + (mlQ - 2 ^ mlD)) % mlQ else lo
  ((r + (mlQ - low)) % mlQ / 2 ^ mlD, low)

/-! #### Sampling

The standard draws from its extendable-output functions until it has enough; here the number of bytes drawn is bounded, far above what a
draw can need but with negligible probability. -/

/-- A polynomial of A, in the transform's domain. -/
def mlRejNtt (seed : List Byte) : Poly :=
  (((chunksOf 3 (shake128 seed 1344)).map (fun c => leNat c % 2 ^ 23)).filter (fun z => decide (z < mlQ))).take 256

/-- A secret polynomial. -/
def mlRejBounded (seed : List Byte) : Poly :=
  ((((shake256 seed 680).flatMap (fun b => [b.toNat % 16, b.toNat / 16])).filter (fun z => decide (z < 9))).map
    (fun z => (mlEta + (mlQ - z)) % mlQ)).take 256

/-- A by rows. -/
def mlExpandA (rho : List Byte) : List (List Poly) :=
  (List.range mlK).map (fun r => (List.range mlL).map (fun s => mlRejNtt (rho ++ leBytes 1 s ++ leBytes 1 r)))

/-- y. -/
def mlExpandMask (seed : List Byte) (mu : Nat) : List Poly :=
  (List.range mlL).map (fun r => unpackZ (shake256 (seed ++ leBytes 2 (mu + r)) 640))

/-- One ±1 of the challenge put at the place that a byte names, if the byte is one of those counted; with it how many there are. -/
def mlBallStep (signs : Nat) (a : Poly × Nat) (b : Byte) : Poly × Nat :=
  let i := 256 - mlTau + a.2
  let j := b.toNat
  if mlTau ≤ a.2 ∨ i < j then a
  else ((a.1.set i (a.1.getD j 0)).set j (if signs.testBit a.2 then mlQ - 1 else 1), a.2 + 1)

/-- The challenge that bytes stand for: the first eight hold the signs, and the others name the places of the ±1 in turn. -/
def mlBallOf (bs : List Byte) : Poly := ((bs.drop 8).foldl (mlBallStep (leNat (bs.take 8))) (polyZero, 0)).1

/-- The challenge of a hash. -/
def mlBall (ct : List Byte) : Poly := mlBallOf (shake256 ct 544)

/-! #### Keys, signatures -/

/-- A vector of transforms by the matrix A. -/
def mlApply (a : List (List Poly)) (v : List Poly) : List Poly :=
  a.map (fun row => (List.zipWith polyMul row v).foldl polyAdd polyZero)

/-- A private key: ρ, K, tr, s1, s2, t0. -/
structure MlKey where
  /-- ρ. -/
  rho : List Byte
  /-- K. -/
  k : List Byte
  /-- tr. -/
  tr : List Byte
  /-- s1. -/
  s1 : List Poly
  /-- s2. -/
  s2 : List Poly
  /-- t0. -/
  t0 : List Poly
  /-- The public key. -/
  pk : List Byte
deriving DecidableEq, Repr

/-- The key pair of a 32-byte seed. -/
def mlKeyGen (xi : List Byte) : MlKey :=
  let h := shake256 (xi ++ leBytes 1 mlK ++ leBytes 1 mlL) 128
  let rho := slice h 0 32
  let prime := slice h 32 64
  let s1 := (List.range mlL).map (fun r => mlRejBounded (prime ++ leBytes 2 r))
  let s2 := (List.range mlK).map (fun r => mlRejBounded (prime ++ leBytes 2 (mlL + r)))
  let t := List.zipWith polyAdd ((mlApply (mlExpandA rho) (s1.map ntt)).map untt) s2
  let pk := rho ++ t.flatMap (fun p => packBits 10 (p.map (fun x => (mlPower2Round x).1)))
  { rho, k := slice h 96 32, tr := shake256 pk 64, s1, s2, t0 := t.map (fun p => p.map (fun x => (mlPower2Round x).2)), pk }

/-- The public key of a seed. -/
def mlPublic (xi : List Byte) : List Byte := (mlKeyGen xi).pk

/-- The hash that stands for a message, of the pure form with an empty context. -/
def mlMu (tr msg : List Byte) : List Byte := shake256 (tr ++ [0, 0] ++ msg) 64

/-- The hints of a signature: the places of each polynomial, then how many there are up to each. -/
def packHints (h : List (List Nat)) : List Byte :=
  let places := h.map (fun p => (List.range 256).filter (fun i => p.getD i 0 != 0))
  slice (places.flatten.map (BitVec.ofNat 8) ++ List.replicate mlOmega 0) 0 mlOmega ++
    (List.range mlK).map (fun i => BitVec.ofNat 8 ((places.take (i + 1)).flatten.length))

/-- The hints that 61 bytes stand for, where they stand for some. -/
def unpackHints (bs : List Byte) : Option (List (List Nat)) :=
  let ends := (bs.drop mlOmega).map BitVec.toNat
  let starts := 0 :: ends
  let places := (List.range mlK).map (fun i => ((bs.take (ends.getD i 0)).drop (starts.getD i 0)).map BitVec.toNat)
  let total := ends.getD (mlK - 1) 0
  if ((List.range mlK).all (fun i => decide (starts.getD i 0 ≤ ends.getD i 0 ∧ ends.getD i 0 ≤ mlOmega))) &&
     places.all (fun p => (p.zip (p.drop 1)).all (fun c => decide (c.1 < c.2))) &&
     ((bs.take mlOmega).drop total).all (fun b => b == 0) then
    some (places.map (fun p => (List.range 256).map (fun i => if p.contains i then 1 else 0)))
  else none

/-- The challenge's hash for a w1. -/
def mlChallenge (mu : List Byte) (w1 : List Poly) : List Byte := shake256 (mu ++ w1.flatMap (packBits 4)) mlCt

/-- Attempts at a signature from the mask counter on; the first argument bounds their number. -/
def mlAttempt (key : MlKey) (a : List (List Poly)) (s1 s2 t0 : List Poly) (mu seed : List Byte) : Nat → Nat → List Byte
  | 0, _ => []
  | f + 1, kappa =>
    let y := mlExpandMask seed kappa
    let w := (mlApply a (y.map ntt)).map untt
    let ct := mlChallenge mu (w.map (fun p => p.map mlHigh))
    let c := ntt (mlBall ct)
    let by_ (v : List Poly) : List Poly := v.map (fun p => untt (polyMul c p))
    let z := List.zipWith polyAdd y (by_ s1)
    let r := List.zipWith polySub w (by_ s2)
    let ct0 := by_ t0
    let hints := List.zipWith (fun p q => List.zipWith (fun x d => if mlHigh x = mlHigh ((x + d) % mlQ) then 0 else 1) p q) r ct0
    -- the hint says whether adding −ct0 to w − cs2 + ct0 changes its high part
    if !mlBelow (mlGamma1 - mlBeta) z || !mlBelow (mlGamma2 - mlBeta) (r.map (fun p => p.map mlLow)) || !mlBelow mlGamma2 ct0 ||
       decide (mlOmega < (hints.map List.sum).sum) then
      mlAttempt key a s1 s2 t0 mu seed f (kappa + mlL)
    else ct ++ z.flatMap packZ ++ packHints hints

/-- The signature of a message hedged by 32 random bytes. -/
def mlSign (xi msg rnd : List Byte) : List Byte :=
  let key := mlKeyGen xi
  let mu := mlMu key.tr msg
  let seed := shake256 (key.k ++ rnd ++ mu) 64
  mlAttempt key (mlExpandA key.rho) (key.s1.map ntt) (key.s2.map ntt) (key.t0.map ntt) mu seed 814 0

/-- A signature verifies. -/
def mlVerify (pk msg sig : List Byte) : Bool :=
  let ct := slice sig 0 mlCt
  let z := (List.range mlL).map (fun i => unpackZ (slice sig (mlCt + 640 * i) 640))
  let t1 := (List.range mlK).map (fun i => unpackBits 10 (slice pk (32 + 320 * i) 320))
  match unpackHints (sig.drop (mlCt + 640 * mlL)) with
  | none => false
  | some h =>
    let c := ntt (mlBall ct)
    let w := List.zipWith (fun az t => untt (polySub az (polyMul c (ntt (polyScale (2 ^ mlD) t)))))
      (mlApply (mlExpandA (pk.take 32)) (z.map ntt)) t1
    let w1 := List.zipWith (fun hs p => List.zipWith mlUseHint hs p) h w
    sig.length == 3309 && pk.length == 1952 && mlBelow (mlGamma1 - mlBeta) z &&
      mlChallenge (mlMu (shake256 pk 64) msg) w1 == ct

end Sys2Proof.Machine
end

