-- ==== Sys2Proof/Machine/AuditOps.lean ====
section
/-! DEFINITION. The audit units, alarm records and their sealing (R463 to R476, R479; 13_determinism_and_audit.md). -/

namespace Sys2Proof.Machine

/-! ### Audit descriptors (R463 to R468) -/

/-- An audit descriptor (R464). -/
structure AudDesc where
  /-- The 64 bytes. -/
  raw : List Byte
deriving DecidableEq, Repr

/-- A field of the descriptor. -/
def AudDesc.at (d : AudDesc) (off len : Nat) : Nat := field d.raw off len
/-- It makes an alarm record (KIND 0x2). -/
def AudDesc.alarm (d : AudDesc) : Bool := d.at 0 1 == 2
/-- SIG. -/
def AudDesc.sig (d : AudDesc) : Bool := bitOn (d.at 1 1) 0
/-- SIGN_EACH. -/
def AudDesc.each (d : AudDesc) : Bool := bitOn (d.at 1 1) 1
/-- SIGTGT. -/
def AudDesc.sigtgt (d : AudDesc) : Nat := d.at 2 2
/-- IN_COUNT. -/
def AudDesc.inCount (d : AudDesc) : Nat := d.at 6 2
/-- FIRST_STEP. -/
def AudDesc.first (d : AudDesc) : Nat := d.at 8 8
/-- LAST_STEP. -/
def AudDesc.last (d : AudDesc) : Nat := d.at 0x10 8
/-- IN_LIST. -/
def AudDesc.inList (d : AudDesc) : Nat := d.at 0x18 4
/-- OUT. -/
def AudDesc.out (d : AudDesc) : Nat := d.at 0x1C 4
/-- OUT_LEN. -/
def AudDesc.outLen (d : AudDesc) : Nat := d.at 0x20 4
/-- DOUT. -/
def AudDesc.dout (d : AudDesc) : Nat := d.at 0x24 4

/-- Audit descriptor `i` of a block. -/
def Block.audDesc (b : Block) (i : Nat) : AudDesc := { raw := b.store.read (b.aud.slotAddr 64 i) 64 }

/-- The descriptor has no format fault (R464, R467). -/
def State.audFormatOk (s : State) (d : AudDesc) : Bool :=
  (d.at 0 1 == 1 || d.alarm) && decide (d.at 1 1 < (if d.alarm then 4 else 2)) && s.sigTargetOk d.sig d.sigtgt &&
  d.at 4 2 == 0 && decide (d.inCount ≤ 512) && decide (d.first ≤ d.last) &&
  d.inList % 64 == 0 && decide (d.inList + 8 * d.inCount ≤ storeBytes) &&
  d.out % 64 == 0 && decide (d.out + d.outLen ≤ storeBytes) && (!d.alarm || decide (d.outLen ≤ 7936)) &&
  d.dout % 64 == 0 && decide (d.dout + 32 ≤ storeBytes) && allZero (slice d.raw 0x32 14)

/-- The JSEQ values a descriptor names (R464). -/
def Block.audInputs (b : Block) (d : AudDesc) : List Nat :=
  (List.range d.inCount).map (fun i => leNat (b.store.read (d.inList + 8 * i) 8))

/-- The ingress digests of the named entries, in order, read from the input journal: a STATUS code of R467 and the bytes. The spec names no
requester code for these reads: the journal's is shown. -/
def State.ingressDigests : List Nat → State → Nat × List Byte × State
  | [], s => (0x01, [], s)
  | j :: js, s =>
    match s.jnl.entries.find? (fun e => e.jseq == j) with
    | none => (0x90, [], s)
    | some e =>
      match s.devRead (whoOf unitJnl) (e.addr + 0x40) 32 with
      | (0, bs, t) => let (st, rest, u) := State.ingressDigests js t; (st, bs ++ rest, u)
      | (st, _, t) => (dmaStatus st, [], t)

/-- The input digest of the entries' ingress digests (R465). -/
def inputDigest (count : Nat) (digests : List Byte) : List Byte := sha3 (leBytes 8 count ++ digests)

/-- Thirty-two bytes of a digest, where the empty list stands for zeros. -/
def dig32 (d : List Byte) : List Byte := slice (d ++ List.replicate 32 0) 0 32

/-- The block digest (R466). -/
def State.blockDigest (s : State) (p : Nat) (d : AudDesc) (indig : List Byte) : List Byte :=
  let b := s.block p
  sha3 ([0x56, 0x4C, 0x4E, 0x41, 0x55, 0x44, 0x30, 0x31] ++ dig32 s.place.progDig ++ dig32 s.place.wgtDig ++ indig ++ dig32 b.seed ++
    leBytes 8 d.first ++ leBytes 8 d.last ++ leBytes 2 ((s.shapeOf p).getD 0) ++ leBytes 4 d.outLen ++ b.store.read d.out d.outLen)

/-- A named entry lies where memory makes its readers wait (R441, R521). -/
def State.audWaits (s : State) (js : List Nat) : Bool :=
  s.jnl.entries.any (fun e => js.contains e.jseq && s.devBusy (e.addr + 0x40) 32)

/-- AUDIT_DESCRIPTOR_START (R463): the descriptor is read and its digests are made, its reads of the block store as `reads` says (R433). -/
def State.audStart (p : Nat) (reads : StoreRead) (s0 : State) : State :=
  let b := s0.block p
  let q := b.aud
  let s := if reads = .corrected then s0.storeCorrected p b.lastWord else s0
  if !s0.ringsRun || !q.en || q.halted || s0.fencedBlock p || !q.flight.isEmpty || decide ((b.cnt q.post).value < q.started + 1) then s0
  else if reads = .uncorrectable then s.fenceFor p eStoreUe b.lastWord none 0 0
  else
    let d := b.audDesc q.started
    let begin (st : Nat) (indig digest : List Byte) (s : State) : State :=
      s.onBlock p (fun b => { b with aud := { b.aud with
        started := q.started + 1, flight := [(q.started, st)], accepted := false, indig := indig, digest := digest, since := s.time.now } })
    if !s.audFormatOk d then begin 0x83 [] [] s
    else if s.audWaits (b.audInputs d) then s0
    else
      match s.ingressDigests (b.audInputs d) with
      | (0x01, bs, t) =>
        let indig := inputDigest d.inCount bs
        begin 0x01 indig (t.blockDigest p d indig) t
      | (st, _, t) => begin st [] [] t

/-- AUDIT_DESCRIPTOR_END (R467, R468): the descriptor in flight ends; one that makes an alarm record ends only once that is accepted. In a
fenced block nothing ends. -/
def State.audEnd (p : Nat) (s : State) : State :=
  let b := s.block p
  match b.aud.flight with
  | [] => s
  | (i, st) :: _ =>
    let d := b.audDesc i
    if s.fencedBlock p || (st == 0x01 && d.alarm && !b.aud.accepted) then s
    else
      let ok := st == 0x01
      let u := s.onBlock p (fun b =>
        let m := if ok then b.store.write d.dout (dig32 b.aud.digest) else b.store
        { b with
          store := m.write (b.aud.slotAddr 64 i + 4) [BitVec.ofNat 8 st]
          aud := { b.aud with
            flight := [], accepted := false, digest := [], indig := []
            ended := (b.aud.ended + 1) % 2 ^ 32
            halted := !ok
            code := if ok then 0 else st
            index := if ok then 0 else i % 2 ^ b.aud.slotsLog2 } })
      let v := u.cntAdd p b.aud.done 1
      let w : State := if d.sig && ok then
        { v with hif.inflight := v.hif.inflight ++ [.remote p (bits d.sigtgt 14 6) (bits d.sigtgt 5 0) 1 0 0] } else v
      (w.onBlock p Block.publish).wakeHost

/-! ### Alarm records and batches (R469 to R471) -/

/-- GRADE (R47). -/
def State.gradeCode (s : State) : Nat := if s.hw.gradeB then 2 else 1
/-- Time is untimed, in COAST or since (R341, R471). -/
def State.untimedNow (s : State) : Bool := s.time.untimed || s.clk.coast
/-- Module time with bit 63 set while untimed (R469). -/
def State.stampNow (s : State) : Nat := s.time.now % 2 ^ 63 + (if s.untimedNow then 2 ^ 63 else 0)
/-- BOOT: full resets since manufacture (R593). -/
def State.boots (s : State) : Nat := s.sbCount 4

/-- The alarm record of a block's descriptor, as it is accepted (R469). -/
def State.alarmRecord (s : State) (p : Nat) (d : AudDesc) : AlarmRec :=
  let b := s.block p
  { bytes := leBytes 4 0x4D524C41 ++ leBytes 2 1 ++ leBytes 2 (b2n d.each + 2 * b2n s.untimedNow + 4 * b2n s.strict) ++
      leBytes 8 s.sec.recno ++ leBytes 8 s.stampNow ++ leBytes 8 (s.reg .fab 0 0x108) ++ leBytes 2 s.module ++
      leBytes 2 ((s.shapeOf p).getD 0) ++ leBytes 1 s.place.shapeBlocks ++ leBytes 1 s.gradeCode ++
      leBytes 2 (32 * dieOf p + pblkOf p) ++ leBytes 8 s.place.id ++ leBytes 8 (d.at 0x28 8) ++ leBytes 2 (d.at 0x30 2) ++
      leBytes 2 d.inCount ++ leBytes 4 d.outLen ++ leBytes 8 d.first ++ leBytes 8 d.last ++ List.replicate 16 0 ++
      dig32 s.place.progDig ++ dig32 s.place.wgtDig ++ dig32 b.aud.indig ++ dig32 b.aud.digest ++ dig32 b.seed
    inList := b.store.read d.inList (8 * d.inCount)
    body := b.store.read d.out d.outLen
    each := d.each }

/-- LEAF_HASH (R470). -/
def AlarmRec.leaf (r : AlarmRec) : List Byte := sha3 ([0] ++ r.bytes ++ r.inList ++ r.body)

/-- The length of a batch in ns (R471). -/
def batchNs : Nat := 1000000

/-- Closed batches that await the signer (R475, R479). -/
def State.unsigned (s : State) : Nat := (s.sec.queue.filter (fun b => b.signed.isEmpty)).length

/-- The queue to the signer has room (R475). -/
def State.signerRoom (s : State) : Bool := decide (s.unsigned < 8)

/-- The open batch closes (R471, R473). -/
def State.closeBatch (early : Bool) (s : State) : State :=
  match s.sec.openB with
  | none => s
  | some b => { s with sec := { s.sec with
      openB := none
      queue := s.sec.queue ++ [{ b with closeTime := s.time.now, early := early, untimed := b.untimed || s.untimedNow }] } }

/-- The open batch is due to close: 1 ms has passed, and the signer's queue has room (R471, R475). -/
def State.batchDue (s : State) : Bool :=
  s.signerRoom && match s.sec.openB with
    | some b => decide (b.openTime + batchNs ≤ s.time.now)
    | none => false

/-- The batch that a record joins: the open one, or a new one (R471). -/
def State.joinBatch (s : State) : Batch × Nat :=
  match s.sec.openB with
  | some b => (b, s.sec.batchNo)
  | none => ({ number := s.sec.batchNo, openTime := s.time.now, firstRec := s.sec.recno }, (s.sec.batchNo + 1) % 2 ^ 64)

/-- The record of a block's descriptor in flight waits to be accepted (R468): when it arrived, and the block's shape number. -/
def State.recordWaits (s : State) (p : Nat) : Option (Nat × Nat) :=
  let b := s.block p
  match b.aud.flight with
  | (i, 0x01) :: _ => if (b.audDesc i).alarm && !b.aud.accepted && !s.fencedBlock p then some (b.aud.since, (s.shapeOf p).getD 0) else none
  | _ => none

/-- No record that arrived in the same moment stands before that of a block: they are accepted in ascending shape number (R471). -/
def State.recordFirst (s : State) (p : Nat) : Bool :=
  match s.recordWaits p with
  | none => false
  | some (t, f) => s.placed.all (fun c => match s.recordWaits c.2 with | some (u, g) => u != t || decide (f ≤ g) | none => true)

/-- SEAL_RECORD_ACCEPT (R468, R471, R475): the record of the descriptor in flight is accepted into the open batch. The 4,096th record closes
it; while the queue is full that record is not accepted. -/
def State.acceptRecord (p : Nat) (s0 : State) : State :=
  let b := s0.block p
  match b.aud.flight with
  | [] => s0
  | (i, st) :: _ =>
    let d := b.audDesc i
    if st ≠ 0x01 || !s0.recordFirst p then s0
    else
      let s := if s0.batchDue then s0.closeBatch false else s0
      let (bt, n) := s.joinBatch
      let full := decide (4096 ≤ bt.recs.length + 1)
      if full && !s.signerRoom then s
      else
        let t : State := { s with sec := { s.sec with
          openB := some { bt with recs := bt.recs ++ [s.alarmRecord p d], untimed := bt.untimed || s.untimedNow }
          batchNo := n, recno := (s.sec.recno + 1) % 2 ^ 64 } }
        let u := t.onBlock p (fun b => { b with aud.accepted := true })
        if full then u.closeBatch true else u

/-! ### The Merkle tree (R472) -/

/-- One level of the tree. -/
def merkleUp : List (List Byte) → List (List Byte)
  | a :: b :: rest => sha3 ([1] ++ a ++ b) :: merkleUp rest
  | [a] => [a]
  | [] => []

/-- The root over the leaves, and the sibling hashes of leaf `i`, leaf level first. -/
def merkle : Nat → Nat → List (List Byte) → List Byte × List (List Byte)
  | 0, _, ls => (ls.headD [], [])
  | fuel + 1, i, ls =>
    if ls.length ≤ 1 then (ls.headD [], [])
    else
      let sib := if i % 2 = 1 then ls[i - 1]? else ls[i + 1]?
      let (root, path) := merkle fuel (i / 2) (merkleUp ls)
      (root, sib.toList ++ path)

/-- A batch's leaves. -/
def Batch.leaves (b : Batch) : List (List Byte) := b.recs.map AlarmRec.leaf

/-! ### Signing and writing (R473 to R475) -/

/-- The secret seed of a key pair: Ed25519 (0) or ML-DSA-65 (1), by its number (R491, R493). -/
def keySeed (kind number : Nat) : List Byte := slice (Config.secretSeed kind number ++ List.replicate 32 0) 0 32
/-- The Ed25519 seal public key in force (R493). -/
def State.edSealPk (s : State) : List Byte := edPublic (keySeed 0 s.sec.sealKey)
/-- The ML-DSA-65 seal public key in force (R493). -/
def State.mlSealPk (s : State) : List Byte := mlPublic (keySeed 1 s.sec.sealKey)
/-- A key identifier (R492). -/
def keyId (pk : List Byte) : List Byte := slice (sha3 pk) 0 8
/-- A signing pair in a record's or report's form: 64 bytes, then 3,309, hedged by 32 bytes of the TRNG, which are free values (R474). -/
def State.signPair (key : Nat) (msg : List Byte) (s : State) : List Byte × State :=
  (slice (edSign (keySeed 0 key) msg) 0 64 ++ slice (mlSign (keySeed 1 key) msg (Config.freeBytes 32 s.free) ++ List.replicate 3309 0) 0 3309,
    { s with free := s.free + 32 })

/-- The seal record of a batch but for its signatures (R473). -/
def State.sealBody (s : State) (b : Batch) : List Byte :=
  leBytes 4 0x4C414553 ++ leBytes 2 1 ++ leBytes 2 (b2n b.untimed + 2 * b2n b.early) ++ leBytes 8 b.number ++ leBytes 8 b.openTime ++
  leBytes 8 b.closeTime ++ leBytes 8 b.firstRec ++ leBytes 4 b.recs.length ++ leBytes 4 0 ++ leBytes 8 (s.reg .fab 0 0x108) ++
  leBytes 2 s.module ++ leBytes 2 0 ++ leBytes 4 s.boots ++ (merkle 13 0 b.leaves).1 ++ keyId s.edSealPk ++ keyId s.mlSealPk ++
  dig32 s.sec.prevSeal

/-- SEAL_BATCH_SIGN (R473, R475): the signer signs the oldest closed batch, unless the TRNG has failed (R498). -/
def State.signBatch (s : State) : State :=
  match s.sec.queue with
  | [] => s
  | b :: rest =>
    if !b.signed.isEmpty || !s.sec.trngOk then s
    else
      let body := s.sealBody b
      let (sig, t) := s.signPair s.sec.sealKey body
      { t with sec := { t.sec with
          queue := { b with signed := body ++ sig ++ List.replicate 579 0 } :: rest, prevSeal := sha3 body } }

/-- The 16 KiB of an alarm record with its receipt (R469, R472). -/
def State.recordBytes (b : Batch) (i : Nat) (s : State) : List Byte × State :=
  let r := b.recs.getD i {}
  let (root, path) := merkle 13 i b.leaves
  let (sig, t) := if r.each then s.signPair s.sec.sealKey r.leaf else (List.replicate 3373 0, s)
  (r.bytes ++ leBytes 8 b.number ++ leBytes 4 i ++ leBytes 4 b.recs.length ++ leBytes 1 path.length ++ List.replicate 7 0 ++ r.leaf ++ root ++
    slice (path.flatten ++ List.replicate 384 0) 0 384 ++ List.replicate 40 0 ++ sig ++ List.replicate 211 0 ++
    slice (r.inList ++ List.replicate 4096 0) 0 4096 ++ slice (r.body ++ List.replicate 7936 0) 0 7936, t)

/-- A seal ring takes a slot's bytes when it is on, its consumer has left room and its memory can be reached: whether it did (R475, R259). -/
def State.sealSlot (g : SRing) (consReg slot : Nat) (hostOk : Bool) (bs : State → List Byte × State) (s : State) : Bool × State :=
  let cons := s.reg .sec 0 consReg / 8 * 8
  let x := g.base + g.prod % 2 ^ g.slotsLog2 * slot
  if !g.en || !xOk cons || !xOk x || ((xHost cons || xHost x) && !s.hostDma) || s.xBusy cons 8 || s.xBusy x slot then (false, s)
  else
    match s.xRead 0 cons 8 with
    | (0, c, t) =>
      if leNat c + 2 ^ g.slotsLog2 ≤ g.prod then (false, t)
      else if xHost x && !hostOk then (false, t.raise .hif 0 6 0 (xAddr x) 0 0)
      else
        let (data, u) := bs t
        match u.xWrite 0 x data with
        | (0, v) => (true, v)
        | (_, v) => (false, v)
    | (_, _, t) => (false, t)

/-- SEAL_RING_WRITE (R475): the next record of the signed batch, or its seal after them, goes to its ring. A record that is to be signed itself
waits once the TRNG has failed (R498). -/
def State.sealWrite (hostOk : Bool) (s : State) : State :=
  match s.sec.queue with
  | [] => s
  | b :: rest =>
    if b.signed.isEmpty then s
    else if b.written < b.recs.length then
      if (b.recs.getD b.written {}).each && !s.sec.trngOk then s else
      match s.sealSlot s.sec.recRing 0x410 16384 hostOk (fun s => s.recordBytes b b.written) with
      | (true, t) => { t with sec := { t.sec with
          queue := { b with written := b.written + 1 } :: rest, recRing := { t.sec.recRing with prod := t.sec.recRing.prod + 1 } } }
      | (false, t) => t
    else
      match s.sealSlot s.sec.sealRing 0x428 4096 hostOk (fun s => (b.signed, s)) with
      | (true, t) => { t with sec := { t.sec with queue := rest, sealRing := { t.sec.sealRing with prod := t.sec.sealRing.prod + 1 } } }
      | (false, t) => t

end Sys2Proof.Machine
end

