-- ==== Sys2Proof/Machine/CollForm.lean ====
section
/-! DEFINITION. Collectives, apart from the machine: formats and partials, the exact reduction, groups, and what each member sends to which
(R389 to R401; 11_collective_engine.md). -/

namespace Sys2Proof.Machine

/-! ### Operations and formats (R388, R391, R394) -/

/-- ALLREDUCE. -/
def opAllreduce : Nat := 1
/-- REDUCE_SCATTER. -/
def opScatter : Nat := 2
/-- ALLGATHER. -/
def opGather : Nat := 3
/-- BROADCAST. -/
def opBroadcast : Nat := 4
/-- ALLTOALL. -/
def opAlltoall : Nat := 5
/-- BARRIER. -/
def opBarrier : Nat := 6

/-- The operation reduces. -/
def reduces (op : Nat) : Bool := op == 1 || op == 2

/-- Bytes of an element (R394). -/
def collBytes (f : Nat) : Nat :=
  if f = 0x8 ∨ f = 0x9 then 2 else if f = 0xA ∨ f = 0x10 then 4 else if f = 0xB then 8 else if f = 0x11 then 72 else 1

/-- A format SUM takes and gives. -/
def sumFmt (f : Nat) : Bool := decide (0x8 ≤ f ∧ f ≤ 0xB) || f == 0x10 || f == 0x11
/-- A format MIN and MAX take. -/
def orderFmt (f : Nat) : Bool := decide (0x8 ≤ f ∧ f ≤ 0xB) || f == 0x10

/-- GKIND. -/
def LRec.table (l : LRec) : Bool := bitOn l.flags 0
/-- LOOSE. -/
def LRec.loose (l : LRec) : Bool := bitOn l.flags 1
/-- TILES. -/
def LRec.tiles (l : LRec) : Bool := bitOn l.flags 2

/-- Bytes of a member's input (R391). -/
def LRec.inBytes (l : LRec) (rank : Nat) : Nat :=
  if reduces l.op then l.n * collBytes l.ifmt
  else if l.op = 3 then l.n
  else if l.op = 4 then (if rank = l.root then l.n else 0)
  else if l.op = 5 then l.members.length * l.n
  else 0

/-- Bytes of a member's output (R391). -/
def LRec.outBytes (l : LRec) : Nat :=
  if l.op = 1 then l.n * collBytes l.ofmt
  else if l.op = 2 then l.n / l.members.length * collBytes l.ofmt
  else if l.op = 3 ∨ l.op = 5 then l.members.length * l.n
  else if l.op = 4 then l.n
  else 0

/-- The group digest (R392). -/
def LRec.digest (l : LRec) : Nat :=
  crc32c (leBytes 1 l.op ++ leBytes 1 l.red ++ leBytes 1 l.ifmt ++ leBytes 1 l.ofmt ++ leBytes 1 l.rnd ++ leBytes 8 l.n ++
    leBytes 2 l.root ++ l.members.flatMap (leBytes 2))

/-! ### Partials (R395, R396) -/

/-- FORM of the partials of an input format: 2 P8, 3 P40, 4 P80. -/
def formOf (f : Nat) : Nat := if f = 0x9 ∨ f = 0x10 then 2 else if f = 0x8 ∨ f = 0xA then 3 else 4

/-- FORM of a collective's chunks (R399). -/
def LRec.form (l : LRec) : Nat := if !reduces l.op then 0 else if l.red = 0 then formOf l.ifmt else 1

/-- Bytes of one thing a chunk carries. -/
def LRec.unitBytes (l : LRec) : Nat :=
  let f := l.form
  if f = 0 then 1 else if f = 1 then collBytes l.ifmt else if f = 2 then 8 else if f = 3 then 40 else 80

/-- The most a chunk carries (R399). -/
def LRec.perChunk (l : LRec) : Nat := 16352 / l.unitBytes

/-- The exponent of a partial's unit. -/
def unitExp (f : Nat) : Int := if f = 0x9 then -24 else if f = 0x10 then 0 else if f = 0x8 ∨ f = 0xA then -149 else -272

/-- The value of an input element of a format other than TOTAL. -/
def collNum (f v : Nat) : Num := if f = 0x10 then decodeInt 32 0 v else decodeElem f v

/-- An input element as a partial (R395). The ZST of an infinite or NaN input is that of a term which is not −0, as in R147. -/
def partialOf (f rank : Nat) (bs : List Byte) : Partial :=
  if f = 0x11 then
    let t := Total.ofBytes bs
    { cls := t.cls, inv := t.inv, ovf := t.ovf, loss := t.loss, zst := t.zst, value := t.value
      ovr := if t.ovf then rank else 0xFFF, ovrNeg := decide (t.value < 0) }
  else match collNum f (leNat bs) with
  | .inf neg => { cls := if neg then 2 else 1, zst := 2 }
  | .nan => { cls := 3, zst := 2 }
  | .fin neg m e =>
    let sh := e - unitExp f
    let p := if 0 ≤ sh then m <<< sh.toNat else m >>> (-sh).toNat
    let lost := decide (sh < 0) && m % 2 ^ (-sh).toNat != 0
    let big := f == 0xB && decide (2 ^ 568 ≤ p)
    let v : Int := if big then 2 ^ 568 - 1 else p
    { zst := if m = 0 ∧ neg then 1 else 2, value := if neg then -v else v, loss := lost, ovf := big
      ovr := if big then rank else 0xFFF, ovrNeg := neg }

/-- Two partials added (R396). -/
def Partial.add (a b : Partial) : Partial :=
  let clash := (a.cls == 1 && b.cls == 2) || (a.cls == 2 && b.cls == 1)
  { cls := if b.cls = 0 then a.cls else if a.cls = 0 ∨ a.cls = b.cls then b.cls else 3
    inv := a.inv || b.inv || clash, ovf := a.ovf || b.ovf, loss := a.loss || b.loss, zst := zstJoin a.zst b.zst
    value := a.value + b.value, ovr := min a.ovr b.ovr
    ovrNeg := if a.ovf && (!b.ovf || decide (a.ovr ≤ b.ovr)) then a.ovrNeg else b.ovrNeg }

/-- The identity of addition. -/
def Partial.zero : Partial := {}

/-- A partial's flag byte. -/
def Partial.flags (p : Partial) : Nat := p.cls * 64 + b2n p.inv * 32 + b2n p.ovf * 16 + b2n p.loss * 8 + p.zst * 2

/-- A partial's bytes in its form. -/
def Partial.toBytes (form : Nat) (p : Partial) : List Byte :=
  if form = 2 then leBytes 8 (ofSigned 56 p.value + p.flags * 2 ^ 56)
  else if form = 3 then leBytes 40 (ofSigned 312 p.value + p.flags * 2 ^ 312)
  else leBytes 80 (ofSigned 620 p.value + p.ovr * 2 ^ 620 + p.flags * 2 ^ 632)

/-- The partial of bytes in a form; each is one member's input, so its sign is the input's. -/
def Partial.ofBytes (form : Nat) (bs : List Byte) : Partial :=
  let n := leNat bs
  let w := if form = 2 then 56 else if form = 3 then 312 else 620
  let g := if form = 2 then bits n 63 56 else if form = 3 then bits n 319 312 else bits n 639 632
  let v := toSigned w (n % 2 ^ w)
  { cls := bits g 7 6, inv := bitOn g 5, ovf := bitOn g 4, loss := bitOn g 3, zst := bits g 2 1, value := v
    ovr := if form = 4 then bits n 631 620 else 0xFFF, ovrNeg := decide (v < 0) }

/-- A final partial in the output format (R397): `f` is the input's format, `g` the output's. -/
def Partial.result (f g rnd : Nat) (p : Partial) : List Byte :=
  let v := if p.cls = 0 ∧ p.ovf then (if p.ovrNeg then -(2 ^ 568 - 1) else 2 ^ 568 - 1) else p.value * 2 ^ (unitExp f + 272).toNat
  if g = 0x11 then
    let outside := decide (v < -(2 ^ 568)) || decide (2 ^ 568 ≤ v)
    let t : Total := { cls := p.cls, inv := p.inv, ovf := p.ovf || outside, loss := p.loss, zst := p.zst,
                       value := if outside then saturated (decide (v < 0)) else v }
    t.toBytes
  else
    let t : Total := { cls := p.cls, zst := p.zst, value := v }
    let x := t.toNum rnd
    leBytes (collBytes g) (if g = 0x10 then encodeInt { mode := rnd } 32 0 (-(2 ^ 31)) (2 ^ 31 - 1) x else encodeElem g { mode := rnd } x)

/-- The lesser or greater of two elements (R397). -/
def collOrder (f red a b : Nat) : Nat :=
  if f = 0x10 then (if (if red = 1 then decide (toSigned 32 a ≤ toSigned 32 b) else decide (toSigned 32 b ≤ toSigned 32 a)) then a else b)
  else fminmax f (red == 2) a b

/-- An input element of MIN or MAX as it is carried: a NaN as the canonical NaN (R397). -/
def collCanon (f v : Nat) : Nat := if f = 0x10 then v else if decodeElem f v = .nan then (floatFmt f).nanEnc else v

/-! ### Groups (R389, R401) -/

/-- The axes of an axes group whose extent is more than 1, in the order X, Y, Z: axis, extent and stride in rank. -/
def LRec.axes (l : LRec) : List (Nat × Nat × Nat) :=
  let lo := l.members.headD 0
  let hi := l.members.getLast?.getD 0
  let ext (a : Nat) : Nat := coordOf hi a - coordOf lo a + 1
  [(0, ext 0, 1), (1, ext 1, ext 0), (2, ext 2, ext 0 * ext 1)].filter (fun x => decide (1 < x.2.1))

/-- A rank's place on an axis. -/
def placeOn (x : Nat × Nat × Nat) (r : Nat) : Nat := r / x.2.2 % x.2.1

/-- Steps of the algorithm: one for each axis, or one hop after another round a ring (R401). -/
def LRec.phases (l : LRec) : Nat := if l.table then l.members.length - 1 else l.axes.length

/-- The ranks a member sends to in a phase. -/
def LRec.peers (l : LRec) (r p : Nat) : List Nat :=
  if l.table then (if 1 < l.members.length then [(r + 1) % l.members.length] else [])
  else match l.axes[p]? with
  | some x => ((List.range x.2.1).filter (fun c => c != placeOn x r)).map (fun c => r + c * x.2.2 - placeOn x r * x.2.2)
  | none => []

/-- The ranks a member receives from in a phase. -/
def LRec.senders (l : LRec) (r p : Nat) : List Nat :=
  if l.table then (if 1 < l.members.length then [(r + l.members.length - 1) % l.members.length] else []) else l.peers r p

/-- Two ranks have the same places on the axes from `p` on. -/
def LRec.sameFrom (l : LRec) (p a b : Nat) : Bool := (l.axes.drop p).all (fun x => placeOn x a == placeOn x b)
/-- Two ranks have the same places on the axes before `p`. -/
def LRec.sameBefore (l : LRec) (p a b : Nat) : Bool := (l.axes.take p).all (fun x => placeOn x a == placeOn x b)

/-- Ranks whose input a member passes on in a phase. -/
def LRec.known (l : LRec) (r p : Nat) : List Nat :=
  let n := l.members.length
  if l.table then [(r + n - p % n) % n] else (List.range n).filter (l.sameFrom p r)

/-- What a member sends to another in a phase: (phase, rank it came from, first index, count), in order. Indices are elements of a reduction,
bytes of the output of ALLGATHER and BROADCAST, and for ALLTOALL bytes of block j of rank i's input from (i n + j) N (log 41). -/
def LRec.stretch (l : LRec) (r d p : Nat) : List (Nat × Nat × Nat × Nat) :=
  let n := l.members.length
  if !(l.peers r p).contains d then []
  else if reduces l.op then (l.known r p).map (fun q => (p, q, 0, l.n))
  else if l.op = 3 then (l.known r p).map (fun q => (p, q, q * l.n, l.n))
  else if l.op = 4 then
    (if (if l.table then r == (l.root + p) % n else l.sameFrom p r l.root) then [(p, l.root, 0, l.n)] else [])
  else if l.op = 5 then
    if l.table then
      let i := (r + n - p % n) % n
      ((List.range n).filter (fun j => decide (p < (j + n - i) % n))).map (fun j => (p, i, (i * n + j) * l.n, l.n))
    else
      match l.axes[p]? with
      | some x =>
        ((List.range n).filter (l.sameFrom p r)).flatMap (fun i =>
          ((List.range n).filter (fun j => l.sameBefore p r j && placeOn x j == placeOn x d)).map (fun j => (p, i, (i * n + j) * l.n, l.n)))
      | none => []
  else []

/-- A member's whole stream to another. -/
def LRec.stream (l : LRec) (r d : Nat) : List (Nat × Nat × Nat × Nat) := (List.range l.phases).flatMap (l.stretch r d)

/-- Chunks a stream takes. -/
def LRec.chunks (l : LRec) (es : List (Nat × Nat × Nat × Nat)) : Nat := (es.map (fun e => ceilDiv e.2.2.2 l.perChunk)).sum

/-- Chunk `k` of a stream: phase, origin, first index and count. -/
def LRec.chunkAt (l : LRec) : List (Nat × Nat × Nat × Nat) → Nat → Option (Nat × Nat × Nat × Nat)
  | [], _ => none
  | e :: es, k =>
    let m := ceilDiv e.2.2.2 l.perChunk
    if k < m then some (e.1, e.2.1, e.2.2.1 + l.perChunk * k, min l.perChunk (e.2.2.2 - l.perChunk * k)) else l.chunkAt es (k - m)

/-- ALLGATHER and BROADCAST of an axes group go by axis-line multicast (R401). -/
def LRec.multicast (l : LRec) : Bool := !l.table && (l.op == 3 || l.op == 4)

/-- A member's place among the ranks. -/
def LRec.rankOf (l : LRec) (m : Nat) : Option Nat := l.members.findIdx? (· == m)

/-- Every rank but one. -/
def LRec.others (l : LRec) (r : Nat) : List Nat := (List.range l.members.length).filter (· != r)

/-! ### Tiles (R402) -/

/-- Shape number, counter, base and tile size of TILE. -/
def LRec.tileShape (l : LRec) : Nat := bits l.tile 31 23
/-- CNT of TILE. -/
def LRec.tileCnt (l : LRec) : Nat := bits l.tile 22 17
/-- BASE of TILE. -/
def LRec.tileBase (l : LRec) : Nat := bits l.tile 63 32
/-- Bytes of a tile. -/
def LRec.tileBytes (l : LRec) : Nat := 2 ^ bits l.tile 16 12

/-- The tiles seen cover a range of the input. -/
def LRec.covered (l : LRec) (tiles off len : Nat) : Bool := !l.tiles || len == 0 || decide (ceilDiv (off + len) l.tileBytes ≤ tiles)

/-- DONE.EN. -/
def LRec.doneEn (l : LRec) : Bool := bitOn l.done 0
/-- The counter of DONE. -/
def LRec.doneCnt (l : LRec) : Nat := bits l.done 14 9
/-- The shape number of DONE. -/
def LRec.doneShape (l : LRec) : Nat := bits l.done 23 15

end Sys2Proof.Machine
end

