-- ==== Sys2Proof/Machine/CollOps.lean ====
section
/-! DEFINITION. The collective engines: launches, tickets, slots, chunks, delivery and faults (R386 to R418; 11_collective_engine.md). -/

namespace Sys2Proof.Machine

/-! ### Slots and errors -/

/-- A collective slot. -/
def State.slot (s : State) (j : Nat) : Slot := Sparse.get {} s.coll.slots j
/-- A collective slot replaced. -/
def State.setSlot (j : Nat) (x : Slot) (s : State) : State := { s with coll.slots := Sparse.set {} s.coll.slots j x }
/-- A collective slot changed by a function. -/
def State.onSlot (j : Nat) (f : Slot → Slot) (s : State) : State := s.setSlot j (f (s.slot j))

/-- The slot of a ticket (R386). -/
def slotOf (ticket : Nat) : Nat := ticket % 16
/-- The engine of a slot (R386). -/
def engineOf (j : Nat) : Nat := j % 4
/-- The unit code of a slot's engine (R316). -/
def unitColl (j : Nat) : Nat := 8 + engineOf j

/-- COL_CTRL.RESV. -/
def State.resv (s : State) : Nat := s.fld .coll 0 0x100 39 32

/-- A slot holds a collective. -/
def Slot.busy (x : Slot) : Bool := x.state != 0

/-- The members of a collective other than this one. -/
def Slot.others (x : Slot) : List Nat := x.launch.others x.rank

/-- ERR_INFO1 (R416). -/
def collInfo (origin remote slot peer chunk : Nat) : Nat :=
  origin * 2 ^ 52 + remote * 2 ^ 51 + slot * 2 ^ 47 + peer * 2 ^ 32 + chunk % 2 ^ 24

/-- The launch command of a collective completes. -/
def State.endLaunch (seq status : Nat) (s : State) : State :=
  match s.openCmd seq with | some c => s.finishOpen c status 0 0 0 | none => s

/-! ### Sending (R363, R398, R401, R412, R413) -/

/-- The control record of a packet. -/
def controlRecord (ticket digest code origin : Nat) : List Byte :=
  leBytes 8 ticket ++ leBytes 4 digest ++ leBytes 2 code ++ leBytes 2 origin ++ List.replicate 16 0

/-- ARG of a collective's packet. -/
def collArg (j rank v : Nat) : Nat := j * 2 ^ 36 + rank * 2 ^ 24 + v % 2 ^ 24

/-- The member is a direct neighbour whose RL_FENCE bit is set (R413). -/
def State.memberFenced (s : State) (l : LRec) (r : Nat) : Bool :=
  let m := l.members.getD r 0
  match (List.range 3).filter (fun a => coordOf m a != coordOf s.module a) with
  | [a] => s.neighbourFenced a (coordOf m a)
  | _ => false

/-- The first fenced neighbour among a list of members. -/
def State.missing (s : State) (l : LRec) (ds : List Nat) : Option Nat := ds.find? (s.memberFenced l)

/-- Why a send ended the collective: a member is missing (R413), or a LOOSE packet may not be injected (R363). -/
inductive SendEnd where
  /-- A member that is a fenced neighbour. -/
  | missing (rank : Nat)
  /-- A LOOSE packet in strict mode. -/
  | loose

/-- A LOOSE packet is not injected in strict mode: the fabric routing page says so (R363). -/
def State.looseRefused (s : State) : State := (s.fabErr 6 0 0 0 0 0).evtAdd .fab 0 6 1

/-- A packet of a collective to each of a list of members, with its own value for each; the first that may not be sent ends it (R363, R398,
R413). -/
def State.collSends (l : LRec) (rank opc : Nat) (payload : List Byte) : List (Nat × Nat) → State → Option SendEnd × State
  | [], s => (none, s)
  | (d, v) :: ds, s =>
    let j := slotOf l.ticket
    if s.memberFenced l d then (some (.missing d), s)
    else if l.loose && s.strict then (some .loose, s.looseRefused)
    else State.collSends l rank opc payload ds
      (s.injectAs l.loose (unitColl j) (l.members.getD d 0) 3 0 opc (collArg j rank v) none payload)

/-- A control packet to a list of members. -/
def State.collControl (l : LRec) (rank opc digest code origin : Nat) (ds : List Nat) (s : State) : Option SendEnd × State :=
  s.collSends l rank opc (controlRecord l.ticket digest code origin) (ds.map (fun d => (d, 0)))

/-- ABORT to every other member goes out in sequence whatever the collective's own packets do (R412). -/
def State.collAbortAll (l : LRec) (rank code : Nat) (s : State) : State :=
  let j := slotOf l.ticket
  (l.others rank).foldl (fun s d => s.injectAs false (unitColl j) (l.members.getD d 0) 3 0 5 (collArg j rank 0) none
    (controlRecord l.ticket 0 code rank)) s

/-! ### Ending (R404, R412, R414) -/

/-- The buffers a slot has reserved go back, and the slot is free. -/
def State.freeSlot (j : Nat) (s : State) : State :=
  let x := s.slot j
  let s1 := s.freeBufs (unitColl j) x.loaves
  { (s1.setSlot j {}) with coll.ended := addTo s1.coll.ended x.launch.ticket, coll.round := s1.coll.round.setNum j 0 }

/-- An accepted collective ends by a fault: recorded, counted, its command completed, and ABORT sent unless the fault came by one; the bytes at DST
are undefined within the output range (R404, R412 to R416). -/
def State.collEnds (l : LRec) (seq tag rank bit peer chunk addr : Nat) (remote : Option Nat) (s : State) : State :=
  let j := slotOf l.ticket
  let e := engineOf j
  let s1 := ((s.raise .coll e bit tag l.ticket (collInfo (remote.getD rank) (b2n remote.isSome) j peer chunk) addr).evtAdd .coll e 1 1).endLaunch
    seq (statusOf .coll bit)
  let s2 := { (s1.freeAt l.dst l.outBytes) with coll.ended := addTo s1.coll.ended l.ticket }
  if remote.isSome then s2 else s2.collAbortAll l rank bit

/-- A collective in a slot ends by a fault, and its slot is free. -/
def State.collFault (j bit peer chunk addr : Nat) (remote : Option Nat) (s : State) : State :=
  let x := s.slot j
  if !x.busy then s else (s.freeSlot j).collEnds x.launch x.seq x.tag x.rank bit peer chunk addr remote

/-- An accepted collective that waits for its slot ends by a fault. -/
def State.queueFault (h : HeldLaunch) (bit peer : Nat) (remote : Option Nat) (s : State) : State :=
  ({ s with coll.queued := s.coll.queued.filter (fun q => q.launch.ticket != h.launch.ticket) } : State).collEnds h.launch h.seq h.tag
    ((h.launch.rankOf s.module).getD 0) bit peer 0 0 remote

/-- The fault that a send met, if it met one, ends the collective: `fault` does so, by its bit and peer. -/
def settleSend (fault : Nat → Nat → State → State) : Option SendEnd × State → State
  | (none, s) => s
  | (some (.missing d), s) => fault 6 d s
  | (some .loose, s) => fault 9 0 s

/-- A collective is delivered (R404). -/
def State.deliverColl (j : Nat) (s : State) : State :=
  let x := s.slot j
  let s1 : State := if x.launch.doneEn then
      { s with hif.inflight := s.hif.inflight ++ [.host x.launch.doneShape x.launch.doneCnt 1 none] } else s
  ((s1.evtAdd .coll (engineOf j) 0 1).endLaunch x.seq 0).freeSlot j

/-! ### The input, and what has been received -/

/-- Bytes of a member's input, read for a chunk or for the output. -/
def State.readInput (j off len : Nat) (s : State) : Nat × List Byte × State :=
  let x := s.slot j
  if len = 0 then (0, [], s) else s.devRead (whoOf (unitColl j) 0 0 x.tag) (x.launch.src + off) len

/-- The own input element as it is carried. -/
def Slot.carry (x : Slot) (bs : List Byte) : List Byte :=
  if x.launch.red = 0 then (partialOf x.launch.ifmt x.rank bs).toBytes x.launch.form
  else leBytes (collBytes x.launch.ifmt) (collCanon x.launch.ifmt (leNat bs))

/-- Elements `first` to `first + count − 1` of rank `q`, as received. -/
def Slot.heldElems (x : Slot) (q first count : Nat) : List Byte :=
  (List.range count).flatMap (fun i =>
    let k := q * 2 ^ 40 + first + i
    if x.launch.red = 0 then (Sparse.get {} x.acc k).toBytes x.launch.form else leBytes (collBytes x.launch.ifmt) (x.minmax.num k - 1))

/-- The part of the own input a stretch names: its offset and length in bytes; none where it came from another member. -/
def Slot.ownPart (x : Slot) (q first count : Nat) : Option (Nat × Nat) :=
  let l := x.launch
  let b := collBytes l.ifmt
  if q ≠ x.rank then none
  else if reduces l.op then some (b * first, b * count)
  else if l.op = 3 then some (first - q * l.n, count)
  else if l.op = 4 then some (first, count)
  else some (first - q * l.members.length * l.n, count)

/-- The data of a chunk (R395, R399). -/
def State.chunkData (j q first count : Nat) (s : State) : Nat × List Byte × State :=
  let x := s.slot j
  match x.ownPart q first count with
  | some (off, len) =>
    match s.readInput j off len with
    | (0, bs, t) => (0, if reduces x.launch.op then (chunksOf (collBytes x.launch.ifmt) bs).flatMap x.carry else bs, t)
    | (st, _, t) => (st, [], t)
  | none => (0, if reduces x.launch.op then x.heldElems q first count else x.outBytes.read first count, s)

/-- A DATA payload (R399). -/
def chunkPayload (l : LRec) (rank phase first count : Nat) (data : List Byte) : List Byte :=
  let h := leBytes 8 l.ticket ++ leBytes 2 rank ++ leBytes 2 phase ++ leBytes 4 0 ++ leBytes 8 first ++ leBytes 2 count ++ leBytes 1 l.form ++
    leBytes 1 0
  h ++ leBytes 4 (crc32c (h ++ data)) ++ data

/-- Everything a member receives from another in a phase has arrived. -/
def Slot.gotPhase (x : Slot) (p : Nat) : Bool :=
  (x.launch.senders x.rank p).all (fun q => decide (x.launch.chunks (x.launch.stretch q x.rank p) ≤ x.got.num (4096 * q + p)))

/-- Every chunk the member receives has arrived. -/
def Slot.gotAll (x : Slot) : Bool := (List.range x.launch.phases).all x.gotPhase

/-- Ranks the member sends chunks to. -/
def Slot.targets (x : Slot) : List Nat :=
  ((List.range x.launch.phases).flatMap (x.launch.peers x.rank)).eraseDups.filter (fun d => !(x.launch.stream x.rank d).isEmpty)

/-- Ranks the member receives chunks from in a phase. -/
def Slot.sources (x : Slot) (p : Nat) : List Nat :=
  (x.launch.senders x.rank p).filter (fun q => !(x.launch.stretch q x.rank p).isEmpty)

/-- Streams the member receives at once: the most that one phase has, 15 at most (R400, R401). Each stream's buffers serve one phase after another
(log 122). -/
def Slot.streams (x : Slot) : Nat := ((List.range x.launch.phases).map (fun p => (x.sources p).length)).foldl max 0

/-- Senders that may be granted chunks now and have not been: those of the phases up to the first that has not all arrived. -/
def Slot.toAsk (x : Slot) : List Nat :=
  (((List.range x.launch.phases).filter (fun p => (List.range p).all x.gotPhase)).flatMap x.sources).eraseDups.filter (fun q => !x.asked.contains q)

/-- The lowest rank whose FIN, or a chunk from which, is missing (R416). -/
def Slot.lateRank (x : Slot) : Nat :=
  (x.others.find? (fun q => !x.fins.contains q || (List.range x.launch.phases).any (fun p =>
    decide (x.got.num (4096 * q + p) < x.launch.chunks (x.launch.stretch q x.rank p))))).getD 0

/-- Every chunk the member sends has been sent. -/
def Slot.sentAll (x : Slot) : Bool :=
  x.targets.all (fun d => decide (x.launch.chunks (x.launch.stream x.rank d) ≤ x.sent.num d))

/-! ### The output (R391, R397, R404) -/

/-- An element of the result. -/
def Slot.element (x : Slot) (own : List Byte) (i : Nat) : List Byte :=
  let l := x.launch
  let b := collBytes l.ifmt
  let mine := slice own (b * i) b
  if l.red = 0 then
    let all := (List.range l.members.length).foldl (fun p q =>
      p.add (if q = x.rank then partialOf l.ifmt x.rank mine else Sparse.get {} x.acc (q * 2 ^ 40 + i))) Partial.zero
    all.result l.ifmt l.ofmt l.rnd
  else
    leBytes b (x.others.foldl (fun v q => collOrder l.ifmt l.red v (x.minmax.num (q * 2 ^ 40 + i) - 1)) (collCanon l.ifmt (leNat mine)))

/-- The output bytes, given the own input's. -/
def Slot.output (x : Slot) (own : List Byte) : List Byte :=
  let l := x.launch
  let n := l.members.length
  let piece (q : Nat) (mine rest : List Byte) : List Byte := if q = x.rank then mine else rest
  if l.op = 1 then (List.range l.n).flatMap (x.element own)
  else if l.op = 2 then (List.range (l.n / n)).flatMap (fun i => x.element own (x.rank * (l.n / n) + i))
  else if l.op = 3 then (List.range n).flatMap (fun q => piece q own (x.outBytes.read (q * l.n) l.n))
  else if l.op = 4 then piece l.root own (x.outBytes.read 0 l.n)
  else if l.op = 5 then (List.range n).flatMap (fun q => piece q (slice own (x.rank * l.n) l.n) (x.outBytes.read ((q * n + x.rank) * l.n) l.n))
  else []

/-- All of the input has been made. -/
def Slot.inputReady (x : Slot) : Bool := x.launch.covered x.tiles 0 (x.launch.inBytes x.rank)

/-- READY goes to the senders that may be granted chunks now (R400, R401). -/
def State.askSenders (j : Nat) (s : State) : State :=
  let x := s.slot j
  let ds := x.toAsk
  if x.state < 2 || ds.isEmpty then s
  else
    let g := s.resv
    let s1 := s.setSlot j { x with asked := x.asked ++ ds, given := ds.foldl (fun m q => m.setNum q (x.given.num q + g)) x.given }
    settleSend (fun bit d s => s.collFault j bit d 0 0 none)
      (s1.collSends x.launch x.rank 2 (controlRecord x.launch.ticket 0 0 0) (ds.map (fun q => (q, x.given.num q + g))))

/-- The device memory a collective reads for its output or writes holds its requests now (R441, R521). -/
def State.collBusy (s : State) (x : Slot) : Bool :=
  s.devBusy x.launch.src (x.launch.inBytes x.rank) || s.devBusy x.launch.dst x.launch.outBytes

/-- A collective's output is written once all of it has been received and sent, and FIN goes out (R404); input that cannot be read, or DST that cannot
be written, ends it (R414, R439). -/
def State.collOutput (j : Nat) (s : State) : State :=
  let x := s.slot j
  match s.readInput j 0 (x.launch.inBytes x.rank) with
  | (0, own, t) =>
    match t.devWrite (whoOf (unitColl j) 0 0 x.tag) x.launch.dst (x.output own) with
    | (0, u) =>
      settleSend (fun bit d s => s.collFault j bit d 0 0 none)
        ((u.setSlot j { x with state := 4 }).collControl x.launch x.rank 4 0 0 0 x.others)
    | (_, u) => u.collFault j 8 0 0 x.launch.dst none
  | (_, _, t) => t.collFault j 8 0 0 x.launch.src none

/-- A collective moves on: from joining to running, from one phase's senders to the next's, to its output and FIN, and to delivery (R404). -/
def State.collAdvance (j : Nat) (s : State) : State :=
  let x := s.slot j
  let s1 := (if x.state = 2 ∧ x.others.all (x.joins.contains ·) then s.setSlot j { x with state := 3 } else s).askSenders j
  let x1 := s1.slot j
  let s2 := if x1.state = 3 ∧ x1.gotAll ∧ x1.sentAll ∧ x1.inputReady ∧ !s1.collBusy x1 then s1.collOutput j else s1
  let x2 := s2.slot j
  if x2.state = 4 ∧ x2.others.all (x2.fins.contains ·) then s2.deliverColl j else s2

/-- Why an accepted collective ends now, besides what it meets itself: a packet of it was lost here, by the rank it was for, or its TILE or DONE
counter is ABANDONED (R208, R413). -/
def State.collLost (s : State) (lost : List (Nat × Nat)) (l : LRec) (rank : Nat) : Option Nat :=
  let gone (shape i : Nat) : Bool := match s.physOf shape with | some p => ((s.block p).cnt i).abandoned.isSome | none => false
  match lost.find? (fun c => c.1 == l.ticket) with
  | some c => some ((l.rankOf c.2).getD 0)
  | none => if (l.tiles && gone l.tileShape l.tileCnt) || (l.doneEn && gone l.doneShape l.doneCnt) then some rank else none

/-- Accepted collectives that have lost a packet here, or whose TILE or DONE counter is ABANDONED, end, and the others go on. -/
def State.collCheck (s : State) : State :=
  let lost := s.coll.lost
  let s1 := s.coll.queued.foldl (fun s h => match s.collLost lost h.launch ((h.launch.rankOf s.module).getD 0) with
    | some r => s.queueFault h 6 r none
    | none => s) { s with coll.lost := [] }
  (List.range 16).foldl (fun s j =>
    let x := s.slot j
    if !x.busy then s
    else match s.collLost lost x.launch x.rank with
    | some r => s.collFault j 6 r 0 0 none
    | none => if s.clk.coast then s else s.collAdvance j) s1

/-- A pass over every collective after a command whose effects may end one or let it go on; the packets an ending sends may be lost in turn, and are
noted for the next pass. -/
def State.collSettle (s : State) : State :=
  if s.coll.slots.isEmpty && s.coll.queued.isEmpty then { s with coll.lost := [] } else s.collCheck

/-! ### Control packets (R398, R410) -/

/-- The pending table of an engine. -/
def State.pendTable (s : State) (e : Nat) : List PendCtl := Sparse.get [] s.coll.table e

/-- READY's cumulative grant, modulo 2^24 (R398, R400). -/
def grantTo (g v : Nat) : Nat := g + (v + 2 ^ 24 - g % 2 ^ 24) % 2 ^ 24

/-- A control packet applied to an accepted collective that waits for its slot (R392, R410, R412). -/
def State.applyQueued (h : HeldLaunch) (c : PendCtl) (s : State) : State :=
  let put (g : HeldLaunch) : State := { s with coll.queued := s.coll.queued.map (fun q => if q.launch.ticket == h.launch.ticket then g else q) }
  if c.opc = 1 then (if c.digest ≠ h.launch.digest then s.queueFault h 4 0 none else put { h with joins := addTo h.joins c.rank })
  else if c.opc = 2 then put { h with granted := h.granted.setNum c.rank (grantTo (h.granted.num c.rank) c.arg) }
  else if c.opc = 4 then put { h with fins := addTo h.fins c.rank }
  else s.queueFault h c.code 0 (some c.origin)

/-- A control packet applied to the slot that holds its collective (R392, R400, R404, R412). -/
def State.applyCtl (j : Nat) (c : PendCtl) (s : State) : State :=
  let x := s.slot j
  if c.opc = 1 then
    if c.digest ≠ x.launch.digest then s.collFault j 4 0 0 0 none
    else (s.setSlot j { x with joins := addTo x.joins c.rank }).collAdvance j
  else if c.opc = 2 then
    s.setSlot j { x with granted := x.granted.setNum c.rank (grantTo (x.granted.num c.rank) c.arg) }
  else if c.opc = 4 then (s.setSlot j { x with fins := addTo x.fins c.rank }).collAdvance j
  else s.collFault j c.code 0 0 0 (some c.origin)

/-- What a packet's control record says. -/
def Pkt.control (k : Pkt) : PendCtl :=
  { opc := k.opc, ticket := field k.payload 0 8, rank := bits k.arg 35 24, arg := bits k.arg 23 0, digest := field k.payload 8 4
    code := field k.payload 12 2, origin := field k.payload 14 2 }

/-- The packet at a place of the inbox, if none of its source stands before it: its stream's order is kept. -/
def State.inboxAt (s : State) (i opc : Nat) : Option Pkt :=
  match s.coll.inbox[i]? with
  | some k => if k.opc == opc && !(s.coll.inbox.take i).any (fun q => q.src == k.src && q.mc == k.mc) then some k else none
  | none => none

/-- A packet taken from the inbox: its buffers go back. -/
def State.takeInbox (i : Nat) (k : Pkt) (s : State) : State :=
  ({ s with coll.inbox := removeAt i s.coll.inbox } : State).freePkt k

/-- The accepted collective of a ticket that waits for its slot. -/
def State.queuedOf (s : State) (ticket : Nat) : Option HeldLaunch := s.coll.queued.find? (fun h => h.launch.ticket == ticket)

/-- A control packet arrives (R410, R412): it is applied to its collective; for a ticket not yet accepted it is kept, unless the table is full, an ABORT
for the ticket is held already, or its collective has ended here. In COAST the engines do not run (R387). -/
def State.controlIn (i opc : Nat) (s : State) : State :=
  match (if s.clk.coast then none else s.inboxAt i opc) with
  | none => s
  | some k =>
    let c := k.control
    let j := slotOf c.ticket
    let e := engineOf j
    let s1 := s.takeInbox i k
    if (s1.slot j).busy && (s1.slot j).launch.ticket == c.ticket then s1.applyCtl j c
    else match s1.queuedOf c.ticket with
    | some h => s1.applyQueued h c
    | none =>
      if s1.coll.ended.contains c.ticket || decide (64 ≤ (s1.pendTable e).length) ||
          (c.opc == 5 && (s1.pendTable e).any (fun p => p.ticket == c.ticket && p.opc == 5)) then s1.evtAdd .coll e 4 1
      else { s1 with coll.table := Sparse.set [] s1.coll.table e (s1.pendTable e ++ [c]) }

/-- Entries of a ticket leave the pending table. -/
def State.takePending (ticket : Nat) (s : State) : List PendCtl × State :=
  let e := engineOf (slotOf ticket)
  let t := s.pendTable e
  (t.filter (fun c => c.ticket == ticket), { s with coll.table := Sparse.set [] s.coll.table e (t.filter (fun c => c.ticket != ticket)) })

/-! ### Launches (R388 to R394, R403, R405, R407, R408) -/

/-- The launch record's fields; the members of a table group come from memory. -/
def launchOf (bs : List Byte) (members : List Nat) : LRec :=
  { ticket := field bs 0 8, prev := field bs 8 8, op := field bs 0x10 1, red := field bs 0x11 1, ifmt := field bs 0x12 1
    ofmt := field bs 0x13 1, rnd := field bs 0x14 1, flags := field bs 0x15 1, weight := field bs 0x16 1, n := field bs 0x18 8
    root := field bs 0x20 2, timeout := field bs 0x22 2, src := field bs 0x30 8, dst := field bs 0x38 8, tile := field bs 0x40 8
    done := field bs 0x48 8, members := members }

/-- The module numbers of an axes group in rank order (R389). -/
def boxMembers (g : Nat) : List Nat :=
  (List.range (bits g 23 20 + 1)).flatMap (fun z => (List.range (bits g 19 16 + 1)).flatMap (fun y => (List.range (bits g 15 12 + 1)).map (fun x =>
    bits g 3 0 + x + 16 * (bits g 7 4 + y) + 256 * (bits g 11 8 + z))))

/-- A module number lies within the system's extents (R364). -/
def State.inExtents (s : State) (m : Nat) : Bool :=
  decide (m < 4096) && (List.range 3).all (fun a => decide (coordOf m a ≤ s.fld .fab 0 0x100 (4 * a + 19) (4 * a + 16)))

/-- The box of an axes group lies within the extents (R389). -/
def State.boxInside (s : State) (g : Nat) : Bool :=
  (List.range 3).all (fun a => decide (bits g (4 * a + 3) (4 * a) + bits g (4 * a + 15) (4 * a + 12) ≤ s.fld .fab 0 0x100 (4 * a + 19) (4 * a + 16)))

/-- The counter of a TILE or DONE field may be used: the placement is LIVE, and the counter has USED and COLL (R403, R405). -/
def State.collCnt (s : State) (shape i : Nat) : Bool :=
  s.live && decide (i < 48) && (match s.physOf shape with
    | some p => ((s.block p).cntEntry i).used && ((s.block p).cntEntry i).coll
    | none => false)

/-- A device range. -/
def devRange (a n : Nat) : Bool := decide (a + n ≤ devBytes)

/-- Two ranges have a byte in common. -/
def addrsMeet (a m b n : Nat) : Bool := decide (0 < m) && decide (0 < n) && decide (a < b + n) && decide (b < a + m)

/-- The offset of the first field of a launch record that breaks its rules (R388, R389, R391, R394, R403, R405). The formats of a BARRIER,
which moves nothing, are not read. -/
def State.launchFault (s : State) (bs : List Byte) (l : LRec) : Option Nat :=
  let n := l.members.length
  let grp := field bs 0x28 8
  let rank := (l.rankOf s.module).getD 0
  let tiles := l.tiles
  let checks : List (Bool × Nat) := [
    (l.ticket != 0, 0x00), (decide (1 ≤ l.op ∧ l.op ≤ 6), 0x10), (decide (l.red ≤ 2) && (reduces l.op || l.red == 0), 0x11),
    (if reduces l.op then (if l.red = 0 then sumFmt l.ifmt else orderFmt l.ifmt) else l.op == 6 || l.ifmt == 0x12, 0x12),
    (if reduces l.op then (if l.red = 0 then sumFmt l.ofmt else l.ofmt == l.ifmt) else l.op == 6 || l.ofmt == 0x12, 0x13),
    (decide (l.rnd ≤ 3), 0x14), (decide (l.flags < 8) && (!tiles || l.op == 1 || l.op == 2 || l.op == 3 || l.op == 5), 0x15),
    (decide (1 ≤ l.weight ∧ l.weight ≤ 15), 0x16), (field bs 0x17 1 == 0, 0x17),
    (decide (l.n ≤ 2 ^ 40) && (l.op != 2 || l.n % n == 0) && (l.op != 6 || l.n == 0), 0x18),
    (if l.op = 4 then decide (l.root < n) else l.root == 0, 0x20), (field bs 0x24 4 == 0, 0x24),
    ((if l.table then bits grp 63 40 == 0 && l.members.all s.inExtents && decide (l.members.Nodup) else bits grp 63 24 == 0 && s.boxInside grp) &&
      l.members.contains s.module, 0x28),
    (l.src % 64 == 0 && devRange l.src (l.inBytes rank), 0x30),
    (l.dst % 64 == 0 && devRange l.dst l.outBytes &&
      (!addrsMeet l.src (l.inBytes rank) l.dst l.outBytes || (l.op == 1 && l.src == l.dst)), 0x38),
    (if tiles then bits l.tile 11 0 == 0 && decide (12 ≤ bits l.tile 16 12 ∧ bits l.tile 16 12 ≤ 20) && s.collCnt l.tileShape l.tileCnt
      else l.tile == 0, 0x40),
    (bits l.done 63 24 == 0 && bits l.done 8 1 == 0 && (!l.doneEn || s.collCnt l.doneShape l.doneCnt), 0x48),
    (allZero (slice bs 0x50 48), 0x50)]
  (checks.find? (fun c => !c.1)).map Prod.snd

/-- A launch ends without having been accepted: recorded on engine 0's page (R407, R408). -/
def State.refuseLaunch (l : LRec) (seq tag bit info2 : Nat) (abort : Bool) (s : State) : State :=
  let rank := (l.rankOf s.module).getD 0
  let s1 := ((s.raise .coll 0 bit tag l.ticket (collInfo rank 0 (slotOf l.ticket) 0 0) info2).evtAdd .coll 0 1 1).endLaunch seq (statusOf .coll bit)
  if abort then ({ s1 with coll.ended := addTo s1.coll.ended l.ticket } : State).collAbortAll l rank bit else s1

/-- A launch accepted (R407): COL_LAST takes its ticket, and JOIN goes to every member; the packets kept for the ticket then apply (R410), an ABORT
among them first (R412). -/
def State.acceptLaunch (h : HeldLaunch) (s : State) : State :=
  let l := h.launch
  let rank := (l.rankOf s.module).getD 0
  let (cs, s1) := ({ s with coll.last := l.ticket, coll.ended := s.coll.ended.filter (· != l.ticket) } : State).takePending l.ticket
  let s2 : State := { s1 with coll.queued := s1.coll.queued ++ [h] }
  match cs.find? (fun c => c.opc == 5) with
  | some c => s2.queueFault h c.code 0 (some c.origin)
  | none =>
    let s3 := settleSend (fun bit d s => s.queueFault h bit d none) (s2.collControl l rank 1 l.digest 0 0 (l.others rank))
    cs.foldl (fun s c => match s.queuedOf l.ticket with | some g => s.applyQueued g c | none => s) s3

/-- Held launches whose PREV is COL_LAST are accepted, in arrival order (R408). -/
def State.retryHeld : Nat → State → State
  | 0, s => s
  | fuel + 1, s =>
    match s.coll.held.find? (fun h => h.launch.prev == s.coll.last) with
    | none => s
    | some h =>
      State.retryHeld fuel (({ s with coll.held := s.coll.held.filter (fun g => g.seq != h.seq) } : State).acceptLaunch h)

/-- A launch that has passed its format check (R407). -/
def State.orderLaunch (l : LRec) (seq tag : Nat) (s : State) : State :=
  let h : HeldLaunch := { launch := l, seq := seq, tag := tag }
  if l.loose && s.strict then s.looseRefused.refuseLaunch l seq tag 9 0 true
  else if l.ticket ≤ s.coll.last then s.refuseLaunch l seq tag 3 0 false
  else if l.prev ≠ s.coll.last then
    if 16 ≤ s.coll.held.length then s.refuseLaunch l seq tag 3 0 true
    else ({ s with coll.held := s.coll.held ++ [h] } : State).evtAdd .coll (engineOf (slotOf l.ticket)) 7 1
  else (s.acceptLaunch h).retryHeld 16

/-- The group table of a launch record: COUNT module numbers (R389). -/
def State.readGroup (bs : List Byte) (s : State) : Nat × List Nat × State :=
  let g := field bs 0x28 8
  if bitOn (field bs 0x15 1) 0 then
    if bits g 63 40 ≠ 0 then (0, [], s)
    else
      let n := bits g 11 0 + 1
      let (st, tb, t) := s.devRead (whoOf 8) (g / 4096 * 4096) (2 * n)
      (st, (List.range n).map (fun i => field tb (2 * i) 2), t)
  else (0, boxMembers g, s)

/-- COLL_LAUNCH (R388, R407, R550). It waits in COAST, where the engines do not run (R387). -/
def State.collLaunchCmd : State → State :=
  State.take (fun e => e.opcode == 0x50) (fun e => xIsDev (e.op 0x10 8) && xAddr (e.op 0x10 8) % 64 == 0 && e.zeros 0x18 0x40)
    (fun s e => s.clk.coast || s.xBusy (e.op 0x10 8) 128) (fun e s =>
    let (st, bs, t) := s.xRead e.tag (e.op 0x10 8) 128
    if st ≠ 0 then t.finishEntry e st 0
    else
      let (st2, ms, u) := t.readGroup bs
      if st2 ≠ 0 then u.finishEntry e st2 0
      else
        let l := launchOf bs ms
        let v : State := { u with hif.opened := u.hif.opened ++ [e.toOpen] }
        match u.launchFault bs l with
        | some off => v.refuseLaunch l e.seq e.tag 2 off false
        | none => (v.orderLaunch l e.seq e.tag).collSettle)

/-- COLL_HOLD_EXPIRY: a launch has been held longer than CROSS_US (R408). -/
def State.holdExpired (i : Nat) (s : State) : State :=
  match (if s.clk.coast then none else s.coll.held[i]?) with
  | none => s
  | some h => (({ s with coll.held := removeAt i s.coll.held } : State).refuseLaunch h.launch h.seq h.tag 3 0 true).collSettle

/-! ### A slot's start (R386, R400, R407, R413) -/

/-- Loaves of class 11, all or none. -/
def State.reserve (n : Nat) (s : State) : Option (List Nat × State) :=
  (List.range n).foldl (fun r _ => match r with
    | none => none
    | some (bs, s) => match s.alloc 11 2 none with
      | some (b, t) => some (bs ++ [b], t)
      | none => none) (some ([], s))

/-- The slot has its buffers, or waits for them; READY then goes to the senders of its first phase (R400, R413). -/
def State.startSlot (j : Nat) (again : Bool) (s : State) : State :=
  let x := s.slot j
  match s.missing x.launch x.others with
  | some d => s.collFault j 6 d 0 0 none
  | none =>
    match s.reserve (s.resv * x.streams) with
    | none => if again then s else s.evtAdd .coll (engineOf j) 6 1
    | some (bs, t) => (t.setSlot j { x with state := 2, loaves := bs }).collAdvance j

/-- COLL_SLOT_START: the oldest accepted collective of a free slot starts, or one that waits for buffers tries again (R400, R407). -/
def State.slotStart (j : Nat) (s : State) : State :=
  let x := s.slot j
  if s.clk.coast then s
  else if x.state = 1 then (s.startSlot j true).collSettle
  else if x.busy then s
  else match s.coll.queued.find? (fun h => slotOf h.launch.ticket == j) with
  | none => s
  | some h =>
    let s1 : State := { s with coll.queued := s.coll.queued.filter (fun g => g.launch.ticket != h.launch.ticket) }
    ((s1.setSlot j { state := 1, launch := h.launch, seq := h.seq, tag := h.tag, rank := (h.launch.rankOf s.module).getD 0
                     joins := h.joins, fins := h.fins, granted := h.granted }).startSlot j false).collSettle

/-! ### Chunks (R399 to R402, R406) -/

/-- The next chunk of a slot's stream to a member that may be sent now: (target, chunk number, phase, origin, first, count). -/
def Slot.nextTo (x : Slot) (d : Nat) : Option (Nat × Nat × Nat × Nat × Nat × Nat) :=
  let k := x.sent.num d
  match x.launch.chunkAt (x.launch.stream x.rank d) k with
  | none => none
  | some (p, q, first, count) =>
    let granted := if x.launch.multicast then (x.launch.peers x.rank p).all (fun r => decide (k < x.granted.num r)) else decide (k < x.granted.num d)
    let own := match x.ownPart q first count with | some (off, len) => x.launch.covered x.tiles off len | none => true
    if granted && own && (List.range p).all x.gotPhase then some (d, k, p, q, first, count) else none

/-- The next chunk a slot may send. -/
def Slot.nextChunk (x : Slot) : Option (Nat × Nat × Nat × Nat × Nat × Nat) :=
  if x.state = 3 then x.targets.findSome? x.nextTo else none

/-- A chunk sent (R399, R401, R413). In a multicast the low eight bits of the chunk number stand in ARG's bits 23:16 (log 42). -/
def State.sendChunk (j : Nat) (c : Nat × Nat × Nat × Nat × Nat × Nat) (s : State) : State :=
  let (d, k, p, q, first, count) := c
  let x := s.slot j
  let l := x.launch
  let ds := if l.multicast then l.peers x.rank p else [d]
  match s.missing l ds with
  | some m => s.collFault j 6 m 0 0 none
  | none =>
    if l.loose && s.strict then s.looseRefused.collFault j 9 0 0 0 none
    else
      match s.chunkData j q first count with
      | (0, data, t) =>
        let payload := chunkPayload l x.rank p first count data
        let t1 := t.setSlot j { x with sent := ds.foldl (fun m r => m.setNum r (k + 1)) x.sent }
        let t2 :=
          if l.multicast then
            let axis := ((l.axes[p]?).getD (0, 0, 0)).1
            let mask := ds.foldl (fun m r => setBit m (coordOf (l.members.getD r 0) axis)) 0
            (t1.injectLine l.loose (unitColl j) axis mask 3 3 (j * 2 ^ 20 + x.rank * 2 ^ 8 + k % 256) payload).1
          else (t1.collSends l x.rank 3 payload [(d, k)]).2
        (t2.evtAdd .coll (engineOf j) 2 1).collAdvance j
      | (_, _, t) => t.collFault j 8 0 0 (l.src + (match x.ownPart q first count with | some (off, _) => off | none => 0)) none

/-- The slot an engine serves next by weighted round robin, of those whose next chunk's input need not be waited for (R441): one with chunks left in its share of the round, else a new round starts (R406). -/
def State.nextSlot (s : State) (e : Nat) : Option (Nat × State) :=
  let ready := ((List.range 4).map (fun i => 4 * i + e)).filter (fun j => match (s.slot j).nextChunk with
    | some (_, _, _, q, first, count) => (match (s.slot j).ownPart q first count with
      | some (off, len) => !s.devBusy ((s.slot j).launch.src + off) len
      | none => true)
    | none => false)
  match ready.find? (fun j => decide (s.coll.round.num j < (s.slot j).launch.weight)) with
  | some j => some (j, s)
  | none => match ready with
    | j :: _ => some (j, { s with coll.round := ((List.range 4).map (fun i => 4 * i + e)).foldl (fun m i => m.setNum i 0) s.coll.round })
    | [] => none

/-- COLL_CHUNK_SEND (R399, R401, R406). -/
def State.chunkSend (e : Nat) (s : State) : State :=
  if s.clk.coast then s
  else match s.nextSlot e with
  | none => s
  | some (j, t) => match (t.slot j).nextChunk with
    | none => s
    | some c => (({ t with coll.round := t.coll.round.addNum j 1 } : State).sendChunk j c).collSettle

/-- The values of a chunk kept in the slot (R395, R397). -/
def Slot.store (x : Slot) (q first count : Nat) (data : List Byte) : Slot :=
  let l := x.launch
  let b := l.unitBytes
  let at' (i : Nat) : Nat := q * 2 ^ 40 + first + i
  if !reduces l.op then { x with outBytes := x.outBytes.write first (slice data 0 count) }
  else if l.red = 0 then
    { x with acc := (List.range count).foldl (fun m i => Sparse.set {} m (at' i) (Partial.ofBytes l.form (slice data (b * i) b))) x.acc }
  else { x with minmax := (List.range count).foldl (fun m i => m.setNum (at' i) (1 + leNat (slice data (b * i) b))) x.minmax }

/-- COLL_DATA: a chunk received by the slot that its ARG names (R386, R398 to R400, R414). It is checked before any byte of it is used. `upset`: 1 an
uncorrectable error in its buffer, 2 a residue mismatch in the engine's adders. In COAST the engines do not run (R387). -/
def State.dataIn (i upset : Nat) (s : State) : State :=
  match (if s.clk.coast then none else s.inboxAt i 3) with
  | none => s
  | some k =>
    let j := bits k.arg 39 36
    let rank := bits k.arg 35 24
    let s1 := s.takeInbox i k
    let x := s1.slot j
    let l := x.launch
    let data := k.payload.drop 32
    let total := x.got.foldl (fun n c => if c.1 / 4096 = rank then n + c.2 else n) 0
    let arg := bits k.arg 23 0
    let n := if k.mc then total else total + (arg + 2 ^ 24 + 2 ^ 23 - total % 2 ^ 24) % 2 ^ 24 - 2 ^ 23
    if x.state < 2 then s1
    else
      let s2 := s1.evtAdd .coll (engineOf j) 3 1
      if upset = 1 then s2.collFault j 8 0 0 0 none
      else if crc32c (k.payload.take 28 ++ data) ≠ field k.payload 28 4 then (s2.evtAdd .coll (engineOf j) 5 1).collFault j 7 rank n 0 none
      else if field k.payload 0 8 ≠ l.ticket then s2
      else if upset = 2 then s2.collFault j 10 0 0 0 none
      else
        let rank := field k.payload 8 2
        let phase := field k.payload 10 2
        let q := match l.chunkAt (l.stream rank x.rank) n with | some e => e.2.1 | none => rank
        let x1 := x.store q (field k.payload 0x10 8) (field k.payload 0x18 2) data
        let g := x.given.num rank + 1
        let x2 : Slot := { x1 with
          got := x1.got.addNum (4096 * rank + phase) 1, chunks := (x1.chunks + 1) % 2 ^ 24, given := x1.given.setNum rank g }
        (settleSend (fun bit d s => s.collFault j bit d 0 0 none)
          ((s2.setSlot j x2).collSends l x.rank 2 (controlRecord l.ticket 0 0 0) [(rank, g)])).collAdvance j

/-- COLL_TILE_READY: the tile counter has advanced (R402). -/
def State.tileReady (j : Nat) (s : State) : State :=
  let x := s.slot j
  let l := x.launch
  if !x.busy || !l.tiles || s.clk.coast then s
  else match s.physOf l.tileShape with
  | none => s
  | some p =>
    let v := ((s.block p).cnt l.tileCnt).value - l.tileBase
    ((s.setSlot j { x with tiles := max x.tiles v }).collAdvance j).collSettle

/-- COLL_TIMEOUT: no progress for the record's limit; a wait for buffers is not timed (R400, R411). -/
def State.collTimedOut (j : Nat) (s : State) : State :=
  let x := s.slot j
  if x.state < 2 || s.clk.coast then s else (s.collFault j 5 x.lateRank 0 0 none).collSettle

end Sys2Proof.Machine
end

