-- ==== Sys2Proof/Machine/Parse.lean ====
section
/-! DEFINITION. The switch core's parser, lookup keys, classifier, exact-match table and ingress meters (R277 to R286, R335 to R340;
08_switch_core_and_central_store.md, 09_traffic_management_and_time.md). -/

namespace Sys2Proof.Machine

/-! ### Parsing (R277 to R279) -/

/-- What the parser finds in a frame's first 128 bytes. -/
structure Parsed where
  /-- The L3 anchor. -/
  l3 : Nat
  /-- L3 kind. -/
  k3 : Nat
  /-- The L4 anchor, when valid. -/
  l4 : Option Nat
  /-- L4 kind. -/
  k4 : Nat
  /-- The PAY anchor, when valid. -/
  pay : Option Nat
  /-- Tags found. -/
  tags : Nat
  /-- TCI of the outer tag. -/
  tci : Nat
  /-- EtherType. -/
  etype : Nat
  /-- IPv4 fragment. -/
  frag : Bool
  /-- PERR. -/
  perr : Bool

/-- A big-endian field of the frame. -/
def beField (bs : List Byte) (off len : Nat) : Nat := beNat (slice bs off len)

/-- The value is a tag's TPID (R277). -/
def isTpid (v : Nat) : Bool := v == 0x8100 || v == 0x88A8

/-- The parser (R277, R278). A field below 0x0600 in the EtherType's place is no EtherType: L3 kind 0 (log 35). -/
def parseFrame (bytes : List Byte) : Parsed :=
  let bs := bytes.take 128
  let t1 := isTpid (beField bs 12 2)
  let t2 := t1 && isTpid (beField bs 16 2)
  let tags := if t2 then 2 else if t1 then 1 else 0
  let l3 := 14 + 4 * tags
  let etype := beField bs (l3 - 2) 2
  let k3 := if etype = 0x0800 then 1 else if etype = 0x86DD then 2 else if 0x0600 ≤ etype then 3 else 0
  let ihl := field bs l3 1 % 16
  let fragWord := beField bs (l3 + 6) 2
  let v4 := k3 == 1
  let err4 := v4 && decide (ihl < 5)
  let ip := v4 || k3 == 2
  let proto := if v4 then field bs (l3 + 9) 1 else field bs (l3 + 6) 1
  let a4 := if v4 then l3 + 4 * ihl else l3 + 40
  let port := proto == 6 || proto == 17
  let want4 := ip && !err4 && port && (!v4 || fragWord % 2 ^ 13 == 0)
  let far4 := want4 && decide (127 < a4)
  let l4 := if want4 && !far4 then some a4 else none
  let ap := if proto = 17 then a4 + 8 else a4 + 4 * (field bs (a4 + 12) 1 / 16)
  let farP := l4.isSome && decide (127 < ap)
  { l3 := l3, k3 := k3, l4 := l4
    k4 := if !ip then 0 else if proto = 6 then 1 else if proto = 17 then 2 else 3
    pay := if l4.isSome && !farP then some ap else none
    tags := tags, tci := if t1 then beField bs 14 2 else 0, etype := etype
    frag := v4 && fragWord % 2 ^ 14 != 0
    perr := err4 || far4 || farP }

/-- An anchor's position by code: 0 L2, 1 L3, 2 L4, 3 PAY. -/
def Parsed.anchor (p : Parsed) (code : Nat) : Option Nat :=
  if code = 0 then some 0 else if code = 1 then some p.l3 else if code = 2 then p.l4 else p.pay

/-- Bytes read relative to an anchor; an invalid anchor, byte 128 and beyond, and bytes past the frame's end read 0 (R278). -/
def Parsed.window (p : Parsed) (bytes : List Byte) (code off len : Nat) : List Byte :=
  match p.anchor code with
  | none => List.replicate len 0
  | some a => slice (bytes.take 128) (a + off) len

/-- The 8 meta bytes (R279). -/
def Parsed.metaBytes (p : Parsed) (port cls : Nat) : List Byte :=
  leBytes 1 port ++ leBytes 1 (cls + 8 * p.tags) ++
  leBytes 1 (p.k3 + 4 * p.k4 + 16 * b2n p.frag + 32 * b2n p.perr) ++ beBytes 2 (p.tci % 2 ^ 12) ++ beBytes 2 p.etype ++ [0]

/-! ### Keys (R280, R283, R284) -/

/-- The 640-bit key of a frame, byte 0 lowest. -/
def State.ternaryKey (s : State) (p : Parsed) (bytes : List Byte) (port cls : Nat) : Nat :=
  let w := s.reg .port port 0x410
  leNat (p.metaBytes port cls ++ (List.range 4).flatMap (fun i =>
    let f := bits w (14 * i + 13) (14 * i)
    slice (p.window bytes (bits f 1 0) (bits f 8 2) (bits f 13 9)) 0 18))

/-- The 24 bytes of an exact-match key under a profile. -/
def State.profileKey (s : State) (p : Parsed) (bytes : List Byte) (port k : Nat) : List Byte :=
  let v := s.reg .sw 0 (0x100 + 8 * k)
  slice (leBytes 1 (bits v 7 0) ++ (if bitOn v 36 then leBytes 1 port else []) ++
    p.window bytes (bits v 9 8) (bits v 16 10) (bits v 21 17) ++ p.window bytes (bits v 23 22) (bits v 30 24) (bits v 35 31)) 0 24

/-- The two buckets of a key (R283). -/
def emBuckets (key : List Byte) : Nat × Nat :=
  let h := crc32c key
  let b1 := bits h 13 0
  let x := bits h 27 14 ^^^ b1
  (b1, if x = b1 then b1 ^^^ 1 else x)

/-- The positions of a key's two buckets, in the order they are filled. -/
def emPlaces (key : List Byte) : List Nat :=
  let (b1, b2) := emBuckets key
  (List.range 4).map (4 * b1 + ·) ++ (List.range 4).map (4 * b2 + ·)

/-! ### Results (R281) -/

/-- VALID. -/
def resValid (r : Nat) : Bool := bitOn r 0
/-- OUT_KIND. -/
def resKind (r : Nat) : Nat := bits r 55 54
/-- OUT. -/
def resOut (r : Nat) : Nat := bits r 53 42
/-- SFT_EN. -/
def resSft (r : Nat) : Bool := bitOn r 41
/-- SIFTER. -/
def resSifter (r : Nat) : Nat := bits r 40 36
/-- SLOT. -/
def resSlot (r : Nat) : Nat := bits r 35 32
/-- Context A, or 0xFFFF. -/
def resCtx (r : Nat) : Nat := if bitOn r 31 then bits r 30 18 else 0xFFFF

/-- The result uses no reserved bit or encoding (R281, R285). -/
def resOk (r : Nat) : Bool := bits r 63 61 == 0 && resKind r != 3 && (resKind r != 0 || decide (resOut r < 128))

/-- An exact-match entry's result is one SW_EM_INSERT and SW_EM_UPDATE take (R285). -/
def emResOk (r : Nat) : Bool := resOk r && bits r 60 56 == 0 && resValid r

/-! ### Tables -/

/-- A ternary entry. -/
def State.tcamE (s : State) (i : Nat) : TcamE := Sparse.get {} s.sw.tcam i
/-- An exact-match entry. -/
def State.emE (s : State) (i : Nat) : EmE := Sparse.get {} s.sw.em i
/-- A multicast group. -/
def State.mcE (s : State) (g : Nat) : McE := Sparse.get {} s.sw.mc g

/-- The lowest ternary entry that matches (R280, R321). -/
def State.ternaryHit (s : State) (key : Nat) : Option Nat :=
  (s.sw.tcam.find? (fun c => resValid c.2.result && !c.2.bad && (key &&& c.2.mask) == (c.2.value &&& c.2.mask))).map (fun c => c.2.result)

/-- Where the exact-match table holds a key. -/
def State.emFind (s : State) (key : List Byte) : Option Nat :=
  (emPlaces key).find? (fun i => let e := s.emE i; resValid e.result && !e.bad && e.key == leNat key)

/-- The result of an exact-match lookup. -/
def State.emHit (s : State) (key : List Byte) : Option Nat := (s.emFind key).map (fun i => (s.emE i).result)

/-- A frame's lookup: the result in use, or none on a ternary miss, and the state with the counts (R280, R282, R322). -/
def State.lookup (p : Parsed) (bytes : List Byte) (port cls : Nat) (s : State) : Option Nat × State :=
  match s.ternaryHit (s.ternaryKey p bytes port cls) with
  | none => (none, s.evtAdd .sw 0 0 1)
  | some r =>
    if !bitOn r 60 then (some r, s)
    else match s.emHit (s.profileKey p bytes port (bits r 59 56)) with
    | some e => (some e, s.evtAdd .sw 0 1 1)
    | none => (some r, s)

/-- Context B of a frame: the second lookup, on the bytes the program's KEY_B names (R226, R284). -/
def State.contextB (prog : Option Prog) (bytes : List Byte) (s : State) : Nat × State :=
  match prog with
  | none => (0xFFFF, s)
  | some g =>
    if !bitOn g.keyB 15 then (0xFFFF, s)
    else
      match s.emHit (slice (leBytes 1 0xFF ++ slice (bytes.take 128) (bits g.keyB 6 0) (bits g.keyB 11 8 + 1)) 0 24) with
      | some e => (resCtx e, s.evtAdd .sw 0 1 1)
      | none => (0xFFFF, s)

/-! ### Ingress meters (R335 to R340) -/

/-- A byte in a bucket's units (R336). -/
def byteUnits : Nat := 8000000

/-- A meter of a port die. -/
def State.meter (s : State) (k : Nat) : Meter := Sparse.get {} s.sw.meters k
/-- A meter replaced. -/
def State.setMeter (k : Nat) (m : Meter) (s : State) : State := { s with sw.meters := Sparse.set {} s.sw.meters k m }

/-- RFC 2698 rather than RFC 2697. -/
def Meter.twoRate (m : Meter) : Bool := bitOn m.ctrl 0
/-- Colour-aware. -/
def Meter.aware (m : Meter) : Bool := bitOn m.ctrl 1
/-- RED_DROP. -/
def Meter.redDrop (m : Meter) : Bool := bitOn m.ctrl 2
/-- YEL_DISCARD. -/
def Meter.yelDiscard (m : Meter) : Bool := bitOn m.ctrl 3

/-- The buckets credited up to a stamp (R336). -/
def Meter.credit (m : Meter) (stamp : Nat) : Meter :=
  let dt : Int := match m.last with | some l => ((stamp - l : Nat) : Int) | none => 0
  let cap (n : Nat) : Int := (n * byteUnits : Nat)
  if m.twoRate then
    { m with tc := min (cap m.cbs) (m.tc + dt * m.cir), te := min (cap m.ebs) (m.te + dt * m.pir), last := some stamp }
  else
    let full := m.tc + dt * m.cir
    { m with tc := min (cap m.cbs) full, te := min (cap m.ebs) (m.te + max 0 (full - cap m.cbs)), last := some stamp }

/-- A meter's colour for a length, with the buckets that paid as bits 0 (first) and 1 (second) (R335 to R338). -/
def Meter.colour (m : Meter) (len : Nat) (preYellow : Bool) : Nat × Nat :=
  let n : Int := (len * byteUnits : Nat)
  let yellow := m.aware && preYellow
  if m.twoRate then
    if m.te < n then (2, 0) else if yellow || decide (m.tc < n) then (1, 2) else (0, 3)
  else if !yellow && decide (n ≤ m.tc) then (0, 1) else if n ≤ m.te then (1, 2) else (2, 0)

/-- A length charged to the buckets that pay. -/
def Meter.charge (m : Meter) (paid : Nat) (units : Int) : Meter :=
  { m with tc := if bitOn paid 0 then m.tc - units else m.tc, te := if bitOn paid 1 then m.te - units else m.te }

/-- A meter decides a frame's colour: the colour, and what it charged (R337). -/
def State.meterFrame (k len stamp : Nat) (preYellow : Bool) (s : State) : Nat × Option (Nat × Nat × Nat) × State :=
  let m := (s.meter k).credit stamp
  let (c, paid) := m.colour len preYellow
  let m2 := m.charge paid (len * byteUnits : Nat)
  (c, some (k, len, paid), s.setMeter k { m2 with red := if c = 2 then min max64 (m2.red + 1) else m2.red })

/-- At a frame's end, the difference from the length charged (R337). -/
def State.meterEnd (charged : Option (Nat × Nat × Nat)) (len : Nat) (s : State) : State :=
  match charged with
  | none => s
  | some (k, l, paid) =>
    let m := (s.meter k).charge paid (((len : Int) - l) * byteUnits)
    let low : Int := -(9216 * byteUnits : Nat)
    s.setMeter k { m with
      tc := if bitOn paid 0 then max low (min (m.cbs * byteUnits : Nat) m.tc) else m.tc
      te := if bitOn paid 1 then max low (min (m.ebs * byteUnits : Nat) m.te) else m.te }

/-- The length a meter uses before a frame's end (R337). -/
def meterLength (p : Parsed) (bytes : List Byte) (ended : Bool) : Nat :=
  if ended then bytes.length
  else if p.k3 = 1 then p.l3 + beField (bytes.take 128) (p.l3 + 2) 2 + 4
  else if p.k3 = 2 then p.l3 + 40 + beField (bytes.take 128) (p.l3 + 4) 2 + 4
  else 9216

end Sys2Proof.Machine
end

