-- ==== Sys2Proof/Machine/FrameOps.lean ====
section
/-! DEFINITION. Frames in the central store and the traffic manager: cut-through, order, egress queues, the scheduler, gates, shapers,
ageing and PFC (R287 to R294, R305, R313, R325 to R334; 08_switch_core_and_central_store.md, 09_traffic_management_and_time.md). -/

namespace Sys2Proof.Machine

/-! ### Frames -/

/-- A stored frame by the model's number. -/
def State.frame (s : State) (id : Nat) : Option Frame := s.sw.frames.find? (fun f => f.id == id)
/-- A stored frame replaced. -/
def State.setFrame (f : Frame) (s : State) : State :=
  { s with sw.frames := s.sw.frames.map (fun g => if g.id == f.id then f else g) }
/-- A stored frame changed by a function. -/
def State.onFrame (id : Nat) (g : Frame → Frame) (s : State) : State :=
  match s.frame id with | some f => s.setFrame (g f) | none => s

/-- Something still needs the frame (R294, R305); a metered one is kept to its end, when its length is charged (R337). -/
def Frame.needed (f : Frame) : Bool :=
  !f.decided || !f.outs.isEmpty || decide (0 < f.refs) || f.held || !f.ct.isEmpty || decide (0 < f.recs) || (!f.complete && f.meter.isSome)

/-- The frame being received on a port is let go: the rest of it is swallowed (0 stands for a frame that is not kept). -/
def State.swallow (f : Frame) (s : State) : State :=
  if f.complete then s else if (s.port f.port).rx = some f.id then s.setPort f.port { s.port f.port with rx := some 0 } else s

/-- A frame leaves the central store and its buffers go back (R305). -/
def State.removeFrame (f : Frame) (s : State) : State :=
  (({ s with sw.frames := s.sw.frames.filter (fun g => g.id != f.id) } : State).swallow f).freeBufs (f.port / 32) f.bufs

/-- A frame that nothing needs any more is removed. -/
def State.reap (id : Nat) (s : State) : State :=
  match s.frame id with
  | some f => if f.needed then s else s.removeFrame f
  | none => s

/-! ### Gates (R329 to R332) -/

/-- TM_GATE_CTRL.EN. -/
def State.gateEn (s : State) (n : Nat) : Bool := s.fld .port n 0x580 0 0 == 1

/-- The cycle start at or before the current entry's start. -/
def Gate.cycleStart (g : Gate) : Nat := g.base + (g.start - g.base) / g.cycle * g.cycle

/-- When an entry that began at a time ends (R329). -/
def gateEnd (oper : List (Nat × Nat)) (cs cycle i st : Nat) : Nat :=
  if oper.length ≤ i + 1 then cs + cycle else min (st + (oper.getD i (0, 0)).2) (cs + cycle)

/-- When the current entry ends. -/
def Gate.entryEnd (g : Gate) : Nat := gateEnd g.oper g.cycleStart g.cycle g.entry g.start

/-- The administrative list (R329, R346). -/
def State.adminList (s : State) (n : Nat) : List (Nat × Nat) :=
  (List.range (s.fld .port n 0x580 14 8)).map (fun i => (s.fld .port n (0x600 + 8 * i) 39 32, s.fld .port n (0x600 + 8 * i) 31 0))

/-- A class's gate stays open for `need` tenths of a ns from `t`, entry by entry; the list that a pending change puts in force goes on from its
own first cycle start, wherever in the old cycle that falls (R330, R331). -/
def gateStaysOpen (change : Option (Nat × List (Nat × Nat) × Nat)) (c : Nat) :
    Nat → List (Nat × Nat) → Nat → Nat → Nat → Nat → Nat → Nat → Bool
  | 0, _, _, _, _, _, _, _ => false
  | fuel + 1, oper, cycle, cs, i, st, t, need =>
    let e := gateEnd oper cs cycle i st
    let next := change.filter (fun x => decide (x.1 ≤ e))
    let stop := match next with | some x => x.1 | none => e
    if t < stop ∧ !bitOn (oper.getD i (0, 0)).1 c then false
    else if t < stop ∧ need ≤ 10 * (stop - t) then true
    else
      let left := need - 10 * (stop - t)
      match next with
      | some (at', new, cyc) => gateStaysOpen none c fuel new cyc at' 0 at' (max t at') left
      | none =>
        if e = cs + cycle then gateStaysOpen change c fuel oper cycle e 0 e (max t e) left
        else gateStaysOpen change c fuel oper cycle cs (i + 1) e (max t e) left

/-- The guard band of a port in tenths of a ns, by SPEED (R330, R350). -/
def guardTenths (speed : Nat) : Nat := [7389, 3694, 1847, 924].getD speed 7389

/-- SPEED of a port. -/
def State.speed (s : State) (n : Nat) : Nat := s.fld .port n 0x810 4 3

/-- A class's gate is open now (R329). -/
def State.gateBit (s : State) (n c : Nat) : Bool :=
  let g := (s.port n).gate
  !s.gateEn n || (!g.closed && bitOn (g.oper.getD g.entry (0, 0)).1 c)

/-- A class's gate is open and stays open for the guard band (R330). -/
def State.gateOpen (s : State) (n c : Nat) : Bool :=
  let g := (s.port n).gate
  !s.gateEn n || (!g.closed && !g.oper.isEmpty &&
    gateStaysOpen (g.changeAt.map (fun t => (t, s.adminList n, s.fld .port n 0x590 31 0))) c 2048 g.oper g.cycle g.cycleStart g.entry
      g.start s.time.now (guardTenths (s.speed n)))

/-- The first cycle start of a schedule at or after a time. -/
def cycleAt (base cycle t : Nat) : Nat := if t ≤ base then base else base + ceilDiv (t - base) cycle * cycle

/-- The replacement due puts the administrative list in force (R331). -/
def State.gateReplace (n at' : Nat) (s : State) : State :=
  let g := (s.port n).gate
  let g2 : Gate := { g with
    oper := s.adminList n, base := s.reg .port n 0x588, cycle := s.fld .port n 0x590 31 0
    entry := 0, start := at', closed := false, changeAt := none }
  (s.setPort n { s.port n with gate := g2 }).setReg .port n 0x580 (clearBit (s.reg .port n 0x580) 1)

/-- GATE_ENTRY_CHANGE: what is due by module time takes effect (R329, R331, R332). -/
def State.gateChange (n : Nat) (s : State) : State :=
  let g := (s.port n).gate
  let put (g : Gate) : State := s.setPort n { s.port n with gate := g }
  match g.changeAt with
  | some t => if t ≤ s.time.now then s.gateReplace n t else step' g put
  | none => step' g put
where
  /-- The next entry, or the first of the next cycle. -/
  step' (g : Gate) (put : Gate → State) : State :=
    if g.oper.isEmpty then put g
    else if g.closed then
      if g.start ≤ s.time.now then put { g with closed := false, entry := 0 } else put g
    else
      let e := g.entryEnd
      if s.time.now < e then put g
      else if e = g.cycleStart + g.cycle then put { g with entry := 0, start := e }
      else put { g with entry := g.entry + 1, start := e }

/-- Where a list stands at a time of a cycle that began at `cs`: the entry and its start. -/
def entryAt (oper : List (Nat × Nat)) (cs cycle t : Nat) : Nat → Nat → Nat → Nat × Nat
  | 0, i, st => (i, st)
  | fuel + 1, i, st =>
    let e := gateEnd oper cs cycle i st
    if t < e ∨ oper.length ≤ i + 1 then (i, st) else entryAt oper cs cycle t fuel (i + 1) e

/-- A schedule at the position that module time gives it (R329): before its first cycle start every gate is closed. -/
def Gate.seek (t : Nat) (g : Gate) : Gate :=
  if g.oper.isEmpty then g
  else if t < g.base then { g with closed := true, entry := 0, start := g.base }
  else
    let cs := g.base + (t - g.base) / g.cycle * g.cycle
    let (i, st) := entryAt g.oper cs g.cycle t 64 0 cs
    { g with closed := false, entry := i, start := st }

/-- Module time has been stepped: an enabled schedule waits for the next cycle start with every gate closed (R332); one that is not enabled
keeps its place in module time (R329). A change whose cycle start the step has passed waits for the next one of its own schedule. -/
def State.gateStepped (s : State) (n : Nat) : State :=
  let g := (s.port n).gate
  let now := s.time.now
  let at' := g.changeAt.map (fun t => if t ≤ now then cycleAt (s.reg .port n 0x588) (s.fld .port n 0x590 31 0) now else t)
  let g1 : Gate := { g with changeAt := at' }
  if !s.gateEn n then s.setPort n { s.port n with gate := g1.seek now }
  else
    let g2 : Gate := if g.oper.isEmpty then g1 else { g1 with closed := true, entry := 0, start := cycleAt g.base g.cycle now }
    (s.setPort n { s.port n with gate := g2 }).setReg .port n 0x580 (setBit (s.reg .port n 0x580) 2)

/-! ### Shapers (R333, R334) -/

/-- A shaper of a port. -/
def Port.shaper (x : Port) (c : Nat) : Shaper := Sparse.get {} x.shapers c

/-- The class's shaper permits a start. -/
def Port.shaperOk (x : Port) (c : Nat) : Bool := !(x.shaper c).en || decide (0 ≤ (x.shaper c).tokens)

/-- A copy whose length is not known yet starts: it is charged at its end as if at its start. -/
def Port.shapeOpen (x : Port) (c : Nat) : Port :=
  let h := x.shaper c
  if h.en then { x with shapers := Sparse.set {} x.shapers c { h with owing := true, most := none } } else x

/-- A departing copy takes its wire length from its class's bucket (R333). One that started before its length was known has left the bucket
without a cap since; the least of the caps met since bounds what is left. -/
def Port.shape (x : Port) (c wire : Nat) : Port :=
  let h := x.shaper c
  let t : Int := h.tokens - (wire * byteUnits : Nat)
  if h.owing then
    { x with shapers := Sparse.set {} x.shapers c { h with owing := false, most := none, tokens := match h.most with | some m => min m t | none => t } }
  else if h.en then { x with shapers := Sparse.set {} x.shapers c { h with tokens := t } } else x

/-- One shaper at a refill: what was written takes effect, then tokens are added and capped (R333, R334). While the charge of a copy that has
started is open, the cap is kept beside the tokens. -/
def Shaper.refill (h : Shaper) (v ns : Nat) : Shaper :=
  let en := bitOn v 63
  let rate := bits v 55 26
  let burst := bits v 23 0
  let cap : Int := (burst * byteUnits : Nat)
  let add : Int := if en then (rate * ns : Nat) else 0
  if en && !h.en then { en := en, rate := rate, burst := burst, tokens := min cap add }
  else if h.owing then
    { en := en, rate := rate, burst := burst, owing := true, tokens := h.tokens + add
      most := some (match h.most with | some m => min cap (m + add) | none => cap) }
  else { en := en, rate := rate, burst := burst, tokens := min cap (h.tokens + add) }

/-- SHAPER_REFILL (R333, R334): the interval that has passed is the one in force. -/
def State.refill (n : Nat) (s : State) : State :=
  let x := s.port n
  let ns := x.refillNs
  s.setPort n { x with
    shapers := (List.range 8).foldl (fun m c => Sparse.set {} m c ((x.shaper c).refill (s.reg .port n (0x540 + 8 * c)) ns)) x.shapers
    refillNs := s.fld .port n 0x510 16 0 }

/-! ### Egress queues (R291, R294, R307, R325) -/

/-- A class's queue. -/
def Port.queue (x : Port) (c : Nat) : List Copy := Sparse.get [] x.queues c
/-- A class's queue replaced; an empty one has no deficit (R327). -/
def Port.setQueue (x : Port) (c : Nat) (q : List Copy) : Port :=
  { x with queues := Sparse.set [] x.queues c q, deficit := if q.isEmpty then x.deficit.setNum c 0 else x.deficit }

/-- Wire length of a frame length (R327). -/
def wireLen (len : Nat) : Nat := len + 20

/-- The pages of the copies at the head of a queue are asked for (R297). -/
def State.prefetch (n c : Nat) (s : State) : State :=
  (((s.port n).queue c).take 4).foldl (fun s k => match s.frame k.frame with
    | some f => f.bufs.foldl (fun s q => if s.pageResident (pageOfPtr q) then s else s.touchPage (pageOfPtr q)) s
    | none => s) s

/-- A copy queued to an output; one over OUT_LIMIT is dropped alone: a copy of a group is counted as not made (R294), another as an allocation
refused (R307). -/
def State.enqueue (f : Frame) (s : State) (o : Nat) : State :=
  if !s.outBelow o then (if f.group then s.evtAdd .sw 0 4 1 else s.evtAdd .pnt 0 0 1)
  else
    let x := s.port o
    let k : Copy := { frame := f.id, stamp := f.stamp, inPort := f.port, seq := f.seq, len := f.bytes.length, cls := f.cls }
    let s1 := (s.setPort o (x.setQueue f.ocls (x.queue f.ocls ++ [k]))).onFrame f.id (fun g => { g with refs := g.refs + 1 })
    ({ s1 with pnt.outBytes := s1.pnt.outBytes.addNum o (s1.bufBytes f.bufs) } : State).prefetch o f.ocls

/-- A copy leaves its queue without being sent, or as it is sent: its claim on the output and on the frame ends. -/
def State.dequeue (n c : Nat) (k : Copy) (s : State) : State :=
  let x := s.port n
  let s1 := s.setPort n (x.setQueue c (x.queue c).tail)
  let size := match s1.frame k.frame with | some f => s1.bufBytes f.bufs | none => 0
  let s2 : State := { s1 with pnt.outBytes := s1.pnt.outBytes.subNum n size }
  s2.onFrame k.frame (fun g => { g with refs := g.refs - 1 })

/-- A copy is discarded and counted as aged out (R313). -/
def State.ageOut (n c : Nat) (k : Copy) (s : State) : State := (((s.dequeue n c k).prefetch n c).evtAdd .pnt 0 2 1).reap k.frame

/-- A copy's age exceeds AGE_US of its store class (R313). -/
def State.aged (s : State) (k : Copy) : Bool :=
  let lim := s.fld .pnt 0 (0x200 + 8 * k.cls) 31 16
  decide (k.cls < 8) && lim != 0 && decide (1000 * lim < s.time.now - k.stamp)

/-! ### Order and cut-through (R287 to R291) -/

/-- An earlier frame from the same input that may still go to the output before this one (R291). -/
def State.heldBack (s : State) (f : Frame) (o : Nat) : Bool :=
  s.sw.frames.any (fun g => g.port == f.port && decide (g.id < f.id) && !g.held && g.outs.contains o && (!g.decided || g.ocls == f.ocls))

/-- The conditions of R287 for a copy. -/
def State.cutThrough (s : State) (f : Frame) (o : Nat) : Bool :=
  let x := s.port o
  s.fld .port f.port 0x400 0 0 == 1 && s.fld .port o 0x400 0 0 == 1 &&
  s.ethUp o && decide (s.speed o ≤ s.speed f.port) &&
  !s.sw.frames.any (fun g => !g.complete && g.ct.contains o) && (List.range 8).all (fun c => (x.queue c).isEmpty) &&
  s.gateOpen o f.ocls && x.shaperOk f.ocls && !s.heldBack f o

/-- The bytes of a copy marked bad at its tail: it ends with the complement of the correct FCS over the bytes sent (R289). -/
def markedBytes (bytes : List Byte) : List Byte :=
  let body := (bytes.take 9216).take (min 9216 bytes.length - 4)
  body ++ leBytes 4 (notw 32 (crc32 body))

/-- A copy departs on an output (R289). -/
def State.depart (f : Frame) (s : State) (o : Nat) : State :=
  let bytes := if f.bad then markedBytes f.bytes else f.bytes
  let s1 : State := { s with out.frames := s.out.frames ++ [(o, bytes, f.bad)] }
  let s2 := s1.setPort o ((s1.port o).shape f.ocls (wireLen bytes.length))
  if f.bad then s2.evtAdd .sw 0 3 1 else s2

/-- Whole frames of an input that are settled take their places in the queues, in arrival order (R288, R291). -/
def State.flushFrames (s : State) (ids : List Nat) : State :=
  ids.foldl (fun s id => match s.frame id with
    | none => s
    | some f =>
      if !f.decided || f.held || !f.complete then s
      else if f.bad then (s.setFrame { f with outs := [] }).reap id
      else
        let go := f.outs.filter (fun o => !s.heldBack f o)
        let s1 := s.setFrame { f with outs := f.outs.filter (fun o => s.heldBack f o) }
        (go.foldl (State.enqueue f) s1).reap id) s

/-- The frames of an input, in arrival order. -/
def State.framesOf (s : State) (p : Nat) : List Nat := (s.sw.frames.filter (fun f => f.port == p)).map Frame.id

/-- The frames of an input move on. -/
def State.flushPort (p : Nat) (s : State) : State := s.flushFrames (s.framesOf p)

/-- A frame's verdict is settled: each copy is tested once for cut-through, unless it comes from a hold, and the rest wait their turn
(R287, R288, R291). -/
def State.settleFrame (id cls : Nat) (outs : List Nat) (s : State) : State :=
  match s.frame id with
  | none => s
  | some f0 =>
    let f : Frame := { f0 with decided := true, outs := outs, ocls := cls }
    let s1 := s.setFrame f
    let cut := if f.complete && f.bad then [] else outs.filter (s1.cutThrough f)
    let s2 := s1.setFrame { f with outs := outs.filter (fun o => !cut.contains o), ct := if f.complete then [] else cut }
    let s3 := s2.evtAdd .sw 0 2 cut.length
    let s4 := if f.complete then cut.foldl (State.depart f) s3
      else cut.foldl (fun s o => s.setPort o ((s.port o).shapeOpen f.ocls)) s3
    (s4.flushPort f.port).reap id

/-- A frame released from a hold joins its queues when it is released, store-and-forward (R256, R287, R291). -/
def State.releaseFrame (id : Nat) (s : State) : State :=
  match s.frame id with
  | none => s
  | some f =>
    if !f.complete then s.setFrame { f with held := false }
    else if f.bad then (s.setFrame { f with held := false, outs := [] }).reap id
    else (f.outs.foldl (State.enqueue f) (s.setFrame { f with held := false, outs := [] })).reap id

/-- A frame is dropped by its lookup or verdict. -/
def State.dropFrame (id : Nat) (s : State) : State :=
  match s.frame id with
  | none => s
  | some f => ((s.setFrame { f with decided := true, outs := [], held := false }).flushPort f.port).reap id

/-- The output ports of a result: those of a multicast group that are up, without the input unless HAIRPIN is set. The number is of the
copies not made for ports that are down (R281, R294). -/
def State.outputs (s : State) (r inPort : Nat) : List Nat × Nat :=
  if resKind r = 0 then ([resOut r], 0)
  else if resKind r = 1 then
    let g := s.mcE (resOut r)
    if g.bad then ([], 0)
    else
      let named := (onesOf 128 g.mask).filter (fun o => g.hairpin || o != inPort)
      (named.filter s.ethUp, (named.filter (fun o => !s.ethUp o)).length)
  else ([], 0)

/-! ### The scheduler (R326, R327) -/

/-- A class of a port is eligible (R326). -/
def State.eligible (s : State) (n c : Nat) : Bool :=
  let x := s.port n
  match x.queue c with
  | [] => false
  | k :: _ =>
    (match s.frame k.frame with | some f => s.bufsResident f.bufs | none => true) &&
    s.gateOpen n c && x.shaperOk c && !bitOn x.paused c

/-- A class that is not eligible now has its deficit set to 0 (R327). -/
def State.keepDeficits (n : Nat) (s : State) : State :=
  let x := s.port n
  s.setPort n { x with deficit := (List.range 8).foldl (fun d c => if s.eligible n c then d else d.setNum c 0) x.deficit }

/-- Wire length of a class's head copy. -/
def Port.headWire (x : Port) (c : Nat) : Nat := match x.queue c with | k :: _ => wireLen k.len | [] => 0

/-- One scan of a round (R327). -/
def drrScan (q : Nat → Nat) (wire : Nat → Nat) : List Nat → Sparse Nat → Nat → Option Nat × Sparse Nat × Nat
  | [], d, v => (none, d, v)
  | c :: cs, d, v =>
    let d1 := if bitOn v c then d else d.addNum c (64 * q c)
    let v1 := setBit v c
    if wire c ≤ d1.num c then (some c, d1.setNum c (d1.num c - wire c), v1) else drrScan q wire cs d1 v1

/-- Rounds until a class sends (R327). -/
def drrRounds (q : Nat → Nat) (wire : Nat → Nat) (cs : List Nat) : Nat → Sparse Nat → Nat → Option Nat × Sparse Nat × Nat
  | 0, d, v => (none, d, v)
  | fuel + 1, d, v =>
    match drrScan q wire cs d v with
    | (some c, d1, v1) => (some c, d1, v1)
    | (none, d1, _) => drrRounds q wire cs fuel d1 0

/-- The class an idle transmitter selects, and the port's scheduler state with the choice made (R327). -/
def State.pickClass (s : State) (n : Nat) : Option Nat × Port :=
  let x := s.port n
  let ok := (List.range 8).filter (s.eligible n)
  let x1 : Port := { x with deficit := (List.range 8).foldl (fun d c => if ok.contains c then d else d.setNum c 0) x.deficit }
  let strict := s.fld .port n 0x500 39 32
  match ok.reverse.find? (bitOn strict) with
  | some c => (some c, x1)
  | none =>
    let order := ((List.range 8).map (fun i => (x.lastServed + 1 + i) % 8)).filter (fun c => ok.contains c && !bitOn strict c)
    if order.isEmpty then (none, x1)
    else
      match drrRounds (fun c => s.fld .port n 0x508 (8 * c + 7) (8 * c)) x.headWire order 200 x1.deficit x1.visited with
      | (some c, d, v) => (some c, { x1 with deficit := d, visited := v, lastServed := c })
      | (none, _, _) => (none, x1)

/-- The transmitter of a port is busy with a cut-through copy. -/
def State.txBusy (s : State) (n : Nat) : Bool := s.sw.frames.any (fun f => !f.complete && f.ct.contains n)

/-- TX_SELECT (R313, R326, R327): a selected copy that is too old is discarded and the selection goes on. -/
def State.txSelect (n : Nat) : Nat → State → State
  | 0, s => s
  | fuel + 1, s =>
    match s.pickClass n with
    | (none, x) => s.setPort n x
    | (some c, x) =>
      match (s.port n).queue c with
      | [] => s
      | k :: _ =>
        if s.aged k then State.txSelect n fuel ((s.ageOut n c k).keepDeficits n)
        else
          let s1 := (s.setPort n x).dequeue n c k
          match s1.frame k.frame with
          | none => s1
          | some f => ((((s1.touchBufs f.bufs).depart { f with ocls := c } n).prefetch n c).reap k.frame).keepDeficits n

/-- Copies queued on a port. -/
def State.queuedCopies (s : State) (n : Nat) : Nat := ((s.port n).queues.map (fun c => c.2.length)).sum

/-- AGE_CHECK (R313): the head copy of each queue that is paused or gated shut. -/
def State.ageCheck (n : Nat) (s : State) : State :=
  State.keepDeficits n <| (List.range 8).foldl (fun s c =>
    let x := s.port n
    if !bitOn x.paused c && s.gateBit n c then s
    else match x.queue c with
      | k :: _ => if s.aged k then s.ageOut n c k else s
      | [] => s) s

/-- Every copy queued to a port is discarded and counted as aged out (R349). -/
def State.clearQueues (n : Nat) (s : State) : State :=
  (List.range 8).foldl (fun s c => ((s.port n).queue c).foldl (fun s k => s.ageOut n c k) s) s

/-! ### The end of a frame (R288, R289, R301, R337) -/

/-- The buffers a frame of a length needs beyond those it has: a Roll past 256 bytes, a Loaf past 2,304 (R301). None where one is refused. -/
def State.growFrame (f : Frame) (len : Nat) (s : State) : Option (List Nat × State) :=
  let want := (if 256 < len ∧ f.bufs.length < 2 then [1] else []) ++ (if 2304 < len ∧ f.bufs.length < 3 then [2] else [])
  want.foldl (fun r p => match r with
    | none => none
    | some (bs, s) => match s.alloc f.cls p (some f.port) with
      | some (b, t) => some (bs ++ [b], t)
      | none => none) (some ([], s))

/-- The rest of a frame arrives, whole or cut short (R288, R289, R300, R307, R337). A central-store error is met in the last of its buffers
(log 58). -/
def State.endFrame (port : Nat) (data : List Byte) (good : Bool) (upset : Nat) (s : State) : State :=
  match (s.port port).rx with
  | none => s
  | some id =>
    let s0 := s.setPort port { s.port port with rx := none }
    match s0.frame id with
    | none => s0
    | some f0 =>
      let all := f0.bytes ++ data
      let long := decide (9216 < all.length)
      let bytes := all.take 9216
      let (extra, refused, s1) := match s0.growFrame f0 bytes.length with
        | some (bs, t) => (bs, false, t)
        | none => ([], true, s0.evtAdd .pnt 0 0 1)
      let s2 := s1.storeError (port / 32) 0 upset ((f0.bufs ++ extra).getLastD 0)
      let r288 := long || !good
      let bad := r288 || refused || upset == 2 || f0.bad
      let dropped := f0.decided && f0.outs.isEmpty && f0.ct.isEmpty && !f0.held
      let f : Frame := { f0 with bytes := bytes, complete := true, bad := bad, bufs := f0.bufs ++ extra, ct := [] }
      let s3 := (s2.setFrame f).meterEnd f.meter all.length
      let s4 := if r288 && !dropped && (f0.ct.isEmpty || !f0.outs.isEmpty) then s3.evtAdd .sw 0 5 1 else s3
      ((f0.ct.foldl (State.depart f) s4).flushPort port).reap id

end Sys2Proof.Machine
end

