-- ==== Sys2Proof/Machine/Ilnus.lean ====
section
/-! DEFINITION. Ilnus, the Sifters' instruction set: fields, load checks, the bound S, and the execution of a run (R244 to R256, R260 to R265;
07_sifter_stream_units.md). -/

namespace Sys2Proof.Machine

/-! ### Fields of an instruction word (R245) -/

/-- OP. -/
def insOp (w : Nat) : Nat := bits w 63 56
/-- D. -/
def insD (w : Nat) : Nat := bits w 55 52
/-- A. -/
def insA (w : Nat) : Nat := bits w 51 48
/-- B. -/
def insB (w : Nat) : Nat := bits w 47 44
/-- I. -/
def insI (w : Nat) : Bool := bitOn w 43
/-- X. -/
def insX (w : Nat) : Nat := bits w 42 32
/-- IMM. -/
def insImm (w : Nat) : Nat := bits w 31 0
/-- IMM sign-extended. -/
def insSimm (w : Nat) : Int := toSigned 32 (insImm w)

/-- The length field of LDF, LDCTX and STCTX: `lo` is its low bit. -/
def insLen (w lo : Nat) : Nat := bits (insX w) (lo + 3) lo + 1
/-- The context an operation names: 0 A, 1 B. -/
def insCtx (w : Nat) : Nat := bits (insX w) 0 0
/-- SX. -/
def insSx (w : Nat) : Bool := bitOn (insX w) 5
/-- BR's displacement. -/
def insDisp (w : Nat) : Nat := bits (insX w) 10 3
/-- BR's condition. -/
def insCond (w : Nat) : Nat := bits (insX w) 2 0

/-- DRESC's signed scale. -/
def insScale (w : Nat) : Int := toSigned 6 (bits (insX w) 5 0)

/-! ### Load checks (R246, R247, R252, R263) -/

/-- Fields an operation may use: D, A, the second operand b, IMM on its own, and the X bits. -/
structure OpForm where
  /-- Uses D. -/
  d : Bool
  /-- Uses A. -/
  a : Bool
  /-- Uses b, that is I with B or IMM. -/
  b : Bool
  /-- Uses IMM as a field of its own. -/
  imm : Bool
  /-- X bits it uses, from bit 0. -/
  x : Nat

/-- The form of each defined operation (R246). -/
def opForm (op : Nat) : Option OpForm :=
  if op = 0x01 then some ⟨true, false, false, true, 0⟩
  else if op = 0x02 then some ⟨true, true, false, false, 0⟩
  else if op = 0x03 then some ⟨true, false, false, true, 6⟩
  else if op = 0x04 then some ⟨true, false, false, false, 4⟩
  else if op = 0x05 then some ⟨true, false, false, true, 6⟩
  else if op = 0x06 then some ⟨false, true, false, true, 5⟩
  else if op = 0x07 then some ⟨true, true, false, true, 4⟩
  else if 0x10 ≤ op ∧ op ≤ 0x19 then some ⟨true, true, true, false, 0⟩
  else if op = 0x20 then some ⟨true, true, false, false, 6⟩
  else if op = 0x21 then some ⟨true, true, true, false, 5⟩
  else if op = 0x30 then some ⟨false, true, true, false, 11⟩
  else if op = 0x40 then some ⟨true, false, true, false, 11⟩
  else if op = 0x41 then some ⟨true, true, true, false, 10⟩
  else if op = 0x42 then some ⟨true, false, true, false, 10⟩
  else if op = 0x48 then some ⟨false, true, true, false, 0⟩
  else if op = 0x49 then some ⟨false, false, false, false, 7⟩
  else if op = 0x4A then some ⟨true, false, true, false, 0⟩
  else if op = 0x50 then some ⟨false, false, false, true, 8⟩
  else if op = 0x51 then some ⟨true, false, false, false, 2⟩
  else if op = 0x52 then some ⟨false, false, false, false, 0⟩
  else none

/-- Fields the form does not use are 0 (R245). -/
def OpForm.clean (f : OpForm) (w : Nat) : Bool :=
  (f.d || insD w == 0) && (f.a || insA w == 0) &&
  (if f.b then (if insI w then insB w == 0 else insImm w == 0) else insB w == 0 && !insI w && (f.imm || insImm w == 0)) &&
  decide (insX w < 2 ^ f.x)

/-- X and IMM values are within range, and accesses within their bounds (R246 to R252). -/
def insRange (w : Nat) : Bool :=
  let op := insOp w
  let x := insX w
  if op = 0x03 then decide (insImm w < 128) && decide (insImm w + insLen w 0 ≤ 128)
  else if op = 0x04 then decide (x ≤ 7)
  else if op = 0x05 ∨ op = 0x06 then decide (insImm w < 256) && decide (insImm w + insLen w 1 ≤ 256)
  else if op = 0x20 then decide (-18 ≤ insScale w) && decide (insScale w ≤ 18)
  else if op = 0x21 then decide (x ≤ 18)
  else if op = 0x30 then decide (insCond w ≤ 6)
  else if op = 0x40 then decide (6 ≤ bits x 5 1) && decide (bits x 5 1 ≤ 30) && decide (8 * bits x 10 6 + 32 ≤ 256)
  else if op = 0x41 ∨ op = 0x42 then decide (8 * bits x 9 5 + 16 * (bits x 3 1 + 1) ≤ 256)
  else true

/-- Check 3 of R263 for one word. -/
def insOk (w : Nat) : Bool := match opForm (insOp w) with | some f => f.clean w && insRange w | none => false

/-- Steps of an instruction (R246, R253). -/
def insSteps (w : Nat) : Nat :=
  let op := insOp w
  if op = 0x07 ∨ op = 0x40 then 3
  else if op = 0x12 ∨ op = 0x42 ∨ op = 0x51 then 2
  else if op = 0x20 ∨ op = 0x41 then 4
  else if op = 0x21 then 8
  else if op = 0x49 then
    let n := bits (insX w) 5 0 + 1
    if n ≤ 8 then 6 else if n ≤ 16 then 10 else if n ≤ 32 then 15 else 21
  else 1

/-- What the paths from an instruction carry (R261, R263). -/
structure PathInfo where
  /-- Every path ends in END. -/
  ends : Bool
  /-- The largest sum of steps. -/
  steps : Nat
  /-- The largest number of SBPUT. -/
  puts : Nat
  /-- Some path carries COPY. -/
  copy : Bool
  /-- Some path carries a HOLD with HOLD_HOST = 1. -/
  hold : Bool
  /-- Some path carries both. -/
  both : Bool

/-- Falling off the program's end. -/
def PathInfo.off : PathInfo := ⟨false, 0, 0, false, false, false⟩

/-- What either of two continuations carries. -/
def PathInfo.join (p q : PathInfo) : PathInfo :=
  ⟨p.ends && q.ends, max p.steps q.steps, max p.puts q.puts, p.copy || q.copy, p.hold || q.hold, p.both || q.both⟩

/-- A VERD that holds with HOLD_HOST = 1. -/
def insHoldHost (w : Nat) : Bool := insOp w == 0x50 && bits (insX w) 1 0 == 3 && bitOn (insX w) 7
/-- A VERD with COPY. -/
def insCopy (w : Nat) : Bool := insOp w == 0x50 && bitOn (insX w) 2

/-- The paths from each instruction on, computed from the last backwards (R261): every branch goes forward. -/
def pathInfos : List Nat → List PathInfo
  | [] => []
  | w :: ws =>
    let rest := pathInfos ws
    let next := rest.getD 0 PathInfo.off
    let after : PathInfo :=
      if insOp w = 0x52 then ⟨true, 0, 0, false, false, false⟩
      else if insOp w = 0x30 then
        let taken := rest.getD (insDisp w - 1) PathInfo.off
        if insCond w = 0 then taken else next.join taken
      else next
    ⟨after.ends, after.steps + insSteps w, after.puts + b2n (insOp w == 0x48), after.copy || insCopy w, after.hold || insHoldHost w,
      after.both || (insCopy w && (insHoldHost w || after.hold)) || (insHoldHost w && after.copy)⟩ :: rest

/-- What the program's paths carry. -/
def progPaths (ws : List Nat) : PathInfo := (pathInfos ws).getD 0 PathInfo.off

/-- Check 4 of R263: every branch has a displacement of at least 1 and a target within the program. -/
def branchesOk (ws : List Nat) : Bool :=
  ws.zipIdx.all (fun c => insOp c.1 != 0x30 || (decide (1 ≤ insDisp c.1) && decide (c.2 + insDisp c.1 < ws.length)))

/-! ### Values -/

/-- Bounds of a signed 128-bit value. -/
def max128 : Int := 2 ^ 127 - 1
/-- The least signed 128-bit value. -/
def min128 : Int := -(2 ^ 127)

/-- An exact result saturated, and whether it was (R248). -/
def sat128 (z : Int) : Int × Bool := if z < min128 then (min128, true) else if max128 < z then (max128, true) else (z, false)

/-- `n / d` rounded half to even, for `d` not 0 (R248). -/
def divEven (n d : Int) : Int :=
  let m := if d < 0 then -n else n
  let k := if d < 0 then -d else d
  let q := m / k
  let r := m % k
  if 2 * r < k then q else if k < 2 * r then q + 1 else if q % 2 = 0 then q else q + 1

/-! ### A run (R244) -/

/-- What a run has so far. -/
structure IRun where
  /-- H0-H15. -/
  h : List Int := List.replicate 16 0
  /-- SAT. -/
  sat : Bool := false
  /-- DIVZ. -/
  divz : Bool := false
  /-- The sort buffer, in order. -/
  buf : List (Nat × Nat) := []
  /-- X of the pending verdict. -/
  vx : Nat := 0
  /-- IMM of the pending verdict. -/
  vimm : Nat := 0
  /-- The contexts' bytes with the writes the run holds. -/
  mem : Mem := []
  /-- Contexts whose holds are released at commit, and whether they are discarded. -/
  rel : List (Nat × Bool) := []

/-- What a run reads besides (R249, R250). -/
structure IEnv where
  /-- First 128 bytes of the frame at most. -/
  head : List Byte
  /-- STAMP. -/
  stamp : Nat
  /-- PORT. -/
  port : Nat
  /-- Frame length in bytes, FCS included. -/
  len : Nat
  /-- Meter colour. -/
  colour : Nat
  /-- Context A, or 0xFFFF. -/
  ctxA : Nat
  /-- Context B, or 0xFFFF. -/
  ctxB : Nat
  /-- SEQ. -/
  seq : Nat
  /-- The context is one the Sifter may use (R242). -/
  usable : Nat → Bool
  /-- A read of the context meets an uncorrectable error (R265). -/
  ue : Nat → Bool
  /-- First entry and count of a table (R274). -/
  table : Nat → Nat × Nat
  /-- An entry of table memory. -/
  entry : Nat → Nat
  /-- A read of table memory meets an uncorrectable error (R265). -/
  tabUe : Bool
  /-- Holds keyed to a context in the Sifter. -/
  holds : Nat → Nat

/-- Where a step leads: on, to END, or to a fault with its ERR_STAT bit, context and detail (R265, R268). -/
inductive IRes where
  /-- The next instruction's index. -/
  | go (pc : Nat) (r : IRun)
  /-- END. -/
  | done (r : IRun)
  /-- A run fault. -/
  | fault (bit ctx detail : Nat)

/-- A register. -/
def IRun.reg (r : IRun) (i : Nat) : Int := r.h.getD i 0
/-- A register written. -/
def IRun.put (i : Nat) (v : Int) (r : IRun) : IRun := { r with h := r.h.set i v }
/-- A register written with a value that saturates (R248). -/
def IRun.putSat (i : Nat) (v : Int) (r : IRun) : IRun := { r.put i (sat128 v).1 with sat := r.sat || (sat128 v).2 }
/-- The second operand (R245). -/
def IRun.opB (r : IRun) (w : Nat) : Int := if insI w then insSimm w else r.reg (insB w)

/-- The context an instruction names by 0 or 1. -/
def IEnv.ctx (e : IEnv) (k : Nat) : Nat := if k = 0 then e.ctxA else e.ctxB

/-- An access to a context: the fault it meets, if any (R242, R265). -/
def IEnv.access (e : IEnv) (k : Nat) : Option IRes :=
  let c := e.ctx k
  if c = 0xFFFF ∨ !e.usable c then some (.fault 1 c 0) else if e.ue c then some (.fault 5 c 0) else none

/-- A meta field (R250). -/
def IEnv.metaField (e : IEnv) (r : IRun) (k : Nat) : Nat :=
  if k = 0 then e.stamp else if k = 1 then e.port else if k = 2 then e.len else if k = 3 then e.colour
  else if k = 4 then e.ctxA else if k = 5 then e.ctxB else if k = 6 then e.seq else b2n r.sat + 2 * b2n r.divz

/-- BR's condition holds (R247). -/
def brTaken (cond : Nat) (a b : Int) : Bool :=
  if cond = 0 then true else if cond = 1 then a == b else if cond = 2 then a != b
  else if cond = 3 then decide (a < b) else if cond = 4 then decide (b ≤ a) else if cond = 5 then decide (b < a) else decide (a ≤ b)

/-- An arithmetic result before saturation: ADD to SRA (R246). -/
def aluResult (op : Nat) (a b : Int) : Int :=
  let n := (b % 128).toNat
  let logic (f : Nat → Nat → Nat) : Int := toSigned 128 (f (ofSigned 128 a) (ofSigned 128 b))
  if op = 0x10 then a + b
  else if op = 0x11 then a - b
  else if op = 0x12 then a * b
  else if op = 0x13 then min a b
  else if op = 0x14 then max a b
  else if op = 0x15 then logic (· &&& ·)
  else if op = 0x16 then logic (· ||| ·)
  else if op = 0x17 then logic (· ^^^ ·)
  else if op = 0x18 then toSigned 128 (ofSigned 128 a <<< n)
  else a / 2 ^ n

/-- WCNT on a window record: the record after, and the sum (R251). -/
def windowCount (k stamp : Nat) (add : Int) (bs : List Byte) : List Byte × Nat :=
  let cells := (List.range 8).map (fun i => field bs (8 + 2 * i) 2)
  let b := stamp / 2 ^ k * 2 ^ k
  let base0 := field bs 0 8
  let base1 := if base0 = 0 ∧ cells.all (· == 0) then b else base0
  let d := (b - base1) / 2 ^ k
  let cells2 := if base1 < b then (List.replicate (min d 8) 0 ++ cells).take 8 else cells
  let base2 := if base1 < b then b else base1
  let i := (base2 - b) / 2 ^ k
  let cells3 := modifyAt (fun v => min (v + add.toNat) 65535) i cells2
  (leBytes 8 base2 ++ cells3.flatMap (leBytes 2), cells3.sum)

/-- The entries of a level array: price and quantity (R252). -/
def levels (n : Nat) (bs : List Byte) : List (Int × Int) :=
  (List.range n).map (fun i => (toSigned 64 (field bs (16 * i) 8), toSigned 64 (field bs (16 * i + 8) 8)))

/-- A level array's bytes. -/
def levelBytes (ls : List (Int × Int)) : List Byte := ls.flatMap (fun l => leBytes 8 (ofSigned 64 l.1) ++ leBytes 8 (ofSigned 64 l.2))

/-- LVLSET: the array after, and D (R252). -/
def levelSet (n : Nat) (ask : Bool) (p q : Int) (ls : List (Int × Int)) : List (Int × Int) × Nat :=
  let valid := ls.takeWhile (fun l => decide (0 < l.2))
  match valid.findIdx? (fun l => l.1 == p) with
  | some r =>
    if 0 < q then (ls.set r (p, q), r) else ((ls.take r ++ ls.drop (r + 1) ++ [(0, 0)]).take n, n)
  | none =>
    let r := (valid.takeWhile (fun l => if ask then decide (l.1 < p) else decide (p < l.1))).length
    if 0 < q ∧ r < n then ((ls.take r ++ [(p, q)] ++ ls.drop r).take n, r) else (ls, n)

/-- SORT: the first `n` entries in order, stable (R253). -/
def sortFirst (n : Nat) (down : Bool) (b : List (Nat × Nat)) : List (Nat × Nat) :=
  sortBy (fun x y => if down then decide (y.1 ≤ x.1) else decide (x.1 ≤ y.1)) (b.take n) ++ b.drop n

/-- The value of bytes read, zero- or sign-extended (R249). -/
def extended (sx : Bool) (n v : Nat) : Int := if sx then toSigned (8 * n) v else toSigned 128 v

/-- One instruction (R246). -/
def ilnusStep (e : IEnv) (w pc : Nat) (r : IRun) : IRes :=
  let op := insOp w
  let x := insX w
  let d := insD w
  let a := r.reg (insA w)
  let b := r.opB w
  let k := insCtx w
  let onCtx (f : Nat → IRes) : IRes := match e.access k with | some q => q | none => f (256 * e.ctx k)
  let next (r : IRun) : IRes := .go (pc + 1) r
  if op = 0x01 then next (r.put d (insSimm w))
  else if op = 0x02 then next (r.put d a)
  else if op = 0x03 then
    let n := insLen w 0
    let bs := slice e.head (insImm w) n
    next (r.put d (extended (insSx w) n (if bitOn x 4 then leNat bs else beNat bs)))
  else if op = 0x04 then next (r.put d (e.metaField r (bits x 3 0)))
  else if op = 0x05 then onCtx (fun m => next (r.put d (extended (insSx w) (insLen w 1) (r.mem.readNat (m + insImm w) (insLen w 1)))))
  else if op = 0x06 then onCtx (fun m => next { r with mem := r.mem.writeNat (m + insImm w) (insLen w 1) (ofSigned 128 a) })
  else if op = 0x07 then
    let t := bits x 3 0
    let i := a + insSimm w
    let (base, count) := e.table t
    if i < 0 ∨ (count : Int) ≤ i then .fault 2 0xFFFF (t * 2 ^ 20 + ofSigned 20 i)
    else if e.tabUe then .fault 6 0xFFFF 0
    else next (r.put d (toSigned 128 (e.entry (base + i.toNat))))
  else if op ≤ 0x19 then next (r.putSat d (aluResult op a b))
  else if op = 0x20 then
    let z := insScale w
    next (if 0 ≤ z then r.putSat d (a * 10 ^ z.toNat) else r.put d (divEven a (10 ^ (-z).toNat)))
  else if op = 0x21 then
    next (if b = 0 then { r.put d 0 with divz := true } else r.putSat d (divEven (a * 10 ^ bits x 4 0) b))
  else if op = 0x30 then if brTaken (insCond w) a b then .go (pc + insDisp w) r else next r
  else if op = 0x40 then
    onCtx (fun m =>
      let at' := m + 8 * bits x 10 6
      let (bs, sum) := windowCount (bits x 5 1) e.stamp b (r.mem.read at' 24)
      next (({ r with mem := r.mem.write at' bs } : IRun).put d sum))
  else if op = 0x41 then
    onCtx (fun m =>
      let at' := m + 8 * bits x 9 5
      let n := bits x 3 1 + 1
      let q := max (-(2 ^ 63)) (min (2 ^ 63 - 1) b)
      let (ls, v) := levelSet n (bitOn x 4) (toSigned 64 (ofSigned 64 a)) q (levels n (r.mem.read at' (16 * n)))
      next (({ r with mem := r.mem.write at' (levelBytes ls), sat := r.sat || q != b } : IRun).put d v))
  else if op = 0x42 then
    onCtx (fun m =>
      let n := bits x 3 1 + 1
      let valid := (levels n (r.mem.read (m + 8 * bits x 9 5) (16 * n))).takeWhile (fun l => decide (0 < l.2))
      next (r.put d (if b < 0 then 0 else match valid[b.toNat]? with
        | some l => toSigned 128 (ofSigned 64 l.1 + 2 ^ 64 * ofSigned 64 l.2)
        | none => 0)))
  else if op = 0x48 then next { r with buf := r.buf ++ [(ofSigned 64 a, ofSigned 64 b)] }
  else if op = 0x49 then next { r with buf := sortFirst (bits x 5 0 + 1) (bitOn x 6) r.buf }
  else if op = 0x4A then
    if b < 0 then .fault 3 0xFFFF 0
    else match r.buf[b.toNat]? with
    | some v => next (r.put d (toSigned 128 (v.1 + 2 ^ 64 * v.2)))
    | none => .fault 3 0xFFFF 0
  else if op = 0x50 then next { r with vx := x, vimm := insImm w }
  else if op = 0x51 then
    next (({ r with rel := r.rel ++ [(e.ctx k, bitOn x 1)] } : IRun).put d (e.holds (e.ctx k)))
  else .done r

/-- How a run ended: at END, or with a fault's instruction, bit, context and detail, and what the run had then. -/
inductive IEnd where
  /-- END. -/
  | done (r : IRun)
  /-- A run fault. -/
  | fault (insn bit ctx detail : Nat) (r : IRun)

/-- A run: the index rises with every step, so 256 steps reach END. -/
def ilnusRun (e : IEnv) (ws : List (BitVec 64)) : Nat → Nat → IRun → IEnd
  | 0, _, r => .done r
  | fuel + 1, pc, r =>
    match ws[pc]? with
    | none => .done r
    | some w => match ilnusStep e w.toNat pc r with
      | .go p q => ilnusRun e ws fuel p q
      | .done q => .done q
      | .fault b c d => .fault pc b c d r

end Sys2Proof.Machine
end

