-- ==== Sys2Proof/Machine/SifterOps.lean ====
section
/-! DEFINITION. The Sifters: ingress queues, order, dispatch, contexts, verdicts, holds and records, and the SFT commands (R224 to R274;
07_sifter_stream_units.md). -/

namespace Sys2Proof.Machine

/-! ### Parts and registers -/

/-- A Sifter. -/
def State.sifter (s : State) (n : Nat) : Sifter := Sparse.get {} s.sft.units n
/-- A Sifter replaced. -/
def State.setSifter (n : Nat) (x : Sifter) (s : State) : State := { s with sft.units := Sparse.set {} s.sft.units n x }
/-- A Sifter changed by a function. -/
def State.onSifter (n : Nat) (f : Sifter → Sifter) (s : State) : State := s.setSifter n (f (s.sifter n))

/-- A context's control state. -/
def State.ctx (s : State) (c : Nat) : Ctx := Sparse.get {} s.sft.ctxs c
/-- A context's control state replaced. -/
def State.setCtx (c : Nat) (x : Ctx) (s : State) : State := { s with sft.ctxs := Sparse.set {} s.sft.ctxs c x }

/-- The Sifter that serves a port (R18). -/
def servingSifter (port : Nat) : Nat := port / 4
/-- The port die of a Sifter. -/
def sifterDie (sf : Nat) : Nat := sf / 8

/-- INLINE of a port. -/
def State.inlinePort (s : State) (port : Nat) : Bool := s.fld .sft (servingSifter port) (0x100 + 8 * (port % 4)) 8 8 == 1
/-- NOPROG of a port: true where the frame is forwarded. -/
def State.noprogFwd (s : State) (port : Nat) : Bool := s.fld .sft (servingSifter port) (0x100 + 8 * (port % 4)) 11 10 == 0
/-- SFT_ORDER.SRC_DIES. -/
def State.srcDies (s : State) (sf : Nat) : Nat := s.fld .sft sf 0x1C0 3 0

/-- The program in a slot. -/
def State.progIn (s : State) (sf slot : Nat) : Option Prog := Sparse.get? (s.sifter sf).slots slot

/-- An error on a Sifter's page (R267, R268). -/
def State.sftErr (sf bit tag ctx insn slot port detail stamp pid : Nat) (s : State) : State :=
  s.raise .sft sf bit tag (ctx * 2 ^ 48 + insn * 2 ^ 40 + slot * 2 ^ 36 + port * 2 ^ 24 + detail) stamp pid

/-! ### Order keys (R233) -/

/-- The order key of one frame is below that of another. -/
def SftFrame.before (a b : SftFrame) : Bool :=
  decide (a.stamp < b.stamp) || (a.stamp == b.stamp && (decide (a.port < b.port) || (a.port == b.port && decide (a.seq < b.seq))))

/-! ### Records (R257 to R259) -/

/-- A ring of a Sifter: 0 copy, 1 notice. -/
def Sifter.ring (x : Sifter) (r : Nat) : SRing := if r = 0 then x.copyRing else x.noticeRing
/-- A ring replaced. -/
def Sifter.setRing (r : Nat) (g : SRing) (x : Sifter) : Sifter := if r = 0 then { x with copyRing := g } else { x with noticeRing := g }

/-- The record's header and, in a copy, the frame's bytes that follow (R258). -/
def SRec.toBytes (r : SRec) (frame : List Byte) (bad : Bool) (copyLen : Nat) : List Byte :=
  leBytes 8 r.stamp ++ leBytes 8 r.seqno ++ leBytes 8 r.progId ++ leBytes 2 r.port ++ leBytes 2 frame.length ++ leBytes 2 copyLen ++
  leBytes 1 (r.verdict + 128 * b2n bad) ++ leBytes 1 r.cls ++ leBytes 2 r.mark ++ leBytes 2 r.reason ++ leBytes 2 r.ctxA ++
  leBytes 2 r.ctxB ++ leBytes 1 r.sifter ++ leBytes 1 r.colour ++ leBytes 2 0 ++ leBytes 4 r.holdId ++ slice r.result 0 16 ++
  frame.take copyLen

/-- A ring's consumer count and slots can be reached now: bus-master requests are allowed where the count lies in host memory (R497, R539), and
the stacks named do not hold requests (R441, R521). -/
def State.ringReachable (s : State) (cons at' n : Nat) : Bool :=
  (if xDev cons then !s.devBusy (xAddr cons) 8 else s.hostDma) && !s.devBusy at' n

/-- The consumer's count, read at the address a register holds: none where it cannot be read (R259). -/
def State.ringConsumed (unit addr : Nat) (s : State) : Option Nat × State :=
  match if xDev addr then s.devRead (whoOf unit) (xAddr addr) 8 else (0, s.hostRead (xAddr addr) 8, s) with
  | (0, bs, t) => (some (leNat bs), t)
  | (_, _, t) => (none, t)

/-- The signal of a record, as a host signal (R259). -/
def State.ringSignal (sf r : Nat) (s : State) : State :=
  let v := s.reg .sft sf (0x218 + 0x20 * r)
  let shape := bits v 15 7
  let i := bits v 5 0
  if bitOn v 16 && s.live then
    match s.physOf shape with
    | some p =>
      let e := (s.block p).cntEntry i
      if e.used && e.hostOk && ((s.block p).cnt i).abandoned.isNone then
        { s with hif.inflight := s.hif.inflight ++ [.host shape i 1 none] }
      else s
    | none => s
  else s

/-- A record dropped (R259). -/
def State.dropRec (sf : Nat) (s : State) : State := s.evtAdd .sft sf 4 1

/-- A record written to its ring, or dropped where the ring is off or full (R259, R273). -/
def State.ringRecord (sf r : Nat) (rec : SRec) (frame : List Byte) (bad : Bool) (copyLen : Nat) (s : State) : State :=
  let g := (s.sifter sf).ring r
  if !g.en then s.dropRec sf
  else
    match s.ringConsumed (0x20 + sf) (s.reg .sft sf (0x210 + 0x20 * r) / 8 * 8) with
    | (some c, t) =>
      if g.prod < c + 2 ^ g.slotsLog2 then
        let u := (t.devWrite (whoOf (0x20 + sf)) (g.base + g.prod % 2 ^ g.slotsLog2 * 2 ^ g.slotLog2) (rec.toBytes frame bad copyLen)).2
        (u.onSifter sf (fun x => x.setRing r { g with prod := g.prod + 1 })).ringSignal sf r
      else t.dropRec sf
    | (none, t) => t.dropRec sf

/-- The frame's bytes and mark, and the copy's length, of a record whose frame has ended (R258). -/
def State.recFrame (s : State) (sf : Nat) (rec : SRec) : List Byte × Bool × Nat :=
  let f := s.frame rec.frame
  let bytes := match f with | some f => f.bytes | none => []
  let bad := match f with | some f => f.bad | none => true
  let slot := 2 ^ ((s.sifter sf).ring (if rec.notice then 1 else 0)).slotLog2
  (bytes, bad, if rec.notice then 0 else min bytes.length (slot - 64))

/-- A record is done with: its buffer goes back, and its frame is not needed for it any more. -/
def State.endRec (sf : Nat) (rec : SRec) (s : State) : State :=
  ((match rec.buf with | some q => s.freeBufs (0x20 + sf) [q] | none => s).onFrame rec.frame (fun g => { g with recs := g.recs - 1 })).reap rec.frame

/-- The pool of a record: Crumb or Roll (R257). -/
def recPool (copyLen : Nat) : Nat := if 64 + copyLen ≤ 256 then 0 else 1

/-- A record with its buffer is written: the input journal (R580), then its ring. -/
def State.writeRecord (sf : Nat) (rec : SRec) (s : State) : State :=
  let (bytes, bad, copyLen) := s.recFrame sf rec
  let s1 := match rec.buf with | some q => s.touchPage (pageOfPtr q) | none => s
  let s2 := if rec.notice then s1 else s1.journalCopy
      { stamp := rec.stamp, seq := rec.seq, port := rec.port, frameLen := bytes.length, flags := b2n bad, sifter := rec.sifter,
        progId := rec.progId, mark := rec.mark, reason := rec.reason, verdict := rec.verdict + 128 * b2n bad, cls := rec.cls }
      (bytes.take copyLen)
  (s2.ringRecord sf (if rec.notice then 1 else 0) rec bytes bad copyLen).endRec sf rec

/-- A record can be written now: its buffer's and its frame's pages have frames (R297), and its ring can be reached. -/
def State.recReady (s : State) (sf : Nat) (rec : SRec) : Bool :=
  let r := if rec.notice then 1 else 0
  let g := (s.sifter sf).ring r
  (match rec.buf with | some q => s.pageResident (pageOfPtr q) | none => true) &&
  (match s.frame rec.frame with | some f => rec.notice || s.bufsResident f.bufs | none => true) &&
  (!g.en || s.ringReachable (s.reg .sft sf (0x210 + 0x20 * r) / 8 * 8) (g.base + g.prod % 2 ^ g.slotsLog2 * 2 ^ g.slotLog2) (2 ^ g.slotLog2))

/-- The pages a record waits for are asked for (R297). -/
def State.askRec (rec : SRec) (s : State) : State :=
  let s1 := match rec.buf with | some q => s.touchPage (pageOfPtr q) | none => s
  match s1.frame rec.frame with | some f => if rec.notice then s1 else s1.touchBufs f.bufs | none => s1

/-- Records whose frames have ended take their buffers and are written, in SEQNO order, as far as no waiting run may still make an earlier one
(R229, R257, R580). One for which no buffer can be had is dropped (R259, R307); one that must wait keeps its buffer. `upset` is a central-store
error met in the buffer of the first: an uncorrectable one is recorded and ends the transfer, so the record is dropped (R300, log 58). -/
def State.flushRecs (sf upset : Nat) : Nat → State → State
  | 0, s => s
  | fuel + 1, s =>
    let x := s.sifter sf
    match x.recq with
    | [] => s
    | rec :: rest =>
      let ended := match s.frame rec.frame with | some f => f.complete | none => true
      if !ended || x.runs.any (fun q => decide (q.seqno < rec.seqno)) then s
      else
        let went (s : State) : State := s.onSifter sf (fun x => { x with recq := rest })
        match (match rec.buf with
          | some _ => some (rec, s)
          | none => (s.alloc 15 (recPool (s.recFrame sf rec).2.2) none).map (fun (a : Nat × State) => ({ rec with buf := some a.1 }, a.2))) with
        | none => State.flushRecs sf upset fuel ((((went s).evtAdd .pnt 0 1 1).dropRec sf).endRec sf rec)
        | some (r, t) =>
          if t.recReady sf r then
            let u := (went t).storeError (0x20 + sf) 0 upset (r.buf.getD 0)
            State.flushRecs sf 0 fuel (if upset = 2 then (u.dropRec sf).endRec sf r else u.writeRecord sf r)
          else (t.onSifter sf (fun x => { x with recq := r :: rest })).askRec r

/-- A Sifter's records move on. -/
def State.pumpRecs (sf : Nat) (s : State) (upset : Nat := 0) : State := s.flushRecs sf upset ((s.sifter sf).recq.length + 1)

/-- Every Sifter's records move on. -/
def State.pumpAllRecs (s : State) : State := s.sft.units.foldl (fun s c => s.pumpRecs c.1) s

/-- A record joins those in preparation. -/
def State.addRec (sf : Nat) (rec : SRec) (s : State) : State :=
  (s.onSifter sf (fun x => { x with recq := insertBy (fun a b => decide (a.seqno ≤ b.seqno)) rec x.recq })).onFrame rec.frame
    (fun g => { g with recs := g.recs + 1 })

/-! ### Verdicts (R255, R256) -/

/-- A verdict to apply. -/
structure Verdict where
  /-- ACTION: 0 FWD, 1 DROP, 2 REJECT, 3 HOLD. -/
  action : Nat
  /-- COPY. -/
  copy : Bool := false
  /-- MARK, with the class and value it applies. -/
  mark : Option (Nat × Nat) := none
  /-- HOLD_HOST. -/
  holdHost : Bool := false
  /-- REASON. -/
  reason : Nat := 0
  /-- FALLBACK taken. -/
  fallback : Bool := false
  /-- SAT. -/
  sat : Bool := false
  /-- DIVZ. -/
  divz : Bool := false

/-- The pending verdict of a run (R255). -/
def IRun.verdict (r : IRun) : Verdict :=
  { action := bits r.vx 1 0, copy := bitOn r.vx 2
    mark := if bitOn r.vx 3 then some (bits r.vx 6 4, bits r.vimm 15 0) else none
    holdHost := bitOn r.vx 7, reason := bits r.vimm 31 16, sat := r.sat, divz := r.divz }

/-- A program's FALLBACK verdict (R260). -/
def Prog.fallbackVerdict (p : Prog) : Verdict := { action := bits p.fallback 1 0, copy := bitOn p.fallback 2, fallback := true }

/-- The VERDICT byte but for BAD (R258). -/
def Verdict.byte (v : Verdict) : Nat :=
  v.action + 4 * b2n v.copy + 8 * b2n v.mark.isSome + 16 * b2n v.fallback + 32 * b2n v.sat + 64 * b2n v.divz

/-- The frame goes to its lookup output (R255). -/
def State.forwardFrame (f : SftFrame) (cls : Nat) (s : State) : State :=
  match s.frame f.frame with
  | none => s
  | some g => (s.evtAdd .sw 0 4 g.lack).settleFrame f.frame cls g.outs

/-- A verdict applied to a frame (R255 to R258). -/
def State.applyVerdict (sf seqno : Nat) (prog : Prog) (v0 : Verdict) (result : List Byte) (f : SftFrame) (s : State) : State :=
  let x := s.sifter sf
  let refused := v0.action == 3 && (f.ctxA == 0xFFFF || decide (256 ≤ x.holds.length))
  let hold := v0.action == 3 && !refused
  let v : Verdict := if refused then { v0 with action := 1 } else v0
  let cls := match v.mark with | some m => m.1 | none => f.cls
  let base : SRec := {
    frame := f.frame, stamp := f.stamp, seq := f.seq, seqno := seqno, progId := prog.id, port := f.port, verdict := v.byte, cls := cls
    mark := match v.mark with | some m => m.2 | none => 0
    reason := v.reason, ctxA := f.ctxA, ctxB := f.ctxB, sifter := sf, colour := f.colour
    holdId := if hold then sf * 2 ^ 27 + x.holdSerial else 0xFFFFFFFF
    result := result }
  let s1 := if v.copy then s.addRec sf base else s
  let s2 := if v.action = 2 then s1.addRec sf { base with notice := true }
    else if refused then (s1.evtAdd .sft sf 5 1).addRec sf { base with notice := true, reason := 0xFFFE } else s1
  let s3 :=
    if v.action = 0 then s2.forwardFrame f cls
    else if hold then
      let h : HoldRec := { id := sf * 2 ^ 27 + x.holdSerial, ctx := f.ctxA, frame := f.frame, hostOk := v.holdHost, since := s.time.now,
                           age := prog.holdAge, base := base }
      let s4 := s2.onSifter sf (fun x => { x with holds := x.holds ++ [h], holdSerial := (x.holdSerial + 1) % 2 ^ 27 })
      (s4.onFrame f.frame (fun g => { g with decided := true, held := true, ocls := cls })).flushPort f.port
    else s2.dropFrame f.frame
  s3.pumpRecs sf

/-- What names a frame and a program: the program's words, and the frame's key and bytes. -/
def runKey (p : Prog) (f : SftFrame) : List Nat :=
  p.insns.map BitVec.toNat ++ [f.stamp, f.port, f.seq] ++ f.head.map BitVec.toNat

/-- The RESULT of a frame for which no run reached END, which the spec does not state: free bytes, the same whenever the program, the frame and
what the run had done are the same (R453, log 74). -/
def noResult (key : List Nat) : List Byte := (List.range 16).map (fun i => BitVec.ofNat 8 (Config.keyed key i))

/-- FALLBACK without a run (R228, R232, R237, R241). -/
def State.noRun (sf seqno : Nat) (p : Prog) (f : SftFrame) (s : State) : State :=
  s.applyVerdict sf seqno p p.fallbackVerdict (noResult (runKey p f)) f

/-- A port's NOPROG action (R262, R270); EVT_CNT6 of a Sifter counts it. -/
def State.noprog (sf : Nat) (f : SftFrame) (s : State) : State :=
  let s1 := s.evtAdd .sft sf 6 1
  if s.noprogFwd f.port then s1.forwardFrame f f.cls else s1.dropFrame f.frame

/-! ### The ingress queue (R227, R228, R232) -/

/-- A frame joins a Sifter's ingress queue; a full one turns it away (R232). -/
def State.enterQueue (sf : Nat) (f : SftFrame) (s : State) : State :=
  let x := s.sifter sf
  if x.queue.length < 64 then s.setSifter sf { x with queue := x.queue ++ [f] }
  else
    let s1 := s.evtAdd .sft sf 2 1
    match s1.progIn sf f.slot with
    | some p => (s1.evtAdd .sft sf 1 1).noRun sf x.seqno p f
    | none => s1.noprog sf f

/-- A frame whose lookup names a Sifter and a slot (R226, R227). -/
def State.toSifter (sf : Nat) (f : SftFrame) (s : State) : State :=
  let own := servingSifter f.port
  if sf = own then s.enterQueue sf f
  else if s.inlinePort f.port then s.noprog own f
  else { s with sft.handovers := s.sft.handovers ++ [(sf, portDie f.port, f)] }

/-- The port die of the Sifter that a handover is for. -/
def State.handoverDie (s : State) (index : Nat) : Nat := match s.sft.handovers[index]? with | some h => h.1 / 8 | none => 0

/-- SIFTER_HANDOVER: a handed-over frame reaches the Sifter named (R227, R228). Frames of one source die arrive in order (R234). -/
def State.handover (index : Nat) (s : State) : State :=
  match s.sft.handovers[index]? with
  | none => s
  | some (sf, die, f) =>
    if (s.sft.handovers.take index).any (fun h => h.1 == sf && h.2.1 == die) then s
    else
      let s1 : State := { s with sft.handovers := removeAt index s.sft.handovers }
      if bitOn (s.srcDies sf) die then (s1.evtAdd .sft sf 7 1).enterQueue sf f
      else
        let s2 := s1.onSifter sf (fun x => { x with hodrop := min max64 (x.hodrop + 1) })
        match s2.progIn sf f.slot with
        | some p => s2.noRun sf (s2.sifter sf).seqno p f
        | none => s2.dropFrame f.frame

/-! ### Runs (R229 to R242, R265, R266) -/

/-- The contexts a frame's lookup gave. -/
def SftFrame.ctxs (f : SftFrame) : List Nat := ([f.ctxA, f.ctxB].filter (· != 0xFFFF)).eraseDups

/-- A context's page of the paged tier (R240, R295). -/
def ctxPage (c : Nat) : Nat := c / 512

/-- The context is homed on the Sifter. -/
def State.homed (s : State) (sf c : Nat) : Bool := (s.ctx c).home == some sf

/-- The context's bytes are at hand: pinned, or its page has a frame (R240, R241). -/
def State.ctxReady (s : State) (sf c : Nat) : Bool := !s.homed sf c || (s.ctx c).pinned || s.pageResident (ctxPage c)

/-- The pages of a run's unpinned contexts are used, or asked for (R240, R241). -/
def State.touchCtxs (sf : Nat) (f : SftFrame) (s : State) : State :=
  f.ctxs.foldl (fun s c => if s.homed sf c && !(s.ctx c).pinned then s.touchPage (ctxPage c) else s) s

/-- A run of the Sifter may start now: no earlier one waits that names a context of it, no SFT_CTX command on one of them that came before its
dispatch waits, and its contexts are at hand (R235, R241, R243). -/
def State.runFree (s : State) (sf : Nat) (earlier : List SRun) (q : SRun) : Bool :=
  q.sf.ctxs.all (fun c => !earlier.any (fun p => p.sf.ctxs.contains c) && s.ctxReady sf c) &&
  q.behind.all (fun n => s.hif.parked.all (fun e => e.seq != n))

/-- The context for which strict mode refuses the run: the first that was last committed by a frame with the same STAMP from another port die
(R237). -/
def State.stampClash (s : State) (f : SftFrame) : Option Nat :=
  if !s.strict then none
  else f.ctxs.find? (fun c => match (s.ctx c).lastStamp with
    | some l => l.1 == f.stamp && l.2 != portDie f.port
    | none => false)

/-- A run refused in strict mode for a context (R237). -/
def State.refuseRun (sf c : Nat) (q : SRun) (s : State) : State :=
  ((s.sftErr sf 4 0 c 0 q.sf.slot q.sf.port 0 q.sf.stamp q.prog.id).evtAdd .sft sf 1 1).noRun sf q.seqno q.prog q.sf

/-- What a run reads (R249, R250, R254): `upset` 3 and 4 strike the contexts' reads, 5 the tables'. -/
def State.runEnv (s : State) (sf upset len : Nat) (f : SftFrame) : IEnv :=
  let x := s.sifter sf
  { head := f.head, stamp := f.stamp, port := f.port, len := len, colour := f.colour, ctxA := f.ctxA, ctxB := f.ctxB, seq := f.seq
    usable := s.homed sf
    ue := fun c => (s.ctx c).ue || (upset == 3 && c == f.ctxA) || (upset == 4 && c == f.ctxB)
    table := fun t => let v := s.reg .sft sf (0x300 + 8 * t); (bits v 12 0, bits v 29 16)
    entry := fun i => x.table.readNat (16 * i) 16
    tabUe := upset == 5
    holds := fun c => (x.holds.filter (fun h => h.ctx == c)).length }

/-- RELEASE at commit: the holds keyed to a context go, in hold order (R256). -/
def State.releaseHolds (sf : Nat) (s : State) (r : Nat × Bool) : State :=
  let x := s.sifter sf
  let mine := x.holds.filter (fun h => h.ctx == r.1)
  let s1 := s.setSifter sf { x with holds := x.holds.filter (fun h => h.ctx != r.1) }
  mine.foldl (fun s h => if r.2 then s.dropFrame h.frame
    else match s.frame h.frame with
      | some g => (s.evtAdd .sw 0 4 g.lack).releaseFrame h.frame
      | none => s) s1

/-- The length LDMETA gives a run: the frame's, or, before its end, one that the spec does not state, the same for the same frame (R250, R453,
log 75). -/
def State.lenSeen (s : State) (q : SRun) : Nat :=
  match s.frame q.sf.frame with
  | some g => if g.complete then g.bytes.length else Config.keyed ([q.sf.stamp, q.sf.port, q.sf.seq] ++ q.sf.head.map BitVec.toNat) 16 % 9217
  | none => 0

/-- A run executed and committed, or faulted (R229, R235, R265). -/
def State.executeRun (sf upset : Nat) (q : SRun) (s0 : State) : State :=
  let f := q.sf
  match s0.stampClash f with
  | some c => s0.refuseRun sf c q
  | none =>
    let s := s0.touchCtxs sf f
    match ilnusRun (s.runEnv sf upset (s.lenSeen q) f) q.prog.insns 256 0 { mem := s.sft.ctxMem } with
    | .fault insn bit c detail r =>
      let s2 := s.sftErr sf bit 0 c insn f.slot f.port detail f.stamp q.prog.id
      let s3 := if bit = 5 then s2.setCtx c { s2.ctx c with ue := true } else s2
      (s3.evtAdd .sft sf 1 1).applyVerdict sf q.seqno q.prog q.prog.fallbackVerdict
        (noResult (runKey q.prog f ++ [insn, bit] ++ r.h.map (ofSigned 128))) f
    | .done r =>
      let s2 : State := { s with sft.ctxMem := r.mem }
      let s3 := f.ctxs.foldl (fun s c => if s.homed sf c then s.setCtx c { s.ctx c with lastStamp := some (f.stamp, portDie f.port) } else s) s2
      let s4 := r.rel.foldl (State.releaseHolds sf) s3
      (s4.evtAdd .sft sf 0 1).applyVerdict sf q.seqno q.prog r.verdict (leBytes 16 (ofSigned 128 (r.reg 15))) f

/-- The frame of the lowest key in the queue may be dispatched (R234): it can no longer be passed by an earlier one, and a run engine
is free (R224). -/
def State.settledOrder (s : State) (sf : Nat) (f : SftFrame) : Bool :=
  decide (f.stamp < s.time.now) && !s.sft.handovers.any (fun h => h.1 == sf && h.2.2.before f) &&
  (List.range 4).all (fun d => d == sifterDie sf || !bitOn (s.srcDies sf) d || decide (f.stamp ≤ s.sft.watermark.num d)) &&
  decide ((s.sifter sf).runs.length < 32)

/-- The queue's frame of the lowest key, and the rest of the queue. -/
def Sifter.lowest (x : Sifter) : Option (SftFrame × List SftFrame) :=
  match sortBy (fun a b => !b.before a) x.queue with
  | [] => none
  | f :: _ => some (f, x.queue.filter (fun g => g.frame != f.frame))

/-- What a Sifter memory does as a frame's program is read (R266, R268): 1, an error corrected; 2, one that is not, which empties the slot. -/
def State.progUpset (sf upset : Nat) (f : SftFrame) (s : State) : State :=
  let pid := match s.progIn sf f.slot with | some p => p.id | none => 0
  if upset = 1 then s.sftErr sf 8 0 0xFFFF 0 f.slot f.port 0 f.stamp pid
  else if upset = 2 then
    (s.sftErr sf 7 0 0xFFFF 0 f.slot f.port 0 f.stamp pid).onSifter sf (fun x => { x with slots := Sparse.del x.slots f.slot })
  else s

/-- SFT_CTX commands that wait and name a context of the frame (R243). -/
def State.ctxCmdsOn (s : State) (f : SftFrame) : List Nat :=
  (s.hif.parked.filter (fun e => e.opcode == 0x32 && f.ctxs.contains (e.op 0x12 2))).map WinEntry.seq

/-- A frame dispatched (R229, R241, R262, R266). -/
def State.dispatch (sf upset : Nat) (f : SftFrame) (rest : List SftFrame) (s : State) : State :=
  let s1 := (s.onSifter sf (fun x => { x with queue := rest })).progUpset sf upset f
  match s1.progIn sf f.slot with
  | none => s1.noprog sf f
  | some p =>
    let x := s1.sifter sf
    let q : SRun := { sf := f, seqno := x.seqno + 1, prog := p, behind := s1.ctxCmdsOn f }
    let s2 := s1.setSifter sf { x with seqno := x.seqno + 1 }
    if s2.inlinePort f.port && f.ctxs.any (fun c => !(s2.ctx c).pinned) then
      ((s2.evtAdd .sft sf 3 1).evtAdd .sft sf 1 1).noRun sf q.seqno p f
    else if s2.runFree sf x.runs q then s2.executeRun sf upset q
    else (s2.touchCtxs sf f).onSifter sf (fun x => { x with runs := x.runs ++ [q] })

/-- The first waiting run that may start. -/
def State.nextRun (s : State) (sf : Nat) : List SRun → List SRun → Option SRun
  | _, [] => none
  | earlier, q :: qs => if s.runFree sf earlier q then some q else s.nextRun sf (earlier ++ [q]) qs

/-- A waiting run goes on. One whose program can no longer be read takes its port's NOPROG action (R262, R266). -/
def State.resumeRun (sf upset : Nat) (q : SRun) (s : State) : State :=
  let s1 := (s.onSifter sf (fun x => { x with runs := x.runs.filter (fun r => r.seqno != q.seqno) })).progUpset sf upset q.sf
  if upset = 2 then s1.noprog sf q.sf else s1.executeRun sf upset q

/-- SIFTER_RUN: a waiting run goes on, or a frame is dispatched; records that can go are written. `upset`: 1 and 2 an error in program memory,
corrected and not; 3 and 4 one in the reads of contexts A and B, 5 of the tables, not corrected; 6 and 7 one in the buffer of the first record
written, corrected and not. -/
def State.sifterRunStep (sf upset : Nat) (s : State) : State :=
  if s.clk.coast then s
  else
    let x := s.sifter sf
    let t := match s.nextRun sf [] x.runs with
      | some q => s.resumeRun sf upset q
      | none =>
        match x.lowest with
        | some (f, rest) => if s.settledOrder sf f then s.dispatch sf upset f rest else s
        | none => s
    t.pumpRecs sf (upset - 5)

/-- WATERMARK_BROADCAST: a port die broadcasts its watermark (R234). -/
def State.broadcastWatermark (pd : Nat) (s : State) : State := { s with sft.watermark := s.sft.watermark.setNum pd s.time.now }

/-- SIFTER_HOLD_AGE_OUT: holds older than their HOLD_AGE are discarded (R256). -/
def State.holdAgeOut (sf : Nat) (s : State) : State :=
  let x := s.sifter sf
  let old := x.holds.filter (fun h => decide (1000 * h.age < s.time.now - h.since))
  let s1 := s.setSifter sf { x with holds := x.holds.filter (fun h => !decide (1000 * h.age < s.time.now - h.since)) }
  (old.foldl (fun s h =>
    let verdict := h.base.verdict - h.base.verdict % 4 + 1
    ((s.evtAdd .sft sf 5 1).addRec sf { h.base with notice := true, verdict := verdict, reason := 0xFFFF }).dropFrame h.frame) s1).pumpRecs sf

/-! ### The SFT commands (R243, R254, R256, R260 to R263, R550) -/

/-- STATUS SIFTER_IMAGE. -/
def stSftImage : Nat := 0x2140
/-- STATUS SIFTER_DIGEST. -/
def stSftDigest : Nat := 0x2141
/-- STATUS SIFTER_BRANCH. -/
def stSftBranch : Nat := 0x2142
/-- STATUS SIFTER_BUDGET. -/
def stSftBudget : Nat := 0x2143
/-- STATUS SIFTER_INLINE_DEP. -/
def stSftInlineDep : Nat := 0x2144
/-- STATUS SIFTER_CTX_BUSY. -/
def stSftCtxBusy : Nat := 0x2145
/-- STATUS SIFTER_PIN_FULL. -/
def stSftPinFull : Nat := 0x2146
/-- STATUS SIFTER_HOLD_LOCKED. -/
def stSftHoldLocked : Nat := 0x2147
/-- STATUS SIFTER_HOLD_ABSENT. -/
def stSftHoldAbsent : Nat := 0x2148
/-- STATUS SIFTER_NO_CTX of a host command. -/
def stSftNoCtx : Nat := 0x2149
/-- STATUS DET_VARIANT of a Sifter page. -/
def stSftVariant : Nat := 0x2104

/-- Check 1 of R263: the image's header. -/
def sftHeaderOk (h : List Byte) : Bool :=
  field h 0 4 == 0x534E4C49 && field h 4 2 == 1 && decide (1 ≤ field h 6 2 ∧ field h 6 2 ≤ 256) && field h 8 8 != 0 &&
  decide (field h 0x10 1 < 16) && decide (field h 0x11 1 < 8) && field h 0x11 1 % 4 != 3 &&
  bits (field h 0x12 2) 14 12 == 0 && bits (field h 0x12 2) 7 7 == 0 &&
  decide (bits (field h 0x12 2) 6 0 + bits (field h 0x12 2) 11 8 + 1 ≤ 128) &&
  decide (1 ≤ field h 0x14 4 ∧ field h 0x14 4 ≤ 1000000) && allZero (slice h 0x18 8)

/-- Inline ports of a mask on a Sifter. -/
def State.inlineOf (s : State) (sf mask : Nat) : List Nat := (onesOf 4 mask).filter (fun p => s.inlinePort (4 * sf + p))

/-- BUDGET of a Sifter's port. -/
def State.budget (s : State) (sf p : Nat) : Nat := s.fld .sft sf (0x100 + 8 * p) 6 0

/-- The checks of R263 after the header: the STATUS of the first that fails, or 0. -/
def State.sftCheck (s : State) (sf : Nat) (h body : List Byte) : Nat :=
  let ws := (chunksOf 8 body).map leNat
  let paths := progPaths ws
  let inl := s.inlineOf sf (field h 0x10 1)
  if sha3 (slice h 0 0x20 ++ body) ≠ slice h 0x20 32 then stSftDigest
  else if !ws.all insOk then stSftImage
  else if !branchesOk ws then stSftBranch
  else if !paths.ends || decide (64 < paths.puts) then stSftImage
  else if inl.any (fun p => decide (s.budget sf p < paths.steps)) then stSftBudget
  else if !inl.isEmpty && paths.both then stSftInlineDep
  else 0

/-- The program of an image. -/
def progOf (h body : List Byte) : Prog :=
  { id := field h 8 8, insns := (chunksOf 8 body).map (fun b => BitVec.ofNat 64 (leNat b)), portMask := field h 0x10 1
    fallback := field h 0x11 1, keyB := field h 0x12 2, holdAge := field h 0x14 4
    bound := (progPaths ((chunksOf 8 body).map leNat)).steps }

/-- SFT_LOAD (R260 to R263). -/
def State.sftLoadCmd : State → State :=
  State.take (fun e => e.opcode == 0x30)
    (fun e => decide (e.op 0x10 1 < 32) && e.zeros 0x12 0x18 && xIsDev (e.op 0x18 8) && e.zeros 0x20 0x40)
    (fun s e => s.xBusy (e.op 0x18 8) 2112) (fun e s =>
    let sf := e.op 0x10 1
    let slot := e.op 0x11 1
    let (st, h, t) := s.xRead e.tag (e.op 0x18 8) 64
    if st ≠ 0 then t.finishEntry e st 0
    else if !sftHeaderOk h || decide (15 < slot) then t.finishEntry e stSftImage 0
    else
      let (st2, body, u) := t.devRead (whoOf 0x10 0 0 e.tag) (xAddr (e.op 0x18 8) + 64) (8 * field h 6 2)
      if st2 ≠ 0 then u.finishEntry e st2 0
      else
        let code := u.sftCheck sf h body
        if code ≠ 0 then u.finishEntry e code 0
        else (u.onSifter sf (fun x => { x with slots := Sparse.put x.slots slot (progOf h body) })).finishEntry e 0 0)

/-- SFT_UNLOAD (R262). -/
def State.sftUnloadCmd : State → State :=
  State.take (fun e => e.opcode == 0x31)
    (fun e => decide (e.op 0x10 1 < 32) && decide (e.op 0x11 1 < 16) && e.zeros 0x12 0x40) (fun _ _ => false) (fun e s =>
    (s.onSifter (e.op 0x10 1) (fun x => { x with slots := Sparse.del x.slots (e.op 0x11 1) })).finishEntry e 0 0)

/-- The context an SFT_CTX descriptor names. -/
def WinEntry.ctxNo (e : WinEntry) : Nat := e.op 0x12 2

/-- A waiting run of any Sifter that was dispatched before the command came names its context (R243). -/
def State.ctxInRun (s : State) (e : WinEntry) : Bool :=
  s.sft.units.any (fun u => u.2.runs.any (fun q => q.sf.ctxs.contains e.ctxNo && !q.behind.contains e.seq))

/-- The page of a command's context has a frame, or needs none: the context is pinned (R240, R297). -/
def State.ctxAway (s : State) (e : WinEntry) : Bool := !(s.ctx e.ctxNo).pinned && !s.pageResident (ctxPage e.ctxNo)

/-- Pages of contexts that waiting SFT_CTX commands read or write are asked for (R297). -/
def State.askCtxs (s : State) : State :=
  s.hif.parked.foldl (fun s e => if e.opcode == 0x32 && decide (3 ≤ e.op 0x10 1) && s.ctxAway e then s.touchPage (ctxPage e.ctxNo) else s) s

/-- SFT_CTX by operation: strict mode refuses all of them (R237, R243). One that waits for its context's page has it asked for (R297). -/
def State.sftCtxCmd (op : Nat) (formatOk : WinEntry → Bool) (waits : State → WinEntry → Bool) (body : WinEntry → State → State)
    (s : State) : State :=
  (s.take (fun e => e.opcode == 0x32 && e.op 0x10 1 == op)
    (fun e => decide (e.ctxNo < 8192) && e.zeros 0x15 0x16 && e.zeros 0x20 0x40 && formatOk e) waits (fun e s =>
    if s.strict then
      (match (s.ctx e.ctxNo).home with
        | some sf => s.sftErr sf 4 e.tag e.ctxNo 0 0 0 0 0 0
        | none => s).finishEntry e stSftVariant 0
    else body e s)).askCtxs

/-- SFT_CTX HOME (R243). -/
def State.sftCtxHomeCmd : State → State :=
  State.sftCtxCmd 0 (fun e => (decide (e.op 0x11 1 < 32) || e.op 0x11 1 == 0xFF) && e.zeros 0x14 0x20) (fun _ _ => false) (fun e s =>
    let x := s.ctx e.ctxNo
    let h := e.op 0x11 1
    if x.pinned || s.ctxInRun e then s.finishEntry e stSftCtxBusy 0
    else (s.setCtx e.ctxNo { x with home := if h = 0xFF then none else some h }).finishEntry e 0 0)

/-- Pinned contexts homed on Sifters of a kind. -/
def State.pinnedOn (s : State) (f : Nat → Bool) : Nat :=
  (s.sft.ctxs.filter (fun c => c.2.pinned && (match c.2.home with | some h => f h | none => false))).length

/-- SFT_CTX PIN (R240, R243). -/
def State.sftCtxPinCmd : State → State :=
  State.sftCtxCmd 1 (fun e => e.zeros 0x11 0x12 && e.zeros 0x14 0x20) (fun s e => s.ctxInRun e) (fun e s =>
    let x := s.ctx e.ctxNo
    match x.home with
    | none => s.finishEntry e stSftNoCtx 0
    | some h =>
      if !x.pinned && (decide (2048 ≤ s.pinnedOn (fun _ => true)) || decide (512 ≤ s.pinnedOn (fun k => sifterDie k == sifterDie h))) then
        s.finishEntry e stSftPinFull 0
      else (s.setCtx e.ctxNo { x with pinned := true }).finishEntry e 0 0)

/-- SFT_CTX UNPIN (R243). -/
def State.sftCtxUnpinCmd : State → State :=
  State.sftCtxCmd 2 (fun e => e.zeros 0x11 0x12 && e.zeros 0x14 0x20) (fun s e => s.ctxInRun e) (fun e s =>
    (s.setCtx e.ctxNo { s.ctx e.ctxNo with pinned := false }).finishEntry e 0 0)

/-- The data operands of SFT_CTX WRITE and READ. -/
def WinEntry.ctxDataOk (e : WinEntry) : Bool :=
  e.zeros 0x11 0x12 && decide (e.op 0x14 1 + e.op 0x16 2 + 1 ≤ 256) && xOk (e.op 0x18 8)

/-- What SFT_CTX WRITE and READ wait for: host memory, runs before them, the context's page and device memory (R243, R297, R307). -/
def State.ctxDataWaits (s : State) (e : WinEntry) : Bool :=
  s.hostWaits (hostLen (e.op 0x18 8) (e.op 0x16 2 + 1)) || s.ctxInRun e || s.ctxAway e || s.xBusy (e.op 0x18 8) (e.op 0x16 2 + 1)

/-- The page of an unpinned context is used (R297). -/
def State.touchCtx (c : Nat) (s : State) : State := if (s.ctx c).pinned then s else s.touchPage (ctxPage c)

/-- SFT_CTX WRITE (R243, R265). -/
def State.sftCtxWriteCmd (way : HostWay) : State → State :=
  State.sftCtxCmd 3 WinEntry.ctxDataOk State.ctxDataWaits (fun e s =>
    let x := e.op 0x18 8
    let n := e.op 0x16 2 + 1
    s.viaHost way e (hostLen x n) (xAddr x) (fun s =>
      let (st, bs, t) := s.xRead e.tag x n
      if st ≠ 0 then t.finishEntry e st 0
      else
        let u : State := { t.touchCtx e.ctxNo with sft.ctxMem := t.sft.ctxMem.write (256 * e.ctxNo + e.op 0x14 1) bs }
        (if n = 256 then u.setCtx e.ctxNo { u.ctx e.ctxNo with ue := false } else u).finishEntry e 0 0))

/-- SFT_CTX READ (R243). Bytes of a context with an uncorrectable error are free values. -/
def State.sftCtxReadCmd (way : HostWay) : State → State :=
  State.sftCtxCmd 4 WinEntry.ctxDataOk State.ctxDataWaits (fun e s =>
    let x := e.op 0x18 8
    let n := e.op 0x16 2 + 1
    s.viaHost way e (hostLen x n) (xAddr x) (fun s =>
      let ue := (s.ctx e.ctxNo).ue
      let bs := if ue then Config.freeBytes n s.free else s.sft.ctxMem.read (256 * e.ctxNo + e.op 0x14 1) n
      let (st, t) := ((if ue then { s with free := s.free + n } else s : State).touchCtx e.ctxNo).xWrite e.tag x bs
      t.finishEntry e st 0))

/-- SFT_TABLE (R254). -/
def State.sftTableCmd (way : HostWay) : State → State :=
  State.take (fun e => e.opcode == 0x33)
    (fun e => decide (e.op 0x10 1 < 32) && e.zeros 0x11 0x12 && decide (1 ≤ e.op 0x14 2) && decide (e.op 0x12 2 + e.op 0x14 2 ≤ 8192) &&
      e.zeros 0x16 0x18 && xOk (e.op 0x18 8) && e.zeros 0x20 0x40)
    (fun s e => s.hostWaits (hostLen (e.op 0x18 8) (16 * e.op 0x14 2)) || s.xBusy (e.op 0x18 8) (16 * e.op 0x14 2)) (fun e s =>
    let x := e.op 0x18 8
    s.viaHost way e (hostLen x (16 * e.op 0x14 2)) (xAddr x) (fun s =>
      let (st, bs, t) := s.xRead e.tag x (16 * e.op 0x14 2)
      if st ≠ 0 then t.finishEntry e st 0
      else (t.onSifter (e.op 0x10 1) (fun u => { u with table := u.table.write (16 * e.op 0x12 2) bs })).finishEntry e 0 0))

/-- The Sifter and hold an SFT_RELEASE descriptor names. -/
def State.holdOf (s : State) (e : WinEntry) : Option HoldRec :=
  (s.sifter (e.op 0x10 4 / 2 ^ 27)).holds.find? (fun h => h.id == e.op 0x10 4)

/-- A hold leaves its Sifter. -/
def State.unhold (h : HoldRec) (s : State) : State :=
  s.onSifter (h.id / 2 ^ 27) (fun x => { x with holds := x.holds.filter (fun g => g.id != h.id) })

/-- SFT_RELEASE by its operation: 0 discard, 1 forward (R256). -/
def State.sftReleaseCmd (forward : Bool) : State → State :=
  State.take (fun e => e.opcode == 0x34 && e.op 0x14 1 == b2n forward) (fun e => e.zeros 0x15 0x40) (fun _ _ => false) (fun e s =>
    match s.holdOf e with
    | none => s.finishEntry e stSftHoldAbsent 0
    | some h =>
      if forward then
        if !h.hostOk then s.finishEntry e stSftHoldLocked 0
        else
          let s1 := s.unhold h
          (match s1.frame h.frame with
            | some g => (s1.evtAdd .sw 0 4 g.lack).releaseFrame h.frame
            | none => s1).finishEntry e 0 0
      else ((s.unhold h).dropFrame h.frame).finishEntry e 0 0)

end Sys2Proof.Machine
end

