-- ==== Sys2Proof/Machine/EthOps.lean ====
section
/-! DEFINITION. Ethernet frames from their arrival to their lookup result, links up and down, and the table and meter commands (R229, R275 to
R288, R321, R335 to R340, R349, R350; 08_switch_core_and_central_store.md, 09_traffic_management_and_time.md). -/

namespace Sys2Proof.Machine

/-! ### Tables (R285, R321, R322) -/

/-- A table error: `kind` 1 corrected or 2 uncorrectable, `t` 0 ternary, 1 exact-match, 2 multicast, of the entry at `i`. -/
def State.tableError (kind t i : Nat) (s : State) : State :=
  let s1 := s.raise .sw 0 kind 0 (t * 2 ^ 62 + i % 2 ^ 16 * 2 ^ 16) 0 0
  if kind = 1 then s1
  else if t = 0 then { s1 with sw.tcam := Sparse.set {} s1.sw.tcam i { s1.tcamE i with bad := true } }
  else if t = 1 then { s1 with sw.em := Sparse.set {} s1.sw.em i { s1.emE i with bad := true } }
  else { s1 with sw.mc := Sparse.set {} s1.sw.mc i { s1.mcE i with bad := true } }

/-! ### Arrival (R226, R229, R275, R280, R282, R288, R325, R339) -/

/-- The ingress class of a frame: MAP of its outer tag's PCP, or of DEFPCP (R325). -/
def State.ingressClass (s : State) (port : Nat) (p : Parsed) : Nat :=
  let v := s.reg .port port 0x500
  let pcp := if p.tags = 0 then bits v 26 24 else bits p.tci 15 13
  bits v (3 * pcp + 2) (3 * pcp)

/-- The colour a result's meter gives a frame, and what the meter charged (R337, R338). -/
def State.colourOf (f : Frame) (p : Parsed) (r : Nat) (s : State) : Nat × Option (Nat × Nat × Nat) × State :=
  if bitOn r 17 then
    s.meterFrame (4096 * portDie f.port + bits r 16 5) (meterLength p f.bytes f.complete) f.stamp (p.tags != 0 && bitOn p.tci 12)
  else (0, none, s)

/-- A frame's lookup result is known: it is metered, then goes to a Sifter, is discarded, or is forwarded (R226, R281, R325, R339). -/
def State.resultKnown (f0 : Frame) (p : Parsed) (r : Nat) (s0 : State) : State :=
  let (colour, charged, s) := s0.colourOf f0 p r
  let cls := if bitOn r 4 then bits r 3 1 else f0.cls
  let (outs, lack) := s.outputs r f0.port
  let f : Frame := { f0 with meter := charged, outs := outs, lack := lack, group := resKind r == 1 }
  let s1 := s.setFrame f
  let meter := s.meter (4096 * portDie f.port + bits r 16 5)
  if resSft r then
    let (ctxB, s2) := s1.contextB (s1.progIn (resSifter r) (resSlot r)) f.bytes
    s2.toSifter (resSifter r)
      { frame := f.id, stamp := f.stamp, port := f.port, seq := f.seq, slot := resSlot r, ctxA := resCtx r, ctxB := ctxB
        colour := colour, cls := cls, head := f.bytes.take 128 }
  else if (colour == 2 && meter.redDrop) || (colour == 1 && meter.yelDiscard && s1.atThrottle f.cls) then s1.dropFrame f.id
  else (s1.evtAdd .sw 0 4 lack).settleFrame f.id cls outs

/-- The result of a ternary miss: drop, or forward to MISS_PORT (R280, R324). -/
def State.missed (f : Frame) (s : State) : State :=
  let v := s.reg .port f.port 0x400
  if bits v 2 1 = 1 then s.settleFrame f.id f.cls [bits v 14 8] else s.dropFrame f.id

/-- A frame's arrival is stamped. Within one ns the arrivals of a port die are taken in port order, so that its meters take frames in order-key
order (R233, R336): one that comes after a higher port's is of the next ns (log 121). -/
def State.stampArrival (port : Nat) (s : State) : State :=
  let last := Sparse.get (0, 0) s.sw.lastKey (portDie port)
  let now := if last.1 = s.time.now ∧ port < last.2 then (s.time.now + 1) % 2 ^ 64 else s.time.now
  { s with time.now := now, sw.lastKey := Sparse.set (0, 0) s.sw.lastKey (portDie port) (now, port) }

/-- ETH_FRAME_ARRIVAL: byte 128, or the frame's end if sooner, is in. `upset`: 1 CS_CE, 2 CS_UE, 8 + t and 12 + t a corrected and an
uncorrectable error of table t at `index`. -/
def State.ethArrive (port : Nat) (data : List Byte) (ended fcsOk : Bool) (upset index : Nat) (s' : State) : State :=
  let x := s'.port port
  if !s'.ethUp port || x.rx.isSome then s'
  else
    let s := s'.stampArrival port
    let s0 := s.setPort port { x with arrivals := x.arrivals + 1, rx := if ended then none else some 0 }
    if ended && !fcsOk then s0.evtAdd .sw 0 5 1
    else
      let p := parseFrame data
      let cls := s0.ingressClass port p
      match s0.alloc cls 0 (some port) with
      | none => s0.evtAdd .pnt 0 0 1
      | some (b, s1) =>
        let id := s1.sw.nextFrame
        let f : Frame := { id := id, port := port, stamp := s1.timeOn (portDie port), seq := x.arrivals + 1, bytes := data, complete := ended, cls := cls, bufs := [b],
                           bad := upset == 2 }
        let s2 : State := { s1 with sw.frames := s1.sw.frames ++ [f], sw.nextFrame := id + 1 }
        let s3 := if ended then s2 else s2.setPort port { s2.port port with rx := some id }
        let s4 := s3.storeError (port / 32) 0 upset b
        let s5 := if 8 ≤ upset ∧ upset ≤ 10 then s4.tableError 1 (upset - 8) index
          else if 12 ≤ upset ∧ upset ≤ 14 then s4.tableError 2 (upset - 12) index else s4
        match s5.lookup p data port cls with
        | (none, s6) => s6.missed f
        | (some r, s6) => s6.resultKnown f p r

/-- ETH_FRAME_END. -/
def State.ethEnd (port : Nat) (data : List Byte) (fcsOk : Bool) (upset : Nat) (s : State) : State :=
  (s.endFrame port data fcsOk upset).pumpAllRecs

/-- ETHERNET_LINK_UP (R348, R350): the port is in Ethernet mode with EN set. -/
def State.ethLinkUp (n : Nat) (s : State) : State :=
  let taken := n % 2 == 1 && s.fld .port (n - 1) 0x810 4 3 == 3
  if s.portMode n == 1 && s.fld .port n 0x810 0 0 == 1 && !taken && s.serdesOn n then s.setPort n { s.port n with up := true } else s

/-- ETHERNET_LINK_DOWN: the frame being received ends early, and the queues stop (R289, R350). -/
def State.ethLinkDown (n : Nat) (s : State) : State :=
  ((s.setPort n { s.port n with up := false }).endFrame n [] false 0).pumpAllRecs

/-! ### The table commands (R285, R286, R550) -/

/-- STATUS SW_TABLE_INDEX. -/
def stSwIndex : Nat := 0x2440
/-- STATUS SW_ENTRY_FORMAT. -/
def stSwFormat : Nat := 0x2441
/-- STATUS SW_EM_EXISTS. -/
def stSwExists : Nat := 0x2442
/-- STATUS SW_EM_FULL. -/
def stSwFull : Nat := 0x2443
/-- STATUS SW_EM_ABSENT. -/
def stSwAbsent : Nat := 0x2444

/-- SW_TCAM_WRITE. -/
def State.swTcamCmd (way : HostWay) : State → State :=
  State.take (fun e => e.opcode == 0x40) (fun e => e.zeros 0x12 0x18 && xOk (e.op 0x18 8) && e.zeros 0x20 0x40)
    (fun s e => s.hostWaits (hostLen (e.op 0x18 8) 168) || s.xBusy (e.op 0x18 8) 168) (fun e s =>
    let i := e.op 0x10 2
    let x := e.op 0x18 8
    if 8191 < i then s.finishEntry e stSwIndex 0
    else s.viaHost way e (hostLen x 168) (xAddr x) (fun s =>
      let (st, bs, t) := s.xRead e.tag x 168
      let r := field bs 160 8
      if st ≠ 0 then t.finishEntry e st 0
      else if !resOk r then t.finishEntry e stSwFormat 0
      else
        ({ t with sw.tcam := Sparse.set {} t.sw.tcam i { value := field bs 0 80, mask := field bs 80 80, result := r } } : State).finishEntry
          e 0 0))

/-- The key of an exact-match descriptor. -/
def WinEntry.emKey (e : WinEntry) : List Byte := slice e.bytes 0x10 24
/-- The result of an exact-match descriptor. -/
def WinEntry.emResult (e : WinEntry) : Nat := e.op 0x28 8

/-- SW_EM_INSERT (R283, R285). -/
def State.swEmInsertCmd : State → State :=
  State.take (fun e => e.opcode == 0x41) (fun e => e.zeros 0x30 0x40) (fun _ _ => false) (fun e s =>
    if !emResOk e.emResult then s.finishEntry e stSwFormat 0
    else if (s.emFind e.emKey).isSome then s.finishEntry e stSwExists 0
    else match (emPlaces e.emKey).find? (fun i => !resValid (s.emE i).result || (s.emE i).bad) with
      | none => s.finishEntry e stSwFull 0
      | some i =>
        ({ s with sw.em := Sparse.set {} s.sw.em i { key := leNat e.emKey, result := e.emResult } } : State).finishEntry e 0
          (i / 4 + i % 4 * 2 ^ 16))

/-- SW_EM_UPDATE (R285). -/
def State.swEmUpdateCmd : State → State :=
  State.take (fun e => e.opcode == 0x42) (fun e => e.zeros 0x30 0x40) (fun _ _ => false) (fun e s =>
    if !emResOk e.emResult then s.finishEntry e stSwFormat 0
    else match s.emFind e.emKey with
      | none => s.finishEntry e stSwAbsent 0
      | some i =>
        ({ s with sw.em := Sparse.set {} s.sw.em i { s.emE i with result := e.emResult } } : State).finishEntry e 0 0)

/-- SW_EM_DELETE (R285). -/
def State.swEmDeleteCmd : State → State :=
  State.take (fun e => e.opcode == 0x43) (fun e => e.zeros 0x28 0x40) (fun _ _ => false) (fun e s =>
    match s.emFind e.emKey with
    | none => s.finishEntry e stSwAbsent 0
    | some i => ({ s with sw.em := Sparse.set {} s.sw.em i {} } : State).finishEntry e 0 0)

/-- SW_MC_WRITE (R285, R294). -/
def State.swMcCmd : State → State :=
  State.take (fun e => e.opcode == 0x44)
    (fun e => decide (e.op 0x12 1 < 2) && e.zeros 0x13 0x20 && e.zeros 0x30 0x40) (fun _ _ => false) (fun e s =>
    let g := e.op 0x10 2
    if 4095 < g then s.finishEntry e stSwIndex 0
    else
      ({ s with sw.mc := Sparse.set {} s.sw.mc g { mask := e.op 0x20 16, hairpin := e.op 0x12 1 == 1 } } : State).finishEntry e 0 0)

/-! ### TM_METER (R340, R550) -/

/-- STATUS TM_METER_FORMAT. -/
def stMeterFormat : Nat := 0x2040

/-- A meter's record is within its ranges (R340); 9,216 bytes is the smallest size of either bucket, as its worked example says. -/
def meterRecordOk (bs : List Byte) : Bool :=
  let two := bitOn (field bs 0 1) 0
  decide (field bs 0 1 < 16) && field bs 1 3 == 0 && decide (1 ≤ field bs 4 4 ∧ field bs 4 4 ≤ 800000000) &&
  (if two then decide (field bs 4 4 ≤ field bs 8 4) else field bs 8 4 == 0) &&
  decide (9216 ≤ field bs 0x0C 4) && decide ((if two then field bs 0x0C 4 else 9216) ≤ field bs 0x10 4) && field bs 0x14 4 == 0

/-- A meter as a record sets it: both buckets full (R340). -/
def meterOf (bs : List Byte) : Meter :=
  { ctrl := field bs 0 1, cir := field bs 4 4, pir := field bs 8 4, cbs := field bs 0x0C 4, ebs := field bs 0x10 4
    tc := (field bs 0x0C 4 * byteUnits : Nat), te := (field bs 0x10 4 * byteUnits : Nat), last := none, red := 0 }

/-- A meter written between two frames: a frame still being received counts as before the write, which its end then cannot change (R340). -/
def State.writeMeter (k : Nat) (m : Meter) (s : State) : State :=
  { (s.setMeter k m) with sw.frames := s.sw.frames.map (fun f => if (f.meter.map Prod.fst) == some k then { f with meter := none } else f) }

/-- A meter's record as it is read (R340). -/
def Meter.record (m : Meter) : List Byte :=
  leBytes 4 m.ctrl ++ leBytes 4 m.cir ++ leBytes 4 m.pir ++ leBytes 4 m.cbs ++ leBytes 4 m.ebs ++ leBytes 4 0 ++ leBytes 8 m.red

/-- TM_METER's operands, for a write or a read. -/
def WinEntry.meterOk (read : Bool) (e : WinEntry) : Bool :=
  bits (e.op 0x10 1) 6 4 == 0 && e.zeros 0x11 0x12 && decide (e.op 0x12 2 < 4096) && e.zeros 0x14 0x18 && xOk (e.op 0x18 8) &&
  e.zeros 0x20 0x40 && (!read || (onesOf 4 (e.op 0x10 1)).length == 1)

/-- TM_METER, by its READ bit: a write sets the meter of every die named, a read returns one. -/
def State.tmMeterCmd (read : Bool) (way : HostWay) : State → State :=
  State.take (fun e => e.opcode == 0x48 && bitOn (e.op 0x10 1) 7 == read) (WinEntry.meterOk read)
    (fun s e => s.hostWaits (hostLen (e.op 0x18 8) 32) || s.xBusy (e.op 0x18 8) 32) (fun e s =>
    let x := e.op 0x18 8
    let m := e.op 0x12 2
    let dies := onesOf 4 (e.op 0x10 1)
    s.viaHost way e (hostLen x 32) (xAddr x) (fun s =>
      if read then
        let (st, t) := s.xWrite e.tag x (s.meter (4096 * dies.headD 0 + m)).record
        t.finishEntry e st 0
      else
        let (st, bs, t) := s.xRead e.tag x 32
        if st ≠ 0 then t.finishEntry e st 0
        else if !meterRecordOk bs then t.finishEntry e stMeterFormat 0
        else (dies.foldl (fun s d => s.writeMeter (4096 * d + m) (meterOf bs)) t).finishEntry e 0 0))

/-! ### Traffic manager commands from outside (R309, R333, R350) -/

/-- TX_SELECT: an idle transmitter selects (R327); pages of copies near the heads that have no frame are asked for again (R297). -/
def State.txSelectCmd (n : Nat) (s : State) : State :=
  if s.ethUp n && !s.txBusy n then
    ((List.range 8).foldl (fun s c => s.prefetch n c) s).txSelect n (s.queuedCopies n + 1) else s

/-- PFC_FRAME_RECEIVE (R309): a pause time of 0 ends the pause. -/
def State.pfcReceive (port prio quanta : Nat) (s : State) : State :=
  if s.ethUp port && bitOn (s.reg .port port 0x418) (8 + prio) then
    let x := s.port port
    (s.setPort port { x with paused := if quanta = 0 then clearBit x.paused prio else setBit x.paused prio }).keepDeficits port
  else s

/-- GATE_ENTRY_CHANGE (R329, R331, R332): a class whose gate was about to close, or closes now, loses its deficit (R327). -/
def State.gateEvent (n : Nat) (s : State) : State := ((s.keepDeficits n).gateChange n).keepDeficits n

/-- PFC_PAUSE_REPEAT (R309): while XOFF is in force a port repeats its PAUSE frame. -/
def State.pauseRepeat (port prio : Nat) (s : State) : State :=
  if bitOn (s.pnt.xoff.num port) prio then s.sendPause port prio (s.fld .port port 0x418 39 24) else s

/-- PFC_PAUSE_EXPIRY (R309): the pause time received has run out. -/
def State.pauseExpiry (port prio : Nat) (s : State) : State :=
  s.setPort port { s.port port with paused := clearBit (s.port port).paused prio }

/-- TIME_STEP (R332, R341): module time is stepped, and every enabled schedule waits for its next cycle start. -/
def State.timeStepTo (t : Nat) (s : State) : State :=
  (List.range 128).foldl (fun s n => (s.gateStepped n).keepDeficits n)
    { s with time.now := t, time.steps := (s.time.steps + 1) % 2 ^ 16 }

/-! ### PTP (R341, R343, R347) -/

/-- A Follow_Up completes a measurement of the offset: OFFSET, SYNC, and a slew within 500 ppm while the offset is within 1 µs; and a Delay_Req
goes out on the instance's port, by its transport and domain, with its transmit timestamp taken (R343). The servo's rate is a free value
(log 40). -/
def State.ptpMeasured (s : State) : State :=
  let off := s.time.ptpT2 - s.time.ptpT1 - s.time.ptpDelay
  let near := decide (-1000 ≤ off) && decide (off ≤ 1000)
  let t := if near then s.useFree else s
  { t with
    time.offset := off, time.sync := near
    time.slewPpm := if near then (Config.free s.free % 1001 : Nat) - 500 else s.time.slewPpm
    time.ptpT3 := s.time.now
    out.ptp := t.out.ptp ++ [{ port := s.fld .ref 0 0x410 6 0, udp := s.fld .ref 0 0x410 16 16 == 1, domain := s.fld .ref 0 0x410 15 8,
                               stamp := s.time.now }] }

/-- A message that comes in on a port, of a domain and by a transport, is the running instance's (R343, R347). -/
def State.ptpOurs (s : State) (port domain : Nat) (udp : Bool) : Bool :=
  s.fld .ref 0 0x410 7 7 == 1 && s.fld .ref 0 0x410 6 0 == port && s.fld .ref 0 0x410 15 8 == domain &&
  (s.fld .ref 0 0x410 16 16 == 1) == udp && s.ethUp port

/-- PTP_MESSAGE_RECEIVE: `kind` 0 Sync, 1 Follow_Up with the origin time, 2 Delay_Resp with the master's receive time. -/
def State.ptpReceive (port domain : Nat) (udp : Bool) (kind t : Nat) (s : State) : State :=
  if !s.ptpOurs port domain udp then s
  else if kind = 0 then { s with time.ptpT2 := s.time.now }
  else if kind = 1 then ({ s with time.ptpT1 := t } : State).ptpMeasured
  else if kind = 2 then { s with time.ptpDelay := (s.time.ptpT2 - s.time.ptpT1 + (t - s.time.ptpT3)) / 2 }
  else s

end Sys2Proof.Machine
end

