-- ==== Sys2Proof/Machine/Admit.lean ====
section
/-! DEFINITION. The Proofer's charges and its admission procedure (R503 to R509, R515; 15_power_thermal_and_clocks.md). Powers are
held in units of 1/7680 W, of which every default charge of R504 is a whole number. -/

namespace Sys2Proof.Machine

/-- Units of charge in one watt. -/
def chargeUnit : Nat := 7680

/-- The charge of a RUN with EST_W `est` at `entry` (R503, R515). -/
def State.runCharge (s : State) (entry est : Nat) : Nat :=
  (if s.prf.warm then max est ((s.learned entry).getD 0) else est) * chargeUnit

/-- The charge of a vln.run run at `entry`: what is learned, else LIMIT_W over the exposed blocks of the module (R504, R515). -/
def State.vlnCharge (s : State) (entry : Nat) : Nat :=
  match (if s.prf.warm then s.learned entry else none) with
  | some w => w * chargeUnit
  | none => s.prf.limitW * (chargeUnit / (32 * s.exposed))

/-- A run being executed that vln.run started: its class, charge and block. -/
def State.vlnRuns (s : State) : List (Nat × Nat × Nat) :=
  s.blocks.filterMap (fun c => match c.2.run with
    | some r => if r.req.seq.isNone then some (r.req.cls, r.req.charge, c.1) else none
    | none => none)

/-- RUN commands that are running. -/
def State.runningCmds (s : State) : List OpenCmd := s.hif.opened.filter (fun c => c.opcode == 0x10 && c.admitted)

/-- The charges of what runs in the classes chosen (R505). -/
def State.runningCharge (s : State) (chosen : Nat → Bool) : Nat :=
  ((s.runningCmds.filter (fun c => chosen c.cls)).map (fun c => c.charge)).sum +
    ((s.vlnRuns.filter (fun r => chosen r.1)).map (fun r => r.2.1)).sum

/-- The least common multiple of 1 to 32: a share of a charge over the dies of a command is a whole number of these parts, since a
command names at most eight blocks or spreads evenly over at most 32 dies (R507). -/
def shareUnit : Nat := 144403552893600

/-- The share of a charge on a die, over the targets given (R507). -/
def dieShare (d charge : Nat) (targets : List (Nat × Nat)) : Nat :=
  charge * shareUnit / (max 1 targets.length) * (targets.filter (fun t => dieOf t.2 == d)).length

/-- The charges running on a die (R507). -/
def State.dieCharge (s : State) (d : Nat) : Nat :=
  ((s.runningCmds.map (fun c => dieShare d c.charge c.all)).sum) +
    (s.vlnRuns.map (fun r => if dieOf r.2.2 = d then r.2.1 * shareUnit else 0)).sum

/-- What the Proofer holds of a die. -/
def State.diePow (s : State) (d : Nat) : DiePow := Sparse.get {} s.prf.dies d

/-- T_d in quarter degrees (R533). -/
def DiePow.temp (x : DiePow) : Int := toSigned 12 x.tmax

/-- H_d in quarter kelvins (R507). -/
def State.headroom (s : State) (d : Nat) : Int := 4 * (s.prf.tjTarget : Int) - (s.diePow d).temp

/-- A_d in watts, times 40 (R507, R517). -/
def State.allowance40 (s : State) (d : Nat) : Nat :=
  if popCount 8 (s.diePow d).sensorOk < 6 then 0 else s.prf.dieMaxW * (min 40 (s.headroom d)).toNat

/-- A command fits on every die it touches (R507). -/
def State.fitsDies (s : State) (charge : Nat) (targets : List (Nat × Nat)) : Bool :=
  (targets.map (fun t => dieOf t.2)).all (fun d =>
    decide (40 * (s.dieCharge d + dieShare d charge targets) ≤ s.allowance40 d * chargeUnit * shareUnit))

/-- The COLL floor F as a charge. -/
def State.floorCharge (s : State) : Nat := s.prf.floorW * chargeUnit

/-- The charge fits the class's budget and every die (R505, R507). -/
def State.fits (s : State) (cls charge : Nat) (targets : List (Nat × Nat)) : Bool :=
  if cls = 0 then true
  else if cls = 1 then decide (charge ≤ s.prf.rem + (s.floorCharge - s.prf.collC)) && s.fitsDies charge targets
  else decide (charge ≤ s.prf.rem) && s.fitsDies charge targets

/-- The remainder after a charge of a class (R505). -/
def State.chargeFor (cls charge : Nat) (s : State) : State :=
  if cls = 0 then s
  else if cls = 1 then
    let f := s.floorCharge
    let c := s.prf.collC + charge
    { s with prf.collC := c, prf.rem := s.prf.rem - (max f c - max f s.prf.collC) }
  else { s with prf.rem := s.prf.rem - charge }

/-- A run that could be admitted: of a host command by its SEQ, or of vln.run by its block. -/
inductive Ready where
  /-- A RUN. -/
  | cmd (seq : Nat)
  /-- The run at the head of a block's queue. -/
  | vln (blk : Nat)
deriving DecidableEq, Repr

/-- A block's issue stage could start the run at the head of its queue. -/
def State.headIs (s : State) (p : Nat) (q : Option Nat) : Bool :=
  let b := s.block p
  b.run.isNone && !s.fencedBlock p && !s.heldAtEnd p && (match b.runq with | r :: _ => r.seq == q | [] => false)

/-- What is ready in a class, with the time at which it was accepted, oldest first (R508, log 28). -/
def State.readyIn (s : State) (cls : Nat) : List (Nat × Ready) :=
  let cs := (s.hif.opened.filter (fun c => c.opcode == 0x10 && !c.admitted && c.cls == cls &&
    c.targets.all (fun t => s.headIs t.2 (some c.seq)) && s.waitState c.wait == .ok)).map (fun c => (c.since, Ready.cmd c.seq))
  let vs := (s.blocks.filter (fun c => s.headIs c.1 none)).filterMap (fun c => match c.2.runq with
    | r :: _ => if c.2.lastCls = cls then some (r.isNew, Ready.vln c.1) else none
    | [] => none)
  sortBy (fun a b => decide (a.1 ≤ b.1)) (cs ++ vs)

/-- A RUN starts on all its targets (R509). -/
def State.admitCmd (c : OpenCmd) (charge : Nat) (s : State) : State :=
  let t := (s.setOpen { c with admitted := true, charge, start := s.time.now }).chargeFor c.cls charge
  c.targets.foldl (fun s x => match (s.block x.2).runq with
    | r :: _ => s.startRun x.2 r
    | [] => s) t

/-- One ready run tried: the state it leaves, and whether nothing more may be admitted (R508). -/
def State.tryAdmit (s : State) (since : Nat) (r : Ready) : State × Bool :=
  let aged := decide (s.prf.ageMs * 1000000 < s.time.now - since)
  match r with
  | .cmd q => match s.openCmd q with
    | none => (s, false)
    | some c =>
      let charge := s.runCharge c.entryOff c.estW
      if !(c.targets.all (fun t => s.headIs t.2 (some q))) then (s, false)
      else if s.fits c.cls charge c.all then (s.admitCmd c charge, false) else (s, aged)
  | .vln p => match (s.block p).runq with
    | [] => (s, false)
    | x :: _ =>
      let charge := s.vlnCharge x.entry
      let cls := (s.block p).lastCls
      let tgt := [((s.shapeOf p).getD 0, p)]
      if !s.headIs p none then (s, false)
      else if s.fits cls charge tgt then
        ((s.chargeFor cls charge).startRun p { x with cls, charge }, false)
      else (s, aged)

/-- The ready runs of a class tried in turn until one that is aged does not fit. -/
def State.admitList : List (Nat × Ready) → State × Bool → State × Bool
  | [], x => x
  | (since, r) :: rs, (s, stop) => if stop then (s, stop) else State.admitList rs (s.tryAdmit since r)

/-- The admission procedure of R508. -/
def State.admitReady (s : State) : State :=
  ([0, 1, 2, 3].foldl (fun (x : State × Bool) cls => if x.2 then x else State.admitList (x.1.readyIn cls) x) (s, false)).1

/-- What a window start sets (R505, R515): the remainder and the COLL charges. -/
def State.windowBudget (s : State) : State :=
  let e := s.prf.limitW * chargeUnit
  let e' := if s.prf.warm then e else e * 3 / 5
  let coll := s.runningCharge (· == 1)
  { s with prf.collC := coll,
           prf.rem := e' - (s.prf.staticW + s.prf.inlineW) * chargeUnit - s.runningCharge (fun c => c == 2 || c == 3) - max s.floorCharge coll }

end Sys2Proof.Machine
end

