-- ==== Sys2Proof/Machine/MemOps.lean ====
section
/-! DEFINITION. What the LB4s do on their own and for an access given as a command: errors, scrubbing, retraining, self-refresh and the
loss of a stack (R420 to R444; 12_memory_system.md). -/

namespace Sys2Proof.Machine

/-- ERR_INFO0 of a stack page (R448). -/
def stackInfo (pc kind a : Nat) : Nat := pc * 2 ^ 58 + kind * 2 ^ 56 + a

/-- A stack that holds Pantry's spill or metadata region has gone out of service (R299). -/
def State.storeLost (n : Nat) (s : State) : State :=
  if s.pnt.en && ((s.pnt.spillGib != 0 && s.pnt.spillBase / 64 == n) || s.pnt.metaBase / 65536 == n) then
    s.raise .pnt 0 8 0 (0xFF * 2 ^ 56) 0 0
  else s

/-- A stack goes OFFLINE for a channel: its cache is lost, and it says so (R442). -/
def State.stackOffline (n ch : Nat) (s : State) : State :=
  if (s.stack n).state = 3 then s
  else
    let k := s.stack n
    let t := k.dirty.foldl (fun s l => s.freeDev (128 * l) 128) s
    (t.setStack n { k with state := 3, failed := true, failedCh := ch, dirty := [], retraining := false, held := false }).raise
      .stk n 7 0 (stackInfo (2 * ch) 0 (n * 2 ^ 36)) 0 0 |>.sbAdd (0x0170 + n) 1 |>.storeLost n

/-- A line of the shared cache fails uncorrectably: a dirty line is lost and listed, and a 65th entry is fatal (R438, R440). -/
def State.loseLine (a : Nat) (s : State) : State :=
  let n := a / 2 ^ 36
  let k := s.stack n
  let l := a / 128
  if !k.dirty.contains l then s
  else if 64 ≤ k.lost.length then
    (s.setStack n { k with dirty := k.dirty.erase l }).raise .stk n 6 0 (stackInfo (pseudoChannel a) 1 (128 * l)) 0 0
  else
    (s.setStack n { k with dirty := k.dirty.erase l, lost := k.lost ++ [l] }).evtAdd .stk n 7 1

/-- A correction (R438, R448): a symbol of the HBM code, met by an access (KIND 0) or by scrub (3), or a bit of the shared cache (1), which
has no symbol. Which symbol failed is a free value. -/
def State.memCe (who kind a : Nat) (s : State) : State :=
  let n := a / 2 ^ 36
  let symbol := if kind = 1 then 0 else Config.freeBits 8 s.free
  let t := ((s.useFree).raise .stk n 2 (whoTag who) (stackInfo (pseudoChannel a) kind (s.addrNow a)) (whoInfo who) (symbol.toNat * 2 ^ 8)).sbAdd
    ((if kind = 1 then 0x0130 else 0x0120) + n) 1
  if kind = 1 then t else t.evtAdd .stk n 0 1

/-- What the hardware makes of the access at its first byte: 1, an HBM word uncorrectable; 2, a cache line failing; 3, a symbol corrected;
4, a bit of the cache corrected (R438). -/
def State.strike (who a outcome : Nat) (s : State) : State :=
  let n := a / 2 ^ 36
  if outcome = 1 then s.setStack n { s.stack n with bad := addTo (s.stack n).bad (a / 32) }
  else if outcome = 2 then s.loseLine a
  else if outcome = 3 then s.memCe who 0 a
  else if outcome = 4 then s.memCe who 1 a
  else s

/-- The address, in normal service, of the first byte of an access. -/
def State.firstByte (s : State) (a : Nat) : Nat := if s.nearFar then nearFarToNormal a else a

/-- MEM_ACCESS where it need not wait (R422, R438 to R444). -/
def State.serveAccess (m : MemReq) (s : State) : State :=
  let who := whoOf 0x10
  let t := if s.devOffline m.write (s.devPieces m.addr m.len) then s else s.strike who (s.firstByte m.addr) m.outcome
  let x := t.firstByte m.addr
  if m.write then
    let (st, u) := t.devWrite who m.addr m.data
    { u with out.mem := some (st, []) }
  else if m.outcome = 2 && !((t.stack (x / 2 ^ 36)).lost.contains (x / 128)) then
    { (t.memUe who 1 x) with out.mem := some (stMemUe, []) }
  else
    let (st, bs, u) := t.devRead who m.addr m.len
    { u with out.mem := some (st, bs) }

/-- An atomic given to the LB4 where it need not wait (R428 to R431). FADD is refused in strict mode where the LB4 would accept it. -/
def State.serveAtomic (m : MemReq) (aop : Nat) (s : State) : State :=
  if aopOp aop = 7 ∧ s.strict ∧ aopOk aop ∧ aopAligned aop m.addr ∧ !s.nearFar then { s with out.mem := some (stVariant, []) }
  else
    let (st, old, t) := s.devAtomic (whoOf 0x10) aop m.addr m.data
    { t with out.mem := some (st, if st = 0 ∧ aopOp aop ≠ 8 then leBytes (aopBytes aop) old else []) }

/-- The pieces of a BAR2 write that lie each within one 256-byte unit, so that each meets one stack (R541, R423). -/
def bar2Pieces (a : Nat) (data : List Byte) : List (Nat × List Byte) :=
  (List.range ((a + data.length - 1) / 256 + 1 - a / 256)).map (fun i =>
    let lo := max a ((a / 256 + i) * 256)
    let hi := min (a + data.length) ((a / 256 + i) * 256 + 256)
    (lo, (data.drop (lo - a)).take (hi - lo)))

/-- An access of the host through BAR2 where it need not wait (R541). -/
def State.serveBar2 (m : MemReq) (s : State) : State :=
  if m.write then
    (bar2Pieces m.addr m.data).foldl (fun s p => match s.devWrite (whoOf 0x10) p.1 p.2 with
      | (0, t) => t
      | (_, t) => t.raise .hif 0 5 0 m.addr 0 0) s
  else match s.devRead (whoOf 0x10) m.addr m.len with
    | (0, bs, t) => { t with out.bar2 := some (0, bs) }
    | (_, _, t) => { (t.raise .hif 0 5 0 m.addr 0 0) with out.bar2 := some (2, []) }

/-- An access that need not wait is served. -/
def State.serveMem (m : MemReq) (s : State) : State :=
  match m.stamp, m.aop with
  | some _, _ => s.serveBar2 m
  | none, some aop => s.serveAtomic m aop
  | none, none => s.serveAccess m

/-- An access must wait: for what it names (R441, R521), or for one before it to overlapping bytes that still waits (R421). -/
def State.memWaits (s : State) (m : MemReq) : Bool :=
  s.devBusy m.addr m.len || s.mem.queue.any (fun q => decide (q.addr < m.addr + m.len) && decide (m.addr < q.addr + q.len))

/-- An access is served, or waits. -/
def State.askMem (m : MemReq) (s : State) : State :=
  if s.memWaits m then { s with mem.queue := s.mem.queue ++ [m] } else s.serveMem m

/-- What waited for memory is served where it need wait no longer: the host's accesses, the Rally REQ server's, and the Sifters' records
(R259, R441, R442, R521). -/
def State.serveWaiting (s : State) : State :=
  let t := s.mem.queue.foldl (fun s m => s.askMem m) { s with mem.queue := [] }
  (t.serveReqs t.rly.reqIn.length).pumpAllRecs

/-- MEM_ACCESS (R422). -/
def State.memAccess (write : Bool) (a n : Nat) (data : List Byte) (outcome : Nat) (s : State) : State :=
  let len := if write then data.length else n
  if len = 0 || 16384 < len || decide (devBytes < a + len) then s else s.askMem { write, addr := a, len, data, outcome }

/-- An atomic given to the LB4 as a command (R428): its AOP, its address and its operand bytes. -/
def State.memAtomic (aop a : Nat) (operand : List Byte) (s : State) : State :=
  if devBytes ≤ a then s
  else s.askMem { write := true, addr := a, len := if aopOp aop = 8 then 72 else aopBytes aop, data := operand, aop := some aop }

/-- The AOP of an integer atomic of a width in bits; another width is no encoding, which the LB4 refuses (R428, R429). -/
def aopOf (op width : Nat) : Nat := if width = 32 then op else if width = 64 then op + 16 else 0x8F

/-- HBM_SCRUB of a word: 0 sound, 1 corrected, 2 uncorrectable (R438). -/
def State.hbmScrub (word outcome : Nat) (s : State) : State :=
  let a := 32 * word
  let n := a / 2 ^ 36
  if (s.stack n).state = 3 then s
  else if outcome = 2 ∨ (s.stack n).bad.contains word then
    (s.setStack n { s.stack n with bad := addTo (s.stack n).bad word }).memUe 0 3 a
  else if outcome = 1 then s.memCe 0 3 a
  else s

/-- A retrain of a channel begins, one at a time in a stack (R441). -/
def State.retrainStart (n ch : Nat) (s : State) : State :=
  let k := s.stack n
  if k.retraining ∨ (k.state ≠ 1 ∧ k.state ≠ 2) then s
  else ((s.setStack n { k with retraining := true, retrainCh := ch }).raise .stk n 4 0 (stackInfo (2 * ch) 0 (n * 2 ^ 36)) 0 0).evtAdd .stk n 2 1

/-- MEM_MAINT.RETRAIN of a stack, and CH (R448): a retrain asked for and not yet done. -/
def State.retrainAsked (s : State) (n : Nat) : Option Nat :=
  if s.fld .stk n 0x108 32 32 = 1 then some (s.fld .stk n 0x108 31 27) else none

/-- After a retrain of a channel, the one that MEM_MAINT asks for: it is done, or it begins (R441, R448). -/
def State.retrainNext (n ch : Nat) (s : State) : State :=
  match s.retrainAsked n with
  | none => s
  | some c =>
    if c = ch ∨ (s.stack n).state = 3 then s.setReg .stk n 0x108 (clearBit (s.reg .stk n 0x108) 32) else s.retrainStart n c

/-- A retrain ends; the third consecutive failure of a channel takes the stack out of service; what waited goes on (R441, R442). -/
def State.retrainDone (n : Nat) (ok : Bool) (s : State) : State :=
  let k := s.stack n
  if !k.retraining then s
  else
    let f := if ok then 0 else k.retrainFails.num k.retrainCh + 1
    let t := s.setStack n { k with retraining := false, retrainFails := k.retrainFails.setNum k.retrainCh f }
    ((if f < 3 then t else t.stackOffline n k.retrainCh).retrainNext n k.retrainCh).serveWaiting

/-- SELF_REFRESH_ENTRY (R444): dirty lines are written back first. -/
def State.selfRefresh (n : Nat) (s : State) : State :=
  let k := s.stack n
  if s.fld .mctl 0 0x100 1 1 = 0 ∨ k.state ≠ 1 ∨ k.retraining ∨ k.held then s
  else s.setStack n { k with state := 2, dirty := [] }

end Sys2Proof.Machine
end

