-- ==== Sys2Proof/Machine/HifOps.lean ====
section
/-! DEFINITION. The host interface: descriptors entering the command window, WAIT, SIGNAL, RUN, COPY and ATOMIC, completion rings and
their interrupts, and the BAR2 window (R536 to R564, R622, R623; 16_host_interface_and_register_pages.md). -/

namespace Sys2Proof.Machine

/-- The opcodes that name a command (R550, R623). -/
def knownOpcode (o : Nat) : Bool :=
  decide (o ≤ 2) || decide (0x10 ≤ o ∧ o ≤ 0x12) || decide (0x20 ≤ o ∧ o ≤ 0x21) || decide (0x30 ≤ o ∧ o ≤ 0x34) ||
  decide (0x40 ≤ o ∧ o ≤ 0x44) || o == 0x48 || o == 0x50 || decide (0x60 ≤ o ∧ o ≤ 0x62) || decide (0x70 ≤ o ∧ o ≤ 0x76)

/-- The descriptor selects an operation its opcode does not have (R550): no command takes it but as a format error. -/
def WinEntry.noOperation (e : WinEntry) : Bool :=
  !knownOpcode e.opcode || (e.opcode == 0x32 && decide (4 < e.op 0x10 1)) || (e.opcode == 0x34 && decide (1 < e.op 0x14 1))


/-- Descriptors of a write TLP placed in the window, each with its SEQ (R542, R544). -/
def State.submit (data : List Byte) (s : State) : State :=
  { s with
    hif.window := s.hif.window ++ ((chunksOf 64 data).zipIdx.map (fun u => { seq := (s.hif.seqNext + u.2) % 2 ^ 32, bytes := u.1 }))
    hif.seqNext := (s.hif.seqNext + data.length / 64) % 2 ^ 32 }

/-- A write TLP to BAR4 (R542, R543, R568, R497). One that the link does not admit yet does nothing: it waits with the host (log 118). -/
def State.bar4Write (offset : Nat) (data : List Byte) (stream : Option Nat) (s : State) : State :=
  if !s.linked || s.stalled || data.isEmpty || s.barRefused stream then s
  else if offset % 64 ≠ 0 ∨ data.length % 64 ≠ 0 then s.raise .hif 0 2 0 offset 0 0
  else s.submit data

/-- NOP, and every descriptor that names no command (R550, R623). -/
def State.nopCmd : State → State :=
  State.take (fun e => e.opcode == 0 || e.noOperation) (fun e => e.opcode == 0 && e.zeros 0x10 0x40) (fun _ _ => false)
    (fun e s => s.finishEntry e 0 0)

/-! ### Wait conditions, WAIT and SIGNAL -/

/-- The counter table entry of a counter by shape number, where a live placement has the block (R622). -/
def State.liveCntEntry (s : State) (shape i : Nat) : Option CntEntry :=
  if s.live then (s.physOf shape).map (fun p => (s.block p).cntEntry i) else none

/-- The USED test of a wait counter (R210, R622). -/
def State.waitUsed (s : State) (e : WinEntry) : Bool :=
  match s.liveCntEntry e.wshape e.wcnt with | some c => c.used | none => false

/-- The HOST test of a target counter (R210, R622). -/
def State.hostCnt (s : State) (shape i : Nat) : Bool :=
  match s.liveCntEntry shape i with | some c => c.hostOk | none => false

/-- The wait condition of a descriptor. -/
def WinEntry.cond (e : WinEntry) : Option (Nat × Nat × Nat) := if e.wen then some (e.wshape, e.wcnt, e.wtarget) else none

/-- A command that does nothing but act once its condition holds: at once, in the pool of 256, or refused (R208, R546). -/
def State.holdOr (e : WinEntry) (c : OpenCmd) (act : State → State) (s : State) : State :=
  match s.waitState e.cond with
  | .ok => (act s).finishEntry e 0 0
  | .abandoned => s.finishEntry e stAbandoned 0
  | .notYet =>
    if s.hif.waits.length < 256 then
      { s with hif.opened := s.hif.opened ++ [c], hif.waits := s.hif.waits ++ [e.seq] }
    else s.finishEntry e stWaitFull 0

/-- WAIT (R546, R622). -/
def State.waitCmd : State → State :=
  State.take (fun e => e.opcode == 1) (fun e => e.zeros 0x10 0x40) (fun _ _ => false) (fun e s =>
    if !s.waitUsed e then s.finishEntry e stBadTarget 0
    else s.holdOr e { e.toOpen with wait := e.cond } id)

/-- SIGNAL's target word. -/
def WinEntry.sigTarget (e : WinEntry) : Nat := e.op 0x10 2

/-- SIGNAL's own format rules (R550). -/
def WinEntry.signalOk (e : WinEntry) : Bool :=
  !bitOn e.sigTarget 15 && decide (bits e.sigTarget 5 0 < 48) && e.zeros 0x12 0x18 && decide (1 ≤ e.op 0x18 8) && e.zeros 0x20 0x40

/-- SIGNAL (R546, R547, R622): it sets out at once, and arrives behind the writes it must follow (`State.signalReady`). -/
def State.signalCmd : State → State :=
  State.take (fun e => e.opcode == 2) WinEntry.signalOk (fun _ _ => false) (fun e s =>
    let shape := bits e.sigTarget 14 6
    let i := bits e.sigTarget 5 0
    let n := e.op 0x18 8
    if !s.hostCnt shape i then s.finishEntry e stBadTarget 0
    else if e.wen && !s.waitUsed e then s.finishEntry e stBadTarget 0
    else s.holdOr e { e.toOpen with wait := e.cond, signal := some (shape, i, n) }
      (fun s => { s with hif.inflight := s.hif.inflight ++ [.host shape i n (some e.seq)] }))

/-! ### RUN (R43 to R45, R506, R551) -/

/-- RFLAGS. -/
def WinEntry.rflags (e : WinEntry) : Nat := e.op 0x26 1
/-- ALL. -/
def WinEntry.runAll (e : WinEntry) : Bool := bitOn e.rflags 3
/-- STEP_SET. -/
def WinEntry.stepSet (e : WinEntry) : Bool := bitOn e.rflags 2
/-- CLASS. -/
def WinEntry.cls (e : WinEntry) : Nat := bits e.rflags 5 4
/-- ENTRY. -/
def WinEntry.entryOff (e : WinEntry) : Nat := bits (e.op 0x20 4) 23 0
/-- EST_W. -/
def WinEntry.estW (e : WinEntry) : Nat := e.op 0x24 2
/-- NT. -/
def WinEntry.nt (e : WinEntry) : Nat := e.op 0x27 1
/-- The targets listed: die and logical block index. -/
def WinEntry.listed (e : WinEntry) : List (Nat × Nat) :=
  (List.range e.nt).map (fun i => let t := e.op (0x28 + 2 * i) 2; (bits t 12 8, bits t 4 0))

/-- RUN's own format rules (R551). -/
def WinEntry.runOk (e : WinEntry) : Bool :=
  (e.stepSet || e.op 0x18 8 == 0) && bits (e.op 0x20 4) 31 24 == 0 && bits e.rflags 7 6 == 0 &&
  (if e.runAll then e.nt == 0 else decide (1 ≤ e.nt ∧ e.nt ≤ 8)) &&
  (List.range 8).all (fun i => let t := e.op (0x28 + 2 * i) 2
    bits t 15 13 == 0 && bits t 7 5 == 0 && (decide (i < e.nt) || t == 0)) &&
  decide e.listed.Nodup && e.zeros 0x38 0x40

/-- The targets of a RUN: shape and physical block (R44, R551). -/
def State.runTargets (s : State) (e : WinEntry) : List (Nat × Nat) :=
  if e.runAll then s.placed
  else e.listed.map (fun t =>
    let shape := t.1 * s.place.shapeBlocks + t.2
    (shape, (s.physOf shape).getD 0))

/-- The checks of R44 in their order, then the USED test of the wait counter (R622) and the INLINE reserve (R506); the STATUS of the
first that fails. -/
def State.runRefused (s : State) (e : WinEntry) : Option Nat :=
  if !s.live || e.op 0x10 8 != s.place.id then some stNoPlacement
  else if !e.runAll && e.listed.any (fun t => decide (s.exposed ≤ t.2)) then some 0x0241
  else if !e.runAll && e.listed.any (fun t => !bitOn s.place.dieMask t.1 || decide (s.place.shapeBlocks ≤ t.2)) then some 0x0242
  else if (s.runTargets e).any (fun t => s.fencedBlock t.2) then some 0x0243
  else if e.wen && !s.waitUsed e then some stBadTarget
  else if e.wen && s.waitState e.cond == .abandoned then some stAbandoned
  else if e.cls = 0 ∧ s.prf.inlineW * chargeUnit < s.runCharge e.entryOff e.estW + s.runningCharge (· == 0) then some 0x0302
  else none

/-- A RUN accepted: it stands in the run queue of every target (R195, R544). One of ALL where the placement has no block has no target to wait
for, and completes (R552, log 109). -/
def State.acceptRun (e : WinEntry) (s : State) : State :=
  let ts := s.runTargets e
  let req : RunReq := { seq := some e.seq, tag := e.tag, entry := e.entryOff, chk := bitOn e.rflags 0, dense := bitOn e.rflags 1,
                        stepSet := if e.stepSet then some (e.op 0x18 8) else none, cls := e.cls, estW := e.estW, isNew := s.time.now }
  let c : OpenCmd := { e.toOpen with
    wait := e.cond, targets := ts, all := ts, first := (ts.map Prod.fst).headD 0, cls := e.cls, entryOff := e.entryOff,
    estW := e.estW, since := s.time.now }
  if ts.isEmpty then s.finishEntry e 0 0
  else ts.foldl (fun s t => s.onBlock t.2 (fun b => { b with runq := b.runq ++ [req] })) { s with hif.opened := s.hif.opened ++ [c] }

/-- RUN (R43 to R45, R551). -/
def State.runCmd : State → State :=
  State.take (fun e => e.opcode == 0x10) WinEntry.runOk (fun _ _ => false) (fun e s =>
    match s.runRefused e with
    | some 0x0302 =>
      (s.raise .prf 0 2 e.tag (0xFF * 2 ^ 56 + s.runCharge e.entryOff e.estW / chargeUnit % 2 ^ 24) 0 0).finishEntry e 0x0302 0
    | some st => s.finishEntry e st 0
    | none => s.acceptRun e)

/-! ### COPY and ATOMIC -/

/-- COPY's own format rules (R549, R550); a device range beyond device memory is out of range too (log 29). -/
def WinEntry.copyOk (e : WinEntry) : Bool :=
  let n := e.op 0x20 8
  decide (1 ≤ n ∧ n ≤ 2 ^ 36) && xFits (e.op 0x10 8) n && xFits (e.op 0x18 8) n &&
  (xDev (e.op 0x10 8) || xDev (e.op 0x18 8)) && e.zeros 0x28 0x40

/-- A range by XADDR whose contents are undefined (R623): free bytes. -/
def State.freeX (x n : Nat) (s : State) : State :=
  if xDev x then s.freeAt (xAddr x) n
  else { (s.hostWrite (xAddr x) (Config.freeBytes n s.free)) with free := s.free + n }

/-- A range by XADDR at which the host's command must wait: memory makes it wait, or an access of the host's before it to the same bytes still
does (R421, R441). -/
def State.hostBusy (s : State) (x n : Nat) : Bool := xDev x && s.memWaits { addr := xAddr x, len := n }

/-- What a COPY moves to or from host memory. -/
def WinEntry.copyHost (e : WinEntry) : Option Nat :=
  if xHost (e.op 0x10 8) || xHost (e.op 0x18 8) then some (e.op 0x20 8) else none

/-- COPY (R300, R549, R550, R554, R623): a destination that it fails to write is undefined. -/
def State.copyCmd (way : HostWay) : State → State :=
  State.take (fun e => e.opcode == 0x20) WinEntry.copyOk
    (fun s e => s.hostWaits e.copyHost || s.hostBusy (e.op 0x10 8) (e.op 0x20 8) || s.hostBusy (e.op 0x18 8) (e.op 0x20 8))
    (fun e s =>
      let src := e.op 0x10 8
      let dst := e.op 0x18 8
      let n := e.op 0x20 8
      let failed := e.copyHost.isSome && (way == .aborted || way == .uncorrectable)
      (if failed then s.freeX dst n else s).viaHost way e e.copyHost (if xHost src then xAddr src else xAddr dst) (fun s =>
        match s.xRead e.tag src n with
        | (0, bs, t) => match t.xWrite e.tag dst bs with
          | (0, u) => u.finishEntry e 0 0
          | (st, u) => (u.freeX dst n).finishEntry e st 0
        | (st, _, t) => (t.freeX dst n).finishEntry e st 0))

/-- ATOMIC's own format rules (R550, R623): the operand fields are not checked where the LB4 refuses the AOP or the address. -/
def WinEntry.atomicOk (e : WinEntry) : Bool :=
  let aop := e.op 0x10 1
  let x := e.op 0x30 8
  let total := aopOp aop == 8 && aopKind aop == 3
  let used := if total then 0 else aopOperandBytes aop
  e.zeros 0x11 0x18 && bits (e.op 0x18 8) 63 40 == 0 &&
  (!aopOk aop || !aopAligned aop (e.op 0x18 8) || (e.zeros (0x20 + used) 0x30 && (if total then xIsDev x else x == 0) && e.zeros 0x38 0x40))

/-- ATOMIC (R428 to R431, R550, R623). -/
def State.atomicCmd : State → State :=
  State.take (fun e => e.opcode == 0x21) WinEntry.atomicOk
    (fun s e => s.memWaits { addr := e.op 0x18 8, len := aopBytes (e.op 0x10 1) } || (aopOk (e.op 0x10 1) && aopOp (e.op 0x10 1) == 8 &&
      aopKind (e.op 0x10 1) == 3 && s.hostBusy (e.op 0x30 8) 72))
    (fun e s =>
      let aop := e.op 0x10 1
      let a := e.op 0x18 8
      let fits := aopOk aop && aopAligned aop a && !s.nearFar
      if fits && aopOp aop == 7 && s.strict then s.finishEntry e stVariant 0
      else
        let (st, operand, t) := if fits && aopOp aop == 8 && aopKind aop == 3 then s.xRead e.tag (e.op 0x30 8) 72
          else (0, slice e.bytes 0x20 16, s)
        if st ≠ 0 then t.finishEntry e st 0
        else
          let (st2, old, u) := t.devAtomic (whoOf 0x10 0 0 e.tag) aop a operand
          u.finishEntry e st2 (if st2 = 0 then old else 0))

/-! ### Completion rings (R553 to R557, R564) -/

/-- A field of a ring's CFG register. -/
def State.ringFld (s : State) (r hi lo : Nat) : Nat := s.fld .hif 0 (0x408 + 0x20 * r) hi lo

/-- The bytes of a completion record (R553). -/
def Compl.bytes (c : Compl) : List Byte :=
  leBytes 4 c.tag ++ leBytes 1 c.opcode ++ leBytes 1 c.ring ++ leBytes 2 c.status ++ leBytes 8 c.r0 ++ leBytes 8 c.r1 ++
  leBytes 4 c.seq ++ leBytes 1 c.nfault ++ leBytes 3 0

/-- VEC of a ring after its produced count moved (R557). -/
def State.ringVec (r : Nat) (s : State) : State :=
  if s.ringFld r 1 1 = 0 then s
  else if (s.hring r).holdoff then s.setHring r { s.hring r with moved := true }
  else (s.sendVec (s.ringFld r 42 32)).setHring r { s.hring r with holdoff := s.ringFld r 63 48 != 0, moved := false }

/-- RING_COMPLETION_WRITE: the ring's oldest waiting record goes into its slot, and then its produced count; commands that were held at
their end for want of room may then complete (R555, R556). -/
def State.ringWrite (r : Nat) (hostOk : Bool) (s0 : State) : State :=
  let s := s0.admitEnding
  match s.hif.done.find? (fun c => ringOf c.ring == r) with
  | none => s
  | some c =>
    let h := s.hring r
    if !s.hostDma || s.ringFree r = 0 then s
    else if !hostOk then s.raise .hif 0 6 c.tag h.cons (c.seq + c.opcode * 2 ^ 32) 0
    else
      let t := s.hostWrite (h.base + 32 * (h.produced % 2 ^ h.sizeLog2)) c.bytes
      let u := t.hostWrite h.prod (leBytes 8 (h.produced + 1))
      (((({ u with hif.done := u.hif.done.filter (fun d => d.seq != c.seq) } : State).setHring r { h with produced := h.produced + 1 })).ringVec r).admitEnding

/-- RING_HOLDOFF_EXPIRY (R557). -/
def State.holdoffExpiry (r : Nat) (s : State) : State :=
  let h := s.hring r
  if !h.holdoff then s
  else
    let t := s.setHring r { h with holdoff := false, moved := false }
    if h.moved then t.ringVec r else t

/-- Commands taken for a ring and not yet completed (R563). -/
def State.outstanding (s : State) (r : Nat) : Nat :=
  min 0xFFFF ((s.hif.opened.filter (fun c => ringOf c.ring == r)).length + s.waitingFor r +
    (s.hif.parked.filter (fun e => e.ring == r)).length + (s.hif.ending.filter (fun h => ringOf h.c.ring == r)).length)

/-! ### The function's configuration (R536 to R538) -/

/-- The capabilities of the function (R536). -/
inductive PciCap where
  /-- PCI Express. -/
  | pciExpress
  /-- Power Management. -/
  | powerManagement
  /-- MSI-X. -/
  | msix
  /-- Advanced Error Reporting. -/
  | aer
  /-- Device Serial Number. -/
  | serialNumber
  /-- Resizable BAR. -/
  | resizableBar
  /-- Data Object Exchange. -/
  | doe
  /-- Integrity and Data Encryption. -/
  | ide
deriving DecidableEq, Repr

/-- What the function presents (R536, R538). -/
structure PciConfig where
  /-- Vendor ID. -/
  vendor : Nat := 0x1F3C
  /-- Device ID. -/
  device : Nat := 0x8432
  /-- Subsystem Vendor ID. -/
  subVendor : Nat := 0x1F3C
  /-- Subsystem ID: by grade. -/
  subsystem : Nat
  /-- Class code. -/
  classCode : Nat := 0x120000
  /-- PCI Express generation. -/
  generation : Nat := 7
  /-- Lanes. -/
  lanes : Nat := 16
  /-- Max payload size in bytes. -/
  maxPayload : Nat := 512
  /-- Max read request size in bytes. -/
  maxRead : Nat := 4096
  /-- Bits of a tag. -/
  tagBits : Nat := 14
  /-- Non-posted requests that the module may have outstanding. -/
  nonPosted : Nat := 1024
  /-- MSI-X vectors. -/
  vectors : Nat := 2048
  /-- Interrupt Pin. -/
  intPin : Nat := 0
  /-- Capabilities present; no other is. -/
  caps : List PciCap := [.pciExpress, .powerManagement, .msix, .aer, .serialNumber, .resizableBar, .doe, .ide]
  /-- Device Serial Number. -/
  serial : Nat
  /-- Bytes of BAR0, BAR2 and BAR4. -/
  bars : List Nat
deriving DecidableEq, Repr

/-- The configuration the module presents: its Subsystem ID names the grade, and BAR2 has the size its Resizable BAR capability was set to
(R536, R538). The Device Serial Number is the low half of SERIAL (log 120). -/
def State.pciConfig (s : State) : PciConfig :=
  { subsystem := if s.hw.gradeB then 0x000B else 0x000A, serial := s.hw.serial % 2 ^ 64, bars := [2 ^ 28, 2 ^ (30 + s.ref.bar2Log2), 2 ^ 20] }

/-! ### BAR2 (R540, R541) -/

/-- Bytes of the BAR2 window. -/
def State.bar2Size (s : State) : Nat := 2 ^ (30 + s.ref.bar2Log2)

/-- The device address of a BAR2 offset (R540). -/
def State.bar2Addr (s : State) (offset : Nat) : Nat := s.fld .hif 0 0x108 39 30 * 2 ^ 30 + offset

/-- BAR2_READ (R541). -/
def State.bar2Read (offset len : Nat) (stream : Option Nat) (s : State) : State :=
  if !s.linked || len = 0 then s
  else if s.barRefused stream || s.bar2Size < offset + len then { s with out.bar2 := some (1, []) }
  else s.askMem { addr := s.bar2Addr offset, len, stamp := some s.hif.seqNext }

/-- BAR2_WRITE (R541, R543). -/
def State.bar2Write (offset : Nat) (data : List Byte) (stream : Option Nat) (s : State) : State :=
  if !s.linked || s.stalled || data.isEmpty || s.barRefused stream || decide (s.bar2Size < offset + data.length) then s
  else s.askMem { write := true, addr := s.bar2Addr offset, len := data.length, data, stamp := some s.hif.seqNext }

/-- BAR2_RESIZE (R538, R540): BASE is rounded down to a multiple of the new size. -/
def State.bar2Resize (log2 : Nat) (s : State) : State :=
  let g := 2 ^ log2
  let v := s.reg .hif 0 0x108
  ({ s with ref.bar2Log2 := log2 } : State).setReg .hif 0 0x108 (setBits v 39 30 (bits v 39 30 / g * g))

/-- Pending vectors that may now be sent are sent (R539, R557). -/
def State.flushVecs (s : State) : State :=
  s.hif.msixPba.foldl (fun s v => s.sendVec v) { s with hif.msixPba := [] }

end Sys2Proof.Machine
end

