-- ==== Sys2Proof/Machine/Hif.lean ====
section
/-! DEFINITION. The meanings of the host interface's commands: the command window, NOP, WAIT, SIGNAL, RUN, COPY, ATOMIC, the completion
rings, BAR2 and the PCIe function's own events (16_host_interface_and_register_pages.md). -/

namespace Sys2Proof.Machine

/-- What a command of the window that moves no data may change. -/
def touchTake : Touch := { hif := true, ref := true, regs := true, out := true, sb := true }

/-- BAR4_DESCRIPTOR_WRITE (R542). -/
def execBar4DescriptorWrite (offset : Nat) (data : List (BitVec 8)) (stream : Option Nat) (s : State) : Host.Outcome State Fault Refusal :=
  s.answer touchTake (s.bar4Write offset data stream)

/-- NOP (R550). -/
def execNop (s : State) : Host.Outcome State Fault Refusal := s.answer touchTake s.nopCmd

/-- WAIT (R546). -/
def execWait (s : State) : Host.Outcome State Fault Refusal := s.answer touchTake s.waitCmd

/-- SIGNAL (R547). -/
def execSignal (s : State) : Host.Outcome State Fault Refusal := s.answer touchTake s.signalCmd

/-- RUN (R551). -/
def execRun (s : State) : Host.Outcome State Fault Refusal := s.answer { touchTake with blocks := true } s.runCmd

/-- What COPY and ATOMIC may change. -/
def touchData : Touch := { touchTake with dev := true, host := true, mem := true, pnt := true, free := true }

/-- COPY (R550). -/
def execCopy (way : HostWay) (s : State) : Host.Outcome State Fault Refusal := s.answer touchData (s.copyCmd way)

/-- ATOMIC (R428, R550). -/
def execAtomic (s : State) : Host.Outcome State Fault Refusal := s.answer touchData s.atomicCmd

/-- RING_COMPLETION_WRITE (R555). -/
def execRingCompletionWrite (ring : Nat) (hostOk : Bool) (s : State) : Host.Outcome State Fault Refusal :=
  s.answer { touchTake with host := true } (s.ringWrite ring hostOk)

/-- RING_HOLDOFF_EXPIRY (R557). -/
def execRingHoldoffExpiry (ring : Nat) (s : State) : Host.Outcome State Fault Refusal := s.answer touchTake (s.holdoffExpiry ring)

/-- BAR2_READ (R541). -/
def execBar2Read (offset len : Nat) (stream : Option Nat) (s : State) : Host.Outcome State Fault Refusal :=
  s.answer { touchTake with mem := true, free := true } (s.bar2Read offset len stream)

/-- BAR2_WRITE (R541). -/
def execBar2Write (offset : Nat) (data : List (BitVec 8)) (stream : Option Nat) (s : State) : Host.Outcome State Fault Refusal :=
  s.answer { touchTake with dev := true, mem := true, free := true } (s.bar2Write offset data stream)

/-- BAR2_RESIZE (R540); a size outside 1 GiB to 64 GiB is none the capability offers. -/
def execBar2Resize (log2 : Nat) (s : State) : Host.Outcome State Fault Refusal :=
  s.answer { ref := true, regs := true } (if 6 < log2 then s else s.bar2Resize log2)

/-- PCIE_POWER_STATE (R539). -/
def execPciePowerState (d3hot : Bool) (s : State) : Host.Outcome State Fault Refusal :=
  s.answer { ref := true } { s with ref.d3hot := d3hot }

/-- BUS_MASTER_ENABLE_CHANGE (R539): a write of the function's command register, which holds Memory Space Enable too. Vectors and records that
waited for bus mastering go on. -/
def execBusMasterEnableChange (on memSpace : Bool) (s : State) : Host.Outcome State Fault Refusal :=
  s.answer { touchData with sft := true, sw := true, ports := true, jnl := true, rly := true }
    (({ s with ref.busMaster := on, ref.memSpace := memSpace } : State).flushVecs.pumpAllRecs)

/-- BAR_ACCESS (R561): an access to BAR0 of another size or alignment; a read receives Unsupported Request, a write is dropped. While the
windows are closed a read receives it and nothing is recorded (R539). -/
def execBarAccess (write : Bool) (offset size data : Nat) (s : State) : Host.Outcome State Fault Refusal :=
  s.answer touchTake
    (if !s.linked || (write && s.stalled) || ((size == 4 || size == 8) && offset % size == 0) || decide (2 ^ (8 * size) ≤ data) then s
     else if !s.barsOpen then (if write then s else { s with out.read := some (1, 0) })
     else
       let t := s.raise .hif 0 4 0 offset 0 0
       if write then t else { t with out.read := some (1, 0) })

/-- REF_PAGE_TIMEOUT (R576, R596): the unit of a page did not answer within 20 µs. -/
def execRefPageTimeout (write : Bool) (offset : Nat) (s : State) : Host.Outcome State Fault Refusal :=
  s.answer touchTake
    (if !s.bar0Open || (write && s.stalled) then s
     else
       let t := s.raise .ref 0 3 0 0 0 (offset / 4096 % 2 ^ 16)
       if write then t else { t with out.read := some (0, 0) })

end Sys2Proof.Machine
end

