-- ==== Sys2Proof/Machine/SifterCmd.lean ====
section
/-! DEFINITION. The meanings of the SFT commands (R243, R254, R256, R260 to R263, R550; 07_sifter_stream_units.md). -/

namespace Sys2Proof.Machine

/-- What frames on their way through the switch may change: the central store, the Sifters with their records, and the journal. -/
def touchFrames : Touch :=
  { sw := true, ports := true, pnt := true, sft := true, jnl := true, rly := true, dev := true, mem := true, hif := true, regs := true
    out := true, ref := true, sb := true, free := true }

/-- What an SFT command may change. -/
def touchSft : Touch := { touchData with sft := true }

/-- SFT_LOAD (R260 to R263). -/
def execSftLoad (s : State) : Host.Outcome State Fault Refusal := s.answer touchSft s.sftLoadCmd

/-- SFT_UNLOAD (R262). -/
def execSftUnload (s : State) : Host.Outcome State Fault Refusal := s.answer { touchTake with sft := true } s.sftUnloadCmd

/-- SFT_CTX HOME (R243). -/
def execSftCtxHome (s : State) : Host.Outcome State Fault Refusal := s.answer { touchTake with sft := true, pnt := true } s.sftCtxHomeCmd

/-- SFT_CTX PIN (R240, R243). -/
def execSftCtxPin (s : State) : Host.Outcome State Fault Refusal := s.answer { touchTake with sft := true, pnt := true } s.sftCtxPinCmd

/-- SFT_CTX UNPIN (R243). -/
def execSftCtxUnpin (s : State) : Host.Outcome State Fault Refusal := s.answer { touchTake with sft := true, pnt := true } s.sftCtxUnpinCmd

/-- SFT_CTX WRITE (R243, R265). -/
def execSftCtxWrite (way : HostWay) (s : State) : Host.Outcome State Fault Refusal := s.answer touchSft (s.sftCtxWriteCmd way)

/-- SFT_CTX READ (R243). -/
def execSftCtxRead (way : HostWay) (s : State) : Host.Outcome State Fault Refusal := s.answer touchData (s.sftCtxReadCmd way)

/-- SFT_TABLE (R254). -/
def execSftTable (way : HostWay) (s : State) : Host.Outcome State Fault Refusal := s.answer touchSft (s.sftTableCmd way)

/-- SFT_RELEASE, discard (R256). -/
def execSftReleaseDiscard (s : State) : Host.Outcome State Fault Refusal := s.answer touchFrames (s.sftReleaseCmd false)

/-- SFT_RELEASE, forward (R256). -/
def execSftReleaseForward (s : State) : Host.Outcome State Fault Refusal := s.answer touchFrames (s.sftReleaseCmd true)

end Sys2Proof.Machine
end

