-- ==== Sys2Proof/Machine/Collective.lean ====
section
/-! DEFINITION. The meanings of the collective engines' commands (R386 to R414, R550; 11_collective_engine.md). -/

namespace Sys2Proof.Machine

/-- What the collective engines may change. -/
def touchColl : Touch := { touchFrames with coll := true }

/-- COLL_LAUNCH (R388, R407). -/
def execCollLaunch (s : State) : Host.Outcome State Fault Refusal := s.answer touchColl (s.collLaunchCmd).pumpAll

/-- COLL_SLOT_START (R386, R400, R413). -/
def execCollSlotStart (slot : Nat) (s : State) : Host.Outcome State Fault Refusal := s.answer touchColl (s.slotStart slot).pumpAll

/-- COLL_JOIN (R392). -/
def execCollJoin (index : Nat) (s : State) : Host.Outcome State Fault Refusal :=
  s.answer touchColl (s.controlIn index 1).collSettle.pumpAll

/-- COLL_READY (R400). -/
def execCollReady (index : Nat) (s : State) : Host.Outcome State Fault Refusal :=
  s.answer touchColl (s.controlIn index 2).collSettle.pumpAll

/-- COLL_DATA (R399). -/
def execCollData (index upset : Nat) (s : State) : Host.Outcome State Fault Refusal :=
  s.answer touchColl (s.dataIn index upset).collSettle.pumpAll

/-- COLL_FIN (R404). -/
def execCollFin (index : Nat) (s : State) : Host.Outcome State Fault Refusal :=
  s.answer touchColl (s.controlIn index 4).collSettle.pumpAll

/-- COLL_ABORT (R412). -/
def execCollAbort (index : Nat) (s : State) : Host.Outcome State Fault Refusal :=
  s.answer touchColl (s.controlIn index 5).collSettle.pumpAll

/-- COLL_CHUNK_SEND (R399, R401, R406). -/
def execCollChunkSend (engine : Nat) (s : State) : Host.Outcome State Fault Refusal := s.answer touchColl (s.chunkSend engine).pumpAll

/-- COLL_TILE_READY (R402). -/
def execCollTileReady (slot : Nat) (s : State) : Host.Outcome State Fault Refusal := s.answer touchColl (s.tileReady slot).pumpAll

/-- COLL_TIMEOUT (R411). -/
def execCollTimeout (slot : Nat) (s : State) : Host.Outcome State Fault Refusal := s.answer touchColl (s.collTimedOut slot).pumpAll

/-- COLL_HOLD_EXPIRY (R408). -/
def execCollHoldExpiry (index : Nat) (s : State) : Host.Outcome State Fault Refusal := s.answer touchColl (s.holdExpired index).pumpAll

end Sys2Proof.Machine
end

