-- ==== Sys2Proof/Machine/Audit.lean ====
section
/-! DEFINITION. The meanings of the audit units' and the sealer's events (R463 to R475; 13_determinism_and_audit.md). -/

namespace Sys2Proof.Machine

/-- What an audit unit may change: its block, what a fence of it brings about, and the memory system's errors. -/
def touchAudit : Touch :=
  { blocks := true, hud := true, hif := true, regs := true, out := true, ref := true, sb := true, fence := true, free := true, place := true
    dev := true, mem := true, coll := true, rly := true, pnt := true, sw := true, jnl := true }

/-- AUDIT_DESCRIPTOR_START (R463 to R467). -/
def execAuditDescriptorStart (blk : Nat) (reads : StoreRead) (s : State) : Host.Outcome State Fault Refusal :=
  s.answer touchAudit (s.audStart blk reads).collSettle

/-- AUDIT_DESCRIPTOR_END (R467, R468). -/
def execAuditDescriptorEnd (blk : Nat) (s : State) : Host.Outcome State Fault Refusal := s.answer touchAudit (s.audEnd blk)

/-- SEAL_RECORD_ACCEPT (R471). -/
def execSealRecordAccept (blk : Nat) (s : State) : Host.Outcome State Fault Refusal :=
  s.answer { sec := true, blocks := true } (s.acceptRecord blk)

/-- SEAL_BATCH_CLOSE (R471). -/
def execSealBatchClose (s : State) : Host.Outcome State Fault Refusal :=
  s.answer { sec := true } (if s.batchDue then s.closeBatch false else s)

/-- SEAL_BATCH_SIGN (R475). -/
def execSealBatchSign (s : State) : Host.Outcome State Fault Refusal := s.answer { sec := true, free := true } s.signBatch

/-- SEAL_RING_WRITE (R475). -/
def execSealRingWrite (hostOk : Bool) (s : State) : Host.Outcome State Fault Refusal :=
  s.answer { touchData with sec := true } (s.sealWrite hostOk)

end Sys2Proof.Machine
end

