-- ==== Sys2Proof/Machine/Riscv.lean ====
section
/-! DEFINITION. RV64IMAC as the prep core executes it: the expansion of compressed instructions, the instruction fields and the
integer arithmetic (R188, after the RISC-V unprivileged specification that R188 names). -/

namespace Sys2Proof.Machine

/-- Bit fields of an instruction gathered in order, highest first: each pair is (top, bottom). -/
def gather (c : Nat) (fs : List (Nat × Nat)) : Nat := fs.foldl (fun acc f => acc * 2 ^ (f.1 + 1 - f.2) + bits c f.1 f.2) 0

/-- Sign extension of `w` bits to a 64-bit pattern. -/
def sext (w n : Nat) : Nat := ofSigned 64 (toSigned w n)

/-- An I-type instruction. -/
def encI (imm rs1 f3 rd op : Nat) : Nat := imm % 4096 * 2 ^ 20 + rs1 * 2 ^ 15 + f3 * 2 ^ 12 + rd * 2 ^ 7 + op
/-- An R-type instruction. -/
def encR (f7 rs2 rs1 f3 rd op : Nat) : Nat := f7 * 2 ^ 25 + rs2 * 2 ^ 20 + rs1 * 2 ^ 15 + f3 * 2 ^ 12 + rd * 2 ^ 7 + op
/-- An S-type instruction. -/
def encS (imm rs2 rs1 f3 : Nat) : Nat :=
  bits imm 11 5 * 2 ^ 25 + rs2 * 2 ^ 20 + rs1 * 2 ^ 15 + f3 * 2 ^ 12 + bits imm 4 0 * 2 ^ 7 + 0x23
/-- A B-type instruction. -/
def encB (imm rs2 rs1 f3 : Nat) : Nat :=
  bit imm 12 * 2 ^ 31 + bits imm 10 5 * 2 ^ 25 + rs2 * 2 ^ 20 + rs1 * 2 ^ 15 + f3 * 2 ^ 12 + bits imm 4 1 * 2 ^ 8 + bit imm 11 * 2 ^ 7 + 0x63
/-- A J-type instruction. -/
def encJ (imm rd : Nat) : Nat :=
  bit imm 20 * 2 ^ 31 + bits imm 10 1 * 2 ^ 21 + bit imm 11 * 2 ^ 20 + bits imm 19 12 * 2 ^ 12 + rd * 2 ^ 7 + 0x6F

/-- Quadrant 0 of the compressed instructions. -/
def expandC0 (c : Nat) : Option Nat :=
  let rd := 8 + bits c 4 2
  let rs1 := 8 + bits c 9 7
  let f := bits c 15 13
  let wOff := (bit c 5 * 64 + bits c 12 10 * 8 + bit c 6 * 4)
  let dOff := (bits c 6 5 * 64 + bits c 12 10 * 8)
  if f = 0 then
    (let imm := bits c 10 7 * 64 + bits c 12 11 * 16 + bit c 5 * 8 + bit c 6 * 4
     if imm = 0 then none else some (encI imm 2 0 rd 0x13))
  else if f = 2 then some (encI wOff rs1 2 rd 0x03)
  else if f = 3 then some (encI dOff rs1 3 rd 0x03)
  else if f = 6 then some (encS wOff rd rs1 2)
  else if f = 7 then some (encS dOff rd rs1 3)
  else none

/-- Quadrant 1 of the compressed instructions. -/
def expandC1 (c : Nat) : Option Nat :=
  let rd := bits c 11 7
  let imm := sext 6 (bit c 12 * 32 + bits c 6 2)
  let f := bits c 15 13
  let r1 := 8 + bits c 9 7
  let r2 := 8 + bits c 4 2
  let sh := bit c 12 * 32 + bits c 6 2
  if f = 0 then some (encI imm rd 0 rd 0x13)
  else if f = 1 then (if rd = 0 then none else some (encI imm rd 0 rd 0x1B))
  else if f = 2 then some (encI imm 0 0 rd 0x13)
  else if f = 3 then
    (if rd = 2 then
      (let i := sext 10 (bit c 12 * 512 + bits c 4 3 * 128 + bit c 5 * 64 + bit c 2 * 32 + bit c 6 * 16)
       if i = 0 then none else some (encI i 2 0 2 0x13))
     else if sh = 0 then none else some (bits imm 19 0 * 2 ^ 12 + rd * 2 ^ 7 + 0x37))
  else if f = 4 then
    (let g := bits c 11 10
     if g = 0 then some (encI sh r1 5 r1 0x13)
     else if g = 1 then some (encI (1024 + sh) r1 5 r1 0x13)
     else if g = 2 then some (encI imm r1 7 r1 0x13)
     else
      (let h := bits c 6 5
       if bit c 12 = 0 then
        (if h = 0 then some (encR 0x20 r2 r1 0 r1 0x33) else if h = 1 then some (encR 0 r2 r1 4 r1 0x33)
         else if h = 2 then some (encR 0 r2 r1 6 r1 0x33) else some (encR 0 r2 r1 7 r1 0x33))
       else if h = 0 then some (encR 0x20 r2 r1 0 r1 0x3B) else if h = 1 then some (encR 0 r2 r1 0 r1 0x3B) else none))
  else if f = 5 then
    some (encJ (sext 12 (bit c 12 * 2048 + bit c 8 * 1024 + bits c 10 9 * 256 + bit c 6 * 128 + bit c 7 * 64 + bit c 2 * 32 +
      bit c 11 * 16 + bits c 5 3 * 2)) 0)
  else
    some (encB (sext 9 (bit c 12 * 256 + bits c 6 5 * 64 + bit c 2 * 32 + bits c 11 10 * 8 + bits c 4 3 * 2)) 0 r1 (if f = 6 then 0 else 1))

/-- Quadrant 2 of the compressed instructions. -/
def expandC2 (c : Nat) : Option Nat :=
  let rd := bits c 11 7
  let rs2 := bits c 6 2
  let f := bits c 15 13
  if f = 0 then some (encI (bit c 12 * 32 + rs2) rd 1 rd 0x13)
  else if f = 2 then (if rd = 0 then none else some (encI (bits c 3 2 * 64 + bit c 12 * 32 + bits c 6 4 * 4) 2 2 rd 0x03))
  else if f = 3 then (if rd = 0 then none else some (encI (bits c 4 2 * 64 + bit c 12 * 32 + bits c 6 5 * 8) 2 3 rd 0x03))
  else if f = 4 then
    (if bit c 12 = 0 then
      (if rs2 = 0 then (if rd = 0 then none else some (encI 0 rd 0 0 0x67)) else some (encR 0 rs2 0 0 rd 0x33))
     else if rs2 = 0 then (if rd = 0 then some 0x00100073 else some (encI 0 rd 0 1 0x67)) else some (encR 0 rs2 rd 0 rd 0x33))
  else if f = 6 then some (encS (bits c 8 7 * 64 + bits c 12 9 * 4) rs2 2 2)
  else if f = 7 then some (encS (bits c 9 7 * 64 + bits c 12 10 * 8) rs2 2 3)
  else none

/-- The 32-bit instruction a compressed one stands for; none where it is illegal. -/
def expandC (c : Nat) : Option Nat :=
  if c % 4 = 0 then expandC0 c else if c % 4 = 1 then expandC1 c else expandC2 c

/-- Opcode. -/
def iOp (i : Nat) : Nat := bits i 6 0
/-- rd. -/
def iRd (i : Nat) : Nat := bits i 11 7
/-- funct3. -/
def iF3 (i : Nat) : Nat := bits i 14 12
/-- rs1. -/
def iRs1 (i : Nat) : Nat := bits i 19 15
/-- rs2. -/
def iRs2 (i : Nat) : Nat := bits i 24 20
/-- funct7. -/
def iF7 (i : Nat) : Nat := bits i 31 25
/-- I-type immediate. -/
def immI (i : Nat) : Nat := sext 12 (bits i 31 20)
/-- S-type immediate. -/
def immS (i : Nat) : Nat := sext 12 (bits i 31 25 * 32 + bits i 11 7)
/-- B-type immediate. -/
def immB (i : Nat) : Nat := sext 13 (bit i 31 * 4096 + bit i 7 * 2048 + bits i 30 25 * 32 + bits i 11 8 * 2)
/-- U-type immediate. -/
def immU (i : Nat) : Nat := sext 32 (bits i 31 12 * 4096)
/-- J-type immediate. -/
def immJ (i : Nat) : Nat := sext 21 (bit i 31 * 2 ^ 20 + bits i 19 12 * 4096 + bit i 20 * 2048 + bits i 30 21 * 2)

/-- An integer of `w` bits as a 64-bit pattern: words sign-extend. -/
def wordOut (w : Nat) (z : Int) : Nat := sext w (ofSigned w z)

/-- The base integer operations of `w` bits by funct3; `alt` is SUB or SRA. None for an encoding that is not one. -/
def aluOp (w f3 : Nat) (alt : Bool) (x y : Nat) : Option Nat :=
  let a := toSigned w x
  let b := toSigned w y
  let sh := y % w
  if f3 = 0 then some (wordOut w (if alt then a - b else a + b))
  else if f3 = 1 then (if alt then none else some (wordOut w ((x % 2 ^ w * 2 ^ sh : Nat))))
  else if f3 = 5 then some (if alt then wordOut w (a / (2 ^ sh : Nat)) else wordOut w ((x % 2 ^ w / 2 ^ sh : Nat)))
  else if w = 32 ∨ alt then none
  else if f3 = 2 then some (b2n (decide (a < b)))
  else if f3 = 3 then some (b2n (decide (x < y)))
  else if f3 = 4 then some (x ^^^ y)
  else if f3 = 6 then some (x ||| y)
  else some (x &&& y)

/-- The multiplications and divisions of `w` bits by funct3 (M extension). -/
def mulOp (w f3 : Nat) (x y : Nat) : Option Nat :=
  let a := toSigned w x
  let b := toSigned w y
  let ux := x % 2 ^ w
  let uy := y % 2 ^ w
  if f3 = 0 then some (wordOut w (a * b))
  else if f3 < 4 then
    (if w = 32 then none
     else if f3 = 1 then some (ofSigned 64 (a * b / (2 ^ 64 : Nat)))
     else if f3 = 2 then some (ofSigned 64 (a * (uy : Int) / (2 ^ 64 : Nat)))
     else some (ux * uy / 2 ^ 64))
  else if f3 = 4 then some (wordOut w (if b = 0 then -1 else a.tdiv b))
  else if f3 = 5 then some (wordOut w (if uy = 0 then -1 else ((ux / uy : Nat) : Int)))
  else if f3 = 6 then some (wordOut w (if b = 0 then a else a.tmod b))
  else some (wordOut w (if uy = 0 then (ux : Int) else ((ux % uy : Nat) : Int)))

/-- A branch is taken, by funct3; none for a reserved funct3. -/
def branchTaken (f3 x y : Nat) : Option Bool :=
  let a := toSigned 64 x
  let b := toSigned 64 y
  if f3 = 0 then some (x == y) else if f3 = 1 then some (x != y) else if f3 = 4 then some (decide (a < b))
  else if f3 = 5 then some (decide (b ≤ a)) else if f3 = 6 then some (decide (x < y)) else if f3 = 7 then some (decide (y ≤ x)) else none

/-- What an AMO stores, of `w` bits, by funct5 (A extension). -/
def amoOp (w f5 old x : Nat) : Option Nat :=
  if f5 = 0x00 then some ((old + x) % 2 ^ w)
  else if f5 = 0x01 then some (x % 2 ^ w)
  else if f5 = 0x04 then some (old ^^^ x % 2 ^ w)
  else if f5 = 0x0C then some (old &&& x % 2 ^ w)
  else if f5 = 0x08 then some (old ||| x % 2 ^ w)
  else if f5 = 0x10 then some (if toSigned w x < toSigned w old then x % 2 ^ w else old)
  else if f5 = 0x14 then some (if toSigned w old < toSigned w x then x % 2 ^ w else old)
  else if f5 = 0x18 then some (min old (x % 2 ^ w))
  else if f5 = 0x1C then some (max old (x % 2 ^ w))
  else none

end Sys2Proof.Machine
end

