-- ==== Sys2Proof/Machine/Prep.lean ====
section
/-! DEFINITION. The prep core: its memories, CSRs, traps and interrupts, RV64IMAC and the Xvln instructions (R188 to R197, 06). -/

namespace Sys2Proof.Machine

/-- An integer register; x0 reads 0. -/
def Block.xreg (b : Block) (i : Nat) : Nat := if i = 0 then 0 else (Sparse.get (0#64) b.prep.x i).toNat

/-- An integer register written; x0 discards the write. -/
def Block.setX (i v : Nat) (b : Block) : Block :=
  if i = 0 then b else { b with prep.x := Sparse.set (0#64) b.prep.x i (BitVec.ofNat 64 v) }

/-- BLK_STATE.STATE of a block (R103). -/
def State.blkState (s : State) (p : Nat) : Nat :=
  let b := s.block p
  if (s.shapeOf p).isNone then 0
  else if s.fencedBlock p then 7
  else match b.run with
  | none => if s.heldAtEnd p then 6 else 1
  | some r =>
    if s.proofed p then 4
    else match b.hold with
    | .wait .. => 3
    | .hwait _ => 3
    | .proofer => 4
    | .none => match r.phase with | .mmas .. => 5 | .ending _ => 6 | _ => 2

/-- Counters that stop while inhibited (R188): one step retires one instruction (log 9). -/
def Prep.countStep (c : Prep) : Prep :=
  { c with
    mcycle := if c.inhibit.getLsbD 0 then c.mcycle else c.mcycle + 1
    minstret := if c.inhibit.getLsbD 2 then c.minstret else c.minstret + 1 }

/-- The instruction retires: the core goes on at `pc`. -/
def Block.retireAt (pc : Nat) (b : Block) : Block :=
  { b with prep := { b.prep.countStep with pc := BitVec.ofNat 64 pc, state := 1 } }

/-- The instruction of `len` bytes retires with a result in rd. -/
def Block.retire (len rd v : Nat) (b : Block) : Block := (b.setX rd v).retireAt (b.prep.pc.toNat + len)

/-- The prep core faults: the block is fenced with BLK_PREP_FAULT and the core stops (R192). -/
def State.prepFault (p cause : Nat) (memory : Bool) (s : State) : State :=
  let pc := (s.block p).prep.pc.toNat
  (s.onBlock p (fun b => { b with prep.state := 5 })).fenceFor p ePrepFault (s.block p).lastWord none
    (cause % 256 + (if memory then 256 else 0)) (pc % 2 ^ 32)

/-- An exception goes to mtvec; a nested one faults the core (R192). -/
def State.prepTrap (p cause tval : Nat) (s : State) : State :=
  let c := (s.block p).prep
  if c.inTrap then s.prepFault p cause false
  else s.onBlock p (fun b => { b with prep := { c with
    mepc := c.pc
    mcause := BitVec.ofNat 64 cause
    mtval := BitVec.ofNat 64 tval
    mstatus := BitVec.ofNat 64 (setBits (setBits c.mstatus.toNat 7 7 (bit c.mstatus.toNat 3)) 3 3 0)
    pc := BitVec.ofNat 64 (c.mtvec.toNat / 4 * 4)
    inTrap := true
    lastCause := cause % 256
    state := 1 } })

/-- An error of the prep core on its block's page, with the tag of the issue stage's last command (R208, R214). -/
def State.prepError (p code detail : Nat) (s : State) : State :=
  match s.pageOfBlock p with
  | some l =>
    let b := s.block p
    s.raise .blk l code b.lastTag (b.lastOff * 2 ^ 40 + detail) b.step (pblkOf p)
  | none => s

/-- An operation that strict mode refuses: DET_VARIANT and an illegal-instruction exception (R197). -/
def State.prepVariant (p ins : Nat) (s : State) : State := (s.prepError p eVariant 0).prepTrap p 2 ins

/-! ### Memory (R189) -/

/-- What an address of the prep core's map names. -/
inductive PMem where
  /-- Instruction memory, at an offset. -/
  | imem (a : Nat)
  /-- Data memory, at an offset. -/
  | dmem (a : Nat)
  /-- The window onto the block store, at an offset. -/
  | window (a : Nat)
  /-- Nothing. -/
  | none
deriving DecidableEq, Repr

/-- The `n` bytes at an address. -/
def prepMap (a n : Nat) : PMem :=
  if a + n ≤ 0x10000 then .imem a
  else if 0x100000 ≤ a ∧ a + n ≤ 0x140000 then .dmem (a - 0x100000)
  else if 0x10000000 ≤ a ∧ a + n ≤ 0x18000000 then .window (a - 0x10000000)
  else .none

/-- A load from these bytes of the store is marked V: a store or DMA write to them is pending (R197). -/
def State.windowPending (s : State) (p a n : Nat) : Bool :=
  ((s.block p).pendStore a n).isSome ||
    s.placed.any (fun c => (s.dmaWritesTo c.2 p).any (fun r => decide (r.1 < a + n) && decide (a < r.1 + r.2)))

/-- A load: the value, or a trap cause; `variant` says it is marked V. -/
inductive LoadRes where
  /-- The bytes read, as a number, and whether the load is marked V. -/
  | val (v : Nat) (variant : Bool)
  /-- An exception. -/
  | trap (cause : Nat)
deriving DecidableEq, Repr

/-- A load of `n` bytes (R189). -/
def State.prepLoad (s : State) (p a n : Nat) : LoadRes :=
  let b := s.block p
  match prepMap a n with
  | .imem x => .val (b.imem.readNat x n) false
  | .dmem x => .val (b.dmem.readNat x n) false
  | .window x => if a % n ≠ 0 then .trap 4 else .val (b.store.readNat x n) (s.windowPending p x n)
  | .none => .trap 5

/-- A store of `n` bytes: the block, or a trap cause (R189). -/
def Block.prepStore (a n v : Nat) (b : Block) : Except Nat Block :=
  match prepMap a n with
  | .imem _ => .error 7
  | .dmem x => .ok { b with dmem := b.dmem.writeNat x n v }
  | .window x => if a % n ≠ 0 then .error 6 else .ok { b with store := b.store.writeNat x n v }
  | .none => .error 7

/-- The address lies in the window. -/
def inWindow (a n : Nat) : Bool := match prepMap a n with | .window _ => true | _ => false

/-- The instruction at the pc: its 32 bits and its length, or a trap cause. -/
def Block.prepFetch (b : Block) : Except (Nat × Nat) (Nat × Nat) :=
  let pc := b.prep.pc.toNat
  match prepMap pc 2 with
  | .imem a =>
    let lo := b.imem.readNat a 2
    if lo % 4 ≠ 3 then (match expandC lo with | some i => .ok (i, 2) | none => .error (2, lo))
    else if pc + 4 ≤ 0x10000 then .ok (b.imem.readNat a 4, 4)
    else .error (1, pc + 2)
  | _ => .error (1, pc)

/-! ### CSRs (R188, R191, R196) -/

/-- misa: RV64 with I, M, A, C and X. -/
def misaValue : Nat := 2 ^ 63 + 2 ^ 23 + 2 ^ 12 + 2 ^ 8 + 2 ^ 2 + 1

/-- A CSR's value and whether reading it is marked V (R191, R197); none for a CSR the core does not have. -/
def State.csrRead (s : State) (p csr : Nat) : Option (Nat × Bool) :=
  let b := s.block p
  let c := b.prep
  if csr = 0x300 then some (c.mstatus.toNat, false)
  else if csr = 0x301 then some (misaValue, false)
  else if csr = 0x304 then some (c.mie.toNat, false)
  else if csr = 0x305 then some (c.mtvec.toNat, false)
  else if csr = 0x320 then some (c.inhibit.toNat, false)
  else if 0x323 ≤ csr ∧ csr ≤ 0x33F then some (0, false)
  else if csr = 0x340 then some (c.mscratch.toNat, false)
  else if csr = 0x341 then some (c.mepc.toNat, false)
  else if csr = 0x342 then some (c.mcause.toNat, false)
  else if csr = 0x343 then some (c.mtval.toNat, false)
  else if csr = 0x344 then some (c.mip.toNat, false)
  else if csr = 0x7C0 then some (c.xvtrap, false)
  else if csr = 0x7C1 then some (s.blkState p, false)
  else if csr = 0x7C2 then some (b.lastTag, false)
  else if csr = 0xB00 ∨ csr = 0xC00 then some (c.mcycle.toNat, true)
  else if csr = 0xB02 ∨ csr = 0xC02 then some (c.minstret.toNat, true)
  else if csr = 0xC01 then some (s.timeWord, true)
  else if (0xB03 ≤ csr ∧ csr ≤ 0xB1F) ∨ (0xC03 ≤ csr ∧ csr ≤ 0xC1F) then some (0, false)
  else if csr = 0xF11 ∨ csr = 0xF12 ∨ csr = 0xF15 then some (0, false)
  else if csr = 0xF13 then some (1, false)
  else if csr = 0xF14 then some ((s.shapeOf p).getD 0, false)
  else none

/-- A CSR that a write reaches; the others are read-only (R191, log 26). -/
def csrWritable (csr : Nat) : Bool := decide (csr < 0xC00) && !(decide (0x7C0 ≤ csr) && decide (csr ≤ 0x7C2))

/-- A CSR written; bits that are not writable keep their value (R188, R196, log 26). -/
def Prep.csrWrite (csr v : Nat) (c : Prep) : Prep :=
  let w := BitVec.ofNat 64 v
  if csr = 0x300 then { c with mstatus := (w &&& 0x88#64) ||| 0x1800#64 }
  else if csr = 0x304 then { c with mie := w &&& 0x70000#64 }
  else if csr = 0x305 then { c with mtvec := w &&& 0xFFFFFFFFFFFFFFFD#64 }
  else if csr = 0x320 then { c with inhibit := w &&& 5#64 }
  else if csr = 0x340 then { c with mscratch := w }
  else if csr = 0x341 then { c with mepc := w &&& 0xFFFFFFFFFFFFFFFE#64 }
  else if csr = 0x342 then { c with mcause := w }
  else if csr = 0x343 then { c with mtval := w }
  else if csr = 0x344 then { c with mip := w &&& 0x70000#64 }
  else if csr = 0xB00 then { c with mcycle := w }
  else if csr = 0xB02 then { c with minstret := w }
  else c

/-- A CSR instruction (Zicsr). -/
def State.prepCsr (p ins len : Nat) (s : State) : State :=
  let csr := bits ins 31 20
  let f := iF3 ins
  let src := if f ≥ 4 then iRs1 ins else (s.block p).xreg (iRs1 ins)
  let reads := !(f % 4 == 1 && iRd ins == 0)
  let writes := f % 4 == 1 || iRs1 ins != 0
  match s.csrRead p csr with
  | none => s.prepTrap p 2 ins
  | some (old, variant) =>
    if writes && !csrWritable csr then s.prepTrap p 2 ins
    else if reads && variant && s.strict then s.prepVariant p ins
    else
      let new := if f % 4 = 1 then src else if f % 4 = 2 then old ||| src else old - (old &&& src)
      s.onBlock p (fun b =>
        let b1 := b.retire len (iRd ins) old
        if writes then { b1 with prep := b1.prep.csrWrite csr new } else b1)

/-! ### Xvln (R193 to R195) -/

/-- The issue stage is idle: no run is under way in the block. -/
def Block.idleStage (b : Block) : Bool := b.run.isNone

/-- The core stalls in an Xvln instruction, which is tried again. -/
def State.prepStall (p : Nat) (s : State) : State := s.onBlock p (fun b => { b with prep.state := 4 })

/-- BLK_RDU of a block (R166). -/
def Rdu.word (r : Rdu) : Nat :=
  b2n r.nanSeen * 2 ^ 20 + r.mode * 2 ^ 18 + b2n r.int32 * 2 ^ 17 + r.entries.length * 2 ^ 8 + r.k

/-- vln.rent's result (R193). -/
def Rdu.entryWord (r : Rdu) (i : Nat) : Nat :=
  match r.entries[i]? with
  | some e => e.pos.toNat * 2 ^ 32 + e.val.toNat
  | none => 0xFFFFFFFF00000000

/-- A selector of vln.wreg and vln.rreg is well formed (R194). -/
def selectorOk (x : Nat) : Bool :=
  decide (x < 1024) && bits x 5 4 != 3 && (if bits x 5 4 = 0 then bits x 9 6 != 0 else bits x 9 6 == 0) &&
    (bits x 5 4 != 1 || decide (bits x 3 0 < 8)) && (bits x 5 4 != 2 || decide (bits x 3 0 < 4))

/-- vln.wreg (R194). -/
def Block.writeSel (x v : Nat) (b : Block) : Block :=
  let i := bits x 3 0
  if bits x 5 4 = 0 then (onesOf 4 (bits x 9 6)).foldl (fun b c => b.onCell c (fun y => { y with a := Sparse.set 0 y.a i (BitVec.ofNat 64 v) })) b
  else if bits x 5 4 = 1 then { b with s := Sparse.set 0 b.s i (BitVec.ofNat 64 v) }
  else { b with lc := b.lc.setNum i (v % 2 ^ 24) }

/-- vln.rreg (R194). -/
def Block.readSel (x : Nat) (b : Block) : Nat :=
  let i := bits x 3 0
  if bits x 5 4 = 0 then (b.cell (lowCell (bits x 9 6))).areg i else if bits x 5 4 = 1 then b.sreg i else b.lc.num i

/-- N of a signal is legal for vln.sig and vln.sigr (R193). -/
def vlnN (n : Nat) : Bool := decide (1 ≤ n) && decide (n < 2 ^ 32)

/-- The Huddle tests of vln.harv and vln.hwait (R214, R621): the line is not the block's, is ABANDONED, or HARV is past its limit. -/
inductive HudTest where
  /-- None of them. -/
  | ok
  /-- SYNC_BAD_TARGET, with its DETAIL. -/
  | bad (detail : Nat)
  /-- The line is ABANDONED by the fence of a shape. -/
  | gone (shape : Nat)
deriving DecidableEq, Repr

/-- The tests of R621 in their order. -/
def State.hudTest (s : State) (p l : Nat) (arrive : Bool) : HudTest :=
  let b := s.block p
  if !bitOn b.hudMask l then .bad (2 * 2 ^ 28 + l * 2 ^ 16)
  else match (s.line l).abandoned with
  | some f => .gone f
  | none => if arrive && decide (255 < b.arrivals l + 1 - (s.line l).gen) then .bad (3 * 2 ^ 28 + l * 2 ^ 16) else .ok

/-- One Xvln instruction at the pc, by funct7 (R193). -/
def State.xvln (p ins len : Nat) (s : State) : State :=
  let b := s.block p
  let f := iF7 ins
  let x := b.xreg (iRs1 ins)
  let y := b.xreg (iRs2 ins)
  let rd := iRd ins
  let illegal := s.prepTrap p 2 ins
  let ret := fun (v : Nat) (s : State) => s.onBlock p (Block.retire len rd v)
  let skip := fun (s : State) => s.onBlock p (Block.retire len 0 0)
  if iF3 ins ≠ 0 then illegal
  else if f = 0x00 then
    if 47 < x || !vlnN y then illegal else skip (s.sendSignal p ((s.shapeOf p).getD 0) x y)
  else if f = 0x01 then
    if 47 < x % 256 || !vlnN y then illegal
    else if (s.physOf (x / 256)).isNone then (s.prepError p eBadTarget (2 ^ 28 + x / 256 % 4096 * 2 ^ 16)).prepTrap p 2 ins
    else skip (s.sendSignal p (x / 256) (x % 256) y)
  else if f = 0x02 then
    if 47 < x then illegal
    else match (b.cnt x).abandoned with
    | some shape => ret 1 (s.prepError p eAbandoned (x * 2 ^ 16 + shape))
    | none => if y ≤ (b.cnt x).value then ret 0 s else s.prepStall p
  else if f = 0x03 then
    if 47 < x then illegal else if s.strict then s.prepVariant p ins else ret (b.cnt x).value s
  else if f = 0x04 then
    if 15 < x then illegal
    else match s.hudTest p x true with
    | .bad d => (s.prepError p eBadTarget d).prepTrap p 2 ins
    | .gone _ => skip (s.prepError p eAbandoned (2 ^ 28 + x * 2 ^ 16))
    | .ok => skip (s.onBlock p (fun b => { b with arr := b.arr.addNum x 1 }))
  else if f = 0x05 then
    if 15 < x then illegal
    else match s.hudTest p x false with
    | .bad d => (s.prepError p eBadTarget d).prepTrap p 2 ins
    | .gone _ =>
      if b.prep.state = 4 ∧ b.arrivals x ≤ (s.line x).gen then ret 0 s
      else if b.prep.state = 4 ∧ b.arrivals x ≤ s.finalGen x then s.prepStall p
      else ret 1 (s.prepError p eAbandoned (2 ^ 28 + x * 2 ^ 16))
    | .ok => if b.arrivals x ≤ (s.line x).gen then ret 0 s else s.prepStall p
  else if f = 0x08 then
    if b.idleStage then
      skip (s.onBlock p (fun b => { b with runq := b.runq ++ [{ seq := none, tag := y % 2 ^ 32, entry := x, chk := bitOn y 32, dense := bitOn y 33, cls := b.lastCls, isNew := s.time.now }] }))
    else s.prepStall p
  else if f = 0x09 then
    if !selectorOk x then illegal else if b.idleStage then skip (s.onBlock p (Block.writeSel x y)) else s.prepStall p
  else if f = 0x0A then
    if !selectorOk x then illegal else if b.idleStage then ret (b.readSel x) s else s.prepStall p
  else if f = 0x10 then
    if b.idleStage then skip (s.onBlock p (fun b => { b with rdu := { b.rdu.clear (x % 16 + 1) with issMode := 3 } })) else s.prepStall p
  else if f = 0x11 then
    if 15 < x then illegal else if b.idleStage then ret (b.rdu.entryWord x) s else s.prepStall p
  else if f = 0x12 then
    if b.idleStage then ret b.rdu.word s else s.prepStall p
  else if f = 0x18 then
    if 47 < x then illegal else skip (s.onBlock p (fun b => ({ b with prep.arm := some (x, y) } : Block).checkArm))
  else if f = 0x19 then
    if s.strict then s.prepVariant p ins else ret b.beats s
  else illegal

/-! ### RV64IMAC -/

/-- SYSTEM instructions (R188, R192). -/
def State.prepSystem (p ins len : Nat) (s : State) : State :=
  let c := (s.block p).prep
  if iF3 ins ≠ 0 then (if iF3 ins = 4 then s.prepTrap p 2 ins else s.prepCsr p ins len)
  else if ins = 0x00000073 then s.prepTrap p 11 0
  else if ins = 0x00100073 then s.prepTrap p 3 c.pc.toNat
  else if ins = 0x30200073 then
    s.onBlock p (fun b => { (b.retireAt c.mepc.toNat) with prep := { (b.retireAt c.mepc.toNat).prep with
      inTrap := false
      mstatus := BitVec.ofNat 64 (setBits (setBits c.mstatus.toNat 3 3 (bit c.mstatus.toNat 7)) 7 7 1) } })
  else if ins = 0x10500073 then
    s.onBlock p (fun b => { (b.retire len 0 0) with prep := { (b.retire len 0 0).prep with
      state := if c.mip &&& c.mie = 0 then 3 else 1 } })
  else s.prepTrap p 2 ins

/-- A window read whose word was corrected: BLK_STORE_CE (R433). -/
def State.prepCorrected (p mem : Nat) (reads : Bool) (s : State) : State :=
  if mem = 3 && reads then s.storeCorrected p (s.block p).lastWord else s

/-- A load instruction (R189). `mem` 2: the window read met an uncorrectable word; 3: one that was corrected (R433). -/
def State.prepLoadIns (p ins len mem : Nat) (s : State) : State :=
  let f := iF3 ins
  let n := 2 ^ (f % 4)
  let a := ((s.block p).xreg (iRs1 ins) + immI ins) % 2 ^ 64
  if f = 7 then s.prepTrap p 2 ins
  else if mem = 2 && inWindow a n then s.fenceFor p eStoreUe (s.block p).lastWord none 0 0
  else match s.prepLoad p a n with
  | .trap cause => s.prepTrap p cause a
  | .val v variant =>
    let t := s.prepCorrected p mem (inWindow a n)
    if variant && s.strict then t.prepVariant p ins
    else t.onBlock p (Block.retire len (iRd ins) (if f < 4 then sext (8 * n) v else v))

/-- A store instruction (R189). -/
def State.prepStoreIns (p ins len mem : Nat) (s : State) : State :=
  let f := iF3 ins
  let n := 2 ^ f
  let b := s.block p
  let a := (b.xreg (iRs1 ins) + immS ins) % 2 ^ 64
  if 4 ≤ f then s.prepTrap p 2 ins
  else if mem = 2 && inWindow a n && decide (n < 8) then s.fenceFor p eStoreUe b.lastWord none 0 0
  else match b.prepStore a n (b.xreg (iRs2 ins)) with
  | .error cause => s.prepTrap p cause a
  | .ok b' => (s.prepCorrected p mem (inWindow a n && decide (n < 8))).setBlock p (b'.retire len 0 0)

/-- LR, SC and the AMOs: data memory alone takes them (R189). -/
def State.prepAmo (p ins len : Nat) (s : State) : State :=
  let b := s.block p
  let f5 := bits ins 31 27
  let n := 2 ^ iF3 ins
  let a := b.xreg (iRs1 ins)
  let x := b.xreg (iRs2 ins)
  let lr := f5 = 0x02
  if iF3 ins ≠ 2 ∧ iF3 ins ≠ 3 ∨ (lr ∧ iRs2 ins ≠ 0) ∨ (¬ lr ∧ f5 ≠ 0x03 ∧ (amoOp (8 * n) f5 0 0).isNone) then s.prepTrap p 2 ins
  else match prepMap a n with
  | .dmem o =>
    if a % n ≠ 0 then s.prepTrap p (if lr then 4 else 6) a
    else
      let old := b.dmem.readNat o n
      if lr then s.setBlock p ({ (b.retire len (iRd ins) (sext (8 * n) old)) with prep := { (b.retire len (iRd ins) (sext (8 * n) old)).prep with resv := some (a, n) } })
      else if f5 = 0x03 then
        let ok := b.prep.resv == some (a, n)
        let b1 := (if ok then { b with dmem := b.dmem.writeNat o n x } else b).retire len (iRd ins) (b2n (!ok))
        s.setBlock p { b1 with prep := { b1.prep with resv := none } }
      else
        let new := (amoOp (8 * n) f5 old x).getD 0
        s.setBlock p (({ b with dmem := b.dmem.writeNat o n new } : Block).retire len (iRd ins) (sext (8 * n) old))
  | .imem _ => s.prepTrap p (if lr then 5 else 7) a
  | .window _ => s.prepTrap p (if lr then 5 else 7) a
  | .none => s.prepTrap p (if lr then 5 else 7) a

/-- A result written, or an illegal instruction. -/
def State.prepAlu (p ins len : Nat) (r : Option Nat) (s : State) : State :=
  match r with
  | some v => s.onBlock p (Block.retire len (iRd ins) v)
  | none => s.prepTrap p 2 ins

/-- The register-immediate operations: a shift's funct7 must be 0, or 0x20 for an arithmetic one. -/
def opImm (w ins x : Nat) : Option Nat :=
  let f := iF3 ins
  let top := if w = 64 then bits ins 31 26 * 2 else bits ins 31 25
  if f = 1 then (if top = 0 then aluOp w f false x (bits ins 25 20) else none)
  else if f = 5 then (if top = 0 then aluOp w f false x (bits ins 25 20) else if top = 0x20 then aluOp w f true x (bits ins 25 20) else none)
  else aluOp w f false x (immI ins)

/-- The register-register operations. -/
def opReg (w ins x y : Nat) : Option Nat :=
  if iF7 ins = 1 then mulOp w (iF3 ins) x y
  else if iF7 ins = 0 then aluOp w (iF3 ins) false x y
  else if iF7 ins = 0x20 then (if iF3 ins = 0 ∨ iF3 ins = 5 then aluOp w (iF3 ins) true x y else none)
  else none

/-- A jump retires at its target with the return address in rd. -/
def State.prepJump (p ins len target : Nat) (s : State) : State :=
  s.onBlock p (fun b => (b.setX (iRd ins) ((b.prep.pc.toNat + len) % 2 ^ 64)).retireAt (target % 2 ^ 64 / 2 * 2))

/-- One instruction of the prep core at its pc (R188, R193). -/
def State.prepExec (p ins len mem : Nat) (s : State) : State :=
  let b := s.block p
  let pc := b.prep.pc.toNat
  let x := b.xreg (iRs1 ins)
  let y := b.xreg (iRs2 ins)
  let o := iOp ins
  if o = 0x37 then s.prepAlu p ins len (some (immU ins))
  else if o = 0x17 then s.prepAlu p ins len (some ((pc + immU ins) % 2 ^ 64))
  else if o = 0x6F then s.prepJump p ins len (pc + immJ ins)
  else if o = 0x67 then (if iF3 ins = 0 then s.prepJump p ins len (x + immI ins) else s.prepTrap p 2 ins)
  else if o = 0x63 then
    (match branchTaken (iF3 ins) x y with
     | none => s.prepTrap p 2 ins
     | some t => s.onBlock p (Block.retireAt (if t then (pc + immB ins) % 2 ^ 64 else pc + len)))
  else if o = 0x03 then s.prepLoadIns p ins len mem
  else if o = 0x23 then s.prepStoreIns p ins len mem
  else if o = 0x13 then s.prepAlu p ins len (opImm 64 ins x)
  else if o = 0x1B then s.prepAlu p ins len (opImm 32 ins x)
  else if o = 0x33 then s.prepAlu p ins len (opReg 64 ins x y)
  else if o = 0x3B then s.prepAlu p ins len (opReg 32 ins x y)
  else if o = 0x0F then (if iF3 ins ≤ 1 then s.onBlock p (Block.retire len 0 0) else s.prepTrap p 2 ins)
  else if o = 0x73 then s.prepSystem p ins len
  else if o = 0x2F then s.prepAmo p ins len
  else if o = 0x0B then s.xvln p ins len
  else s.prepTrap p 2 ins

/-- The prep core runs: the placement is LIVE, the block is not fenced and the core is not stopped or faulted (R190). -/
def State.prepRuns (s : State) (p : Nat) : Bool :=
  s.live && !s.fencedBlock p && (s.shapeOf p).isSome &&
    ((s.block p).prep.state == 1 || (s.block p).prep.state == 4 || (s.block p).prep.state == 3)

/-- The core waits in WFI and nothing enabled is pending. -/
def Block.asleep (b : Block) : Bool := b.prep.state == 3 && b.prep.mip &&& b.prep.mie == 0

/-- PREP_INSTRUCTION (R188). `mem` 1: an uncorrectable error in instruction or data memory (R192); 2: in the block store; 3: corrected there
(R433). -/
def State.prepStep (p mem : Nat) (s : State) : State :=
  let b := s.block p
  if !s.prepRuns p || b.asleep then s
  else if mem = 1 then s.prepFault p b.prep.mcause.toNat true
  else match b.prepFetch with
  | .error (cause, tval) => s.prepTrap p cause tval
  | .ok (ins, len) => s.prepExec p ins len mem

/-- The Xvln instruction of a funct7, if that is what stands at the pc of a running core (R193). -/
def State.vlnStep (p f7 : Nat) (s : State) : State :=
  let b := s.block p
  if !s.prepRuns p || b.asleep then s
  else match b.prepFetch with
  | .error _ => s
  | .ok (ins, len) => if iOp ins = 0x0B ∧ iF3 ins = 0 ∧ iF7 ins = f7 then s.xvln p ins len else s

/-- PREP_INTERRUPT (R196): the lowest enabled pending interrupt is taken (log 26). -/
def State.prepInterrupt (p : Nat) (s : State) : State :=
  let c := (s.block p).prep
  if !s.prepRuns p || !c.mstatus.getLsbD 3 then s
  else match (onesOf 19 (c.mip &&& c.mie).toNat) with
  | [] => s
  | i :: _ => s.onBlock p (fun b => { b with prep := { c with
      mepc := c.pc
      mcause := BitVec.ofNat 64 (2 ^ 63 + i)
      mtval := 0
      mstatus := BitVec.ofNat 64 (setBits (setBits c.mstatus.toNat 7 7 1) 3 3 0)
      pc := BitVec.ofNat 64 (c.mtvec.toNat / 4 * 4 + (if c.mtvec.getLsbD 0 then 4 * i else 0))
      inTrap := true
      state := 1 } })

end Sys2Proof.Machine
end

