-- ==== Sys2Proof/Machine/BlockEvents.lean ====
section
/-! DEFINITION. The meanings of the issue stage's beats, signals, the Huddle, fences, scrubbing and the block DMA (R22 to R25, R53 to R57,
R89, R203 to R215, R433 to R437, R574). -/

namespace Sys2Proof.Machine

/-- What an event of a block may change: blocks and Huddle lines, commands that end or wait, the memory system, errors, learned powers, and
what a fence brings about in the collectives. -/
def touchBlock : Touch := { touchAudit with prf := true, place := false }

/-- LONG_WORD_ISSUE (R53). -/
def execLongWordIssue (blk : Nat) (reads : StoreRead) (op residue : Option Nat) (s : State) : Host.Outcome State Fault Refusal :=
  s.answer touchBlock (s.longWordBeat blk reads op residue).collSettle

/-- EMPTY_BEAT (R57). -/
def execEmptyBeat (blk : Nat) (reads : StoreRead) (op residue : Option Nat) (s : State) : Host.Outcome State Fault Refusal :=
  s.answer touchBlock (s.emptyBeat blk reads op residue).collSettle

/-- COMMAND_END (R89). -/
def execCommandEnd (blk : Nat) (s : State) : Host.Outcome State Fault Refusal := s.answer touchBlock (s.commandEnd blk)

/-- A signal on its way becomes visible to its counter, once the writes it must follow are (R203, R204). One to a shape that is no longer
placed has no counter. -/
def State.signalArrives (index : Nat) (s : State) : State :=
  match s.hif.inflight[index]? with
  | none => s
  | some f =>
    if !s.signalReady f then s
    else
      let t : State := { s with hif.inflight := s.hif.inflight.eraseIdx index }
      let (shape, i, n) := f.target
      match s.physOf shape with
      | none => t
      | some p => t.cntAdd p i n

/-- SIGNAL_ARRIVAL (R203, R204). -/
def execSignalArrival (index : Nat) (s : State) : Host.Outcome State Fault Refusal :=
  s.answer { blocks := true, hif := true } (s.signalArrives index)

/-- HUDDLE_RELEASE (R212, R621): GEN advances once every participant has arrived once more. -/
def execHuddleRelease (line : Nat) (s : State) : Host.Outcome State Fault Refusal :=
  s.answer { hud := true } (if (s.line line).gen < s.finalGen line then
      { s with hud := Sparse.set {} s.hud line { s.line line with gen := (s.line line).gen + 1 } }
    else s)

/-- The fence of a block for an error that no operation of its command is to blame for, with a residue failure of the same beat (R24,
R25). -/
def State.fenceAlone (p code : Nat) (residue : Option Nat) (s : State) : State :=
  s.fenceFor p code (s.block p).lastWord ((s.block p).residueHit residue) 0 0

/-- BLOCK_FENCE (R25): for an uncorrectable store error (12) or a prep-core fault (13). -/
def execBlockFence (blk cause : Nat) (residue : Option Nat) (s : State) : Host.Outcome State Fault Refusal :=
  s.answer touchBlock (s.fenceAlone blk cause residue).collSettle

/-- BLK_WATCHDOG (R22). -/
def execBlkWatchdog (blk : Nat) (residue : Option Nat) (s : State) : Host.Outcome State Fault Refusal :=
  s.answer touchBlock (s.fenceAlone blk eWatchdog residue).collSettle

/-- DIE_FABRIC (R574). -/
def execDieFabric (die : Nat) (under : Option (Nat × Nat)) (s : State) : Host.Outcome State Fault Refusal :=
  s.answer touchBlock (s.linkRetriesFail die under).collSettle

/-- DIE_VDOM (R574): the die is off from then on (R218). -/
def execDieVdom (die : Nat) (under : Option (Nat × Nat)) (s : State) : Host.Outcome State Fault Refusal :=
  s.answer { touchBlock with place := true } (s.railFails die under).collSettle

/-- Patrol scrub reads a word of a block store (R433). -/
def State.storeScrub (p : Nat) (reads : StoreRead) (s : State) : State :=
  match reads with
  | .clean => s
  | .corrected => s.storeCorrected p (s.block p).lastWord
  | .uncorrectable => s.fenceFor p eStoreUe (s.block p).lastWord none 0 0

/-- BLOCK_STORE_SCRUB (R433). -/
def execBlockStoreScrub (blk word : Nat) (reads : StoreRead) (s : State) : Host.Outcome State Fault Refusal :=
  s.answer touchBlock (if word < 2 ^ 24 then (s.storeScrub blk reads).collSettle else s)

/-- DMA_DESCRIPTOR_START (R434). -/
def execDmaDescriptorStart (blk : Nat) (reads : StoreRead) (s : State) : Host.Outcome State Fault Refusal :=
  s.answer touchBlock (s.dmaStart blk reads).collSettle

/-- DMA_DESCRIPTOR_END (R436, R437). -/
def execDmaDescriptorEnd (blk index : Nat) (reads : StoreRead) (s : State) : Host.Outcome State Fault Refusal :=
  s.answer touchBlock (s.dmaEnd blk index reads).collSettle

/-- PREP_INSTRUCTION (R188). -/
def execPrepInstruction (blk mem : Nat) (s : State) : Host.Outcome State Fault Refusal :=
  s.answer touchBlock (s.prepStep blk mem).collSettle

/-- PREP_INTERRUPT (R196). -/
def execPrepInterrupt (blk : Nat) (s : State) : Host.Outcome State Fault Refusal := s.answer { blocks := true } (s.prepInterrupt blk)

end Sys2Proof.Machine
end

