-- ==== Sys2Proof/Machine/ClockOps.lean ====
section
/-! DEFINITION. The PLLs, the reference monitor, COAST and the clock multiplexers (R518 to R528; 15_power_thermal_and_clocks.md). -/

namespace Sys2Proof.Machine

/-- A PLL. -/
def State.pll (s : State) (n : Nat) : Pll := Sparse.get {} s.clk.plls n
/-- A PLL replaced. -/
def State.setPll (n : Nat) (x : Pll) (s : State) : State := { s with clk.plls := Sparse.set {} s.clk.plls n x }
/-- The PLL of a multiplexer's domain (R520, R535). -/
def muxPll (m : Nat) : Nat := if m = 0 then 0 else if m ≤ 8 then m + 1 else m + 17

/-- ERR_INFO0 of the clock page (R534). -/
def clkInfo (index : Nat) (mux : Bool) (count : Nat) : Nat := index * 2 ^ 58 + b2n mux * 2 ^ 57 + count % 2 ^ 16

/-- A port's link goes down, in either mode (R349, R350, R356). -/
def State.portDown (n : Nat) (s : State) : State :=
  (if (s.port n).up then s.ethLinkDown n else s).linkDown n

/-- Ports from `a` on go down. -/
def State.portsDown (a n : Nat) (s : State) : State := ((List.range n).map (a + ·)).foldl (fun s p => s.portDown p) s

/-- A PLL in holdover (R524). -/
def Pll.hold (x : Pll) : Pll := if x.en then { x with holdover := true, locked := false } else x
/-- A PLL stopped (R524). -/
def Pll.stop (x : Pll) : Pll := { x with en := false, locked := false }

/-- A pending switch that REFCLK's loss resolves (R524, R528): it ends on the source asked for, or on its old one where that is REFCLK. -/
def Mux.resolve (x : Mux) : Mux := if x.pending then { x with pending := false, src := if x.src = 0 then x.old else x.src } else x

/-- REFCLK is declared failed: the module enters COAST (R524, R525). -/
def State.refclkFail (info : Nat) (s : State) : State :=
  if s.clk.coast then s
  else
    let s1 := (s.raise .clk 0 4 0 info 0 0).portsDown 0 128
    let plls := (List.range 42).foldl (fun (m : Sparse Pll) n =>
      let x := Sparse.get {} m n
      Sparse.set {} m n (if n = 1 ∨ (10 ≤ n ∧ n < 26) then x.stop else x.hold)) s1.clk.plls
    let muxes := (List.range 25).foldl (fun (m : Sparse Mux) i =>
      Sparse.set {} m i (if i = 0 then { src := 2 } else (Sparse.get {} m i).resolve)) s1.clk.muxes
    ({ s1 with
      clk := { s1.clk with coast := true, plls := plls, muxes := muxes }
      time.untimed := true
      ref.linkUp := false
      mem.units := s1.mem.units.map (fun c => (c.1, { c.2 with held := false })) } : State).serveWaiting

/-- The nominal count of a monitor window (R522). -/
def nominalCount : Nat := 512
/-- Monitor windows in 1 s, of 5.12 µs each (R522). -/
def windowsPerSecond : Nat := 195313

/-- The count of a window declares REFCLK failed (R522, R523). -/
def State.countBad (s : State) (n : Nat) : Bool :=
  n == 0 || (if s.clk.c0 = 0 then decide (n < 461) || decide (563 < n)
    else decide (s.clk.c0 < 50 * (if n < s.clk.c0 then s.clk.c0 - n else n - s.clk.c0)))

/-- The mean of the last 64 windows. -/
def meanCount (ws : List Nat) : Nat := ws.sum / 64

/-- Every window lies within ±0.5 % of C0 (R522). -/
def steady (c0 : Nat) (ws : List Nat) : Bool := ws.all (fun n => decide (200 * (if n < c0 then c0 - n else n - c0) ≤ c0))

/-- MONITOR_WINDOW (R522, R523). -/
def State.monitorWindow (n : Nat) (s : State) : State :=
  if s.clk.coast ∨ s.clk.monFailed ∨ s.ref.inReset ∨ !s.ref.island then s
  else
    let s1 : State := { s with clk.last := n % 2 ^ 16 }
    if s.countBad n then s1.refclkFail (clkInfo 0 false n)
    else
      let ws := (s.clk.windows ++ [n]).drop (s.clk.windows.length - 63)
      let set := ws.length = 64 ∧ (s.clk.c0 = 0 ∨ (windowsPerSecond ≤ s.clk.c0Age + 1 ∧ steady s.clk.c0 ws))
      { s1 with clk := { s1.clk with
          windows := ws
          c0 := if set then meanCount ws else s.clk.c0
          c0Age := if set ∨ windowsPerSecond ≤ s.clk.c0Age + 1 then 0 else s.clk.c0Age + 1 } }

/-- CLK_MON_FAIL (R526). -/
def State.monitorFails (s : State) : State :=
  if s.clk.coast ∨ s.clk.monFailed ∨ s.ref.inReset then s
  else ({ s with clk.monFailed := true } : State).raise0 .clk 0 5

/-- CLK_PLL_UNLOCK (R521). -/
def State.pllUnlocks (n : Nat) (s : State) : State :=
  let x := s.pll n
  if !x.locked then s
  else
    let s1 := ((s.setPll n { x with locked := false, unlockedSeen := true }).raise .clk 0 2 0 (clkInfo n false 0) 0 0)
    if 10 ≤ n ∧ n < 26 then s1.portsDown (8 * (n - 10)) 8
    else if 26 ≤ n then s1.setStack (n - 26) { s1.stack (n - 26) with held := true }
    else s1

/-- PLL_RELOCK (R521): an LB4's held requests go on; a group's ports come up again through their own training. -/
def State.pllRelocks (n : Nat) (s : State) : State :=
  let x := s.pll n
  if !x.en ∨ x.locked ∨ s.clk.coast then s
  else
    let s1 := s.setPll n { x with locked := true }
    if 26 ≤ n then (s1.setStack (n - 26) { s1.stack (n - 26) with held := false }).serveWaiting else s1

/-- PLL_RELOCK_TIMEOUT (R521). -/
def State.relockLate (n : Nat) (s : State) : State :=
  let x := s.pll n
  if !x.en ∨ x.locked ∨ s.clk.coast then s
  else if 26 ≤ n then (s.stackOffline (n - 26) 0).serveWaiting
  else if n < 10 then s.refclkFail (clkInfo n false 0)
  else s

/-- CLK_MUX_SWITCH_DONE (R527). -/
def State.switchDone (m : Nat) (s : State) : State :=
  let x := s.mux m
  if x.pending && !x.stuck then s.setMux m { x with pending := false } else s

/-- CLKSW_STUCK (R528): the Referee domain is forced to the monitor oscillator; any other domain stays stopped. -/
def State.switchStuck (m : Nat) (s : State) : State :=
  let x := s.mux m
  if !x.pending ∨ x.stuck then s
  else
    let s1 := ((s.setMux m { x with stuck := true, pending := x.pending && m != 0, stuckAt := s.time.now }).raise .clk 0 3 0 (clkInfo m true 0) 0 0)
    s1.setMux 0 { s1.mux 0 with src := 2, pending := false }

/-- A write of CLK_MUXm.SRC (R527): refused while PENDING, or toward a PLL that is not locked. -/
def State.muxWrite (m src : Nat) (s : State) : State :=
  let x := s.mux m
  if src = 3 ∨ (src = 2 ∧ m ≠ 0) then s.raise0 .clk 0 0
  else if x.pending ∨ (src = 1 ∧ !(s.pll (muxPll m)).locked) then s.raise .clk 0 1 0 (clkInfo m true 0) 0 0
  else s.setMux m { x with src := src, pending := true, old := x.src }

end Sys2Proof.Machine
end

