-- ==== Sys2Proof/Machine/Clocks.lean ====
section
/-! DEFINITION. The meanings of the clocks' events (R521 to R528; 15_power_thermal_and_clocks.md). -/

namespace Sys2Proof.Machine

/-- What a clock event may change: the clocks, and with a link that goes down or a stack that goes OFFLINE whatever hangs on it. -/
def touchClk : Touch := { touchColl with clk := true, time := true, prf := true, jnl := true }

/-- MONITOR_WINDOW (R522 to R524). -/
def execMonitorWindow (count : Nat) (s : State) : Host.Outcome State Fault Refusal :=
  s.answer touchClk (s.monitorWindow count).fencedTransfer.collSettle

/-- CLK_MON_FAIL (R526). -/
def execClkMonFail (s : State) : Host.Outcome State Fault Refusal :=
  s.answer { clk := true, regs := true, out := true, ref := true, hif := true, sb := true } s.monitorFails

/-- CLK_PLL_UNLOCK (R521). -/
def execClkPllUnlock (pll : Nat) (s : State) : Host.Outcome State Fault Refusal :=
  s.answer touchClk (s.pllUnlocks pll).fencedTransfer.collSettle.pumpAll

/-- PLL_RELOCK (R521). -/
def execPllRelock (pll : Nat) (s : State) : Host.Outcome State Fault Refusal := s.answer touchClk (s.pllRelocks pll)

/-- PLL_RELOCK_TIMEOUT (R521). -/
def execPllRelockTimeout (pll : Nat) (s : State) : Host.Outcome State Fault Refusal :=
  s.answer touchClk (s.relockLate pll).fencedTransfer.collSettle.pumpAll

/-- CLK_MUX_SWITCH_DONE (R527). -/
def execClkMuxSwitchDone (mux : Nat) (s : State) : Host.Outcome State Fault Refusal := s.answer { clk := true } (s.switchDone mux)

/-- CLKSW_STUCK (R528). -/
def execClkswStuck (mux : Nat) (s : State) : Host.Outcome State Fault Refusal :=
  s.answer { clk := true, regs := true, out := true, ref := true, hif := true, sb := true } (s.switchStuck mux)

end Sys2Proof.Machine
end

