-- ==== Sys2Proof/Machine/Ethernet.lean ====
section
/-! DEFINITION. The meanings of Ethernet frames and links, and of the Sifters' own events (R226 to R256, R275 to R294, R348 to R350). -/

namespace Sys2Proof.Machine

/-- ETH_FRAME_ARRIVAL (R226, R280, R287, R325). -/
def execEthFrameArrival (port : Nat) (data : List (BitVec 8)) (ended fcsOk : Bool) (upset index : Nat) (s : State) :
    Host.Outcome State Fault Refusal :=
  s.answer { touchFrames with time := true } (s.inDomain (switchMux (portDie port)) (fun s => s.ethArrive port data ended fcsOk upset index))

/-- ETH_FRAME_END (R288, R289). -/
def execEthFrameEnd (port : Nat) (data : List (BitVec 8)) (fcsOk : Bool) (upset : Nat) (s : State) : Host.Outcome State Fault Refusal :=
  s.answer touchFrames (s.inDomain (switchMux (portDie port)) (fun s => s.ethEnd port data fcsOk upset))

/-- ETHERNET_LINK_UP (R350). -/
def execEthernetLinkUp (port : Nat) (s : State) : Host.Outcome State Fault Refusal :=
  s.answer { ports := true } (s.inDomain (switchMux (portDie port)) (fun s => s.ethLinkUp port))

/-- ETHERNET_LINK_DOWN (R350). -/
def execEthernetLinkDown (port : Nat) (s : State) : Host.Outcome State Fault Refusal :=
  s.answer touchFrames (s.inDomain (switchMux (portDie port)) (fun s => s.ethLinkDown port))

/-- SIFTER_HANDOVER (R227, R228). -/
def execSifterHandover (index : Nat) (s : State) : Host.Outcome State Fault Refusal :=
  s.answer touchFrames (s.inDomain (switchMux (s.handoverDie index)) (fun s => s.handover index))

/-- SIFTER_RUN (R229). -/
def execSifterRun (sf upset : Nat) (s : State) : Host.Outcome State Fault Refusal :=
  s.answer touchFrames (s.inDomain (switchMux (sf / 8)) (fun s => s.sifterRunStep sf upset))

/-- WATERMARK_BROADCAST (R234). -/
def execWatermarkBroadcast (pd : Nat) (s : State) : Host.Outcome State Fault Refusal :=
  s.answer { sft := true } (s.inDomain (switchMux pd) (fun s => s.broadcastWatermark pd))

/-- SIFTER_HOLD_AGE_OUT (R256). -/
def execSifterHoldAgeOut (sf : Nat) (s : State) : Host.Outcome State Fault Refusal :=
  s.answer touchFrames (s.inDomain (switchMux (sf / 8)) (fun s => s.holdAgeOut sf))

end Sys2Proof.Machine
end

