-- ==== Sys2Proof/Machine/Journal.lean ====
section
/-! DEFINITION. The meanings of the journal's commands and events (R580 to R590; 17_reset_faults_and_scorebook.md). -/

namespace Sys2Proof.Machine

/-- What a journal command or event may change. -/
def touchJnl : Touch := { touchColl with host := true }

/-- JNL_APPEND (R581, R588). -/
def execJnlAppend (way : HostWay) (s : State) : Host.Outcome State Fault Refusal :=
  s.answer touchJnl (s.jnlAppendCmd way).collSettle.pumpAll

/-- JNL_CLOSE (R583, R588). -/
def execJnlClose (s : State) : Host.Outcome State Fault Refusal := s.answer { touchTake with jnl := true } s.jnlCloseCmd

/-- JNL_TRIM (R584, R588). -/
def execJnlTrim (s : State) : Host.Outcome State Fault Refusal := s.answer { touchTake with jnl := true } s.jnlTrimCmd

/-- JNL_SEND (R588). -/
def execJnlSend (s : State) : Host.Outcome State Fault Refusal :=
  s.answer touchJnl s.jnlSendCmd.fencedTransfer.collSettle.pumpAll

/-- JNL_RECV (R588). -/
def execJnlRecv (s : State) : Host.Outcome State Fault Refusal :=
  s.answer touchJnl s.jnlRecvCmd.fencedTransfer.collSettle.pumpAll

/-- JNL_EXPORT (R588). -/
def execJnlExport (way : HostWay) (s : State) : Host.Outcome State Fault Refusal := s.answer touchJnl (s.jnlExportCmd way)

/-- JNL_IMPORT (R588). -/
def execJnlImport (way : HostWay) (s : State) : Host.Outcome State Fault Refusal :=
  s.answer touchJnl (s.jnlImportCmd way).collSettle.pumpAll

/-- JNL_COMMIT_TICK (R582). -/
def execJnlCommitTick (s : State) : Host.Outcome State Fault Refusal := s.answer { jnl := true } s.commitTick

/-- JNL_MIRROR_RECEIVE (R585, R588). -/
def execJnlMirrorReceive (s : State) : Host.Outcome State Fault Refusal := s.answer touchJnl s.takeFwd.collSettle.pumpAll

/-- JNL_ACK_SEND (R586, R588). -/
def execJnlAckSend (s : State) : Host.Outcome State Fault Refusal := s.answer touchJnl s.sendAcks.collSettle.pumpAll

/-- JNL_ACK_RECEIVE (R586, R588). -/
def execJnlAckReceive (s : State) : Host.Outcome State Fault Refusal := s.answer touchJnl (s.takeAck s.rly.mgt.length)

/-- JOURNAL_UNMIRRORED (R586). -/
def execJournalUnmirrored (s : State) : Host.Outcome State Fault Refusal :=
  s.answer { ref := true, regs := true, out := true, hif := true, sb := true } (if s.unmirrored then s.jnlErr 7 0 0 s.buddy else s)

/-- JNL_TRANSFER_TIMEOUT (R589). -/
def execJnlTransferTimeout (s : State) : Host.Outcome State Fault Refusal :=
  s.answer touchJnl (match s.jnl.transfer with | some t => s.endTransfer t stJnlLost | none => s)

end Sys2Proof.Machine
end

