-- ==== Sys2Proof/Machine/Image.lean ====
section
/-! DEFINITION. Placement images: header, tables, program sections, weights, routes and counters, their checks and digests (R26 to R33,
R200, R201; 01_module_architecture.md, 06_prep_cores_and_synchronisation.md). -/

namespace Sys2Proof.Machine

/-- The header's fields (R26). -/
structure ImgHdr where
  /-- PLACEMENT_ID. -/
  id : Nat
  /-- DIE_MASK. -/
  dieMask : Nat
  /-- SHAPE_BLOCKS. -/
  sb : Nat
  /-- IMAGE_BYTES. -/
  bytes : Nat
  /-- PROG_TABLE. -/
  prog : Nat
  /-- WGT_TABLE. -/
  wgt : Nat
  /-- ROUTE_TABLE. -/
  route : Nat
  /-- CNT_TABLE. -/
  cnt : Nat

/-- The header read from its 256 bytes (R26). -/
def ImgHdr.ofBytes (h : List Byte) : ImgHdr :=
  { id := field h 8 8, dieMask := field h 0x10 4, sb := field h 0x14 1, bytes := field h 0x18 8, prog := field h 0x20 8,
    wgt := field h 0x28 8, route := field h 0x30 8, cnt := field h 0x38 8 }

/-- The header checks of step 1 of R36. -/
def headerChecks (h : List Byte) : Bool :=
  let d := ImgHdr.ofBytes h
  field h 0 4 == 0x434C5056 && field h 4 2 == 1 && field h 6 2 == 256 && d.id != 0 && (d.sb == 15 || d.sb == 16) &&
  allZero (slice h 0x15 3) && allZero (slice h 0x80 128) && decide (256 ≤ d.bytes) &&
  decide (d.prog ≤ d.bytes) && decide (d.wgt ≤ d.bytes) && decide (d.route ≤ d.bytes) && decide (d.cnt ≤ d.bytes)

/-- The used dies, ascending. -/
def ImgHdr.dies (d : ImgHdr) : List Nat := onesOf 32 d.dieMask

/-- The shape numbers placed, ascending (R29). -/
def ImgHdr.shapes (d : ImgHdr) : List Nat := d.dies.flatMap (fun x => (List.range d.sb).map (fun i => x * d.sb + i))

/-- Placed logical blocks. -/
def ImgHdr.count (d : ImgHdr) : Nat := d.shapes.length

/-- Two ranges have a byte in common. -/
def rangesMeet (x y : Nat × Nat) : Bool := decide (0 < x.2) && decide (0 < y.2) && decide (x.1 < y.1 + y.2) && decide (y.1 < x.1 + x.2)

/-- No two of the ranges have a byte in common. -/
def rangesApart : List (Nat × Nat) → Bool
  | [] => true
  | r :: rs => rs.all (fun x => !rangesMeet r x) && rangesApart rs

/-- No range of the first list meets one of the second. -/
def apartFrom (xs ys : List (Nat × Nat)) : Bool := xs.all (fun x => ys.all (fun y => !rangesMeet x y))

/-- COUNT of the weight table (R32). -/
def ImgHdr.wgtCount (d : ImgHdr) (img : List Byte) : Nat := field img d.wgt 8
/-- NDIE of the route section (R33). -/
def ImgHdr.ndie (d : ImgHdr) (img : List Byte) : Nat := field img d.route 4
/-- NPIN of the route section (R33). -/
def ImgHdr.npin (d : ImgHdr) (img : List Byte) : Nat := field img (d.route + 4) 4

/-- The tables' extents, the header first (R31). -/
def ImgHdr.tables (d : ImgHdr) (img : List Byte) : List (Nat × Nat) :=
  [(0, 256), (d.prog, d.count * 32), (d.wgt, 64 + 32 * d.wgtCount img), (d.route, 64 + 8 * d.ndie img + 16 * d.npin img),
   (d.cnt, d.count * 512)]

/-- A section lies in the image, apart from the header and the tables (R31). -/
def ImgHdr.sectionOk (d : ImgHdr) (img : List Byte) (off len : Nat) : Bool :=
  off % 64 == 0 && decide (off + len ≤ d.bytes) && apartFrom [(off, len)] (d.tables img)

/-! ### Program sections (R30) -/

/-- A length rounded up to 64 bytes. -/
def pad64 (n : Nat) : Nat := ceilDiv n 64 * 64

/-- The parts of a program section. -/
structure Section where
  /-- The section's bytes. -/
  raw : List Byte

/-- LW_BASE. -/
def Section.lwBase (x : Section) : Nat := field x.raw 0x28 4
/-- LW_BYTES. -/
def Section.lwBytes (x : Section) : Nat := field x.raw 0x2C 4
/-- IMEM_BYTES. -/
def Section.imem (x : Section) : Nat := field x.raw 0x30 4
/-- DMEM_BYTES. -/
def Section.dmem (x : Section) : Nat := field x.raw 0x34 4
/-- NZF. -/
def Section.nzf (x : Section) : Nat := field x.raw 0x38 4
/-- NINIT. -/
def Section.ninit (x : Section) : Nat := field x.raw 0x3C 4
/-- DMAQ. -/
def Section.dmaq (x : Section) : Nat := field x.raw 0x40 8
/-- AUDQ. -/
def Section.audq (x : Section) : Nat := field x.raw 0x48 8
/-- Where the instruction image begins. -/
def Section.imemAt (x : Section) : Nat := 0x80 + pad64 x.lwBytes
/-- Where the data image begins. -/
def Section.dmemAt (x : Section) : Nat := x.imemAt + pad64 x.imem
/-- Where the zero-fill records begin. -/
def Section.zfAt (x : Section) : Nat := x.dmemAt + pad64 x.dmem
/-- Where the store-initialisation records begin. -/
def Section.initAt (x : Section) : Nat := x.zfAt + pad64 (16 * x.nzf)

/-- A record's header: OFFSET, BYTES, and whether it obeys R30. -/
def recordAt (raw : List Byte) (a : Nat) : Nat × Nat × Bool :=
  let off := field raw a 4
  let n := field raw (a + 4) 4
  (off, n, off % 64 == 0 && n % 64 == 0 && decide (64 ≤ n) && allZero (slice raw (a + 8) 8))

/-- The zero-fill records. -/
def Section.zeroFills (x : Section) : List (Nat × Nat × Bool) := (List.range x.nzf).map (fun i => recordAt x.raw (x.zfAt + 16 * i))

/-- The store-initialisation records from a place on: OFFSET, BYTES, whether well formed, and where their bytes lie. -/
def initRecords (raw : List Byte) : Nat → Nat → List (Nat × Nat × Bool × Nat)
  | 0, _ => []
  | k + 1, a =>
    let (off, n, ok) := recordAt raw a
    (off, n, ok, a + 16) :: initRecords raw k (a + 16 + n)

/-- The store-initialisation records. -/
def Section.inits (x : Section) : List (Nat × Nat × Bool × Nat) := initRecords x.raw x.ninit x.initAt

/-- The section's total length (R30). -/
def Section.total (x : Section) : Nat := x.initAt + pad64 ((x.inits.map (fun r => 16 + r.2.1)).sum)

/-- The store ranges of the zero-fill and initialisation records. -/
def Section.recRanges (x : Section) : List (Nat × Nat) :=
  x.zeroFills.map (fun r => (r.1, r.2.1)) ++ x.inits.map (fun r => (r.1, r.2.1))

/-- The long-word region. -/
def Section.lwRange (x : Section) : Nat × Nat := (x.lwBase, x.lwBytes)

/-- The section header's own rules (R30, R31). -/
def Section.headOk (x : Section) : Bool :=
  field x.raw 0 4 == 0x53475250 && field x.raw 4 4 == 0 && allZero (slice x.raw 0x50 48) && x.lwBase % 64 == 0 &&
  x.lwBytes % 2 == 0 && decide (2 ≤ x.lwBytes ∧ x.lwBytes ≤ 2 ^ 25) && x.imem % 4 == 0 && decide (x.imem ≤ 65536) &&
  x.dmem % 8 == 0 && decide (x.dmem ≤ 262144) && decide (x.nzf ≤ 4096) && decide (x.ninit ≤ 4096)

/-- A ring word's range of slots of `size` bytes (R450, R478). -/
def ringRange (q size : Nat) : Nat × Nat := (bits q 14 0 * 4096, size * 2 ^ bits q 35 32)

/-- DMAQ or AUDQ obeys R31, beside the regions its ring may not meet. -/
def ringOk (q size : Nat) (regions : List (Nat × Nat)) : Bool :=
  q == 0 ||
  (bitOn q 19 && bits q 63 36 == 0 && bits q 18 15 == 0 && decide (4 ≤ bits q 35 32 ∧ bits q 35 32 ≤ 12) &&
   decide (bits q 31 26 ≤ 47) && decide (bits q 25 20 ≤ 47) && bits q 31 26 != bits q 25 20 &&
   (let r := ringRange q size; decide (r.1 + r.2 ≤ storeBytes) && apartFrom [r] regions))

/-- An entry of the weight table (R32). -/
structure Weight where
  /-- FIRST. -/
  first : Nat
  /-- LAST. -/
  last : Nat
  /-- STORE_OFF. -/
  store : Nat
  /-- SECTION. -/
  sec : Nat
  /-- BYTES. -/
  bytes : Nat
  /-- The reserved bytes are 0. -/
  clean : Bool

/-- The weight table's entries. -/
def ImgHdr.weights (d : ImgHdr) (img : List Byte) : List Weight :=
  (List.range (d.wgtCount img)).map (fun i =>
    let a := d.wgt + 64 + 32 * i
    { first := field img a 2, last := field img (a + 2) 2, store := field img (a + 4) 4, sec := field img (a + 8) 8,
      bytes := field img (a + 16) 8, clean := allZero (slice img (a + 24) 8) })

/-- A weight entry obeys R32. -/
def ImgHdr.weightOk (d : ImgHdr) (img : List Byte) (w : Weight) : Bool :=
  w.clean && decide (w.first ≤ w.last) && w.store % 64 == 0 && w.bytes % 64 == 0 && decide (64 ≤ w.bytes) &&
  decide (w.store + w.bytes ≤ storeBytes) && d.sectionOk img w.sec w.bytes &&
  d.shapes.any (fun n => decide (w.first ≤ n ∧ n ≤ w.last))

/-- The weight regions of a block by shape number. -/
def ImgHdr.weightsOf (d : ImgHdr) (img : List Byte) (shape : Nat) : List Weight :=
  (d.weights img).filter (fun w => decide (w.first ≤ shape ∧ shape ≤ w.last))

/-- A program table entry: its section's offset and length. -/
def ImgHdr.progEntry (d : ImgHdr) (img : List Byte) (i : Nat) : Nat × Nat :=
  (field img (d.prog + 32 * i + 8) 8, field img (d.prog + 32 * i + 16) 8)

/-- The program section of the block at a position. -/
def ImgHdr.sectionAt (d : ImgHdr) (img : List Byte) (i : Nat) : Section :=
  let e := d.progEntry img i
  { raw := slice img e.1 e.2 }

/-- A program table entry, its section and the regions of its block obey R31. -/
def ImgHdr.progOk (d : ImgHdr) (img : List Byte) (i shape : Nat) : Bool :=
  let a := d.prog + 32 * i
  let e := d.progEntry img i
  field img a 2 == shape && allZero (slice img (a + 2) 6) && allZero (slice img (a + 24) 8) && e.2 % 64 == 0 &&
  decide (0x80 ≤ e.2) && d.sectionOk img e.1 e.2 &&
  (let x := d.sectionAt img i
   let ws := (d.weightsOf img shape).map (fun w => (w.store, w.bytes))
   x.headOk && x.zeroFills.all (fun r => r.2.2) && x.inits.all (fun r => r.2.2.1) && x.total == e.2 &&
   (x.lwRange :: x.recRanges).all (fun r => decide (r.1 + r.2 ≤ storeBytes)) &&
   apartFrom [x.lwRange] (x.recRanges ++ ws) && rangesApart ws && apartFrom ws x.recRanges && rangesApart x.recRanges &&
   ringOk x.dmaq 32 (x.lwRange :: ws) && ringOk x.audq 64 (x.lwRange :: ws))

/-! ### Routes (R33) -/

/-- A die code of a pin record names a die. -/
def dieCode (n : Nat) : Bool := decide (n < 32) || decide (0x40 ≤ n ∧ n ≤ 0x43)

/-- Two dies are joined by a panel-fabric link (R16, 01_module_architecture.md, "Die fabric and panel fabric"). -/
def dieLinked (x y : Nat) : Bool :=
  let edge := fun (d p : Nat) => (p == 0x40 && d / 8 == 0) || (p == 0x42 && d / 8 == 3) || (p == 0x41 && d % 8 == 7) || (p == 0x43 && d % 8 == 0)
  if x < 32 ∧ y < 32 then
    (x / 8 == y / 8 && (x + 1 == y || y + 1 == x)) || (x % 8 == y % 8 && (x + 8 == y || y + 8 == x))
  else if x < 32 then edge x y
  else if y < 32 then edge y x
  else false

/-- Every die of a path is joined to the next. -/
def pathLinked : List Nat → Bool
  | x :: y :: rest => dieLinked x y && pathLinked (y :: rest)
  | _ => true

/-- A pin record, and whether it obeys R33 by itself. -/
def ImgHdr.pinAt (d : ImgHdr) (img : List Byte) (i : Nat) : Pin × Bool :=
  let a := d.route + 64 + 8 * d.ndie img + 16 * i
  let n := field img (a + 2) 1
  let via := (List.range n).map (fun j => field img (a + 4 + j) 1)
  let p : Pin := { src := field img a 1, dst := field img (a + 1) 1, via }
  let path := p.src :: via ++ [p.dst]
  (p, decide (n ≤ 11) && field img (a + 3) 1 == 0 && field img (a + 15) 1 == 0 && allZero (slice img (a + 4 + n) (11 - n)) &&
    path.all dieCode && decide path.Nodup && pathLinked path)

/-- The pinned flows. -/
def ImgHdr.pins (d : ImgHdr) (img : List Byte) : List Pin := (List.range (d.npin img)).map (fun i => (d.pinAt img i).1)

/-- An arbiter word of the route section. -/
def ImgHdr.arbWord (d : ImgHdr) (img : List Byte) (i : Nat) : Nat := field img (d.route + 64 + 8 * i) 8

/-- An arbiter word obeys R33. -/
def ImgHdr.arbOk (d : ImgHdr) (w : Nat) : Bool :=
  (List.range d.sb).all (fun k => bits w (4 * k + 3) (4 * k) != 0) && (d.sb != 15 || bits w 63 60 == 0)

/-- The route section obeys R33. -/
def ImgHdr.routeOk (d : ImgHdr) (img : List Byte) : Bool :=
  d.ndie img == d.dies.length && decide (d.npin img ≤ 1024) && allZero (slice img (d.route + 8) 56) &&
  (List.range (d.ndie img)).all (fun i => d.arbOk (d.arbWord img i)) &&
  (List.range (d.npin img)).all (fun i => (d.pinAt img i).2) &&
  decide ((d.pins img).map (fun p => (p.src, p.dst))).Nodup

/-- The checks of R31 at step 1 of R36. -/
def ImgHdr.imageOk (d : ImgHdr) (img : List Byte) : Bool :=
  decide (d.wgtCount img ≤ 65536) && decide (d.ndie img ≤ 32) && decide (d.npin img ≤ 1024) &&
  (d.tables img).all (fun r => decide (r.1 + r.2 ≤ d.bytes)) && rangesApart (d.tables img) &&
  allZero (slice img (d.wgt + 8) 56) && d.routeOk img && (d.weights img).all (d.weightOk img) &&
  (d.shapes.zipIdx).all (fun x => d.progOk img x.2 x.1)

/-! ### Counters (R200, R201) -/

/-- A counter entry's word. -/
def ImgHdr.cntWord (d : ImgHdr) (img : List Byte) (i c : Nat) : Nat := field img (d.cnt + 512 * i + 8 * c) 8

/-- A counter entry (R200). -/
def CntEntry.ofNat (w : Nat) : CntEntry :=
  { used := bitOn w 0, remote := bitOn w 1, hostOk := bitOn w 2, coll := bitOn w 3, first := bits w 22 14, last := bits w 31 23 }

/-- A counter entry obeys R201. -/
def ImgHdr.cntOk (d : ImgHdr) (w : Nat) : Bool :=
  let e := CntEntry.ofNat w
  bits w 63 32 == 0 && bits w 13 4 == 0 && (e.used || !(e.remote || e.hostOk || e.coll)) &&
  (!e.remote || (decide (e.first ≤ e.last) && (List.range (e.last + 1 - e.first)).all (fun k => d.shapes.contains (e.first + k))))

/-- A ring's counters are USED (R31). -/
def ImgHdr.ringUsed (d : ImgHdr) (img : List Byte) (i q : Nat) : Bool :=
  q == 0 || (bitOn (d.cntWord img i (bits q 31 26)) 0 && bitOn (d.cntWord img i (bits q 25 20)) 0)

/-- The checks of step 3 of R36 on the counter table and the rings (R31, R201). -/
def ImgHdr.countersOk (d : ImgHdr) (img : List Byte) : Bool :=
  (List.range d.count).all (fun i =>
    (List.range 48).all (fun c => d.cntOk (d.cntWord img i c)) && allZero (slice img (d.cnt + 512 * i + 386) 126) &&
    (let x := d.sectionAt img i; d.ringUsed img i x.dmaq && d.ringUsed img i x.audq))

/-! ### Digests (R27) -/

/-- The program digest. -/
def ImgHdr.progDigest (d : ImgHdr) (img : List Byte) : List Byte :=
  sha3 (slice img 0 0x40 ++ slice img 0x80 0x80 ++ slice img d.prog (32 * d.count) ++
    (List.range d.count).flatMap (fun i => (d.sectionAt img i).raw) ++
    slice img d.route (64 + 8 * d.ndie img + 16 * d.npin img) ++ slice img d.cnt (512 * d.count))

/-- The weight digest. -/
def ImgHdr.wgtDigest (d : ImgHdr) (img : List Byte) : List Byte :=
  sha3 (slice img d.wgt (64 + 32 * d.wgtCount img) ++ (d.weights img).flatMap (fun w => slice img w.sec w.bytes))

/-! ### The block a section makes (R30, R32, R60, R190, R434, R463) -/

/-- A ring as CFG configures it from DMAQ or AUDQ. -/
def Queue.ofNat (q : Nat) : Queue :=
  if q = 0 then {}
  else { en := true, slotsLog2 := bits q 35 32, done := bits q 31 26, post := bits q 25 20, base := bits q 14 0 }

/-- A placed block when its placement becomes LIVE. -/
def ImgHdr.blockFor (d : ImgHdr) (img : List Byte) (i shape : Nat) : Block :=
  let x := d.sectionAt img i
  let st0 : Mem := Mem.write [] x.lwBase (slice x.raw 0x80 x.lwBytes)
  let st1 := x.inits.foldl (fun (m : Mem) r => m.write r.1 (slice x.raw r.2.2.2 r.2.1)) st0
  let st2 := (d.weightsOf img shape).foldl (fun (m : Mem) w => m.write w.store (slice img w.sec w.bytes)) st1
  { store := st2
    imem := Mem.write [] 0 (slice x.raw x.imemAt x.imem)
    dmem := Mem.write [] 0 (slice x.raw x.dmemAt x.dmem)
    seed := slice x.raw 8 32
    lwBase := x.lwBase
    lwBytes := x.lwBytes
    cntCfg := (List.range 48).foldl (fun m c => Sparse.set {} m c (CntEntry.ofNat (d.cntWord img i c))) []
    hudMask := field img (d.cnt + 512 * i + 384) 2
    dma := Queue.ofNat x.dmaq
    aud := Queue.ofNat x.audq
    prep := { state := 1 } }

/-! ### Mapping (R40) -/

/-- The usable blocks of a die, ascending. -/
def State.usableOf (s : State) (d : Nat) : List Nat :=
  ((List.range blocksPerDie).map (fun b => blocksPerDie * d + b)).filter s.usable

/-- The placement's shape fits the grade and the usable blocks (R36 step 2). -/
def State.shapeFits (s : State) (d : ImgHdr) : Bool :=
  decide (d.sb ≤ s.exposed) && d.dies.all (fun x => decide (d.sb ≤ (s.usableOf x).length))

/-- The mapping: shape number and physical block (R40). -/
def State.mappingFor (s : State) (d : ImgHdr) : List (Nat × Nat) :=
  d.dies.flatMap (fun x => ((s.usableOf x).take d.sb).zipIdx.map (fun c => (x * d.sb + c.2, c.1)))

end Sys2Proof.Machine
end

