-- ==== Sys2Proof/Machine/ProoferOps.lean ====
section
/-! DEFINITION. The Proofer's readings, holds, windows and voltages, and the thermal trip (R502 to R517; 15_power_thermal_and_clocks.md).

The readings of 10 µs stand in one list: 8 d + i sensor i of compute die d, 256 + 4 p + i of port die p, 272 + 2 s + i of LB4 s, each in
quarter degrees above −100 °C; 304 + p the energy of block p in mJ, 848 + d that of die d; 880 the voltage at the 54 V entry in mV, 881 its
current in mA; 882 + d the voltage of die d's core rail in mV; 914 + p the power that port die p draws, in W, and 918 + s that LB4 s draws. -/

namespace Sys2Proof.Machine

/-- A reading. -/
def reading (r : List Nat) (i : Nat) : Nat := r.getD i 0

/-- The input power in W: voltage by current at the 54 V entry (R502). -/
def inputW (r : List Nat) : Nat := reading r 880 * reading r 881 / 1000000

/-- The reading lies within −40 °C to 150 °C (R517). -/
def sensorInRange (v : Nat) : Bool := decide (240 ≤ v) && decide (v ≤ 1000)

/-- A reading in quarter degrees, as 12 bits of two's complement. -/
def quarters (v : Nat) : Nat := (v + 4096 - 400) % 4096

/-- Readings in 1 s. -/
def frozenLimit : Nat := 100000

/-- Consecutive readings at which the sensor at index `k`, of a die that draws `w` watts, has not changed while that was more than 50 W (R517). -/
def State.frozenCount (s : State) (r : List Nat) (k w : Nat) : Nat :=
  if !s.prf.last.isEmpty && reading s.prf.last k == reading r k && decide (50 < w) then s.prf.frozen.num k + 1 else 0

/-- A sensor's reading and its count make it valid (R517). -/
def sensorValid (v count : Nat) : Bool := sensorInRange v && decide (count < frozenLimit)

/-- A sensor's fault (R517, R531). -/
def State.sensorFault (unit i v : Nat) (s : State) : State :=
  s.raise .prf 0 4 0 (unit * 2 ^ 56 + i * 2 ^ 52 + quarters v * 2 ^ 40) 0 0

/-- T_d rises above TJ_TARGET (R593): old and new readings in quarter degrees above −100 °C. -/
def State.excursion (item old new : Nat) (s : State) : State :=
  let t := 400 + 4 * s.prf.tjTarget
  if old ≤ t ∧ t < new then s.sbAdd item 1 else s

/-- The hottest of the readings chosen, or 0. -/
def hottest (r : List Nat) (idx : List Nat) : Nat := (idx.map (reading r)).foldl max 0

/-- The readings of one compute die (R502, R517). -/
def State.sampleDie (r : List Nat) (s : State) (d : Nat) : State :=
  let x := s.diePow d
  let cnt := (List.range 8).map (fun i => s.frozenCount r (8 * d + i) (100 * reading r (848 + d)))
  let ok := (List.range 8).filter (fun i => sensorValid (reading r (8 * d + i)) (cnt.getD i 0))
  let bad := (List.range 8).filter (fun i => !ok.contains i && bitOn x.sensorOk i)
  let s1 := bad.foldl (fun s i => s.sensorFault d i (reading r (8 * d + i))) s
  let hot := hottest r (ok.map (fun i => 8 * d + i))
  let s2 : State := { s1 with prf.frozen := (List.range 8).foldl (fun m i => m.setNum (8 * d + i) (cnt.getD i 0)) s1.prf.frozen }
  let old := ((x.temp + 400).toNat)
  let s3 := if ok.isEmpty then s2 else s2.excursion (0x10 + d) old hot
  { s3 with prf.dies := Sparse.set {} s3.prf.dies d { x with
      sensorOk := maskOf ok, tmax := if ok.isEmpty then x.tmax else quarters hot, accMj := x.accMj + reading r (848 + d) } }

/-- The readings of a port die or an LB4, which draws `w` watts: `n` sensors from index `k`, of unit code `unit`, counted at Scorebook item
`item` (R502, R517). -/
def State.sampleOther (r : List Nat) (k n w unit item : Nat) (s : State) : State :=
  let cnt (i : Nat) : Nat := s.frozenCount r (k + i) w
  let was (i : Nat) : Bool := s.prf.last.isEmpty || sensorValid (reading s.prf.last (k + i)) (s.prf.frozen.num (k + i))
  let now (i : Nat) : Bool := sensorValid (reading r (k + i)) (cnt i)
  let s1 := ((List.range n).filter (fun i => was i && !now i)).foldl (fun s i => s.sensorFault unit i (reading r (k + i))) s
  let s2 := s1.excursion item (hottest s.prf.last (((List.range n).filter was).map (k + ·))) (hottest r (((List.range n).filter now).map (k + ·)))
  { s2 with prf.frozen := (List.range n).foldl (fun m i => m.setNum (k + i) (cnt i)) s2.prf.frozen }

/-- The energy meters: what running work has used since the last reading (R502, R503). -/
def State.sampleMeters (r : List Nat) (s : State) : State :=
  let used := ((s.blocks.filter (fun c => c.2.run.isSome)).map (fun c => reading r (304 + c.1))).sum
  let uj := s.prf.energyUj + 10 * inputW r
  { s with
    blocks := s.blocks.map (fun c => (c.1, match c.2.run with
      | some x => { c.2 with run := some { x with energy := x.energy + reading r (304 + c.1) } }
      | none => c.2))
    prf.accRun := s.prf.accRun + used
    prf.accW := s.prf.accW + inputW r
    prf.accN := s.prf.accN + 1
    prf.energyUj := uj % 10 ^ 9
    prf.samples := s.prf.samples + 1
    sb.pend := s.sb.pend.addNum 6 (uj / 10 ^ 9) }

/-- Blocks of a die that run work of a class. -/
def State.blocksOfClass (s : State) (d cls : Nat) : List Nat :=
  (s.blocks.filter (fun c => dieOf c.1 == d && match c.2.run with | some r => r.req.cls == cls | none => false)).map Prod.fst

/-- Blocks to hold, in order, until their energy makes up what the die uses too much, in mJ times 4,000 (R510). -/
def holdUntil (r : List Nat) : List Nat → Nat → List Nat
  | [], _ => []
  | p :: ps, need => if need = 0 then [] else p :: holdUntil r ps (need - 4000 * reading r (304 + p))

/-- The blocks of a die held for the next 10 µs (R510): BULK first, then SERVE, then COLL. -/
def State.heldBlocks (s : State) (r : List Nat) (d : Nat) : List Nat :=
  let order := s.blocksOfClass d 3 ++ s.blocksOfClass d 2 ++ s.blocksOfClass d 1
  if s.headroom d < 0 then order
  else holdUntil r order (4000 * reading r (848 + d) - s.allowance40 d)

/-- The holds of a die set for the next 10 µs (R510, R512). -/
def State.holdDie (r : List Nat) (s : State) (d : Nat) : State :=
  let held := s.heldBlocks r d
  let x := s.diePow d
  let any := !held.isEmpty
  let t := (s.blocks.filter (fun c => dieOf c.1 == d)).foldl
    (fun s c => s.onBlock c.1 (fun b => { b with prooferHold := held.contains c.1 })) s
  { t with
    prf.dies := Sparse.set {} s.prf.dies d { x with heldNow := x.heldNow || any, accHeld := x.accHeld + b2n any } }

/-- PROOFER_SAMPLE (R502, R510, R517). -/
def State.prooferSampleNow (r : List Nat) (s : State) : State :=
  let s1 := (List.range 32).foldl (State.sampleDie r) s
  let s2 := (List.range 4).foldl (fun s p => s.sampleOther r (256 + 4 * p) 4 (reading r (914 + p)) (0x20 + p) (0x30 + p)) s1
  let s3 := (List.range 16).foldl (fun s k => s.sampleOther r (272 + 2 * k) 2 (reading r (918 + k)) (0x30 + k) (0x40 + k)) s2
  let s4 := (List.range 32).foldl (State.holdDie r) (s3.sampleMeters r)
  { s4 with prf.last := r }

/-! ### Windows (R505, R512, R532) -/

/-- A field of a Proofer register. -/
def State.prfFld (s : State) (off hi lo : Nat) : Nat := s.fld .prf 0 off hi lo

/-- PRF_CAP and PRF_THERM as written apply (R532). -/
def State.applyLimits (s : State) : State :=
  { s with prf := { s.prf with
      limitW := s.prfFld 0x100 15 0, inlineW := s.prfFld 0x100 31 16, floorW := s.prfFld 0x100 47 32
      tjTarget := s.prfFld 0x108 39 32, dieMaxW := s.prfFld 0x108 31 16, ageMs := s.prfFld 0x108 15 0 } }

/-- The measures of the window that ends (R502, R532, R533). -/
def State.closeWindow (s : State) : State :=
  let n := max 1 s.prf.accN
  let w := if s.prf.accN = 0 then s.prf.powerW else min 0xFFFF (s.prf.accW / n)
  let runW := s.prf.accRun * 100 / n
  { s with prf := { s.prf with
      windows := (s.prf.windows + 1) % 2 ^ 32
      powerW := w
      staticW := if s.prf.accN = 0 then s.prf.staticW else w - runW
      accW := 0, accN := 0, accRun := 0, holdAll := false } }

/-- A die's measures of the window and its voltage for the next (R512, R514, R515, R533). -/
def State.windowDie (n : Nat) (s : State) (d : Nat) : State :=
  let x := s.diePow d
  let wins := if x.heldNow then x.heldWins + 1 else 0
  let v :=
    if !s.prf.warm then 26
    else if s.prfFld (0x200 + 8 * d) 7 7 = 1 then s.prfFld (0x200 + 8 * d) 13 8
    else if 2 ≤ wins then x.vnow - 1
    else if 0 < s.prf.rem ∧ 40 ≤ s.headroom d then min 46 (x.vnow + 1)
    else x.vnow
  { s with prf.dies := Sparse.set {} s.prf.dies d { x with
      powerW := min 0xFFFF (x.accMj * 100 / n), held := min 255 (256 * x.accHeld / n)
      vnow := v, heldWins := wins, heldNow := false, accMj := 0, accHeld := 0 } }

/-- PROOFER_WINDOW (R505, R511, R512, R532). -/
def State.prooferWindowNow (s : State) : State :=
  let n := max 1 s.prf.accN
  (List.range 32).foldl (State.windowDie n) s.closeWindow.applyLimits.windowBudget

/-- PRF_OVERPOWER (R511): the power shown is the last reading where that is over the limit, otherwise a free value. -/
def State.overpower (s : State) : State :=
  let w := inputW s.prf.last
  let known := decide (11 * s.prf.limitW < 10 * w)
  let t := if known then s else s.useFree
  ({ t with prf.holdAll := true } : State).raise .prf 0 3 0 (0xFF * 2 ^ 56 + (if known then w else Config.free s.free) % 2 ^ 24) 0 0

/-- PROOFER_WARM (R515): after 200 ms of readings. -/
def State.warmUp (s : State) : State := if 20000 ≤ s.prf.samples then { s with prf.warm := true } else s

/-! ### Thermal trip (R516) -/

/-- 105 °C in quarter degrees. -/
def tripTemp : Nat := 420

/-- The trip of a die is raised and counted, and THERMTRIP_N asserted (R516). -/
def State.tripRaised (unit sensor : Nat) (s : State) : State :=
  ((({ s with ref.thermtripN := true } : State).sbAdd 7 1).raise .prf 0 5 0 (unit * 2 ^ 56 + sensor * 2 ^ 52 + tripTemp * 2 ^ 40) 0 0)

/-- The voltage of a die's core rail in mV: as last read, or as set where none has been read yet (R502). -/
def State.railMv (s : State) (d : Nat) : Nat :=
  if s.prf.last.isEmpty then 620 + 5 * (s.diePow d).vnow else reading s.prf.last (882 + d)

/-- A compute die's supply is switched off: the die is fenced with DIE_VDOM (R516, R574, R598). -/
def State.tripDie (d sensor : Nat) (s : State) : State :=
  let mv := s.railMv d
  let t : State := { s with place.dieOff := setBit s.place.dieOff d }
  (t.fenceDie d 3 (mv * 2 ^ 48 + 2 ^ 47) 0 0).tripRaised d sensor

end Sys2Proof.Machine
end

