-- ==== Sys2Proof/Machine/Placement.lean ====
section
/-! DEFINITION. Loading and retiring a placement: PLACE_LOAD and PLACE_RETIRE (R34 to R41, R456, R546, R625;
01_module_architecture.md). -/

namespace Sys2Proof.Machine

/-- PSTATE becomes EMPTY or FAILED, when STRICT takes the value of REQ (R456). -/
def State.settle (st : Nat) (s : State) : State := { s with place.pstate := st, place.strict := s.place.req }

/-- A load ends with a fault before it has mapped anything or after what it wrote is zeroed (R37). -/
def State.failLoad (e : WinEntry) (status : Nat) (s : State) : State := (s.settle psFailed).finishEntry e status 0

/-- What outlives a placement in a block: its run-time beat counter, which counts since full reset (R81). -/
def Block.bare (b : Block) : Block := { beats := b.beats }

/-- The blocks a load has touched are zeroed again, and the mapping is dropped (R37). -/
def State.unmap (s : State) : State :=
  { s with blocks := s.placed.foldl (fun bs c => Sparse.set {} bs c.2 (s.block c.2).bare) s.blocks, place.map := [], place.pins := [] }

/-- DIE_ARB_WEIGHT of every used die (R33, R51). -/
def State.writeArb (d : ImgHdr) (img : List Byte) (s : State) : State :=
  d.dies.zipIdx.foldl (fun s x =>
    let w := d.arbWord img x.2
    let v := if d.sb = 15 then (if s.hw.gradeB then setBits w 63 60 (bits (s.reg .die x.1 0x100) 63 60) else setBits w 63 60 1) else w
    s.setReg .die x.1 0x100 v) s

/-- Trace registers return to their reset values with a new placement (R103, R105). -/
def State.clearTraceRegs (s : State) : State :=
  (List.range (32 * s.exposed)).foldl (fun s l => (s.setReg .blk l 0x110 (regReset .blk l 0x110)).setReg .blk l 0x118 (regReset .blk l 0x118)) s

/-- Step 3 of R36: programs, weights, registers and counters of every placed block. -/
def State.writeBlocks (d : ImgHdr) (img : List Byte) (s : State) : State :=
  let m := s.mappingFor d
  { s with
    blocks := m.zipIdx.foldl (fun bs c => Sparse.set {} bs c.1.2 { d.blockFor img c.2 c.1.1 with beats := (s.block c.1.2).beats }) s.blocks
    hud := []
    place.map := m.foldl (fun t c => t.setNum c.1 (c.2 + 1)) []
    place.pins := d.pins img
    place.dieMask := d.dieMask
    place.shapeBlocks := d.sb }

/-- A fence that strikes during steps 3 to 5 of a load (R38): of block `n`, found by patrol scrub; from 544 on of a die, for its fabric; from
576 on of a die, for its core rail; from 608 on of a die, for the thermal trip of one of its eight sensors. -/
def State.fenceDuringLoad (n : Nat) (s : State) : State :=
  if n < blockCount then s.fenceFor n eStoreUe (s.block n).lastWord none 0 0
  else if n < 576 then s.linkRetriesFail (n - 544) none
  else if n < 608 then s.railFails (n - 576) none
  else s.tripDie ((n - 608) / 8) ((n - 608) % 8)

/-- The load's traffic is admitted as BULK (R36, R504). No charge is stated for it: it is a free value, and what it takes comes off the
remainder of the window in which it fits (log 123). -/
def State.admitLoad (s : State) : State :=
  let c := Config.free s.free
  { s with free := s.free + 1, prf.rem := if c ≤ s.prf.rem then s.prf.rem - c else s.prf.rem }

/-- Steps 2 to 6 of R36, once step 1 has passed. -/
def State.loadImage (e : WinEntry) (d : ImgHdr) (img : List Byte) (fences : List Nat) (s : State) : State :=
  if !s.shapeFits d then s.failLoad e 0x0246
  else if !d.countersOk img then s.failLoad e 0x0245
  else
    let t := fences.foldl (fun s n => s.fenceDuringLoad n) ((s.admitLoad.writeArb d img).writeBlocks d img)
    if t.placed.any (fun c => t.fencedBlock c.2) then
      ((({ t.unmap with place.progress := Config.free t.free % 101 } : State).useFree).failLoad e 0x0248)
    else
      let p := d.progDigest img
      let w := d.wgtDigest img
      let u : State := { t with place.progDig := p, place.wgtDig := w, place.progress := 100 }
      if p ≠ slice img 0x40 32 ∨ w ≠ slice img 0x60 32 then u.unmap.failLoad e 0x0247
      else ({ u.clearTraceRegs with place.pstate := psLive } : State).finishEntry e 0 0

/-- PLACE_LOAD's own format rules (R550). -/
def WinEntry.imageXOk (e : WinEntry) : Bool := xIsDev (e.op 0x10 8) && e.op 0x10 8 % 64 == 0 && e.zeros 0x18 0x40

/-- A load begins (R36, R625): PSTATE is LOADING. -/
def State.beginLoad (e : WinEntry) (s : State) : State :=
  { s with place.pstate := psLoading, place.loadTag := e.tag, place.id := 0, place.progress := 0, place.progDig := [], place.wgtDig := [] }

/-- A load that has begun: the image is read, checked, mapped, written and verified. A read of it that fails ends the load with the memory's
own STATUS (log 30). -/
def State.runLoad (fences : List Nat) (e : WinEntry) (s : State) : State :=
  let a := xAddr (e.op 0x10 8)
  match s.devRead (whoOf 0x42 0 0 e.tag) a 256 with
  | (0, h, s2) =>
    if !headerChecks h then s2.failLoad e 0x0245
    else
      let d := ImgHdr.ofBytes h
      let s3 : State := { s2 with place.id := d.id }
      match s3.devRead (whoOf 0x42 0 0 e.tag) a d.bytes with
      | (0, img, s4) => if !d.imageOk img then s4.failLoad e 0x0245 else s4.loadImage e d img fences
      | (st, _, s4) => s4.failLoad e st
  | (st, _, s2) => s2.failLoad e st

/-- The image of a load lies where its readers wait (R441, R521). -/
def State.imageBusy (s : State) (e : WinEntry) : Bool := s.devBusy (xAddr (e.op 0x10 8)) 256

/-- PLACE_LOAD (R35, R36, R544, R625): a load that waits for memory goes on, or the descriptor at the front is taken; outside EMPTY and FAILED it
is rejected. -/
def State.placeLoad (fences : List Nat) (s : State) : State :=
  match s.hif.parked.find? (fun e => e.opcode == 0x11) with
  | some e => if !s.serving || s.imageBusy e then s else (s.unpark e).runLoad fences e
  | none => s.takeFront (fun e => e.opcode == 0x11) WinEntry.imageXOk (fun e t =>
      if t.place.pstate ≠ psEmpty ∧ t.place.pstate ≠ psFailed then t.finishEntry e 0x0244 0
      else if t.imageBusy e then (t.beginLoad e).park e
      else (t.beginLoad e).runLoad fences e)

/-- Nothing the placement started is under way (R39): no command, no block DMA descriptor in flight anywhere, no audit descriptor in
flight in a block that still runs. -/
def State.placementIdle (s : State) : Bool :=
  s.blocks.all (fun c => c.2.dma.flight.isEmpty && (s.fencedBlock c.1 || (c.2.run.isNone && c.2.runq.isEmpty && c.2.aud.flight.isEmpty)))

/-- The end of a retire: stores, memories, counters and lines are zeroed and PSTATE is EMPTY (R39, R49, R81, R211, R621). -/
def State.emptyPlacement (s : State) : State :=
  ({ s with
    blocks := s.blocks.filterMap (fun c => if c.2.beats = 0 then none else some (c.1, c.2.bare))
    hud := []
    hif.inflight := []
    place.retireSeq := none
    place.id := 0, place.progDig := [], place.wgtDig := [], place.map := [], place.pins := []
    place.dieMask := 0, place.shapeBlocks := 0, place.progress := 0 } : State).settle psEmpty

/-- A retire under way ends once nothing is left under way (R39). -/
def State.finishRetire (s : State) : State :=
  match s.place.retireSeq with
  | none => s
  | some q =>
    if !s.placementIdle then s
    else match s.openCmd q with
      | none => s.emptyPlacement
      | some c => s.emptyPlacement.finishOpen c 0 0 0 0

/-- Commands still waiting on a counter when the placement starts to retire (R546). -/
def State.waitingSeqs (s : State) : List Nat :=
  s.hif.waits ++ (s.hif.opened.filter (fun c => c.opcode == 0x10 && !c.admitted && s.waitState c.wait == .notYet)).map (fun c => c.seq)

/-- A block of a placement that leaves LIVE: its prep core stops, and its counters are no longer ABANDONED and its arrivals are 0 (R190, R211,
R621). -/
def Block.leaveLive (b : Block) : Block :=
  { b with
    prep := { b.prep with state := if b.prep.state = 5 then 5 else 0 }
    arr := []
    cnts := b.cnts.filterMap (fun c => let k : Cnt := { c.2 with abandoned := none }; if k = {} then none else some (c.1, k)) }

/-- The placement starts to retire: waiting commands end, prep cores stop, the marks and the Huddle lines clear, and the learned table is
emptied (R39, R190, R211, R503, R546, R621). -/
def State.startRetire (e : WinEntry) (s : State) : State :=
  let t := s.waitingSeqs.foldl (fun s q => s.dropCmd q stNoPlacement) s
  { t with
    place.pstate := psRetiring, place.loadTag := e.tag, place.retireSeq := some e.seq
    prf.learned := []
    hif.opened := t.hif.opened ++ [e.toOpen]
    hud := []
    blocks := t.blocks.filterMap (fun c => let b := c.2.leaveLive; if b = {} then none else some (c.1, b)) }

/-- PLACE_RETIRE (R39, R544): ends the retire under way if it can end, or takes the command, which waits for a load or a retire before it. In
EMPTY it has no effect but its tag (log 31). -/
def State.placeRetire (s : State) : State :=
  if s.place.retireSeq.isSome && s.placementIdle then s.finishRetire
  else s.take (fun e => e.opcode == 0x12) (fun e => e.zeros 0x10 0x40) (fun s _ => s.place.retireSeq.isSome) (fun e s =>
    if s.place.pstate = psEmpty then ({ s with place.loadTag := e.tag } : State).finishEntry e 0 0
    else (s.startRetire e).finishRetire)

/-- PLACE_LOAD (R36). -/
def execPlaceLoad (fences : List Nat) (s : State) : Host.Outcome State Fault Refusal :=
  s.answer { hif := true, ref := true, regs := true, out := true, sb := true, mem := true, place := true, blocks := true, hud := true,
             free := true, fence := true, prf := true, dev := true } (s.placeLoad fences)

/-- PLACE_RETIRE (R39). -/
def execPlaceRetire (s : State) : Host.Outcome State Fault Refusal :=
  s.answer { hif := true, ref := true, regs := true, out := true, sb := true, place := true, blocks := true, hud := true, prf := true }
    s.placeRetire

end Sys2Proof.Machine
end

