-- ==== Sys2Proof/Machine/Rally.lean ====
section
/-! DEFINITION. The meanings of the Rally links' and fabric's events (R292, R348 to R380; 10_rally_fabric_and_routing.md). -/

namespace Sys2Proof.Machine

/-- What follows any event of the fabric: a transfer or a collective that lost its peer ends, and every port sends what it can (R380, R413,
R589). -/
def State.fabricSettled (s : State) : State := s.fencedTransfer.collSettle.pumpAll

/-- Each flit unacknowledged for 8 µs goes out again from the oldest (R355). -/
def State.replayDue (n : Nat) (s : State) : State :=
  let k := s.link n
  match k.retry with
  | [] => s
  | r :: _ => if k.st = lkDown ∨ k.st = lkRetraining then s else s.replay n r.fseq

/-- The lanes of a port have not retrained within 100 ms: the port goes down with RALLY_LINK_DOWN (R356). -/
def State.retrainLost (n : Nat) (s : State) : State :=
  if (s.link n).st ≠ lkRetraining then s
  else (s.fabErr 3 n (s.fld .port n 0x800 7 6) (s.fld .port n 0x800 5 2) 0 0).linkDown n

/-- The packet at the head of a port's lane takes its detour when NM_WAIT has passed without credit on any usable port (R370). -/
def State.starvedDetour (n lane : Nat) (s : State) : State :=
  let k := s.link n
  match Sparse.get [] k.txq lane with
  | [] => s
  | p :: rest =>
    match (if bitOn s.rlEpoch 15 && !p.esc then s.nextAxis p else none) with
    | none => s
    | some a =>
      let c := coordOf p.dst a
      let starved := (s.usablePorts (s.rte p.epoch a c)).all (fun q => decide ((s.link q).credits.num lane < creditCost p.len))
      match (if starved then s.detourPort p a c else none) with
      | none => s
      | some (d, q) =>
        let s1 := s.setLink n { k with txq := Sparse.set [] k.txq lane rest }
        State.takeDetour p a d q { s1 with pnt.outBytes := s1.pnt.outBytes.subNum n (s1.bufBytes p.bufs) }

/-- RESEQ_TIMEOUT (R292). -/
def execReseqTimeout (stream : Nat) (s : State) : Host.Outcome State Fault Refusal :=
  s.answer touchColl (s.inDomain (switchMux 0) (fun s => (s.skipGap stream).fabricSettled))

/-- FLIT_RECEIVE (R353 to R355). -/
def execFlitReceive (port : Nat) (flit : List (BitVec 8)) (codewords : Nat) (s : State) : Host.Outcome State Fault Refusal :=
  s.answer touchColl (s.inDomain (switchMux (portDie port)) (fun s => (s.flitIn port flit codewords).fabricSettled))

/-- REPLAY_TIMEOUT (R355, R356). -/
def execReplayTimeout (port : Nat) (s : State) : Host.Outcome State Fault Refusal :=
  s.answer touchColl (s.inDomain (switchMux (portDie port)) (fun s => (s.replayDue port).fabricSettled))

/-- RETRAIN_TIMEOUT (R356). -/
def execRetrainTimeout (port : Nat) (s : State) : Host.Outcome State Fault Refusal :=
  s.answer touchColl (s.inDomain (switchMux (portDie port)) (fun s => (s.retrainLost port).fabricSettled))

/-- RALLY_LANES_TRAINED (R356, R358). -/
def execRallyLanesTrained (port : Nat) (s : State) : Host.Outcome State Fault Refusal :=
  s.answer touchColl (s.inDomain (switchMux (portDie port)) (fun s => (s.lanesTrained port).fabricSettled))

/-- RALLY_IDENT_RECEIVE (R358, R367). -/
def execRallyIdentReceive (port sysId extents peer : Nat) (s : State) : Host.Outcome State Fault Refusal :=
  s.answer touchColl (s.inDomain (switchMux (portDie port)) (fun s => (s.identIn port sysId extents peer).fabricSettled))

/-- RALLY_CREDITS_RECEIVE (R358). -/
def execRallyCreditsReceive (port : Nat) (credits : List Nat) (s : State) : Host.Outcome State Fault Refusal :=
  s.answer touchColl (s.inDomain (switchMux (portDie port)) (fun s => (s.creditsIn port credits).fabricSettled))

/-- The oldest whole packet received on a port is taken (R368). -/
def State.takeArrived (n upset : Nat) (s : State) : State :=
  match s.rly.arrived.find? (fun a => a.1 == n) with
  | none => s
  | some a => ({ s with rly.arrived := s.rly.arrived.eraseP (fun b => b.1 == n) } : State).packetIn n upset a.2

/-- RALLY_PACKET_ARRIVAL (R368). -/
def execRallyPacketArrival (port upset : Nat) (s : State) : Host.Outcome State Fault Refusal :=
  s.answer touchColl (s.inDomain (switchMux (portDie port)) (fun s => (s.takeArrived port upset).fabricSettled))

/-- DETOUR_TIMEOUT (R370). -/
def execDetourTimeout (port lane : Nat) (s : State) : Host.Outcome State Fault Refusal :=
  s.answer touchColl (s.inDomain (switchMux (portDie port)) (fun s => (s.starvedDetour port lane).fabricSettled))

end Sys2Proof.Machine
end

