-- ==== Sys2Proof/Machine/RegFields.lean ====
section
/-! DEFINITION. The fields of the registers: what a write may put into each (R12 to R14), the encodings each reserves (every chapter's
register tables), and the error a page records for a write. -/

namespace Sys2Proof.Machine

/-- The physical block shown on a logical block page. -/
def State.shown (s : State) (l : Nat) : Option Nat := if s.live then s.blockOfPage l else none

/-! ### Errors of a register write -/

/-- ERR_INFO0 for a register error of a page: the BAR offset on the host interface's page (R562), otherwise the code of the unit itself where
the page has one (R268, R316, R531). -/
def regInfo (p : Page) (i off : Nat) : Nat :=
  match p with
  | .hif => p.at i + off
  | .pnt => 0xFF * 2 ^ 56
  | .prf => 0xFF * 2 ^ 56
  | .sft => 0xFFFF * 2 ^ 48
  | _ => 0

/-- REG_WRITE or CFG_REFUSED sets in a page. -/
def State.regErr (p : Page) (i b off : Nat) (s : State) : State :=
  s.raise p i b 0 (regInfo p i off) 0 (match p with | .blk => (match s.shown i with | some q => pblkOf q | none => 0) | _ => 0)

/-! ### Fields (R12 to R14, R561) -/

/-- The bits of a register that a write covers. -/
def writeMask (off size : Nat) : Nat := if size = 8 then 2 ^ 64 - 1 else if off % 8 = 4 then (2 ^ 32 - 1) * 2 ^ 32 else 2 ^ 32 - 1

/-- The data of a write in its place. -/
def writeData (off size data : Nat) : Nat := if size = 8 then data % 2 ^ 64 else if off % 8 = 4 then data % 2 ^ 32 * 2 ^ 32 else data % 2 ^ 32

/-- A value with the covered bits replaced. -/
def mergeBits (old d m : Nat) : Nat := old ^^^ ((old ^^^ d) &&& m)

/-- The indices of Scorebook items (R593). -/
def sbItem (i : Nat) : Bool :=
  decide (i ≤ 9) || decide (0x10 ≤ i ∧ i ≤ 0x33) || decide (0x40 ≤ i ∧ i ≤ 0x4F) || decide (0x100 ≤ i ∧ i ≤ 0x143) ||
  decide (0x150 ≤ i ∧ i ≤ 0x17F) || decide (0x200 ≤ i ∧ i ≤ 0x37F) || decide (0x1000 ≤ i ∧ i < 0x1000 + 0x20 * 0x50) ||
  decide (0x4000 ≤ i ∧ i < 0x4000 + 0x10 * 213) || decide (0x8000 ≤ i ∧ i ≤ 0x81FF)

/-- A value of an axis order is no permutation of X, Y and Z (R383). -/
def orderBad (v : Nat) : Bool :=
  let a := bits v 5 4
  let b := bits v 3 2
  let c := bits v 1 0
  !(decide (a < 3) && decide (b < 3) && decide (c < 3) && a != b && b != c && a != c)

/-- Reserved encodings of the fabric's page (R376, R383, R384): field at bit `lo` with value `x` in register value `v`. -/
def State.reservedFab (s : State) (off lo x v : Nat) : Bool :=
  if off = 0x100 then lo == 0 && (List.range 3).any (fun a => decide (bits v (4 * a + 19) (4 * a + 16) < bits v (4 * a + 3) (4 * a)))
  else if off = 0x110 then (List.range 16).any (fun g => bits v (2 * g + 1) (2 * g) == 3)
  else if off = 0x118 then (lo == 16 && x == 0) || ((lo == 9 || lo == 3) && orderBad x)
  else if off = 0x128 then (List.range 7).any (fun l => decide (bits v (7 * l + 6) (7 * l) < 4))
  else if 0x400 ≤ off then
    let k := (off - 0x400) / 8
    lo == 28 && (x == k % 16 || x == coordOf s.module (k / 16 % 3))
  else false

/-- Reserved encodings of a port's page (R324, R344 to R346, R385). -/
def reservedPort (n off lo x v : Nat) : Bool :=
  if off = 0x400 then lo == 1 && decide (2 ≤ x)
  else if off = 0x410 then (List.range 4).any (fun w => decide (18 < bits v (14 * w + 13) (14 * w + 9)))
  else if off = 0x508 then x == 0
  else if off = 0x510 then decide (x < 100) || decide (100000 < x)
  else if 0x540 ≤ off ∧ off < 0x580 then (lo == 26 && decide (800000000 < x)) || (lo == 0 && decide (x < 9236))
  else if off = 0x580 then lo == 8 && (x == 0 || decide (64 < x))
  else if off = 0x590 then x == 0
  else if 0x600 ≤ off ∧ off < 0x800 then lo == 0 && x == 0
  else if off = 0x800 then lo == 6 && x == 3
  else if off = 0x810 then lo == 3 && x == 3 && n % 2 == 1
  else false

/-- Reserved encodings of the Pantry's page (R318 to R320). -/
def reservedPnt (off lo x v : Nat) : Bool :=
  if off = 0x100 then lo == 9 && decide (64 < x)
  else if off = 0x138 then (lo == 0 && x == 0) || (lo != 0 && decide (bits v 41 29 < bits v 28 16))
  else if off = 0x140 then lo == 16 && x == 0
  else if 0x200 ≤ off ∧ off < 0x280 then lo == 16 && x != 0 && decide (0x240 ≤ off)
  else if 0x300 ≤ off ∧ off < 0x500 then decide (bits v 41 21 < bits v 20 0) || decide (bits v 62 42 < bits v 41 21)
  else false

/-- Reserved encodings of the Sifter's page (R270, R273, R274). -/
def reservedSft (off lo x v : Nat) : Bool :=
  if 0x100 ≤ off ∧ off < 0x120 then (lo == 10 && decide (2 ≤ x)) || (lo == 0 && (x == 0 || decide (64 < x)))
  else if off = 0x208 ∨ off = 0x228 then lo == 4 && (decide (x < 4) || decide (20 < x))
  else if off = 0x218 ∨ off = 0x238 then lo == 0 && decide (48 ≤ x)
  else if 0x300 ≤ off ∧ off < 0x380 then decide (8192 < bits v 12 0 + bits v 29 16)
  else false

/-- Reserved encodings of the Proofer's page (R532, R533). -/
def reservedPrf (off lo x v : Nat) : Bool :=
  if off = 0x100 then
    decide (bits v 15 0 < 3000) || decide (15000 < bits v 15 0) || decide (bits v 15 0 < bits v 31 16 + bits v 47 32 + 1200)
  else if off = 0x108 then
    (lo == 32 && (decide (x < 70) || decide (100 < x))) || (lo == 16 && (decide (x < 100) || decide (450 < x))) || (lo == 0 && x == 0)
  else lo == 8 && decide (47 ≤ x)

/-- Reserved encodings of the host interface's page (R540, R563). -/
def State.reservedHif (s : State) (off lo x : Nat) : Bool :=
  if off = 0x108 then x % 2 ^ s.ref.bar2Log2 != 0
  else if 0x400 ≤ off ∧ off % 0x20 = 8 then (lo == 32 && decide (x < 2)) || (lo == 7 && (decide (x < 6) || decide (20 < x)))
  else false

/-- Reserved encodings of the Referee's page (R347, R597). -/
def State.reservedRef (s : State) (off lo x : Nat) : Bool :=
  if off = 0x410 then lo == 0 && s.portMode x != 1
  else if off = 0x500 then (lo == 48 && x == 0) || (lo == 0 && x == 3)
  else if off = 0x508 ∨ off = 0x510 then lo == 0 && (x == 0 || decide (128 < x))
  else false

/-- A field would hold a reserved encoding (R14): `x` is its value after the write and `v` the register's. -/
def State.reserved (s : State) (p : Page) (i off : Nat) (f : RField) (x v : Nat) : Bool :=
  if off = 0x30 then x == 3 || decide (x < bits (sevReset p) f.hi f.lo)
  else if off < 0x100 then false
  else match p with
  | .ref => s.reservedRef off f.lo x
  | .prf => reservedPrf off f.lo x v
  | .sec => (off == 0x408 || off == 0x420) && f.lo == 4 && (decide (x < 4) || decide (16 < x))
  | .sb => off == 0x108 && !sbItem x
  | .hif => s.reservedHif off f.lo x
  | .die => x == 0
  | .port => reservedPort i off f.lo x v
  | .sft => reservedSft off f.lo x v
  | .coll => off == 0x100 && (x == 0 || (f.lo == 32 && decide (64 < x)))
  | .pnt => reservedPnt off f.lo x v
  | .sw =>
    if off = 0x180 then x == 0 || (f.lo == 0 && decide (256 < x))
    else (f.lo == 0 && x == 0xFF) || ((f.lo == 17 || f.lo == 31) && decide (23 < bits v 21 17 + bits v 35 31 + bit v 36))
  | .stk => off == 0x108 && f.lo == 0 && x == 0
  | .mctl => off == 0x108 && x == 0
  | .fab => s.reservedFab off f.lo x v
  | _ => false

/-- A field that this part does not have (R51, R418). -/
def State.noField (s : State) (p : Page) (i off : Nat) (f : RField) : Bool :=
  match p with
  | .die => s.hw.gradeB && off == 0x100 && f.hi == 63
  | .coll => i != 0 && (off == 0x100 || off == 0x108)
  | _ => false

/-- The value the programmed bits `old` of a register take from a write, and whether a field was given a reserved encoding (R12, R14). RW fields
take the value, RW1C bits clear; other fields stay. -/
def State.fieldsOver (s : State) (p : Page) (i off old d m : Nat) (fs : List RField) : Nat × Bool :=
  let v := mergeBits old d m
  fs.foldl (fun (r : Nat × Bool) f =>
    if bits m f.hi f.lo = 0 || s.noField p i off f then r
    else match f.acc with
    | .rw =>
      let x := bits v f.hi f.lo
      if s.reserved p i off f x v then (r.1, true) else (setBits r.1 f.hi f.lo x, r.2)
    | .w1c =>
      let was := bits r.1 f.hi f.lo
      (setBits r.1 f.hi f.lo (was - (was &&& bits (d &&& m) f.hi f.lo)), r.2)
    | _ => r) (old, false)

end Sys2Proof.Machine
end

