-- ==== Sys2Proof/Machine/SecOps.lean ====
section
/-! DEFINITION. The security engine: firmware images, slots and updates, attestation, the TRNG, SPDM and IDE (R480 to R501;
14_security_and_attestation.md). -/

namespace Sys2Proof.Machine

/-! ### Firmware images (R481 to R484) -/

/-- The largest payload (R482). -/
def maxPayload : Nat := 64 * 2 ^ 20 - 4096

/-- The header's format: check 1 of R484. -/
def fwHeaderOk (h : List Byte) : Bool :=
  h.length == 4096 && field h 0 4 == 0x57464C56 && field h 4 2 == 1 && field h 6 2 == 4096 && decide (field h 0x11 1 < 4) &&
  allZero (slice h 0x12 6) && decide (1 ≤ field h 0x18 8) && decide (field h 0x18 8 ≤ maxPayload) && allZero (slice h 0x20 32) &&
  allZero (slice h 0xDAD 595)

/-- SVN of an image. -/
def FwImage.svn (f : FwImage) : Nat := field f.hdr 0x10 1
/-- IMAGE_DIGEST as the header gives it. -/
def FwImage.digest (f : FwImage) : List Byte := slice f.hdr 0x40 64

/-- KEYS of an image: the index of the Ed25519 key and that of the ML-DSA-65 key. -/
def FwImage.keys (f : FwImage) : Nat × Nat := (bit (field f.hdr 0x11 1) 0, bit (field f.hdr 0x11 1) 1)

/-- An image of a run of bytes, whose payload is as long as its header says (R482). -/
def FwImage.ofBytes (bs : List Byte) : FwImage :=
  let h := bs.take 4096
  { hdr := h, payload := (bs.drop 4096).take (field h 0x18 8) }

/-- The first check of R484 that an image fails, by its order, or 0. The signatures are over header bytes 0x000 to 0x07F (R482), and the keys
that verify them are those of the boot ROM that KEYS names (R481). -/
def State.fwCheck (s : State) (f : FwImage) : Nat :=
  let signed := slice f.hdr 0 0x80
  if !fwHeaderOk f.hdr || f.payload.length != field f.hdr 0x18 8 then 1
  else if f.svn < s.otp then 2
  else if bitOn s.hw.revokedEd f.keys.1 || bitOn s.hw.revokedMl f.keys.2 then 3
  else if sha512 (slice f.hdr 0 64 ++ f.payload) != f.digest then 4
  else if !edVerify (s.hw.romEd.getD f.keys.1 []) signed (slice f.hdr 0x80 64) then 5
  else if !mlVerify (s.hw.romMl.getD f.keys.2 []) signed (slice f.hdr 0xC0 3309) then 6
  else 0

/-- The error bit of a failing check (R484, R500). -/
def fwErrBit (check : Nat) : Nat := if check = 1 then 2 else if check = 2 then 5 else if check = 4 then 3 else 4

/-- Slot A or B. -/
def State.fwSlot (s : State) (n : Nat) : FwImage := if n = 0 then s.sec.slotA else s.sec.slotB
/-- A slot with a new image. -/
def State.setFwSlot (n : Nat) (f : FwImage) (s : State) : State :=
  if n = 0 then { s with sec.slotA := f } else { s with sec.slotB := f }

/-- The CRC-32C of a copy of the selector, over its sequence number, ACTIVE, and TRIAL, which is 0xFF for none (log 10). -/
def SelCopy.sum (c : SelCopy) : Nat :=
  crc32c (leBytes 4 c.seq ++ leBytes 1 c.active ++ leBytes 1 (match c.trial with | some t => t | none => 0xFF))

/-- Its CRC is correct. -/
def SelCopy.ok (c : SelCopy) : Bool := c.crc == c.sum

/-- The copy that the boot ROM uses: the one of the higher sequence number whose CRC is correct (R485). -/
def pickCopy (cs : List SelCopy) : Option SelCopy :=
  (cs.filter SelCopy.ok).foldl (fun best c => match best with
    | some b => if b.seq < c.seq then some c else best
    | none => some c) none

/-- The selector read at boot (R480, R485). Where neither copy is good the spec names no slot: ACTIVE is a free value. -/
def State.readSelector (s : State) : State :=
  match pickCopy s.sec.copies with
  | some c => { s with sec := { s.sec with active := c.active, trial := c.trial, selSeq := c.seq } }
  | none => { s with free := s.free + 1, sec := { s.sec with active := Config.free s.free % 2, trial := none, selSeq := 0 } }

/-- A copy of the selector written over the one that is not in force (R485); a torn write leaves it with a CRC that is not its own. -/
def State.writeCopy (torn : Bool) (c : SelCopy) (s : State) : State :=
  let i := match pickCopy s.sec.copies with
    | some b => if s.sec.copies[0]? = some b then 1 else 0
    | none => 0
  { s with sec.copies := s.sec.copies.set i { c with crc := if torn then notw 32 c.sum else c.sum } }

/-- The selector written with new values (R485). -/
def State.writeSelector (active : Nat) (trial : Option Nat) (s : State) : State :=
  let q := (s.sec.selSeq + 1) % 2 ^ 32
  let t := s.writeCopy false { seq := q, active := active, trial := trial }
  { t with sec := { t.sec with active := active, trial := trial, selSeq := q } }

/-- STATUS of a security page error bit. -/
def secStatus (b : Nat) : Nat := statusOf .sec b
/-- STATUS SEC_BUSY. -/
def stSecBusy : Nat := 0x0540

/-- An update ends with the fault code of a check (R484, R486). -/
def State.failUpdate (e : WinEntry) (check : Nat) (s : State) : State :=
  (s.raise .sec 0 (fwErrBit check) e.tag check 0 0).finishEntry e (secStatus (fwErrBit check)) 0

/-- An update under way that a reset will end: it completes nothing, and no other is accepted meanwhile (R486, R487). -/
def State.holdUpdate (e : WinEntry) (s : State) : State :=
  { s with sec.updating := true, hif.opened := s.hif.opened ++ [e.toOpen] }

/-- Steps 2 to 5 of an update whose image has passed (R486, R487): the slot that is not ACTIVE is written, read back and checked again, and the
selector's TRIAL names it. -/
def State.writeUpdate (way : FlashWay) (e : WinEntry) (f : FwImage) (s : State) : State :=
  let n := 1 - s.sec.active
  match way with
  | .written => ((s.setFwSlot n f).writeSelector s.sec.active (some n)).finishEntry e 0 0
  | .worn bs =>
    let g := FwImage.ofBytes bs
    let t := s.setFwSlot n g
    if t.fwCheck g = 0 then (t.writeSelector t.sec.active (some n)).finishEntry e 0 0 else t.failUpdate e (t.fwCheck g)
  | .cut bs => (s.setFwSlot n (FwImage.ofBytes bs)).holdUpdate e
  | .torn => ((s.setFwSlot n f).writeCopy true { seq := (s.sec.selSeq + 1) % 2 ^ 32, active := s.sec.active, trial := some n }).holdUpdate e

/-- FW_UPDATE (R486): the image is read, checked and written into the slot that is not ACTIVE, and the selector's TRIAL names it. -/
def State.fwUpdateCmd (way : FlashWay) : State → State :=
  State.take (fun e => e.opcode == 0x60) (fun e => xIsDev (e.op 0x10 8) && e.zeros 0x18 0x40)
    (fun s e => s.devBusy (xAddr (e.op 0x10 8)) 4096) (fun e s =>
    let a := xAddr (e.op 0x10 8)
    if s.sec.inTrial || s.sec.updating then s.finishEntry e stSecBusy 0
    else
      match s.devRead (whoOf 0x10 0 0 e.tag) a 4096 with
      | (0, h, t) =>
        if !fwHeaderOk h then t.failUpdate e 1
        else
          match t.devRead (whoOf 0x10 0 0 e.tag) (a + 4096) (field h 0x18 8) with
          | (0, p, u) =>
            let f : FwImage := { hdr := h, payload := p }
            if u.fwCheck f ≠ 0 then u.failUpdate e (u.fwCheck f) else u.writeUpdate way e f
          | (st, _, u) => u.finishEntry e st 0
      | (st, _, t) => t.finishEntry e st 0)

/-! ### Boot (R480, R489, R490, R493) -/

/-- The boot ROM chooses and verifies a slot (R489): the slots it tries in order. A trial is written off before it is tried. -/
def State.bootOrder (s : State) : List Nat :=
  match s.sec.trial with
  | some t => if t = s.sec.active then [t, 1 - t] else [t, s.sec.active]
  | none => [s.sec.active, 1 - s.sec.active]

/-- The checks that the slots tried fail: slot B's in bits 7:4, slot A's in bits 3:0 (R500). -/
def failInfo (rs : List (Nat × Nat)) : Nat := rs.foldl (fun m r => m + r.2 * 16 ^ r.1) 0

/-- The boot ROM's steps (R480): it reads the selector, tries slots, records what fails, runs the first that verifies, or enters RECOVERY
(R490). The OTP self-check of step 1 finds nothing, as the spec gives it no other outcome (log 86). -/
def State.bootRom (s0 : State) : State :=
  let s := s0.readSelector
  let s1 := match s.sec.trial with | some _ => s.writeSelector s.sec.active none | none => s
  match s.bootOrder with
  | a :: b :: _ =>
    let ka := s1.fwCheck (s1.fwSlot a)
    let kb := s1.fwCheck (s1.fwSlot b)
    let tried := if ka = 0 then [] else if kb = 0 then [(a, ka)] else [(a, ka), (b, kb)]
    let s2 := tried.foldl (fun s r => s.raise .sec 0 (fwErrBit r.2) 0 (failInfo tried) 0 0) s1
    if ka ≠ 0 ∧ kb ≠ 0 then { s2 with sec := { s2.sec with recovery := true } }
    else
      let r := if ka = 0 then a else b
      let alt := 1 - r
      { s2 with sec := { s2.sec with
          running := r
          svn := (s2.fwSlot r).svn
          fwDigest := (s2.fwSlot r).digest
          fwAlt := if s2.fwCheck (s2.fwSlot alt) = 0 then (s2.fwSlot alt).digest else []
          inTrial := s.sec.trial == some r } }
  | _ => s1

/-- Fresh seal key pairs (R493). Number 0 is the identity key pair's. -/
def State.newSealKeys (s : State) : State :=
  { s with sec := { s.sec with keysMade := s.sec.keysMade + 1, sealKey := s.sec.keysMade + 1 } }

/-- At READY a trial boot becomes ACTIVE (R489). -/
def State.confirmTrial (s : State) : State :=
  if s.sec.inTrial then
    let t := s.writeSelector s.sec.running none
    { t with sec.inTrial := false }
  else s

/-- SEC_CTRL.COMMIT (R488): refused in TRIAL; without effect while the running slot is not ACTIVE. -/
def State.commitSvn (s : State) : State :=
  if s.sec.inTrial then s.raise0 .sec 0 1
  else if s.sec.running ≠ s.sec.active then s
  else { s with otp := max s.otp (min 127 s.sec.svn) }

/-! ### Recovery over the management interface (R490, R577) -/

/-- RECOVERY_DATA: a 4-byte image offset and 1 to 240 bytes; outside RECOVERY it is dropped. -/
def State.recoveryBytes (data : List Byte) (s : State) : State :=
  let off := field data 0 4
  let bs := data.drop 4
  if !s.sec.recovery || bs.isEmpty || decide (240 < bs.length) || decide (64 * 2 ^ 20 < off + bs.length) then s
  else { s with sec.recBuf := s.sec.recBuf.write off bs }

/-- RECOVERY_DONE: the image in the buffer is checked and goes into slot A, with ACTIVE = A (R490). -/
def State.recoveryInstall (len : Nat) (s : State) : State :=
  if !s.sec.recovery then s
  else
    let f : FwImage := { hdr := s.sec.recBuf.read 0 4096, payload := s.sec.recBuf.read 4096 (min maxPayload (len - 4096)) }
    let k := s.fwCheck f
    if k ≠ 0 then s.raise .sec 0 (fwErrBit k) 0 k 0 0
    else (s.setFwSlot 0 f).writeSelector 0 none

/-! ### Attestation and the TRNG (R494, R495, R498) -/

/-- Sixty-four bytes of a digest, where the empty list stands for zeros. -/
def dig64 (d : List Byte) : List Byte := slice (d ++ List.replicate 64 0) 0 64

/-- Report bytes 0x008 to 0x00F (R494, R496). -/
def State.reportHead (s : State) : List Byte :=
  leBytes 4 s.boots ++ leBytes 1 s.sec.running ++ leBytes 1 s.sec.svn ++ leBytes 1 s.otp ++ leBytes 1 s.gradeCode

/-- The attestation report but for its signatures (R494): one snapshot of the state (R495). -/
def State.reportBody (nonce : List Byte) (s : State) : List Byte :=
  let live (d : List Byte) : List Byte := if s.live then dig32 d else List.replicate 32 0
  leBytes 4 0x54544156 ++ leBytes 2 1 ++ leBytes 2 (b2n s.strict + 2 * b2n s.sec.inTrial + 4 * b2n s.clk.coast) ++ s.reportHead ++
  leBytes 8 (if s.live then s.place.id else 0) ++ leBytes 1 s.place.pstate ++ List.replicate 7 0 ++ slice nonce 0 32 ++ dig64 s.sec.fwDigest ++
  dig64 s.sec.fwAlt ++ live s.place.progDig ++ live s.place.wgtDig ++ s.edSealPk ++ s.mlSealPk ++ leBytes 8 (s.reg .fab 0 0x108) ++
  leBytes 2 s.module ++ List.replicate 6 0 ++ leBytes 16 s.hw.serial

/-- STATUS SEC_TRNG_FAIL. -/
def stTrngFail : Nat := 0x0506

/-- ATTEST (R494, R495). -/
def State.attestCmd (way : HostWay) : State → State :=
  State.take (fun e => e.opcode == 0x61) (fun e => xFits (e.op 0x30 8) 8192 && e.zeros 0x38 0x40)
    (fun s e => s.hostWaits (hostLen (e.op 0x30 8) 8192) || s.xBusy (e.op 0x30 8) 8192) (fun e s =>
    let x := e.op 0x30 8
    if !s.sec.trngOk then s.finishEntry e stTrngFail 0
    else s.viaHost way e (hostLen x 8192) (xAddr x) (fun s =>
      let body := s.reportBody (slice e.bytes 0x10 32)
      let (sig, t) := s.signPair 0 body
      let (st, u) := t.xWrite e.tag x (body ++ sig ++ List.replicate 2547 0)
      u.finishEntry e st 0))

/-- GET_RANDOM (R498): the bytes are free values. -/
def State.getRandomCmd (way : HostWay) : State → State :=
  State.take (fun e => e.opcode == 0x62)
    (fun e => decide (1 ≤ e.op 0x10 2) && decide (e.op 0x10 2 ≤ 4096) && e.zeros 0x12 0x18 && xFits (e.op 0x18 8) (e.op 0x10 2) &&
      e.zeros 0x20 0x40)
    (fun s e => s.hostWaits (hostLen (e.op 0x18 8) (e.op 0x10 2)) || s.xBusy (e.op 0x18 8) (e.op 0x10 2)) (fun e s =>
    let x := e.op 0x18 8
    let n := e.op 0x10 2
    if s.strict then s.finishEntry e stVariant 0
    else if !s.sec.trngOk then s.finishEntry e stTrngFail 0
    else s.viaHost way e (hostLen x n) (xAddr x) (fun s =>
      let (st, u) := ({ s with free := s.free + n } : State).xWrite e.tag x (Config.freeBytes n s.free)
      u.finishEntry e st 0))

/-- A health test of the TRNG fails (R498). -/
def State.trngFails (s : State) : State :=
  if !s.sec.trngOk then s else ({ s with sec.trngOk := false } : State).raise0 .sec 0 6

/-! ### IDE and SPDM (R496, R497) -/

/-- A TLP of a Secure stream fails its integrity check (R497). -/
def State.ideFault (stream : Nat) (s : State) : State :=
  if bitOn s.sec.ideSecure stream then
    ({ s with sec := { s.sec with ideSecure := clearBit s.sec.ideSecure stream, ideInsecure := setBit s.sec.ideInsecure stream } } : State).raise0
      .sec 0 7
  else s

/-- The identity certificate chain of slot 0: that of the Ed25519 identity key (R491, R496). -/
def State.chain0 (s : State) : List Byte := s.hw.certEd

/-- The value of a measurement index (R496). -/
def State.measurement (s : State) (i : Nat) : List Byte :=
  let live (d : List Byte) : List Byte := if s.live then dig32 d else List.replicate 32 0
  if i = 1 then dig64 s.sec.fwDigest
  else if i = 2 then dig64 s.sec.fwAlt
  else if i = 3 then live s.place.progDig ++ live s.place.wgtDig
  else s.reportHead

/-- A signature of the responder, by the Ed25519 identity key. What it covers is the transcript of SPDM 1.3, whose bytes are free values here
(log 86). -/
def State.spdmSign (s : State) : List Byte × State :=
  (edSign (keySeed 0 0) (Config.freeBytes 64 s.free), { s with free := s.free + 64 })

/-- The measurements that an index asks for: 0 none but their number, 0xFF all, another the one of its number (R496). -/
def measureAsked (i : Nat) : Option (List Nat) :=
  if i = 0 then some [] else if i = 0xFF then some [1, 2, 3, 4] else if i ≤ 4 then some [i] else none

/-- The responder's answer to a request code with its two parameters and what follows, and what comes of it (R496). Certificate slot 0 alone is
held, at most two sessions are open, and no request of R496's list is answered before a version is agreed. A vendor-defined request (0xFE) in
a session carries the IDE key management protocol: its first parameter names the stream whose keys it sets going (R497). -/
def State.spdmAnswer (code p1 p2 : Nat) (data : List Byte) (s : State) : State :=
  let say (r : SpdmReply) (s : State) : State := { s with out.spdm := some r }
  if code = 0x84 then say .version { s with sec := { s.sec with spdmVer := true, spdm := 0 } }
  else if !s.sec.spdmVer then say .error s
  else if code = 0xE1 then say .capabilities s
  else if code = 0xE3 then say (.algorithms .ed25519 .sha512 .secp384r1 .aes256gcm) s
  else if code = 0x81 then say (.digests (sha512 s.chain0)) s
  else if code = 0x82 then
    if p1 % 16 ≠ 0 ∨ s.chain0.length < field data 0 2 then say .error s
    else
      let part := slice s.chain0 (field data 0 2) (field data 2 2)
      say (.certificate part (s.chain0.length - field data 0 2 - part.length)) s
  else if code = 0x83 then
    if p1 % 16 ≠ 0 then say .error s else say (.challengeAuth (sha512 s.chain0) s.spdmSign.1) s.spdmSign.2
  else if code = 0xE0 then
    match measureAsked p2 with
    | none => say .error s
    | some is =>
      let blocks := is.map (fun i => (i, s.measurement i))
      if p1 % 2 = 1 then say (.measurements blocks 4 s.spdmSign.1) s.spdmSign.2 else say (.measurements blocks 4 []) s
  else if code = 0xE4 then
    if p2 % 16 ≠ 0 ∨ 2 ≤ s.sec.spdm then say .error s
    else say (.keyExchange (sha512 s.chain0) s.spdmSign.1) { s.spdmSign.2 with sec.spdm := s.sec.spdm + 1 }
  else if s.sec.spdm = 0 then say .error s
  else if code = 0xE5 then say .finish s
  else if code = 0xE8 then say .heartbeat s
  else if code = 0xE9 then say .keyUpdate s
  else if code = 0xEC then say .endSession { s with sec.spdm := s.sec.spdm - 1 }
  else if code = 0xFE then
    let k := p1 % 4
    say .vendor { s with sec := { s.sec with ideSecure := setBit s.sec.ideSecure k, ideInsecure := clearBit s.sec.ideInsecure k } }
  else say .error s

end Sys2Proof.Machine
end

