-- ==== Sys2Proof/Machine/ResetOps.lean ====
section
/-! DEFINITION. Full reset and start-up, power entry, emergency power-off and the full memory test (R565 to R571, R579, R608 to R614;
17_reset_faults_and_scorebook.md, 18_module_physical.md). -/

namespace Sys2Proof.Machine

/-- What a stack keeps through a full reset: its lost-line table and its uncorrectable words (R440, R566). -/
def Stack.kept (k : Stack) : Stack := { lost := k.lost, bad := k.bad }

/-- What the journal keeps through a full reset: the records in device memory (R566, R582). -/
def Jnl.kept (j : Jnl) : Jnl :=
  { base := j.base, size := j.size, entries := j.entries, closed := j.closed, openFirst := j.openFirst, commit := j.commit
    mbase := j.mbase, msize := j.msize, mirror := j.mirror }

/-- What the security engine keeps: the flash, and how many key pairs have been made (R485, R566). -/
def Sec.kept (x : Sec) : Sec :=
  { slotA := x.slotA, slotB := x.slotB, active := x.active, trial := x.trial, selSeq := x.selSeq, copies := x.copies
    keysMade := x.keysMade }

/-- Every unit but the Referee island loses its state, except what R566 keeps (R566, R569, R579, R614). -/
def State.unitsStop (s : State) : State :=
  { s with
    time := {}, mem := { units := (s.mem.units.map (fun c => (c.1, c.2.kept))).filter (fun c => decide (c.2 ≠ {})) }
    place := {}, blocks := [], hud := [], hif := {}, sft := {}, sw := {}, pnt := {}, ports := [], rly := {}, coll := {}
    jnl := s.jnl.kept, sec := s.sec.kept, prf := {}
    sb := { s.sb with writing := none, again := false }
    regs := s.regs.filter (fun c => decide (c.1 < 0x1000) || (decide (0x5000 ≤ c.1) && decide (c.1 < 0x6000))) }

/-- A full reset (R565, R566, R569): the cause is recorded and counted, and every unit waits for start-up. EPO_N held asserted leaves the
module in emergency power-off (R610). The contents of stacks under the full memory test are free values. -/
def State.fullReset (cause : Nat) (s : State) : State :=
  let t := if s.ref.mtRunning then
      (onesOf 16 s.ref.mtStacks).foldl (fun s n => s.freeDev (n * 2 ^ 36) (2 ^ 36)) s else s
  ({ t.unitsStop with
    clk := {}, regs := [], fence := {}
    ref := {
      p54 := s.ref.p54, aux12 := s.ref.aux12, island := s.ref.island, epoPin := s.ref.epoPin, epo := s.ref.epoPin
      faultN := s.ref.epoPin, coresOn := s.ref.p54 && !s.ref.epoPin, pwrgd := s.ref.p54 && !s.ref.epoPin, rstCause := cause
      mtAborted := s.ref.mtRunning } } : State).sbAdd 4 1

/-- A cause that reaches the module over its PCIe link, or needs the island's power (R565). -/
def State.resetIf (ok : Bool) (cause : Nat) (s : State) : State := if ok then s.fullReset cause else s

/-! ### Start-up (R567) -/

/-- What a start-up meets: 0 the TRNG's start-up tests fail when not 0; 1 the stacks that fail training or the short test, one bit each; 2 the
failing channel of each, five bits a stack; 3 the blocks that fail self-test; 4 the Scorebook copies with a bad CRC, bit 0 the copy in force
and bit 1 the alternate; 5 the spread in ppm; from 6 on the layout in module flash as pairs of a BAR0 offset and a value. -/
def envAt (env : List Nat) (i : Nat) : Nat := env.getD i 0

/-- Pairs of a list. -/
def pairsOf : List Nat → List (Nat × Nat)
  | a :: b :: rest => (a, b) :: pairsOf rest
  | _ => []

/-- A layout register held in module flash: Pantry's, the fabric's and its ports', and the journal's (R314, R567, R587). -/
def flashReg (p : Page) (off : Nat) : Bool :=
  match p with
  | .pnt => (0x100 ≤ off && off < 0x200) || 0x400 ≤ off
  | .fab => 0x100 ≤ off
  | .port => off == 0x800 || off == 0x810
  | .ref => off == 0x500 || off == 0x508 || off == 0x510 || off == 0x518
  | _ => false

/-- A register written by Referee firmware: its fields take the value as from any writer, and an encoding that a field reserves is refused (R13,
R14). -/
def State.flashWrite (p : Page) (i off v : Nat) (s : State) : State :=
  match findReg p off with
  | none => s
  | some (r, _) =>
    let w := s.fieldsOver p i off (s.reg p i off) v (2 ^ 64 - 1) r.fields
    let t := s.setReg p i off w.1
    if w.2 then t.regErr p i 0 off else t

/-- The layout in module flash written to its registers. -/
def State.flashLayout (env : List Nat) (s : State) : State :=
  (pairsOf (env.drop 6)).foldl (fun s w => match pageOf w.1 with
    | some (p, i, off) => if flashReg p off then s.flashWrite p i off w.2 else s
    | none => s) s

/-- The clocks are brought up (R519, R535, R567). -/
def State.clocksUp (spread : Nat) (s : State) : State :=
  { s with clk := { s.clk with
      ssc := spread != 0, spreadPpm := spread % 2 ^ 16, trim := 5 * (spread : Int)
      plls := (List.range 42).foldl (fun m n => Sparse.set {} m n { (Sparse.get {} m n : Pll) with en := true, locked := true }) s.clk.plls
      muxes := (List.range 25).foldl (fun m i => Sparse.set {} m i { src := 1 }) s.clk.muxes } }

/-- The stacks train and are tested (R567, R571): one that fails goes OFFLINE, and a word found uncorrectable is reported. -/
def State.stacksUp (fail ch : Nat) (s : State) : State :=
  (List.range 16).foldl (fun s n =>
    if bitOn fail n then s.stackOffline n (ch / 32 ^ n % 32)
    else (s.stack n).bad.foldl (fun s w => s.memUe 0 3 (32 * w)) (s.setStack n { s.stack n with state := 1 })) s

/-- The block self-test (R40, R567, R572): a block excluded is reported and counted. -/
def State.selfTest (mask : Nat) (s : State) : State :=
  (List.range blockCount).foldl (fun s p =>
    if bitOn mask p && !s.hw.fused.testBit p then
      (({ s with place.testfail := setBit s.place.testfail p } : State).raise0 .ref 0 2).sbAdd (0x0150 + dieOf p) 1
    else s) s

/-- The journal's rings are recovered (R587). A ring that flash lays elsewhere holds nothing of this module's. -/
def State.journalUp (s : State) : State :=
  let (b, n) := ringLayout (s.reg .ref 0 0x508)
  let (mb, mn) := ringLayout (s.reg .ref 0 0x510)
  let s0 : State := { s with jnl.next := s.reg .ref 0 0x518 }
  let s1 := if b = s.jnl.base ∧ n = s.jnl.size then s0.recoverLocal else
    { s0 with jnl := { mbase := s.jnl.mbase, msize := s.jnl.msize, mirror := s.jnl.mirror, next := s0.jnl.next, base := b, size := n } }
  if mb = s.jnl.mbase ∧ mn = s.jnl.msize then s1.recoverMirror
  else { s1 with jnl.mbase := mb, jnl.msize := mn, jnl.mirror := [], jnl.mexp := none, jnl.mwptr := 4096 }

/-- The Scorebook is read (R591): a copy with a bad CRC gives way to the alternate, and without either the counts restart. -/
def State.scorebookUp (bad : Nat) (s : State) : State :=
  match s.sb.inForce with
  | none => s
  | some _ =>
    let bad0 := bitOn bad 0
    let bad1 := bitOn bad 1 && s.sb.alt.isSome
    let s1 := if bad0 || bad1 then s.raise0 .sb 0 1 else s
    if !bad0 then (if bad1 then { s1 with sb.alt := none } else s1)
    else if s.sb.alt.isSome && !bad1 then { s1 with sb.inForce := s.sb.alt, sb.alt := none }
    else ({ s1 with sb.inForce := none, sb.alt := none, sb.hbmBase := [] } : State).raise0 .sb 0 3

/-- The Pantry is enabled if flash sets EN and the layout is valid (R314, R567). -/
def State.pantryUp (s : State) : State :=
  let spill := s.fld .pnt 0 0x100 15 9
  let t := s.setReg .pnt 0 0x100 (setBits (s.reg .pnt 0 0x100) 0 0 0)
  if s.fld .pnt 0 0x100 0 0 = 0 then t
  else if s.layoutOk spill then (t.setReg .pnt 0 0x100 (s.reg .pnt 0 0x100)).pantryOn spill
  else t.raise .pnt 0 1 0 (0xFF * 2 ^ 56) 0 0

/-- READY (R489, R567, R592). -/
def State.getReady (s : State) : State :=
  ({ s with ref.ready := true, ref.stage := 8 } : State).confirmTrial.sbRequest

/-- The TRNG's start-up tests (R480, R498). -/
def State.trngUp (fails : Bool) (s : State) : State :=
  let t : State := { s with sec.trngOk := true }
  if fails then t.trngFails else t

/-- The Referee firmware's part of the start-up, once an image runs (R567). -/
def State.firmwareUp (env : List Nat) (s : State) : State :=
  let s1 := (s.clocksUp (envAt env 5)).selfTest (envAt env 3)
  let s2 := ((s1.stacksUp (envAt env 1) (envAt env 2)).flashLayout env).journalUp
  let s3 := (s2.scorebookUp (envAt env 4)).setReg .mctl 0 0x100 (setBits (s2.reg .mctl 0 0x100) 0 0 0)
  s3.pantryUp.newSealKeys.getReady

/-- RESET_RELEASE (R567): the boot ROM, and if an image verifies the firmware, run to READY; otherwise the module is in RECOVERY (R490). -/
def State.resetReleased (env : List Nat) (s : State) : State :=
  if !s.ref.inReset || !s.ref.coresOn || !s.ref.island then s
  else
    let t := (({ s with ref.inReset := false } : State).trngUp (envAt env 0 != 0)).bootRom
    let u : State := { t with ref.linkUp := true }
    if u.sec.recovery then u else u.firmwareUp env

/-! ### Power (R579, R608 to R614) -/

/-- Emergency power-off (R579, R610): every supply but the Referee island's goes, with device memory. -/
def State.emergencyOff (s : State) : State :=
  if s.ref.epo then s
  else
    let t := s.unitsStop
    (({ t with
      dev := [], mem := {}
      ref.epo := true, ref.faultN := true, ref.coresOn := false, ref.pwrgd := false, ref.linkUp := false, ref.ready := false
      ref.mtRunning := false } : State).sbAdd 9 1).sbRequest

/-- A sensor of a port die or an LB4 trips: every core supply goes (R516). -/
def State.coresTrip (unit sensor : Nat) (s : State) : State :=
  let t := s.tripRaised unit sensor
  { t.unitsStop with
    sb := t.sb
    ref.coresOn := false, ref.pwrgd := false, ref.linkUp := false, ref.ready := false, ref.mtRunning := false }

/-- The 54 V entry fails (R614): device memory and every unit go; with AUX_12V the island writes the Scorebook, without it the counts not yet
written are lost. -/
def State.powerFails (s : State) : State :=
  if !s.ref.p54 then s
  else
    let t : State := { s.unitsStop with
      dev := [], mem := {}
      ref.p54 := false, ref.pwrgd := false, ref.coresOn := false, ref.linkUp := false, ref.ready := false, ref.inReset := true
      ref.mtRunning := false, ref.faultN := s.ref.aux12, ref.island := s.ref.aux12 }
    if s.ref.aux12 then t.sbRequest else { t with sb.pend := [], regs := [] }

/-- The 54 V entry has stayed within its range for 20 ms (R613, R614). -/
def State.powerApplied (s : State) : State :=
  if s.ref.p54 then s else ({ s with ref.p54 := true, ref.island := true } : State).fullReset 1

/-- AUX_12V comes or goes (R609). -/
def State.auxChange (on : Bool) (s : State) : State :=
  let up := on || s.ref.p54
  let t : State := { s with ref.aux12 := on, ref.island := up }
  if up || !s.ref.island then t
  else { t with sb.pend := [], sb.writing := none, sb.again := false, regs := [], ref.faultN := false, ref.epo := false }

/-! ### The full memory test (R425, R570) -/

/-- The conditions of R425. -/
def State.nfMayChange (s : State) : Bool :=
  (s.place.pstate == psEmpty || s.place.pstate == psFailed) && !s.pnt.en && s.coll.slots.isEmpty

/-- RF_MTEST.START (R570). -/
def State.mtestStart (stkMask : Nat) (s : State) : State :=
  if s.ref.mtRunning || !s.nfMayChange || s.jnlMode != 0 || s.mirrorRx then s.raise0 .ref 0 1
  else { s with ref := { s.ref with mtRunning := true, mtStacks := stkMask, mtDone := 0, mtFail := 0, mtAborted := false, mtProgress := 0 } }

/-- MTEST_DONE (R442, R570): the stacks tested hold free values, and those that fail go OFFLINE. -/
def State.mtestEnd (fail : Nat) (s : State) : State :=
  if !s.ref.mtRunning then s
  else
    let m := s.ref.mtStacks
    let bad := fail &&& m
    let s1 := (onesOf 16 m).foldl (fun s n => s.freeDev (n * 2 ^ 36) (2 ^ 36)) s
    let s2 := (onesOf 16 bad).foldl (fun s n => (s.useFree).stackOffline n (Config.free s.free % 32)) s1
    let s3 : State := { s2 with ref := { s2.ref with mtRunning := false, mtDone := m, mtFail := bad, mtProgress := 100 } }
    if bad = 0 then s3 else s3.raise .ref 0 4 0 0 0 bad

end Sys2Proof.Machine
end

