-- ==== Sys2Proof/Machine/RegView.lean ====
section
/-! DEFINITION. What each register reads as: programmed fields from the register file, everything else from the unit it shows (R12, R558,
R560, and each chapter's register tables). -/

namespace Sys2Proof.Machine

/-! ### Common header (R558) -/

/-- An error bit of fatal severity is set in the page (R558). -/
def State.pageFatal (s : State) (p : Page) (i : Nat) : Bool :=
  (onesOf 32 (s.reg p i 0x20)).any (fun b => s.severity p i b == 2)

/-- The unit of a page is configured and in service (R558). -/
def State.pageReady (s : State) (p : Page) (i : Nat) : Bool :=
  s.ref.ready && match p with
  | .die => !s.fence.dies.testBit i && !s.place.dieOff.testBit i
  | .blk => match s.shown i with | some b => !s.fencedBlock b | none => false
  | .port => s.ethUp i || s.linkUp i
  | .pnt => s.pnt.en
  | .stk => (s.stack i).state == 1 || (s.stack i).state == 2
  | _ => true

/-- PG_CAP: only the configuration controller's page defines one (R47, R558). -/
def State.pageCap (s : State) (p : Page) : Nat := match p with | .cfg => s.exposed * 256 + s.gradeCode | _ => 0

/-! ### Sideband dump (R216 to R219) -/

/-- SD_SEL.KIND. -/
def sdKind (v : Nat) : Nat := bits v 16 16
/-- The physical block SD_SEL names. -/
def sdBlock (v : Nat) : Nat := blocksPerDie * bits v 15 11 + bits v 10 6
/-- SD_SEL.INDEX. -/
def sdIndex (v : Nat) : Nat := bits v 5 0

/-- A value of SD_SEL is a reserved encoding (R217). -/
def sdReserved (v : Nat) : Bool :=
  decide (16 < bits v 10 6) || (if sdKind v = 0 then decide (47 < sdIndex v) else decide (15 < sdIndex v) || bits v 15 6 != 0)

/-- Participants of a line that are not fenced and have not arrived for its next release (R218, R223). -/
def State.awaited (s : State) (l : Nat) : Nat :=
  ((s.members l).filter (fun p => !s.fencedBlock p && decide ((s.block p).arrivals l ≤ (s.line l).gen))).length

/-- The prep core of a block stands in vln.wait on a counter (R218). -/
def Block.prepWaits (b : Block) (c : Nat) : Bool :=
  b.prep.state == 4 && match b.prepFetch with
  | .ok (ins, _) => iOp ins == 0x0B && iF3 ins == 0 && iF7 ins == 0x02 && b.xreg (iRs1 ins) == c
  | .error _ => false

/-- Host commands held on a counter (R218). -/
def State.hostWaiters (s : State) (shape c : Nat) : Nat :=
  (s.hif.opened.filter (fun o => match o.wait with
    | some w => w.1 == shape && w.2.1 == c && s.waitState o.wait == .notYet
    | none => false)).length

/-- What a fetch of the sideband path finds: SD_VALUE, SD_INFO and SD_TARGET (R218, R219). A block is unreachable when it is fused off or its
die has no voltage. -/
def State.sdFetch (s : State) (v : Nat) : Nat × Nat × Nat :=
  let i := sdIndex v
  if sdKind v = 1 then
    let h := s.line i
    (h.gen % 2 ^ 32,
      3 * 2 ^ 62 + b2n h.abandoned.isSome * 2 ^ 61 + (s.members i).length % 2 ^ 10 * 2 ^ 48 + s.awaited i % 2 ^ 16 * 2 ^ 32, 0)
  else
    let p := sdBlock v
    if s.hw.fused.testBit p || s.place.dieOff.testBit (dieOf p) then (0, 2 ^ 63, 0)
    else
      let b := s.block p
      let shape := s.shapeOf p
      let held := match b.hold with | .wait c t => if c = i then some t else none | _ => none
      ((b.cnt i).value,
        3 * 2 ^ 62 + b2n (b.cnt i).abandoned.isSome * 2 ^ 61 + b2n (s.live && (b.cntEntry i).used) * 2 ^ 60 + b2n held.isSome * 2 ^ 59 +
          b2n (b.prepWaits i) * 2 ^ 58 + (match shape with | some sh => s.hostWaiters sh i % 2 ^ 16 | none => 0) * 2 ^ 32 +
          (if s.live then shape.getD 0xFFFF else 0xFFFF) % 2 ^ 16 * 2 ^ 16, held.getD 0)

/-- A register of a sideband set. -/
def SdSet.view (d : SdSet) (off : Nat) : Nat :=
  if off = 0x300 then d.sel.toNat else if off = 0x308 then d.value.toNat else if off = 0x310 then d.info.toNat else d.target.toNat

/-! ### The pages' own registers -/

/-- A signed value in a field of `k` bits. -/
def signedField (k : Nat) (z : Int) : Nat := ofSigned k z

/-- A JSEQ that may be absent (R597). -/
def jseqOr (j : Option Nat) : Nat := j.getD noJseq

/-- Registers of the Referee page (R216, R347, R597). -/
def State.viewRef (s : State) (off : Nat) : Nat :=
  let j := s.jnl
  if off = 0x100 then s.boots % 2 ^ 32 * 2 ^ 32 + s.ref.rstCause * 2 ^ 24 + s.ref.stage * 2 ^ 16 + b2n s.ref.epo * 2 + b2n s.ref.faulted
  else if off = 0x108 then 0
  else if off = 0x110 then setBits (s.reg .ref 0 0x110) 0 0 (b2n s.ref.mtRunning)
  else if off = 0x118 then s.ref.mtFail * 2 ^ 48 + s.ref.mtDone * 2 ^ 32 + s.ref.mtProgress * 2 ^ 8 + b2n s.ref.mtAborted * 2 + b2n s.ref.mtRunning
  else if 0x300 ≤ off ∧ off ≤ 0x318 then s.ref.sdHost.view off
  else if off = 0x400 then s.time.now % 2 ^ 64
  else if off = 0x408 then b2n s.time.untimed * 2 ^ 63 + b2n s.time.sync * 2 ^ 62 + s.time.steps * 2 ^ 32 + signedField 32 s.time.offset
  else if off = 0x518 then j.next
  else if off = 0x520 then s.jnlFirst
  else if off = 0x528 then jseqOr j.commit
  else if off = 0x530 then jseqOr j.acked
  else if off = 0x538 then jseqOr (j.mirror.head?.map JEntry.jseq)
  else if off = 0x540 then jseqOr (j.mirror.getLast?.map JEntry.jseq)
  else if off = 0x548 then b2n j.openFirst.isSome * 2 ^ 8 + j.closed.length
  else if off = 0x550 then jseqOr (j.gap.map Prod.fst)
  else if off = 0x558 then j.latchGap.getD (jseqOr (j.gap.map Prod.snd))
  else if off = 0x560 then jseqOr (j.mgap.map Prod.fst)
  else if off = 0x568 then j.latchMgap.getD (jseqOr (j.mgap.map Prod.snd))
  else s.reg .ref 0 off

/-- DSTATE of a die (R50): 2 fenced, 1 fewer usable blocks than exposed, 0 up. -/
def State.dieState (s : State) (d : Nat) : Nat :=
  if s.fence.dies.testBit d then 2
  else if ((List.range blocksPerDie).filter (fun i => s.usable (blocksPerDie * d + i))).length < s.exposed then 1 else 0

/-- Seventeen bits of a block map for a die. -/
def dieBits (m d : Nat) : Nat := bits m (blocksPerDie * d + 16) (blocksPerDie * d)

/-- Registers of the configuration controller's page (R48 to R50, R457). -/
def State.viewCfg (s : State) (off : Nat) : Nat :=
  if off = 0x100 then s.place.loadTag * 2 ^ 32 + s.place.progress * 2 ^ 8 + s.place.pstate
  else if off = 0x108 then s.place.id
  else if 0x110 ≤ off ∧ off < 0x130 then field s.place.progDig (off - 0x110) 8
  else if 0x130 ≤ off ∧ off < 0x150 then field s.place.wgtDig (off - 0x130) 8
  else if off = 0x180 then b2n s.place.strict * 2 ^ 8 + b2n s.place.req
  else if 0x200 ≤ off ∧ off < 0x300 then
    let d := (off - 0x200) / 8
    s.dieState d * 2 ^ 51 + dieBits s.fence.blocks d * 2 ^ 34 + dieBits s.place.testfail d * 2 ^ 17 + dieBits s.hw.fused d
  else s.reg .cfg 0 off

/-- Registers of the Proofer page (R532, R533). -/
def State.viewPrf (s : State) (off : Nat) : Nat :=
  if off = 0x110 then s.prf.windows % 2 ^ 32 * 2 ^ 32 + s.prf.powerW * 2 ^ 16 + b2n s.prf.warm * 2 + b2n s.prf.holdAll
  else if 0x200 ≤ off ∧ off < 0x300 then
    let x : DiePow := Sparse.get {} s.prf.dies ((off - 0x200) / 8)
    x.powerW * 2 ^ 48 + x.tmax * 2 ^ 36 + x.sensorOk * 2 ^ 28 + x.held * 2 ^ 20 + s.reg .prf 0 off + x.vnow
  else s.reg .prf 0 off

/-- Registers of the clock page (R535). -/
def State.viewClk (s : State) (off : Nat) : Nat :=
  if off = 0x100 then b2n s.clk.coast * 2 ^ 63 + b2n s.clk.ssc * 2 ^ 62 + s.clk.spreadPpm * 2 ^ 32 + s.clk.c0 * 2 ^ 16 + s.clk.last
  else if off = 0x108 then signedField 16 s.clk.trim
  else if 0x200 ≤ off ∧ off < 0x200 + 8 * 42 then
    let x := s.pll ((off - 0x200) / 8)
    b2n x.unlockedSeen * 8 + b2n x.holdover * 4 + b2n x.locked * 2 + b2n x.en
  else if 0x400 ≤ off ∧ off < 0x400 + 8 * 25 then
    let x := s.mux ((off - 0x400) / 8)
    b2n x.stuck * 8 + b2n x.pending * 4 + x.src
  else s.reg .clk 0 off

/-- Registers of the security engine's page (R479, R501). -/
def State.viewSec (s : State) (off : Nat) : Nat :=
  let x := s.sec
  if off = 0x100 then
    x.ideSecure % 16 * 2 ^ 36 + b2n x.trngOk * 2 ^ 35 + b2n x.updating * 2 ^ 34 + b2n x.recovery * 2 ^ 33 + b2n x.inTrial * 2 ^ 32 + s.otp * 2 ^ 16 +
      x.svn * 2 ^ 8 + x.active * 2 + x.running
  else if off = 0x408 then x.recRing.prod % 2 ^ 32 * 2 ^ 32 + s.reg .sec 0 off
  else if off = 0x420 then x.sealRing.prod % 2 ^ 32 * 2 ^ 32 + s.reg .sec 0 off
  else if off = 0x430 then
    x.batchNo % 2 ^ 44 * 2 ^ 20 + (match x.openB with | some b => b.recs.length | none => 0) * 2 ^ 4 + s.unsigned
  else s.reg .sec 0 off

/-- A word of the manufacturing record; words 0 and 1 hold SERIAL (R593). -/
def State.mfgWord (s : State) (w : Nat) : Nat :=
  if w < 2 then s.hw.serial / 2 ^ (64 * w) % 2 ^ 64 else s.hw.mfgRecord.readNat (8 * w) 8

/-- Registers of the Scorebook page (R599). -/
def State.viewSb (s : State) (off : Nat) : Nat :=
  if off = 0x100 then
    (match s.sb.inForce with | some c => c.seq * 2 ^ 32 + c.sector * 2 ^ 24 + 1 | none => 0) + b2n s.sb.writing.isSome * 2
  else if off = 0x110 then
    let i := s.reg .sb 0 0x108
    if 0x8000 ≤ i then s.mfgWord (i - 0x8000) else s.sbCount i
  else s.reg .sb 0 off

/-- Registers of the Huddle page (R223). -/
def State.viewHud (s : State) (off : Nat) : Nat :=
  if 0x100 ≤ off ∧ off < 0x180 then
    let l := (off - 0x100) / 8
    if !s.live then 0
    else b2n (s.line l).abandoned.isSome * 2 ^ 63 + (s.members l).length * 2 ^ 42 + s.awaited l * 2 ^ 32 + (s.line l).gen % 2 ^ 32
  else s.reg .hud 0 off

/-- Registers of the host interface's page (R563). -/
def State.viewHif (s : State) (off : Nat) : Nat :=
  if off = 0x100 then s.hif.seqNext * 2 ^ 32 + (windowSize - s.hif.window.length)
  else if off = 0x110 then (match s.hif.errq with | g :: _ => 2 ^ 63 + g % 2 ^ 14 | [] => 0) + b2n s.hif.errqOvf * 2 ^ 62
  else if off = 0x118 then s.hif.waits.length
  else if 0x400 ≤ off ∧ off < 0xC00 ∧ off % 0x20 = 8 then s.reg .hif 0 off + s.outstanding ((off - 0x400) / 0x20) * 2 ^ 16
  else s.reg .hif 0 off

/-- Registers of a compute die's page (R51): W15 is reserved in grade -B. -/
def State.viewDie (s : State) (d off : Nat) : Nat :=
  if off = 0x100 ∧ s.hw.gradeB then s.reg .die d off % 2 ^ 60 else s.reg .die d off

/-- A ring register of the block DMA or the audit unit (R450, R478). -/
def Queue.view (q : Queue) : Nat :=
  q.slotsLog2 * 2 ^ 32 + q.done * 2 ^ 26 + q.post * 2 ^ 20 + b2n q.en * 2 ^ 19 + q.base
/-- A status register of the block DMA or the audit unit (R450, R478). -/
def Queue.stat (q : Queue) (inflight : Nat) : Nat :=
  q.code * 2 ^ 56 + q.index * 2 ^ 44 + b2n q.halted * 2 ^ 41 + inflight * 2 ^ 32 + q.ended % 2 ^ 32

/-- Counters of a block that are ABANDONED (R222). -/
def Block.abandonedMask (b : Block) : Nat := maskOf ((List.range 48).filter (fun i => (b.cnt i).abandoned.isSome))
/-- Lines on which a block has an arrival not yet released (R221). -/
def State.unreleased (s : State) (b : Block) : Nat := maskOf ((List.range 16).filter (fun l => decide ((s.line l).gen < b.arrivals l)))

/-- Registers of a logical block's page; its own read 0 while no placement is LIVE (R103, R105, R165, R166, R187, R220 to R222, R450,
R478). -/
def State.viewBlk (s : State) (l off : Nat) : Nat :=
  if off < 0x100 then s.reg .blk l off
  else match s.shown l with
  | none => if s.live then s.reg .blk l off else 0
  | some p =>
    let b := s.block p
    if off = 0x100 then b.lastTag * 2 ^ 32 + b.lastOff * 2 ^ 8 + s.blkState p
    else if off = 0x108 then b.step
    else if off = 0x118 then s.reg .blk l off + b.trace.drops * 2 ^ 40 + b.trace.head * 2 ^ 16 + b2n b.trace.wrapped * 2 ^ 11
    else if off = 0x120 then b.numInv * 2 ^ 8 + b.numLoss * 2 ^ 4 + b.numOvf
    else if off = 0x128 then b.rdu.word
    else if off = 0x130 then b.mmasBeats * 2 ^ 32 + b.denseBeats
    else if off = 0x138 then b.prep.pc.toNat % 2 ^ 32 * 2 ^ 32 + b.prep.lastCause * 2 ^ 16 + (if b.prep.state = 1 ∧ b.prep.inTrap then 2 else b.prep.state)
    else if off = 0x140 then s.unreleased b * 2 ^ 16 + b.hudMask
    else if off = 0x148 then b.dma.view
    else if off = 0x150 then b.dma.stat b.dma.flight.length
    else if off = 0x158 then b.aud.view
    else if off = 0x160 then b.aud.stat 0
    else if 0x200 ≤ off ∧ off < 0x380 then (b.cnt ((off - 0x200) / 8)).value
    else if off = 0x380 then b.abandonedMask
    else s.reg .blk l off

/-- Registers of a port's page (R346, R385). A port up in Ethernet mode shows STATE UP. -/
def State.viewPort (s : State) (n off : Nat) : Nat :=
  if off = 0x580 then s.reg .port n off + (s.port n).gate.oper.length * 2 ^ 16
  else if off = 0x808 then s.reg .port n off + (s.link n).peer * 2 ^ 4 + (if s.ethUp n then lkUp else if s.rallyOn n then (s.link n).st else lkDown)
  else s.reg .port n off

/-- A Sifter. -/
def State.sifterAt (s : State) (n : Nat) : Sifter := Sparse.get {} s.sft.units n

/-- Registers of a Sifter's page (R270 to R274). -/
def State.viewSft (s : State) (n off : Nat) : Nat :=
  let u := s.sifterAt n
  if 0x140 ≤ off ∧ off < 0x1C0 then
    (match Sparse.get? u.slots ((off - 0x140) / 8) with
     | some g => g.id % 2 ^ 32 * 2 ^ 32 + g.bound * 2 ^ 16 + (g.insns.length - 1) * 2 ^ 8 + g.portMask * 2 ^ 4 + 1
     | none => 0)
  else if off = 0x1C8 then
    (s.sft.ctxs.filter (fun c => c.2.pinned && c.2.home == some n)).length * 2 ^ 32 + u.holds.length * 2 ^ 15 + u.queue.length * 2 ^ 8 + u.runs.length
  else if off = 0x1D0 then u.hodrop
  else if off = 0x208 then u.copyRing.prod % 2 ^ 32 * 2 ^ 32 + s.reg .sft n off
  else if off = 0x228 then u.noticeRing.prod % 2 ^ 32 * 2 ^ 32 + s.reg .sft n off
  else s.reg .sft n off

/-- Registers of a collective engine's page: COL_CTRL and COL_LAST on engine 0's only (R418). -/
def State.viewColl (s : State) (e off : Nat) : Nat :=
  if off = 0x100 then (if e = 0 then s.reg .coll 0 off else 0)
  else if off = 0x108 then (if e = 0 then s.coll.last else 0)
  else if off = 0x110 then (match s.coll.held with | h :: _ => h.launch.ticket | [] => 0)
  else if 0x120 ≤ off ∧ off < 0x160 then
    let x := s.slot (4 * ((off - 0x120) / 16) + e)
    if !x.busy then 0
    else if off % 16 = 0 then x.launch.ticket
    else x.rank * 2 ^ 52 + x.launch.members.length * 2 ^ 39 + x.state * 2 ^ 36 + x.fins.length % 2 ^ 12 * 2 ^ 24 + x.chunks % 2 ^ 24
  else s.reg .coll e off

/-- Registers of the Pantry's page (R318 to R320). -/
def State.viewPnt (s : State) (off : Nat) : Nat :=
  if off = 0x140 then s.reg .pnt 0 off + s.pnt.leaks * 2 ^ 32
  else if off = 0x148 then s.pnt.lastLeak
  else if off = 0x150 then
    (if s.laidOut then s.metaMib (s.fld .pnt 0 0x100 15 9) else 0) * 2 ^ 52 + (if s.pnt.en then s.freeFrames else 0) * 2 ^ 38 + b2n (!s.pnt.bufs.isEmpty)
  else if 0x500 ≤ off ∧ off < 0x700 then
    let c := (off - 0x500) / 32
    let p := (off - 0x500) / 8 % 4
    s.level c p * 2 ^ 62 + s.occ c p
  else s.reg .pnt 0 off

/-- Registers of a stack's page (R448). -/
def State.viewStk (s : State) (n off : Nat) : Nat :=
  let k := s.stack n
  if off = 0x100 then
    k.lost.length * 2 ^ 40 + k.failedCh * 2 ^ 29 + b2n k.failed * 2 ^ 28 + (if k.retraining then k.retrainCh else 0) * 2 ^ 17 +
      b2n k.retraining * 2 ^ 16 + k.state
  else s.reg .stk n off

/-- Registers of the fabric's page (R377, R383). -/
def State.viewFab (s : State) (off : Nat) : Nat :=
  if 0x180 ≤ off ∧ off < 0x1B0 then
    let e := (off - 0x180) / 24
    let k := (off - 0x180) % 24
    if k = 0 then s.rly.inj.num e else if k = 8 then s.rly.dlv.num e else s.rly.drop.num e
  else s.reg .fab 0 off

/-- What a register of a page reads as; an offset not listed reads 0 (R13, R560). Offsets and pages are as `pageOf` gives them, the offset
a multiple of 8. -/
def State.regView (s : State) (p : Page) (i off : Nat) : Nat :=
  if (findReg p off).isNone then 0
  else if off = 0 then p.type * 2 ^ 32 + i * 2 ^ 16 + 1
  else if off = 8 then s.pageCap p
  else if off = 0x18 then b2n (s.pageFatal p i) * 2 + b2n (if p = .ref then s.ref.ready else s.pageReady p i)
  else match p with
  | .ref => s.viewRef off
  | .cfg => s.viewCfg off
  | .prf => s.viewPrf off
  | .clk => s.viewClk off
  | .sec => s.viewSec off
  | .sb => s.viewSb off
  | .hud => s.viewHud off
  | .hif => s.viewHif off
  | .die => s.viewDie i off
  | .blk => s.viewBlk i off
  | .port => s.viewPort i off
  | .sft => s.viewSft i off
  | .coll => s.viewColl i off
  | .pnt => s.viewPnt off
  | .sw => s.reg .sw 0 off
  | .stk => s.viewStk i off
  | .mctl => s.reg .mctl 0 off
  | .fab => s.viewFab off

end Sys2Proof.Machine
end

