-- ==== Sys2Proof/Machine/RegOps.lean ====
section
/-! DEFINITION. Reads and writes of BAR0 registers: the access codes (R12), reserved encodings (R14), the refusals and actions of the registers
that have any, and the MSI-X table (R538, R557 to R564 and each chapter's register rules). -/

namespace Sys2Proof.Machine

/-! ### Errors of a register access -/

/-- The CFG_REFUSED bit of a page. -/
def refusedBit (p : Page) : Nat := match p with | .sft => 9 | _ => 1

/-- CFG_REFUSED sets in a page. -/
def State.refuse (p : Page) (i off : Nat) (s : State) : State := s.regErr p i (refusedBit p) off

/-! ### Fields (R12 to R14, R561) -/

/-- What the programmed bits of a register hold: the register file, or the unit where the unit keeps them. -/
def State.programmed (s : State) (p : Page) (i off : Nat) : Nat :=
  match p with
  | .ref => if off = 0x518 ∨ off = 0x300 then s.viewRef off % 2 ^ 64 else s.reg p i off
  | .cfg => if off = 0x180 then s.viewCfg off % 2 ^ 64 else s.reg p i off
  | .coll => if off = 0x108 then s.viewColl i off % 2 ^ 64 else s.reg p i off
  | .clk => if 0x200 ≤ off then s.viewClk off % 2 ^ 64 else s.reg p i off
  | .blk => if off = 0x120 then s.viewBlk i off % 2 ^ 64 else s.reg p i off
  | _ => s.reg p i off

/-- The value a register's programmed bits take from a write, and whether a field was given a reserved encoding (R12, R14). -/
def State.fieldsWritten (s : State) (p : Page) (i off d m : Nat) (fs : List RField) : Nat × Bool :=
  s.fieldsOver p i off (s.programmed p i off) d m fs

/-! ### Registers with an action or a refusal -/

/-- A bit goes from 0 to 1. -/
def rises (old new k : Nat) : Bool := !bitOn old k && bitOn new k
/-- A bit goes from 1 to 0. -/
def falls (old new k : Nat) : Bool := bitOn old k && !bitOn new k

/-- ERR_STAT written (R559): when nothing is left set, the first-error capture is released. -/
def State.errStatWritten (p : Page) (i new : Nat) (s : State) : State :=
  let t := s.setErrStat p i new
  if new = 0 then t.setReg p i 0x38 (clearBit (t.reg p i 0x38) 63) else t

/-- A write to a set of the sideband registers (R217): `v` is the value written. -/
def State.sdWritten (mgmt : Bool) (v : Nat) (s : State) : State :=
  if sdReserved v then s.regErr .ref 0 0 0x300
  else
    let put (d : SdSet) : SdSet := { d with sel := BitVec.ofNat 64 v, info := BitVec.ofNat 64 (clearBit d.info.toNat 63), busy := true }
    if mgmt then { s with ref.sdMgmt := put s.ref.sdMgmt } else { s with ref.sdHost := put s.ref.sdHost }

/-- SD_FETCH_DONE (R217 to R219). -/
def State.sdDone (mgmt : Bool) (s : State) : State :=
  let d := if mgmt then s.ref.sdMgmt else s.ref.sdHost
  if !d.busy then s
  else
    let r := s.sdFetch d.sel.toNat
    let x : SdSet := { d with busy := false, value := BitVec.ofNat 64 r.1, info := BitVec.ofNat 64 r.2.1, target := BitVec.ofNat 64 r.2.2 }
    if mgmt then { s with ref.sdMgmt := x } else { s with ref.sdHost := x }

/-- RF_RESET written (R565, R597). -/
def State.resetWritten (cause a : Nat) (s : State) : State :=
  if !bitOn a 0 then s else if bits a 15 8 = 0xA5 then s.fullReset cause else s.regErr .ref 0 0 0x108

/-- JNL_CTRL written (R583, R597). -/
def State.jnlCtrlWritten (old new m : Nat) (s : State) : State :=
  if s.jnl.transfer.isSome && bits m 1 0 != 0 then s.refuse .ref 0 0x500
  else
    let t := s.setReg .ref 0 0x500 new
    let u := if bits old 1 0 = bits new 1 0 then t else t.jnlModeChange (bits old 1 0) (bits new 1 0)
    if rises old new 4 then u.mirrorOn else u

/-- A change to MT_PTPCFG restarts the PTP instance (R347). -/
def State.ptpWritten (old new : Nat) (s : State) : State :=
  if old = new then s
  else { s.setReg .ref 0 0x410 new with time := { s.time with sync := false, ptpT1 := 0, ptpT2 := 0, ptpT3 := 0, ptpDelay := 0 } }

/-- The Referee page's registers (R216, R347, R597). -/
def State.applyRef (off old new a m : Nat) (s : State) : State :=
  if off = 0x108 then s.resetWritten 5 a
  else if off = 0x110 then
    let t := s.setReg .ref 0 off new
    if bitOn a 0 then t.mtestStart (bits new 31 16) else t
  else if off = 0x300 then (if bits m 31 0 = 0 then s else s.sdWritten false (bits new 16 0))
  else if off = 0x410 then s.ptpWritten old new
  else if off = 0x500 then s.jnlCtrlWritten old new m
  else if off = 0x508 then (if s.jnlMode = 0 then s.setReg .ref 0 off new else s.refuse .ref 0 off)
  else if off = 0x510 then (if s.mirrorRx then s.refuse .ref 0 off else s.setReg .ref 0 off new)
  else if off = 0x518 then (if s.jnlMode = 0 then { s.setReg .ref 0 off new with jnl.next := new } else s.refuse .ref 0 off)
  else s.setReg .ref 0 off new

/-- CFG_DET.REQ written (R456). -/
def State.detWritten (new : Nat) (s : State) : State :=
  let r := bitOn new 0
  { s with place.req := r, place.strict := if s.place.pstate = psEmpty ∨ s.place.pstate = psFailed then r else s.place.strict }

/-- The clock page's registers (R527, R535). -/
def State.applyClk (off new m : Nat) (s : State) : State :=
  if 0x400 ≤ off then (if bits m 1 0 = 0 then s else s.muxWrite ((off - 0x400) / 8) (bits new 1 0))
  else if 0x200 ≤ off then
    let n := (off - 0x200) / 8
    s.setPll n { s.pll n with unlockedSeen := bitOn new 3 }
  else s.setReg .clk 0 off new

/-- A ring's layout put in force (R273, R479): base register, log2 of the slot size, log2 of the slots. -/
def ringOn (base slotLog2 slotsLog2 : Nat) : SRing := { en := true, base := base, slotLog2 := slotLog2, slotsLog2 := slotsLog2 }

/-- SEAL_RCFG or SEAL_SCFG written (R479). -/
def State.sealCfgWritten (off old new : Nat) (s : State) : State :=
  let t := s.setReg .sec 0 off new
  let rec' := off = 0x408
  let g := if rec' then s.sec.recRing else s.sec.sealRing
  let x := if rises old new 0 then ringOn (s.reg .sec 0 (off - 8)) (if rec' then 14 else 12) (bits new 8 4) else { g with en := bitOn new 0 }
  if rec' then { t with sec.recRing := x } else { t with sec.sealRing := x }

/-- SEC_CTRL written (R488, R497, R501): COMMIT, and IDE_REQ, which is never cleared. -/
def State.secCtrlWritten (old new a : Nat) (s : State) : State :=
  let t := if falls old new 1 then s.refuse .sec 0 0x108 else s.setReg .sec 0 0x108 new
  if bitOn a 0 then t.commitSvn else t

/-- The security engine page's registers. -/
def State.applySec (off old new a : Nat) (s : State) : State :=
  if off = 0x108 then s.secCtrlWritten old new a
  else if off = 0x408 ∨ off = 0x420 then s.sealCfgWritten off old new
  else s.setReg .sec 0 off new

/-- SB_CTRL.WRITE set (R592, R599): it reads 1 until the write it asked for is done. -/
def State.sbCtrlWritten (a : Nat) (s : State) : State :=
  if bitOn a 0 then (s.setReg .sb 0 0x118 1).sbRequest else s

/-- HIF_RINGr_CFG written (R564). A VEC that waits for HOLDOFF_US still comes (R557). -/
def State.ringCfgWritten (r old new : Nat) (s : State) : State :=
  let off := 0x408 + 0x20 * r
  if rises old new 0 then
    (s.setReg .hif 0 off new).setHring r
      { base := s.reg .hif 0 (off - 8), sizeLog2 := bits new 11 7, prod := s.reg .hif 0 (off + 8), cons := s.reg .hif 0 (off + 16)
        holdoff := (s.hring r).holdoff, moved := (s.hring r).moved }
  else if falls old new 0 && s.outstanding r != 0 then (s.setReg .hif 0 off (setBit new 0)).refuse .hif 0 off
  else s.setReg .hif 0 off new

/-- The trace registers of a logical block (R104, R105). -/
def State.traceCtrlWritten (l p old new : Nat) (s : State) : State :=
  (s.setReg .blk l 0x118 new).onBlock p (fun b =>
    if rises old new 0 then
      { b with trace := { b.trace with en := true, base := s.reg .blk l 0x110, sizeLog2 := bits new 15 12, head := 0, wrapped := false } }
    else { b with trace.en := bitOn new 0 })

/-- The registers of a logical block's page; its own ignore writes while no placement is LIVE or maps it (R105). -/
def State.applyBlk (l off old new : Nat) (s : State) : State :=
  if off < 0x100 then s.setReg .blk l off new
  else match s.shown l with
  | none => s
  | some p =>
    if off = 0x118 then s.traceCtrlWritten l p old new
    else if off = 0x120 then s.onBlock p (fun b => { b with numInv := bits new 11 8, numLoss := bits new 7 4, numOvf := bits new 3 0 })
    else s.setReg .blk l off new

/-- TM_GATE_CTRL written (R331, R346): CHANGE asks for a replacement of the schedule. -/
def State.gateCtrlWritten (n new a : Nat) (s : State) : State :=
  let t := s.setReg .port n 0x580 new
  if bitOn a 1 && !bitOn new 1 then
    let base := s.reg .port n 0x588
    let x := s.port n
    (t.setReg .port n 0x580 (setBit new 1)).setPort n
      { x with gate.changeAt := some (cycleAt base (s.fld .port n 0x590 31 0) (max base (s.time.now + 1000))) }
  else t

/-- RL_PORTCFG or EP_CFG written (R351, R385): a port that is up in the register's mode goes down and comes up again with the new values; the
odd port that SPEED 0b11 takes goes out of service. -/
def State.portCfgWritten (n off new : Nat) (s : State) : State :=
  let mine := s.portMode n == (if off = 0x800 then 2 else 1)
  let t := if mine then s.portDown n else s
  let u := if mine && off == 0x810 && bits new 4 3 == 3 then t.portDown (n + 1) else t
  (u.setReg .port n off new).fabricSettled

/-- The registers of a port's page. -/
def State.applyPort (n off new a : Nat) (s : State) : State :=
  if off = 0x580 then s.gateCtrlWritten n new a
  else if (off = 0x588 ∨ off = 0x590 ∨ 0x600 ≤ off ∧ off < 0x800) ∧ bitOn (s.reg .port n 0x580) 1 then
    s.setReg .port n 0x580 (setBit (s.reg .port n 0x580) 3)
  else if off = 0x800 ∨ off = 0x810 then s.portCfgWritten n off new
  else s.setReg .port n off new

/-- Port dies other than a Sifter's own among those SFT_ORDER names (R238). -/
def otherDies (sf v : Nat) : Bool := bits v 3 0 != 0 && clearBit (bits v 3 0) (sf / 8) != 0

/-- A resident program that names the port would fail check 6 or 7 on it with a budget (R263, R264). -/
def State.breaksProgram (s : State) (sf port budget : Nat) : Bool :=
  (s.sifterAt sf).slots.any (fun g => bitOn g.2.portMask port &&
    (decide (budget < g.2.bound) || (progPaths (g.2.insns.map BitVec.toNat)).both))

/-- SFT_PORTCFGp written (R238, R264). -/
def State.portcfgWritten (sf port old new : Nat) (s : State) : State :=
  let off := 0x100 + 8 * port
  let broken := rises old new 8 && otherDies sf (s.reg .sft sf 0x1C0)
  let v := if broken then clearBit new 8 else new
  if (rises old v 8 || decide (bits v 6 0 < bits old 6 0)) && bitOn v 8 && s.breaksProgram sf port (bits v 6 0) then s.refuse .sft sf off
  else if broken then (s.setReg .sft sf off v).refuse .sft sf off
  else s.setReg .sft sf off v

/-- RING_CFG of a Sifter ring written (R273). -/
def State.sftRingWritten (sf ring old new : Nat) (s : State) : State :=
  let off := 0x208 + 0x20 * ring
  let t := s.setReg .sft sf off new
  let u := s.sifterAt sf
  let g := if ring = 0 then u.copyRing else u.noticeRing
  let x := if rises old new 0 then ringOn (s.reg .sft sf (off - 8)) (if bitOn new 1 then 11 else 8) (bits new 8 4) else { g with en := bitOn new 0 }
  { t with sft.units := Sparse.set {} t.sft.units sf (if ring = 0 then { u with copyRing := x } else { u with noticeRing := x }) }

/-- The registers of a Sifter's page. -/
def State.applySft (sf off old new : Nat) (s : State) : State :=
  if 0x100 ≤ off ∧ off < 0x120 then s.portcfgWritten sf ((off - 0x100) / 8) old new
  else if off = 0x1C0 then
    (if otherDies sf new && (List.range 4).any (fun p => s.fld .sft sf (0x100 + 8 * p) 8 8 == 1) then s.refuse .sft sf off
     else s.setReg .sft sf off new)
  else if off = 0x208 ∨ off = 0x228 then s.sftRingWritten sf ((off - 0x208) / 0x20) old new
  else s.setReg .sft sf off new

/-- The registers of a collective engine's page (R409, R418): a write of COL_LAST re-bases the order. -/
def State.applyColl (e off new : Nat) (s : State) : State :=
  if (off = 0x100 ∨ off = 0x108) ∧ e ≠ 0 then s
  else if off = 0x108 then
    (if s.coll.slots.isEmpty && s.coll.held.isEmpty && s.coll.queued.isEmpty then { s with coll.last := new, coll.ended := [] }
     else s.refuse .coll e off)
  else s.setReg .coll e off new

/-- The registers of the Pantry's page (R314). -/
def State.applyPnt (off old new : Nat) (s : State) : State :=
  if off = 0x100 then
    (if rises old new 0 then
       (if s.layoutOk (bits new 15 9) then (s.setReg .pnt 0 off new).pantryOn (bits new 15 9)
        else (s.setReg .pnt 0 off (clearBit new 0)).refuse .pnt 0 off)
     else if falls old new 0 then
       (if s.pnt.bufs.isEmpty then { s.setReg .pnt 0 off new with pnt.en := false } else (s.setReg .pnt 0 off (setBit new 0)).refuse .pnt 0 off)
     else s.setReg .pnt 0 off new)
  else s.setReg .pnt 0 off new

/-- MEM_MAINT written (R441, R448): RETRAIN stays set until the channel has been retrained. -/
def State.maintWritten (n new a : Nat) (s : State) : State :=
  if !bitOn a 32 then s.setReg .stk n 0x108 new
  else if (s.stack n).state ≠ 1 then (s.setReg .stk n 0x108 new).refuse .stk n 0x108
  else (s.setReg .stk n 0x108 (setBit new 32)).retrainStart n (bits new 31 27)

/-- MEM_MODE written (R425): NF changes only when its conditions hold, after every cache is written back and emptied. -/
def State.modeWritten (old new : Nat) (s : State) : State :=
  if bit old 0 = bit new 0 then s.setReg .mctl 0 0x100 new
  else if s.nfMayChange then
    { s.setReg .mctl 0 0x100 new with
      mem.units := (s.mem.units.map (fun c => (c.1, { c.2 with dirty := [] }))).filter (fun c => decide (c.2 ≠ {})) }
  else (s.setReg .mctl 0 0x100 (setBits new 0 0 (bit old 0))).refuse .mctl 0 0x100

/-- RL_PMODE written (R349): every port of a group whose mode changes goes down, its queues are discarded, and it comes up in the new mode. -/
def State.pmodeWritten (old new : Nat) (s : State) : State :=
  let gs := (List.range 16).filter (fun g => bits old (2 * g + 1) (2 * g) != bits new (2 * g + 1) (2 * g))
  let t := gs.foldl (fun s g => (List.range 8).foldl (fun s k => (s.portDown (8 * g + k)).clearQueues (8 * g + k)) s) s
  (t.setReg .fab 0 0x110 new).fabricSettled

/-- Every Rally port is down (R366). -/
def State.rallyDown (s : State) : Bool := s.rly.links.all (fun c => c.2.st == lkDown)

/-- A version's entries may be made ACTIVE (R376). -/
def State.versionOk (s : State) (v : Nat) : Bool :=
  (List.range 3).all (fun a => (List.range 16).all (fun c =>
    let ps := entryPorts (s.rte v a c)
    ps.all (fun n => s.portMode n == 2) &&
      (ps.isEmpty || (c != coordOf s.module a && decide (c ≤ s.fld .fab 0 0x100 (4 * a + 19) (4 * a + 16))))))

/-- RL_EPOCH written (R376). -/
def State.epochWritten (old new : Nat) (s : State) : State :=
  let inj := bit new 0
  let bad := (List.range 2).any (fun v => rises old new (1 + v) && !s.versionOk v) ||
    (bit old 0 != inj && !bitOn new (1 + inj)) || falls old new (1 + inj)
  if bad then s.refuse .fab 0 0x118 else s.setReg .fab 0 0x118 new

/-- The registers of the fabric's page (R366, R376, R380). -/
def State.applyFab (off old new : Nat) (s : State) : State :=
  if off = 0x100 ∨ off = 0x108 then (if s.rallyDown then s.setReg .fab 0 off new else s.refuse .fab 0 off)
  else if off = 0x110 then s.pmodeWritten old new
  else if off = 0x118 then s.epochWritten old new
  else if off = 0x120 then (s.setReg .fab 0 off new).fabricSettled
  else if 0x400 ≤ off then (if s.versionActive ((off - 0x400) / 0x180) then s.refuse .fab 0 off else s.setReg .fab 0 off new)
  else s.setReg .fab 0 off new

/-- What follows the value a register takes: `a` holds the ones written, `m` the bits covered. -/
def State.applyReg (p : Page) (i off old new a m : Nat) (s : State) : State :=
  if off = 0x20 then s.errStatWritten p i new
  else match p with
  | .ref => s.applyRef off old new a m
  | .cfg => if off = 0x180 then s.detWritten new else s.setReg .cfg 0 off new
  | .clk => s.applyClk off new m
  | .sec => s.applySec off old new a
  | .sb => if off = 0x118 then s.sbCtrlWritten a else s.setReg .sb 0 off new
  | .hif => if 0x400 ≤ off ∧ off % 0x20 = 8 then s.ringCfgWritten ((off - 0x400) / 0x20) old new else s.setReg .hif 0 off new
  | .blk => s.applyBlk i off old new
  | .port => s.applyPort i off new a
  | .sft => s.applySft i off old new
  | .coll => s.applyColl i off new
  | .pnt => s.applyPnt off old new
  | .stk => if off = 0x108 then s.maintWritten i new a else s.setReg .stk i off new
  | .mctl => if off = 0x100 then s.modeWritten old new else s.setReg .mctl 0 off new
  | .fab => s.applyFab off old new
  | _ => s.setReg p i off new

/-- A write of `d` to the bits `m` of a register (R12, R14). -/
def State.regWritten (p : Page) (i off d m : Nat) (s : State) : State :=
  match findReg p off with
  | none => s
  | some (r, _) =>
    let w := s.fieldsWritten p i off d m r.fields
    let t := s.applyReg p i off (s.programmed p i off) w.1 (d &&& m) m
    if w.2 then t.regErr p i 0 off else t

/-! ### BAR0 (R528, R560, R561, R567, R568) -/

/-- The clock multiplexer whose domain a page's unit runs in, for the units that R535 lists. -/
def pageMux (p : Page) (i : Nat) : Option Nat :=
  match p with
  | .stk => some (lb4Mux i)
  | .sft => some (1 + i / 8)
  | .port => some (1 + i / 32)
  | .coll => some (1 + i)
  | .pnt => some 1
  | .sw => some 1
  | .fab => some 1
  | _ => none

/-- A page answers with its registers: it is exposed by the grade (R560), served at this stage (R490, R568), and its clock has not stopped
(R528). -/
def State.pageServed (s : State) (p : Page) (i : Nat) : Bool :=
  (if s.sec.recovery then p == .ref || p == .sec else s.ref.ready || p == .ref || p == .sb || p == .sec) &&
  (p != .blk || decide (i < 32 * s.exposed)) &&
  (match pageMux p i with | some m => !s.clockStopped m | none => true)


/-- An access of 4 or 8 bytes, naturally aligned (R561). -/
def bar0Fits (off size : Nat) : Bool := (size == 4 || size == 8) && off % size == 0

/-- Eight bytes of the MSI-X table: bit 32 of the second half of an entry is its mask. -/
def State.msixView (s : State) (a : Nat) : Nat :=
  let w := s.hif.msixTable.readNat (a / 8 * 8) 8
  if a / 8 % 2 = 1 then setBits w 32 32 (1 - s.hif.msixMask.num (a / 16)) else w

/-- Eight bytes of the pending bit array. -/
def State.pbaView (s : State) (a : Nat) : Nat :=
  maskOf ((s.hif.msixPba.filter (fun v => v / 64 == a / 8)).map (fun v => v % 64))

/-- The MSI-X table written: an entry that is unmasked sends what was pending (R557, R560). -/
def State.msixWrite (a size data : Nat) (s : State) : State :=
  let t := s.hif.msixTable.write a (leBytes size data)
  let u : State := { s with hif.msixTable := t }
  if a % 16 + size = 16 then
    ({ u with hif.msixMask := u.hif.msixMask.setNum (a / 16) (1 - (t.readNat (a / 16 * 16 + 12) 1) % 2) } : State).flushVecs
  else u

/-- A write of 4 or 8 bytes to BAR0 (R560, R561). One that the link does not admit yet does nothing (R543, log 118). -/
def State.bar0Write (off size data : Nat) (s : State) : State :=
  if !s.bar0Open || s.stalled || !bar0Fits off size then s
  else match pageOf off with
  | some (p, i, o) =>
    if s.pageServed p i then s.regWritten p i (o / 8 * 8) (writeData o size data) (writeMask o size) else s
  | none => if s.ref.ready && decide (0x8000 ≤ off) && decide (off < 0x10000) then s.msixWrite (off - 0x8000) size data else s

/-- What a read clears (R12, R561, R597): RC fields, on a read of 8 bytes, and the other register of a gap pair, which is latched. -/
def State.readEffects (p : Page) (i off size : Nat) (s : State) : State :=
  match p with
  | .ref =>
    if off = 0x550 then { s with jnl.latchGap := some (jseqOr (s.jnl.gap.map Prod.snd)) }
    else if off = 0x558 then { s with jnl.latchGap := none }
    else if off = 0x560 then { s with jnl.latchMgap := some (jseqOr (s.jnl.mgap.map Prod.snd)) }
    else if off = 0x568 then { s with jnl.latchMgap := none }
    else counts s
  | .hif => if off = 0x110 ∧ size = 8 then { s with hif.errq := s.hif.errq.tail, hif.errqOvf := false } else counts s
  | .blk =>
    match s.shown i with
    | some q =>
      if off = 0x118 ∧ size = 8 then s.onBlock q (fun b => { b with trace.drops := 0 })
      else if off = 0x130 ∧ size = 8 then s.onBlock q (fun b => { b with mmasBeats := 0, denseBeats := 0 })
      else counts s
    | none => counts s
  | .port => if off = 0x808 ∧ size = 8 then s.setReg .port i 0x808 (s.reg .port i 0x808 % 2 ^ 16) else counts s
  | .sft =>
    if off = 0x1D0 ∧ size = 8 then { s with sft.units := Sparse.set {} s.sft.units i { s.sifterAt i with hodrop := 0 } } else counts s
  | .pnt => if off = 0x140 ∧ size = 8 then { s with pnt.leaks := 0 } else counts s
  | _ => counts s
where
  /-- An event count is cleared (R558). -/
  counts (s : State) : State := if 0x80 ≤ off ∧ off < 0xC0 ∧ size = 8 then s.setReg p i off 0 else s

/-- The half of a register that a read returns. -/
def halfOf (off size v : Nat) : Nat := if size = 8 then v % 2 ^ 64 else if off % 8 = 4 then bits v 63 32 else bits v 31 0

/-- The answer to a BAR0 read. -/
def State.readAnswer (v : Nat) (s : State) : State := { s with out.read := some (0, v) }

/-- The cache's hits and misses since they were last shown are counted: how many there were depends on timing and is a free value (R426, R448,
log 54). -/
def State.cacheCounted (p : Page) (i off : Nat) (s : State) : State :=
  if p = .stk ∧ (off = 0xA8 ∨ off = 0xB0) then
    s.useFree.setReg .stk i off (min max64 (s.reg .stk i off + Config.free s.free))
  else s

/-- A read of 4 or 8 bytes of BAR0 (R560, R561). -/
def State.bar0Read (off size : Nat) (s : State) : State :=
  if !s.linked || !bar0Fits off size then s
  else if !s.bar0Open then { s with out.read := some (1, 0) }
  else match pageOf off with
  | some (p, i, o) =>
    let r := o / 8 * 8
    if !s.pageServed p i then s.readAnswer 0
    else
      let t := s.cacheCounted p i r
      (t.readEffects p i r size).readAnswer (halfOf o size (t.regView p i r))
  | none =>
    s.readAnswer (if !s.ref.ready then 0
      else if 0x8000 ≤ off ∧ off < 0x10000 then halfOf off size (s.msixView (off - 0x8000))
      else if 0x10000 ≤ off ∧ off < 0x10100 then halfOf off size (s.pbaView (off - 0x10000))
      else 0)

/-- A write of 8 bytes to a register of a page. -/
def State.pageWrite (p : Page) (i off data : Nat) (s : State) : State :=
  if i < p.count then s.bar0Write (p.at i + off) 8 data else s

end Sys2Proof.Machine
end

