-- ==== Sys2Proof/Machine/Reset.lean ====
section
/-! DEFINITION. The meanings of resets, start-up, power and thermal trips (R516, R537, R565 to R571, R579, R609 to R614). -/

namespace Sys2Proof.Machine

/-- Everything but the OTP fuses and the host's memory may change, the fences only by being added to. -/
def touchMost : Touch :=
  { ref := true, time := true, clk := true, dev := true, mem := true, place := true, blocks := true, hud := true, hif := true, sft := true
    sw := true, pnt := true, ports := true, rly := true, coll := true, jnl := true, sec := true, prf := true, sb := true, regs := true
    out := true, free := true, fence := true }

/-- A full reset also clears the fences (R23, R566). -/
def touchReset : Touch := { touchMost with unfence := true }

/-- POWER_APPLY (R613). -/
def execPowerApply (s : State) : Host.Outcome State Fault Refusal := s.answer touchReset s.powerApplied

/-- POWER_FAIL (R614). -/
def execPowerFail (s : State) : Host.Outcome State Fault Refusal := s.answer touchMost s.powerFails

/-- PERST_ASSERT (R565). -/
def execPerstAssert (s : State) : Host.Outcome State Fault Refusal := s.answer touchReset (s.resetIf s.ref.p54 2)

/-- PCIE_HOT_RESET (R23, R537, R565). -/
def execPcieHotReset (s : State) : Host.Outcome State Fault Refusal := s.answer touchReset (s.resetIf s.linked 3)

/-- PCIE_LINK_DISABLE (R537, R565). -/
def execPcieLinkDisable (s : State) : Host.Outcome State Fault Refusal := s.answer touchReset (s.resetIf s.linked 4)

/-- REFEREE_WATCHDOG (R565). -/
def execRefereeWatchdog (s : State) : Host.Outcome State Fault Refusal := s.answer touchReset (s.resetIf s.ref.island 7)

/-- RESET_RELEASE (R567). -/
def execResetRelease (env : List Nat) (s : State) : Host.Outcome State Fault Refusal := s.answer touchMost (s.resetReleased env)

/-- EPO_N_ASSERT (R579, R610): `held` when the pin stays asserted, false when it is let go afterwards. -/
def execEpoNAssert (held : Bool) (s : State) : Host.Outcome State Fault Refusal :=
  s.answer touchMost (if s.ref.island then { s.emergencyOff with ref.epoPin := held } else { s with ref.epoPin := held })

/-- AUX_12V_CHANGE (R609). -/
def execAux12vChange (applied : Bool) (s : State) : Host.Outcome State Fault Refusal :=
  s.answer { ref := true, sb := true, regs := true } (s.auxChange applied)

/-- MTEST_DONE (R570). -/
def execMtestDone (failMask : Nat) (s : State) : Host.Outcome State Fault Refusal := s.answer touchMost (s.mtestEnd failMask)

/-- THERMAL_TRIP (R516): units 0x00 to 0x1F are compute dies, 0x20 to 0x23 port dies, 0x30 to 0x3F LB4s. -/
def execThermalTrip (unit sensor : Nat) (s : State) : Host.Outcome State Fault Refusal :=
  s.answer touchMost (if unit < 32 then (s.tripDie unit sensor).collSettle else s.coresTrip unit sensor)

end Sys2Proof.Machine
end

