-- ==== Sys2Proof/Machine/Management.lean ====
section
/-! DEFINITION. The meanings of the management interface's READ, WRITE, RESET and EPO (R577, R578). -/

namespace Sys2Proof.Machine

/-- What READ answers: a register of the Referee or Scorebook page; another offset reads 0. -/
def State.mgmtValue (s : State) (off : Nat) : Nat :=
  match pageOf off with
  | some (p, i, o) =>
    if o % 8 ≠ 0 then 0
    else if p = .ref ∧ 0x300 ≤ o ∧ o ≤ 0x318 then s.ref.sdMgmt.view o
    else if p = .ref ∨ p = .sb then s.regView p i o
    else 0
  | none => 0

/-- MGMT_READ (R577, R578): without side effects. -/
def execMgmtRead (reg : Nat) (s : State) : Host.Outcome State Fault Refusal :=
  s.answer { out := true } (if s.ref.island then { s with out.mgmt := some (BitVec.ofNat 64 (s.mgmtValue reg)) } else s)

/-- WRITE reaches SD_SEL of the management set, SB_SEL, SB_CTRL and RF_RESET. -/
def State.mgmtWritten (off data : Nat) (s : State) : State :=
  let m := 2 ^ 64 - 1
  if off = 0x300 then s.sdWritten true (bits data 16 0)
  else if off = 0x5108 ∨ off = 0x5118 then s.regWritten .sb 0 (off - 0x5000) data m
  else if off = 0x108 then s.resetWritten 5 data
  else s

/-- MGMT_WRITE (R577). -/
def execMgmtWrite (reg data : Nat) (s : State) : Host.Outcome State Fault Refusal :=
  s.answer { touchMost with unfence := decide (reg = 0x108) } (if s.ref.island then s.mgmtWritten reg (data % 2 ^ 64) else s)

/-- MGMT_RESET (R565, R577). -/
def execMgmtReset (s : State) : Host.Outcome State Fault Refusal := s.answer touchReset (s.resetIf s.ref.island 6)

/-- MGMT_EPO (R577, R579). -/
def execMgmtEpo (s : State) : Host.Outcome State Fault Refusal :=
  s.answer touchMost (if s.ref.island then s.emergencyOff else s)

end Sys2Proof.Machine
end

