-- ==== Sys2Proof/Machine/Memory.lean ====
section
/-! DEFINITION. The meanings of the device-memory commands: accesses and atomics at an LB4, patrol scrub, retraining and self-refresh
(R419 to R444; 12_memory_system.md). -/

namespace Sys2Proof.Machine

/-- What an access to device memory may change. -/
def touchMem : Touch := { dev := true, mem := true, regs := true, out := true, sb := true, ref := true, hif := true, free := true }

/-- What the end of a wait for memory may change: the Rally REQ server and the Sifters' records go on too (R259, R432). -/
def touchWaits : Touch := { touchMem with rly := true, pnt := true, sft := true, sw := true, ports := true, jnl := true }

/-- MEM_ACCESS (R422). -/
def execMemAccess (write : Bool) (addr len : Nat) (data : List (BitVec 8)) (outcome : Nat) (s : State) : Host.Outcome State Fault Refusal :=
  s.answer touchMem (s.memAccess write addr len data outcome)

/-- ATOMIC_ADD (R428). -/
def execAtomicAdd (addr width operand : Nat) (s : State) : Host.Outcome State Fault Refusal :=
  s.answer touchMem (s.memAtomic (aopOf 0 width) addr (leBytes 8 operand))

/-- ATOMIC_SMIN (R428). -/
def execAtomicSmin (addr width operand : Nat) (s : State) : Host.Outcome State Fault Refusal :=
  s.answer touchMem (s.memAtomic (aopOf 1 width) addr (leBytes 8 operand))

/-- ATOMIC_SMAX (R428). -/
def execAtomicSmax (addr width operand : Nat) (s : State) : Host.Outcome State Fault Refusal :=
  s.answer touchMem (s.memAtomic (aopOf 2 width) addr (leBytes 8 operand))

/-- ATOMIC_UMIN (R428). -/
def execAtomicUmin (addr width operand : Nat) (s : State) : Host.Outcome State Fault Refusal :=
  s.answer touchMem (s.memAtomic (aopOf 3 width) addr (leBytes 8 operand))

/-- ATOMIC_UMAX (R428). -/
def execAtomicUmax (addr width operand : Nat) (s : State) : Host.Outcome State Fault Refusal :=
  s.answer touchMem (s.memAtomic (aopOf 4 width) addr (leBytes 8 operand))

/-- ATOMIC_SWAP (R428). -/
def execAtomicSwap (addr width operand : Nat) (s : State) : Host.Outcome State Fault Refusal :=
  s.answer touchMem (s.memAtomic (aopOf 5 width) addr (leBytes 8 operand))

/-- ATOMIC_CAS (R428): the compare value and then the new value. -/
def execAtomicCas (addr width compare operand : Nat) (s : State) : Host.Outcome State Fault Refusal :=
  s.answer touchMem (s.memAtomic (aopOf 6 width) addr (leBytes (width / 8) compare ++ leBytes (width / 8) operand))

/-- ATOMIC_FADD (R428, R431). -/
def execAtomicFadd (addr operand : Nat) (s : State) : Host.Outcome State Fault Refusal :=
  s.answer touchMem (s.memAtomic 7 addr (leBytes 4 operand))

/-- ADD_EXACT (R430): `fmt` is KIND. -/
def execAddExact (addr fmt operand : Nat) (s : State) : Host.Outcome State Fault Refusal :=
  s.answer touchMem (s.memAtomic (8 + 32 * (fmt % 4)) addr (leBytes 72 operand))

/-- HBM_SCRUB (R438). -/
def execHbmScrub (word outcome : Nat) (s : State) : Host.Outcome State Fault Refusal :=
  s.answer touchMem (s.inDomain (lb4Mux (word / 2 ^ 31)) (fun s => if 2 ^ 35 ≤ word then s else s.hbmScrub word outcome))

/-- HBM_RETRAIN_START (R441). -/
def execHbmRetrainStart (stack ch : Nat) (s : State) : Host.Outcome State Fault Refusal :=
  s.answer touchMem (s.inDomain (lb4Mux stack) (fun s => if 16 ≤ stack ∨ 32 ≤ ch then s else s.retrainStart stack ch))

/-- HBM_RETRAIN_DONE (R441, R442). -/
def execHbmRetrainDone (stack : Nat) (ok : Bool) (s : State) : Host.Outcome State Fault Refusal :=
  s.answer touchWaits (s.inDomain (lb4Mux stack) (fun s => if 16 ≤ stack then s else s.retrainDone stack ok))

/-- SELF_REFRESH_ENTRY (R444). -/
def execSelfRefreshEntry (stack : Nat) (s : State) : Host.Outcome State Fault Refusal :=
  s.answer { mem := true } (s.inDomain (lb4Mux stack) (fun s => if 16 ≤ stack then s else s.selfRefresh stack))

end Sys2Proof.Machine
end

