-- ==== Sys2Proof/Machine/Proofer.lean ====
section
/-! DEFINITION. The meanings of the Proofer's events (R502 to R515; 15_power_thermal_and_clocks.md). -/

namespace Sys2Proof.Machine

/-- What a Proofer event may change: its own state, errors, and with admission the blocks and commands. -/
def touchPrf : Touch := { prf := true, blocks := true, hif := true, regs := true, out := true, ref := true, sb := true, free := true }

/-- PROOFER_SAMPLE (R502, R510, R517). -/
def execProoferSample (sensors : List Nat) (s : State) : Host.Outcome State Fault Refusal := s.answer touchPrf (s.prooferSampleNow sensors)

/-- PROOFER_WINDOW (R505, R512). -/
def execProoferWindow (s : State) : Host.Outcome State Fault Refusal := s.answer { prf := true } s.prooferWindowNow

/-- PROOFER_ADMIT (R505 to R509). -/
def execProoferAdmit (s : State) : Host.Outcome State Fault Refusal :=
  s.answer { touchPrf with dev := true, mem := true } s.admitReady

/-- PRF_OVERPOWER (R511). -/
def execPrfOverpower (s : State) : Host.Outcome State Fault Refusal := s.answer touchPrf s.overpower

/-- PROOFER_WARM (R515). -/
def execProoferWarm (s : State) : Host.Outcome State Fault Refusal := s.answer { prf := true } s.warmUp

end Sys2Proof.Machine
end

