-- ==== Sys2Proof/Machine/Registers.lean ====
section
/-! DEFINITION. The meanings of BAR0 register reads and writes, one for each register that the command table gives a row of its own
(R12, R560, R561, and each chapter's register rules). -/

namespace Sys2Proof.Machine

/-- GENERIC_REGISTER_WRITE (R12, R14, R561): any write of 4 or 8 bytes to BAR0. Only the security engine's page reaches OTP_SVN (R488),
and only RF_RESET clears fences (R23, R565). -/
def execGenericRegisterWrite (off size data : Nat) (s : State) : Host.Outcome State Fault Refusal :=
  s.answer { touchMost with unfence := decide (off / 8 * 8 = 0x108), otp := (pageOf off).any (fun x => x.1 == Page.sec), host := true }
    (s.bar0Write off size data)

/-- RC_REGISTER_READ (R12, R561): any read of 4 or 8 bytes of BAR0; RC fields are cleared. -/
def execRcRegisterRead (off size : Nat) (s : State) : Host.Outcome State Fault Refusal :=
  s.answer { touchTake with jnl := true, blocks := true, sft := true, pnt := true, free := true } (s.bar0Read off size)

/-- ERR_STAT_WRITE (R559): a write to the error register of any page. -/
def execErrStatWrite (off size data : Nat) (s : State) : Host.Outcome State Fault Refusal :=
  s.answer touchTake (match pageOf off with
    | some (_, _, o) => if o / 8 * 8 = 0x20 then s.bar0Write off size data else s
    | none => s)

/-- HIF_ERRQ_READ (R563). -/
def execHifErrqRead (s : State) : Host.Outcome State Fault Refusal :=
  s.answer touchTake (s.bar0Read 0x7110 8)

/-- BLK_TRACE_CTRL_WRITE (R104). -/
def execBlkTraceCtrlWrite (blk data : Nat) (s : State) : Host.Outcome State Fault Refusal :=
  s.answer { touchTake with blocks := true } (s.pageWrite .blk blk 0x118 data)

/-- SD_SEL_WRITE (R216, R217), of the host set. -/
def execSdSelWrite (data : Nat) (s : State) : Host.Outcome State Fault Refusal :=
  s.answer touchTake (s.pageWrite .ref 0 0x300 data)

/-- SD_FETCH_DONE (R217 to R219), of either set. -/
def execSdFetchDone (mgmt : Bool) (s : State) : Host.Outcome State Fault Refusal := s.answer { ref := true } (s.sdDone mgmt)

/-- DIE_ARB_WEIGHT_WRITE (R51). -/
def execDieArbWeightWrite (die data : Nat) (s : State) : Host.Outcome State Fault Refusal :=
  s.answer touchTake (s.pageWrite .die die 0x100 data)

/-- CFG_DET_WRITE (R456). -/
def execCfgDetWrite (data : Nat) (s : State) : Host.Outcome State Fault Refusal :=
  s.answer { touchTake with place := true } (s.pageWrite .cfg 0 0x180 data)

/-- SFT_PORTCFG_WRITE (R238, R264, R270). -/
def execSftPortcfgWrite (sf port data : Nat) (s : State) : Host.Outcome State Fault Refusal :=
  s.answer touchTake (if port < 4 then s.pageWrite .sft sf (0x100 + 8 * port) data else s)

/-- SFT_ORDER_WRITE (R238). -/
def execSftOrderWrite (sf data : Nat) (s : State) : Host.Outcome State Fault Refusal :=
  s.answer touchTake (s.pageWrite .sft sf 0x1C0 data)

/-- SFT_TAB_WRITE (R274). -/
def execSftTabWrite (sf table data : Nat) (s : State) : Host.Outcome State Fault Refusal :=
  s.answer touchTake (if table < 16 then s.pageWrite .sft sf (0x300 + 8 * table) data else s)

/-- SIFTER_RING_ENABLE (R273). -/
def execSifterRingEnable (sf ring data : Nat) (s : State) : Host.Outcome State Fault Refusal :=
  s.answer { touchTake with sft := true } (if ring < 2 then s.pageWrite .sft sf (0x208 + 0x20 * ring) data else s)

/-- PNT_CSCFG_WRITE (R314). -/
def execPntCscfgWrite (data : Nat) (s : State) : Host.Outcome State Fault Refusal :=
  s.answer { touchTake with pnt := true } (s.pageWrite .pnt 0 0x100 data)

/-- TM_GATE_CTRL_WRITE (R331, R346). -/
def execTmGateCtrlWrite (port data : Nat) (s : State) : Host.Outcome State Fault Refusal :=
  s.answer { touchTake with ports := true } (s.pageWrite .port port 0x580 data)

/-- MT_PTPCFG_WRITE (R347). -/
def execMtPtpcfgWrite (data : Nat) (s : State) : Host.Outcome State Fault Refusal :=
  s.answer { touchTake with time := true } (s.pageWrite .ref 0 0x410 data)

/-- RL_PMODE_WRITE (R349). -/
def execRlPmodeWrite (data : Nat) (s : State) : Host.Outcome State Fault Refusal :=
  s.answer touchColl (s.pageWrite .fab 0 0x110 data)

/-- RL_COORD_WRITE (R366). -/
def execRlCoordWrite (data : Nat) (s : State) : Host.Outcome State Fault Refusal :=
  s.answer touchTake (s.pageWrite .fab 0 0x100 data)

/-- RL_EPOCH_WRITE (R376). -/
def execRlEpochWrite (data : Nat) (s : State) : Host.Outcome State Fault Refusal :=
  s.answer touchTake (s.pageWrite .fab 0 0x118 data)

/-- RL_RTE_WRITE (R376, R384). -/
def execRlRteWrite (version axis coord data : Nat) (s : State) : Host.Outcome State Fault Refusal :=
  s.answer touchTake
    (if version < 2 ∧ axis < 3 ∧ coord < 16 then s.pageWrite .fab 0 (0x400 + 0x180 * version + 0x80 * axis + 8 * coord) data else s)

/-- RL_FENCE_WRITE (R380). -/
def execRlFenceWrite (data : Nat) (s : State) : Host.Outcome State Fault Refusal :=
  s.answer touchColl (s.pageWrite .fab 0 0x120 data)

/-- PORT_CFG_WRITE (R351, R385): RL_PORTCFG or EP_CFG. -/
def execPortCfgWrite (port reg data : Nat) (s : State) : Host.Outcome State Fault Refusal :=
  s.answer touchColl (if reg = 0x800 ∨ reg = 0x810 then s.pageWrite .port port reg data else s)

/-- COL_LAST_WRITE (R409). -/
def execColLastWrite (data : Nat) (s : State) : Host.Outcome State Fault Refusal :=
  s.answer { touchTake with coll := true } (s.pageWrite .coll 0 0x108 data)

/-- MEM_MODE_WRITE (R425). -/
def execMemModeWrite (data : Nat) (s : State) : Host.Outcome State Fault Refusal :=
  s.answer { touchTake with mem := true } (s.pageWrite .mctl 0 0x100 data)

/-- MEM_MAINT_RETRAIN (R441, R448). -/
def execMemMaintRetrain (stack data : Nat) (s : State) : Host.Outcome State Fault Refusal :=
  s.answer { touchTake with mem := true } (s.pageWrite .stk stack 0x108 data)

/-- SEC_CTRL_COMMIT (R488). -/
def execSecCtrlCommit (data : Nat) (s : State) : Host.Outcome State Fault Refusal :=
  s.answer { touchTake with otp := true, sec := true } (s.pageWrite .sec 0 0x108 data)

/-- SEC_CTRL_IDE_REQ (R497). -/
def execSecCtrlIdeReq (data : Nat) (s : State) : Host.Outcome State Fault Refusal :=
  s.answer { touchTake with otp := true, sec := true } (s.pageWrite .sec 0 0x108 data)

/-- CLK_MUX_WRITE (R527, R535). -/
def execClkMuxWrite (mux data : Nat) (s : State) : Host.Outcome State Fault Refusal :=
  s.answer { touchTake with clk := true } (if mux < 25 then s.pageWrite .clk 0 (0x400 + 8 * mux) data else s)

/-- HIF_BAR2_BASE_WRITE (R540, R563). -/
def execHifBar2BaseWrite (data : Nat) (s : State) : Host.Outcome State Fault Refusal :=
  s.answer touchTake (s.pageWrite .hif 0 0x108 data)

/-- HIF_RING_CFG_WRITE (R564): register 0 BASE, 1 CFG, 2 PROD, 3 CONS of a ring. -/
def execHifRingCfgWrite (ring reg data : Nat) (s : State) : Host.Outcome State Fault Refusal :=
  s.answer touchTake (if ring < 64 ∧ reg < 4 then s.pageWrite .hif 0 (0x400 + 0x20 * ring + 8 * reg) data else s)

/-- RF_RESET_WRITE (R565, R597). -/
def execRfResetWrite (data : Nat) (s : State) : Host.Outcome State Fault Refusal :=
  s.answer touchReset (s.pageWrite .ref 0 0x108 data)

/-- RF_MTEST_START (R570). -/
def execRfMtestStart (data : Nat) (s : State) : Host.Outcome State Fault Refusal :=
  s.answer touchTake (s.pageWrite .ref 0 0x110 data)

/-- JNL_CTRL_WRITE (R583, R597). -/
def execJnlCtrlWrite (data : Nat) (s : State) : Host.Outcome State Fault Refusal :=
  s.answer touchJnl (s.pageWrite .ref 0 0x500 data)

/-- SB_CTRL_WRITE (R592, R599). -/
def execSbCtrlWrite (data : Nat) (s : State) : Host.Outcome State Fault Refusal :=
  s.answer touchTake (s.pageWrite .sb 0 0x118 data)

/-- PRF_DIE_WRITE (R514, R533). -/
def execPrfDieWrite (die data : Nat) (s : State) : Host.Outcome State Fault Refusal :=
  s.answer touchTake (if die < 32 then s.pageWrite .prf 0 (0x200 + 8 * die) data else s)

end Sys2Proof.Machine
end

