-- ==== Sys2Proof/Machine/Scorebook.lean ====
section
/-! DEFINITION. The meanings of the Scorebook's commands: periodic copies, the end of a write and the histograms (R591 to R594). -/

namespace Sys2Proof.Machine

/-- SCOREBOOK_PERIODIC (R592): 15 minutes of power-on time have passed. -/
def execScorebookPeriodic (s : State) : Host.Outcome State Fault Refusal :=
  s.answer { sb := true } (if s.ref.island then s.sbRequest else s)

/-- The copy written is in force, and what was counted since it was taken stays pending (R591, R592). -/
def State.copyWritten (c : SbCopy) (s : State) : State :=
  ({ s with
    sb.inForce := some c, sb.alt := s.sb.inForce, sb.writing := none
    sb.pend := s.sb.pend.foldl (fun m x => m.setNum x.1 (s.sbCount x.1 - c.counts.num x.1)) s.sb.pend } : State).evtAdd .ref 0 7 1

/-- After a write: one further write serves the requests that arrived during it (R592). -/
def State.copyNext (s : State) : State :=
  if s.sb.again then ({ s with sb.again := false } : State).sbRequest
  else s.setReg .sb 0 0x118 (clearBit (s.reg .sb 0 0x118) 0)

/-- SCOREBOOK_WRITE_DONE (R591): a write that failed is retried in the next sector. -/
def execScorebookWriteDone (ok : Bool) (s : State) : Host.Outcome State Fault Refusal :=
  s.answer touchTake (match s.sb.writing with
    | none => s
    | some c =>
      if ok then (s.copyWritten c).copyNext
      else ({ s with sb.writing := some { c with sector := (c.sector + 1) % 256 } } : State).raise0 .sb 0 2)

/-- One count in bin `b` of histogram `h`. -/
def State.binAdd (h b : Nat) (s : State) : State := s.sbAdd (0x4000 + 0x10 * h + b) 1

/-- The bin of a temperature in quarter degrees above −100 °C. -/
def tempBin (v : Nat) : Nat := min 15 ((v - 480) / 20)

/-- The hottest sensor of a port die at the last reading, none where no sensor is valid. -/
def State.portDieTemp (s : State) (p : Nat) : Option Nat :=
  let ok := ((List.range 4).map (fun i => reading s.prf.last (256 + 4 * p + i))).filter sensorInRange
  if ok.isEmpty then none else some (ok.foldl max 0)

/-- The bins of the readings of the last 10 µs: temperature and current; without a reading there is none to count. -/
def State.readingBins (s : State) : State :=
  if s.prf.last.isEmpty then s
  else
    let s1 := (List.range 32).foldl (fun s d => s.binAdd d (tempBin ((s.diePow d).temp + 400).toNat)) s
    let s2 := (List.range 4).foldl (fun s p => match s.portDieTemp p with | some v => s.binAdd (32 + p) (tempBin v) | none => s) s1
    s2.binAdd 68 (min 15 (reading s2.prf.last 881 / 20))

/-- The voltage bins. -/
def State.voltageBins (s : State) : State :=
  (List.range 32).foldl (fun s d => s.binAdd (36 + d) (min 15 ((s.diePow d).vnow / 3))) s

/-- The bit error rate of each port that is up: its bin is a free value. -/
def State.berBins (s : State) : State :=
  (List.range 128).foldl (fun s n => if s.ethUp n || s.linkUp n then s.useFree.binAdd (69 + n) (Config.free s.free % 16) else s) s

/-- The HBM bins, once per hour of power-on time. -/
def State.hbmBins (s : State) : State :=
  if s.sbCount 5 % 3600 ≠ 0 then s
  else (List.range 16).foldl (fun s k =>
    let n := s.sbCount (0x120 + k)
    let past := n - s.sb.hbmBase.num k
    let t := s.binAdd (197 + k) (if past = 0 then 0 else min 15 (Nat.log2 past + 1))
    { t with sb.hbmBase := t.sb.hbmBase.setNum k n }) s

/-- HISTOGRAM_TICK (R593, R594): a second of power-on time. -/
def execHistogramTick (s : State) : Host.Outcome State Fault Refusal :=
  s.answer { sb := true, free := true }
    (if s.ref.island then (s.sbAdd 5 1).readingBins.voltageBins.berBins.hbmBins else s)

end Sys2Proof.Machine
end

