-- ==== Sys2Proof/Machine/Security.lean ====
section
/-! DEFINITION. The meanings of the security engine's commands and events (R486 to R498; 14_security_and_attestation.md). -/

namespace Sys2Proof.Machine

/-- FW_UPDATE (R486). -/
def execFwUpdate (way : FlashWay) (s : State) : Host.Outcome State Fault Refusal :=
  s.answer { touchData with sec := true } (s.fwUpdateCmd way)

/-- ATTEST (R494). -/
def execAttest (way : HostWay) (s : State) : Host.Outcome State Fault Refusal := s.answer touchData (s.attestCmd way)

/-- GET_RANDOM (R498). -/
def execGetRandom (way : HostWay) (s : State) : Host.Outcome State Fault Refusal := s.answer touchData (s.getRandomCmd way)

/-- What an error of the security engine may change. -/
def touchSecErr : Touch := { sec := true, regs := true, out := true, ref := true, hif := true, sb := true }

/-- TRNG_HEALTH_FAIL (R498). -/
def execTrngHealthFail (s : State) : Host.Outcome State Fault Refusal := s.answer touchSecErr s.trngFails

/-- SEC_IDE_FAULT (R497). -/
def execSecIdeFault (stream : Nat) (s : State) : Host.Outcome State Fault Refusal := s.answer touchSecErr (s.ideFault stream)

/-- SPDM_REQUEST (R496). -/
def execSpdmRequest (code param1 param2 : Nat) (data : List (BitVec 8)) (s : State) : Host.Outcome State Fault Refusal :=
  s.answer { sec := true, out := true, free := true } (s.spdmAnswer code param1 param2 data)

/-- RECOVERY_DATA (R577). -/
def execRecoveryData (data : List (BitVec 8)) (s : State) : Host.Outcome State Fault Refusal := s.answer { sec := true } (s.recoveryBytes data)

/-- RECOVERY_DONE (R490, R577). -/
def execRecoveryDone (len : Nat) (s : State) : Host.Outcome State Fault Refusal :=
  s.answer touchSecErr (s.recoveryInstall len)

end Sys2Proof.Machine
end

