-- ==== Sys2Proof/Machine/SwitchCmd.lean ====
section
/-! DEFINITION. The meanings of the table and meter commands (R285, R294, R340, R550). -/

namespace Sys2Proof.Machine

/-- SW_TCAM_WRITE (R285). -/
def execSwTcamWrite (way : HostWay) (s : State) : Host.Outcome State Fault Refusal :=
  s.answer { touchData with sw := true } (s.swTcamCmd way)

/-- SW_EM_INSERT (R285). -/
def execSwEmInsert (s : State) : Host.Outcome State Fault Refusal := s.answer { touchTake with sw := true } s.swEmInsertCmd

/-- SW_EM_UPDATE (R285). -/
def execSwEmUpdate (s : State) : Host.Outcome State Fault Refusal := s.answer { touchTake with sw := true } s.swEmUpdateCmd

/-- SW_EM_DELETE (R285). -/
def execSwEmDelete (s : State) : Host.Outcome State Fault Refusal := s.answer { touchTake with sw := true } s.swEmDeleteCmd

/-- SW_MC_WRITE (R285, R294). -/
def execSwMcWrite (s : State) : Host.Outcome State Fault Refusal := s.answer { touchTake with sw := true } s.swMcCmd

/-- TM_METER with READ = 0 (R340). -/
def execTmMeterWrite (way : HostWay) (s : State) : Host.Outcome State Fault Refusal :=
  s.answer { touchData with sw := true } (s.tmMeterCmd false way)

/-- TM_METER with READ = 1 (R340). -/
def execTmMeterRead (way : HostWay) (s : State) : Host.Outcome State Fault Refusal := s.answer touchData (s.tmMeterCmd true way)

end Sys2Proof.Machine
end

