-- ==== Sys2Proof/Machine/PagingOps.lean ====
section
/-! DEFINITION. Pantry's own work: page-in, page-out, the paging sweep and the leak audit (R297, R299, R304, R312;
08_switch_core_and_central_store.md). -/

namespace Sys2Proof.Machine

/-- Every pointer something refers to (R312). -/
def State.liveBufs (s : State) : List Nat :=
  s.sw.frames.flatMap Frame.bufs ++ s.packets.flatMap Pkt.bufs ++ s.coll.slots.flatMap (fun c => c.2.loaves) ++ s.rly.txns.map Resv.buf ++
  s.sft.units.flatMap (fun c => c.2.recq.filterMap SRec.buf)

/-! ### Losing a page (R299) -/

/-- A copy of a frame is taken from a port's queues. -/
def Port.forget (id : Nat) (x : Port) : Port :=
  (List.range 8).foldl (fun x c => x.setQueue c ((x.queue c).filter (fun k => k.frame != id))) x

/-- Copies of a frame on a port. -/
def Port.copiesOf (id : Nat) (x : Port) : Nat := ((x.queues.flatMap Prod.snd).filter (fun k => k.frame == id)).length

/-- A frame in a lost page is discarded with its copies, counted as aged; copies that waited for it move on (R291). -/
def State.loseFrame (s : State) (f : Frame) : State :=
  let size := s.bufBytes f.bufs
  let copies := ((List.range 128).map (fun n => (s.port n).copiesOf f.id)).sum
  let s1 := (List.range 128).foldl (fun s n =>
    let x := s.port n
    let k := x.copiesOf f.id
    if k = 0 then s
    else { (s.setPort n (x.forget f.id)) with pnt.outBytes := s.pnt.outBytes.subNum n (size * k) }) s
  let s2 : State := { s1 with sft.units := s1.sft.units.map (fun c => (c.1, { c.2 with holds := c.2.holds.filter (fun h => h.frame != f.id) })) }
  ((s2.evtAdd .pnt 0 2 (max 1 copies)).removeFrame f).flushPort f.port

/-- A packet lies in a page, in buffers of its own or in one reserved for it. -/
def State.pktIn (s : State) (pg : Nat) (k : Pkt) : Bool := s.inPage pg (k.bufs ++ k.loaf.toList)

/-- The packets of a list that do not lie in a page. -/
def State.keepPkts (s : State) (pg : Nat) (ks : List Pkt) : List Pkt := ks.filter (fun k => !s.pktIn pg k)

/-- A port's queues without the packets in a page; what was queued counts against the port no more (R306). -/
def State.dropQueued (pg : Nat) (s : State) (n : Nat) : State :=
  let k := s.link n
  let gone := k.txq.flatMap (fun q => q.2.filter (s.pktIn pg))
  let t := s.setLink n { k with txq := k.txq.map (fun q => (q.1, s.keepPkts pg q.2)) }
  { t with pnt.outBytes := t.pnt.outBytes.subNum n ((gone.map (fun p => s.bufBytes p.bufs)).sum) }

/-- The packets in a lost page are discarded, counted as aged. -/
def State.losePkts (pg : Nat) (s : State) : State :=
  let gone := s.packets.filter (s.pktIn pg)
  let s0 := s.rly.links.keys.foldl (State.dropQueued pg) s
  let s1 : State := { s0 with
    rly.reseq := s.rly.reseq.map (fun c => (c.1, { c.2 with waiting := c.2.waiting.filter (fun w => !s.pktIn pg w.2) }))
    rly.reqIn := s.keepPkts pg s.rly.reqIn, rly.fwd := s.keepPkts pg s.rly.fwd, rly.rspIn := s.keepPkts pg s.rly.rspIn
    coll.inbox := s.keepPkts pg s.coll.inbox }
  gone.foldl (fun s k => (s.evtAdd .pnt 0 2 1).dropPkt k) s1

/-- Buffers in a lost page that a slot, a reservation or a record in preparation had taken are theirs no more; such a record is dropped. -/
def State.loseReserved (pg : Nat) (s : State) : State :=
  let away (q : Nat) : Bool := s.inPage pg [q]
  let s1 : State := { s with
    coll.slots := s.coll.slots.map (fun c => (c.1, { c.2 with loaves := c.2.loaves.filter (fun q => !away q) }))
    rly.txns := s.rly.txns.filter (fun r => !away r.buf) }
  s1.sft.units.foldl (fun s c =>
    (c.2.recq.filter (fun r => r.buf.any away)).foldl (fun s r =>
      State.endRec c.1 { r with buf := none } (((s.onSifter c.1 (fun x => { x with
        recq := x.recq.filter (fun d => d.seqno != r.seqno || d.notice != r.notice) })).evtAdd .pnt 0 2 1).dropRec c.1)) s) s1

/-- The pool whose region a page lies in, and the class that its lowest buffer is charged to; 0 where there is none (log 121). -/
def State.pagePool (s : State) (pg : Nat) : Nat × Nat :=
  (((List.range 4).find? (fun p => decide (poolBase (s.poolReg p) ≤ pg) && decide (pg < poolBase (s.poolReg p) + poolPages (s.poolReg p)))).getD 0,
   match s.pnt.bufs.find? (fun c => s.inPage pg [c.1]) with | some c => c.2.cls | none => 0)

/-- A page that could not be read is lost (R299). Where in the spill region it lay is not stated: the address is a free value. -/
def State.losePage (pg : Nat) (s : State) : State :=
  let addr := s.pnt.spillBase * 2 ^ 30 + Config.free s.free % (s.pnt.spillGib * 8192) * 131072
  let (pool, cls) := s.pagePool pg
  let s1 := s.useFree.pntErr 5 (pntInfo 0xFF cls pool 1 0 pg) addr
  let s2 := (s1.sw.frames.filter (fun f => s1.inPage pg f.bufs)).foldl State.loseFrame s1
  let s3 := (s2.losePkts pg).loseReserved pg
  let s4 := ((List.range 512).map (512 * pg + ·)).foldl (fun s c =>
    if c < 8192 ∧ !(s.ctx c).pinned then s.setCtx c { s.ctx c with ue := true } else s) s3
  let left := (s4.pnt.bufs.filter (fun c => s4.inPage pg [c.1])).map Prod.fst
  s4.freeBufs 0xFF left

/-- PAGE_IN_DONE (R297, R299). -/
def State.pageIn (pg : Nat) (ok : Bool) (s : State) : State :=
  if !s.pnt.waitIn.contains pg || s.freeFrames == 0 then s
  else
    let s1 : State := { s with
      pnt.waitIn := s.pnt.waitIn.filter (· != pg), pnt.resident := s.pnt.resident ++ [pg], pnt.touched := addTo s.pnt.touched pg }
    (if ok then s1.evtAdd .pnt 0 4 1 else s1.losePage pg).pageWork.pumpAllRecs

/-- PAGE_OUT_DONE (R297). -/
def State.pageOut (pg : Nat) (s : State) : State :=
  if !s.pnt.pagingOut.contains pg then s
  else
    ({ s with
      pnt.pagingOut := s.pnt.pagingOut.filter (· != pg)
      pnt.resident := s.pnt.resident.filter (· != pg)
      pnt.touched := s.pnt.touched.filter (· != pg) } : State).evtAdd .pnt 0 3 1
    |>.pageWork |> fun t => t.ports.keys.foldl (fun s n => s.keepDeficits n) t

/-- PAGING_SWEEP (R297): pages left untouched since the last sweep go while free frames are few, and every touched mark is cleared. -/
def State.pagingSweepNow (s : State) : State :=
  let t := s.pageWork
  { t with pnt.touched := [] }

/-- A buffer found leaked twice running (R312). -/
def State.leak (s : State) (q : Nat) (i : BufInfo) : State :=
  let s1 := s.pntErr 3 (pntInfo 0xFF i.cls i.pool (b2n i.paged) 0 q) 0
  let s2 : State := { s1 with pnt.leaks := min (2 ^ 32 - 1) (s1.pnt.leaks + 1), pnt.lastLeak := i.pool * 2 ^ 32 + q }
  if s2.fld .pnt 0 0x140 1 1 = 1 then (s2.freeBuf 0xFF i.pool q).evtAdd .pnt 0 6 1 else s2

/-- LEAK_AUDIT_SWEEP (R312). -/
def State.leakSweep (s : State) : State :=
  if s.fld .pnt 0 0x140 0 0 = 0 then s
  else
    let live := s.liveBufs
    let s1 : State := { s with pnt.bufs := s.pnt.bufs.map (fun c => (c.1, { c.2 with seen := if live.contains c.1 then 0 else c.2.seen + 1 })) }
    let found := s1.pnt.bufs.filter (fun c => decide (2 ≤ c.2.seen))
    found.foldl (fun s c => s.leak c.1 c.2)
      { s1 with pnt.bufs := s1.pnt.bufs.map (fun c => (c.1, { c.2 with seen := if 2 ≤ c.2.seen then 0 else c.2.seen })) }

end Sys2Proof.Machine
end

