-- ==== Sys2Proof/Machine/Traffic.lean ====
section
/-! DEFINITION. The meanings of the traffic manager's and Pantry's own events (R297, R309, R312, R313, R326 to R334, R341, R343). -/

namespace Sys2Proof.Machine

/-- PAGE_IN_DONE (R297, R299). -/
def execPageInDone (page : Nat) (ok : Bool) (s : State) : Host.Outcome State Fault Refusal :=
  s.answer { touchFrames with coll := true } (s.inDomain (switchMux 0) (fun s => (s.pageIn page ok).pumpAll))

/-- PAGE_OUT_DONE (R297). -/
def execPageOutDone (page : Nat) (s : State) : Host.Outcome State Fault Refusal :=
  s.answer { pnt := true, regs := true, ports := true, free := true } (s.inDomain (switchMux 0) (fun s => s.pageOut page))

/-- PAGING_SWEEP (R297). -/
def execPagingSweep (s : State) : Host.Outcome State Fault Refusal :=
  s.answer { pnt := true, free := true } (s.inDomain (switchMux 0) (fun s => s.pagingSweepNow))

/-- LEAK_AUDIT_SWEEP (R312). -/
def execLeakAuditSweep (s : State) : Host.Outcome State Fault Refusal :=
  s.answer { pnt := true, regs := true, out := true, ref := true, hif := true, sb := true, rly := true, free := true }
    (s.inDomain (switchMux 0) (fun s => (s.leakSweep).pumpAll))

/-- TX_SELECT (R326, R327). -/
def execTxSelect (port : Nat) (s : State) : Host.Outcome State Fault Refusal :=
  s.answer touchFrames (s.inDomain (switchMux (portDie port)) (fun s => (s.txSelectCmd port).pumpAll))

/-- AGE_CHECK (R313). -/
def execAgeCheck (port : Nat) (s : State) : Host.Outcome State Fault Refusal :=
  s.answer touchFrames (s.inDomain (switchMux (portDie port)) (fun s => (s.ageCheck port).pumpAll))

/-- SHAPER_REFILL (R333, R334). -/
def execShaperRefill (port : Nat) (s : State) : Host.Outcome State Fault Refusal :=
  s.answer { ports := true } (s.inDomain (switchMux (portDie port)) (fun s => (s.refill port).keepDeficits port))

/-- GATE_ENTRY_CHANGE (R329 to R332). -/
def execGateEntryChange (port : Nat) (s : State) : Host.Outcome State Fault Refusal :=
  s.answer { ports := true, regs := true } (s.inDomain (switchMux (portDie port)) (fun s => s.gateEvent port))

/-- PFC_FRAME_RECEIVE (R309). -/
def execPfcFrameReceive (port : Nat) (prio quanta : Nat) (s : State) : Host.Outcome State Fault Refusal :=
  s.answer { ports := true } (s.inDomain (switchMux (portDie port)) (fun s => s.pfcReceive port prio quanta))

/-- PFC_PAUSE_REPEAT (R309). -/
def execPfcPauseRepeat (port prio : Nat) (s : State) : Host.Outcome State Fault Refusal :=
  s.answer { out := true } (s.inDomain (switchMux (portDie port)) (fun s => s.pauseRepeat port prio))

/-- PFC_PAUSE_EXPIRY (R309). -/
def execPfcPauseExpiry (port prio : Nat) (s : State) : Host.Outcome State Fault Refusal :=
  s.answer { ports := true } (s.inDomain (switchMux (portDie port)) (fun s => s.pauseExpiry port prio))

/-- TIME_STEP (R332, R341). -/
def execTimeStep (time : Nat) (s : State) : Host.Outcome State Fault Refusal :=
  s.answer { time := true, ports := true, regs := true } (s.timeStepTo time)

/-- PTP_MESSAGE_RECEIVE (R341, R343). -/
def execPtpMessageReceive (port domain : Nat) (udp : Bool) (kind t : Nat) (s : State) : Host.Outcome State Fault Refusal :=
  s.answer { time := true, out := true, free := true } (s.inDomain (switchMux (portDie port)) (fun s => s.ptpReceive port domain udp kind t))

end Sys2Proof.Machine
end

