-- ==== Sys2Proof/Machine/Xvln.lean ====
section
/-! DEFINITION. The meanings of the prep cores' Xvln instructions, each a command of its own (R193 to R197): the instruction runs if it is
what stands at the pc of a running core. -/

namespace Sys2Proof.Machine

/-- VLN_SIG (R193, R203). -/
def execVlnSig (blk : Nat) (s : State) : Host.Outcome State Fault Refusal :=
  s.answer touchBlock (s.vlnStep blk 0x00).collSettle

/-- VLN_SIGR (R193, R203). -/
def execVlnSigr (blk : Nat) (s : State) : Host.Outcome State Fault Refusal :=
  s.answer touchBlock (s.vlnStep blk 0x01).collSettle

/-- VLN_WAIT (R193, R208). -/
def execVlnWait (blk : Nat) (s : State) : Host.Outcome State Fault Refusal :=
  s.answer touchBlock (s.vlnStep blk 0x02).collSettle

/-- VLN_READ (R193, R197). -/
def execVlnRead (blk : Nat) (s : State) : Host.Outcome State Fault Refusal :=
  s.answer touchBlock (s.vlnStep blk 0x03).collSettle

/-- VLN_HARV (R193, R212). -/
def execVlnHarv (blk : Nat) (s : State) : Host.Outcome State Fault Refusal :=
  s.answer touchBlock (s.vlnStep blk 0x04).collSettle

/-- VLN_HWAIT (R193, R212). -/
def execVlnHwait (blk : Nat) (s : State) : Host.Outcome State Fault Refusal :=
  s.answer touchBlock (s.vlnStep blk 0x05).collSettle

/-- VLN_RUN (R195). -/
def execVlnRun (blk : Nat) (s : State) : Host.Outcome State Fault Refusal :=
  s.answer touchBlock (s.vlnStep blk 0x08).collSettle

/-- VLN_WREG (R194). -/
def execVlnWreg (blk : Nat) (s : State) : Host.Outcome State Fault Refusal :=
  s.answer touchBlock (s.vlnStep blk 0x09).collSettle

/-- VLN_RREG (R194). -/
def execVlnRreg (blk : Nat) (s : State) : Host.Outcome State Fault Refusal :=
  s.answer touchBlock (s.vlnStep blk 0x0A).collSettle

/-- VLN_RCLR (R193, R157). -/
def execVlnRclr (blk : Nat) (s : State) : Host.Outcome State Fault Refusal :=
  s.answer touchBlock (s.vlnStep blk 0x10).collSettle

/-- VLN_RENT (R193). -/
def execVlnRent (blk : Nat) (s : State) : Host.Outcome State Fault Refusal :=
  s.answer touchBlock (s.vlnStep blk 0x11).collSettle

/-- VLN_RSTAT (R193). -/
def execVlnRstat (blk : Nat) (s : State) : Host.Outcome State Fault Refusal :=
  s.answer touchBlock (s.vlnStep blk 0x12).collSettle

/-- VLN_ARM (R193, R196). -/
def execVlnArm (blk : Nat) (s : State) : Host.Outcome State Fault Refusal :=
  s.answer touchBlock (s.vlnStep blk 0x18).collSettle

/-- VLN_RDBC (R81, R197). -/
def execVlnRdbc (blk : Nat) (s : State) : Host.Outcome State Fault Refusal :=
  s.answer touchBlock (s.vlnStep blk 0x19).collSettle

end Sys2Proof.Machine
end

