-- ==== Sys2Proof/Machine/Dispatch.lean ====
section
/-! DEFINITION. What each command does: one arm for each command, each a direct call of its meaning. -/

namespace Sys2Proof.Machine

def exec (i : Instr) (s : State) : Host.Outcome State Fault Refusal :=
  match i with
  | .bar4DescriptorWrite offset data stream => Sys2Proof.Machine.execBar4DescriptorWrite offset data stream s
  | .nop => Sys2Proof.Machine.execNop s
  | .wait => Sys2Proof.Machine.execWait s
  | .signal => Sys2Proof.Machine.execSignal s
  | .run => Sys2Proof.Machine.execRun s
  | .placeLoad fences => Sys2Proof.Machine.execPlaceLoad fences s
  | .placeRetire => Sys2Proof.Machine.execPlaceRetire s
  | .copy way => Sys2Proof.Machine.execCopy way s
  | .atomic => Sys2Proof.Machine.execAtomic s
  | .sftLoad => Sys2Proof.Machine.execSftLoad s
  | .sftUnload => Sys2Proof.Machine.execSftUnload s
  | .sftCtxHome => Sys2Proof.Machine.execSftCtxHome s
  | .sftCtxPin => Sys2Proof.Machine.execSftCtxPin s
  | .sftCtxUnpin => Sys2Proof.Machine.execSftCtxUnpin s
  | .sftCtxWrite way => Sys2Proof.Machine.execSftCtxWrite way s
  | .sftCtxRead way => Sys2Proof.Machine.execSftCtxRead way s
  | .sftTable way => Sys2Proof.Machine.execSftTable way s
  | .sftReleaseDiscard => Sys2Proof.Machine.execSftReleaseDiscard s
  | .sftReleaseForward => Sys2Proof.Machine.execSftReleaseForward s
  | .swTcamWrite way => Sys2Proof.Machine.execSwTcamWrite way s
  | .swEmInsert => Sys2Proof.Machine.execSwEmInsert s
  | .swEmUpdate => Sys2Proof.Machine.execSwEmUpdate s
  | .swEmDelete => Sys2Proof.Machine.execSwEmDelete s
  | .swMcWrite => Sys2Proof.Machine.execSwMcWrite s
  | .tmMeterWrite way => Sys2Proof.Machine.execTmMeterWrite way s
  | .tmMeterRead way => Sys2Proof.Machine.execTmMeterRead way s
  | .collLaunch => Sys2Proof.Machine.execCollLaunch s
  | .fwUpdate way => Sys2Proof.Machine.execFwUpdate way s
  | .attest way => Sys2Proof.Machine.execAttest way s
  | .getRandom way => Sys2Proof.Machine.execGetRandom way s
  | .jnlAppend way => Sys2Proof.Machine.execJnlAppend way s
  | .jnlClose => Sys2Proof.Machine.execJnlClose s
  | .jnlTrim => Sys2Proof.Machine.execJnlTrim s
  | .jnlSend => Sys2Proof.Machine.execJnlSend s
  | .jnlRecv => Sys2Proof.Machine.execJnlRecv s
  | .jnlExport way => Sys2Proof.Machine.execJnlExport way s
  | .jnlImport way => Sys2Proof.Machine.execJnlImport way s
  | .ringCompletionWrite ring hostOk => Sys2Proof.Machine.execRingCompletionWrite ring hostOk s
  | .ringHoldoffExpiry ring => Sys2Proof.Machine.execRingHoldoffExpiry ring s
  | .longWordIssue blk reads op residue => Sys2Proof.Machine.execLongWordIssue blk reads op residue s
  | .emptyBeat blk reads op residue => Sys2Proof.Machine.execEmptyBeat blk reads op residue s
  | .commandEnd blk => Sys2Proof.Machine.execCommandEnd blk s
  | .signalArrival index => Sys2Proof.Machine.execSignalArrival index s
  | .huddleRelease line => Sys2Proof.Machine.execHuddleRelease line s
  | .blockFence blk cause residue => Sys2Proof.Machine.execBlockFence blk cause residue s
  | .blkWatchdog blk residue => Sys2Proof.Machine.execBlkWatchdog blk residue s
  | .dieFabric die under => Sys2Proof.Machine.execDieFabric die under s
  | .dieVdom die under => Sys2Proof.Machine.execDieVdom die under s
  | .blockStoreScrub blk word reads => Sys2Proof.Machine.execBlockStoreScrub blk word reads s
  | .prepInstruction blk mem => Sys2Proof.Machine.execPrepInstruction blk mem s
  | .vlnSig blk => Sys2Proof.Machine.execVlnSig blk s
  | .vlnSigr blk => Sys2Proof.Machine.execVlnSigr blk s
  | .vlnWait blk => Sys2Proof.Machine.execVlnWait blk s
  | .vlnRead blk => Sys2Proof.Machine.execVlnRead blk s
  | .vlnHarv blk => Sys2Proof.Machine.execVlnHarv blk s
  | .vlnHwait blk => Sys2Proof.Machine.execVlnHwait blk s
  | .vlnRun blk => Sys2Proof.Machine.execVlnRun blk s
  | .vlnWreg blk => Sys2Proof.Machine.execVlnWreg blk s
  | .vlnRreg blk => Sys2Proof.Machine.execVlnRreg blk s
  | .vlnRclr blk => Sys2Proof.Machine.execVlnRclr blk s
  | .vlnRent blk => Sys2Proof.Machine.execVlnRent blk s
  | .vlnRstat blk => Sys2Proof.Machine.execVlnRstat blk s
  | .vlnArm blk => Sys2Proof.Machine.execVlnArm blk s
  | .vlnRdbc blk => Sys2Proof.Machine.execVlnRdbc blk s
  | .prepInterrupt blk => Sys2Proof.Machine.execPrepInterrupt blk s
  | .dmaDescriptorStart blk reads => Sys2Proof.Machine.execDmaDescriptorStart blk reads s
  | .dmaDescriptorEnd blk index reads => Sys2Proof.Machine.execDmaDescriptorEnd blk index reads s
  | .auditDescriptorStart blk reads => Sys2Proof.Machine.execAuditDescriptorStart blk reads s
  | .auditDescriptorEnd blk => Sys2Proof.Machine.execAuditDescriptorEnd blk s
  | .sealRecordAccept blk => Sys2Proof.Machine.execSealRecordAccept blk s
  | .sealBatchClose => Sys2Proof.Machine.execSealBatchClose s
  | .sealBatchSign => Sys2Proof.Machine.execSealBatchSign s
  | .sealRingWrite hostOk => Sys2Proof.Machine.execSealRingWrite hostOk s
  | .ethFrameArrival port data ended fcsOk upset index => Sys2Proof.Machine.execEthFrameArrival port data ended fcsOk upset index s
  | .ethFrameEnd port data fcsOk upset => Sys2Proof.Machine.execEthFrameEnd port data fcsOk upset s
  | .sifterHandover index => Sys2Proof.Machine.execSifterHandover index s
  | .sifterRun sf upset => Sys2Proof.Machine.execSifterRun sf upset s
  | .watermarkBroadcast pd => Sys2Proof.Machine.execWatermarkBroadcast pd s
  | .sifterHoldAgeOut sf => Sys2Proof.Machine.execSifterHoldAgeOut sf s
  | .pageInDone page ok => Sys2Proof.Machine.execPageInDone page ok s
  | .pagingSweep => Sys2Proof.Machine.execPagingSweep s
  | .leakAuditSweep => Sys2Proof.Machine.execLeakAuditSweep s
  | .txSelect port => Sys2Proof.Machine.execTxSelect port s
  | .ageCheck port => Sys2Proof.Machine.execAgeCheck port s
  | .shaperRefill port => Sys2Proof.Machine.execShaperRefill port s
  | .gateEntryChange port => Sys2Proof.Machine.execGateEntryChange port s
  | .pfcFrameReceive port prio quanta => Sys2Proof.Machine.execPfcFrameReceive port prio quanta s
  | .pfcPauseRepeat port prio => Sys2Proof.Machine.execPfcPauseRepeat port prio s
  | .timeStep time => Sys2Proof.Machine.execTimeStep time s
  | .reseqTimeout stream => Sys2Proof.Machine.execReseqTimeout stream s
  | .flitReceive port flit codewords => Sys2Proof.Machine.execFlitReceive port flit codewords s
  | .replayTimeout port => Sys2Proof.Machine.execReplayTimeout port s
  | .retrainTimeout port => Sys2Proof.Machine.execRetrainTimeout port s
  | .rallyLanesTrained port => Sys2Proof.Machine.execRallyLanesTrained port s
  | .rallyIdentReceive port sysId extents peer => Sys2Proof.Machine.execRallyIdentReceive port sysId extents peer s
  | .rallyCreditsReceive port credits => Sys2Proof.Machine.execRallyCreditsReceive port credits s
  | .rallyPacketArrival port upset => Sys2Proof.Machine.execRallyPacketArrival port upset s
  | .detourTimeout port lane => Sys2Proof.Machine.execDetourTimeout port lane s
  | .collSlotStart slot => Sys2Proof.Machine.execCollSlotStart slot s
  | .collJoin index => Sys2Proof.Machine.execCollJoin index s
  | .collReady index => Sys2Proof.Machine.execCollReady index s
  | .collData index upset => Sys2Proof.Machine.execCollData index upset s
  | .collFin index => Sys2Proof.Machine.execCollFin index s
  | .collAbort index => Sys2Proof.Machine.execCollAbort index s
  | .collChunkSend engine => Sys2Proof.Machine.execCollChunkSend engine s
  | .collTileReady slot => Sys2Proof.Machine.execCollTileReady slot s
  | .collTimeout slot => Sys2Proof.Machine.execCollTimeout slot s
  | .collHoldExpiry index => Sys2Proof.Machine.execCollHoldExpiry index s
  | .memAccess write addr len data outcome => Sys2Proof.Machine.execMemAccess write addr len data outcome s
  | .atomicAdd addr width operand => Sys2Proof.Machine.execAtomicAdd addr width operand s
  | .atomicSmin addr width operand => Sys2Proof.Machine.execAtomicSmin addr width operand s
  | .atomicSmax addr width operand => Sys2Proof.Machine.execAtomicSmax addr width operand s
  | .atomicUmin addr width operand => Sys2Proof.Machine.execAtomicUmin addr width operand s
  | .atomicUmax addr width operand => Sys2Proof.Machine.execAtomicUmax addr width operand s
  | .atomicSwap addr width operand => Sys2Proof.Machine.execAtomicSwap addr width operand s
  | .atomicCas addr width compare operand => Sys2Proof.Machine.execAtomicCas addr width compare operand s
  | .atomicFadd addr operand => Sys2Proof.Machine.execAtomicFadd addr operand s
  | .addExact addr fmt operand => Sys2Proof.Machine.execAddExact addr fmt operand s
  | .hbmScrub word outcome => Sys2Proof.Machine.execHbmScrub word outcome s
  | .hbmRetrainStart stack ch => Sys2Proof.Machine.execHbmRetrainStart stack ch s
  | .hbmRetrainDone stack ok => Sys2Proof.Machine.execHbmRetrainDone stack ok s
  | .selfRefreshEntry stack => Sys2Proof.Machine.execSelfRefreshEntry stack s
  | .bar2Read offset len stream => Sys2Proof.Machine.execBar2Read offset len stream s
  | .bar2Write offset data stream => Sys2Proof.Machine.execBar2Write offset data stream s
  | .bar2Resize log2 => Sys2Proof.Machine.execBar2Resize log2 s
  | .pciePowerState d3hot => Sys2Proof.Machine.execPciePowerState d3hot s
  | .barAccess write offset size data => Sys2Proof.Machine.execBarAccess write offset size data s
  | .refPageTimeout write offset => Sys2Proof.Machine.execRefPageTimeout write offset s
  | .genericRegisterWrite offset size data => Sys2Proof.Machine.execGenericRegisterWrite offset size data s
  | .rcRegisterRead offset size => Sys2Proof.Machine.execRcRegisterRead offset size s
  | .errStatWrite offset size data => Sys2Proof.Machine.execErrStatWrite offset size data s
  | .hifErrqRead => Sys2Proof.Machine.execHifErrqRead s
  | .blkTraceCtrlWrite blk data => Sys2Proof.Machine.execBlkTraceCtrlWrite blk data s
  | .sdSelWrite data => Sys2Proof.Machine.execSdSelWrite data s
  | .sdFetchDone mgmt => Sys2Proof.Machine.execSdFetchDone mgmt s
  | .dieArbWeightWrite die data => Sys2Proof.Machine.execDieArbWeightWrite die data s
  | .cfgDetWrite data => Sys2Proof.Machine.execCfgDetWrite data s
  | .sftPortcfgWrite sf port data => Sys2Proof.Machine.execSftPortcfgWrite sf port data s
  | .sftOrderWrite sf data => Sys2Proof.Machine.execSftOrderWrite sf data s
  | .sftTabWrite sf table data => Sys2Proof.Machine.execSftTabWrite sf table data s
  | .sifterRingEnable sf ring data => Sys2Proof.Machine.execSifterRingEnable sf ring data s
  | .pntCscfgWrite data => Sys2Proof.Machine.execPntCscfgWrite data s
  | .tmGateCtrlWrite port data => Sys2Proof.Machine.execTmGateCtrlWrite port data s
  | .mtPtpcfgWrite data => Sys2Proof.Machine.execMtPtpcfgWrite data s
  | .rlPmodeWrite data => Sys2Proof.Machine.execRlPmodeWrite data s
  | .rlCoordWrite data => Sys2Proof.Machine.execRlCoordWrite data s
  | .rlEpochWrite data => Sys2Proof.Machine.execRlEpochWrite data s
  | .rlRteWrite version axis coord data => Sys2Proof.Machine.execRlRteWrite version axis coord data s
  | .rlFenceWrite data => Sys2Proof.Machine.execRlFenceWrite data s
  | .portCfgWrite port reg data => Sys2Proof.Machine.execPortCfgWrite port reg data s
  | .colLastWrite data => Sys2Proof.Machine.execColLastWrite data s
  | .memModeWrite data => Sys2Proof.Machine.execMemModeWrite data s
  | .memMaintRetrain stack data => Sys2Proof.Machine.execMemMaintRetrain stack data s
  | .secCtrlCommit data => Sys2Proof.Machine.execSecCtrlCommit data s
  | .secCtrlIdeReq data => Sys2Proof.Machine.execSecCtrlIdeReq data s
  | .clkMuxWrite mux data => Sys2Proof.Machine.execClkMuxWrite mux data s
  | .clkMuxSwitchDone mux => Sys2Proof.Machine.execClkMuxSwitchDone mux s
  | .clkswStuck mux => Sys2Proof.Machine.execClkswStuck mux s
  | .hifBar2BaseWrite data => Sys2Proof.Machine.execHifBar2BaseWrite data s
  | .hifRingCfgWrite ring reg data => Sys2Proof.Machine.execHifRingCfgWrite ring reg data s
  | .rfResetWrite data => Sys2Proof.Machine.execRfResetWrite data s
  | .rfMtestStart data => Sys2Proof.Machine.execRfMtestStart data s
  | .mtestDone failMask => Sys2Proof.Machine.execMtestDone failMask s
  | .jnlCtrlWrite data => Sys2Proof.Machine.execJnlCtrlWrite data s
  | .sbCtrlWrite data => Sys2Proof.Machine.execSbCtrlWrite data s
  | .prfDieWrite die data => Sys2Proof.Machine.execPrfDieWrite die data s
  | .prooferSample sensors => Sys2Proof.Machine.execProoferSample sensors s
  | .prooferWindow => Sys2Proof.Machine.execProoferWindow s
  | .prooferAdmit => Sys2Proof.Machine.execProoferAdmit s
  | .prfOverpower => Sys2Proof.Machine.execPrfOverpower s
  | .prooferWarm => Sys2Proof.Machine.execProoferWarm s
  | .thermalTrip unit sensor => Sys2Proof.Machine.execThermalTrip unit sensor s
  | .monitorWindow count => Sys2Proof.Machine.execMonitorWindow count s
  | .clkMonFail => Sys2Proof.Machine.execClkMonFail s
  | .clkPllUnlock pll => Sys2Proof.Machine.execClkPllUnlock pll s
  | .pllRelock pll => Sys2Proof.Machine.execPllRelock pll s
  | .pllRelockTimeout pll => Sys2Proof.Machine.execPllRelockTimeout pll s
  | .powerApply => Sys2Proof.Machine.execPowerApply s
  | .powerFail => Sys2Proof.Machine.execPowerFail s
  | .perstAssert => Sys2Proof.Machine.execPerstAssert s
  | .pcieHotReset => Sys2Proof.Machine.execPcieHotReset s
  | .pcieLinkDisable => Sys2Proof.Machine.execPcieLinkDisable s
  | .refereeWatchdog => Sys2Proof.Machine.execRefereeWatchdog s
  | .resetRelease env => Sys2Proof.Machine.execResetRelease env s
  | .epoNAssert held => Sys2Proof.Machine.execEpoNAssert held s
  | .mgmtRead reg => Sys2Proof.Machine.execMgmtRead reg s
  | .mgmtWrite reg data => Sys2Proof.Machine.execMgmtWrite reg data s
  | .mgmtReset => Sys2Proof.Machine.execMgmtReset s
  | .mgmtEpo => Sys2Proof.Machine.execMgmtEpo s
  | .recoveryData data => Sys2Proof.Machine.execRecoveryData data s
  | .recoveryDone len => Sys2Proof.Machine.execRecoveryDone len s
  | .trngHealthFail => Sys2Proof.Machine.execTrngHealthFail s
  | .secIdeFault stream => Sys2Proof.Machine.execSecIdeFault stream s
  | .spdmRequest code param1 param2 data => Sys2Proof.Machine.execSpdmRequest code param1 param2 data s
  | .jnlCommitTick => Sys2Proof.Machine.execJnlCommitTick s
  | .jnlMirrorReceive => Sys2Proof.Machine.execJnlMirrorReceive s
  | .jnlAckSend => Sys2Proof.Machine.execJnlAckSend s
  | .jnlAckReceive => Sys2Proof.Machine.execJnlAckReceive s
  | .journalUnmirrored => Sys2Proof.Machine.execJournalUnmirrored s
  | .jnlTransferTimeout => Sys2Proof.Machine.execJnlTransferTimeout s
  | .scorebookPeriodic => Sys2Proof.Machine.execScorebookPeriodic s
  | .scorebookWriteDone ok => Sys2Proof.Machine.execScorebookWriteDone ok s
  | .histogramTick => Sys2Proof.Machine.execHistogramTick s
  | .ethernetLinkUp port => Sys2Proof.Machine.execEthernetLinkUp port s
  | .ethernetLinkDown port => Sys2Proof.Machine.execEthernetLinkDown port s
  | .pageOutDone page => Sys2Proof.Machine.execPageOutDone page s
  | .pfcPauseExpiry port prio => Sys2Proof.Machine.execPfcPauseExpiry port prio s
  | .ptpMessageReceive port domain udp kind t => Sys2Proof.Machine.execPtpMessageReceive port domain udp kind t s
  | .aux12vChange applied => Sys2Proof.Machine.execAux12vChange applied s
  | .busMasterEnableChange on memSpace => Sys2Proof.Machine.execBusMasterEnableChange on memSpace s

end Sys2Proof.Machine
end

