-- ==== Sys2Proof/Machine/Step.lean ====
section
/-! DEFINITION. One step of the module: the command at the front of the queue takes effect, whole; on an empty queue the module
idles and module time goes on by 1 ns (log 25). -/

namespace Sys2Proof.Machine

/-- Nothing is commanded: module time advances by 1 ns and nothing else changes (R341, log 25). -/
def State.idle (s : State) : State := { s with time.now := (s.time.now + 1) % 2 ^ 64 }

/-- One step: `exec` of the command at the front of the queue, on the state with the queue's rest. -/
def step (s : State) : Host.Outcome State Fault Refusal :=
  match s.pending with
  | [] => .next s.idle
  | c :: rest => exec c { s with pending := rest }

/-- The state with the command that a word spells at the front of its queue; a word that spells none changes nothing. -/
def State.withFetchWord (s : State) (nbits w : Nat) : State :=
  match decodeTableWord nbits w with
  | some c => { s with pending := c :: s.pending }
  | none => s

end Sys2Proof.Machine
end

