-- ==== Sys2Proof/Safety.lean ====
section
/-! DEFINITION. What counts as a safe state and a safe change of state: the byte memories keep their canonical form, a fence in force is
not lost, parts of the state that a command does not concern stay as they were; and the words in which statements speak of commands
taken from the command window. -/

namespace Sys2Proof.Machine

/-- The canonical form of the two memories that commands reach by address: device memory and host memory. -/
def State.memOk (s : State) : Prop := s.dev.wf = true ∧ s.host.wf = true

/-- Every fence in force in `s` is in force in `t` (R23). -/
def FencesKept (s t : State) : Prop :=
  (∀ b, s.fence.blocks.testBit b = true → t.fence.blocks.testBit b = true) ∧
  (∀ d, s.fence.dies.testBit d = true → t.fence.dies.testBit d = true)

/-- From `s` to `t` only the parts that `m` names may have changed; fences are only added to, except by a full reset. -/
def OnlyIn (m : Touch) (s t : State) : Prop :=
  t.hw = s.hw ∧ t.pending = s.pending ∧
  (m.ref = false → t.ref = s.ref) ∧ (m.time = false → t.time = s.time) ∧ (m.clk = false → t.clk = s.clk) ∧
  (m.dev = false → t.dev = s.dev) ∧ (m.host = false → t.host = s.host) ∧ (m.mem = false → t.mem = s.mem) ∧
  (m.fence = false → m.unfence = false → t.fence = s.fence) ∧ (m.otp = false → t.otp = s.otp) ∧
  (m.place = false → t.place = s.place) ∧ (m.blocks = false → t.blocks = s.blocks) ∧ (m.hud = false → t.hud = s.hud) ∧
  (m.hif = false → t.hif = s.hif) ∧ (m.sft = false → t.sft = s.sft) ∧ (m.sw = false → t.sw = s.sw) ∧
  (m.pnt = false → t.pnt = s.pnt) ∧ (m.ports = false → t.ports = s.ports) ∧ (m.rly = false → t.rly = s.rly) ∧
  (m.coll = false → t.coll = s.coll) ∧ (m.jnl = false → t.jnl = s.jnl) ∧ (m.sec = false → t.sec = s.sec) ∧
  (m.prf = false → t.prf = s.prf) ∧ (m.sb = false → t.sb = s.sb) ∧ (m.regs = false → t.regs = s.regs) ∧
  (m.out = false → t.out = s.out) ∧ (m.free = false → t.free = s.free) ∧ (m.unfence = false → FencesKept s t)

/-- The descriptor `e` stands at the front of the window, `rest` behind it, and it may be taken: the module serves, its fence is met, its
ring is on, no fatal error is held, its header is well formed, and no command waits in a queue or is held at its end (R543 to R548, R553,
R556, R573). -/
def State.Fronts (s : State) (e : WinEntry) (rest : List WinEntry) : Prop :=
  s.hif.window = e :: rest ∧ s.canTake e = true ∧ s.fld .hif 0 (0x408 + 0x20 * e.ring) 0 0 = 1 ∧ s.ref.faulted = false ∧ e.headerOk = true ∧
  s.hif.parked = [] ∧ s.hif.ending = []

/-- It stands there, may be taken, and there is room for its completion (R556). -/
def State.Offers (s : State) (e : WinEntry) (rest : List WinEntry) : Prop := s.Fronts e rest ∧ s.room e.ringByte = true

/-- The completion record of a descriptor that ends with STATUS `st` and R0 `r0` (R553). -/
def WinEntry.compl (e : WinEntry) (st r0 : Nat) : Compl :=
  { seq := e.seq, tag := e.tag, opcode := e.opcode, ring := e.ringByte, status := st, r0 := r0, r1 := 0, nfault := 0 }

/-- The completion record of an open command that ends with STATUS `st`, R0 `r0`, R1 `r1` and `nf` failed targets (R552, R553). -/
def OpenCmd.compl (c : OpenCmd) (st r0 r1 nf : Nat) : Compl :=
  { seq := c.seq, tag := c.tag, opcode := c.opcode, ring := c.ring, status := st, r0 := r0, r1 := r1, nfault := nf }

/-- The state in which the descriptor at the front has been taken and its completion waits for its ring; nothing else changed. -/
def State.ended (s : State) (e : WinEntry) (rest : List WinEntry) (st r0 : Nat) : State :=
  { s with hif.window := rest, hif.done := s.hif.done ++ [e.compl st r0] }

/-- No collective runs in the module or waits for a slot, and none has a lost packet on record. -/
def State.NoColl (s : State) : Prop := s.coll.slots = [] ∧ s.coll.queued = [] ∧ s.coll.lost = []

/-- Nothing waits for memory: no access of the host's, no Rally REQ, and no record of a Sifter. -/
def State.NoWaiters (s : State) : Prop := s.mem.queue = [] ∧ s.rly.reqIn = [] ∧ ∀ sf, (s.sifter sf).recq = []

/-- No port has come up, none has a copy queued, and no collective and no transfer of the journal runs. -/
def State.FabricIdle (s : State) : Prop :=
  s.rly.links = [] ∧ (∀ n, (s.port n).up = false ∧ ∀ c, (s.port n).queue c = []) ∧ s.NoColl ∧ s.jnl.transfer = none

/-- The prep core of block `p` runs and is awake, and the instruction `ins`, of `len` bytes, stands at its pc (R188, R190). -/
def State.PrepAt (s : State) (p ins len : Nat) : Prop :=
  s.prepRuns p = true ∧ (s.block p).asleep = false ∧ (s.block p).prepFetch = .ok (ins, len)

/-- The page answers writes with its registers: the windows are open, writes reach the module, and the page is served (R539, R543, R560, R565,
R568). -/
def State.Serves (s : State) (p : Page) (i : Nat) : Prop :=
  s.bar0Open = true ∧ s.pageServed p i = true ∧ i < p.count ∧ s.stalled = false

/-- A stack is ONLINE, holds no request back, retrains no channel, and has no lost line and no uncorrectable word in a range (R438 to R442,
R521). -/
def Stack.Clean (k : Stack) (a n : Nat) : Prop :=
  k.state = 1 ∧ k.held = false ∧ k.retraining = false ∧
  (∀ l ∈ k.lost, 128 * (l + 1) ≤ a ∨ a + n ≤ 128 * l) ∧ (∀ w ∈ k.bad, 32 * (w + 1) ≤ a ∨ a + n ≤ 32 * w)

/-- A range of device memory is plain memory: normal service places it, it lies within device memory, no region that the module keeps for
itself meets it, no access to its bytes waits, and every stack it meets is clean there and its LB4 clocked (R421, R528). -/
def State.Plain (s : State) (a n : Nat) : Prop :=
  s.nearFar = false ∧ a + n ≤ devBytes ∧ s.holdsIn a n = false ∧
  (∀ q ∈ s.mem.queue, q.addr + q.len ≤ a ∨ a + n ≤ q.addr) ∧
  ∀ i, a < 2 ^ 36 * (i + 1) → 2 ^ 36 * i < a + n → (s.stack i).Clean a n ∧ s.clockStopped (lb4Mux i) = false

/-- `t` is `s` with `bs` in device memory from `a` on; only the stacks' lists of dirty cache lines may differ besides, and the free values drawn
for the lines these displaced. -/
def State.Stored (s t : State) (a : Nat) (bs : List Byte) : Prop :=
  t = { s with dev := s.dev.write a bs, mem := { s.mem with units := t.mem.units }, free := t.free } ∧
  ∀ i, ∃ d, t.stack i = { s.stack i with dirty := d }

/-- A command reaches `n` bytes at an XADDR: plain device memory, or host memory that answers, with bus mastering possible and a buffer to stage
the data, and a place in the buffer of completions whatever the host does with its rings (R307, R497, R539, R549, R556). -/
def State.Reach (s : State) (x n : Nat) (way : HostWay) : Prop :=
  (xDev x = true → s.Plain (xAddr x) n) ∧ (xDev x = false → way = .answered ∧ s.hostDma = true ∧ s.hostStaged n = true ∧ s.hif.done.length < 4096)

/-- From `s` to `t` only Pantry has changed, and what follows from a buffer taken and given back: its pages, levels and the frames it sends. -/
def State.Staged (s t : State) : Prop := t = { s with pnt := t.pnt, out := t.out, free := t.free }

/-- The `n` bytes at an XADDR. -/
def State.bytesAt (s : State) (x n : Nat) : List Byte := if xDev x then s.dev.read (xAddr x) n else s.host.read (xAddr x) n

/-- `t` is `s` with `bs` stored at an XADDR; only the stacks' lists of dirty cache lines may differ besides, or what staging leaves. -/
def State.StoredAt (s t : State) (x : Nat) (bs : List Byte) : Prop :=
  (xDev x = true → s.Stored t (xAddr x) bs) ∧ (xDev x = false → ({ s with host := s.host.write (xAddr x) bs } : State).Staged t)

/-- `t` is `s` after bytes at an XADDR were read: device memory leaves it as it was, host memory but for what staging leaves. -/
def State.ReadAt (s t : State) (x : Nat) : Prop := (xDev x = true → t = s) ∧ (xDev x = false → s.Staged t)

/-- A register whose RW fields hold what is written and that has no further action or refusal: the common header's, and those of the chapters
that give none (R12, R558). -/
def plainReg (p : Page) (off : Nat) : Bool :=
  off != 0x20 && (decide (off < 0x100) || match p with
    | .die | .sw | .prf | .hud => true
    | .mctl => off != 0x100
    | .stk => off != 0x108
    | .sb => off != 0x118
    | .pnt => off != 0x100
    | .hif => decide (off < 0x400) || off % 0x20 != 8
    | _ => false)

/-- The error bit `b` of a page is set. -/
def State.errSet (s : State) (p : Page) (i b : Nat) : Prop := (s.reg p i 0x20).testBit b = true

end Sys2Proof.Machine

namespace Sys2Proof

/-- The commands that can be the cause of a full reset (R565, R577): for a write, one of RF_RESET. -/
def Instr.causesFullReset : Instr → Bool
  | .powerApply | .perstAssert | .pcieHotReset | .pcieLinkDisable | .refereeWatchdog | .mgmtReset | .rfResetWrite _ => true
  | .mgmtWrite reg _ => reg == 0x108
  | .genericRegisterWrite off _ _ => off / 8 * 8 == 0x108
  | _ => false

/-- The commands that write the security engine's page (R501, R560). -/
def Instr.writesSec : Instr → Bool
  | .secCtrlCommit _ | .secCtrlIdeReq _ => true
  | .genericRegisterWrite off _ _ => (Machine.pageOf off).any (fun x => x.1 == Machine.Page.sec)
  | _ => false

end Sys2Proof
end

