-- ==== Sys2Proof/Certificates/Slice0/Obligations.lean ====
section
/-! DEFINITION. The statements for the provers. Each one's docstring says what it states and which rules of the spec it rests on. -/

set_option linter.unusedVariables false

open Sys2Proof Sys2Proof.Machine

/-! ### The whole machine -/

/-- For every command `c` and state `s`: a step of `s` with `c` at the front of its queue is `exec c` on `s` with the queue's rest. -/
def Obligations.StepRunsTheFrontCommand : Prop :=
  ∀ (c : Instr) (rest : List Instr) (s : State), step { s with pending := c :: rest } = exec c { s with pending := rest }

/-- With no command waiting, a step changes module time alone, by 1 ns modulo 2^64. That the idle step is 1 ns is the model's choice
(assumption log 25). -/
def Obligations.IdleStepMovesOnlyTime : Prop :=
  ∀ s : State, s.pending = [] → step s = .next { s with time := { s.time with now := (s.time.now + 1) % 2 ^ 64 } }

/-- Every command, on every state, leaves a next state (none ends in a fault or a refusal), and it changes neither the queue of waiting
commands nor what manufacture fixed: the grade, the fused-off blocks, the serial number, the revocation fuses and the manufacturing record.
Model's choices (numbers of the assumption log): that an ill-formed command, or one whose condition does not hold, leaves a next state that
is unchanged (24, 36). -/
def Obligations.EveryCommandLeavesANextState : Prop :=
  ∀ (c : Instr) (s : State), ∃ t, exec c s = .next t ∧ t.pending = s.pending ∧ t.hw = s.hw

/-- In every step of every state, each fenced block and each fenced die is still fenced afterwards, unless the step is a full reset: then the
module is in reset afterwards and the front command is one of the causes of a full reset (power applied, PERST_N, a hot reset or a link disable,
the watchdog, RESET or a write of RF_RESET over the management interface, or a write of the register RF_RESET). There is no other way to lose a
fence, so there is no function-level reset; and a PCIe hot reset with the link up leaves the module in full reset with no fence. -/
def Obligations.FenceLastsUntilFullReset : Prop :=
  (∀ s t : State, step s = .next t →
    FencesKept s t ∨
      (t.ref.inReset = true ∧ ∃ c rest, s.pending = c :: rest ∧ c.causesFullReset = true)) ∧
  (∀ s : State, s.linked = true → ∃ t, exec .pcieHotReset s = .next t ∧ t.ref.inReset = true ∧ t.ref.rstCause = 3 ∧ t.fence = {})

/-- In every step of every state OTP_SVN stays, or it rises: then the running slot is ACTIVE and not in TRIAL, the new value is the running
image's SVN (at most 127, the counter's top), and the front command wrote the security engine's page.
Model's choices (numbers of the assumption log): COMMIT reads the running slot, and an SVN above 127 counts as 127 (84). -/
def Obligations.OtpSvnOnlyRisesByCommit : Prop :=
  ∀ s t : State, step s = .next t →
    t.otp = s.otp ∨
      (s.otp < t.otp ∧ t.otp = min 127 s.sec.svn ∧ s.sec.running = s.sec.active ∧ s.sec.inTrial = false ∧
        ∃ c rest, s.pending = c :: rest ∧ c.writesSec = true)

/-- Right after reset: the module is in reset with cause 0x01 and not ready, PSTATE is EMPTY with no placement identity, no block or die is fenced,
no error bit is set in any page and no event counted, the command window, the completions and the queue are empty, module time is 0, the Pantry
is off, every port of the fabric is down, multiplexer 0 runs from the monitor oscillator, and LIMIT_W, INLINE_W, COLL_FLOOR_W and TJ_TARGET hold
15,000 W, 600 W, 1,000 W and 95. The invariants that the
steps keep hold: both byte memories are in their canonical form, and OTP_SVN is at most 127.
Model's choices (numbers of the assumption log): that reset is the power-applied reset before its start-up (3), and that memories start
with nothing listed (1). -/
def Obligations.ResetState : Prop :=
  let s := State.reset
  s.ref.inReset = true ∧ s.ref.rstCause = 1 ∧ s.ref.ready = false ∧ s.ref.faultN = false ∧ s.ref.faulted = false ∧
  s.place.pstate = psEmpty ∧ s.place.id = 0 ∧ s.fence.blocks = 0 ∧ s.fence.dies = 0 ∧
  (∀ (p : Page) (i : Nat), s.reg p i 0x20 = 0 ∧ ∀ k < 8, s.reg p i (0x80 + 8 * k) = 0) ∧
  s.hif.window = [] ∧ s.hif.done = [] ∧ s.pending = [] ∧ s.time.now = 0 ∧ s.pnt.en = false ∧
  (∀ n : Nat, (s.link n).st = lkDown) ∧ (s.mux 0).src = 2 ∧
  s.reg .prf 0 0x100 = 0x03E8_0258_3A98 ∧ s.prf.limitW = 15000 ∧ s.prf.inlineW = 600 ∧ s.prf.floorW = 1000 ∧ s.prf.tjTarget = 95 ∧
  s.memOk ∧ s.otp ≤ 127
/-! ### Host interface: the command window -/

/-- With the link up and BAR4 open and 8 places free: a write of whole, aligned 64-byte units leaves the state as it was but for the window, which
gains one descriptor for each unit in ascending order, each with the next 32-bit SEQ, and the next SEQ. A write that is unaligned or no multiple of
64 bytes submits nothing and sets CMD_PARTIAL (bit 2 of the host interface's ERR_STAT). With fewer than 8 places free the link admits no write to
any BAR: one to BAR4 or BAR2 changes nothing yet.
Model's choices (numbers of the assumption log): that a refused window drops the write (104), and that a write the link does not admit does
nothing (118). -/
def Obligations.Bar4WriteSubmitsWholeDescriptors : Prop :=
  ∀ (s : State) (offset : Nat) (data : List (BitVec 8)) (stream : Option Nat),
    s.linked = true → s.barRefused stream = false → data ≠ [] →
    (4096 < s.hif.window.length + 8 →
      exec (.bar4DescriptorWrite offset data stream) s = .next s ∧ exec (.bar2Write offset data stream) s = .next s) ∧
    (offset % 64 = 0 → data.length % 64 = 0 → s.hif.window.length + 8 ≤ 4096 →
      exec (.bar4DescriptorWrite offset data stream) s = .next { s with hif := { s.hif with
        window := s.hif.window ++ (List.range (data.length / 64)).map
          (fun i => { seq := (s.hif.seqNext + i) % 2 ^ 32, bytes := (data.drop (64 * i)).take 64 }),
        seqNext := (s.hif.seqNext + data.length / 64) % 2 ^ 32 } }) ∧
    (offset % 64 ≠ 0 ∨ data.length % 64 ≠ 0 → s.hif.window.length + 8 ≤ 4096 →
      ∃ t, exec (.bar4DescriptorWrite offset data stream) s = .next t ∧ t.hif.window = s.hif.window ∧ t.errSet .hif 0 2 ∧
        OnlyIn { hif := true, ref := true, regs := true, out := true, sb := true } s t)

/-- The front descriptor is taken, completes, and nothing else changes: with STATUS 0 for a NOP whose operand bytes are 0; with CMD_FORMAT
(0x0840) for a NOP whose operand bytes are not all 0 and for every opcode that R550 does not list. Where neither the command's ring has a slot free
for its completion nor the module's buffer of 4,096 records a place, the NOP is taken and held at its end, and no completion waits. -/
def Obligations.NopAndReservedOpcodesComplete : Prop :=
  (∀ (s : State) (e : WinEntry) (rest : List WinEntry), s.Offers e rest →
    (e.opcode = 0 → e.zeros 0x10 0x40 = true → exec .nop s = .next (s.ended e rest 0 0)) ∧
    (e.opcode = 0 → e.zeros 0x10 0x40 = false → exec .nop s = .next (s.ended e rest 0x0840 0)) ∧
    (e.opcode ∉ [0, 1, 2, 0x10, 0x11, 0x12, 0x20, 0x21, 0x30, 0x31, 0x32, 0x33, 0x34, 0x40, 0x41, 0x42, 0x43, 0x44, 0x48, 0x50, 0x60, 0x61,
        0x62, 0x70, 0x71, 0x72, 0x73, 0x74, 0x75, 0x76] → exec .nop s = .next (s.ended e rest 0x0840 0))) ∧
  ∀ (s : State) (e : WinEntry) (rest : List WinEntry), s.Fronts e rest → e.opcode = 0 → e.zeros 0x10 0x40 = true →
    4096 ≤ s.hif.done.length → s.ringFree e.ring ≤ s.waitingFor e.ring → 4096 ≤ s.buffered →
    exec .nop s = .next { s with hif := { s.hif with window := rest, ending := [{ c := e.compl 0 0, queue := 0, targets := [] }] } }

/-- For NOP, WAIT, SIGNAL, RUN, COPY, ATOMIC, JNL_CLOSE, FW_UPDATE, ATTEST, GET_RANDOM, SFT_UNLOAD, SW_MC_WRITE and PLACE_RETIRE, each with its own
opcode at the front of the window, its fence met, room for its completion, and no command waiting in a queue: while FAULTED is set, the command completes with STATUS 0x0140 and nothing else changes; and
with its completion ring off it executes nothing, writes no completion, and sets CMD_RING_OFF (bit 3), only the window, the error page and what
an error brings about changing. -/
def Obligations.FaultedModuleRunsNoNewCommand : Prop :=
  ∀ (s : State) (e : WinEntry) (rest : List WinEntry) (c : Instr) (w1 w2 w3 : HostWay) (f : FlashWay),
    s.hif.window = e :: rest → s.canTake e = true → s.hif.parked = [] → s.place.retireSeq = none →
    (c, e.opcode) ∈ [(Instr.nop, 0), (.wait, 1), (.signal, 2), (.run, 0x10), (.placeRetire, 0x12), (.copy w1, 0x20), (.atomic, 0x21),
      (.sftUnload, 0x31), (.swMcWrite, 0x44), (.fwUpdate f, 0x60), (.attest w2, 0x61), (.getRandom w3, 0x62), (.jnlClose, 0x71)] →
    (s.fld .hif 0 (0x408 + 0x20 * e.ring) 0 0 = 1 → s.ref.faulted = true → s.room e.ringByte = true → exec c s = .next (s.ended e rest 0x0140 0)) ∧
    (s.fld .hif 0 (0x408 + 0x20 * e.ring) 0 0 = 0 →
      ∃ t, exec c s = .next t ∧ t.hif.window = rest ∧ t.hif.done = s.hif.done ∧ t.errSet .hif 0 3 ∧
        OnlyIn { hif := true, ref := true, regs := true, out := true, sb := true } s t)

/-- A well-formed WAIT taken at the front of the window: a counter that is not USED gives SYNC_BAD_TARGET (0x110B), an abandoned counter 0x110A, and
a counter at or above WTARGET STATUS 0, each with nothing else changed. A counter below WTARGET leaves the command waiting in the pool, with its
condition, while fewer than 256 wait, and gives CMD_WAIT_FULL (0x0841) when 256 do. -/
def Obligations.WaitCompletesOrEntersThePool : Prop :=
  ∀ (s : State) (e : WinEntry) (rest : List WinEntry), s.Offers e rest → e.opcode = 1 → e.zeros 0x10 0x40 = true →
    let w := (e.wshape, e.wcnt, e.wtarget)
    (s.waitUsed e = false → exec .wait s = .next (s.ended e rest 0x110B 0)) ∧
    (s.waitUsed e = true → s.waitState (some w) = .ok → exec .wait s = .next (s.ended e rest 0 0)) ∧
    (s.waitUsed e = true → s.waitState (some w) = .abandoned → exec .wait s = .next (s.ended e rest 0x110A 0)) ∧
    (s.waitUsed e = true → s.waitState (some w) = .notYet →
      (s.hif.waits.length < 256 → exec .wait s = .next { s with hif := { s.hif with
        window := rest, waits := s.hif.waits ++ [e.seq],
        opened := s.hif.opened ++ [{ seq := e.seq, tag := e.tag, opcode := 1, ring := e.ringByte, wait := some w }] } }) ∧
      (256 ≤ s.hif.waits.length → exec .wait s = .next (s.ended e rest 0x0841 0)))

/-- A well-formed SIGNAL taken at the front of the window, with target shape, counter index and N: a target that is not HOST gives 0x110B; without
a wait condition the SIGNAL sets out and the command completes with 0; with one, a wait counter that is not USED gives 0x110B, one that holds sends
the SIGNAL, one abandoned gives 0x110A and no SIGNAL, and one that does not hold yet keeps the command, with its SIGNAL, in the pool, or gives
CMD_WAIT_FULL. Nothing else changes. -/
def Obligations.SignalSetsOutOrWaits : Prop :=
  ∀ (s : State) (e : WinEntry) (rest : List WinEntry), s.Offers e rest → e.opcode = 2 → e.signalOk = true →
    let shape := bits (e.op 0x10 2) 14 6
    let i := bits (e.op 0x10 2) 5 0
    let n := e.op 0x18 8
    let w := (e.wshape, e.wcnt, e.wtarget)
    let sent : State := { s.ended e rest 0 0 with hif := { (s.ended e rest 0 0).hif with
      inflight := s.hif.inflight ++ [InFlight.host shape i n (some e.seq)] } }
    (s.hostCnt shape i = false → exec .signal s = .next (s.ended e rest 0x110B 0)) ∧
    (s.hostCnt shape i = true →
      (e.wen = false → exec .signal s = .next sent) ∧
      (e.wen = true →
        (s.waitUsed e = false → exec .signal s = .next (s.ended e rest 0x110B 0)) ∧
        (s.waitUsed e = true →
          (s.waitState (some w) = .ok → exec .signal s = .next sent) ∧
          (s.waitState (some w) = .abandoned → exec .signal s = .next (s.ended e rest 0x110A 0)) ∧
          (s.waitState (some w) = .notYet → 256 ≤ s.hif.waits.length → exec .signal s = .next (s.ended e rest 0x0841 0)) ∧
          (s.waitState (some w) = .notYet → s.hif.waits.length < 256 → exec .signal s = .next { s with hif := { s.hif with
            window := rest, waits := s.hif.waits ++ [e.seq],
            opened := s.hif.opened ++ [{ seq := e.seq, tag := e.tag, opcode := 2, ring := e.ringByte, wait := some w,
                                          signal := some (shape, i, n) }] } }))))

/-- A well-formed RUN with a target list and no wait condition, of a class other than INLINE, taken at the front of the window: without a LIVE
placement or with another PLACEMENT_ID it completes with 0x0240; else, with a block index that the grade does not expose, with 0x0241; else, with a
target outside DIE_MASK or SHAPE_BLOCKS, with 0x0242; else, with a fenced target, with 0x0243. Nothing else changes in any of these. -/
def Obligations.RunIsRefusedInTheOrderOfTheChecks : Prop :=
  ∀ (s : State) (e : WinEntry) (rest : List WinEntry), s.Offers e rest → e.opcode = 0x10 → e.runOk = true → e.runAll = false →
    let known := s.place.pstate = psLive ∧ e.op 0x10 8 = s.place.id
    let present := ∀ t ∈ e.listed, t.2 < s.exposed
    let placed := ∀ t ∈ e.listed, s.place.dieMask.testBit t.1 = true ∧ t.2 < s.place.shapeBlocks
    let block := fun t : Nat × Nat => (s.physOf (t.1 * s.place.shapeBlocks + t.2)).getD 0
    (¬ known → exec .run s = .next (s.ended e rest 0x0240 0)) ∧
    (known → ¬ present → exec .run s = .next (s.ended e rest 0x0241 0)) ∧
    (known → present → ¬ placed → exec .run s = .next (s.ended e rest 0x0242 0)) ∧
    (known → present → placed → (∃ t ∈ e.listed, s.fencedBlock (block t) = true) → exec .run s = .next (s.ended e rest 0x0243 0))

/-- A well-formed RUN of class COLL, BULK or SERVE without a wait condition that passes every check of R44 (its targets listed, or ALL): it is open,
with its SEQ, TAG, class, entry offset and targets; each target block has one more request at the back of its run queue for each time it is
named, with the command's entry, CHK, DENSE and STEP; no completion is written; every other block, every register and memory stay as they were.
One of ALL where the placement has no block completes at once with 0: its targets have all ended (a reading of R552: log 109). -/
def Obligations.RunAcceptedQueuesOnEveryTarget : Prop :=
  ∀ (s : State) (e : WinEntry) (rest : List WinEntry), s.Offers e rest → e.opcode = 0x10 → e.runOk = true → e.wen = false → e.cls ≠ 0 →
    s.place.pstate = psLive → e.op 0x10 8 = s.place.id →
    (e.runAll = false → ∀ t ∈ e.listed, t.2 < s.exposed ∧ s.place.dieMask.testBit t.1 = true ∧ t.2 < s.place.shapeBlocks) →
    (∀ t ∈ s.runTargets e, s.fencedBlock t.2 = false) →
    (s.runTargets e = [] → exec .run s = .next (s.ended e rest 0 0)) ∧
    (s.runTargets e ≠ [] → ∃ t c req, exec .run s = .next t ∧ t.hif = { s.hif with window := rest, opened := s.hif.opened ++ [c] } ∧
      c.seq = e.seq ∧ c.tag = e.tag ∧ c.ring = e.ringByte ∧ c.cls = e.cls ∧ c.entryOff = e.entryOff ∧ c.targets = s.runTargets e ∧
      c.admitted = false ∧ req.seq = some e.seq ∧ req.entry = e.entryOff ∧ req.chk = e.rflags.testBit 0 ∧ req.dense = e.rflags.testBit 1 ∧
      req.stepSet = (if e.stepSet then some (e.op 0x18 8) else none) ∧
      (∀ b, t.block b = { s.block b with
        runq := (s.block b).runq ++ List.replicate ((s.runTargets e).map Prod.snd |>.count b) req }) ∧
      t = { s with hif := t.hif, blocks := t.blocks })

/-- A well-formed COPY taken at the front of the window, with bus mastering possible and a buffer to stage host data when an end is in host memory,
and its device ranges plain memory (with overlapping ranges, the source is read first: log 45): the destination range holds the source range's bytes,
every other byte of both memories is as it was, the command completes with 0, and nothing else changes but the stacks' lists of dirty lines and what
staging leaves of Pantry. While bus mastering is off or no buffer can be had, a COPY with an end in host memory leaves the window and waits in its
queue, and nothing else changes. With the host's answer an error, HOST_ABORT (bit 6) sets, the command ends with it, and of both memories only the
destination range may change; with an uncorrectable word of its buffer it ends with CS_UE, and likewise.
Model's choices (numbers of the assumption log): the answer of the host is an operand (38), what a transfer is staged in (58), a range past the end
is malformed (29). -/
def Obligations.CopyMovesItsBytes : Prop :=
  ∀ (s : State) (e : WinEntry) (rest : List WinEntry) (way : HostWay), s.Offers e rest → e.opcode = 0x20 → e.copyOk = true →
    let src := e.op 0x10 8
    let dst := e.op 0x18 8
    let n := e.op 0x20 8
    let hosted := xDev src = false ∨ xDev dst = false
    let only := fun t : State => (∀ x, (xDev dst = false ∨ x < xAddr dst ∨ xAddr dst + n ≤ x) → t.dev.get x = s.dev.get x) ∧
      (∀ x, (xDev dst = true ∨ x < xAddr dst ∨ xAddr dst + n ≤ x) → t.host.get x = s.host.get x)
    (s.Reach src n way → s.Reach dst n way →
      ∃ t u, exec (.copy way) s = .next t ∧ (s.ended e rest 0 0).ReadAt u src ∧ u.StoredAt t dst (s.bytesAt src n)) ∧
    (hosted → (s.hostDma = false ∨ s.hostStaged n = false) →
      exec (.copy way) s = .next { s with hif := { s.hif with window := rest, parked := [e] } }) ∧
    (hosted → s.Reach src n .answered → s.Reach dst n .answered →
      (way = .aborted → ∃ t, exec (.copy way) s = .next t ∧ t.errSet .hif 0 6 ∧ e.compl 0x0806 0 ∈ t.hif.done ∧ only t) ∧
      (way = .uncorrectable → s.pnt.en = true → ∃ t, exec (.copy way) s = .next t ∧ t.errSet .pnt 0 7 ∧ e.compl 0x2307 0 ∈ t.hif.done ∧ only t))

/-- A well-formed ATOMIC of an integer operation (ADD, SMIN, SMAX, UMIN, UMAX, SWAP or CAS, 32 or 64 bits) on an aligned address of plain memory, taken
at the front of the window: it completes with STATUS 0 and the old value in RESULT0; the word holds the operation's result on the old value and
the operands at 0x20 of the descriptor; every other byte of device memory and everything else stays, but for the count of atomics, the dirty lines and
the free values drawn for lines they displace. -/
def Obligations.AtomicCommandStoresAndReturnsOld : Prop :=
  ∀ (s : State) (e : WinEntry) (rest : List WinEntry), s.Offers e rest → e.opcode = 0x21 → e.atomicOk = true →
    let aop := e.op 0x10 1
    let a := e.op 0x18 8
    let w := aopBytes aop
    aopOk aop = true → aopOp aop ≤ 6 → a % w = 0 → s.Plain a w →
    let old := leNat (s.dev.read a w)
    ∃ t, exec .atomic s = .next t ∧
      t.hif = { s.hif with window := rest, done := s.hif.done ++ [e.compl 0 old] } ∧
      t.dev = s.dev.write a (leBytes w (atomicResult (aopOp aop) (8 * w) old (e.op 0x20 w) (e.op (0x20 + w) w))) ∧
      OnlyIn { hif := true, dev := true, mem := true, regs := true, free := true } s t

/-! ### Host interface: completions, BAR2 and the link -/

/-- A ring's oldest waiting completion, with bus mastering possible and CONSUMED showing room: the 32 bytes of the record stand in slot
produced mod 2^SIZE_LOG2 of the ring (before the count is written), the ring's produced count, in host memory at PROD_ADDR and in the ring, has gone
up by one, and the record waits no longer. With the ring full, nothing changes; with the request answered with an error, HOST_ABORT (bit 6) sets and
the record goes on waiting. Device memory, blocks and every unit but the host interface stay.
A command held at its end completes once there is room. When a ring's hold-off expires and its produced count has moved since, its VEC is sent (or
stays pending while it may not be sent) if the ring has IRQ_EN, and hold-off starts again where HOLDOFF_US is not 0; when the count has not moved, or
without IRQ_EN, hold-off ends and nothing is sent. When Bus Master Enable is set and no Sifter record waits, every pending vector whose table entry
is unmasked is sent and the others stay pending; when it is cleared, all stay pending.
Model's choices (numbers of the assumption log): a vector pends while bus mastering is off (52), the hold-off's row is its expiry (37), the
host's answer is an operand (38). -/
def Obligations.CompletionsAndTheirVectors : Prop :=
  (∀ (s : State) (r : Nat) (c : Compl) (hostOk : Bool),
    s.hif.done.find? (fun c => bits c.ring 5 0 == r) = some c → s.hostDma = true → s.hif.ending = [] →
    let h := s.hring r
    let slot := h.base + 32 * (h.produced % 2 ^ h.sizeLog2)
    let rec' := leBytes 4 c.tag ++ leBytes 1 c.opcode ++ leBytes 1 c.ring ++ leBytes 2 c.status ++ leBytes 8 c.r0 ++ leBytes 8 c.r1 ++
      leBytes 4 c.seq ++ leBytes 1 c.nfault ++ [0, 0, 0]
    (h.produced < s.consumed r + 2 ^ h.sizeLog2 → hostOk = true →
      ∃ t, exec (.ringCompletionWrite r hostOk) s = .next t ∧
        t.host = (s.host.write slot rec').write h.prod (leBytes 8 (h.produced + 1)) ∧
        (t.hring r).produced = h.produced + 1 ∧ (t.hring r).base = h.base ∧ (t.hring r).sizeLog2 = h.sizeLog2 ∧
        t.hif.done = s.hif.done.filter (fun d => d.seq != c.seq) ∧
        OnlyIn { hif := true, host := true, out := true } s t) ∧
    (s.consumed r + 2 ^ h.sizeLog2 ≤ h.produced → exec (.ringCompletionWrite r hostOk) s = .next s) ∧
    (h.produced < s.consumed r + 2 ^ h.sizeLog2 → hostOk = false →
      ∃ t, exec (.ringCompletionWrite r hostOk) s = .next t ∧ t.host = s.host ∧ t.hif.done = s.hif.done ∧ t.errSet .hif 0 6)) ∧
  (∀ (s : State) (r : Nat) (h : Ending) (hostOk : Bool), s.hostDma = false → s.hif.ending = [h] → s.room h.c.ring = true →
    exec (.ringCompletionWrite r hostOk) s = .next { s with hif := { s.hif with done := s.hif.done ++ [h.c], ending := [] } }) ∧
  (∀ (s : State) (r : Nat), (s.hring r).holdoff = true →
    let v := s.ringFld r 42 32
    let cfg := s.ringFld r 63 48
    ((s.hring r).moved = false ∨ s.ringFld r 1 1 = 0 → exec (.ringHoldoffExpiry r) s = .next (s.setHring r { s.hring r with holdoff := false, moved := false })) ∧
    ((s.hring r).moved = true → s.ringFld r 1 1 = 1 → s.ref.busMaster = true → s.hif.msixMask.num v = 1 →
      ∃ t, exec (.ringHoldoffExpiry r) s = .next t ∧ t.out.msix = s.out.msix ++ [v] ∧
        t.hring r = { s.hring r with holdoff := cfg != 0, moved := false } ∧ OnlyIn { hif := true, out := true } s t) ∧
    ((s.hring r).moved = true → s.ringFld r 1 1 = 1 → (s.ref.busMaster = false ∨ s.hif.msixMask.num v ≠ 1) →
      ∃ t, exec (.ringHoldoffExpiry r) s = .next t ∧ v ∈ t.hif.msixPba ∧
        t.hring r = { s.hring r with holdoff := cfg != 0, moved := false } ∧ OnlyIn { hif := true } s t)) ∧
  (∀ (s : State) (ms : Bool), (∀ sf, (s.sifter sf).recq = []) →
    ∃ t, exec (.busMasterEnableChange true ms) s = .next t ∧ t.ref = { s.ref with busMaster := true, memSpace := ms } ∧
    t.out.msix = s.out.msix ++ s.hif.msixPba.filter (fun v => s.hif.msixMask.num v == 1) ∧
    (s.hif.msixPba.Nodup → t.hif.msixPba = s.hif.msixPba.filter (fun v => s.hif.msixMask.num v != 1)) ∧
    OnlyIn { hif := true, out := true, ref := true } s t) ∧
  (∀ (s : State) (ms : Bool), s.hif.msixPba.Nodup → (∀ sf, (s.sifter sf).recq = []) →
    exec (.busMasterEnableChange false ms) s = .next { s with ref := { s.ref with busMaster := false, memSpace := ms } })

/-- With the link up and BAR2 open, and an access inside the window to plain memory: a read answers the bytes of device memory from BASE × 2^30 +
offset on and changes nothing else; a write stores its bytes there, and every other byte stays. A read past the end of the window, or while the
window is refused, is answered Unsupported Request, and such a write changes nothing. A read of a stack that retrains or holds requests back waits.
The window is refused while it is closed, while the module is not ready, on an Insecure stream, and, with IDE_REQ set, outside a Secure stream.
Model's choices (numbers of the assumption log): only that an access beyond device memory is answered as from an OFFLINE stack, which the
premise of plain memory leaves out (50). -/
def Obligations.Bar2ReachesDeviceMemory : Prop :=
  (∀ (s : State) (k : Nat), (s.barRefused none = true ↔ s.ref.memSpace = false ∨ s.ref.d3hot = true ∨ s.ref.ready = false ∨ s.fld .sec 0 0x108 1 1 = 1) ∧
    (s.barRefused (some k) = true ↔ s.ref.memSpace = false ∨ s.ref.d3hot = true ∨ s.ref.ready = false ∨ s.sec.ideInsecure.testBit k = true ∨
      (s.fld .sec 0 0x108 1 1 = 1 ∧ s.sec.ideSecure.testBit k = false))) ∧
  ∀ (s : State) (offset len : Nat) (data : List (BitVec 8)) (stream : Option Nat), s.linked = true →
    let a := s.fld .hif 0 0x108 39 30 * 2 ^ 30 + offset
    let size := 2 ^ (30 + s.ref.bar2Log2)
    (0 < len → s.barRefused stream = false → offset + len ≤ size → s.Plain a len →
      exec (.bar2Read offset len stream) s = .next { s with out := { s.out with bar2 := some (0, s.dev.read a len) } }) ∧
    (data ≠ [] → s.barRefused stream = false → s.hif.window.length + 8 ≤ 4096 → offset + data.length ≤ size → s.Plain a data.length →
      ∃ t, exec (.bar2Write offset data stream) s = .next t ∧ s.Stored t a data) ∧
    (0 < len → s.barRefused stream = true ∨ size < offset + len →
      exec (.bar2Read offset len stream) s = .next { s with out := { s.out with bar2 := some (1, []) } }) ∧
    (s.barRefused stream = true ∨ size < offset + data.length → exec (.bar2Write offset data stream) s = .next s) ∧
    (0 < len → s.barRefused stream = false → offset + len ≤ size → s.devBusy a len = true →
      exec (.bar2Read offset len stream) s = .next { s with mem := { s.mem with
        queue := s.mem.queue ++ [{ addr := a, len := len, stamp := some s.hif.seqNext }] } })

/-- A resize of BAR2 to 2^k GiB (k at most 6) sets the size and rounds HIF_BAR2_BASE.BASE down to a multiple of it. A change of power state is held.
With the windows open, an access to BAR0 of another size than 4 or 8 bytes, or unaligned, sets bit 4 of the host interface's ERR_STAT and a read of
that kind is answered Unsupported Request, as every read is while the windows are closed (D3hot, or Memory Space Enable clear); an access whose page gives no answer sets bit 3 of the Referee's ERR_STAT and a read answers 0.
Model's choices (numbers of the assumption log): that the power state is the host's configuration access given as an event (38), and the
links of ERR_INFO (51). -/
def Obligations.LinkEventsAndMisfitAccesses : Prop :=
  (∀ (s : State) (k : Nat), k ≤ 6 →
    ∃ t, exec (.bar2Resize k) s = .next t ∧ t.ref = { s.ref with bar2Log2 := k } ∧
      t.fld .hif 0 0x108 39 30 = s.fld .hif 0 0x108 39 30 / 2 ^ k * 2 ^ k ∧ OnlyIn { ref := true, regs := true } s t) ∧
  (∀ (s : State) (d : Bool), exec (.pciePowerState d) s = .next { s with ref := { s.ref with d3hot := d } }) ∧
  (∀ (s : State) (offset size data : Nat), s.linked = true → (¬ (size = 4 ∨ size = 8) ∨ offset % size ≠ 0) → data < 2 ^ (8 * size) →
    (s.barsOpen = true → s.hif.window.length + 8 ≤ 4096 →
      ∃ t, exec (.barAccess true offset size data) s = .next t ∧ t.errSet .hif 0 4 ∧ t.out.read = s.out.read) ∧
    (s.barsOpen = true → ∃ t, exec (.barAccess false offset size data) s = .next t ∧ t.errSet .hif 0 4 ∧ t.out.read = some (1, 0)) ∧
    (s.barsOpen = false → exec (.barAccess true offset size data) s = .next s ∧
      exec (.barAccess false offset size data) s = .next { s with out := { s.out with read := some (1, 0) } })) ∧
  (∀ (s : State) (offset : Nat), s.bar0Open = true → s.hif.window.length + 8 ≤ 4096 →
    (∃ t, exec (.refPageTimeout true offset) s = .next t ∧ t.errSet .ref 0 3 ∧ t.out.read = s.out.read) ∧
    (∃ t, exec (.refPageTimeout false offset) s = .next t ∧ t.errSet .ref 0 3 ∧ t.out.read = some (0, 0)))

/-! ### Registers and errors -/

/-- A write of eight bytes to a register that has no action of its own, on a page that is served, by GENERIC_REGISTER_WRITE; and the same by the rows for a
die's arbitration weights, a Sifter's table ranges, a die's Proofer settings and BAR2's base, each at its own register: every RW field that the part
has takes the bits written, except that one whose new value is a reserved encoding keeps its value and REG_WRITE (bit 0) is set in the page. Only
registers and what an error brings about change.
Model's choices (numbers of the assumption log): which bits are one field (99), what ERR_INFO holds (51), and which row an access belongs
to (98). -/
def Obligations.RegisterWriteSetsItsFields : Prop :=
  ∀ (s : State) (c : Instr) (p : Page) (i off data : Nat) (r : RegDesc) (k : Nat) (f : RField),
    s.Serves p i → off % 8 = 0 → off < 0x1000 → findReg p off = some (r, k) → f ∈ r.fields → f.acc = .rw → s.noField p i off f = false →
    (c = .genericRegisterWrite (p.at i + off) 8 data ∧ plainReg p off = true) ∨
      (c = .dieArbWeightWrite i data ∧ p = .die ∧ off = 0x100) ∨
      (∃ table, table < 16 ∧ c = .sftTabWrite i table data ∧ p = .sft ∧ off = 0x300 + 8 * table) ∨
      (∃ die, die < 32 ∧ c = .prfDieWrite die data ∧ p = .prf ∧ off = 0x200 + 8 * die) ∨
      (c = .hifBar2BaseWrite data ∧ p = .hif ∧ off = 0x108) →
    let x := bits (data % 2 ^ 64) f.hi f.lo
    ∃ t, exec c s = .next t ∧
      (s.reserved p i off f x (data % 2 ^ 64) = false → t.fld p i off f.hi f.lo = x) ∧
      (s.reserved p i off f x (data % 2 ^ 64) = true → t.fld p i off f.hi f.lo = s.fld p i off f.hi f.lo ∧ t.errSet p i 0) ∧
      OnlyIn { hif := true, ref := true, regs := true, out := true, sb := true } s t

/-- On a served page, but for a stack's counts of cache hits and misses, which depend on timing: a read of an event count answers its value; read with 8 bytes it is 0 afterwards, and
read with 4 bytes, low half, it keeps its value. A read of SCRATCH, ERR_MASK or ERR_SEV answers the value and changes nothing but the answer.
Model's choices (numbers of the assumption log): which row an access belongs to (98). -/
def Obligations.EventCountClearsWhenRead : Prop :=
  ∀ (s : State) (p : Page) (i : Nat), s.bar0Open = true → s.pageServed p i = true → i < p.count →
    (∀ k, k < 8 → (p = .stk → k ≠ 5 ∧ k ≠ 6) →
      let off := 0x80 + 8 * k
      ∃ t u, exec (.rcRegisterRead (p.at i + off) 8) s = .next t ∧ t.out.read = some (0, s.reg p i off) ∧ t.reg p i off = 0 ∧
        exec (.rcRegisterRead (p.at i + off) 4) s = .next u ∧ u.out.read = some (0, s.reg p i off % 2 ^ 32) ∧ u.regs = s.regs) ∧
    (∀ off ∈ [0x28, 0x30, 0xF8], exec (.rcRegisterRead (p.at i + off) 8) s = .next { s with out := { s.out with read := some (0, s.reg p i off) } })

/-- First error: recording error bit b in a page with VALID = 0 sets the bit and VALID, captures INDEX b, the tag and the three words of detail; with VALID =
1 it sets the bit and leaves INDEX, ERR_TAG and ERR_INFO0-2 as they were. Release: a write of eight bytes to ERR_STAT clears the bits written as 1 and no others; VALID
clears when none is left and otherwise the capture is held. A bit's severity changes none of this, and a write that gives an entry of ERR_SEV 0b11 or a value below its
reset value leaves that entry as it was and sets REG_WRITE, while every other entry takes its value.
Model's choices (numbers of the assumption log): that each two-bit entry of ERR_SEV is one field of a reserved write (99). -/
def Obligations.FirstErrorIsHeldUntilErrStatIsZero : Prop :=
  (∀ (s : State) (p : Page) (i b tag i0 i1 i2 : Nat), b < 32 → tag < 2 ^ 32 → i0 < 2 ^ 64 → i1 < 2 ^ 64 → i2 < 2 ^ 64 →
    let t := s.raise p i b tag i0 i1 i2
    t.reg p i 0x20 = s.reg p i 0x20 ||| 2 ^ b ∧
    ((s.reg p i 0x38).testBit 63 = false →
      t.reg p i 0x38 = 2 ^ 63 + b ∧ t.reg p i 0x40 = tag ∧ t.reg p i 0x48 = i0 ∧ t.reg p i 0x50 = i1 ∧ t.reg p i 0x58 = i2) ∧
    ((s.reg p i 0x38).testBit 63 = true → ∀ off ∈ [0x38, 0x40, 0x48, 0x50, 0x58], t.reg p i off = s.reg p i off)) ∧
  (∀ (s : State) (p : Page) (i data : Nat) (r : RegDesc) (k : Nat), s.Serves p i → findReg p 0x20 = some (r, k) →
    ∃ t, exec (.errStatWrite (p.at i + 0x20) 8 data) s = .next t ∧
      (∀ f ∈ r.fields, t.fld p i 0x20 f.hi f.lo = s.fld p i 0x20 f.hi f.lo - (s.fld p i 0x20 f.hi f.lo &&& bits (data % 2 ^ 64) f.hi f.lo)) ∧
      (t.reg p i 0x20 = 0 → (t.reg p i 0x38).testBit 63 = false) ∧
      (t.reg p i 0x20 ≠ 0 → ∀ off ∈ [0x38, 0x40, 0x48, 0x50, 0x58], t.reg p i off = s.reg p i off)) ∧
  (∀ (s : State) (p : Page) (i data : Nat) (f : RField) (r : RegDesc) (k : Nat), s.Serves p i → findReg p 0x30 = some (r, k) → f ∈ r.fields →
    let x := bits (data % 2 ^ 64) f.hi f.lo
    ∃ t, exec (.genericRegisterWrite (p.at i + 0x30) 8 data) s = .next t ∧
      (x = 3 ∨ x < bits (sevReset p) f.hi f.lo → t.fld p i 0x30 f.hi f.lo = s.fld p i 0x30 f.hi f.lo ∧ t.errSet p i 0) ∧
      (x ≠ 3 → bits (sevReset p) f.hi f.lo ≤ x → t.fld p i 0x30 f.hi f.lo = x))

/-- An error bit of fatal severity that sets in a page: FAULT_N is asserted and FAULTED set; vector 0 is sent if bus mastering is on and its table entry unmasked,
and is pending otherwise; a write of the Scorebook is under way, with a further one asked for if one was before. An error bit of another severity leaves the
island's state as it was. No error reaches a placement, a block, a memory or any unit's data.
Model's choices (numbers of the assumption log): a vector pends while bus mastering is off (52). -/
def Obligations.FatalErrorStopsNewWork : Prop :=
  ∀ (s : State) (p : Page) (i b tag i0 i1 i2 : Nat), b < 32 →
    let t := s.raise p i b tag i0 i1 i2
    (s.fld p i 0x30 (2 * b + 1) (2 * b) = 2 →
      t.ref = { s.ref with faultN := true, faulted := true } ∧
      (if s.ref.busMaster && s.hif.msixMask.num 0 == 1 then 0 ∈ t.out.msix else 0 ∈ t.hif.msixPba) ∧
      t.sb.writing ≠ none ∧ (s.sb.writing ≠ none → t.sb.again = true)) ∧
    (s.fld p i 0x30 (2 * b + 1) (2 * b) ≠ 2 → t.ref = s.ref) ∧
    OnlyIn { hif := true, ref := true, regs := true, out := true, sb := true } s t

/-- Reading HIF_ERRQ answers the oldest page queued with VALID, and OVF, and takes it from the queue, clearing OVF. A write of a mapped block's trace register that
turns EN on starts an empty trace at the base and size programmed. A write of SD_SEL with a legal KIND 0 selection starts a fetch, with DONE cleared; when the fetch ends, the
value is that of the counter selected, or no value with the unreachable flag, when the block is fused off or its die has no voltage. A write of CFG_DET stores REQ, and STRICT follows
it in EMPTY and FAILED only.
Model's choices (numbers of the assumption log): self-clearing bits read 1 until the work is done (102), the fetch's row is its end (37). -/
def Obligations.QueueTraceDumpAndDetRegisters : Prop :=
  (∀ (s : State) (g : Nat) (gs : List Nat), s.bar0Open = true → s.pageServed .hif 0 = true → s.hif.errq = g :: gs →
    exec .hifErrqRead s = .next { s with
      hif := { s.hif with errq := gs, errqOvf := false }
      out := { s.out with read := some (0, 2 ^ 63 + g % 2 ^ 14 + b2n s.hif.errqOvf * 2 ^ 62) } }) ∧
  (∀ (s : State) (l p data : Nat), s.Serves .blk l → s.shown l = some p → (s.reg .blk l 0x118).testBit 0 = false → data.testBit 0 = true →
    ∃ t, exec (.blkTraceCtrlWrite l data) s = .next t ∧
      (t.block p).trace = { (s.block p).trace with
        en := true, base := s.reg .blk l 0x110, sizeLog2 := bits data 15 12, head := 0, wrapped := false } ∧
      (∀ q, q ≠ p → t.block q = s.block q) ∧ OnlyIn { blocks := true, hif := true, ref := true, regs := true, out := true, sb := true } s t) ∧
  (∀ (s : State) (data : Nat), s.Serves .ref 0 → data < 2 ^ 16 → bits data 10 6 ≤ 16 → bits data 5 0 ≤ 47 →
    exec (.sdSelWrite data) s = .next { s with ref := { s.ref with sdHost := { s.ref.sdHost with
      sel := BitVec.ofNat 64 data, info := BitVec.ofNat 64 (clearBit s.ref.sdHost.info.toNat 63), busy := true } } }) ∧
  (∀ (s : State) (mgmt : Bool),
    let d := if mgmt then s.ref.sdMgmt else s.ref.sdHost
    d.busy = true → d.sel.toNat.testBit 16 = false →
    let q := 17 * bits d.sel.toNat 15 11 + bits d.sel.toNat 10 6
    ∃ t d', exec (.sdFetchDone mgmt) s = .next t ∧ (if mgmt then t.ref.sdMgmt else t.ref.sdHost) = d' ∧
      d'.busy = false ∧ d'.sel = d.sel ∧ d'.info.toNat.testBit 63 = true ∧
      (s.hw.fused.testBit q = true ∨ s.place.dieOff.testBit (dieOf q) = true → d'.info.toNat = 2 ^ 63 ∧ d'.value = 0) ∧
      (s.hw.fused.testBit q = false → s.place.dieOff.testBit (dieOf q) = false →
        d'.value = BitVec.ofNat 64 ((s.block q).cnt (bits d.sel.toNat 5 0)).value) ∧
      OnlyIn { ref := true } s t) ∧
  (∀ (s : State) (data : Nat), s.Serves .cfg 0 →
    exec (.cfgDetWrite data) s = .next { s with place := { s.place with
      req := data.testBit 0
      strict := if s.place.pstate = psEmpty ∨ s.place.pstate = psFailed then data.testBit 0 else s.place.strict } })

/-- INLINE of a port cannot be set while the Sifter orders other port dies: it stays 0 and CFG_REFUSED (bit 9) is set; and with a port INLINE, an order mask that names other port dies is
refused in the same way. Without such a conflict the order mask is stored, and, with no program resident, INLINE and BUDGET (1 to 64) and PREFETCH (0 or 1) are stored. Turning a ring on
puts its programmed base and size in force with nothing produced yet. -/
def Obligations.SifterPortOrderAndRingRegisters : Prop :=
  ∀ (s : State) (sf : Nat), s.Serves .sft sf →
    let mine := 2 ^ (sf / 8)
    let other := fun v : Nat => bits v 3 0 ≠ 0 ∧ bits v 3 0 ≠ mine
    (∀ (port data : Nat), port < 4 → data < 2 ^ 64 →
      let off := 0x100 + 8 * port
      let legal := bits data 6 0 ≠ 0 ∧ bits data 6 0 ≤ 64 ∧ bits data 11 10 < 2
      (other (s.reg .sft sf 0x1C0) → (s.fld .sft sf off 8 8 = 0) → data.testBit 8 = true → legal →
        ∃ t, exec (.sftPortcfgWrite sf port data) s = .next t ∧ t.fld .sft sf off 8 8 = 0 ∧ t.errSet .sft sf 9) ∧
      (¬ other (s.reg .sft sf 0x1C0) → (s.sifterAt sf).slots = [] → legal →
        ∃ t, exec (.sftPortcfgWrite sf port data) s = .next t ∧
          t.fld .sft sf off 8 8 = bits data 8 8 ∧ t.fld .sft sf off 6 0 = bits data 6 0 ∧ t.fld .sft sf off 11 10 = bits data 11 10)) ∧
    (∀ data : Nat, data < 2 ^ 64 →
      (other data → (∃ port, port < 4 ∧ s.fld .sft sf (0x100 + 8 * port) 8 8 = 1) →
        ∃ t, exec (.sftOrderWrite sf data) s = .next t ∧ t.reg .sft sf 0x1C0 = s.reg .sft sf 0x1C0 ∧ t.errSet .sft sf 9) ∧
      (¬ other data ∨ (∀ port, port < 4 → s.fld .sft sf (0x100 + 8 * port) 8 8 = 0) →
        ∃ t, exec (.sftOrderWrite sf data) s = .next t ∧ t.fld .sft sf 0x1C0 3 0 = bits data 3 0)) ∧
    (∀ (ring data : Nat), ring < 2 → data < 2 ^ 64 → (s.reg .sft sf (0x208 + 0x20 * ring)).testBit 0 = false → data.testBit 0 = true →
      4 ≤ bits data 8 4 → bits data 8 4 ≤ 20 →
      ∃ t g, exec (.sifterRingEnable sf ring data) s = .next t ∧
        (if ring = 0 then (t.sifterAt sf).copyRing else (t.sifterAt sf).noticeRing) = g ∧
        g.en = true ∧ g.prod = 0 ∧ g.base = s.reg .sft sf (0x200 + 0x20 * ring) ∧ g.slotsLog2 = bits data 8 4 ∧
        g.slotLog2 = (if data.testBit 1 then 11 else 8) ∧ (∀ n, n ≠ sf → t.sifterAt n = s.sifterAt n))

/-- Pantry's EN rises when the layout programmed is legal, and every buffer is then free; with an illegal layout, or when EN falls while buffers are allocated, EN stays as it was and
CFG_REFUSED (bit 1) is set. CHANGE of a port's gate schedule, not yet pending, is pending afterwards, with its time fixed at a cycle start at least 1 µs ahead. A change of the PTP settings
restarts PTP unsynchronised. COL_LAST is taken while no collective runs, is held or waits, and is refused otherwise.
Model's choices (numbers of the assumption log): the size of the metadata region is open (32), the settings of CHANGE and COL_LAST as in
101, PTP as in 40. -/
def Obligations.PantryGatePtpAndOrderRegisters : Prop :=
  (∀ (s : State) (data : Nat), s.Serves .pnt 0 → data < 2 ^ 64 → bits data 15 9 ≤ 64 →
    (s.reg .pnt 0 0x100 % 2 = 0 → data % 2 = 1 → s.layoutOk (bits data 15 9) = true →
      ∃ t, exec (.pntCscfgWrite data) s = .next t ∧ t.pnt.en = true ∧ t.pnt.bufs = [] ∧ t.pnt.spillGib = bits data 15 9 ∧
        t.fld .pnt 0 0x100 0 0 = 1 ∧ OnlyIn { pnt := true, regs := true } s t) ∧
    (s.reg .pnt 0 0x100 % 2 = 0 → data % 2 = 1 → s.layoutOk (bits data 15 9) = false →
      ∃ t, exec (.pntCscfgWrite data) s = .next t ∧ t.pnt = s.pnt ∧ t.fld .pnt 0 0x100 0 0 = 0 ∧ t.errSet .pnt 0 1) ∧
    (s.reg .pnt 0 0x100 % 2 = 1 → data % 2 = 0 → s.pnt.bufs ≠ [] →
      ∃ t, exec (.pntCscfgWrite data) s = .next t ∧ t.pnt = s.pnt ∧ t.fld .pnt 0 0x100 0 0 = 1 ∧ t.errSet .pnt 0 1)) ∧
  (∀ (s : State) (n data : Nat), s.Serves .port n → data < 2 ^ 64 → data.testBit 1 = true → (s.reg .port n 0x580).testBit 1 = false →
    1 ≤ bits data 14 8 → bits data 14 8 ≤ 64 → 1 ≤ s.fld .port n 0x590 31 0 →
    ∃ t c, exec (.tmGateCtrlWrite n data) s = .next t ∧ (t.reg .port n 0x580).testBit 1 = true ∧ (t.port n).gate.changeAt = some c ∧
      s.time.now + 1000 ≤ c ∧ s.reg .port n 0x588 ≤ c ∧ (c - s.reg .port n 0x588) % s.fld .port n 0x590 31 0 = 0 ∧
      t.port n = { s.port n with gate := (t.port n).gate } ∧ (∀ m, m ≠ n → t.port m = s.port m)) ∧
  (∀ (s : State) (data : Nat), s.Serves .ref 0 → data < 2 ^ 17 → s.portMode (bits data 6 0) = 1 → data ≠ s.reg .ref 0 0x410 →
    s.reg .ref 0 0x410 < 2 ^ 17 →
    ∃ t, exec (.mtPtpcfgWrite data) s = .next t ∧ t.reg .ref 0 0x410 = data ∧
      t.time = { s.time with sync := false, ptpT1 := 0, ptpT2 := 0, ptpT3 := 0, ptpDelay := 0 } ∧ OnlyIn { time := true, regs := true } s t) ∧
  (∀ (s : State) (data : Nat), s.Serves .coll 0 → data < 2 ^ 64 →
    (s.coll.slots = [] → s.coll.held = [] → s.coll.queued = [] →
      exec (.colLastWrite data) s = .next { s with coll := { s.coll with last := data, ended := [] } }) ∧
    (s.coll.slots ≠ [] ∨ s.coll.held ≠ [] ∨ s.coll.queued ≠ [] →
      ∃ t, exec (.colLastWrite data) s = .next t ∧ t.coll = s.coll ∧ t.errSet .coll 0 1))

/-- RL_COORD is taken while every Rally port is down and its coordinates lie in their extents, and refused otherwise. An epoch cannot inject in a version that is not ACTIVE: such a write of
RL_EPOCH is refused whole, and one that changes no ACTIVE bit and no INJ stores its other fields. Route entries of a version that is ACTIVE are refused. A fence of neighbours, a mode of
port groups and a port's settings are stored, ports whose mode or settings change going down first (State.pmodeWritten, State.portCfgWritten), and then the fabric settles (State.fabricSettled);
where no port carries anything and no collective or transfer runs, each of the three is stored and nothing else changes.
Model's choices (numbers of the assumption log): a write of RL_EPOCH or RL_COORD is refused whole (99, 101). -/
def Obligations.FabricRegisters : Prop :=
  ∀ (s : State) (data : Nat), s.Serves .fab 0 → data < 2 ^ 64 →
    (s.rallyDown = false → ∃ t, exec (.rlCoordWrite data) s = .next t ∧ t.reg .fab 0 0x100 = s.reg .fab 0 0x100 ∧ t.errSet .fab 0 1) ∧
    (s.rallyDown = true → (∀ a < 3, bits data (4 * a + 3) (4 * a) ≤ bits data (4 * a + 19) (4 * a + 16)) →
      ∃ v, bits v 11 0 = bits data 11 0 ∧ (∀ a < 3, bits v (4 * a + 19) (4 * a + 16) = bits data (4 * a + 19) (4 * a + 16)) ∧
        exec (.rlCoordWrite data) s = .next (s.setReg .fab 0 0x100 v)) ∧
    (bit data 0 ≠ bit (s.reg .fab 0 0x118) 0 → data.testBit (1 + bit data 0) = false →
      ∃ t, exec (.rlEpochWrite data) s = .next t ∧ t.reg .fab 0 0x118 = s.reg .fab 0 0x118 ∧ t.errSet .fab 0 1) ∧
    (bits data 2 0 = bits (s.reg .fab 0 0x118) 2 0 → bits data 23 16 ≠ 0 → orderBad (bits data 14 9) = false → orderBad (bits data 8 3) = false →
      ∃ t, exec (.rlEpochWrite data) s = .next t ∧ t.fld .fab 0 0x118 23 16 = bits data 23 16 ∧ t.fld .fab 0 0x118 15 15 = bits data 15 15 ∧
        t.fld .fab 0 0x118 14 9 = bits data 14 9 ∧ t.fld .fab 0 0x118 8 3 = bits data 8 3) ∧
    (∀ version axis coord : Nat, version < 2 → axis < 3 → coord < 16 →
      let off := 0x400 + 0x180 * version + 0x80 * axis + 8 * coord
      (s.versionActive version = true → ∃ t, exec (.rlRteWrite version axis coord data) s = .next t ∧ t.reg .fab 0 off = s.reg .fab 0 off ∧
        t.errSet .fab 0 1) ∧
      (s.versionActive version = false → ∃ t, exec (.rlRteWrite version axis coord data) s = .next t ∧
        t.fld .fab 0 off 22 16 = bits data 22 16 ∧ t.fld .fab 0 off 14 8 = bits data 14 8 ∧ t.fld .fab 0 off 15 15 = bits data 15 15 ∧
        t.fld .fab 0 off 23 23 = bits data 23 23 ∧ t.fld .fab 0 off 27 27 = bits data 27 27)) ∧
    (∃ v, bits v 47 0 = bits data 47 0 ∧ exec (.rlFenceWrite data) s = .next (s.keep touchColl (s.setReg .fab 0 0x120 v).fabricSettled)) ∧
    ((∀ g < 16, bits data (2 * g + 1) (2 * g) ≠ 3) → ∃ v, bits v 31 0 = bits data 31 0 ∧
      exec (.rlPmodeWrite data) s = .next (s.keep touchColl (s.pmodeWritten (s.reg .fab 0 0x110) v))) ∧
    (∀ n : Nat, s.Serves .port n → bits data 7 6 < 3 → ∃ v, bits v 7 6 = bits data 7 6 ∧ bits v 5 2 = bits data 5 2 ∧ bit v 0 = bit data 0 ∧
      exec (.portCfgWrite n 0x800 data) s = .next (s.keep touchColl (s.portCfgWritten n 0x800 v))) ∧
    (s.FabricIdle →
      (∃ v, bits v 47 0 = bits data 47 0 ∧ exec (.rlFenceWrite data) s = .next (s.setReg .fab 0 0x120 v)) ∧
      ((∀ g < 16, bits data (2 * g + 1) (2 * g) ≠ 3) → ∃ v, bits v 31 0 = bits data 31 0 ∧ exec (.rlPmodeWrite data) s = .next (s.setReg .fab 0 0x110 v)) ∧
      (∀ n : Nat, s.Serves .port n → bits data 7 6 < 3 → ∃ v, bits v 7 6 = bits data 7 6 ∧ bits v 5 2 = bits data 5 2 ∧ bit v 0 = bit data 0 ∧
        exec (.portCfgWrite n 0x800 data) s = .next (s.setReg .port n 0x800 v)))

/-- A change of NF while R425 allows it empties every stack's list of dirty lines and is stored; otherwise it is refused and NF stays. RETRAIN of a stack that is ONLINE with no retrain under way
starts one of the channel written. A switch of multiplexer m to a source other than a reserved one, none pending and its PLL locked when the source is the PLL, becomes pending from the old source;
while one is pending it is refused with CFG_REFUSED; and a reserved source is REG_WRITE.
Model's choices (numbers of the assumption log): RETRAIN reads 1 until the work is done (102), which bits are one field (99). -/
def Obligations.MemoryModeRetrainAndClockRegisters : Prop :=
  (∀ (s : State) (data : Nat), s.Serves .mctl 0 → data < 2 ^ 64 →
    (bits data 0 0 ≠ s.fld .mctl 0 0x100 0 0 → s.nfMayChange = true →
      ∃ t, exec (.memModeWrite data) s = .next t ∧ t.fld .mctl 0 0x100 0 0 = bits data 0 0 ∧ t.fld .mctl 0 0x100 1 1 = bits data 1 1 ∧
        (∀ c ∈ t.mem.units, c.2.dirty = []) ∧ OnlyIn { mem := true, regs := true } s t) ∧
    (bits data 0 0 ≠ s.fld .mctl 0 0x100 0 0 → s.nfMayChange = false →
      ∃ t, exec (.memModeWrite data) s = .next t ∧ t.fld .mctl 0 0x100 0 0 = s.fld .mctl 0 0x100 0 0 ∧ t.mem = s.mem ∧ t.errSet .mctl 0 1)) ∧
  (∀ (s : State) (n data : Nat), s.Serves .stk n → data < 2 ^ 64 → data.testBit 32 = true → bits data 15 0 ≠ 0 →
    (s.stack n).state = 1 → (s.stack n).retraining = false →
    ∃ t, exec (.memMaintRetrain n data) s = .next t ∧ t.stack n = { s.stack n with retraining := true, retrainCh := bits data 31 27 } ∧
      t.errSet .stk n 4 ∧ (∀ m, m ≠ n → t.stack m = s.stack m)) ∧
  (∀ (s : State) (m data : Nat), s.Serves .clk 0 → m < 25 → data < 2 ^ 64 →
    let src := bits data 1 0
    ((src = 3 ∨ (src = 2 ∧ m ≠ 0)) → ∃ t, exec (.clkMuxWrite m data) s = .next t ∧ t.mux m = s.mux m ∧ t.errSet .clk 0 0) ∧
    (¬ (src = 3 ∨ (src = 2 ∧ m ≠ 0)) → (s.mux m).pending = true →
      ∃ t, exec (.clkMuxWrite m data) s = .next t ∧ t.mux m = s.mux m ∧ t.errSet .clk 0 1) ∧
    (¬ (src = 3 ∨ (src = 2 ∧ m ≠ 0)) → (s.mux m).pending = false → (src = 1 → (s.pll (muxPll m)).locked = true) →
      exec (.clkMuxWrite m data) s = .next (s.setMux m { s.mux m with src := src, pending := true, old := (s.mux m).src })))

/-- A ring whose EN rises takes its programmed base, size and addresses and starts with nothing produced, its hold-off running on; one whose EN would fall while commands are outstanding for it stays on, with CFG_REFUSED. COMMIT of a running
ACTIVE image outside TRIAL raises OTP_SVN to its SVN, at most 127, never lowers it; in TRIAL it is refused. IDE_REQ, once set, is never cleared. RF_RESET with KEY 0xA5 is a full reset with cause 5, and with
another key sets REG_WRITE. RF_MTEST.START while R425 allows it and no journal is in use starts a test of the stacks written, and is refused otherwise. The journal's mode is refused whole during a transfer.
WRITE of SB_CTRL starts a Scorebook write, or asks for a further one.
Model's choices (numbers of the assumption log): an SVN above 127 counts as 127 (84), JNL_CTRL is refused whole during a transfer (100),
self-clearing bits as in 102. -/
def Obligations.ServiceRegisters : Prop :=
  (∀ (s : State) (r data : Nat), s.Serves .hif 0 → r < 64 → data < 2 ^ 64 →
    let off := 0x408 + 0x20 * r
    (s.fld .hif 0 off 0 0 = 0 → data.testBit 0 = true → 6 ≤ bits data 11 7 → bits data 11 7 ≤ 20 → 2 ≤ bits data 42 32 →
      ∃ t, exec (.hifRingCfgWrite r 1 data) s = .next t ∧ t.fld .hif 0 off 0 0 = 1 ∧
        t.hring r = { base := s.reg .hif 0 (off - 8), sizeLog2 := bits data 11 7, prod := s.reg .hif 0 (off + 8), cons := s.reg .hif 0 (off + 16),
                        holdoff := (s.hring r).holdoff, moved := (s.hring r).moved }) ∧
    (s.fld .hif 0 off 0 0 = 1 → data.testBit 0 = false → s.outstanding r ≠ 0 →
      ∃ t, exec (.hifRingCfgWrite r 1 data) s = .next t ∧ t.fld .hif 0 off 0 0 = 1 ∧ t.hring r = s.hring r ∧ t.errSet .hif 0 1)) ∧
  (∀ (s : State) (data : Nat), s.Serves .sec 0 → data < 2 ^ 64 →
    (data.testBit 0 = true → s.sec.inTrial = true → ∃ t, exec (.secCtrlCommit data) s = .next t ∧ t.otp = s.otp ∧ t.errSet .sec 0 1) ∧
    (data.testBit 0 = true → s.sec.inTrial = false → s.sec.running = s.sec.active →
      ∃ t, exec (.secCtrlCommit data) s = .next t ∧ t.otp = max s.otp (min 127 s.sec.svn)) ∧
    (data.testBit 1 = true → ∃ t, exec (.secCtrlIdeReq data) s = .next t ∧ t.fld .sec 0 0x108 1 1 = 1) ∧
    (data.testBit 1 = false → s.fld .sec 0 0x108 1 1 = 1 →
      ∃ t, exec (.secCtrlIdeReq data) s = .next t ∧ t.fld .sec 0 0x108 1 1 = 1 ∧ t.errSet .sec 0 1)) ∧
  (∀ (s : State) (data : Nat), s.Serves .ref 0 → data < 2 ^ 64 →
    (data.testBit 0 = true → bits data 15 8 = 0xA5 → ∃ t, exec (.rfResetWrite data) s = .next t ∧
      t.ref.inReset = true ∧ t.ref.rstCause = 5 ∧ t.fence = {} ∧ t.place = {} ∧ t.regs = []) ∧
    (data.testBit 0 = true → bits data 15 8 ≠ 0xA5 → ∃ t, exec (.rfResetWrite data) s = .next t ∧ t.errSet .ref 0 0 ∧
      t.ref.inReset = s.ref.inReset) ∧
    (data.testBit 0 = true → s.ref.mtRunning = false → s.nfMayChange = true → s.jnlMode = 0 → s.mirrorRx = false →
      ∃ t, exec (.rfMtestStart data) s = .next t ∧ t.ref = { s.ref with
        mtRunning := true, mtStacks := bits data 31 16, mtDone := 0, mtFail := 0, mtAborted := false, mtProgress := 0 }) ∧
    (data.testBit 0 = true → s.ref.mtRunning = true ∨ s.nfMayChange = false →
      ∃ t, exec (.rfMtestStart data) s = .next t ∧ t.errSet .ref 0 1 ∧ t.ref.mtRunning = s.ref.mtRunning) ∧
    (s.jnl.transfer ≠ none → bits data 63 48 ≠ 0 → bits data 1 0 ≠ 3 →
      ∃ t, exec (.jnlCtrlWrite data) s = .next t ∧ t.reg .ref 0 0x500 = s.reg .ref 0 0x500 ∧ t.jnl = s.jnl ∧ t.errSet .ref 0 1)) ∧
  (∀ (s : State) (data : Nat), s.Serves .sb 0 → data < 2 ^ 64 → data.testBit 0 = true →
    ∃ t, exec (.sbCtrlWrite data) s = .next t ∧ t.sb.writing ≠ none ∧ (s.sb.writing ≠ none → t.sb = { s.sb with again := true }) ∧
      OnlyIn { sb := true, regs := true } s t)


/-! ### Device memory -/

/-- MEM_ACCESS of 1 to 16,384 bytes of plain memory: a read answers STATUS 0 and the bytes and changes nothing else; a read whose first word is found uncorrectable answers MEM_UE
(0x3003), with bit 3 set on that stack's page and memory as it was; a corrected symbol, or a corrected bit of the cache, changes no byte and sets bit 2. A write stores its bytes, every other byte
and everything else stays but for the answer, the lists of dirty lines and the free values drawn for lines displaced. In normal service an access that lies within a stack that is OFFLINE answers 0x3007
and changes nothing. A read of a channel that is retraining, or of a stack that holds requests back, waits, and nothing else changes.
Model's choices (numbers of the assumption log): the outcome of a read's first word is an operand (38), cache hits are open (54). -/
def Obligations.MemoryAccessReadsAndWrites : Prop :=
  ∀ (s : State) (a : Nat),
    (∀ n : Nat, 0 < n → n ≤ 16384 → s.Plain a n →
      exec (.memAccess false a n [] 0) s = .next { s with out := { s.out with mem := some (0, s.dev.read a n) } } ∧
      (∃ t, exec (.memAccess false a n [] 1) s = .next t ∧ t.out.mem = some (0x3003, []) ∧ t.errSet .stk (a / 2 ^ 36) 3 ∧ t.dev = s.dev ∧
        OnlyIn touchMem s t) ∧
      (∀ o ∈ [3, 4], ∃ t, exec (.memAccess false a n [] o) s = .next t ∧ t.out.mem = some (0, s.dev.read a n) ∧ t.errSet .stk (a / 2 ^ 36) 2 ∧
        t.dev = s.dev ∧ t.mem = s.mem ∧ OnlyIn touchMem s t)) ∧
    (∀ n o : Nat, 0 < n → n ≤ 16384 → a + n ≤ 2 ^ 40 → s.devBusy a n = true →
      exec (.memAccess false a n [] o) s = .next { s with mem := { s.mem with queue := s.mem.queue ++ [{ addr := a, len := n, outcome := o }] } }) ∧
    (∀ data : List (BitVec 8), data ≠ [] → data.length ≤ 16384 → s.Plain a data.length →
      ∃ t, exec (.memAccess true a 0 data 0) s = .next t ∧ ({ s with out := { s.out with mem := some (0, []) } } : State).Stored t a data) ∧
    (∀ (w : Bool) (data : List (BitVec 8)) (n outcome : Nat), let len := if w then data.length else n
      0 < len → len ≤ 16384 → s.nearFar = false → a + len ≤ 2 ^ 40 → a / 2 ^ 36 = (a + len - 1) / 2 ^ 36 →
      (s.stack (a / 2 ^ 36)).state = 3 → s.memWaits { addr := a, len := len } = false → outcome ≠ 2 →
      exec (.memAccess w a n data outcome) s = .next { s with out := { s.out with mem := some (0x3007, []) } })

/-- On an aligned word of 4 or 8 bytes of plain memory: ATOMIC_ADD stores the sum modulo 2^width, SMIN and SMAX the signed, UMIN and UMAX the unsigned lesser and greater, SWAP the operand,
CAS the new value when the old one equals the compare value; FADD (32 bits, outside strict mode) stores the FP32 sum; each answers the old value. ADD_EXACT on an aligned line of plain memory whose
total may be added to adds its operand to the total there. Every byte outside the word (for ADD_EXACT, outside the 72 bytes of the total) and everything but the stack's counts and dirty lines and the free values drawn for lines displaced stays. In strict mode FADD answers
DET_VARIANT, and a misaligned atomic, or any atomic in near/far mode, MEM_ATOMIC_FORMAT (0x3005), and memory stays.
Model's choices (numbers of the assumption log): the outcome at the memory is an operand (38). -/
def Obligations.AtomicsAtTheStack : Prop :=
  ∀ (s : State) (a x y : Nat),
    (∀ w ∈ [32, 64], a % (w / 8) = 0 → s.Plain a (w / 8) →
      let old := leNat (s.dev.read a (w / 8))
      let v := x % 2 ^ w
      ∀ (c : Instr) (new : Nat), (c, new) ∈ [(Instr.atomicAdd a w x, (old + v) % 2 ^ w),
          (.atomicSmin a w x, if toSigned w v < toSigned w old then v else old), (.atomicSmax a w x, if toSigned w old < toSigned w v then v else old),
          (.atomicUmin a w x, min old v), (.atomicUmax a w x, max old v), (.atomicSwap a w x, v),
          (.atomicCas a w x y, if old = v then y % 2 ^ w else old)] →
        ∃ t, exec c s = .next t ∧ t.dev = s.dev.write a (leBytes (w / 8) new) ∧ t.out = { s.out with mem := some (0, leBytes (w / 8) old) } ∧
          OnlyIn { dev := true, mem := true, regs := true, out := true, free := true } s t) ∧
    (a % 4 = 0 → s.Plain a 4 → s.strict = false →
      ∃ t, exec (.atomicFadd a x) s = .next t ∧ t.out = { s.out with mem := some (0, s.dev.read a 4) } ∧
        t.dev = s.dev.write a (leBytes 4 (fadd 0xA 0 (leNat (s.dev.read a 4)) (x % 2 ^ 32))) ∧
        OnlyIn { dev := true, mem := true, regs := true, out := true, free := true } s t) ∧
    (a % 128 = 0 → s.Plain a 72 → (Total.ofBytes (s.dev.read a 72)).zst ≠ 3 → ∀ fmt < 4,
      ∃ t, exec (.addExact a fmt x) s = .next t ∧ t.out = { s.out with mem := some (0, []) } ∧
        t.dev = s.dev.write a (addExactTotal fmt (Total.ofBytes (s.dev.read a 72)) (leBytes 72 x)).toBytes ∧
        OnlyIn { dev := true, mem := true, regs := true, out := true, free := true } s t) ∧
    (a % 4 = 0 → s.Plain a 4 → s.strict = true → exec (.atomicFadd a x) s = .next { s with out := { s.out with mem := some (0x0842, []) } }) ∧
    (∀ w ∈ [32, 64], a < 2 ^ 40 → s.memWaits { addr := a, len := w / 8 } = false → a % (w / 8) ≠ 0 ∨ s.nearFar = true →
      ∀ c ∈ [Instr.atomicAdd a w x, .atomicSmin a w x, .atomicSmax a w x, .atomicUmin a w x, .atomicUmax a w x, .atomicSwap a w x, .atomicCas a w x y],
        ∃ t, exec c s = .next t ∧ t.out.mem = some (0x3005, []) ∧ t.errSet .stk (a / 2 ^ 36) 5 ∧ t.dev = s.dev ∧ t.mem = s.mem)

/-- The patrol scrub of a word of a stack in service: a sound word changes nothing, a corrected one sets MEM_CE (bit 2) and an uncorrectable one sets MEM_UE (bit 3) and is remembered as
uncorrectable; no byte of memory changes (here and below, in a stack whose LB4 is clocked). A retrain begins on an ONLINE or self-refreshing stack with none under way, and sets bit 4. When it ends, with none further asked for and nothing waiting for memory: a success clears the
channel's count of consecutive failures and a failure short of the third adds one; the third takes the stack OFFLINE with that channel named, its cache emptied, and sets bit 7; a retrain asked for of another
channel then begins. A stack that may enter self-refresh does so with its dirty lines written back.
Model's choices (numbers of the assumption log): the outcomes are operands (38), a retrain's row is its beginning or end (37), a failed
retrain names the even pseudo-channel (46). -/
def Obligations.ScrubRetrainAndSelfRefresh : Prop :=
  (∀ (s : State) (word : Nat), word < 2 ^ 35 → let n := word / 2 ^ 31
    s.clockStopped (lb4Mux n) = false → (s.stack n).state ≠ 3 → word ∉ (s.stack n).bad →
      exec (.hbmScrub word 0) s = .next s ∧
      (∃ t, exec (.hbmScrub word 1) s = .next t ∧ t.errSet .stk n 2 ∧ t.mem = s.mem ∧ t.dev = s.dev ∧ OnlyIn touchMem s t) ∧
      (∃ t, exec (.hbmScrub word 2) s = .next t ∧ t.errSet .stk n 3 ∧ t.stack n = { s.stack n with bad := (s.stack n).bad ++ [word] } ∧
        t.dev = s.dev ∧ OnlyIn touchMem s t)) ∧
  (∀ (s : State) (n ch : Nat), n < 16 → ch < 32 → s.clockStopped (lb4Mux n) = false → (s.stack n).retraining = false → (s.stack n).state = 1 ∨ (s.stack n).state = 2 →
    ∃ t, exec (.hbmRetrainStart n ch) s = .next t ∧ t.stack n = { s.stack n with retraining := true, retrainCh := ch } ∧ t.errSet .stk n 4 ∧
      (∀ m, m ≠ n → t.stack m = s.stack m) ∧ t.dev = s.dev) ∧
  (∀ (s : State) (n : Nat), n < 16 → s.clockStopped (lb4Mux n) = false → s.NoWaiters → (s.stack n).retraining = true → let k := s.stack n
    let f := k.retrainFails.num k.retrainCh
    (s.retrainAsked n = none →
      exec (.hbmRetrainDone n true) s = .next (s.setStack n { k with retraining := false, retrainFails := k.retrainFails.setNum k.retrainCh 0 }) ∧
      (f < 2 → exec (.hbmRetrainDone n false) s = .next 
        (s.setStack n { k with retraining := false, retrainFails := k.retrainFails.setNum k.retrainCh (f + 1) })) ∧
      (2 ≤ f → k.state ≠ 3 → ∃ t, exec (.hbmRetrainDone n false) s = .next t ∧ t.stack n = { k with state := 3, failed := true, failedCh := k.retrainCh, dirty := [], retraining := false, held := false, retrainFails := k.retrainFails.setNum k.retrainCh (f + 1) } ∧ t.errSet .stk n 7 ∧ (∀ m, m ≠ n → t.stack m = s.stack m))) ∧
    (∀ c, c ≠ k.retrainCh → s.retrainAsked n = some c → k.state = 1 →
      ∃ t, exec (.hbmRetrainDone n true) s = .next t ∧ (t.stack n).retraining = true ∧ (t.stack n).retrainCh = c ∧
        (t.stack n).retrainFails.num k.retrainCh = 0)) ∧
  (∀ (s : State) (n : Nat), n < 16 → s.clockStopped (lb4Mux n) = false → s.fld .mctl 0 0x100 1 1 = 1 → (s.stack n).state = 1 → (s.stack n).retraining = false → (s.stack n).held = false →
    exec (.selfRefreshEntry n) s = .next (s.setStack n { s.stack n with state := 2, dirty := [] }))

/-- Whenever both memories are in their canonical form, they are so after any MEM_ACCESS, any atomic, any write through BAR2, any COPY or ATOMIC command, the record of any completion, and the scrub, retrain
and self-refresh commands. The canonical form is the model's own representation of memory (an address is listed once, in rising order, and never with what an
unlisted address reads as).
Model's choices (numbers of the assumption log): the canonical form is the model's own, and unwritten bytes read 0 (1). -/
def Obligations.StoringKeepsMemoryCanonical : Prop :=
  ∀ (s t : State) (c : Instr), s.memOk → exec c s = .next t →
    (∀ (w h : Bool) (way : HostWay) (stream : Option Nat) (a b n m o : Nat) (data : List (BitVec 8)),
      c ∈ [Instr.memAccess w a n data o, .bar2Write a data stream, .bar2Read a n stream, .copy way, .atomic, .ringCompletionWrite n h, .atomicAdd a n m, .atomicSmin a n m,
        .atomicSmax a n m, .atomicUmin a n m, .atomicUmax a n m, .atomicSwap a n m, .atomicCas a n m b, .atomicFadd a m, .addExact a n m, .hbmScrub a n,
        .hbmRetrainStart a n, .hbmRetrainDone a w, .selfRefreshEntry a] → t.memOk)

/-! ### Blocks: the issue stage -/

/-- For a block that may take a beat with its next word due: after what is due has landed, if no late fault and no residue failure strikes, and the word fetched has no word fault, is not held and has no state fault,
then the word issues: the block's beats and its step count go up by one, LAST_OFF and the step of the word are recorded, the run goes on at the word's successor, and what the word put in flight stands behind what was in flight
before, none of it due before this beat. No V, T or A register, no S register, no loop counter and no byte of the block store is changed by issuing. (No collective runs in the module.) -/
def Obligations.WordIssuesInOneBeat : Prop :=
  ∀ (s : State) (p : Nat) (op residue : Option Nat) (run : Run) (w : LongWord),
    (s.block p).run = some run → s.canBeat p = true → run.phase = .issue → s.NoColl → (s.block p).lateFault (s.block p).beats = none →
    let b := (s.block p).land (s.block p).beats
    let u := s.setBlock p b
    b.residueHit residue = none → fetchWord b.store b.lwBase b.lwBytes (2 * run.pc) = some w → wordFault (u.wordEnv p) run.pc w = none →
    (∀ r, w.slot 6 = some r → u.holdTest p r = .pass) → stateFault u p b.beats run.req.chk (decide (b.hold ≠ .none)) w = none →
    ∃ t x r' more, exec (.longWordIssue p .clean op residue) s = .next t ∧ t.block p = x ∧
      x.beats = b.beats + 1 ∧ x.step = (b.step + 1) % 2 ^ 64 ∧ x.hold = .none ∧ x.lastOff = run.pc ∧ x.lastStep = b.step ∧
      x.run = some r' ∧ r'.req = run.req ∧ r'.pc = nextPc b run.pc w ∧ r'.last = w.isEnd ∧
      x.pend = b.pend ++ more ∧ (∀ m ∈ more, b.beats ≤ m.due) ∧
      (∀ c, (x.cell c).v = (b.cell c).v ∧ (x.cell c).t = (b.cell c).t ∧ (x.cell c).a = (b.cell c).a) ∧
      x.s = b.s ∧ x.lc = b.lc ∧ x.store = b.store

/-- For a word of one slot that issues as above at beat n, the operations it puts in flight, one for each cell of its mask: a load of a V register (not decoded) brings the LEN bytes at A[AREG] + 64 × OFF at n + 12; a store of a V register
writes its first LEN bytes there at n + 8; an FP32, INT32 or BF16 vector operation other than the reduction operations writes VD at its own latency; SETA writes an A register at n + 1; a local SIG reaches its counter at n + 3 behind the stores issued
so far; ZERO sets the totals of its columns to exact 0 at once and MMA adds its products into its totals, its array taken for the beats its formats need. A word of no slot puts nothing in flight.
Model's choices (numbers of the assumption log): A + 64 × OFF is taken modulo 2^64 (21), FP32 beside a 16-bit format occupies an array 3
beats (11). -/
def Obligations.SlotsActAtTheirIssueBeat : Prop :=
  ∀ (s : State) (p : Nat) (op residue : Option Nat) (run : Run) (w : LongWord),
    (s.block p).run = some run → s.canBeat p = true → run.phase = .issue → s.NoColl → (s.block p).lateFault (s.block p).beats = none →
    let b := (s.block p).land (s.block p).beats
    let u := s.setBlock p b
    let n := b.beats
    b.residueHit residue = none → fetchWord b.store b.lwBase b.lwBytes (2 * run.pc) = some w → wordFault (u.wordEnv p) run.pc w = none →
    (∀ r, w.slot 6 = some r → u.holdTest p r = .pass) → stateFault u p n run.req.chk (decide (b.hold ≠ .none)) w = none →
    ∃ t x, exec (.longWordIssue p .clean op residue) s = .next t ∧ t.block p = x ∧
      (w.slots = [] → x.pend = b.pend ∧ x.cells = b.cells) ∧
      (∀ i r, w.slots = [(i, r)] → 2 ≤ i → i ≤ 3 → lKind r = 0 → lDec r = false → x.pend = b.pend ++ (onesOf 4 (slotMask i r)).map (fun c =>
        { due := n + 12, kind := .vreg c (lReg r) 0 (8 * lenBytes (lLen r))
            (leNat (b.store.read (slotAddr (b.cell c) r) (lenBytes (lLen r)))) true false })) ∧
      (∀ r, w.slots = [(4, r)] → lKind r = 0 → x.pend = b.pend ++ (onesOf 4 (slotMask 4 r)).map (fun c =>
        { due := n + 8, kind := .store (slotAddr (b.cell c) r) (lOff r) (((b.cell c).vreg (lReg r)).take (lenBytes (lLen r))) (lenBytes (lLen r)) })) ∧
      (∀ r, w.slots = [(5, r)] → vOp r ≤ 0x11 → x.pend = b.pend ++ (onesOf 4 (slotMask 5 r)).map (fun c =>
        let v := vecResult (vOp r) (vType r) (vAux r) (vB r) ((b.cell c).vreg (vA r)) ((b.cell c).vreg (vB r)) ((b.cell c).vreg (vD r))
        { due := n + 4, kind := .vreg c (vD r) 0 (8 * v.length) (leNat v) true false })) ∧
      (∀ r, w.slots = [(7, r)] → cOp r = 4 → x.pend = b.pend ++ (onesOf 4 (slotMask 7 r)).map (fun c =>
        { due := n + 1, kind := .areg c (cAreg r) (BitVec.ofInt 64 (cImmA r)) })) ∧
      (∀ r, w.slots = [(6, r)] → sOp r = 0 → x.pend = b.pend ++ [{ due := n + 3, kind := .sig (sCnt r) (sN r) b.storesBy b.dma.started }]) ∧
      (∀ i r, w.slots = [(i, r)] → i ≤ 1 → mOp r = 4 → x.pend = b.pend ∧ ∀ c k, c < 4 →
        (x.cell c).total k = if c ∈ onesOf 4 (slotMask i r) ∧ 64 * dCol r ≤ k ∧ k < 64 * (dCol r + zCount r) then {} else (b.cell c).total k) ∧
      (∀ i r, w.slots = [(i, r)] → i ≤ 1 → mOp r = 1 → ∀ c ∈ onesOf 4 (slotMask i r), let k := b.cell c
        (x.cell c).arrayFree = n + occupancy k.wfmt k.afmt ∧
        ∀ row < 64, (x.cell c).total (64 * mCol r + row) = (if mAcc r then k.total (64 * mCol r + row) else {}).addRow k.wfmt k.afmt
          (tileRow k.wfmt (tileK k.wfmt k.afmt) (k.tileBytes (mT r)) (k.sideBytes (mT r)) row)
          (alignGroup k.wfmt k.afmt (columnOf k.afmt (tileK k.wfmt k.afmt) (k.vreg (mV r)))))

/-- For a block that may take a beat with no late fault and no residue failure: an IDLE beat, a beat of an MMAS and an IDLE beat after END is counted and leaves one fewer; after the last the next word is due, and after END beats are
counted while anything is in flight. A command whose END has passed, with nothing in flight once what is due has landed, ends: the block runs nothing; a RUN none of whose targets is left and none of whose targets failed completes with STATUS 0
and, in RESULT0, the step of the first block of its range; a run of the prep core raises interrupt 17.
Model's choices (numbers of the assumption log): the last counted beat is the one at which nothing is pending (111). -/
def Obligations.EmptyBeatsAndCommandEnd : Prop :=
  ∀ (s : State) (p : Nat) (run : Run), (s.block p).run = some run → (s.block p).lateFault (s.block p).beats = none →
    let b := (s.block p).land (s.block p).beats
    (∀ op residue : Option Nat, s.canBeat p = true → b.residueHit residue = none →
      (∀ k, 0 < k → run.phase = .idle k → ∃ t q, exec (.emptyBeat p .clean op residue) s = .next t ∧
        t.block p = { b.countBeat with run := some { run with phase := if k = 1 then .issue else .idle (k - 1) }, runq := q }) ∧
      (∀ k idle, 0 < k → run.phase = .mmas k idle → ∃ t q, exec (.emptyBeat p .clean op residue) s = .next t ∧
        t.block p = { b.countBeat with runq := q, run := some { run with phase := if k = 1 then (if run.last then .ending idle else if idle ≠ 0 then .idle idle else .issue) else .mmas (k - 1) idle } }) ∧
      (∀ k, 0 < k → run.phase = .ending k → ∃ t q, exec (.emptyBeat p .clean op residue) s = .next t ∧
        t.block p = { b.countBeat with run := some { run with phase := .ending (k - 1) }, runq := q }) ∧
      (run.phase = .ending 0 → b.pend ≠ [] → ∃ t q, exec (.emptyBeat p .clean op residue) s = .next t ∧ t.block p = { b.countBeat with runq := q })) ∧
    (run.phase = .ending 0 → s.fencedBlock p = false → b.pend = [] → s.hif.done.length < 4096 →
      ∃ t, exec (.commandEnd p) s = .next t ∧ (t.block p).run = none ∧
        (run.req.seq = none → (t.block p).prep.mip.getLsbD 17 = true) ∧
        (∀ (q shape : Nat) (c : OpenCmd), run.req.seq = some q → s.openCmd q = some c → c.targets.map Prod.fst = [shape] →
          s.shapeOf p = some shape → c.faults = [] → ∃ more, t.hif.done = s.hif.done ++
            c.compl 0 (if shape = c.first then b.step else c.okStep) 0 0 :: more))

/-- For a block of a live placement that may take a beat with its next word due, no late fault and no residue failure: when the word fetched has a word fault, or (with no word fault and no hold) a state fault, the command ends at that beat: the
block runs nothing and has nothing in flight, the fault's bit is set in the ERR_STAT of the block's logical page, no block is fenced by it, and a RUN with no other target left and no earlier failure completes with the STATUS
0x1100 + that bit, the step in RESULT0, and one failed target. (No collective runs, and the buffer of completions has a place.) -/
def Obligations.WordFaultEndsItsCommand : Prop :=
  ∀ (s : State) (p l : Nat) (op residue : Option Nat) (run : Run) (w : LongWord) (f : WFault),
    (s.block p).run = some run → s.canBeat p = true → run.phase = .issue → s.NoColl → s.pageOfBlock p = some l → l < 512 →
    (s.block p).lateFault (s.block p).beats = none →
    let b := (s.block p).land (s.block p).beats
    let u := s.setBlock p b
    b.residueHit residue = none → fetchWord b.store b.lwBase b.lwBytes (2 * run.pc) = some w → f.code < 32 → s.hif.done.length < 4096 →
    (wordFault (u.wordEnv p) run.pc w = some f ∨ (wordFault (u.wordEnv p) run.pc w = none ∧ (∀ r, w.slot 6 = some r → u.holdTest p r = .pass) ∧
      stateFault u p b.beats run.req.chk (decide (b.hold ≠ .none)) w = some f)) →
    ∃ t, exec (.longWordIssue p .clean op residue) s = .next t ∧ (t.block p).run = none ∧ (t.block p).pend = [] ∧ t.errSet .blk l f.code ∧ t.fence = s.fence ∧
      (∀ (q shape : Nat) (c : OpenCmd), run.req.seq = some q → s.openCmd q = some c → c.targets.map Prod.fst = [shape] → s.shapeOf p = some shape →
        c.faults = [] → ∃ more r1, t.hif.done = s.hif.done ++
          c.compl (0x1100 + f.code) b.step r1 1 :: more)

/-- A signal on its way whose earlier writes are visible: it is on its way no more; a counter that is not abandoned goes up by N, to at most 2^64 − 1, and an abandoned counter stays; a WAIT that is the only command waiting in the pool completes with 0
when that brings its counter to its target. A signal whose earlier writes are not yet visible waits. A Huddle line whose participants have all arrived once more advances by one generation, and otherwise stays.
Model's choices (numbers of the assumption log): a signal in flight lands while its block holds (18). -/
def Obligations.SignalsAndHuddleReleases : Prop :=
  (∀ (s : State) (index shape i n p : Nat) (f : InFlight), s.hif.inflight[index]? = some f → f.target = (shape, i, n) → s.signalReady f = true →
    s.physOf shape = some p →
    ∃ t more, exec (.signalArrival index) s = .next t ∧ t.hif.inflight = s.hif.inflight.eraseIdx index ++ more ∧
      (t.block p).cnt i = (if ((s.block p).cnt i).abandoned.isSome then (s.block p).cnt i
        else { (s.block p).cnt i with value := min (2 ^ 64 - 1) (((s.block p).cnt i).value + n) }) ∧
      (∀ j, j ≠ i → (t.block p).cnt j = (s.block p).cnt j) ∧ OnlyIn { blocks := true, hif := true } s t ∧
      (∀ (c : OpenCmd) (target : Nat), s.hif.done.length < 4096 → s.hif.waits = [c.seq] → s.hif.opened = [c] → c.opcode = 1 → c.signal = none → c.wait = some (shape, i, target) →
        ((s.block p).cnt i).abandoned = none → target ≤ min (2 ^ 64 - 1) (((s.block p).cnt i).value + n) →
        t.hif.waits = [] ∧ t.hif.opened = [] ∧ t.hif.done = s.hif.done ++
          [c.compl 0 0 0 0])) ∧
  (∀ (s : State) (index : Nat) (f : InFlight), s.hif.inflight[index]? = some f → s.signalReady f = false → exec (.signalArrival index) s = .next s) ∧
  (∀ (s : State) (l : Nat),
    ((s.line l).gen < s.finalGen l → ∃ t, exec (.huddleRelease l) s = .next t ∧ t.line l = { s.line l with gen := (s.line l).gen + 1 } ∧
      (∀ k, k ≠ l → t.line k = s.line k) ∧ OnlyIn { hud := true } s t) ∧
    (s.finalGen l ≤ (s.line l).gen → exec (.huddleRelease l) s = .next s))

/-- A block in service, not yet fenced and mapped by a LIVE placement, that a prep-core fault, an uncorrectable store error (found by an access or by the scrub) or its watchdog fences: it is fenced, runs nothing, has nothing queued or in flight, each of its
counters is abandoned and so is each Huddle line it takes part in, and the error's bit is set on its logical page. DIE_FABRIC and DIE_VDOM fence a die not yet fenced with every block of it in service and set their bit on the die's page;
DIE_VDOM turns the die off. A corrected store word sets bit 16 of the page and fences nothing. (No collective runs.)
Model's choices (numbers of the assumption log): what LINK and RAIL_MV show is open (87), the retries before DIE_FABRIC set DIE_FABRIC_CE
(88), the retiring block is reported as in 20. -/
def Obligations.FencesStopTheirBlocks : Prop :=
  (∀ (s : State) (p l f : Nat), s.NoColl → s.inService p = true → s.fencedBlock p = false → s.live = true → s.shapeOf p = some f →
    s.pageOfBlock p = some l → l < 512 →
    (∀ (c : Instr) (bit word : Nat) (r : Option Nat), word < 2 ^ 24 →
      (c, bit) ∈ [(Instr.blockFence p 12 r, 12), (.blockFence p 13 r, 13), (.blkWatchdog p r, 14), (.blockStoreScrub p word .uncorrectable, 12)] →
      ∃ t, exec c s = .next t ∧ t.fence = { s.fence with blocks := s.fence.blocks ||| 2 ^ p } ∧ t.errSet .blk l bit ∧
        (t.block p).run = none ∧ (t.block p).runq = [] ∧ (t.block p).pend = [] ∧
        (∀ i < 48, ((t.block p).cnt i).abandoned ≠ none) ∧ (∀ n < 16, (s.block p).hudMask.testBit n = true → (t.line n).abandoned ≠ none)) ∧
    (∀ word < 2 ^ 24, ∃ t, exec (.blockStoreScrub p word .corrected) s = .next t ∧ t.errSet .blk l 16 ∧ t.fence = s.fence ∧ t.blocks = s.blocks) ∧
    (∀ word < 2 ^ 24, ∃ t, exec (.blockStoreScrub p word .clean) s = .next t ∧ t.fence = s.fence ∧ t.blocks = s.blocks ∧ t.regs = s.regs)) ∧
  (∀ (s : State) (d : Nat) (under : Option (Nat × Nat)), s.NoColl → d < 32 → s.fence.dies.testBit d = false →
    (∃ t, exec (.dieFabric d under) s = .next t ∧ t.fence.dies = s.fence.dies ||| 2 ^ d ∧ t.errSet .die d 1 ∧ t.errSet .die d 2 ∧
      (∀ k < 17, s.inService (17 * d + k) = true → t.fencedBlock (17 * d + k) = true) ∧ t.place = s.place) ∧
    (∃ t, exec (.dieVdom d under) s = .next t ∧ t.fence.dies = s.fence.dies ||| 2 ^ d ∧ t.errSet .die d 3 ∧
      (∀ k < 17, s.inService (17 * d + k) = true → t.fencedBlock (17 * d + k) = true) ∧
      t.place = { s.place with dieOff := s.place.dieOff ||| 2 ^ d }))

/-- A descriptor that its ring's posted count covers starts when fewer than 8 are in flight. When the oldest in flight ends with no error: a READ brings each row of plain device memory into the block store, a WRITE each row of the store into plain device memory
(rows that do not overlap one another or the descriptor's STATUS byte); the STATUS byte is 0x01, the DONE counter and the count of descriptors ended go up by one, and the ring goes on. A descriptor whose format fails ends with STATUS 0x83, halts its ring with that code and its
index, the others in flight do not end, and no byte but STATUS changes outside the destination that its fields name. (The block is not fenced, has no signal of its own waiting, and no collective runs.)
Model's choices (numbers of the assumption log): descriptors of one block end in ring order (53). -/
def Obligations.DmaMovesItsRows : Prop :=
  ∀ (s : State) (p : Nat), s.fencedBlock p = false → s.NoColl →
    let b := s.block p
    (s.ringsRun = true → b.dma.en = true → b.dma.halted = false → b.dma.flight.length < 8 → b.dma.started + 1 ≤ (b.cnt b.dma.post).value →
      ∃ t, exec (.dmaDescriptorStart p .clean) s = .next t ∧ t.block p = { b with dma := { b.dma with
        started := b.dma.started + 1
        flight := b.dma.flight ++ [(b.dma.started, 0x01)] } }) ∧
    (∀ (i : Nat) (rest : List (Nat × Nat)), b.sigs = [] → (b.cnt b.dma.done).abandoned = none →
      let d := b.dmaDesc i
      let stat := b.dma.slotAddr 32 i + 20
      let after := { b.cnt b.dma.done with value := min (2 ^ 64 - 1) ((b.cnt b.dma.done).value + 1) }
      (b.dma.flight = (i, 0x01) :: rest → s.dmaFormatOk d = true → d.op = 1 → (∀ r < d.rows, s.Plain (rowAt d.remote d.rstride r) d.len) → (d.rows = 1 ∨ d.len ≤ d.lstride) →
        (∀ r < d.rows, ∀ k < d.len, rowAt d.loc d.lstride r + k ≠ stat) →
        ∃ t, exec (.dmaDescriptorEnd p i .clean) s = .next t ∧
          (∀ r < d.rows, ∀ k < d.len, (t.block p).store.get (rowAt d.loc d.lstride r + k) = s.dev.get (rowAt d.remote d.rstride r + k)) ∧
          (t.block p).store.get stat = 1 ∧ (t.block p).cnt b.dma.done = after ∧ t.dev = s.dev ∧
          (t.block p).dma = { b.dma with flight := rest, ended := (b.dma.ended + 1) % 2 ^ 32, halted := false, code := 0, index := 0 }) ∧
      (b.dma.flight = (i, 0x01) :: rest → s.dmaFormatOk d = true → d.op = 2 → (∀ r < d.rows, s.Plain (rowAt d.remote d.rstride r) d.len) → (d.rows = 1 ∨ d.len ≤ d.rstride) →
        ∃ t, exec (.dmaDescriptorEnd p i .clean) s = .next t ∧
          (∀ r < d.rows, ∀ k < d.len, t.dev.get (rowAt d.remote d.rstride r + k) = b.store.get (rowAt d.loc d.lstride r + k)) ∧
          (∀ a, (∀ r < d.rows, a < rowAt d.remote d.rstride r ∨ rowAt d.remote d.rstride r + d.len ≤ a) → t.dev.get a = s.dev.get a) ∧
          (t.block p).store = b.store.write stat [1] ∧ (t.block p).cnt b.dma.done = after) ∧
      (b.dma.flight = (i, 0x01) :: rest → s.dmaFormatOk d = false →
        ∃ t, exec (.dmaDescriptorEnd p i .clean) s = .next t ∧ (t.block p).store.get stat = 0x83 ∧ (t.block p).cnt b.dma.done = after ∧
          (¬ (1 ≤ d.op ∧ d.op ≤ 4) → (t.block p).store = b.store.write stat [0x83]) ∧
          (t.block p).dma = { b.dma with
            flight := [], started := i + 1, ended := (b.dma.ended + 1) % 2 ^ 32, halted := true, code := 0x83
            index := i % 2 ^ b.dma.slotsLog2 } ∧ (d.op ≠ 2 → t.dev = s.dev)))

/-! ### Blocks: the prep core -/

/-- A running prep core with an instruction at its pc: ADD and ADDI write the sum modulo 2^64 to rd and go on behind the instruction, BEQ goes to its target when its registers are equal, LD and SD read and write 8 bytes of data memory; nothing but the block changes. ECALL
outside a trap saves the pc, the cause 11 and MIE and goes to mtvec with interrupts off; in a trap it fences the block with bit 13 of its page. MRET goes to mepc with MIE as saved. An uncorrectable error of the core's memory fences the block. An enabled pending interrupt i is taken, the lowest first:
it saves the pc, cause 2^63 + i and MIE and goes to mtvec, in vectored mode 4 i further. (No collective runs.)
Model's choices (numbers of the assumption log): WARL bits and the order of interrupts (26), the CSRs' reset values (9). -/
def Obligations.PrepCoreInstructions : Prop :=
  (∀ (s : State) (p ins len : Nat), s.NoColl → s.PrepAt p ins len →
    let b := s.block p
    let c := b.prep
    let pc := c.pc.toNat
    let x := b.xreg (iRs1 ins)
    let y := b.xreg (iRs2 ins)
    (iOp ins = 0x33 → iF3 ins = 0 → iF7 ins = 0 → exec (.prepInstruction p 0) s = .next (s.setBlock p (b.retire len (iRd ins) ((x + y) % 2 ^ 64)))) ∧
    (iOp ins = 0x13 → iF3 ins = 0 → exec (.prepInstruction p 0) s = .next (s.setBlock p (b.retire len (iRd ins) ((x + immI ins) % 2 ^ 64)))) ∧
    (iOp ins = 0x63 → iF3 ins = 0 → exec (.prepInstruction p 0) s =
      .next (s.setBlock p (b.retireAt (if x = y then (pc + immB ins) % 2 ^ 64 else pc + len)))) ∧
    (iOp ins = 0x03 → iF3 ins = 3 → let a := (x + immI ins) % 2 ^ 64
      0x100000 ≤ a → a + 8 ≤ 0x140000 →
      exec (.prepInstruction p 0) s = .next (s.setBlock p (b.retire len (iRd ins) (leNat (b.dmem.read (a - 0x100000) 8))))) ∧
    (iOp ins = 0x23 → iF3 ins = 3 → let a := (x + immS ins) % 2 ^ 64
      0x100000 ≤ a → a + 8 ≤ 0x140000 →
      exec (.prepInstruction p 0) s = .next (s.setBlock p { b.retire len 0 0 with dmem := b.dmem.write (a - 0x100000) (leBytes 8 y) })) ∧
    (ins = 0x00000073 → c.inTrap = false → ∃ t, exec (.prepInstruction p 0) s = .next t ∧ t = s.setBlock p (t.block p) ∧
      let d := (t.block p).prep
      d.mepc = c.pc ∧ d.mcause = 11 ∧ d.mtval = 0 ∧ d.pc.toNat = c.mtvec.toNat / 4 * 4 ∧ d.inTrap = true ∧
      d.mstatus.getLsbD 7 = c.mstatus.getLsbD 3 ∧ d.mstatus.getLsbD 3 = false ∧ d.x = c.x) ∧
    (ins = 0x30200073 → ∃ t, exec (.prepInstruction p 0) s = .next t ∧ t = s.setBlock p (t.block p) ∧
      let d := (t.block p).prep
      d.pc = c.mepc ∧ d.inTrap = false ∧ d.mstatus.getLsbD 3 = c.mstatus.getLsbD 7 ∧ d.mstatus.getLsbD 7 = true ∧ d.x = c.x) ∧
    (s.fencedBlock p = false → s.inService p = true → ∀ l, s.pageOfBlock p = some l → l < 512 →
      (∃ t, exec (.prepInstruction p 1) s = .next t ∧ t.fencedBlock p = true ∧ t.errSet .blk l 13) ∧
      (ins = 0x00000073 → c.inTrap = true → ∃ t, exec (.prepInstruction p 0) s = .next t ∧ t.fencedBlock p = true ∧ t.errSet .blk l 13))) ∧
  (∀ (s : State) (p i : Nat), s.prepRuns p = true → let c := (s.block p).prep
    c.mstatus.getLsbD 3 = true → i < 19 → c.mip.getLsbD i = true → c.mie.getLsbD i = true → (∀ j < i, (c.mip &&& c.mie).getLsbD j = false) →
    ∃ t, exec (.prepInterrupt p) s = .next t ∧ t = s.setBlock p (t.block p) ∧ let d := (t.block p).prep
      d.mepc = c.pc ∧ d.mcause.toNat = 2 ^ 63 + i ∧ d.mstatus.getLsbD 7 = true ∧ d.mstatus.getLsbD 3 = false ∧ d.inTrap = true ∧ d.x = c.x ∧
      d.pc = BitVec.ofNat 64 (c.mtvec.toNat / 4 * 4 + (if c.mtvec.getLsbD 0 then 4 * i else 0)))

/-- With the Xvln instruction of its function code at the pc of a running prep core, x and y its operands: vln.sig and vln.sigr put a signal of y on its way to the block's own counter x, or to counter x mod 256 of shape x / 256; vln.wait goes on with 0 when the counter is at
least y and stalls otherwise; vln.read answers the counter outside strict mode; vln.harv arrives at line x and vln.hwait goes on with 0 once the line has released the block's arrivals, and stalls before; vln.run queues a run; vln.wreg and vln.rreg write and read a register of the idle
issue stage; vln.rclr clears the reduction state with K = x mod 16 + 1, vln.rent and vln.rstat read it; vln.arm arms interrupt 18; vln.rdbc answers the block's beats outside strict mode. Each that goes on retires, and nothing else changes. With another instruction at the pc the command does nothing.
Model's choices (numbers of the assumption log): the abandoned line (17), and R195's age of a queued run (28). -/
def Obligations.XvlnInstructions : Prop :=
  ∀ (s : State) (p ins len : Nat), s.NoColl → s.PrepAt p ins len →
    let b := s.block p
    let x := b.xreg (iRs1 ins)
    let y := b.xreg (iRs2 ins)
    let done : Block := b.retire len 0 0
    let ret := fun v : Nat => s.setBlock p (b.retire len (iRd ins) v)
    let stalled := s.setBlock p { b with prep := { b.prep with state := 4 } }
    let sends := fun shape i : Nat => ({ s.setBlock p done with hif := { s.hif with
      inflight := s.hif.inflight ++ [.remote p shape i y b.storesBy b.dma.started] } } : State)
    (∀ c ∈ [Instr.vlnSig p, .vlnSigr p, .vlnWait p, .vlnRead p, .vlnHarv p, .vlnHwait p, .vlnRun p, .vlnWreg p, .vlnRreg p, .vlnRclr p, .vlnRent p, .vlnRstat p,
      .vlnArm p, .vlnRdbc p], iOp ins ≠ 0x0B → exec c s = .next s) ∧
    (iOp ins = 0x0B → iF3 ins = 0 →
      (iF7 ins = 0x00 → x ≤ 47 → 1 ≤ y → y < 2 ^ 32 → exec (.vlnSig p) s = .next (sends ((s.shapeOf p).getD 0) x)) ∧
      (iF7 ins = 0x01 → x % 256 ≤ 47 → 1 ≤ y → y < 2 ^ 32 → (s.physOf (x / 256)).isSome = true → exec (.vlnSigr p) s = .next (sends (x / 256) (x % 256))) ∧
      (iF7 ins = 0x02 → x ≤ 47 → (b.cnt x).abandoned = none →
        exec (.vlnWait p) s = .next (if y ≤ (b.cnt x).value then ret 0 else stalled)) ∧
      (iF7 ins = 0x03 → x ≤ 47 → s.strict = false → exec (.vlnRead p) s = .next (ret (b.cnt x).value)) ∧
      (iF7 ins = 0x04 → x ≤ 15 → s.hudTest p x true = .ok →
        exec (.vlnHarv p) s = .next (s.setBlock p { done with arr := b.arr.addNum x 1 })) ∧
      (iF7 ins = 0x05 → x ≤ 15 → s.hudTest p x false = .ok →
        exec (.vlnHwait p) s = .next (if b.arrivals x ≤ (s.line x).gen then ret 0 else stalled)) ∧
      (b.run.isSome = true → ∀ cf ∈ [(Instr.vlnRun p, 0x08), (.vlnRclr p, 0x10), (.vlnRstat p, 0x12)], iF7 ins = cf.2 → exec cf.1 s = .next stalled) ∧
      (b.run = none →
        (iF7 ins = 0x08 → exec (.vlnRun p) s = .next (s.setBlock p { done with runq := b.runq ++
          [{ seq := none, tag := y % 2 ^ 32, entry := x, chk := y.testBit 32, dense := y.testBit 33, cls := b.lastCls, isNew := s.time.now }] })) ∧
        (iF7 ins = 0x09 → selectorOk x = true → ∃ t, exec (.vlnWreg p) s = .next t ∧ t = s.setBlock p (t.block p) ∧ (t.block p).prep = done.prep ∧
          (bits x 5 4 = 0 → ∀ c ∈ onesOf 4 (bits x 9 6), ((t.block p).cell c).areg (bits x 3 0) = y) ∧
          (bits x 5 4 = 1 → (t.block p).sreg (bits x 3 0) = y) ∧ (bits x 5 4 = 2 → (t.block p).lc.num (bits x 3 0) = y % 2 ^ 24)) ∧
        (iF7 ins = 0x0A → selectorOk x = true → exec (.vlnRreg p) s = .next (ret (
          if bits x 5 4 = 0 then (b.cell (lowCell (bits x 9 6))).areg (bits x 3 0) else if bits x 5 4 = 1 then b.sreg (bits x 3 0) else b.lc.num (bits x 3 0)))) ∧
        (iF7 ins = 0x10 → ∃ t, exec (.vlnRclr p) s = .next t ∧ t = s.setBlock p (t.block p) ∧ (t.block p).prep = done.prep ∧
          (t.block p).rdu.entries = [] ∧ (t.block p).rdu.k = x % 16 + 1) ∧
        (iF7 ins = 0x11 → x ≤ 15 → exec (.vlnRent p) s = .next (ret (b.rdu.entryWord x))) ∧
        (iF7 ins = 0x12 → exec (.vlnRstat p) s = .next (ret b.rdu.word))) ∧
      (iF7 ins = 0x18 → x ≤ 47 → ∃ t, exec (.vlnArm p) s = .next t ∧ t = s.setBlock p (t.block p) ∧ (t.block p).prep.pc = done.prep.pc ∧
        ((b.cnt x).abandoned = none → (b.cnt x).value < y → (t.block p).prep.arm = some (x, y)) ∧
        ((b.cnt x).abandoned ≠ none ∨ y ≤ (b.cnt x).value → (t.block p).prep.arm = none ∧ (t.block p).prep.mip.getLsbD 18 = true)) ∧
      (iF7 ins = 0x19 → s.strict = false → exec (.vlnRdbc p) s = .next (ret b.beats)))

/-! ### Placements -/

/-- A well-formed PLACE_LOAD taken at the front of the window: while a placement is loading, verifying, live or retiring it completes with 0x0244 and does nothing else. From EMPTY or FAILED with its image in plain memory: a header or image that fails its checks (R27 to R33)
gives 0x0245, a shape that does not fit the usable blocks 0x0246, digests that differ 0x0247, and a block of the mapping, or its die, fenced meanwhile 0x0248, each with PSTATE FAILED and no mapping; and an image that passes everything gives 0 with PSTATE LIVE, the image's identity, PROGRESS 100, its shapes
mapped to the lowest usable blocks of their dies in order, and each of those blocks as the image describes it, its beat counter going on. While its image's stack makes it wait, PSTATE is LOADING and the command waits in its queue.
Model's choices (numbers of the assumption log): the fences met while it loads are the row's operand (38), the charge of the load's traffic is
free (123). -/
def Obligations.PlaceLoadMakesThePlacementLive : Prop :=
  ∀ (s : State) (e : WinEntry) (rest : List WinEntry), s.Offers e rest → e.opcode = 0x11 → e.imageXOk = true →
    let a := xAddr (e.op 0x10 8)
    let fails := fun (t : State) (st : Nat) => t.place.pstate = psFailed ∧ t.place.strict = s.place.req ∧ t.place.loadTag = e.tag ∧
      t.hif.window = rest ∧ t.hif.done = s.hif.done ++ [e.compl st 0]
    (∀ fences, s.place.pstate = psEmpty ∨ s.place.pstate = psFailed → s.devBusy a 256 = true →
      exec (.placeLoad fences) s = .next { s with
        hif := { s.hif with window := rest, parked := [e] }
        place := { s.place with pstate := psLoading, loadTag := e.tag, id := 0, progress := 0, progDig := [], wgtDig := [] } }) ∧
    (∀ fences, s.place.pstate = psLoading ∨ s.place.pstate = psVerifying ∨ s.place.pstate = psLive ∨ s.place.pstate = psRetiring →
      exec (.placeLoad fences) s = .next (s.ended e rest 0x0244 0)) ∧
    (s.place.pstate = psEmpty ∨ s.place.pstate = psFailed → s.Plain a 256 →
      let h := s.dev.read a 256
      let d := ImgHdr.ofBytes h
      (headerChecks h = false → ∃ t, exec (.placeLoad []) s = .next t ∧ fails t 0x0245 ∧ t.blocks = s.blocks) ∧
      (headerChecks h = true → s.Plain a d.bytes →
        let img := s.dev.read a d.bytes
        (d.imageOk img = false → ∃ t, exec (.placeLoad []) s = .next t ∧ fails t 0x0245 ∧ t.blocks = s.blocks) ∧
        (d.imageOk img = true →
          (s.shapeFits d = false → ∃ t, exec (.placeLoad []) s = .next t ∧ fails t 0x0246 ∧ t.blocks = s.blocks) ∧
          (s.shapeFits d = true → d.countersOk img = true →
            (∀ n ∈ (s.mappingFor d).map Prod.snd, ∀ f ∈ [n, 544 + dieOf n, 576 + dieOf n], ∃ t, exec (.placeLoad [f]) s = .next t ∧ t.place.pstate = psFailed ∧ t.place.map = [] ∧ t.fencedBlock n = true) ∧
            (d.progDigest img ≠ slice img 0x40 32 ∨ d.wgtDigest img ≠ slice img 0x60 32 →
              ∃ t, exec (.placeLoad []) s = .next t ∧ fails t 0x0247 ∧ t.place.map = []) ∧
            (d.progDigest img = slice img 0x40 32 → d.wgtDigest img = slice img 0x60 32 →
              ∃ t, exec (.placeLoad []) s = .next t ∧ t.place.pstate = psLive ∧ t.place.id = d.id ∧ t.place.progress = 100 ∧ t.place.loadTag = e.tag ∧
                t.hif.window = rest ∧ t.hif.done = s.hif.done ++ [e.compl 0 0] ∧ t.hud = [] ∧ t.dev = s.dev ∧ t.fence = s.fence ∧
                (∀ c ∈ (s.mappingFor d).zipIdx, t.block c.1.2 = { d.blockFor img c.2 c.1.1 with beats := (s.block c.1.2).beats }) ∧
                (∀ c ∈ s.mappingFor d, t.physOf c.1 = some c.2))))))

/-- A well-formed PLACE_RETIRE taken at the front of the window with no retire under way: in EMPTY it completes with 0 and only records its tag; with nothing under way and no other command open, PSTATE is EMPTY afterwards, STRICT takes the value asked for, every block but for its beat counter, every Huddle line and the identity are as at
reset, signals on their way are gone and the command completes with 0; with something under way, PSTATE is RETIRING, no line and no counter is abandoned any more, and the command stays open. A further PLACE_RETIRE
then waits in its queue. A later PLACE_RETIRE event with nothing left under way ends that retire in the same way.
Model's choices (numbers of the assumption log): LOAD_TAG is taken in EMPTY too (31), signals on their way are dropped (47). -/
def Obligations.PlaceRetireEmptiesThePlacement : Prop :=
  let bare := fun s : State => s.blocks.filterMap (fun c => if c.2.beats = 0 then none else some (c.1, { beats := c.2.beats : Block }))
  (∀ (s : State) (e : WinEntry) (rest : List WinEntry), s.Offers e rest → e.opcode = 0x12 → e.zeros 0x10 0x40 = true → s.place.retireSeq = none →
    (s.place.pstate = psEmpty → exec .placeRetire s = .next { s.ended e rest 0 0 with place := { s.place with loadTag := e.tag } }) ∧
    (s.place.pstate ≠ psEmpty → s.hif.opened = [] → s.hif.waits = [] → s.placementIdle = true →
      exec .placeRetire s = .next { s.ended e rest 0 0 with
        blocks := bare s, hud := []
        hif := { (s.ended e rest 0 0).hif with inflight := [] }
        prf := { s.prf with learned := [] }
        place := { s.place with
          pstate := psEmpty, strict := s.place.req, loadTag := e.tag, id := 0, progDig := [], wgtDig := [], map := [], pins := []
          dieMask := 0, shapeBlocks := 0, progress := 0 } }) ∧
    (s.place.pstate ≠ psEmpty → s.waitingSeqs = [] → s.placementIdle = false →
      ∃ t, exec .placeRetire s = .next t ∧ t.place = { s.place with pstate := psRetiring, loadTag := e.tag, retireSeq := some e.seq } ∧
        t.hif = { s.hif with window := rest, opened := s.hif.opened ++ [e.toOpen] } ∧ t.hud = [] ∧ (∀ c ∈ t.blocks, ∀ k ∈ c.2.cnts, k.2.abandoned = none) ∧
        OnlyIn { hif := true, place := true, blocks := true, hud := true, prf := true } s t)) ∧
  (∀ (s : State) (e : WinEntry) (rest : List WinEntry), s.Offers e rest → e.opcode = 0x12 → e.zeros 0x10 0x40 = true → s.place.retireSeq ≠ none →
    s.placementIdle = false → exec .placeRetire s = .next { s with hif := { s.hif with window := rest, parked := [e] } }) ∧
  (∀ (s : State) (q : Nat) (c : OpenCmd), s.place.retireSeq = some q → s.placementIdle = true → s.hif.done.length < 4096 → s.openCmd q = some c →
    ∃ t, exec .placeRetire s = .next t ∧ t.place.pstate = psEmpty ∧ t.place.map = [] ∧ t.place.retireSeq = none ∧ t.blocks = bare s ∧ t.hud = [] ∧
      t.hif.done = s.hif.done ++ [c.compl 0 0 0 0])

/-! ### Sifters -/

/-- For a well-formed SFT command taken at the front of the window with its data reachable: SFT_LOAD puts the program of an image that passes every check into its slot and otherwise ends with the STATUS of the first check that fails; SFT_UNLOAD empties a slot; SFT_CTX HOME homes a context that is neither pinned nor named by
a waiting run, and gives 0x2145 otherwise; PIN pins a homed context while fewer than 512 of its die and 2,048 in all are pinned (0x2146 otherwise), and gives 0x2149 without a home; UNPIN unpins; PIN, UNPIN, WRITE and READ leave the window and wait while a run dispatched before them that names their context waits; WRITE stores bytes of a context, READ returns them; SFT_TABLE stores entries of 16 bytes. In strict mode the
SFT_CTX operations end with 0x2104. Each completes once, and nothing else changes but what staging host data and using a context's page leave of Pantry.
Model's choices (numbers of the assumption log): what R240 to R263 leave short of contexts (74), the staging of host data (58). -/
def Obligations.SifterCommands : Prop :=
  ∀ (s : State) (e : WinEntry) (rest : List WinEntry), s.Offers e rest →
    let x := e.op 0x18 8
    let c := e.ctxNo
    let k := s.ctx c
    let withCtx := fun y : Ctx => ({ s.ended e rest 0 0 with sft := (s.setCtx c y).sft } : State)
    let ctxOp := fun op : Nat => e.opcode = 0x32 ∧ e.op 0x10 1 = op ∧ c < 8192 ∧ e.zeros 0x15 0x16 = true ∧ e.zeros 0x20 0x40 = true
    (e.opcode = 0x30 → e.op 0x10 1 < 32 → e.zeros 0x12 0x18 = true → xIsDev x = true → e.zeros 0x20 0x40 = true → s.xBusy x 2112 = false → s.Plain (xAddr x) 64 →
      let sf := e.op 0x10 1
      let h := s.dev.read (xAddr x) 64
      let n := 8 * field h 6 2
      let body := s.dev.read (xAddr x + 64) n
      (sftHeaderOk h = false ∨ 15 < e.op 0x11 1 → exec .sftLoad s = .next (s.ended e rest 0x2140 0)) ∧
      (sftHeaderOk h = true → e.op 0x11 1 ≤ 15 → s.Plain (xAddr x + 64) n →
        (s.sftCheck sf h body ≠ 0 → exec .sftLoad s = .next (s.ended e rest (s.sftCheck sf h body) 0)) ∧
        (s.sftCheck sf h body = 0 → exec .sftLoad s = .next { s.ended e rest 0 0 with
          sft := (s.setSifter sf { s.sifter sf with slots := Sparse.put (s.sifter sf).slots (e.op 0x11 1) (progOf h body) }).sft }))) ∧
    (e.opcode = 0x31 → e.op 0x10 1 < 32 → e.op 0x11 1 < 16 → e.zeros 0x12 0x40 = true → let sf := e.op 0x10 1
      exec .sftUnload s = .next { s.ended e rest 0 0 with
        sft := (s.setSifter sf { s.sifter sf with slots := Sparse.del (s.sifter sf).slots (e.op 0x11 1) }).sft }) ∧
    (ctxOp 0 → s.strict = false → e.op 0x11 1 < 32 ∨ e.op 0x11 1 = 0xFF → e.zeros 0x14 0x20 = true →
      exec .sftCtxHome s = .next (if k.pinned = true ∨ s.ctxInRun e = true then s.ended e rest 0x2145 0
        else withCtx { k with home := if e.op 0x11 1 = 0xFF then none else some (e.op 0x11 1) })) ∧
    (ctxOp 1 → s.strict = false → e.zeros 0x11 0x12 = true → e.zeros 0x14 0x20 = true → s.ctxInRun e = false →
      (k.home = none → exec .sftCtxPin s = .next (s.ended e rest 0x2149 0)) ∧
      (∀ h, k.home = some h → k.pinned = false → exec .sftCtxPin s = .next (
        if 2048 ≤ s.pinnedOn (fun _ => true) ∨ 512 ≤ s.pinnedOn (fun j => sifterDie j == sifterDie h) then s.ended e rest 0x2146 0 else withCtx { k with pinned := true }))) ∧
    (ctxOp 2 → s.strict = false → e.zeros 0x11 0x12 = true → e.zeros 0x14 0x20 = true → s.ctxInRun e = false →
      exec .sftCtxUnpin s = .next (withCtx { k with pinned := false })) ∧
    (∀ op ins, (op, ins) ∈ [(1, Instr.sftCtxPin), (2, .sftCtxUnpin)] → ctxOp op → e.zeros 0x11 0x12 = true → e.zeros 0x14 0x20 = true →
      s.ctxInRun e = true → exec ins s = .next { s with hif := { s.hif with window := rest, parked := [e] } }) ∧
    (∀ way op ins, (op, ins) ∈ [(3, Instr.sftCtxWrite way), (4, .sftCtxRead way)] → ctxOp op → e.ctxDataOk = true → s.ctxInRun e = true →
      s.ctxAway e = false → exec ins s = .next { s with hif := { s.hif with window := rest, parked := [e] } }) ∧
    (∀ way, s.strict = false → e.ctxDataOk = true → s.ctxInRun e = false → s.ctxAway e = false → s.xBusy x (e.op 0x16 2 + 1) = false →
      s.Reach x (e.op 0x16 2 + 1) way →
      let n := e.op 0x16 2 + 1
      let a := 256 * c + e.op 0x14 1
      (ctxOp 3 → ∃ t, exec (.sftCtxWrite way) s = .next t ∧
        ({ s.ended e rest 0 0 with sft := { (s.setCtx c (if n = 256 then { k with ue := false } else k)).sft with
          ctxMem := s.sft.ctxMem.write a (s.bytesAt x n) } } : State).Staged t) ∧
      (ctxOp 4 → k.ue = false → ∃ t u, exec (.sftCtxRead way) s = .next t ∧ (s.ended e rest 0 0).Staged u ∧ u.StoredAt t x (s.sft.ctxMem.read a n))) ∧
    (∀ way, let n := 16 * e.op 0x14 2
      let sf := e.op 0x10 1
      e.opcode = 0x33 → sf < 32 → e.zeros 0x11 0x12 = true → 1 ≤ e.op 0x14 2 → e.op 0x12 2 + e.op 0x14 2 ≤ 8192 → e.zeros 0x16 0x18 = true →
      xOk x = true → e.zeros 0x20 0x40 = true → s.xBusy x n = false → s.Reach x n way →
      ∃ t, exec (.sftTable way) s = .next t ∧ ({ s.ended e rest 0 0 with
        sft := (s.setSifter sf { s.sifter sf with table := (s.sifter sf).table.write (16 * e.op 0x12 2) (s.bytesAt x n) }).sft } : State).ReadAt t x) ∧
    (s.strict = true → k.home = none → e.zeros 0x14 0x20 = true → e.op 0x11 1 = 0 →
      (ctxOp 0 → exec .sftCtxHome s = .next (s.ended e rest 0x2104 0)) ∧
      (ctxOp 1 → s.ctxInRun e = false → exec .sftCtxPin s = .next (s.ended e rest 0x2104 0)) ∧
      (ctxOp 2 → s.ctxInRun e = false → exec .sftCtxUnpin s = .next (s.ended e rest 0x2104 0)))

/-- The first frame handed over from a port die that its Sifter's order mask names joins that Sifter's queue when fewer than 64 wait there, and is counted; one from another die is turned away and counted. With no run waiting, the queue's frame of the lowest key, once no earlier one can come, is dispatched: its run on a frame received whole
with its contexts pinned commits what it wrote to the contexts, takes the next SEQNO and counts in EVT_CNT0; a run that faults changes no context, sets its error bit and counts in EVT_CNT1. A watermark broadcast sets the port die's watermark to module time. Holds older than their age go, each counted. With its
port die's switch clock stopped for good, none of these happens. SFT_RELEASE of an absent
hold gives 0x2148, forwarding one that the host may not release 0x2147, and otherwise the hold is gone and the command completes with 0.
Model's choices (numbers of the assumption log): the index of a queue's frame is an operand (38), a hold's age-out row is its expiry (37),
points of Ilnus and of contexts as in 73 and 74. -/
def Obligations.SifterEvents : Prop :=
  (∀ (s : State) (sf die : Nat) (f : SftFrame) (more : List (Nat × Nat × SftFrame)), s.sft.handovers = (sf, die, f) :: more → sf < 32 → s.clockStopped (switchMux (sf / 8)) = false →
    ((s.srcDies sf).testBit die = true → (s.sifter sf).queue.length < 64 →
      ∃ t, exec (.sifterHandover 0) s = .next t ∧ t.sft.handovers = more ∧ t.sifter sf = { s.sifter sf with queue := (s.sifter sf).queue ++ [f] } ∧
        t.reg .sft sf 0xB8 = min (2 ^ 64 - 1) (s.reg .sft sf 0xB8 + 1)) ∧
    ((s.srcDies sf).testBit die = false → ∃ t, exec (.sifterHandover 0) s = .next t ∧ t.sft.handovers = more ∧
      (t.sifter sf).hodrop = min (2 ^ 64 - 1) ((s.sifter sf).hodrop + 1) ∧ (t.sifter sf).queue = (s.sifter sf).queue)) ∧
  (∀ (s : State) (sf : Nat) (f : SftFrame) (rest : List SftFrame) (p : Prog) (g : Frame), sf < 32 → s.clockStopped (switchMux (sf / 8)) = false → s.clk.coast = false → (s.sifter sf).runs = [] → s.ctxCmdsOn f = [] →
    (s.sifter sf).lowest = some (f, rest) → s.settledOrder sf f = true → s.progIn sf f.slot = some p →
    (s.inlinePort f.port = true → ∀ c ∈ f.ctxs, (s.ctx c).pinned = true) → (∀ c ∈ f.ctxs, s.homed sf c = true → (s.ctx c).pinned = true) →
    s.frame f.frame = some g → g.complete = true → s.stampClash f = none →
    (∀ r, ilnusRun (s.runEnv sf 0 g.bytes.length f) p.insns 256 0 { mem := s.sft.ctxMem } = .done r →
      ∃ t, exec (.sifterRun sf 0) s = .next t ∧ t.sft.ctxMem = r.mem ∧ (t.sifter sf).queue = rest ∧ (t.sifter sf).seqno = (s.sifter sf).seqno + 1 ∧
        t.reg .sft sf 0x80 = min (2 ^ 64 - 1) (s.reg .sft sf 0x80 + 1)) ∧
    (∀ insn bit c detail r, ilnusRun (s.runEnv sf 0 g.bytes.length f) p.insns 256 0 { mem := s.sft.ctxMem } = .fault insn bit c detail r → bit < 32 →
      ∃ t, exec (.sifterRun sf 0) s = .next t ∧ t.sft.ctxMem = s.sft.ctxMem ∧ (t.sifter sf).queue = rest ∧ t.errSet .sft sf bit ∧
        t.reg .sft sf 0x88 = min (2 ^ 64 - 1) (s.reg .sft sf 0x88 + 1))) ∧
  (∀ (s : State) (pd : Nat), s.clockStopped (switchMux pd) = false → exec (.watermarkBroadcast pd) s = .next { s with sft := { s.sft with watermark := s.sft.watermark.setNum pd s.time.now } }) ∧
  (∀ (s : State) (sf : Nat), sf < 32 → s.clockStopped (switchMux (sf / 8)) = false → let old := fun h : HoldRec => decide (1000 * h.age < s.time.now - h.since)
    ∃ t, exec (.sifterHoldAgeOut sf) s = .next t ∧ (t.sifter sf).holds = (s.sifter sf).holds.filter (fun h => !old h) ∧
      t.reg .sft sf 0xA8 = min (2 ^ 64 - 1) (s.reg .sft sf 0xA8 + ((s.sifter sf).holds.filter old).length)) ∧
  (∀ (s : State) (sf upset pd : Nat), (s.clockStopped (switchMux (sf / 8)) = true → exec (.sifterRun sf upset) s = .next s ∧
    exec (.sifterHoldAgeOut sf) s = .next s) ∧ (s.clockStopped (switchMux pd) = true → exec (.watermarkBroadcast pd) s = .next s)) ∧
  (∀ (s : State) (e : WinEntry) (rest : List WinEntry), s.Offers e rest → e.opcode = 0x34 → e.zeros 0x15 0x40 = true →
    let sf := e.op 0x10 4 / 2 ^ 27
    let gone := (s.sifter sf).holds.filter (fun g => g.id != e.op 0x10 4)
    (∀ c ∈ [(Instr.sftReleaseDiscard, 0), (.sftReleaseForward, 1)], e.op 0x14 1 = c.2 → s.holdOf e = none → exec c.1 s = .next (s.ended e rest 0x2148 0)) ∧
    (∀ h, s.holdOf e = some h → e.op 0x14 1 = 1 → h.hostOk = false → exec .sftReleaseForward s = .next (s.ended e rest 0x2147 0)) ∧
    (∀ h, s.holdOf e = some h → ∀ c ∈ [(Instr.sftReleaseDiscard, 0), (.sftReleaseForward, 1)], e.op 0x14 1 = c.2 → h.hostOk = true →
      ∃ t, exec c.1 s = .next t ∧ t.hif.window = rest ∧ t.hif.done = s.hif.done ++ [e.compl 0 0] ∧ (t.sifter sf).holds = gone) ∧
    (∀ h, s.holdOf e = some h → e.op 0x14 1 = 0 → h.hostOk = false →
      ∃ t, exec .sftReleaseDiscard s = .next t ∧ t.hif.done = s.hif.done ++ [e.compl 0 0] ∧ (t.sifter sf).holds = gone))

/-! ### Switch core, Ethernet, traffic manager, Pantry -/

/-- For a well-formed command taken at the front of the window with its data reachable: SW_TCAM_WRITE writes the entry (0x2440 for an index past 8,191, 0x2441 for a malformed result); SW_EM_INSERT puts the key in the first free place of its two buckets and returns where (0x2441, 0x2442 when the key is there, 0x2443 when both buckets are
full); SW_EM_UPDATE and SW_EM_DELETE act on the place of the key (0x2444 where there is none); SW_MC_WRITE writes a group (0x2440 past 4,095); a TM_METER write sets the meter of every die named with both buckets full (0x2040 for a record out of range), and a read returns the meter's record. A frame still being received keeps what the meter before the write gave it. Each completes once, and nothing else changes but what staging host data leaves of Pantry.
Model's choices (numbers of the assumption log): a bad entry is a free place (60), the staging of host data (58). -/
def Obligations.TableAndMeterCommands : Prop :=
  ∀ (s : State) (e : WinEntry) (rest : List WinEntry), s.Offers e rest →
    let x := e.op 0x18 8
    let withSw := fun (r0 : Nat) (w : Sw) => ({ s.ended e rest 0 r0 with sw := w } : State)
    (∀ way, e.opcode = 0x40 → e.zeros 0x12 0x18 = true → xOk x = true → e.zeros 0x20 0x40 = true → s.xBusy x 168 = false → s.Reach x 168 way →
      let i := e.op 0x10 2
      let bs := s.bytesAt x 168
      (8191 < i → exec (.swTcamWrite way) s = .next (s.ended e rest 0x2440 0)) ∧
      (i ≤ 8191 → resOk (field bs 160 8) = false → ∃ t, exec (.swTcamWrite way) s = .next t ∧ (s.ended e rest 0x2441 0).ReadAt t x) ∧
      (i ≤ 8191 → resOk (field bs 160 8) = true → ∃ t, exec (.swTcamWrite way) s = .next t ∧ (withSw 0 { s.sw with
        tcam := Sparse.set {} s.sw.tcam i { value := field bs 0 80, mask := field bs 80 80, result := field bs 160 8 } }).ReadAt t x)) ∧
    (e.opcode = 0x41 → e.zeros 0x30 0x40 = true →
      (emResOk e.emResult = false → exec .swEmInsert s = .next (s.ended e rest 0x2441 0)) ∧
      (emResOk e.emResult = true → s.emFind e.emKey ≠ none → exec .swEmInsert s = .next (s.ended e rest 0x2442 0)) ∧
      (emResOk e.emResult = true → s.emFind e.emKey = none →
        let free := fun i : Nat => !resValid (s.emE i).result || (s.emE i).bad
        ((∀ i ∈ emPlaces e.emKey, free i = false) → exec .swEmInsert s = .next (s.ended e rest 0x2443 0)) ∧
        (∀ i, (emPlaces e.emKey).find? free = some i → exec .swEmInsert s = .next (withSw (i / 4 + i % 4 * 2 ^ 16) { s.sw with
          em := Sparse.set {} s.sw.em i { key := leNat e.emKey, result := e.emResult } })))) ∧
    (e.opcode = 0x42 → e.zeros 0x30 0x40 = true → emResOk e.emResult = true →
      (s.emFind e.emKey = none → exec .swEmUpdate s = .next (s.ended e rest 0x2444 0)) ∧
      (∀ i, s.emFind e.emKey = some i → exec .swEmUpdate s = .next (withSw 0 { s.sw with
        em := Sparse.set {} s.sw.em i { s.emE i with result := e.emResult } }))) ∧
    (e.opcode = 0x43 → e.zeros 0x28 0x40 = true →
      (s.emFind e.emKey = none → exec .swEmDelete s = .next (s.ended e rest 0x2444 0)) ∧
      (∀ i, s.emFind e.emKey = some i → exec .swEmDelete s = .next (withSw 0 { s.sw with em := Sparse.set {} s.sw.em i {} }))) ∧
    (e.opcode = 0x44 → e.op 0x12 1 < 2 → e.zeros 0x13 0x20 = true → e.zeros 0x30 0x40 = true → let g := e.op 0x10 2
      exec .swMcWrite s = .next (if 4095 < g then s.ended e rest 0x2440 0
        else withSw 0 { s.sw with mc := Sparse.set {} s.sw.mc g { mask := e.op 0x20 16, hairpin := e.op 0x12 1 == 1 } })) ∧
    (∀ way, e.opcode = 0x48 → s.xBusy x 32 = false → s.Reach x 32 way →
      let m := e.op 0x12 2
      let dies := onesOf 4 (e.op 0x10 1)
      let bs := s.bytesAt x 32
      ((e.op 0x10 1).testBit 7 = false → e.meterOk false = true →
        (meterRecordOk bs = false → ∃ t, exec (.tmMeterWrite way) s = .next t ∧ (s.ended e rest 0x2040 0).ReadAt t x) ∧
        (meterRecordOk bs = true → ∃ t w, exec (.tmMeterWrite way) s = .next t ∧ (withSw 0 w).ReadAt t x ∧
          w = { s.sw with
            meters := w.meters
            frames := s.sw.frames.map (fun f => if dies.any (fun d => f.meter.map Prod.fst == some (4096 * d + m)) then { f with meter := none } else f) } ∧
          ∀ k, (withSw 0 w).meter k = if (∃ d ∈ dies, k = 4096 * d + m) then meterOf bs else s.meter k)) ∧
      ((e.op 0x10 1).testBit 7 = true → e.meterOk true = true →
        ∃ t, exec (.tmMeterRead way) s = .next t ∧ (s.ended e rest 0 0).StoredAt t x (s.meter (4096 * dies.headD 0 + m)).record))

/-- A port in Ethernet mode that is enabled and clocked comes up, and goes down with nothing being received. A frame that reaches a port that is not up, or is still receiving, does nothing. A whole frame with a bad FCS is counted and not kept; one refused a buffer is counted. A whole good frame whose lookup misses, with no other frame stored:
(stamped with module time as its die shows it) by the port's setting it is dropped and leaves no frame behind, or, with cut-through off, it stands last in its class's queue at MISS_PORT, whole. The end of a frame of at most 256 bytes that is cutting through to one output sends it there whole. A port that is up and idle sends the head copy of the class it selects, unless that is too old.
Model's choices (numbers of the assumption log): what the wire brings is an operand (38), the counts as in 62, a copy to a port that is
down waits (63), L3 and L4 kinds as in 35, arrivals within one ns (121). -/
def Obligations.EthernetFrames : Prop :=
  (∀ (s : State) (n : Nat), s.clockStopped (switchMux (portDie n)) = false →
    (s.portMode n = 1 → s.fld .port n 0x810 0 0 = 1 → s.serdesOn n = true → (n % 2 = 1 → s.fld .port (n - 1) 0x810 4 3 ≠ 3) →
      exec (.ethernetLinkUp n) s = .next (s.setPort n { s.port n with up := true })) ∧
    (s.portMode n ≠ 1 ∨ s.fld .port n 0x810 0 0 = 0 ∨ s.serdesOn n = false → exec (.ethernetLinkUp n) s = .next s) ∧
    (∃ t, exec (.ethernetLinkDown n) s = .next t ∧ (t.port n).up = false ∧ (t.port n).rx = none)) ∧
  (∀ (s : State) (n index : Nat) (data : List (BitVec 8)), n < 128 → data.length ≤ 128 → s.clockStopped (switchMux (portDie n)) = false →
    (∀ ended fcsOk upset, s.ethUp n = false ∨ (s.port n).rx ≠ none → exec (.ethFrameArrival n data ended fcsOk upset index) s = .next s) ∧
    (s.ethUp n = true → (s.port n).rx = none →
      let cls := s.ingressClass n (parseFrame data)
      let v := s.reg .port n 0x400
      let o := bits v 14 8
      let w := s.stampArrival n
      let last := Sparse.get (0, 0) s.sw.lastKey (n / 32)
      w.time.now = (if last.1 = s.time.now ∧ n < last.2 then (s.time.now + 1) % 2 ^ 64 else s.time.now) ∧
      (∃ t, exec (.ethFrameArrival n data true false 0 index) s = .next t ∧ (t.port n).arrivals = (s.port n).arrivals + 1 ∧ t.sw = w.sw ∧ t.time = w.time ∧ t.pnt = s.pnt ∧
        t.reg .sw 0 0xA8 = min (2 ^ 64 - 1) (s.reg .sw 0 0xA8 + 1) ∧ OnlyIn { ports := true, regs := true, sw := true, time := true } s t) ∧
      (s.canAlloc cls 0 (some n) = false → ∃ t, exec (.ethFrameArrival n data true true 0 index) s = .next t ∧ t.sw = w.sw ∧
        t.reg .pnt 0 0x80 = min (2 ^ 64 - 1) (s.reg .pnt 0 0x80 + 1) ∧ OnlyIn { ports := true, regs := true, sw := true, time := true } s t) ∧
      (s.canAlloc cls 0 (some n) = true → s.sw.frames = [] → s.ternaryHit (s.ternaryKey (parseFrame data) data n cls) = none →
        (bits v 2 1 ≠ 1 → ∃ t, exec (.ethFrameArrival n data true true 0 index) s = .next t ∧ t.sw.frames = [] ∧
          t.reg .sw 0 0x80 = min (2 ^ 64 - 1) (s.reg .sw 0 0x80 + 1) ∧ t.out.frames = s.out.frames) ∧
        (bits v 2 1 = 1 → bit v 0 = 0 → s.outBelow o = true → ∃ t f k, exec (.ethFrameArrival n data true true 0 index) s = .next t ∧ t.sw.frames = [f] ∧
          f.bytes = data ∧ f.complete = true ∧ f.stamp = w.timeOn (portDie n) ∧ (t.port o).queue cls = (s.port o).queue cls ++ [k] ∧
          k.frame = f.id ∧ k.len = data.length ∧ k.inPort = n ∧ t.out.frames = s.out.frames)))) ∧
  (∀ (s : State) (n id o : Nat) (f : Frame) (data : List (BitVec 8)), s.clockStopped (switchMux (portDie n)) = false → (s.port n).rx = some id → s.frame id = some f → f.port = n → f.decided = true →
    f.outs = [] → f.ct = [o] → f.bad = false → f.bufs ≠ [] → f.bytes.length + data.length ≤ 256 →
    ∃ t, exec (.ethFrameEnd n data true 0) s = .next t ∧ (t.port n).rx = none ∧ t.out.frames = s.out.frames ++ [(o, f.bytes ++ data, false)]) ∧
  (∀ (s : State) (n c : Nat) (x : Port) (k : Copy) (tl : List Copy) (f : Frame), s.clockStopped (switchMux (portDie n)) = false → s.ethUp n = true → s.txBusy n = false → s.pickClass n = (some c, x) →
    (s.port n).queue c = k :: tl → s.aged k = false → s.frame k.frame = some f → f.bad = false →
    ∃ t, exec (.txSelect n) s = .next t ∧ t.out.frames = s.out.frames ++ [(n, f.bytes, false)] ∧ (t.port n).queue c = tl)

/-- AGE_CHECK discards the head copy of each class that is paused or gated shut when it is too old, and no other copy. A shaper refill puts what was written in force and adds RATE × the interval to each bucket, up to BURST. A gate schedule's due replacement puts the list programmed in force from its time on, and otherwise the next entry begins when the current
one has ended. A received PFC frame pauses or resumes a priority on a port that obeys it; an XOFF in force is repeated; a pause that has run out ends. A time step sets module time, counts, and holds every enabled schedule closed until its next cycle start. A PTP message of the instance's port, domain and transport, and no other, counts: a Sync is stamped, a Follow_Up gives the offset, with SYNC while it is within 1 µs, and sends a Delay_Req, and a Delay_Resp gives the path delay.
Model's choices (numbers of the assumption log): each timer's row is its expiry (37), the PTP servo's rate is open (40), the scan starts at
class 0 (7). -/
def Obligations.TrafficAndTimeEvents : Prop :=
  (∀ (s : State) (n : Nat), s.clockStopped (switchMux (portDie n)) = false → ∃ t, exec (.ageCheck n) s = .next t ∧ ∀ c < 8, (t.port n).queue c = match (s.port n).queue c with
    | [] => []
    | k :: tl => if (s.gateBit n c = false ∨ (s.port n).paused.testBit c = true) ∧ s.aged k = true then tl else k :: tl) ∧
  (∀ (s : State) (n : Nat), s.clockStopped (switchMux (portDie n)) = false → ∃ t, exec (.shaperRefill n) s = .next t ∧ OnlyIn { ports := true } s t ∧ (∀ m, m ≠ n → t.port m = s.port m) ∧
    (t.port n).refillNs = s.fld .port n 0x510 16 0 ∧ ∀ c < 8, let v := s.reg .port n (0x540 + 8 * c)
      let h := (s.port n).shaper c
      let cap : Int := (bits v 23 0 * 8000000 : Nat)
      let add : Int := (bits v 55 26 * (s.port n).refillNs : Nat)
      let on := if v.testBit 63 then add else 0
      (h.owing = false → (t.port n).shaper c = {
        en := v.testBit 63, rate := bits v 55 26, burst := bits v 23 0
        tokens := if v.testBit 63 = true ∧ h.en = false then min cap add else min cap (h.tokens + on) }) ∧
      (h.owing = true → h.en = true → (t.port n).shaper c = {
        en := v.testBit 63, rate := bits v 55 26, burst := bits v 23 0, owing := true, tokens := h.tokens + on
        most := some (match h.most with | some m => min cap (m + on) | none => cap) })) ∧
  (∀ (s : State) (n : Nat), s.clockStopped (switchMux (portDie n)) = false → let g := (s.port n).gate
    (∀ at', g.changeAt = some at' → at' ≤ s.time.now → ∃ t, exec (.gateEntryChange n) s = .next t ∧ (t.reg .port n 0x580).testBit 1 = false ∧
      (t.port n).gate = { g with
        oper := s.adminList n, base := s.reg .port n 0x588, cycle := s.fld .port n 0x590 31 0, entry := 0, start := at', closed := false
        changeAt := none }) ∧
    (g.changeAt = none → g.oper ≠ [] → g.closed = false → g.entryEnd ≤ s.time.now → ∃ t, exec (.gateEntryChange n) s = .next t ∧
      (t.port n).gate = { g with entry := if g.entryEnd = g.cycleStart + g.cycle then 0 else g.entry + 1, start := g.entryEnd }) ∧
    (g.changeAt = none → g.closed = false → s.time.now < g.entryEnd → ∃ t, exec (.gateEntryChange n) s = .next t ∧ (t.port n).gate = g ∧ (∀ m, m ≠ n → t.port m = s.port m) ∧
      OnlyIn { ports := true } s t)) ∧
  (∀ (s : State) (n p q : Nat), p < 8 → s.clockStopped (switchMux (portDie n)) = false →
    (s.ethUp n = true → (s.reg .port n 0x418).testBit (8 + p) = true → ∃ t, exec (.pfcFrameReceive n p q) s = .next t ∧ OnlyIn { ports := true } s t ∧
      (t.port n).paused.testBit p = decide (q ≠ 0) ∧ ∀ r, r ≠ p → (t.port n).paused.testBit r = (s.port n).paused.testBit r) ∧
    (s.ethUp n = false ∨ (s.reg .port n 0x418).testBit (8 + p) = false → exec (.pfcFrameReceive n p q) s = .next s) ∧
    ((s.pnt.xoff.num n).testBit p = true → s.ethUp n = true →
      exec (.pfcPauseRepeat n p) s = .next { s with out := { s.out with pause := s.out.pause ++ [(n, p, s.fld .port n 0x418 39 24)] } }) ∧
    ((s.pnt.xoff.num n).testBit p = false → exec (.pfcPauseRepeat n p) s = .next s) ∧
    (∃ t, exec (.pfcPauseExpiry n p) s = .next t ∧ OnlyIn { ports := true } s t ∧ (t.port n).paused.testBit p = false ∧
      ∀ r, r ≠ p → (t.port n).paused.testBit r = (s.port n).paused.testBit r)) ∧
  (∀ (s : State) (now : Nat), ∃ t, exec (.timeStep now) s = .next t ∧ t.time = { s.time with now := now, steps := (s.time.steps + 1) % 2 ^ 16 } ∧
    OnlyIn { time := true, ports := true, regs := true } s t ∧ ∀ n < 128, s.gateEn n = true → (t.reg .port n 0x580).testBit 2 = true ∧
      ((s.port n).gate.oper ≠ [] → 0 < (s.port n).gate.cycle → (t.port n).gate.closed = true ∧ now ≤ (t.port n).gate.start)) ∧
  (∀ (s : State) (port domain kind T : Nat) (udp : Bool), s.ptpOurs port domain udp = false → exec (.ptpMessageReceive port domain udp kind T) s = .next s) ∧
  (∀ (s : State) (port domain T : Nat) (udp : Bool), s.ptpOurs port domain udp = true → s.clockStopped (switchMux (portDie port)) = false →
    let off : Int := s.time.ptpT2 - (T : Int) - s.time.ptpDelay
    exec (.ptpMessageReceive port domain udp 0 T) s = .next { s with time := { s.time with ptpT2 := s.time.now } } ∧
    exec (.ptpMessageReceive port domain udp 2 T) s = .next { s with time := { s.time with ptpDelay := (s.time.ptpT2 - s.time.ptpT1 + ((T : Int) - s.time.ptpT3)) / 2 } } ∧
    (∃ t, exec (.ptpMessageReceive port domain udp 1 T) s = .next t ∧ t.time.ptpT3 = s.time.now ∧
      t.out.ptp = s.out.ptp ++ [{ port := port, udp := udp, domain := domain, stamp := s.time.now }] ∧ t.time.offset = off ∧ t.time.sync = decide (-1000 ≤ off ∧ off ≤ 1000) ∧ t.time.now = s.time.now ∧
      OnlyIn { time := true, out := true, free := true } s t))

/-- A page asked for and read in, with a frame free, is resident and touched and is waited for no more; one that could not be read sets bit 5. A page on its way out leaves its frame and is counted, and page-out goes on until FRAME_HIGH frames are free. A sweep clears every touched mark, and while no page-out is called for does nothing else. The leak audit, when enabled, finds a buffer that nothing refers to on its second sweep running: it sets bit 3 and counts
it; on the first it only notes it; disabled, it changes nothing of Pantry's but what the ports' sending changes.
Model's choices (numbers of the assumption log): a page of a new buffer is a frame at once (56), a leak is reported on the second sweep
(76), the page read is an operand (38). -/
def Obligations.PantryPagesAndLeaks : Prop :=
  (∀ (s : State) (pg : Nat), pg ∈ s.pnt.waitIn → 0 < s.freeFrames → s.clockStopped (switchMux 0) = false →
    (∃ t, exec (.pageInDone pg true) s = .next t ∧ pg ∈ t.pnt.resident ∧ pg ∉ t.pnt.waitIn ∧
      t.reg .pnt 0 0xA0 = min (2 ^ 64 - 1) (s.reg .pnt 0 0xA0 + 1)) ∧
    (∃ t, exec (.pageInDone pg false) s = .next t ∧ t.errSet .pnt 0 5)) ∧
  (∀ (s : State) (pg : Nat), pg ∈ s.pnt.pagingOut → s.clockStopped (switchMux 0) = false → ∃ t, exec (.pageOutDone pg) s = .next t ∧
    pg ∉ t.pnt.pagingOut ∧ pg ∉ t.pnt.resident ∧ pg ∉ t.pnt.touched ∧ t.pnt.bufs = s.pnt.bufs ∧
    (s.pnt.paging = false → s.fld .pnt 0 0x138 28 16 ≤ s.freeFrames → t.pnt = { s.pnt with
      pagingOut := s.pnt.pagingOut.filter (· != pg), resident := s.pnt.resident.filter (· != pg), touched := s.pnt.touched.filter (· != pg) }) ∧
    t.reg .pnt 0 0x98 = min (2 ^ 64 - 1) (s.reg .pnt 0 0x98 + 1) ∧ OnlyIn { pnt := true, regs := true, ports := true, free := true } s t) ∧
  (∀ (s : State) (pg : Nat), pg ∉ s.pnt.pagingOut → exec (.pageOutDone pg) s = .next s) ∧
  (∀ s : State, s.clockStopped (switchMux 0) = false → (∃ t, exec .pagingSweep s = .next t ∧ t.pnt.touched = [] ∧ t.pnt.bufs = s.pnt.bufs ∧ OnlyIn { pnt := true, free := true } s t) ∧
    (s.pnt.en = false ∨ s.pnt.spillGib = 0 ∨ (s.pnt.paging = false ∧ s.fld .pnt 0 0x138 28 16 ≤ s.freeFrames) → exec .pagingSweep s = .next { s with pnt := { s.pnt with touched := [] } })) ∧
  (∀ (s : State) (q : Nat) (i : BufInfo), s.clockStopped (switchMux 0) = false → s.rly.links = [] → s.pnt.bufs = [(q, i)] → q ∉ s.liveBufs →
    (s.fld .pnt 0 0x140 0 0 = 0 → exec .leakAuditSweep s = .next s) ∧
    (s.fld .pnt 0 0x140 0 0 = 1 → i.seen = 0 → exec .leakAuditSweep s = .next { s with pnt := { s.pnt with bufs := [(q, { i with seen := 1 })] } }) ∧
    (s.fld .pnt 0 0x140 0 0 = 1 → i.seen = 1 → ∃ t, exec .leakAuditSweep s = .next t ∧ t.errSet .pnt 0 3 ∧
      t.pnt.leaks = min (2 ^ 32 - 1) (s.pnt.leaks + 1)))

/-! ### Rally links and the fabric -/

/-- With no collective running and no journal transfer: a flit with a good CRC and the next FSEQ that carries a whole packet is taken in order, and the packet waits to be taken from its port; a flit with another FSEQ than the next one moves only the place in its pair of codewords, and a flit for a port that is down changes no link; a flit with a bad CRC, or touched by a codeword that cannot be corrected, makes the port send a NAK once. A replay timeout sends every flit of
the retry buffer again, oldest first, and counts; the eighth without progress retrains the lanes. When a retrain's time is over the port is DOWN and bit 3 of the fabric page is set; lanes trained again bring a retraining link back to the state it was in, and an enabled, clocked port that is DOWN to TRAINING, where it sends an IDENT that says what it is. An IDENT that matches the system, the extents and the port's settings makes the peer known, one that does not leaves the link in MISMATCH with bit 2 set; a link in TRAINING is UP
once both such an IDENT and the peer's credits have come.
Model's choices (numbers of the assumption log): first FSEQ 0 (8), padding is open (34), REPLAYS stays at its largest value (67), each
timer's row is its expiry (37). -/
def Obligations.RallyLinkEvents : Prop :=
  ∀ (s : State) (n : Nat), s.NoColl → s.jnl.transfer = none → n < 128 → s.clockStopped (switchMux (portDie n)) = false →
    let k := s.link n
    (∀ (f : List (BitVec 8)) (cw : Nat), f.length = 256 → s.rallyOn n = true →
      let ctl := field f 0 6
      let bad := if k.pos = 0 then cw % 4 else k.cwBad
      let hit := (k.pos ≤ 2 ∧ bad.testBit 0 = true) ∨ (2 ≤ k.pos ∧ bad.testBit 1 = true)
      let good := crc32 (slice f 0 252) = field f 252 4 ∧ ¬ hit
      (good → k.st = lkUp ∨ k.st = lkTraining → bits ctl 23 21 = 4 → bits ctl 47 36 = k.rxFseq → ∃ t p, exec (.flitReceive n f cw) s = .next t ∧
        t.rly.arrived = s.rly.arrived ++ [(n, p)] ∧ p.hdr = field f 6 8 * 2 ^ 64 + field f 14 8 ∧ p.bad = ctl.testBit 20 ∧
        (t.link n).rxFseq = (k.rxFseq + 1) % 4096 ∧ (t.link n).nakSent = false) ∧
      (good → bits ctl 23 21 ≠ 0 → bits ctl 47 36 ≠ k.rxFseq → k.st ≠ lkDown → k.st ≠ lkRetraining → exec (.flitReceive n f cw) s =
        .next (s.keep touchColl (s.setLink n { k with pos := (k.pos + 1) % 5, cwBad := bad }).pumpAll)) ∧
      (¬ good → k.st = lkUp → k.nakSent = false → k.ctl = [] → k.retry.length < 1024 → ∃ t more, exec (.flitReceive n f cw) s = .next t ∧ (t.link n).nakSent = true ∧
        (t.link n).retry = k.retry ++ more ∧ more ≠ [] ∧ (t.link n).rxFseq = k.rxFseq) ∧
      (k.st = lkDown ∨ k.st = lkRetraining → exec (.flitReceive n f cw) s = .next (s.keep touchColl s.pumpAll))) ∧
    (k.st ≠ lkDown → k.st ≠ lkRetraining → k.retry ≠ [] → 7 ≤ k.noProg → ∃ t, exec (.replayTimeout n) s = .next t ∧ (t.link n).st = lkRetraining ∧
      (t.link n).resume = k.st ∧ (t.link n).noProg = 0) ∧
    (k.st ≠ lkDown → k.st ≠ lkRetraining → k.noProg < 7 → k.retry ≠ [] → ∃ t more, exec (.replayTimeout n) s = .next t ∧ t.out.flits = s.out.flits ++ k.retry.map (fun r => (n, r.flit)) ++ more ∧
      t.fld .port n 0x808 63 32 = min 0xFFFFFFFF (s.fld .port n 0x808 63 32 + 1) ∧ (t.link n).noProg = k.noProg + 1) ∧
    (k.st = lkRetraining → s.fld .port n 0x800 7 6 < 3 → ∃ t, exec (.retrainTimeout n) s = .next t ∧ (t.link n).st = lkDown ∧ t.errSet .fab 0 3) ∧
    (k.st = lkRetraining → ∃ t, exec (.rallyLanesTrained n) s = .next t ∧ (t.link n).st = k.resume ∧ (t.link n).rxFseq = k.rxFseq) ∧
    (k.st = lkDown → k.ctl = [] → k.retry = [] → s.rallyOn n = true → s.serdesOn n = true → s.fld .port n 0x800 0 0 = 1 →
      ∃ t f more, exec (.rallyLanesTrained n) s = .next t ∧ (t.link n).st = lkTraining ∧ (t.link n).identOk = false ∧ (t.link n).gotCredits = false ∧
        t.out.flits = s.out.flits ++ (n, f) :: more ∧ bits (field f 0 6) 23 21 = 5 ∧
        slice f 6 14 = leBytes 1 1 ++ leBytes 8 (s.reg .fab 0 0x108) ++ leBytes 2 (s.fld .fab 0 0x100 27 16) ++ leBytes 2 s.module ++ leBytes 1 n) ∧
    (∀ sysId extents peer : Nat, k.st = lkTraining → peer < 4096 → let axis := s.fld .port n 0x800 7 6
      let fits := sysId = s.reg .fab 0 0x108 ∧ extents = s.fld .fab 0 0x100 27 16 ∧ (∀ a < 3, coordOf peer a ≠ coordOf s.module a ↔ a = axis) ∧
        coordOf peer axis = s.fld .port n 0x800 5 2
      (fits → axis < 3 → ∃ t, exec (.rallyIdentReceive n sysId extents peer) s = .next t ∧ (t.link n).st = (if k.gotCredits then lkUp else lkTraining) ∧
        (t.link n).identOk = true ∧ (t.link n).peer = peer) ∧
      (¬ fits → ∃ t, exec (.rallyIdentReceive n sysId extents peer) s = .next t ∧ (t.link n).st = lkMismatch ∧ t.errSet .fab 0 2)) ∧
    (∀ credits : List Nat, k.st = lkTraining → ∃ t, exec (.rallyCreditsReceive n credits) s = .next t ∧
      (t.link n).st = (if k.identOk then lkUp else lkTraining) ∧ (t.link n).gotCredits = true ∧
      (k.identOk = false → ∀ l < 7, (t.link n).credits.num l = credits.getD l 0))

/-- With no collective running and no journal transfer, the oldest whole packet of a port is taken: a malformed one is discarded and counted in its epoch's DROP; one of an epoch that is not ACTIVE sets bit 5 and is discarded; a management packet without payload for this module, next in its stream, is counted as delivered and stands in the Referee's receive area; a response that matches a reservation of this module reaches its requester, and one that matches none is discarded; a packet for another
module whose next hop is a fenced neighbour sets bit 4 and is discarded. When a resequencer's wait is over, bit 3 of the switch's page is set; an empty resequencer has nothing to wait for. A packet at the head of a lane whose usable ports all lack credit, whose entry names a detour and which has taken none, is counted in EVT_CNT1 of the fabric page as it takes it; a lane with no packet has nothing to do.
Model's choices (numbers of the assumption log): a fenced next hop with a detour permitted is discarded (65), the escape lane (66), room in
the receive area (68), BAD packets (64), first SEQ 0 (8). -/
def Obligations.PacketsAreTakenAndRouted : Prop :=
  ∀ (s : State) (n : Nat), s.NoColl → s.jnl.transfer = none → n < 128 → s.clockStopped (switchMux (portDie n)) = false →
    (∀ (k : Pkt) (before after : List (Nat × Pkt)), s.rly.arrived = before ++ (n, k) :: after → (∀ a ∈ before, a.1 ≠ n) →
      let drops := fun t : State => t.rly.arrived = before ++ after ∧ t.rly.drop.num k.epoch = s.rly.drop.num k.epoch + 1
      (k.wellFormed = false → ∃ t, exec (.rallyPacketArrival n 0) s = .next t ∧ drops t) ∧
      (k.wellFormed = true → k.payload.length = k.len → s.versionActive k.epoch = false →
        ∃ t, exec (.rallyPacketArrival n 0) s = .next t ∧ drops t ∧ t.errSet .fab 0 5) ∧
      (k.wellFormed = true → k.payload = [] → k.len = 0 → s.versionActive k.epoch = true → k.dst ≠ s.module → (∀ a, s.nextAxis k = some a → a < 3 →
        s.neighbourFenced a (coordOf k.dst a) = true → ∃ t, exec (.rallyPacketArrival n 0) s = .next t ∧ drops t ∧ t.errSet .fab 0 4)) ∧
      (k.wellFormed = true → k.payload = [] → k.len = 0 → s.versionActive k.epoch = true → k.dst = s.module → k.cls = 1 → k.bad = false →
        ((∀ r ∈ s.rly.txns, ¬ (r.txn = k.txn ∧ r.dst = k.src)) → ∃ t, exec (.rallyPacketArrival n 0) s = .next t ∧ drops t ∧ t.rly.rspIn = s.rly.rspIn) ∧
        ((∃ r ∈ s.rly.txns, r.txn = k.txn ∧ r.dst = k.src) → (s.stream (streamKey k.src 1 k.mc)).waiting = [] →
          (s.stream (streamKey k.src 1 k.mc)).expected = k.seq → ∃ t m, exec (.rallyPacketArrival n 0) s = .next t ∧
            t.rly.dlv.num k.epoch = s.rly.dlv.num k.epoch + 1 ∧ t.rly.rspIn = s.rly.rspIn ++ [m] ∧ m.hdr = k.hdr)) ∧
      (k.wellFormed = true → k.payload = [] → k.len = 0 → s.versionActive k.epoch = true → k.dst = s.module → k.cls = 4 → k.loose = false → k.bad = false →
        s.mgtBytes + 16 ≤ 262144 → (s.stream (streamKey k.src 4 k.mc)).waiting = [] → (s.stream (streamKey k.src 4 k.mc)).expected = k.seq →
        ∃ t, exec (.rallyPacketArrival n 0) s = .next t ∧ t.rly.dlv.num k.epoch = s.rly.dlv.num k.epoch + 1 ∧ (∃ m, t.rly.mgt = s.rly.mgt ++ [m] ∧ m.hdr = k.hdr) ∧
          (t.stream (streamKey k.src 4 k.mc)).expected = (k.seq + 1) % 2 ^ 16)) ∧
    (∀ key : Nat, s.clockStopped (switchMux 0) = false → ((s.stream key).waiting = [] → exec (.reseqTimeout key) s = .next (s.keep touchColl s.pumpAll)) ∧
      ((s.stream key).waiting ≠ [] → ∃ t, exec (.reseqTimeout key) s = .next t ∧ t.errSet .sw 0 3)) ∧
    (∀ lane : Nat, Sparse.get [] (s.link n).txq lane = [] → exec (.detourTimeout n lane) s = .next (s.keep touchColl s.pumpAll)) ∧
    (∀ (lane a d q : Nat) (p : Pkt) (rest : List Pkt), Sparse.get [] (s.link n).txq lane = p :: rest → s.rlEpoch.testBit 15 = true → p.esc = false →
      s.nextAxis p = some a → s.detourPort p a (coordOf p.dst a) = some (d, q) → s.neighbourFenced a d = false →
      (∀ r ∈ s.usablePorts (s.rte p.epoch a (coordOf p.dst a)), (s.link r).credits.num lane < creditCost p.len) →
      ∃ t, exec (.detourTimeout n lane) s = .next t ∧ t.reg .fab 0 0x88 = min (2 ^ 64 - 1) (s.reg .fab 0 0x88 + 1))

/-! ### Collectives -/

/-- A well-formed COLL_LAUNCH of an axes group taken at the front of the window, its record in plain memory, no launch held and no collective started: a record that breaks a rule completes with 0x2202; a TICKET not above COL_LAST with 0x2203; one whose PREV is COL_LAST is accepted, COL_LAST takes its TICKET and it waits for its slot; another is held. A LOOSE launch in strict mode completes with 0x2209. A launch that has other members sends JOIN at once: it waits for its slot, or ends with 0x2206 where a JOIN is lost here. A hold that expires
completes with 0x2203. A BARRIER whose slot is free starts: alone in its group it is delivered at once with STATUS 0, and otherwise joins. In a started barrier, the only collective: a JOIN of the same record adds its member, the last FIN delivers it with STATUS 0, an ABORT ends it with the sender's code and a timeout with 0x2205; then its slot is free.
Model's choices (numbers of the assumption log): what a launch check covers (77), the order among slots and ended
tickets (79), timeouts are rows (37). -/
def Obligations.CollectivesRunAndEnd : Prop :=
  (∀ (s : State) (e : WinEntry) (rest : List WinEntry), s.Offers e rest → e.opcode = 0x50 → xIsDev (e.op 0x10 8) = true → xAddr (e.op 0x10 8) % 64 = 0 →
    e.zeros 0x18 0x40 = true → s.clk.coast = false → s.xBusy (e.op 0x10 8) 128 = false → s.Plain (xAddr (e.op 0x10 8)) 128 → s.hif.done.length < 4096 → s.NoColl → s.coll.held = [] →
    let bs := s.dev.read (xAddr (e.op 0x10 8)) 128
    let l := launchOf bs (boxMembers (field bs 0x28 8))
    (∀ q ∈ s.hif.opened, q.seq ≠ e.seq) → (field bs 0x15 1).testBit 0 = false →
    let h : HeldLaunch := { launch := l, seq := e.seq, tag := e.tag }
    let rank := (l.rankOf s.module).getD 0
    (∀ off, s.launchFault bs l = some off → ∃ t, exec .collLaunch s = .next t ∧ t.hif.done = s.hif.done ++ [e.compl 0x2202 0] ∧ t.errSet .coll 0 2 ∧
      t.coll.last = s.coll.last) ∧
    (s.launchFault bs l = none → l.loose = true → s.strict = true → ∃ t, exec .collLaunch s = .next t ∧ t.hif.done = s.hif.done ++ [e.compl 0x2209 0] ∧
      t.errSet .fab 0 6 ∧ t.coll.last = s.coll.last) ∧
    (s.launchFault bs l = none → ¬ (l.loose = true ∧ s.strict = true) →
      (l.ticket ≤ s.coll.last → ∃ t, exec .collLaunch s = .next t ∧ t.hif.done = s.hif.done ++ [e.compl 0x2203 0] ∧ t.errSet .coll 0 3) ∧
      (s.coll.last < l.ticket → l.prev = s.coll.last → (s.pendTable (engineOf (slotOf l.ticket))).all (fun c => c.ticket != l.ticket) = true →
        s.collLost [] l rank = none → (∀ r ∈ l.others rank, s.memberFenced l r = false) →
        ∃ t, exec .collLaunch s = .next t ∧ t.coll.last = l.ticket ∧ t.hif.window = rest ∧
          ((t.coll.queued = [h] ∧ t.hif.done = s.hif.done ∧ t.hif.opened = s.hif.opened ++ [e.toOpen]) ∨
           (l.others rank ≠ [] ∧ t.coll.queued = [] ∧ t.errSet .coll (engineOf (slotOf l.ticket)) 6 ∧ t.hif.done = s.hif.done ++ [e.compl 0x2206 0]))) ∧
      (s.coll.last < l.ticket → l.prev ≠ s.coll.last → ∃ t, exec .collLaunch s = .next t ∧ t.coll.last = s.coll.last ∧ t.coll.held = [h] ∧
        t.hif.opened = s.hif.opened ++ [e.toOpen]))) ∧
  (∀ (s : State) (h : HeldLaunch) (c : OpenCmd), s.NoColl → s.clk.coast = false → s.hif.done.length < 4096 → s.coll.held = [h] → s.openCmd h.seq = some c →
    ∃ t, exec (.collHoldExpiry 0) s = .next t ∧ t.coll.held = [] ∧ t.errSet .coll 0 3 ∧ t.hif.done = s.hif.done ++ [c.compl 0x2203 0 0 0]) ∧
  (∀ (s : State) (j : Nat) (h : HeldLaunch) (c : OpenCmd), s.coll.slots = [] → s.coll.lost = [] → s.hif.done.length < 4096 → j < 16 → s.clk.coast = false → slotOf h.launch.ticket = j → s.coll.queued = [h] → s.openCmd h.seq = some c →
    h.launch.op = 6 → h.launch.tiles = false → h.launch.doneEn = false →
    (h.launch.members = [s.module] → ∃ t, exec (.collSlotStart j) s = .next t ∧ t.coll.queued = [] ∧ (t.slot j).state = 0 ∧
      t.hif.done = s.hif.done ++ [c.compl 0 0 0 0]) ∧
    ((∃ r ∈ h.launch.others ((h.launch.rankOf s.module).getD 0), r ∉ h.joins) → (∀ r ∈ h.launch.others ((h.launch.rankOf s.module).getD 0), s.memberFenced h.launch r = false) →
      ∃ t, exec (.collSlotStart j) s = .next t ∧ t.coll.queued = [] ∧ (t.slot j).state = 2 ∧ (t.slot j).launch = h.launch ∧ t.hif.done = s.hif.done)) ∧
  (∀ (s : State) (j i : Nat) (x : Slot) (k : Pkt) (c : OpenCmd), j < 16 → s.coll.slots = [(j, x)] → s.coll.queued = [] → s.coll.lost = [] → s.clk.coast = false → s.hif.done.length < 4096 →
    slotOf x.launch.ticket = j → x.launch.op = 6 →
    x.launch.tiles = false → x.launch.doneEn = false → s.openCmd x.seq = some c →
    let ends := fun (t : State) (st : Nat) => (t.slot j).state = 0 ∧ ∃ more, t.hif.done = s.hif.done ++ c.compl st 0 0 0 :: more
    (2 ≤ x.state → ∃ t, exec (.collTimeout j) s = .next t ∧ t.errSet .coll (engineOf j) 5 ∧ ends t 0x2205) ∧
    (k.control.ticket = x.launch.ticket →
      (s.inboxAt i 1 = some k → k.control.digest = x.launch.digest → x.state = 2 → (∃ r ∈ x.others, r ∉ addTo x.joins k.control.rank) →
        ∃ t, exec (.collJoin i) s = .next t ∧ t.slot j = { x with joins := addTo x.joins k.control.rank }) ∧
      (s.inboxAt i 2 = some k → (x.state = 2 ∧ ∃ r ∈ x.others, r ∉ x.joins) ∨ (x.state = 4 ∧ ∃ r ∈ x.others, r ∉ x.fins) → ∃ t, exec (.collReady i) s = .next t ∧ t.coll.inbox = removeAt i s.coll.inbox ∧
        t.slot j = { x with granted := (t.slot j).granted } ∧ (t.slot j).granted.num k.control.rank % 2 ^ 24 = k.control.arg % 2 ^ 24) ∧
      (s.inboxAt i 4 = some k → x.state = 4 → (∀ r ∈ x.others, r ∈ addTo x.fins k.control.rank) → ∃ t, exec (.collFin i) s = .next t ∧ ends t 0) ∧
      (s.inboxAt i 5 = some k → x.state ≠ 0 → k.control.code < 32 → ∃ t, exec (.collAbort i) s = .next t ∧ t.errSet .coll (engineOf j) k.control.code ∧
        ends t (0x2200 + k.control.code))))

/-- With one collective in the module: a DATA packet for its slot whose CRC is wrong is counted, as received and as bad, sets bit 7 and ends the collective with 0x2207; a sound one is counted, and while the collective goes on its chunk is counted for its sender and phase and, where nothing is reduced, its bytes stand in the output. The next chunk of the slot an engine serves, with its own input in plain memory and
no fenced target, is counted as sent. A tile counter that has advanced raises the tiles the slot has seen. In COAST none of the engines' own events does anything.
Model's choices (numbers of the assumption log): a chunk's index space and the order of phases (41), LOSS (12), failed reads and writes
(78). -/
def Obligations.CollectiveChunksAndTiles : Prop :=
  ∀ (s : State) (j : Nat) (x : Slot) (c : OpenCmd), j < 16 → s.coll.slots = [(j, x)] → s.coll.queued = [] → s.coll.lost = [] → s.hif.done.length < 4096 →
    slotOf x.launch.ticket = j → x.launch.doneEn = false → s.openCmd x.seq = some c →
    (s.clk.coast = true → ∀ i ∈ [Instr.collChunkSend (engineOf j), .collTileReady j, .collTimeout j, .collSlotStart j, .collHoldExpiry 0],
      exec i s = .next (s.keep touchColl s.pumpAll)) ∧
    (∀ (i : Nat) (k : Pkt), s.clk.coast = false → x.launch.tiles = false → s.inboxAt i 3 = some k → bits k.arg 39 36 = j → 2 ≤ x.state →
      let e := engineOf j
      let rank := field k.payload 8 2
      let phase := field k.payload 10 2
      let data := k.payload.drop 32
      (crc32c (k.payload.take 28 ++ data) ≠ field k.payload 28 4 → ∃ t more, exec (.collData i 0) s = .next t ∧ t.errSet .coll e 7 ∧ (t.slot j).state = 0 ∧
        t.reg .coll e 0x98 = min (2 ^ 64 - 1) (s.reg .coll e 0x98 + 1) ∧ t.reg .coll e 0xA8 = min (2 ^ 64 - 1) (s.reg .coll e 0xA8 + 1) ∧ t.hif.done = s.hif.done ++ c.compl 0x2207 0 0 0 :: more) ∧
      (crc32c (k.payload.take 28 ++ data) = field k.payload 28 4 → field k.payload 0 8 = x.launch.ticket → ∃ t, exec (.collData i 0) s = .next t ∧
        t.reg .coll e 0x98 = min (2 ^ 64 - 1) (s.reg .coll e 0x98 + 1) ∧
        ((t.slot j).state ≠ 0 → (t.slot j).got.num (4096 * rank + phase) = x.got.num (4096 * rank + phase) + 1 ∧ (t.slot j).chunks = (x.chunks + 1) % 2 ^ 24 ∧
          (reduces x.launch.op = false → (t.slot j).outBytes = x.outBytes.write (field k.payload 0x10 8) (slice data 0 (field k.payload 0x18 2)))))) ∧
    (∀ d k p q first count : Nat, x.launch.tiles = false → s.clk.coast = false → x.nextChunk = some (d, k, p, q, first, count) → ¬ (x.launch.loose = true ∧ s.strict = true) →
      (∀ r, r = d ∨ r ∈ x.launch.peers x.rank p → s.memberFenced x.launch r = false) → (x.launch.multicast = true → d ∈ x.launch.peers x.rank p) →
      (∀ off len, x.ownPart q first count = some (off, len) → s.devBusy (x.launch.src + off) len = false ∧ (0 < len → s.Plain (x.launch.src + off) len)) →
      ∃ t, exec (.collChunkSend (engineOf j)) s = .next t ∧ t.reg .coll (engineOf j) 0x90 = min (2 ^ 64 - 1) (s.reg .coll (engineOf j) 0x90 + 1) ∧
        ((t.slot j).state ≠ 0 → k < (t.slot j).sent.num d)) ∧
    (∀ p : Nat, s.clk.coast = false → x.launch.tiles = true → x.toAsk = [] → x.state = 2 → s.physOf x.launch.tileShape = some p → ((s.block p).cnt x.launch.tileCnt).abandoned = none →
      (∃ r ∈ x.others, r ∉ x.joins) → ∃ t, exec (.collTileReady j) s = .next t ∧
        t.slot j = { x with tiles := max x.tiles (((s.block p).cnt x.launch.tileCnt).value - x.launch.tileBase) })

/-! ### Security engine and management interface -/

/-- In every state, an image that passes the checks has an Ed25519 signature and an ML-DSA-65 signature over its header that verify under the boot ROM's keys that it names: neither stands in for the other, and nothing in the state (no register, fuse, mode or counter) changes that. So an update never leaves TRIAL newly naming a slot whose image does not verify so,
in every step of every state the slot that is ACTIVE changes only to an image that does, a recovery puts no other into slot A, and a start-up that reaches READY runs one that does. -/
def Obligations.BothSignaturesAlwaysVerify : Prop :=
  let signed := fun (s : State) (f : FwImage) => let keys := field f.hdr 0x11 1
    edVerify (s.hw.romEd.getD (bit keys 0) []) (slice f.hdr 0 0x80) (slice f.hdr 0x80 64) = true ∧
    mlVerify (s.hw.romMl.getD (bit keys 1) []) (slice f.hdr 0 0x80) (slice f.hdr 0xC0 3309) = true
  (∀ (s : State) (f : FwImage), s.fwCheck f = 0 → signed s f) ∧
  (∀ (s t : State) (way : FlashWay), exec (.fwUpdate way) s = .next t → t.sec.trial ≠ s.sec.trial → ∃ n, t.sec.trial = some n ∧ signed t (t.fwSlot n)) ∧
  (∀ (s t : State), step s = .next t → t.fwSlot s.sec.active ≠ s.fwSlot s.sec.active → signed t (t.fwSlot s.sec.active)) ∧
  (∀ (s t : State) (len : Nat), exec (.recoveryDone len) s = .next t → t.sec.slotA ≠ s.sec.slotA → signed t t.sec.slotA) ∧
  (∀ (s t : State) (env : List Nat), exec (.resetRelease env) s = .next t → s.ref.ready = false → t.ref.ready = true → signed t (t.fwSlot t.sec.running))

/-- FW_UPDATE taken at the front of the window, its image in plain memory: in TRIAL it ends with 0x0540; an image that fails a check ends with that check's STATUS and error bit and changes no slot; one that passes stands in the slot that is not ACTIVE, and TRIAL names it, unless the slot, read back, fails a check, or a reset cuts the update short: then TRIAL stays. ATTEST writes the report, its signatures and padding; GET_RANDOM writes N free bytes, and under STRICT
ends with 0x0842; after a failed health test both end with 0x0506. A health test that fails, and a Secure stream's integrity fault, set bits 6 and 7. The SPDM responder answers by version and session, with the certificate chain of slot 0 and the measurements, and lets a session set an IDE stream going. With the Referee island powered: a READ answers a register of the Referee page, other than the host's sideband set, without side effect; a WRITE of SD_SEL goes to the management's own set, and one outside
the four registers does nothing. In RECOVERY, image bytes go into the buffer, and the image is installed in slot A only if it passes every check.
Model's choices (numbers of the assumption log): FW_ALT and the slots (84), what the flash does is an operand (10), GET_RANDOM under
STRICT is checked first (85), SPDM's codes (86), a management access elsewhere (104), the bytes that hedge a signature are free (83). -/
def Obligations.SecurityEngineAndManagement : Prop :=
  (∀ (s : State) (e : WinEntry) (rest : List WinEntry), s.Offers e rest →
    (∀ way, e.opcode = 0x60 → xIsDev (e.op 0x10 8) = true → e.zeros 0x18 0x40 = true → s.devBusy (xAddr (e.op 0x10 8)) 4096 = false →
      s.Plain (xAddr (e.op 0x10 8)) 4096 →
      let a := xAddr (e.op 0x10 8)
      let h := s.dev.read a 4096
      let f : FwImage := { hdr := h, payload := s.dev.read (a + 4096) (field h 0x18 8) }
      let other := 1 - s.sec.active
      let sameSel := fun t : State => t.sec.active = s.sec.active ∧ t.sec.trial = s.sec.trial ∧ t.sec.selSeq = s.sec.selSeq
      (s.sec.inTrial = true ∨ s.sec.updating = true → exec (.fwUpdate way) s = .next (s.ended e rest 0x0540 0)) ∧
      (s.sec.inTrial = false → s.sec.updating = false → fwHeaderOk h = false →
        ∃ t, exec (.fwUpdate way) s = .next t ∧ t.hif.done = s.hif.done ++ [e.compl 0x0502 0] ∧ t.errSet .sec 0 2 ∧ t.sec = s.sec) ∧
      (s.sec.inTrial = false → s.sec.updating = false → fwHeaderOk h = true → s.Plain (a + 4096) (field h 0x18 8) →
        (s.fwCheck f ≠ 0 → ∃ t, exec (.fwUpdate way) s = .next t ∧ t.hif.done = s.hif.done ++ [e.compl (0x0500 + fwErrBit (s.fwCheck f)) 0] ∧
          t.errSet .sec 0 (fwErrBit (s.fwCheck f)) ∧ t.sec = s.sec) ∧
        (s.fwCheck f = 0 →
          exec (.fwUpdate .written) s = .next (((s.ended e rest 0 0).setFwSlot other f).writeSelector s.sec.active (some other)) ∧
          (∀ bs, let g := FwImage.ofBytes bs
            (s.fwCheck g = 0 → exec (.fwUpdate (.worn bs)) s = .next (((s.ended e rest 0 0).setFwSlot other g).writeSelector s.sec.active (some other))) ∧
            (s.fwCheck g ≠ 0 → ∃ t, exec (.fwUpdate (.worn bs)) s = .next t ∧ t.hif.done = s.hif.done ++ [e.compl (0x0500 + fwErrBit (s.fwCheck g)) 0] ∧
              t.errSet .sec 0 (fwErrBit (s.fwCheck g)) ∧ t.sec = (s.setFwSlot other g).sec) ∧
            (∃ t, exec (.fwUpdate (.cut bs)) s = .next t ∧ t.sec = { (s.setFwSlot other g).sec with updating := true } ∧ t.hif.done = s.hif.done)) ∧
          (∃ t, exec (.fwUpdate .torn) s = .next t ∧ t.fwSlot other = f ∧ sameSel t ∧ t.sec.updating = true ∧ t.hif.done = s.hif.done)))) ∧
    (∀ way, e.opcode = 0x61 → xFits (e.op 0x30 8) 8192 = true → e.zeros 0x38 0x40 = true → s.xBusy (e.op 0x30 8) 8192 = false → s.Reach (e.op 0x30 8) 8192 way →
      let body := s.reportBody (slice e.bytes 0x10 32)
      (s.sec.trngOk = false → exec (.attest way) s = .next (s.ended e rest 0x0506 0)) ∧
      (s.sec.trngOk = true → ∃ t k, exec (.attest way) s = .next t ∧ (xDev (e.op 0x30 8) = true → k = s.free) ∧
        ({ s.ended e rest 0 0 with free := k + 32 } : State).StoredAt t (e.op 0x30 8)
          (body ++ (({ s with free := k } : State).signPair 0 body).1 ++ List.replicate 2547 0))) ∧
    (∀ way, e.opcode = 0x62 → 1 ≤ e.op 0x10 2 → e.op 0x10 2 ≤ 4096 → e.zeros 0x12 0x18 = true → xFits (e.op 0x18 8) (e.op 0x10 2) = true →
      e.zeros 0x20 0x40 = true → s.xBusy (e.op 0x18 8) (e.op 0x10 2) = false → s.Reach (e.op 0x18 8) (e.op 0x10 2) way →
      (s.strict = true → exec (.getRandom way) s = .next (s.ended e rest 0x0842 0)) ∧
      (s.strict = false → s.sec.trngOk = false → exec (.getRandom way) s = .next (s.ended e rest 0x0506 0)) ∧
      (s.strict = false → s.sec.trngOk = true → ∃ t k, exec (.getRandom way) s = .next t ∧ (xDev (e.op 0x18 8) = true → k = s.free) ∧
        ({ s.ended e rest 0 0 with free := k + e.op 0x10 2 } : State).StoredAt t (e.op 0x18 8) (Config.freeBytes (e.op 0x10 2) k)))) ∧
  (∀ s : State,
    (s.sec.trngOk = true → ∃ t, exec .trngHealthFail s = .next t ∧ t.sec = { s.sec with trngOk := false } ∧ t.errSet .sec 0 6) ∧
    (∀ k, s.sec.ideSecure.testBit k = true → ∃ t, exec (.secIdeFault k) s = .next t ∧ t.errSet .sec 0 7 ∧
      t.sec = { s.sec with ideSecure := clearBit s.sec.ideSecure k, ideInsecure := setBit s.sec.ideInsecure k }) ∧
    (∀ (c p1 p2 : Nat) (data : List (BitVec 8)),
      let gives := fun (r : SpdmReply) (x : Sec) => exec (.spdmRequest c p1 p2 data) s = .next { s with out := { s.out with spdm := some r }, sec := x }
      let signs := fun (r : SpdmReply) (x : Sec) =>
        exec (.spdmRequest c p1 p2 data) s = .next { s with out := { s.out with spdm := some r }, sec := x, free := s.free + 64 }
      let off := field data 0 2
      let part := slice s.hw.certEd off (field data 2 2)
      let live := fun d : List (BitVec 8) => if s.live then dig32 d else List.replicate 32 0
      let blocks := [(1, dig64 s.sec.fwDigest), (2, dig64 s.sec.fwAlt), (3, live s.place.progDig ++ live s.place.wgtDig),
        (4, leBytes 4 s.boots ++ leBytes 1 s.sec.running ++ leBytes 1 s.sec.svn ++ leBytes 1 s.otp ++ leBytes 1 s.gradeCode)]
      (c = 0x84 → gives .version { s.sec with spdmVer := true, spdm := 0 }) ∧
      (c ≠ 0x84 → s.sec.spdmVer = false → gives .error s.sec) ∧
      (s.sec.spdmVer = true →
        (c = 0xE1 → gives .capabilities s.sec) ∧
        (c = 0xE3 → gives (.algorithms .ed25519 .sha512 .secp384r1 .aes256gcm) s.sec) ∧
        (c = 0x81 → gives (.digests (sha512 s.hw.certEd)) s.sec) ∧
        (c = 0x82 → p1 % 16 = 0 → off ≤ s.hw.certEd.length → gives (.certificate part (s.hw.certEd.length - off - part.length)) s.sec) ∧
        (c = 0x82 → p1 % 16 ≠ 0 → gives .error s.sec) ∧
        (c = 0x83 → p1 % 16 = 0 → signs (.challengeAuth (sha512 s.hw.certEd) s.spdmSign.1) s.sec) ∧
        (c = 0xE0 → p1 % 2 = 0 → p2 = 0xFF → gives (.measurements blocks 4 []) s.sec) ∧
        (c = 0xE0 → p1 % 2 = 1 → p2 = 0xFF → signs (.measurements blocks 4 s.spdmSign.1) s.sec) ∧
        (c = 0xE4 → p2 % 16 = 0 → s.sec.spdm < 2 → signs (.keyExchange (sha512 s.hw.certEd) s.spdmSign.1) { s.sec with spdm := s.sec.spdm + 1 }) ∧
        (c = 0xE4 → 2 ≤ s.sec.spdm → gives .error s.sec) ∧
        (c ∈ [0xE5, 0xE8, 0xE9, 0xEC, 0xFE] → s.sec.spdm = 0 → gives .error s.sec) ∧
        (c = 0xEC → s.sec.spdm ≠ 0 → gives .endSession { s.sec with spdm := s.sec.spdm - 1 }) ∧
        (c = 0xFE → s.sec.spdm ≠ 0 → gives .vendor { s.sec with
          ideSecure := setBit s.sec.ideSecure (p1 % 4), ideInsecure := clearBit s.sec.ideInsecure (p1 % 4) }))) ∧
    (s.ref.island = true →
      (∀ reg, reg < 0x1000 → reg % 8 = 0 → (reg < 0x300 ∨ 0x318 < reg) →
        exec (.mgmtRead reg) s = .next { s with out := { s.out with mgmt := some (BitVec.ofNat 64 (s.regView .ref 0 reg)) } }) ∧
      (∀ data, sdReserved (bits data 16 0) = false → ∃ t, exec (.mgmtWrite 0x300 data) s = .next t ∧ t.ref.sdMgmt.sel.toNat = bits data 16 0 ∧
        t.ref.sdMgmt.busy = true ∧ t.ref.sdHost = s.ref.sdHost) ∧
      (∀ reg data, reg ∉ [0x108, 0x300, 0x5108, 0x5118] → exec (.mgmtWrite reg data) s = .next s)) ∧
    (s.sec.recovery = true →
      (∀ data : List (BitVec 8), let off := field data 0 4
        let bs := data.drop 4
        bs ≠ [] → bs.length ≤ 240 → off + bs.length ≤ 64 * 2 ^ 20 → exec (.recoveryData data) s = .next { s with sec := { s.sec with recBuf := s.sec.recBuf.write off bs } }) ∧
      (∀ len, let f : FwImage := { hdr := s.sec.recBuf.read 0 4096, payload := s.sec.recBuf.read 4096 (min maxPayload (len - 4096)) }
        (s.fwCheck f = 0 → exec (.recoveryDone len) s = .next (({ s with sec := { s.sec with slotA := f } } : State).writeSelector 0 none)) ∧
        (s.fwCheck f ≠ 0 → ∃ t, exec (.recoveryDone len) s = .next t ∧ t.sec = s.sec ∧ t.errSet .sec 0 (fwErrBit (s.fwCheck f))))))

/-! ### The input journal -/

/-- With no collective in the module and entries in plain memory. JNL_APPEND in RUN: with room, the entry takes the next JSEQ, its bytes are written at its place, it completes with that JSEQ, and one packet goes to the buddy if mirroring is on; without room it completes with 0x0105 and bit 5; outside RUN with 0x0141. JNL_CLOSE closes the open range and answers its last JSEQ. JNL_TRIM releases the
entries below its JSEQ. JNL_SEND sends each entry of a held range and waits; JNL_RECV waits for one; with a range not held 0x0142. JNL_EXPORT writes the range's bytes; JNL_IMPORT takes in one genuine entry, and ends with 0x0109 and bit 9 on one that is not. A commit tick moves the commit point to the last entry. A FWD packet is a mirror entry, an entry of a transfer (the last ends it), or is counted and dropped.
Acknowledgements due are sent; one received moves a JNL_SEND on, ends it at its last entry, or moves the mirror. Unmirrored entries set bit 7; a transfer that times out ends with 0x0108 and bit 8. JNL_CTRL from OFF to RUN lays the local ring.
Model's choices (numbers of the assumption log): the checks of an entry and its counts (69), which transfer an acknowledgement is for (70),
trimming the open range (71), memory is not waited for (72), a ring laid elsewhere is empty (93), timers' rows are expiries (37). -/
def Obligations.JournalCommandsAndEvents : Prop :=
  (∀ (s : State) (e : WinEntry) (rest : List WinEntry), s.Offers e rest → s.NoColl →
    let x := e.op 0x10 8
    let n := e.op 0x18 2
    (∀ way, e.opcode = 0x70 → xOk x = true → 1 ≤ n → n ≤ 16256 → e.zeros 0x1A 0x40 = true → s.Reach x n way →
      let j := s.jnl.next
      let bs := entryBytes j { stamp := s.time.now, seq := s.jnl.hostAppends + 1, port := 0xFFFF, frameLen := n, flags := 2, sifter := 0xFF, progId := 0, mark := 0, reason := 0, verdict := 0, cls := 0 } (s.bytesAt x n)
      let u : State := { s with hif := { s.hif with window := rest }, jnl := { s.jnl with hostAppends := s.jnl.hostAppends + 1 } }
      (s.jnlMode ≠ 1 → ∃ t, exec (.jnlAppend way) s = .next t ∧ t.hif.done = s.hif.done ++ [e.compl 0x0141 0] ∧ t.jnl = s.jnl) ∧
      (s.jnlMode = 1 → s.autoTrim = false → s.ringRoom (64 * unitsFor n) = false →
        ∃ t, exec (.jnlAppend way) s = .next t ∧ t.hif.done = s.hif.done ++ [e.compl 0x0105 0] ∧ t.errSet .ref 0 5 ∧ t.jnl.next = j) ∧
      (s.jnlMode = 1 → s.autoTrim = false → s.ringRoom (64 * unitsFor n) = true →
        ∃ t, exec (.jnlAppend way) s = .next t ∧ t.hif.done = s.hif.done ++ [e.compl 0 j] ∧ t.jnl.next = (j + 1) % 2 ^ 64 ∧
          t.jnl.entries = s.jnl.entries ++ [{ jseq := j, addr := s.jnl.base + ringAt s.jnl.size s.jnl.wptr (64 * unitsFor n), units := unitsFor n }] ∧
          (∃ k, t.dev = (({ u with free := k } : State).ringPut s.jnl.base s.jnl.size s.jnl.wptr e.tag bs).dev) ∧
          (s.mirrorEn = true → t.rly.inj.num (bit s.rlEpoch 0) = s.rly.inj.num (bit s.rlEpoch 0) + 1))) ∧
    (e.opcode = 0x71 → e.zeros 0x10 0x40 = true →
      (s.jnl.openFirst = none → exec .jnlClose s = .next (s.ended e rest 0 noJseq)) ∧
      (∀ f l, s.jnl.openFirst = some f → s.jnlLast = some l → s.jnl.closed.length < 32 →
        exec .jnlClose s = .next { s.ended e rest 0 l with jnl := { s.jnl with closed := s.jnl.closed ++ [{ first := f, last := l }], openFirst := none } })) ∧
    (e.opcode = 0x72 → e.zeros 0x18 0x40 = true →
      (s.jnl.openFirst.getD s.jnl.next < x → exec .jnlTrim s = .next (s.ended e rest 0x0840 0)) ∧
      (x ≤ s.jnl.openFirst.getD s.jnl.next → ∃ t, exec .jnlTrim s = .next t ∧ t.jnl.entries = s.jnl.entries.filter (fun y => decide (x ≤ y.jseq)) ∧
        t.hif.done = s.hif.done ++ [e.compl 0 t.jnlFirst] ∧ t.dev = s.dev)) ∧
    (∀ dst, dst = e.op 0x20 2 → dst < 4096 → (∀ a, s.neighbourFenced a (coordOf dst a) = false) →
      (e.opcode = 0x73 → e.op 0x22 1 ≤ 1 → e.zeros 0x23 0x40 = true → s.jnl.transfer = none →
        (s.heldRange (e.op 0x22 1) x (e.op 0x18 8) = none → ∃ t, exec .jnlSend s = .next t ∧ t.hif.done = s.hif.done ++ [e.compl 0x0142 0] ∧ t.jnl = s.jnl) ∧
        (∀ es, s.heldRange (e.op 0x22 1) x (e.op 0x18 8) = some es → (∀ y ∈ es, s.Plain y.addr (64 * y.units)) →
          ∃ t, exec .jnlSend s = .next t ∧ t.hif.window = rest ∧ t.hif.opened = s.hif.opened ++ [e.toOpen] ∧
            t.jnl.transfer = some { recv := false, seq := e.seq, first := x, last := e.op 0x18 8, peer := dst } ∧
            t.rly.inj.num (bit s.rlEpoch 0) = s.rly.inj.num (bit s.rlEpoch 0) + es.length)) ∧
      (e.opcode = 0x74 → e.zeros 0x22 0x40 = true → s.jnlMode = 2 → s.jnl.transfer = none →
        (e.op 0x18 8 < x → ∃ t, exec .jnlRecv s = .next t ∧ t.hif.done = s.hif.done ++ [e.compl 0x0142 0] ∧ t.jnl = s.jnl) ∧
        (x ≤ e.op 0x18 8 → s.jnl.entries = [] ∨ x = s.jnl.next → ∃ t, exec .jnlRecv s = .next t ∧ t.hif.window = rest ∧
          t.hif.opened = s.hif.opened ++ [e.toOpen] ∧ t.jnl.transfer = some { recv := true, seq := e.seq, first := x, last := e.op 0x18 8, peer := dst }))) ∧
    (∀ way, e.opcode = 0x75 → e.op 0x20 1 ≤ 1 → e.zeros 0x21 0x28 = true → xOk (e.op 0x28 8) = true → e.zeros 0x38 0x40 = true →
      (s.heldRange (e.op 0x20 1) x (e.op 0x18 8) = none → (xDev (e.op 0x28 8) = false → s.hostDma = true ∧ s.hostStaged 0 = true) → exec (.jnlExport way) s = .next (s.ended e rest 0x0142 0)) ∧
      (∀ es, s.heldRange (e.op 0x20 1) x (e.op 0x18 8) = some es → (∀ y ∈ es, s.Plain y.addr (64 * y.units)) → let m := (es.map (fun y => 64 * y.units)).sum
        0 < m → s.Reach (e.op 0x28 8) m way → (e.op 0x30 8 < m → exec (.jnlExport way) s = .next (s.ended e rest 0x0142 0)) ∧
        (m ≤ e.op 0x30 8 → ∃ t, exec (.jnlExport way) s = .next t ∧
          (s.ended e rest 0 m).StoredAt t (e.op 0x28 8) (es.flatMap (fun y => s.dev.read y.addr (64 * y.units)))))) ∧
    (∀ way, e.opcode = 0x76 → xOk x = true → e.zeros 0x20 0x40 = true → s.Reach x (e.op 0x18 8) way → s.jnlMode = 2 → s.jnl.transfer = none →
      let bs := s.bytesAt x (e.op 0x18 8)
      s.jnl.entries = [] ∨ entryJseq bs = s.jnl.next →
      (entryOk bs = false → bs ≠ [] → ∃ t, exec (.jnlImport way) s = .next t ∧ t.hif.done = s.hif.done ++ [e.compl 0x0109 noJseq] ∧ t.errSet .ref 0 9) ∧
      (entryOk bs = true → bs.length = 64 * entryUnits bs → s.autoTrim = false → s.ringRoom bs.length = true →
        ∃ t, exec (.jnlImport way) s = .next t ∧ t.hif.done = s.hif.done ++ [e.compl 0 (entryJseq bs)] ∧ t.jnl.next = (entryJseq bs + 1) % 2 ^ 64 ∧
          t.jnl.entries = s.jnl.entries ++ [{ jseq := entryJseq bs, addr := s.jnl.base + ringAt s.jnl.size s.jnl.wptr bs.length, units := entryUnits bs }]))) ∧
  (∀ s : State, s.NoColl → s.hif.done.length < 4096 →
    (∀ l, s.jnlLast = some l → exec .jnlCommitTick s = .next { s with jnl := { s.jnl with commit := some l } }) ∧
    (s.unmirrored = true → ∃ t, exec .journalUnmirrored s = .next t ∧ t.errSet .ref 0 7 ∧ t.jnl = s.jnl) ∧
    (∀ (k : Pkt) (ks : List Pkt), s.rly.fwd = k :: ks → let bs := k.payload
      let j := entryJseq bs
      (k.opc ≠ 1 → k.opc ≠ 2 → ∃ t, exec .jnlMirrorReceive s = .next t ∧ t.rly.fwd = ks ∧ t.jnl = s.jnl ∧ t.reg .ref 0 0x98 = min (2 ^ 64 - 1) (s.reg .ref 0 0x98 + 1)) ∧
      (k.opc = 1 → s.mirrorRx = true → k.src = s.client → entryOk bs = true → 4096 + 64 * entryUnits bs ≤ s.jnl.msize → (s.jnl.mexp = none ∨ s.jnl.mexp = some j) →
        ∃ t old, exec .jnlMirrorReceive s = .next t ∧ t.rly.fwd = ks ∧ t.jnl.mexp = some (j + 1) ∧ t.jnl.mnew = true ∧
          t.jnl.mirror = old ++ [{ jseq := j, addr := s.jnl.mbase + ringAt s.jnl.msize s.jnl.mwptr (64 * entryUnits bs), units := entryUnits bs }] ∧ ∀ y ∈ old, y ∈ s.jnl.mirror) ∧
      (∀ (tr : Transfer) (c : OpenCmd), k.opc = 2 → s.jnl.transfer = some tr → tr.recv = true → k.src = tr.peer → entryOk bs = true → s.openCmd tr.seq = some c →
        (s.jnl.entries = [] ∨ j = s.jnl.next) → s.autoTrim = false → s.ringRoom (64 * entryUnits bs) = true →
        ∃ t, exec .jnlMirrorReceive s = .next t ∧ t.rly.fwd = ks ∧ t.jnl.next = (j + 1) % 2 ^ 64 ∧
          (j ≠ tr.last → t.jnl.transfer = some { tr with reached := some j, news := true } ∧ t.hif.done = s.hif.done) ∧
          (j = tr.last → t.jnl.transfer = none ∧ t.hif.done = s.hif.done ++ [c.compl 0 j 0 0]))) ∧
    (s.mirrorRx = true → s.jnl.mnew = true → s.jnl.transfer = none → ∃ t, exec .jnlAckSend s = .next t ∧ t.jnl = { s.jnl with mnew := false } ∧
      t.rly.inj.num (bit s.rlEpoch 0) = s.rly.inj.num (bit s.rlEpoch 0) + 1) ∧
    (∀ (k : Pkt) (ks : List Pkt), s.rly.mgt = k :: ks → k.opc = 0x20 → k.payload.length = 24 → let v := field k.payload 0 8
      (∀ (tr : Transfer) (c : OpenCmd), s.jnl.transfer = some tr → tr.recv = false → tr.peer = k.src → v ≠ noJseq → s.openCmd tr.seq = some c →
        ∃ t, exec .jnlAckReceive s = .next t ∧ t.rly.mgt = ks ∧ (v ≠ tr.last → t.jnl.transfer = some { tr with reached := some v }) ∧
          (v = tr.last → t.jnl.transfer = none ∧ t.hif.done = s.hif.done ++ [c.compl 0 v 0 0])) ∧
      (s.jnl.transfer = none → k.src = s.buddy → s.mirrorEn = true → v ≠ noJseq → ∃ t, exec .jnlAckReceive s = .next t ∧ t.rly.mgt = ks ∧ t.jnl.acked = some v)) ∧
    (∀ (tr : Transfer) (c : OpenCmd), s.jnl.transfer = some tr → s.openCmd tr.seq = some c → ∃ t, exec .jnlTransferTimeout s = .next t ∧
      t.jnl.transfer = none ∧ t.errSet .ref 0 8 ∧ t.hif.done = s.hif.done ++ [c.compl 0x0108 (tr.reached.getD noJseq) 0 0]) ∧
    (∀ data, s.Serves .ref 0 → data < 2 ^ 64 → s.jnl.transfer = none → s.jnlMode = 0 → bits data 63 48 ≠ 0 → bits data 1 0 = 1 →
      ∃ t, exec (.jnlCtrlWrite data) s = .next t ∧ t.jnlMode = 1 ∧ t.autoTrim = data.testBit 2 ∧ t.mirrorEn = data.testBit 3 ∧ t.buddy = bits data 27 16 ∧
        (t.jnl.base, t.jnl.size) = ringLayout (s.reg .ref 0 0x508)))

/-! ### The Proofer -/

/-- A sample enters the averages and meters, gives each die whose eight sensors are in range and not frozen its hottest reading, marks a sensor out of range bad with bit 4 (so too one of a port die or an LB4, or one that has shown one value for 1 s above 50 W), adds its energy to each run, and holds every block of a die above TJ_TARGET that runs COLL, BULK or SERVE. A window end takes the mean power, applies the limits as written, sets WARM's remainder and each die's voltage: 26 before WARM, else VFIX's
code, else one step down after two windows with a hold. With one RUN ready and nothing else, admission starts it on all its blocks with its charge if it fits the budget and its dies, and leaves the state as it was if not. An overpower sets bit 3 and holds all work; WARM comes after 20,000 samples. A trip of a compute die
switches it off and fences it, one of a port die or an LB4 switches off the core supplies; both assert THERMTRIP_N.
Model's choices (numbers of the assumption log): which blocks are held and that a voltage moves one step a window (49), the power shown on
overpower is open (48), WARM's row is its expiry (37). -/
def Obligations.ProoferEvents : Prop :=
  (∀ (s : State) (r : List Nat), let w := reading r 880 * reading r 881 / 1000000
    ∃ t, exec (.prooferSample r) s = .next t ∧ t.prf.last = r ∧ t.prf.samples = s.prf.samples + 1 ∧
    t.prf.accN = s.prf.accN + 1 ∧ t.prf.accW = s.prf.accW + w ∧ t.prf.energyUj = (s.prf.energyUj + 10 * w) % 10 ^ 9 ∧
    (∀ d < 32, (∀ i < 8, sensorInRange (reading r (8 * d + i)) = true ∧ s.frozenCount r (8 * d + i) (100 * reading r (848 + d)) < 100000) →
      (t.diePow d).sensorOk = 0xFF ∧ (t.diePow d).tmax = quarters (hottest r ((List.range 8).map (8 * d + ·)))) ∧
    (∀ d < 32, ∀ i < 8, sensorInRange (reading r (8 * d + i)) = false → (t.diePow d).sensorOk.testBit i = false ∧
      ((s.diePow d).sensorOk.testBit i = true → t.errSet .prf 0 4)) ∧
    (∀ u i k n : Nat, ((u < 4 ∧ n = 4 ∧ k = 256 + 4 * u) ∨ (4 ≤ u ∧ u < 20 ∧ n = 2 ∧ k = 272 + 2 * (u - 4))) → i < n → s.prf.last ≠ [] →
      sensorValid (reading s.prf.last (k + i)) (s.prf.frozen.num (k + i)) = true →
      (sensorInRange (reading r (k + i)) = false ∨ 100000 ≤ s.frozenCount r (k + i) (reading r (914 + u))) → t.errSet .prf 0 4) ∧
    (∀ p < 544, ∀ x, (s.block p).run = some x → (t.block p).run = some { x with energy := x.energy + reading r (304 + p) } ∧
      (x.req.cls ∈ [1, 2, 3] → t.headroom (dieOf p) < 0 → (t.block p).prooferHold = true))) ∧
  (∀ s : State, ∃ t, exec .prooferWindow s = .next t ∧ t.prf.windows = (s.prf.windows + 1) % 2 ^ 32 ∧ t.prf.accN = 0 ∧ t.prf.accW = 0 ∧
    t.prf.holdAll = false ∧ (0 < s.prf.accN → t.prf.powerW = min 0xFFFF (s.prf.accW / s.prf.accN)) ∧
    t.prf.limitW = s.fld .prf 0 0x100 15 0 ∧ t.prf.inlineW = s.fld .prf 0 0x100 31 16 ∧ t.prf.floorW = s.fld .prf 0 0x100 47 32 ∧
    t.prf.tjTarget = s.fld .prf 0 0x108 39 32 ∧
    (s.prf.warm = true → t.prf.rem = t.prf.limitW * chargeUnit - (t.prf.staticW + t.prf.inlineW) * chargeUnit - s.runningCharge (fun c => c == 2 || c == 3) -
      max (t.prf.floorW * chargeUnit) (s.runningCharge (· == 1))) ∧
    (∀ d < 32, (s.prf.warm = false → (t.diePow d).vnow = 26) ∧
      (s.prf.warm = true → s.fld .prf 0 (0x200 + 8 * d) 7 7 = 1 → (t.diePow d).vnow = s.fld .prf 0 (0x200 + 8 * d) 13 8) ∧
      (s.prf.warm = true → s.fld .prf 0 (0x200 + 8 * d) 7 7 = 0 → (s.diePow d).heldNow = true → 1 ≤ (s.diePow d).heldWins →
        (t.diePow d).vnow = (s.diePow d).vnow - 1)) ∧
    OnlyIn { prf := true } s t) ∧
  (∀ (s : State) (c : OpenCmd), s.openCmd c.seq = some c → c.opcode = 0x10 → c.cls < 4 → (c.targets.map Prod.snd).Nodup →
    (c.targets.all fun x => s.headIs x.2 (some c.seq)) = true → (∀ j < 4, s.readyIn j = if j = c.cls then [(c.since, Ready.cmd c.seq)] else []) →
    let w := s.runCharge c.entryOff c.estW
    (s.fits c.cls w c.all = false → exec .prooferAdmit s = .next s) ∧
    (s.fits c.cls w c.all = true → ∃ t, exec .prooferAdmit s = .next t ∧ t.openCmd c.seq = some { c with admitted := true, charge := w, start := s.time.now } ∧
      ∀ x ∈ c.targets, ∃ r q, (s.block x.2).runq = r :: q ∧ (t.block x.2).runq = q ∧ (t.block x.2).run = some { req := r, pc := r.entry, start := s.time.now })) ∧
  (∀ s : State, (∃ t, exec .prfOverpower s = .next t ∧ t.prf.holdAll = true ∧ t.errSet .prf 0 3) ∧
    exec .prooferWarm s = .next (if 20000 ≤ s.prf.samples then { s with prf := { s.prf with warm := true } } else s)) ∧
  (∀ (s : State) (unit sensor : Nat),
    (unit < 32 → s.fence.dies.testBit unit = false → ∃ t, exec (.thermalTrip unit sensor) s = .next t ∧ t.ref.thermtripN = true ∧ t.errSet .prf 0 5 ∧
      t.errSet .die unit 3 ∧ t.place.dieOff.testBit unit = true ∧ t.fence.dies.testBit unit = true ∧ ∀ p, s.inService p = true → dieOf p = unit → t.fencedBlock p = true) ∧
    (32 ≤ unit → ∃ t, exec (.thermalTrip unit sensor) s = .next t ∧ t.ref.thermtripN = true ∧ t.ref.coresOn = false ∧ t.ref.pwrgd = false ∧
      t.ref.linkUp = false ∧ t.blocks = [] ∧ t.hif = {} ∧ t.fence = s.fence))

/-! ### Clocks, resets, power, Scorebook -/

/-- Out of COAST and reset: a monitor window within limits is kept, and the 64th sets C0 to the mean of the 64; one out of limits sets bit 4 and enters COAST, with time untimed, the PCIe link down and the Referee on the monitor oscillator. The monitor's own failure sets bit 5. A locked PLL that unlocks sets bit 2 and is remembered; a port group's takes its eight ports' links down in either mode, an LB4's holds
its requests back. It relocks, and an LB4's requests go on (with none waiting, nothing else changes); when relocking takes too long an LB4 goes OFFLINE and a PLL of the core enters COAST. A pending switch ends; one that sticks sets bit 3, and the Referee domain runs from the monitor oscillator; in a port die's switch domain nothing happens any more, and timestamps of a stopped domain stand still.
Model's choices (numbers of the assumption log): pending switches when REFCLK fails, and that C0 is taken again each second of windows
(90); a stuck switch stops the pages named in 103; relocking's rows are its end or its timeout (37). -/
def Obligations.ClockEvents : Prop :=
  (∀ (s : State) (n : Nat), s.clk.coast = false → s.clk.monFailed = false → s.ref.inReset = false → s.ref.island = true →
    (s.countBad n = false → ∃ t, exec (.monitorWindow n) s = .next t ∧ t.clk.last = n % 2 ^ 16 ∧ t.clk.coast = false ∧
      (s.clk.windows.length ≤ 63 → t.clk.windows = s.clk.windows ++ [n]) ∧
      (s.clk.windows.length = 63 → s.clk.c0 = 0 → t.clk.c0 = (s.clk.windows.sum + n) / 64)) ∧
    (s.countBad n = true → ∃ t, exec (.monitorWindow n) s = .next t ∧ t.errSet .clk 0 4 ∧ t.clk.coast = true ∧ t.time.untimed = true ∧
      t.ref.linkUp = false ∧ (t.mux 0).src = 2)) ∧
  (∀ s : State, s.clk.coast = false → s.clk.monFailed = false → s.ref.inReset = false →
    ∃ t, exec .clkMonFail s = .next t ∧ t.clk = { s.clk with monFailed := true } ∧ t.errSet .clk 0 5) ∧
  (∀ (s : State) (n : Nat), n < 42 → let x := s.pll n
    (x.locked = true → ∃ t, exec (.clkPllUnlock n) s = .next t ∧ t.pll n = { x with locked := false, unlockedSeen := true } ∧ t.errSet .clk 0 2 ∧
      (10 ≤ n → n < 26 → ∀ i < 8, (t.link (8 * (n - 10) + i)).st = lkDown ∧ (t.port (8 * (n - 10) + i)).up = false) ∧
      (26 ≤ n → (t.stack (n - 26)).held = true)) ∧
    (x.en = true → x.locked = false → s.clk.coast = false →
      (s.NoWaiters → ∃ t, exec (.pllRelock n) s = .next t ∧ t.pll n = { x with locked := true } ∧
        (26 ≤ n → t.stack (n - 26) = { s.stack (n - 26) with held := false }) ∧ OnlyIn { clk := true, mem := true } s t) ∧
      (26 ≤ n → ∃ t, exec (.pllRelockTimeout n) s = .next t ∧ (t.stack (n - 26)).state = 3 ∧ ((s.stack (n - 26)).state ≠ 3 → t.errSet .stk (n - 26) 7)) ∧
      (n < 10 → ∃ t, exec (.pllRelockTimeout n) s = .next t ∧ t.clk.coast = true ∧ t.errSet .clk 0 4))) ∧
  (∀ (s : State) (m : Nat), let x := s.mux m
    x.pending = true → x.stuck = false →
      exec (.clkMuxSwitchDone m) s = .next (s.setMux m { x with pending := false }) ∧
      ∃ t, exec (.clkswStuck m) s = .next t ∧ t.errSet .clk 0 3 ∧ (t.mux 0).src = 2 ∧ (t.mux 0).pending = false ∧ (m ≠ 0 → t.mux m = { x with stuck := true, stuckAt := s.time.now })) ∧
  (∀ (s : State) (die port : Nat), port / 32 = die →
    ((s.mux (1 + die)).stuck = true → ∀ i ∈ [Instr.ethernetLinkUp port, .ethernetLinkDown port, .txSelect port, .ageCheck port, .shaperRefill port,
      .gateEntryChange port, .replayTimeout port, .rallyLanesTrained port, .watermarkBroadcast die], exec i s = .next s) ∧
    ((s.mux (5 + die)).stuck = true → s.timeOn die = (s.mux (5 + die)).stuckAt))

/-- Each cause of a full reset that can reach the module leaves it in reset with that cause, no fence, no placement, its registers and host interface as at reset, OTP_SVN and, with no memory test running, device memory kept, and counts it; power applied does so with cause 1. On release, with the TRNG sound, the slot that the selector's newer good copy names ACTIVE valid and no trial, the module comes to READY and runs it; a valid trial runs and becomes ACTIVE; with
neither slot valid it enters RECOVERY. EPO_N and the management's EPO take the core supplies and device memory; so does a failure of the 54 V entry, after which FAULT_N needs AUX_12V; the Referee island has power while either is there. The memory test's end reports the stacks that failed and takes them OFFLINE. A Scorebook write takes the next sequence number and sector, and a request during one asks for
another; done, its copy is in force and the one before is the alternate; failed, it goes to the next sector. A tick counts a second and each die's voltage bin.
Model's choices (numbers of the assumption log): what the start-up finds is an operand (92), which memory is lost (94), FAULT_N after a
loss of power (95), memory after the test is open (91), the retry of a failed Scorebook write and the histograms (108). -/
def Obligations.ResetsPowerAndScorebook : Prop :=
  (∀ (s : State) (c : Instr) (cause : Nat) (ok : Bool),
    (c, cause, ok) ∈ [(Instr.perstAssert, 2, s.ref.p54), (.pcieHotReset, 3, s.linked), (.pcieLinkDisable, 4, s.linked), (.mgmtReset, 6, s.ref.island),
      (.refereeWatchdog, 7, s.ref.island), (.powerApply, 1, !s.ref.p54)] → ok = true →
    ∃ t, exec c s = .next t ∧ t.ref.inReset = true ∧ t.ref.ready = false ∧ t.ref.rstCause = cause ∧ t.fence = {} ∧ t.place = {} ∧ t.regs = [] ∧ t.hif = {} ∧
      t.otp = s.otp ∧ t.host = s.host ∧ t.sb.pend.num 4 = s.sb.pend.num 4 + 1 ∧ (s.ref.mtRunning = false → t.dev = s.dev)) ∧
  (∀ (s : State) (env : List Nat), s.ref.inReset = true → s.ref.coresOn = true → s.ref.island = true → s.ref.ready = false → s.sec.recovery = false →
    envAt env 0 = 0 → ∀ c : SelCopy, pickCopy s.sec.copies = some c →
    (c.trial = none → s.fwCheck (s.fwSlot c.active) = 0 → ∃ t, exec (.resetRelease env) s = .next t ∧ t.ref.inReset = false ∧ t.ref.linkUp = true ∧
      t.ref.ready = true ∧ t.ref.stage = 8 ∧ t.sec.running = c.active ∧ t.sec.recovery = false) ∧
    (∀ n, c.trial = some n → s.fwCheck (s.fwSlot n) = 0 → ∃ t, exec (.resetRelease env) s = .next t ∧ t.ref.ready = true ∧ t.sec.running = n ∧
      t.sec.active = n ∧ t.sec.trial = none) ∧
    (c.trial = none → s.fwCheck (s.fwSlot c.active) ≠ 0 → s.fwCheck (s.fwSlot (1 - c.active)) ≠ 0 →
      ∃ t, exec (.resetRelease env) s = .next t ∧ t.ref.inReset = false ∧ t.ref.linkUp = true ∧ t.ref.ready = false ∧ t.sec.recovery = true ∧
        t.errSet .sec 0 (fwErrBit (s.fwCheck (s.fwSlot c.active))))) ∧
  (∀ (s : State) (c : Instr) (pin : Bool), (c = .epoNAssert pin ∨ (c = .mgmtEpo ∧ pin = s.ref.epoPin)) → s.ref.island = true → s.ref.epo = false →
    ∃ t, exec c s = .next t ∧ t.ref.epo = true ∧ t.ref.epoPin = pin ∧ t.ref.faultN = true ∧ t.ref.coresOn = false ∧ t.ref.ready = false ∧ t.dev = [] ∧
      t.blocks = [] ∧ t.sb.writing ≠ none ∧ t.fence = s.fence) ∧
  (∀ s : State, s.ref.p54 = true → ∃ t, exec .powerFail s = .next t ∧ t.ref.p54 = false ∧ t.ref.inReset = true ∧ t.ref.coresOn = false ∧ t.dev = [] ∧ t.blocks = [] ∧
    t.ref.faultN = s.ref.aux12 ∧ t.ref.island = s.ref.aux12 ∧ (s.ref.aux12 = true → t.sb.writing ≠ none)) ∧
  (∀ (s : State) (on : Bool), ∃ t, exec (.aux12vChange on) s = .next t ∧ t.ref.aux12 = on ∧ t.ref.island = (on || s.ref.p54) ∧ t.dev = s.dev ∧ t.blocks = s.blocks) ∧
  (∀ (s : State) (fail : Nat), s.ref.mtRunning = true → ∃ t, exec (.mtestDone fail) s = .next t ∧ t.ref.mtRunning = false ∧ t.ref.mtDone = s.ref.mtStacks ∧
    t.ref.mtFail = fail &&& s.ref.mtStacks ∧ t.ref.mtProgress = 100 ∧
    (∀ k < 16, (fail &&& s.ref.mtStacks).testBit k = true → (t.stack k).state = 3 ∧ t.errSet .ref 0 4)) ∧
  (∀ s : State, s.ref.island = true →
    (∀ f, s.sb.writing = none → s.sb.inForce = some f → exec .scorebookPeriodic s = .next { s with sb := { s.sb with
      writing := some { seq := (f.seq + 1) % 2 ^ 32, sector := (f.sector + 1) % 256, counts := s.sbMerged } } }) ∧
    (s.sb.writing ≠ none → exec .scorebookPeriodic s = .next { s with sb := { s.sb with again := true } }) ∧
    (∃ t, exec .histogramTick s = .next t ∧ t.sb.pend.num 5 = s.sb.pend.num 5 + 1 ∧ OnlyIn { sb := true, free := true } s t ∧
      ∀ d < 32, let item := 0x4000 + 0x10 * (36 + d) + min 15 ((s.diePow d).vnow / 3)
        t.sb.pend.num item = s.sb.pend.num item + 1)) ∧
  (∀ (s : State) (c : SbCopy), s.sb.writing = some c →
    (∃ t, exec (.scorebookWriteDone true) s = .next t ∧ t.sb.inForce = some c ∧ t.sb.alt = s.sb.inForce ∧ t.sb.again = false ∧
      (s.sb.again = false → t.sb.writing = none) ∧ (s.sb.again = true → ∃ d, t.sb.writing = some d ∧ d.seq = (c.seq + 1) % 2 ^ 32)) ∧
    (∃ t, exec (.scorebookWriteDone false) s = .next t ∧ t.sb.writing = some { c with sector := (c.sector + 1) % 256 } ∧ t.errSet .sb 0 2))

/-! ### Audit units and sealing -/

/-- An audit unit that may start, with no collective in the module: a descriptor whose read of the block store is uncorrectable fences the block; a malformed one is in flight with code 0x83; one that names an entry the journal does not hold, as the first that stops it, with 0x90; one whose entries are held, in plain memory, with 0x01, the input digest over their ingress digests and the block digest. At its end one that succeeded writes
its digest and its code, one that failed its code, and the unit halts. A record of an alarm descriptor in flight, with no earlier shape number's of the same moment waiting, joins the open batch, or opens one, with the next RECNO. A batch that is due closes into the signer's queue; the signer signs the oldest batch while the TRNG is sound. A signed batch's next record, and after the last its seal, goes to its ring's next slot if there is room, and the ring's count goes up.
Model's choices (numbers of the assumption log): what a descriptor's check covers (80), a record meeting a due batch opens the next (81), a
ring without an answer waits (82), the hedging bytes are free and keys are numbered (83). -/
def Obligations.AuditAndSealing : Prop :=
  (∀ (s : State) (p : Nat), s.NoColl → s.ringsRun = true → (s.block p).aud.en = true → (s.block p).aud.halted = false → s.fencedBlock p = false →
    (s.block p).aud.flight = [] → (s.block p).aud.started + 1 ≤ ((s.block p).cnt (s.block p).aud.post).value →
    let q := (s.block p).aud
    let d := (s.block p).audDesc q.started
    let js := (s.block p).audInputs d
    let inFlight := fun (st : Nat) (indig digest : List Byte) => ({ q with started := q.started + 1, flight := [(q.started, st)], accepted := false, indig := indig, digest := digest, since := s.time.now } : Queue)
    (s.inService p = true → ∃ t, exec (.auditDescriptorStart p .uncorrectable) s = .next t ∧ t.fencedBlock p = true) ∧
    (∀ reads : StoreRead, reads ≠ .uncorrectable →
    (s.audFormatOk d = false → ∃ t, exec (.auditDescriptorStart p reads) s = .next t ∧ (t.block p).aud = inFlight 0x83 [] [] ∧ t.dev = s.dev) ∧
    (s.audFormatOk d = true → s.audWaits js = false → js ≠ [] → (∀ e ∈ s.jnl.entries, e.jseq ≠ js.headD 0) →
      ∃ t, exec (.auditDescriptorStart p reads) s = .next t ∧ (t.block p).aud = inFlight 0x90 [] [] ∧ t.dev = s.dev) ∧
    (s.audFormatOk d = true → s.audWaits js = false →
      (∀ j ∈ js, ∃ e, s.jnl.entries.find? (fun e => e.jseq == j) = some e ∧ s.Plain (e.addr + 0x40) 32) →
      let indig := inputDigest d.inCount (js.flatMap (fun j => match s.jnl.entries.find? (fun e => e.jseq == j) with
        | some e => s.dev.read (e.addr + 0x40) 32
        | none => []))
      ∃ t, exec (.auditDescriptorStart p reads) s = .next t ∧ (t.block p).aud = inFlight 0x01 indig (s.blockDigest p d indig) ∧ t.dev = s.dev))) ∧
  (∀ (s : State) (p i st : Nat) (more : List (Nat × Nat)), (s.block p).aud.flight = (i, st) :: more → s.fencedBlock p = false →
    let b := s.block p
    let d := b.audDesc i
    (st = 0x01 → d.alarm = false ∨ b.aud.accepted = true → ∃ t, exec (.auditDescriptorEnd p) s = .next t ∧
      (t.block p).store = (b.store.write d.dout (dig32 b.aud.digest)).write (b.aud.slotAddr 64 i + 4) [1] ∧
      (t.block p).aud = { b.aud with flight := [], accepted := false, digest := [], indig := [], ended := (b.aud.ended + 1) % 2 ^ 32, halted := false, code := 0, index := 0 }) ∧
    (st ≠ 0x01 → ∃ t, exec (.auditDescriptorEnd p) s = .next t ∧ (t.block p).store = b.store.write (b.aud.slotAddr 64 i + 4) [BitVec.ofNat 8 st] ∧
      (t.block p).aud.halted = true ∧ (t.block p).aud.code = st) ∧
    (st = 0x01 → d.alarm = true → b.aud.accepted = false → s.recordFirst p = true →
      (s.sec.openB = none → ∃ t, exec (.sealRecordAccept p) s = .next t ∧ (t.block p).aud = { b.aud with accepted := true } ∧
        t.sec = { s.sec with
          batchNo := (s.sec.batchNo + 1) % 2 ^ 64, recno := (s.sec.recno + 1) % 2 ^ 64, openB := some { number := s.sec.batchNo, openTime := s.time.now, firstRec := s.sec.recno, recs := [s.alarmRecord p d], untimed := s.untimedNow } }) ∧
      (∀ o, s.sec.openB = some o → s.batchDue = false → o.recs.length + 1 < 4096 → ∃ t, exec (.sealRecordAccept p) s = .next t ∧ (t.block p).aud = { b.aud with accepted := true } ∧
        t.sec = { s.sec with recno := (s.sec.recno + 1) % 2 ^ 64, openB := some { o with recs := o.recs ++ [s.alarmRecord p d], untimed := o.untimed || s.untimedNow } }))) ∧
  (∀ s : State,
    (∀ o, s.sec.openB = some o → s.batchDue = true → exec .sealBatchClose s = .next { s with sec := { s.sec with
      openB := none, queue := s.sec.queue ++ [{ o with closeTime := s.time.now, early := false, untimed := o.untimed || s.untimedNow }] } }) ∧
    (s.batchDue = false → exec .sealBatchClose s = .next s) ∧
    (∀ b rest, s.sec.queue = b :: rest → b.signed = [] → let body := s.sealBody b
      (s.sec.trngOk = true → exec .sealBatchSign s = .next { s with free := s.free + 32, sec := { s.sec with
        prevSeal := sha3 body, queue := { b with signed := body ++ (s.signPair s.sec.sealKey body).1 ++ List.replicate 579 0 } :: rest } }) ∧
      (s.sec.trngOk = false → exec .sealBatchSign s = .next s)) ∧
    (∀ b rest hostOk, s.sec.queue = b :: rest → b.signed ≠ [] →
      let cell := fun (g : SRing) (w : Nat) => g.base + g.prod % 2 ^ g.slotsLog2 * w
      let fits := fun (g : SRing) (reg w : Nat) => let cons := s.reg .sec 0 reg / 8 * 8
        g.en = true ∧ xOk cons = true ∧ xOk (cell g w) = true ∧ s.xBusy cons 8 = false ∧ s.xBusy (cell g w) w = false ∧
        (xDev cons = true → s.Plain (xAddr cons) 8) ∧ (xDev cons = false → s.hostDma = true) ∧
        (xDev (cell g w) = true → s.Plain (xAddr (cell g w)) w) ∧ (xDev (cell g w) = false → s.hostDma = true ∧ hostOk = true) ∧ g.prod < leNat (s.bytesAt cons 8) + 2 ^ g.slotsLog2
      let holds := fun (t : State) (x : Nat) (bs : List Byte) => (xDev x = true → t.dev = s.dev.write (xAddr x) bs) ∧ (xDev x = false → t.host = s.host.write (xAddr x) bs)
      (b.written < b.recs.length → ((b.recs.getD b.written {}).each = true → s.sec.trngOk = true) → (s.recordBytes b b.written).1.length = 16384 → fits s.sec.recRing 0x410 16384 → ∃ t, exec (.sealRingWrite hostOk) s = .next t ∧
        holds t (cell s.sec.recRing 16384) (s.recordBytes b b.written).1 ∧
        t.sec = { s.sec with queue := { b with written := b.written + 1 } :: rest, recRing := { s.sec.recRing with prod := s.sec.recRing.prod + 1 } }) ∧
      (b.recs.length ≤ b.written → b.signed.length = 4096 → fits s.sec.sealRing 0x428 4096 → ∃ t, exec (.sealRingWrite hostOk) s = .next t ∧
        holds t (cell s.sec.sealRing 4096) b.signed ∧ t.sec = { s.sec with queue := rest, sealRing := { s.sec.sealRing with prod := s.sec.sealRing.prod + 1 } })))
end

