-- ==== Sys2Proof/Laws/Mem.lean ====
section
/-! SUPPORT. The laws of byte memories and keyed tables: every operation keeps the canonical form, a read after a write to the same place
gives the value written, and a write leaves every other place alone. -/

namespace Sys2Proof.Machine

/-! ### Reading a list of keyed entries -/

/-- An entry read by its key is the default when no entry has the key. -/
theorem Sparse.get_of_forall_ne {α : Type} (d : α) (m : Sparse α) (k : Nat) (h : ∀ c ∈ m, c.1 ≠ k) : Sparse.get d m k = d := by
  induction m with
  | nil => rfl
  | cons c m ih =>
    have h1 : c.1 ≠ k := h c (by simp)
    simp only [Sparse.get, if_neg h1]
    exact ih (fun x hx => h x (by simp [hx]))

/-- Reading past entries that do not have the key. -/
theorem Sparse.get_append {α : Type} (d : α) (m n : Sparse α) (k : Nat) :
    Sparse.get d (m ++ n) k = if m.any (fun c => c.1 == k) then Sparse.get d m k else Sparse.get d n k := by
  induction m with
  | nil => simp
  | cons c m ih =>
    by_cases h : c.1 = k
    · simp [Sparse.get, h]
    · have hk : (c.1 == k) = false := by simp [h]
      rw [List.cons_append, List.any_cons, hk, Bool.false_or]
      simp only [Sparse.get, if_neg h, ih]

/-- A filter that keeps every entry with the key leaves what the key reads as. -/
theorem Sparse.get_filter {α : Type} (d : α) (p : Nat × α → Bool) (m : Sparse α) (k : Nat) (h : ∀ c, c.1 = k → p c = true) :
    Sparse.get d (m.filter p) k = Sparse.get d m k := by
  induction m with
  | nil => rfl
  | cons c m ih =>
    by_cases hc : c.1 = k
    · simp [h c hc, Sparse.get, hc]
    · by_cases hp : p c = true
      · simp [hp, Sparse.get, hc, ih]
      · simp [hp, Sparse.get, hc, ih]

/-- Every key that a filter on keys rejects reads as the default. -/
theorem Sparse.get_filter_out {α : Type} (d : α) (p : Nat × α → Bool) (m : Sparse α) (k : Nat) (h : ∀ c, c.1 = k → p c = false) :
    Sparse.get d (m.filter p) k = d := by
  apply Sparse.get_of_forall_ne
  intro c hc hk
  have := (List.mem_filter.mp hc).2
  rw [h c hk] at this
  cases this

/-- A key just written reads as the value written. -/
@[simp] theorem Sparse.get_set_same {α : Type} [DecidableEq α] (d : α) (m : Sparse α) (k : Nat) (v : α) :
    Sparse.get d (Sparse.set d m k v) k = v := by
  unfold Sparse.set
  rw [List.append_assoc, Sparse.get_append]
  have h1 : (m.filter (fun c => decide (c.1 < k))).any (fun c => c.1 == k) = false := by
    rw [List.any_eq_false]
    intro c hc hk
    have h := (List.mem_filter.mp hc).2
    simp only [decide_eq_true_eq, beq_iff_eq] at h hk
    omega
  rw [h1]
  by_cases hv : v = d
  · simp only [Bool.false_eq_true, if_false, if_pos hv, List.nil_append]
    rw [Sparse.get_filter_out]
    · exact hv.symm
    · intro c hc; simp [hc]
  · simp [hv, Sparse.get]

/-- Writing one key leaves every other key alone. -/
theorem Sparse.get_set_other {α : Type} [DecidableEq α] (d : α) (m : Sparse α) (k j : Nat) (v : α) (h : j ≠ k) :
    Sparse.get d (Sparse.set d m k v) j = Sparse.get d m j := by
  unfold Sparse.set
  rw [List.append_assoc, Sparse.get_append]
  by_cases hlt : j < k
  · by_cases hm : (m.filter (fun c => decide (c.1 < k))).any (fun c => c.1 == j) = true
    · rw [if_pos hm]
      exact Sparse.get_filter d _ m j (by intro c hc; simp [hc, hlt])
    · rw [if_neg hm]
      have hnone : ∀ c ∈ m, c.1 ≠ j := by
        intro c hc hk
        apply hm
        rw [List.any_eq_true]
        exact ⟨c, List.mem_filter.mpr ⟨hc, by simp [hk, hlt]⟩, by simp [hk]⟩
      rw [Sparse.get_of_forall_ne d m j hnone]
      apply Sparse.get_of_forall_ne
      intro c hc
      rcases List.mem_append.mp hc with hc | hc
      · by_cases hv : v = d
        · simp [hv] at hc
        · simp [hv] at hc; subst hc; exact fun e => h e.symm
      · exact hnone c (List.mem_filter.mp hc).1
  · have hgt : k < j := by omega
    have hm : (m.filter (fun c => decide (c.1 < k))).any (fun c => c.1 == j) = false := by
      rw [List.any_eq_false]
      intro c hc hk
      have hx := (List.mem_filter.mp hc).2
      simp only [decide_eq_true_eq, beq_iff_eq] at hx hk
      omega
    rw [hm, if_neg (by simp)]
    have hf : Sparse.get d (m.filter (fun c => decide (k < c.1))) j = Sparse.get d m j :=
      Sparse.get_filter d _ m j (by intro c hc; simp [hc, hgt])
    by_cases hv : v = d
    · simp [hv, hf]
    · simp only [if_neg hv, List.cons_append, List.nil_append, Sparse.get, hf]
      rw [if_neg (fun e => h e.symm)]

/-! ### Byte memories -/

/-- A memory's read is a table's read with default 0. -/
theorem Mem.get_eq (m : Mem) (a : Nat) : m.get a = Sparse.get (0 : Byte) m a := by
  induction m with
  | nil => rfl
  | cons c m ih => simp only [Mem.get, Sparse.get, ih]

/-- A memory in canonical form: its keys rise and no byte listed is zero. -/
theorem Mem.wf_iff (m : Mem) : m.wf = true ↔ m.Pairwise (fun a b => a.1 < b.1) ∧ ∀ c ∈ m, c.2 ≠ 0 := by
  simp [Mem.wf]

/-- The cells of a run of bytes: their addresses lie in the run. -/
theorem Mem.cells_range (a : Nat) (bs : List Byte) : ∀ c ∈ Mem.cells a bs, a ≤ c.1 ∧ c.1 < a + bs.length := by
  induction bs generalizing a with
  | nil => simp [Mem.cells]
  | cons b bs ih =>
    intro c hc
    by_cases hb : b = 0
    · simp only [Mem.cells, if_pos hb] at hc
      have := ih (a + 1) c hc
      simp only [List.length_cons]; omega
    · simp only [Mem.cells, if_neg hb, List.mem_cons] at hc
      rcases hc with rfl | hc
      · simp
      · have := ih (a + 1) c hc
        simp only [List.length_cons]; omega

/-- The cells of a run of bytes are in canonical form. -/
theorem Mem.cells_wf (a : Nat) (bs : List Byte) : (Mem.cells a bs).wf = true := by
  induction bs generalizing a with
  | nil => rfl
  | cons b bs ih =>
    by_cases hb : b = 0
    · simp only [Mem.cells, if_pos hb]; exact ih (a + 1)
    · simp only [Mem.cells, if_neg hb]
      rw [Mem.wf_iff]
      have h := (Mem.wf_iff _).mp (ih (a + 1))
      refine ⟨List.pairwise_cons.mpr ⟨?_, h.1⟩, ?_⟩
      · intro c hc
        have := Mem.cells_range (a + 1) bs c hc
        simp only; omega
      · intro c hc
        rcases List.mem_cons.mp hc with rfl | hc
        · exact hb
        · exact h.2 c hc

/-- A filter keeps the canonical form. -/
theorem Mem.filter_wf (m : Mem) (p : Nat × BitVec 8 → Bool) (h : m.wf = true) : Mem.wf (m.filter p) = true := by
  rw [Mem.wf_iff] at *
  exact ⟨h.1.filter p, fun c hc => h.2 c (List.mem_filter.mp hc).1⟩

/-- Two memories in canonical form whose addresses follow on make one. -/
theorem Mem.append_wf (m n : Mem) (hm : m.wf = true) (hn : n.wf = true) (h : ∀ c ∈ m, ∀ e ∈ n, c.1 < e.1) :
    Mem.wf (m ++ n) = true := by
  rw [Mem.wf_iff] at *
  refine ⟨List.pairwise_append.mpr ⟨hm.1, hn.1, h⟩, ?_⟩
  intro c hc
  rcases List.mem_append.mp hc with hc | hc
  · exact hm.2 c hc
  · exact hn.2 c hc

/-- A write keeps the canonical form. -/
theorem Mem.write_wf (m : Mem) (a : Nat) (bs : List Byte) (h : m.wf = true) : (m.write a bs).wf = true := by
  unfold Mem.write
  apply Mem.append_wf
  · apply Mem.append_wf
    · exact Mem.filter_wf m _ h
    · exact Mem.cells_wf a bs
    · intro c hc e he
      have h1 := (List.mem_filter.mp hc).2
      have h2 := Mem.cells_range a bs e he
      simp only [decide_eq_true_eq] at h1
      omega
  · exact Mem.filter_wf m _ h
  · intro c hc e he
    have h2 := (List.mem_filter.mp he).2
    simp only [decide_eq_true_eq] at h2
    rcases List.mem_append.mp hc with hc | hc
    · have h1 := (List.mem_filter.mp hc).2
      simp only [decide_eq_true_eq] at h1
      omega
    · have h1 := Mem.cells_range a bs c hc
      omega

/-- A write of a number keeps the canonical form. -/
theorem Mem.writeNat_wf (m : Mem) (a n v : Nat) (h : m.wf = true) : (m.writeNat a n v).wf = true := Mem.write_wf m a _ h

/-- Zeroing keeps the canonical form. -/
theorem Mem.zero_wf (m : Mem) (a n : Nat) (h : m.wf = true) : (m.zero a n).wf = true := by
  unfold Mem.zero
  apply Mem.append_wf _ _ (Mem.filter_wf m _ h) (Mem.filter_wf m _ h)
  intro c hc e he
  have h1 := (List.mem_filter.mp hc).2
  have h2 := (List.mem_filter.mp he).2
  simp only [decide_eq_true_eq] at h1 h2
  omega

/-- The bytes of a range, listed, are in canonical form. -/
theorem Mem.window_wf (m : Mem) (a n : Nat) (h : m.wf = true) : (m.window a n).wf = true := Mem.filter_wf m _ h

/-- A read of a byte of a run just laid out. -/
theorem Mem.get_cells (a : Nat) (bs : List Byte) (i : Nat) (h : i < bs.length) : Mem.get (Mem.cells a bs) (a + i) = bs[i] := by
  induction bs generalizing a i with
  | nil => simp at h
  | cons b bs ih =>
    cases i with
    | zero =>
      by_cases hb : b = 0
      · simp only [Mem.cells, if_pos hb, Nat.add_zero, List.getElem_cons_zero, Mem.get_eq]
        rw [hb]
        apply Sparse.get_of_forall_ne
        intro c hc
        have := Mem.cells_range (a + 1) bs c hc
        omega
      · simp only [Mem.cells, if_neg hb]
        simp [Mem.get]
    | succ i =>
      have h' : i < bs.length := by simpa using h
      have e : a + (i + 1) = a + 1 + i := by omega
      by_cases hb : b = 0
      · simp only [Mem.cells, if_pos hb, List.getElem_cons_succ, e]
        exact ih (a + 1) i h'
      · simp only [Mem.cells, if_neg hb, Mem.get, List.getElem_cons_succ]
        rw [if_neg (by omega), e]
        exact ih (a + 1) i h'

/-- A byte just written reads as the byte written. -/
theorem Mem.get_write_same (m : Mem) (a : Nat) (bs : List Byte) (i : Nat) (h : i < bs.length) :
    (m.write a bs).get (a + i) = bs[i] := by
  have hc := Mem.get_cells a bs i h
  rw [Mem.get_eq] at *
  unfold Mem.write
  rw [List.append_assoc, Sparse.get_append]
  have h1 : (m.filter (fun c => decide (c.1 < a))).any (fun c => c.1 == a + i) = false := by
    rw [List.any_eq_false]
    intro c hc hk
    have hx := (List.mem_filter.mp hc).2
    simp only [decide_eq_true_eq, beq_iff_eq] at hx hk
    omega
  rw [h1, if_neg (by simp), Sparse.get_append]
  split
  · exact hc
  · rename_i hn
    have h2 : Sparse.get (0 : Byte) (Mem.cells a bs) (a + i) = 0 := by
      apply Sparse.get_of_forall_ne
      intro c hc hk
      apply hn
      rw [List.any_eq_true]
      exact ⟨c, hc, by simp [hk]⟩
    rw [Sparse.get_filter_out]
    · rw [← h2]; exact hc
    · intro c hk; simp [hk]; omega

/-- A write leaves every byte outside its run alone. -/
theorem Mem.get_write_other (m : Mem) (a : Nat) (bs : List Byte) (x : Nat) (h : x < a ∨ a + bs.length ≤ x) :
    (m.write a bs).get x = m.get x := by
  simp only [Mem.get_eq]
  unfold Mem.write
  have hcells : ∀ c ∈ Mem.cells a bs, c.1 ≠ x := by
    intro c hc
    have := Mem.cells_range a bs c hc
    omega
  rw [List.append_assoc, Sparse.get_append]
  rcases h with h | h
  · split
    · exact Sparse.get_filter _ _ m x (by intro c hc; simp [hc, h])
    · rename_i hn
      have hnone : ∀ c ∈ m, c.1 ≠ x := by
        intro c hc hk
        apply hn
        rw [List.any_eq_true]
        exact ⟨c, List.mem_filter.mpr ⟨hc, by simp [hk, h]⟩, by simp [hk]⟩
      rw [Sparse.get_of_forall_ne _ m x hnone]
      apply Sparse.get_of_forall_ne
      intro c hc
      rcases List.mem_append.mp hc with hc | hc
      · exact hcells c hc
      · exact hnone c (List.mem_filter.mp hc).1
  · have h1 : (m.filter (fun c => decide (c.1 < a))).any (fun c => c.1 == x) = false := by
      rw [List.any_eq_false]
      intro c hc hk
      have hx := (List.mem_filter.mp hc).2
      simp only [decide_eq_true_eq, beq_iff_eq] at hx hk
      omega
    have h2 : (Mem.cells a bs).any (fun c => c.1 == x) = false := by
      rw [List.any_eq_false]
      intro c hc hk
      exact hcells c hc (by simpa using hk)
    rw [h1, if_neg (by simp), Sparse.get_append, h2, if_neg (by simp)]
    exact Sparse.get_filter _ _ m x (by intro c hc; simp [hc, h])

end Sys2Proof.Machine
end

