-- ==== Sys2Proof/Laws/State.lean ====
section
/-! SUPPORT. What each update leaves of each part of the state: one lemma for each part, true by definition, so that no later proof unfolds
a record. -/

namespace Sys2Proof.Machine

/-! ### Keeping the parts a command does not touch -/

@[simp] theorem State.keep_hw (m : Touch) (s t : State) : (s.keep m t).hw = s.hw := rfl
@[simp] theorem State.keep_pending (m : Touch) (s t : State) : (s.keep m t).pending = s.pending := rfl
@[simp] theorem State.keep_fence (m : Touch) (s t : State) :
    (s.keep m t).fence = if m.unfence then t.fence else if m.fence then s.fence.join t.fence else s.fence := rfl
@[simp] theorem State.keep_ref (m : Touch) (s t : State) : (s.keep m t).ref = if m.ref then t.ref else s.ref := rfl
@[simp] theorem State.keep_time (m : Touch) (s t : State) : (s.keep m t).time = if m.time then t.time else s.time := rfl
@[simp] theorem State.keep_clk (m : Touch) (s t : State) : (s.keep m t).clk = if m.clk then t.clk else s.clk := rfl
@[simp] theorem State.keep_dev (m : Touch) (s t : State) : (s.keep m t).dev = if m.dev then t.dev else s.dev := rfl
@[simp] theorem State.keep_host (m : Touch) (s t : State) : (s.keep m t).host = if m.host then t.host else s.host := rfl
@[simp] theorem State.keep_mem (m : Touch) (s t : State) : (s.keep m t).mem = if m.mem then t.mem else s.mem := rfl
@[simp] theorem State.keep_otp (m : Touch) (s t : State) : (s.keep m t).otp = if m.otp then t.otp else s.otp := rfl
@[simp] theorem State.keep_place (m : Touch) (s t : State) : (s.keep m t).place = if m.place then t.place else s.place := rfl
@[simp] theorem State.keep_blocks (m : Touch) (s t : State) : (s.keep m t).blocks = if m.blocks then t.blocks else s.blocks := rfl
@[simp] theorem State.keep_hud (m : Touch) (s t : State) : (s.keep m t).hud = if m.hud then t.hud else s.hud := rfl
@[simp] theorem State.keep_hif (m : Touch) (s t : State) : (s.keep m t).hif = if m.hif then t.hif else s.hif := rfl
@[simp] theorem State.keep_sft (m : Touch) (s t : State) : (s.keep m t).sft = if m.sft then t.sft else s.sft := rfl
@[simp] theorem State.keep_sw (m : Touch) (s t : State) : (s.keep m t).sw = if m.sw then t.sw else s.sw := rfl
@[simp] theorem State.keep_pnt (m : Touch) (s t : State) : (s.keep m t).pnt = if m.pnt then t.pnt else s.pnt := rfl
@[simp] theorem State.keep_ports (m : Touch) (s t : State) : (s.keep m t).ports = if m.ports then t.ports else s.ports := rfl
@[simp] theorem State.keep_rly (m : Touch) (s t : State) : (s.keep m t).rly = if m.rly then t.rly else s.rly := rfl
@[simp] theorem State.keep_coll (m : Touch) (s t : State) : (s.keep m t).coll = if m.coll then t.coll else s.coll := rfl
@[simp] theorem State.keep_jnl (m : Touch) (s t : State) : (s.keep m t).jnl = if m.jnl then t.jnl else s.jnl := rfl
@[simp] theorem State.keep_sec (m : Touch) (s t : State) : (s.keep m t).sec = if m.sec then t.sec else s.sec := rfl
@[simp] theorem State.keep_prf (m : Touch) (s t : State) : (s.keep m t).prf = if m.prf then t.prf else s.prf := rfl
@[simp] theorem State.keep_sb (m : Touch) (s t : State) : (s.keep m t).sb = if m.sb then t.sb else s.sb := rfl
@[simp] theorem State.keep_regs (m : Touch) (s t : State) : (s.keep m t).regs = if m.regs then t.regs else s.regs := rfl
@[simp] theorem State.keep_out (m : Touch) (s t : State) : (s.keep m t).out = if m.out then t.out else s.out := rfl
@[simp] theorem State.keep_free (m : Touch) (s t : State) : (s.keep m t).free = if m.free then t.free else s.free := rfl

/-! ### Registers, counts and free values -/

@[simp] theorem State.setReg_hw (p : Page) (i off v : Nat) (s : State) : (s.setReg p i off v).hw = s.hw := rfl
@[simp] theorem State.setReg_ref (p : Page) (i off v : Nat) (s : State) : (s.setReg p i off v).ref = s.ref := rfl
@[simp] theorem State.setReg_time (p : Page) (i off v : Nat) (s : State) : (s.setReg p i off v).time = s.time := rfl
@[simp] theorem State.setReg_clk (p : Page) (i off v : Nat) (s : State) : (s.setReg p i off v).clk = s.clk := rfl
@[simp] theorem State.setReg_dev (p : Page) (i off v : Nat) (s : State) : (s.setReg p i off v).dev = s.dev := rfl
@[simp] theorem State.setReg_host (p : Page) (i off v : Nat) (s : State) : (s.setReg p i off v).host = s.host := rfl
@[simp] theorem State.setReg_mem (p : Page) (i off v : Nat) (s : State) : (s.setReg p i off v).mem = s.mem := rfl
@[simp] theorem State.setReg_fence (p : Page) (i off v : Nat) (s : State) : (s.setReg p i off v).fence = s.fence := rfl
@[simp] theorem State.setReg_otp (p : Page) (i off v : Nat) (s : State) : (s.setReg p i off v).otp = s.otp := rfl
@[simp] theorem State.setReg_place (p : Page) (i off v : Nat) (s : State) : (s.setReg p i off v).place = s.place := rfl
@[simp] theorem State.setReg_blocks (p : Page) (i off v : Nat) (s : State) : (s.setReg p i off v).blocks = s.blocks := rfl
@[simp] theorem State.setReg_hud (p : Page) (i off v : Nat) (s : State) : (s.setReg p i off v).hud = s.hud := rfl
@[simp] theorem State.setReg_hif (p : Page) (i off v : Nat) (s : State) : (s.setReg p i off v).hif = s.hif := rfl
@[simp] theorem State.setReg_sft (p : Page) (i off v : Nat) (s : State) : (s.setReg p i off v).sft = s.sft := rfl
@[simp] theorem State.setReg_sw (p : Page) (i off v : Nat) (s : State) : (s.setReg p i off v).sw = s.sw := rfl
@[simp] theorem State.setReg_pnt (p : Page) (i off v : Nat) (s : State) : (s.setReg p i off v).pnt = s.pnt := rfl
@[simp] theorem State.setReg_ports (p : Page) (i off v : Nat) (s : State) : (s.setReg p i off v).ports = s.ports := rfl
@[simp] theorem State.setReg_rly (p : Page) (i off v : Nat) (s : State) : (s.setReg p i off v).rly = s.rly := rfl
@[simp] theorem State.setReg_coll (p : Page) (i off v : Nat) (s : State) : (s.setReg p i off v).coll = s.coll := rfl
@[simp] theorem State.setReg_jnl (p : Page) (i off v : Nat) (s : State) : (s.setReg p i off v).jnl = s.jnl := rfl
@[simp] theorem State.setReg_sec (p : Page) (i off v : Nat) (s : State) : (s.setReg p i off v).sec = s.sec := rfl
@[simp] theorem State.setReg_prf (p : Page) (i off v : Nat) (s : State) : (s.setReg p i off v).prf = s.prf := rfl
@[simp] theorem State.setReg_sb (p : Page) (i off v : Nat) (s : State) : (s.setReg p i off v).sb = s.sb := rfl
@[simp] theorem State.setReg_out (p : Page) (i off v : Nat) (s : State) : (s.setReg p i off v).out = s.out := rfl
@[simp] theorem State.setReg_free (p : Page) (i off v : Nat) (s : State) : (s.setReg p i off v).free = s.free := rfl
@[simp] theorem State.setReg_pending (p : Page) (i off v : Nat) (s : State) : (s.setReg p i off v).pending = s.pending := rfl
@[simp] theorem State.evtAdd_hw (p : Page) (i k n : Nat) (s : State) : (s.evtAdd p i k n).hw = s.hw := rfl
@[simp] theorem State.evtAdd_ref (p : Page) (i k n : Nat) (s : State) : (s.evtAdd p i k n).ref = s.ref := rfl
@[simp] theorem State.evtAdd_time (p : Page) (i k n : Nat) (s : State) : (s.evtAdd p i k n).time = s.time := rfl
@[simp] theorem State.evtAdd_clk (p : Page) (i k n : Nat) (s : State) : (s.evtAdd p i k n).clk = s.clk := rfl
@[simp] theorem State.evtAdd_dev (p : Page) (i k n : Nat) (s : State) : (s.evtAdd p i k n).dev = s.dev := rfl
@[simp] theorem State.evtAdd_host (p : Page) (i k n : Nat) (s : State) : (s.evtAdd p i k n).host = s.host := rfl
@[simp] theorem State.evtAdd_mem (p : Page) (i k n : Nat) (s : State) : (s.evtAdd p i k n).mem = s.mem := rfl
@[simp] theorem State.evtAdd_fence (p : Page) (i k n : Nat) (s : State) : (s.evtAdd p i k n).fence = s.fence := rfl
@[simp] theorem State.evtAdd_otp (p : Page) (i k n : Nat) (s : State) : (s.evtAdd p i k n).otp = s.otp := rfl
@[simp] theorem State.evtAdd_place (p : Page) (i k n : Nat) (s : State) : (s.evtAdd p i k n).place = s.place := rfl
@[simp] theorem State.evtAdd_blocks (p : Page) (i k n : Nat) (s : State) : (s.evtAdd p i k n).blocks = s.blocks := rfl
@[simp] theorem State.evtAdd_hud (p : Page) (i k n : Nat) (s : State) : (s.evtAdd p i k n).hud = s.hud := rfl
@[simp] theorem State.evtAdd_hif (p : Page) (i k n : Nat) (s : State) : (s.evtAdd p i k n).hif = s.hif := rfl
@[simp] theorem State.evtAdd_sft (p : Page) (i k n : Nat) (s : State) : (s.evtAdd p i k n).sft = s.sft := rfl
@[simp] theorem State.evtAdd_sw (p : Page) (i k n : Nat) (s : State) : (s.evtAdd p i k n).sw = s.sw := rfl
@[simp] theorem State.evtAdd_pnt (p : Page) (i k n : Nat) (s : State) : (s.evtAdd p i k n).pnt = s.pnt := rfl
@[simp] theorem State.evtAdd_ports (p : Page) (i k n : Nat) (s : State) : (s.evtAdd p i k n).ports = s.ports := rfl
@[simp] theorem State.evtAdd_rly (p : Page) (i k n : Nat) (s : State) : (s.evtAdd p i k n).rly = s.rly := rfl
@[simp] theorem State.evtAdd_coll (p : Page) (i k n : Nat) (s : State) : (s.evtAdd p i k n).coll = s.coll := rfl
@[simp] theorem State.evtAdd_jnl (p : Page) (i k n : Nat) (s : State) : (s.evtAdd p i k n).jnl = s.jnl := rfl
@[simp] theorem State.evtAdd_sec (p : Page) (i k n : Nat) (s : State) : (s.evtAdd p i k n).sec = s.sec := rfl
@[simp] theorem State.evtAdd_prf (p : Page) (i k n : Nat) (s : State) : (s.evtAdd p i k n).prf = s.prf := rfl
@[simp] theorem State.evtAdd_sb (p : Page) (i k n : Nat) (s : State) : (s.evtAdd p i k n).sb = s.sb := rfl
@[simp] theorem State.evtAdd_out (p : Page) (i k n : Nat) (s : State) : (s.evtAdd p i k n).out = s.out := rfl
@[simp] theorem State.evtAdd_free (p : Page) (i k n : Nat) (s : State) : (s.evtAdd p i k n).free = s.free := rfl
@[simp] theorem State.evtAdd_pending (p : Page) (i k n : Nat) (s : State) : (s.evtAdd p i k n).pending = s.pending := rfl
@[simp] theorem State.sbAdd_hw (k n : Nat) (s : State) : (s.sbAdd k n).hw = s.hw := rfl
@[simp] theorem State.sbAdd_ref (k n : Nat) (s : State) : (s.sbAdd k n).ref = s.ref := rfl
@[simp] theorem State.sbAdd_time (k n : Nat) (s : State) : (s.sbAdd k n).time = s.time := rfl
@[simp] theorem State.sbAdd_clk (k n : Nat) (s : State) : (s.sbAdd k n).clk = s.clk := rfl
@[simp] theorem State.sbAdd_dev (k n : Nat) (s : State) : (s.sbAdd k n).dev = s.dev := rfl
@[simp] theorem State.sbAdd_host (k n : Nat) (s : State) : (s.sbAdd k n).host = s.host := rfl
@[simp] theorem State.sbAdd_mem (k n : Nat) (s : State) : (s.sbAdd k n).mem = s.mem := rfl
@[simp] theorem State.sbAdd_fence (k n : Nat) (s : State) : (s.sbAdd k n).fence = s.fence := rfl
@[simp] theorem State.sbAdd_otp (k n : Nat) (s : State) : (s.sbAdd k n).otp = s.otp := rfl
@[simp] theorem State.sbAdd_place (k n : Nat) (s : State) : (s.sbAdd k n).place = s.place := rfl
@[simp] theorem State.sbAdd_blocks (k n : Nat) (s : State) : (s.sbAdd k n).blocks = s.blocks := rfl
@[simp] theorem State.sbAdd_hud (k n : Nat) (s : State) : (s.sbAdd k n).hud = s.hud := rfl
@[simp] theorem State.sbAdd_hif (k n : Nat) (s : State) : (s.sbAdd k n).hif = s.hif := rfl
@[simp] theorem State.sbAdd_sft (k n : Nat) (s : State) : (s.sbAdd k n).sft = s.sft := rfl
@[simp] theorem State.sbAdd_sw (k n : Nat) (s : State) : (s.sbAdd k n).sw = s.sw := rfl
@[simp] theorem State.sbAdd_pnt (k n : Nat) (s : State) : (s.sbAdd k n).pnt = s.pnt := rfl
@[simp] theorem State.sbAdd_ports (k n : Nat) (s : State) : (s.sbAdd k n).ports = s.ports := rfl
@[simp] theorem State.sbAdd_rly (k n : Nat) (s : State) : (s.sbAdd k n).rly = s.rly := rfl
@[simp] theorem State.sbAdd_coll (k n : Nat) (s : State) : (s.sbAdd k n).coll = s.coll := rfl
@[simp] theorem State.sbAdd_jnl (k n : Nat) (s : State) : (s.sbAdd k n).jnl = s.jnl := rfl
@[simp] theorem State.sbAdd_sec (k n : Nat) (s : State) : (s.sbAdd k n).sec = s.sec := rfl
@[simp] theorem State.sbAdd_prf (k n : Nat) (s : State) : (s.sbAdd k n).prf = s.prf := rfl
@[simp] theorem State.sbAdd_regs (k n : Nat) (s : State) : (s.sbAdd k n).regs = s.regs := rfl
@[simp] theorem State.sbAdd_out (k n : Nat) (s : State) : (s.sbAdd k n).out = s.out := rfl
@[simp] theorem State.sbAdd_free (k n : Nat) (s : State) : (s.sbAdd k n).free = s.free := rfl
@[simp] theorem State.sbAdd_pending (k n : Nat) (s : State) : (s.sbAdd k n).pending = s.pending := rfl
@[simp] theorem State.useFree_hw (s : State) : (s.useFree).hw = s.hw := rfl
@[simp] theorem State.useFree_ref (s : State) : (s.useFree).ref = s.ref := rfl
@[simp] theorem State.useFree_time (s : State) : (s.useFree).time = s.time := rfl
@[simp] theorem State.useFree_clk (s : State) : (s.useFree).clk = s.clk := rfl
@[simp] theorem State.useFree_dev (s : State) : (s.useFree).dev = s.dev := rfl
@[simp] theorem State.useFree_host (s : State) : (s.useFree).host = s.host := rfl
@[simp] theorem State.useFree_mem (s : State) : (s.useFree).mem = s.mem := rfl
@[simp] theorem State.useFree_fence (s : State) : (s.useFree).fence = s.fence := rfl
@[simp] theorem State.useFree_otp (s : State) : (s.useFree).otp = s.otp := rfl
@[simp] theorem State.useFree_place (s : State) : (s.useFree).place = s.place := rfl
@[simp] theorem State.useFree_blocks (s : State) : (s.useFree).blocks = s.blocks := rfl
@[simp] theorem State.useFree_hud (s : State) : (s.useFree).hud = s.hud := rfl
@[simp] theorem State.useFree_hif (s : State) : (s.useFree).hif = s.hif := rfl
@[simp] theorem State.useFree_sft (s : State) : (s.useFree).sft = s.sft := rfl
@[simp] theorem State.useFree_sw (s : State) : (s.useFree).sw = s.sw := rfl
@[simp] theorem State.useFree_pnt (s : State) : (s.useFree).pnt = s.pnt := rfl
@[simp] theorem State.useFree_ports (s : State) : (s.useFree).ports = s.ports := rfl
@[simp] theorem State.useFree_rly (s : State) : (s.useFree).rly = s.rly := rfl
@[simp] theorem State.useFree_coll (s : State) : (s.useFree).coll = s.coll := rfl
@[simp] theorem State.useFree_jnl (s : State) : (s.useFree).jnl = s.jnl := rfl
@[simp] theorem State.useFree_sec (s : State) : (s.useFree).sec = s.sec := rfl
@[simp] theorem State.useFree_prf (s : State) : (s.useFree).prf = s.prf := rfl
@[simp] theorem State.useFree_sb (s : State) : (s.useFree).sb = s.sb := rfl
@[simp] theorem State.useFree_regs (s : State) : (s.useFree).regs = s.regs := rfl
@[simp] theorem State.useFree_out (s : State) : (s.useFree).out = s.out := rfl
@[simp] theorem State.useFree_pending (s : State) : (s.useFree).pending = s.pending := rfl

/-! ### Blocks, completions and host memory -/

@[simp] theorem State.setBlock_hw (b : Nat) (x : Block) (s : State) : (s.setBlock b x).hw = s.hw := rfl
@[simp] theorem State.setBlock_ref (b : Nat) (x : Block) (s : State) : (s.setBlock b x).ref = s.ref := rfl
@[simp] theorem State.setBlock_time (b : Nat) (x : Block) (s : State) : (s.setBlock b x).time = s.time := rfl
@[simp] theorem State.setBlock_clk (b : Nat) (x : Block) (s : State) : (s.setBlock b x).clk = s.clk := rfl
@[simp] theorem State.setBlock_dev (b : Nat) (x : Block) (s : State) : (s.setBlock b x).dev = s.dev := rfl
@[simp] theorem State.setBlock_host (b : Nat) (x : Block) (s : State) : (s.setBlock b x).host = s.host := rfl
@[simp] theorem State.setBlock_mem (b : Nat) (x : Block) (s : State) : (s.setBlock b x).mem = s.mem := rfl
@[simp] theorem State.setBlock_fence (b : Nat) (x : Block) (s : State) : (s.setBlock b x).fence = s.fence := rfl
@[simp] theorem State.setBlock_otp (b : Nat) (x : Block) (s : State) : (s.setBlock b x).otp = s.otp := rfl
@[simp] theorem State.setBlock_place (b : Nat) (x : Block) (s : State) : (s.setBlock b x).place = s.place := rfl
@[simp] theorem State.setBlock_hud (b : Nat) (x : Block) (s : State) : (s.setBlock b x).hud = s.hud := rfl
@[simp] theorem State.setBlock_hif (b : Nat) (x : Block) (s : State) : (s.setBlock b x).hif = s.hif := rfl
@[simp] theorem State.setBlock_sft (b : Nat) (x : Block) (s : State) : (s.setBlock b x).sft = s.sft := rfl
@[simp] theorem State.setBlock_sw (b : Nat) (x : Block) (s : State) : (s.setBlock b x).sw = s.sw := rfl
@[simp] theorem State.setBlock_pnt (b : Nat) (x : Block) (s : State) : (s.setBlock b x).pnt = s.pnt := rfl
@[simp] theorem State.setBlock_ports (b : Nat) (x : Block) (s : State) : (s.setBlock b x).ports = s.ports := rfl
@[simp] theorem State.setBlock_rly (b : Nat) (x : Block) (s : State) : (s.setBlock b x).rly = s.rly := rfl
@[simp] theorem State.setBlock_coll (b : Nat) (x : Block) (s : State) : (s.setBlock b x).coll = s.coll := rfl
@[simp] theorem State.setBlock_jnl (b : Nat) (x : Block) (s : State) : (s.setBlock b x).jnl = s.jnl := rfl
@[simp] theorem State.setBlock_sec (b : Nat) (x : Block) (s : State) : (s.setBlock b x).sec = s.sec := rfl
@[simp] theorem State.setBlock_prf (b : Nat) (x : Block) (s : State) : (s.setBlock b x).prf = s.prf := rfl
@[simp] theorem State.setBlock_sb (b : Nat) (x : Block) (s : State) : (s.setBlock b x).sb = s.sb := rfl
@[simp] theorem State.setBlock_regs (b : Nat) (x : Block) (s : State) : (s.setBlock b x).regs = s.regs := rfl
@[simp] theorem State.setBlock_out (b : Nat) (x : Block) (s : State) : (s.setBlock b x).out = s.out := rfl
@[simp] theorem State.setBlock_free (b : Nat) (x : Block) (s : State) : (s.setBlock b x).free = s.free := rfl
@[simp] theorem State.setBlock_pending (b : Nat) (x : Block) (s : State) : (s.setBlock b x).pending = s.pending := rfl
@[simp] theorem State.onBlock_hw (b : Nat) (f : Block → Block) (s : State) : (s.onBlock b f).hw = s.hw := rfl
@[simp] theorem State.onBlock_ref (b : Nat) (f : Block → Block) (s : State) : (s.onBlock b f).ref = s.ref := rfl
@[simp] theorem State.onBlock_time (b : Nat) (f : Block → Block) (s : State) : (s.onBlock b f).time = s.time := rfl
@[simp] theorem State.onBlock_clk (b : Nat) (f : Block → Block) (s : State) : (s.onBlock b f).clk = s.clk := rfl
@[simp] theorem State.onBlock_dev (b : Nat) (f : Block → Block) (s : State) : (s.onBlock b f).dev = s.dev := rfl
@[simp] theorem State.onBlock_host (b : Nat) (f : Block → Block) (s : State) : (s.onBlock b f).host = s.host := rfl
@[simp] theorem State.onBlock_mem (b : Nat) (f : Block → Block) (s : State) : (s.onBlock b f).mem = s.mem := rfl
@[simp] theorem State.onBlock_fence (b : Nat) (f : Block → Block) (s : State) : (s.onBlock b f).fence = s.fence := rfl
@[simp] theorem State.onBlock_otp (b : Nat) (f : Block → Block) (s : State) : (s.onBlock b f).otp = s.otp := rfl
@[simp] theorem State.onBlock_place (b : Nat) (f : Block → Block) (s : State) : (s.onBlock b f).place = s.place := rfl
@[simp] theorem State.onBlock_hud (b : Nat) (f : Block → Block) (s : State) : (s.onBlock b f).hud = s.hud := rfl
@[simp] theorem State.onBlock_hif (b : Nat) (f : Block → Block) (s : State) : (s.onBlock b f).hif = s.hif := rfl
@[simp] theorem State.onBlock_sft (b : Nat) (f : Block → Block) (s : State) : (s.onBlock b f).sft = s.sft := rfl
@[simp] theorem State.onBlock_sw (b : Nat) (f : Block → Block) (s : State) : (s.onBlock b f).sw = s.sw := rfl
@[simp] theorem State.onBlock_pnt (b : Nat) (f : Block → Block) (s : State) : (s.onBlock b f).pnt = s.pnt := rfl
@[simp] theorem State.onBlock_ports (b : Nat) (f : Block → Block) (s : State) : (s.onBlock b f).ports = s.ports := rfl
@[simp] theorem State.onBlock_rly (b : Nat) (f : Block → Block) (s : State) : (s.onBlock b f).rly = s.rly := rfl
@[simp] theorem State.onBlock_coll (b : Nat) (f : Block → Block) (s : State) : (s.onBlock b f).coll = s.coll := rfl
@[simp] theorem State.onBlock_jnl (b : Nat) (f : Block → Block) (s : State) : (s.onBlock b f).jnl = s.jnl := rfl
@[simp] theorem State.onBlock_sec (b : Nat) (f : Block → Block) (s : State) : (s.onBlock b f).sec = s.sec := rfl
@[simp] theorem State.onBlock_prf (b : Nat) (f : Block → Block) (s : State) : (s.onBlock b f).prf = s.prf := rfl
@[simp] theorem State.onBlock_sb (b : Nat) (f : Block → Block) (s : State) : (s.onBlock b f).sb = s.sb := rfl
@[simp] theorem State.onBlock_regs (b : Nat) (f : Block → Block) (s : State) : (s.onBlock b f).regs = s.regs := rfl
@[simp] theorem State.onBlock_out (b : Nat) (f : Block → Block) (s : State) : (s.onBlock b f).out = s.out := rfl
@[simp] theorem State.onBlock_free (b : Nat) (f : Block → Block) (s : State) : (s.onBlock b f).free = s.free := rfl
@[simp] theorem State.onBlock_pending (b : Nat) (f : Block → Block) (s : State) : (s.onBlock b f).pending = s.pending := rfl
@[simp] theorem State.finishIn_hw (q : Nat) (ts : List Nat) (c : Compl) (s : State) : (s.finishIn q ts c).hw = s.hw := by
  unfold State.finishIn; split <;> rfl
@[simp] theorem State.finishIn_ref (q : Nat) (ts : List Nat) (c : Compl) (s : State) : (s.finishIn q ts c).ref = s.ref := by
  unfold State.finishIn; split <;> rfl
@[simp] theorem State.finishIn_time (q : Nat) (ts : List Nat) (c : Compl) (s : State) : (s.finishIn q ts c).time = s.time := by
  unfold State.finishIn; split <;> rfl
@[simp] theorem State.finishIn_clk (q : Nat) (ts : List Nat) (c : Compl) (s : State) : (s.finishIn q ts c).clk = s.clk := by
  unfold State.finishIn; split <;> rfl
@[simp] theorem State.finishIn_dev (q : Nat) (ts : List Nat) (c : Compl) (s : State) : (s.finishIn q ts c).dev = s.dev := by
  unfold State.finishIn; split <;> rfl
@[simp] theorem State.finishIn_host (q : Nat) (ts : List Nat) (c : Compl) (s : State) : (s.finishIn q ts c).host = s.host := by
  unfold State.finishIn; split <;> rfl
@[simp] theorem State.finishIn_mem (q : Nat) (ts : List Nat) (c : Compl) (s : State) : (s.finishIn q ts c).mem = s.mem := by
  unfold State.finishIn; split <;> rfl
@[simp] theorem State.finishIn_fence (q : Nat) (ts : List Nat) (c : Compl) (s : State) : (s.finishIn q ts c).fence = s.fence := by
  unfold State.finishIn; split <;> rfl
@[simp] theorem State.finishIn_otp (q : Nat) (ts : List Nat) (c : Compl) (s : State) : (s.finishIn q ts c).otp = s.otp := by
  unfold State.finishIn; split <;> rfl
@[simp] theorem State.finishIn_place (q : Nat) (ts : List Nat) (c : Compl) (s : State) : (s.finishIn q ts c).place = s.place := by
  unfold State.finishIn; split <;> rfl
@[simp] theorem State.finishIn_blocks (q : Nat) (ts : List Nat) (c : Compl) (s : State) : (s.finishIn q ts c).blocks = s.blocks := by
  unfold State.finishIn; split <;> rfl
@[simp] theorem State.finishIn_hud (q : Nat) (ts : List Nat) (c : Compl) (s : State) : (s.finishIn q ts c).hud = s.hud := by
  unfold State.finishIn; split <;> rfl
@[simp] theorem State.finishIn_sft (q : Nat) (ts : List Nat) (c : Compl) (s : State) : (s.finishIn q ts c).sft = s.sft := by
  unfold State.finishIn; split <;> rfl
@[simp] theorem State.finishIn_sw (q : Nat) (ts : List Nat) (c : Compl) (s : State) : (s.finishIn q ts c).sw = s.sw := by
  unfold State.finishIn; split <;> rfl
@[simp] theorem State.finishIn_pnt (q : Nat) (ts : List Nat) (c : Compl) (s : State) : (s.finishIn q ts c).pnt = s.pnt := by
  unfold State.finishIn; split <;> rfl
@[simp] theorem State.finishIn_ports (q : Nat) (ts : List Nat) (c : Compl) (s : State) : (s.finishIn q ts c).ports = s.ports := by
  unfold State.finishIn; split <;> rfl
@[simp] theorem State.finishIn_rly (q : Nat) (ts : List Nat) (c : Compl) (s : State) : (s.finishIn q ts c).rly = s.rly := by
  unfold State.finishIn; split <;> rfl
@[simp] theorem State.finishIn_coll (q : Nat) (ts : List Nat) (c : Compl) (s : State) : (s.finishIn q ts c).coll = s.coll := by
  unfold State.finishIn; split <;> rfl
@[simp] theorem State.finishIn_jnl (q : Nat) (ts : List Nat) (c : Compl) (s : State) : (s.finishIn q ts c).jnl = s.jnl := by
  unfold State.finishIn; split <;> rfl
@[simp] theorem State.finishIn_sec (q : Nat) (ts : List Nat) (c : Compl) (s : State) : (s.finishIn q ts c).sec = s.sec := by
  unfold State.finishIn; split <;> rfl
@[simp] theorem State.finishIn_prf (q : Nat) (ts : List Nat) (c : Compl) (s : State) : (s.finishIn q ts c).prf = s.prf := by
  unfold State.finishIn; split <;> rfl
@[simp] theorem State.finishIn_sb (q : Nat) (ts : List Nat) (c : Compl) (s : State) : (s.finishIn q ts c).sb = s.sb := by
  unfold State.finishIn; split <;> rfl
@[simp] theorem State.finishIn_regs (q : Nat) (ts : List Nat) (c : Compl) (s : State) : (s.finishIn q ts c).regs = s.regs := by
  unfold State.finishIn; split <;> rfl
@[simp] theorem State.finishIn_out (q : Nat) (ts : List Nat) (c : Compl) (s : State) : (s.finishIn q ts c).out = s.out := by
  unfold State.finishIn; split <;> rfl
@[simp] theorem State.finishIn_free (q : Nat) (ts : List Nat) (c : Compl) (s : State) : (s.finishIn q ts c).free = s.free := by
  unfold State.finishIn; split <;> rfl
@[simp] theorem State.finishIn_pending (q : Nat) (ts : List Nat) (c : Compl) (s : State) : (s.finishIn q ts c).pending = s.pending := by
  unfold State.finishIn; split <;> rfl
@[simp] theorem State.hostWrite_hw (a : Nat) (bs : List Byte) (s : State) : (s.hostWrite a bs).hw = s.hw := rfl
@[simp] theorem State.hostWrite_ref (a : Nat) (bs : List Byte) (s : State) : (s.hostWrite a bs).ref = s.ref := rfl
@[simp] theorem State.hostWrite_time (a : Nat) (bs : List Byte) (s : State) : (s.hostWrite a bs).time = s.time := rfl
@[simp] theorem State.hostWrite_clk (a : Nat) (bs : List Byte) (s : State) : (s.hostWrite a bs).clk = s.clk := rfl
@[simp] theorem State.hostWrite_dev (a : Nat) (bs : List Byte) (s : State) : (s.hostWrite a bs).dev = s.dev := rfl
@[simp] theorem State.hostWrite_mem (a : Nat) (bs : List Byte) (s : State) : (s.hostWrite a bs).mem = s.mem := rfl
@[simp] theorem State.hostWrite_fence (a : Nat) (bs : List Byte) (s : State) : (s.hostWrite a bs).fence = s.fence := rfl
@[simp] theorem State.hostWrite_otp (a : Nat) (bs : List Byte) (s : State) : (s.hostWrite a bs).otp = s.otp := rfl
@[simp] theorem State.hostWrite_place (a : Nat) (bs : List Byte) (s : State) : (s.hostWrite a bs).place = s.place := rfl
@[simp] theorem State.hostWrite_blocks (a : Nat) (bs : List Byte) (s : State) : (s.hostWrite a bs).blocks = s.blocks := rfl
@[simp] theorem State.hostWrite_hud (a : Nat) (bs : List Byte) (s : State) : (s.hostWrite a bs).hud = s.hud := rfl
@[simp] theorem State.hostWrite_hif (a : Nat) (bs : List Byte) (s : State) : (s.hostWrite a bs).hif = s.hif := rfl
@[simp] theorem State.hostWrite_sft (a : Nat) (bs : List Byte) (s : State) : (s.hostWrite a bs).sft = s.sft := rfl
@[simp] theorem State.hostWrite_sw (a : Nat) (bs : List Byte) (s : State) : (s.hostWrite a bs).sw = s.sw := rfl
@[simp] theorem State.hostWrite_pnt (a : Nat) (bs : List Byte) (s : State) : (s.hostWrite a bs).pnt = s.pnt := rfl
@[simp] theorem State.hostWrite_ports (a : Nat) (bs : List Byte) (s : State) : (s.hostWrite a bs).ports = s.ports := rfl
@[simp] theorem State.hostWrite_rly (a : Nat) (bs : List Byte) (s : State) : (s.hostWrite a bs).rly = s.rly := rfl
@[simp] theorem State.hostWrite_coll (a : Nat) (bs : List Byte) (s : State) : (s.hostWrite a bs).coll = s.coll := rfl
@[simp] theorem State.hostWrite_jnl (a : Nat) (bs : List Byte) (s : State) : (s.hostWrite a bs).jnl = s.jnl := rfl
@[simp] theorem State.hostWrite_sec (a : Nat) (bs : List Byte) (s : State) : (s.hostWrite a bs).sec = s.sec := rfl
@[simp] theorem State.hostWrite_prf (a : Nat) (bs : List Byte) (s : State) : (s.hostWrite a bs).prf = s.prf := rfl
@[simp] theorem State.hostWrite_sb (a : Nat) (bs : List Byte) (s : State) : (s.hostWrite a bs).sb = s.sb := rfl
@[simp] theorem State.hostWrite_regs (a : Nat) (bs : List Byte) (s : State) : (s.hostWrite a bs).regs = s.regs := rfl
@[simp] theorem State.hostWrite_out (a : Nat) (bs : List Byte) (s : State) : (s.hostWrite a bs).out = s.out := rfl
@[simp] theorem State.hostWrite_free (a : Nat) (bs : List Byte) (s : State) : (s.hostWrite a bs).free = s.free := rfl
@[simp] theorem State.hostWrite_pending (a : Nat) (bs : List Byte) (s : State) : (s.hostWrite a bs).pending = s.pending := rfl

end Sys2Proof.Machine
end

