-- ==== Sys2Proof/Laws/Units.lean ====
section
/-! SUPPORT. What replacing one unit's state leaves of the rest: one lemma for each part, true by definition; and a unit just replaced reads
as it was given, while every other unit reads as before. -/

namespace Sys2Proof.Machine

/-! ### Stack -/

@[simp] theorem State.setStack_hw (n : Nat) (k : Stack) (s : State) : (s.setStack n k).hw = s.hw := rfl
@[simp] theorem State.setStack_ref (n : Nat) (k : Stack) (s : State) : (s.setStack n k).ref = s.ref := rfl
@[simp] theorem State.setStack_time (n : Nat) (k : Stack) (s : State) : (s.setStack n k).time = s.time := rfl
@[simp] theorem State.setStack_clk (n : Nat) (k : Stack) (s : State) : (s.setStack n k).clk = s.clk := rfl
@[simp] theorem State.setStack_dev (n : Nat) (k : Stack) (s : State) : (s.setStack n k).dev = s.dev := rfl
@[simp] theorem State.setStack_host (n : Nat) (k : Stack) (s : State) : (s.setStack n k).host = s.host := rfl
@[simp] theorem State.setStack_fence (n : Nat) (k : Stack) (s : State) : (s.setStack n k).fence = s.fence := rfl
@[simp] theorem State.setStack_otp (n : Nat) (k : Stack) (s : State) : (s.setStack n k).otp = s.otp := rfl
@[simp] theorem State.setStack_place (n : Nat) (k : Stack) (s : State) : (s.setStack n k).place = s.place := rfl
@[simp] theorem State.setStack_blocks (n : Nat) (k : Stack) (s : State) : (s.setStack n k).blocks = s.blocks := rfl
@[simp] theorem State.setStack_hud (n : Nat) (k : Stack) (s : State) : (s.setStack n k).hud = s.hud := rfl
@[simp] theorem State.setStack_hif (n : Nat) (k : Stack) (s : State) : (s.setStack n k).hif = s.hif := rfl
@[simp] theorem State.setStack_sft (n : Nat) (k : Stack) (s : State) : (s.setStack n k).sft = s.sft := rfl
@[simp] theorem State.setStack_sw (n : Nat) (k : Stack) (s : State) : (s.setStack n k).sw = s.sw := rfl
@[simp] theorem State.setStack_pnt (n : Nat) (k : Stack) (s : State) : (s.setStack n k).pnt = s.pnt := rfl
@[simp] theorem State.setStack_ports (n : Nat) (k : Stack) (s : State) : (s.setStack n k).ports = s.ports := rfl
@[simp] theorem State.setStack_rly (n : Nat) (k : Stack) (s : State) : (s.setStack n k).rly = s.rly := rfl
@[simp] theorem State.setStack_coll (n : Nat) (k : Stack) (s : State) : (s.setStack n k).coll = s.coll := rfl
@[simp] theorem State.setStack_jnl (n : Nat) (k : Stack) (s : State) : (s.setStack n k).jnl = s.jnl := rfl
@[simp] theorem State.setStack_sec (n : Nat) (k : Stack) (s : State) : (s.setStack n k).sec = s.sec := rfl
@[simp] theorem State.setStack_prf (n : Nat) (k : Stack) (s : State) : (s.setStack n k).prf = s.prf := rfl
@[simp] theorem State.setStack_sb (n : Nat) (k : Stack) (s : State) : (s.setStack n k).sb = s.sb := rfl
@[simp] theorem State.setStack_regs (n : Nat) (k : Stack) (s : State) : (s.setStack n k).regs = s.regs := rfl
@[simp] theorem State.setStack_out (n : Nat) (k : Stack) (s : State) : (s.setStack n k).out = s.out := rfl
@[simp] theorem State.setStack_free (n : Nat) (k : Stack) (s : State) : (s.setStack n k).free = s.free := rfl
@[simp] theorem State.setStack_pending (n : Nat) (k : Stack) (s : State) : (s.setStack n k).pending = s.pending := rfl
@[simp] theorem State.stack_setStack (n : Nat) (k : Stack) (s : State) : (s.setStack n k).stack n = k := by
  simp [State.stack, State.setStack]
theorem State.stack_setStack_other (n y : Nat) (k : Stack) (s : State) (h : y ≠ n) : (s.setStack n k).stack y = s.stack y := by
  simp [State.stack, State.setStack, Sparse.get_set_other _ _ _ _ _ h]

/-! ### Port -/

@[simp] theorem State.setPort_hw (n : Nat) (x : Port) (s : State) : (s.setPort n x).hw = s.hw := rfl
@[simp] theorem State.setPort_ref (n : Nat) (x : Port) (s : State) : (s.setPort n x).ref = s.ref := rfl
@[simp] theorem State.setPort_time (n : Nat) (x : Port) (s : State) : (s.setPort n x).time = s.time := rfl
@[simp] theorem State.setPort_clk (n : Nat) (x : Port) (s : State) : (s.setPort n x).clk = s.clk := rfl
@[simp] theorem State.setPort_dev (n : Nat) (x : Port) (s : State) : (s.setPort n x).dev = s.dev := rfl
@[simp] theorem State.setPort_host (n : Nat) (x : Port) (s : State) : (s.setPort n x).host = s.host := rfl
@[simp] theorem State.setPort_mem (n : Nat) (x : Port) (s : State) : (s.setPort n x).mem = s.mem := rfl
@[simp] theorem State.setPort_fence (n : Nat) (x : Port) (s : State) : (s.setPort n x).fence = s.fence := rfl
@[simp] theorem State.setPort_otp (n : Nat) (x : Port) (s : State) : (s.setPort n x).otp = s.otp := rfl
@[simp] theorem State.setPort_place (n : Nat) (x : Port) (s : State) : (s.setPort n x).place = s.place := rfl
@[simp] theorem State.setPort_blocks (n : Nat) (x : Port) (s : State) : (s.setPort n x).blocks = s.blocks := rfl
@[simp] theorem State.setPort_hud (n : Nat) (x : Port) (s : State) : (s.setPort n x).hud = s.hud := rfl
@[simp] theorem State.setPort_hif (n : Nat) (x : Port) (s : State) : (s.setPort n x).hif = s.hif := rfl
@[simp] theorem State.setPort_sft (n : Nat) (x : Port) (s : State) : (s.setPort n x).sft = s.sft := rfl
@[simp] theorem State.setPort_sw (n : Nat) (x : Port) (s : State) : (s.setPort n x).sw = s.sw := rfl
@[simp] theorem State.setPort_pnt (n : Nat) (x : Port) (s : State) : (s.setPort n x).pnt = s.pnt := rfl
@[simp] theorem State.setPort_rly (n : Nat) (x : Port) (s : State) : (s.setPort n x).rly = s.rly := rfl
@[simp] theorem State.setPort_coll (n : Nat) (x : Port) (s : State) : (s.setPort n x).coll = s.coll := rfl
@[simp] theorem State.setPort_jnl (n : Nat) (x : Port) (s : State) : (s.setPort n x).jnl = s.jnl := rfl
@[simp] theorem State.setPort_sec (n : Nat) (x : Port) (s : State) : (s.setPort n x).sec = s.sec := rfl
@[simp] theorem State.setPort_prf (n : Nat) (x : Port) (s : State) : (s.setPort n x).prf = s.prf := rfl
@[simp] theorem State.setPort_sb (n : Nat) (x : Port) (s : State) : (s.setPort n x).sb = s.sb := rfl
@[simp] theorem State.setPort_regs (n : Nat) (x : Port) (s : State) : (s.setPort n x).regs = s.regs := rfl
@[simp] theorem State.setPort_out (n : Nat) (x : Port) (s : State) : (s.setPort n x).out = s.out := rfl
@[simp] theorem State.setPort_free (n : Nat) (x : Port) (s : State) : (s.setPort n x).free = s.free := rfl
@[simp] theorem State.setPort_pending (n : Nat) (x : Port) (s : State) : (s.setPort n x).pending = s.pending := rfl
@[simp] theorem State.port_setPort (n : Nat) (x : Port) (s : State) : (s.setPort n x).port n = x := by
  simp [State.port, State.setPort]
theorem State.port_setPort_other (n y : Nat) (x : Port) (s : State) (h : y ≠ n) : (s.setPort n x).port y = s.port y := by
  simp [State.port, State.setPort, Sparse.get_set_other _ _ _ _ _ h]

/-! ### Link -/

@[simp] theorem State.setLink_hw (n : Nat) (x : Link) (s : State) : (s.setLink n x).hw = s.hw := rfl
@[simp] theorem State.setLink_ref (n : Nat) (x : Link) (s : State) : (s.setLink n x).ref = s.ref := rfl
@[simp] theorem State.setLink_time (n : Nat) (x : Link) (s : State) : (s.setLink n x).time = s.time := rfl
@[simp] theorem State.setLink_clk (n : Nat) (x : Link) (s : State) : (s.setLink n x).clk = s.clk := rfl
@[simp] theorem State.setLink_dev (n : Nat) (x : Link) (s : State) : (s.setLink n x).dev = s.dev := rfl
@[simp] theorem State.setLink_host (n : Nat) (x : Link) (s : State) : (s.setLink n x).host = s.host := rfl
@[simp] theorem State.setLink_mem (n : Nat) (x : Link) (s : State) : (s.setLink n x).mem = s.mem := rfl
@[simp] theorem State.setLink_fence (n : Nat) (x : Link) (s : State) : (s.setLink n x).fence = s.fence := rfl
@[simp] theorem State.setLink_otp (n : Nat) (x : Link) (s : State) : (s.setLink n x).otp = s.otp := rfl
@[simp] theorem State.setLink_place (n : Nat) (x : Link) (s : State) : (s.setLink n x).place = s.place := rfl
@[simp] theorem State.setLink_blocks (n : Nat) (x : Link) (s : State) : (s.setLink n x).blocks = s.blocks := rfl
@[simp] theorem State.setLink_hud (n : Nat) (x : Link) (s : State) : (s.setLink n x).hud = s.hud := rfl
@[simp] theorem State.setLink_hif (n : Nat) (x : Link) (s : State) : (s.setLink n x).hif = s.hif := rfl
@[simp] theorem State.setLink_sft (n : Nat) (x : Link) (s : State) : (s.setLink n x).sft = s.sft := rfl
@[simp] theorem State.setLink_sw (n : Nat) (x : Link) (s : State) : (s.setLink n x).sw = s.sw := rfl
@[simp] theorem State.setLink_pnt (n : Nat) (x : Link) (s : State) : (s.setLink n x).pnt = s.pnt := rfl
@[simp] theorem State.setLink_ports (n : Nat) (x : Link) (s : State) : (s.setLink n x).ports = s.ports := rfl
@[simp] theorem State.setLink_coll (n : Nat) (x : Link) (s : State) : (s.setLink n x).coll = s.coll := rfl
@[simp] theorem State.setLink_jnl (n : Nat) (x : Link) (s : State) : (s.setLink n x).jnl = s.jnl := rfl
@[simp] theorem State.setLink_sec (n : Nat) (x : Link) (s : State) : (s.setLink n x).sec = s.sec := rfl
@[simp] theorem State.setLink_prf (n : Nat) (x : Link) (s : State) : (s.setLink n x).prf = s.prf := rfl
@[simp] theorem State.setLink_sb (n : Nat) (x : Link) (s : State) : (s.setLink n x).sb = s.sb := rfl
@[simp] theorem State.setLink_regs (n : Nat) (x : Link) (s : State) : (s.setLink n x).regs = s.regs := rfl
@[simp] theorem State.setLink_out (n : Nat) (x : Link) (s : State) : (s.setLink n x).out = s.out := rfl
@[simp] theorem State.setLink_free (n : Nat) (x : Link) (s : State) : (s.setLink n x).free = s.free := rfl
@[simp] theorem State.setLink_pending (n : Nat) (x : Link) (s : State) : (s.setLink n x).pending = s.pending := rfl
@[simp] theorem State.link_setLink (n : Nat) (x : Link) (s : State) : (s.setLink n x).link n = x := by
  simp [State.link, State.setLink]
theorem State.link_setLink_other (n y : Nat) (x : Link) (s : State) (h : y ≠ n) : (s.setLink n x).link y = s.link y := by
  simp [State.link, State.setLink, Sparse.get_set_other _ _ _ _ _ h]

/-! ### Slot -/

@[simp] theorem State.setSlot_hw (j : Nat) (x : Slot) (s : State) : (s.setSlot j x).hw = s.hw := rfl
@[simp] theorem State.setSlot_ref (j : Nat) (x : Slot) (s : State) : (s.setSlot j x).ref = s.ref := rfl
@[simp] theorem State.setSlot_time (j : Nat) (x : Slot) (s : State) : (s.setSlot j x).time = s.time := rfl
@[simp] theorem State.setSlot_clk (j : Nat) (x : Slot) (s : State) : (s.setSlot j x).clk = s.clk := rfl
@[simp] theorem State.setSlot_dev (j : Nat) (x : Slot) (s : State) : (s.setSlot j x).dev = s.dev := rfl
@[simp] theorem State.setSlot_host (j : Nat) (x : Slot) (s : State) : (s.setSlot j x).host = s.host := rfl
@[simp] theorem State.setSlot_mem (j : Nat) (x : Slot) (s : State) : (s.setSlot j x).mem = s.mem := rfl
@[simp] theorem State.setSlot_fence (j : Nat) (x : Slot) (s : State) : (s.setSlot j x).fence = s.fence := rfl
@[simp] theorem State.setSlot_otp (j : Nat) (x : Slot) (s : State) : (s.setSlot j x).otp = s.otp := rfl
@[simp] theorem State.setSlot_place (j : Nat) (x : Slot) (s : State) : (s.setSlot j x).place = s.place := rfl
@[simp] theorem State.setSlot_blocks (j : Nat) (x : Slot) (s : State) : (s.setSlot j x).blocks = s.blocks := rfl
@[simp] theorem State.setSlot_hud (j : Nat) (x : Slot) (s : State) : (s.setSlot j x).hud = s.hud := rfl
@[simp] theorem State.setSlot_hif (j : Nat) (x : Slot) (s : State) : (s.setSlot j x).hif = s.hif := rfl
@[simp] theorem State.setSlot_sft (j : Nat) (x : Slot) (s : State) : (s.setSlot j x).sft = s.sft := rfl
@[simp] theorem State.setSlot_sw (j : Nat) (x : Slot) (s : State) : (s.setSlot j x).sw = s.sw := rfl
@[simp] theorem State.setSlot_pnt (j : Nat) (x : Slot) (s : State) : (s.setSlot j x).pnt = s.pnt := rfl
@[simp] theorem State.setSlot_ports (j : Nat) (x : Slot) (s : State) : (s.setSlot j x).ports = s.ports := rfl
@[simp] theorem State.setSlot_rly (j : Nat) (x : Slot) (s : State) : (s.setSlot j x).rly = s.rly := rfl
@[simp] theorem State.setSlot_jnl (j : Nat) (x : Slot) (s : State) : (s.setSlot j x).jnl = s.jnl := rfl
@[simp] theorem State.setSlot_sec (j : Nat) (x : Slot) (s : State) : (s.setSlot j x).sec = s.sec := rfl
@[simp] theorem State.setSlot_prf (j : Nat) (x : Slot) (s : State) : (s.setSlot j x).prf = s.prf := rfl
@[simp] theorem State.setSlot_sb (j : Nat) (x : Slot) (s : State) : (s.setSlot j x).sb = s.sb := rfl
@[simp] theorem State.setSlot_regs (j : Nat) (x : Slot) (s : State) : (s.setSlot j x).regs = s.regs := rfl
@[simp] theorem State.setSlot_out (j : Nat) (x : Slot) (s : State) : (s.setSlot j x).out = s.out := rfl
@[simp] theorem State.setSlot_free (j : Nat) (x : Slot) (s : State) : (s.setSlot j x).free = s.free := rfl
@[simp] theorem State.setSlot_pending (j : Nat) (x : Slot) (s : State) : (s.setSlot j x).pending = s.pending := rfl
@[simp] theorem State.slot_setSlot (j : Nat) (x : Slot) (s : State) : (s.setSlot j x).slot j = x := by
  simp [State.slot, State.setSlot]
theorem State.slot_setSlot_other (j y : Nat) (x : Slot) (s : State) (h : y ≠ j) : (s.setSlot j x).slot y = s.slot y := by
  simp [State.slot, State.setSlot, Sparse.get_set_other _ _ _ _ _ h]

/-! ### Mux -/

@[simp] theorem State.setMux_hw (m : Nat) (x : Mux) (s : State) : (s.setMux m x).hw = s.hw := rfl
@[simp] theorem State.setMux_ref (m : Nat) (x : Mux) (s : State) : (s.setMux m x).ref = s.ref := rfl
@[simp] theorem State.setMux_time (m : Nat) (x : Mux) (s : State) : (s.setMux m x).time = s.time := rfl
@[simp] theorem State.setMux_dev (m : Nat) (x : Mux) (s : State) : (s.setMux m x).dev = s.dev := rfl
@[simp] theorem State.setMux_host (m : Nat) (x : Mux) (s : State) : (s.setMux m x).host = s.host := rfl
@[simp] theorem State.setMux_mem (m : Nat) (x : Mux) (s : State) : (s.setMux m x).mem = s.mem := rfl
@[simp] theorem State.setMux_fence (m : Nat) (x : Mux) (s : State) : (s.setMux m x).fence = s.fence := rfl
@[simp] theorem State.setMux_otp (m : Nat) (x : Mux) (s : State) : (s.setMux m x).otp = s.otp := rfl
@[simp] theorem State.setMux_place (m : Nat) (x : Mux) (s : State) : (s.setMux m x).place = s.place := rfl
@[simp] theorem State.setMux_blocks (m : Nat) (x : Mux) (s : State) : (s.setMux m x).blocks = s.blocks := rfl
@[simp] theorem State.setMux_hud (m : Nat) (x : Mux) (s : State) : (s.setMux m x).hud = s.hud := rfl
@[simp] theorem State.setMux_hif (m : Nat) (x : Mux) (s : State) : (s.setMux m x).hif = s.hif := rfl
@[simp] theorem State.setMux_sft (m : Nat) (x : Mux) (s : State) : (s.setMux m x).sft = s.sft := rfl
@[simp] theorem State.setMux_sw (m : Nat) (x : Mux) (s : State) : (s.setMux m x).sw = s.sw := rfl
@[simp] theorem State.setMux_pnt (m : Nat) (x : Mux) (s : State) : (s.setMux m x).pnt = s.pnt := rfl
@[simp] theorem State.setMux_ports (m : Nat) (x : Mux) (s : State) : (s.setMux m x).ports = s.ports := rfl
@[simp] theorem State.setMux_rly (m : Nat) (x : Mux) (s : State) : (s.setMux m x).rly = s.rly := rfl
@[simp] theorem State.setMux_coll (m : Nat) (x : Mux) (s : State) : (s.setMux m x).coll = s.coll := rfl
@[simp] theorem State.setMux_jnl (m : Nat) (x : Mux) (s : State) : (s.setMux m x).jnl = s.jnl := rfl
@[simp] theorem State.setMux_sec (m : Nat) (x : Mux) (s : State) : (s.setMux m x).sec = s.sec := rfl
@[simp] theorem State.setMux_prf (m : Nat) (x : Mux) (s : State) : (s.setMux m x).prf = s.prf := rfl
@[simp] theorem State.setMux_sb (m : Nat) (x : Mux) (s : State) : (s.setMux m x).sb = s.sb := rfl
@[simp] theorem State.setMux_regs (m : Nat) (x : Mux) (s : State) : (s.setMux m x).regs = s.regs := rfl
@[simp] theorem State.setMux_out (m : Nat) (x : Mux) (s : State) : (s.setMux m x).out = s.out := rfl
@[simp] theorem State.setMux_free (m : Nat) (x : Mux) (s : State) : (s.setMux m x).free = s.free := rfl
@[simp] theorem State.setMux_pending (m : Nat) (x : Mux) (s : State) : (s.setMux m x).pending = s.pending := rfl
@[simp] theorem State.mux_setMux (m : Nat) (x : Mux) (s : State) : (s.setMux m x).mux m = x := by
  simp [State.mux, State.setMux]
theorem State.mux_setMux_other (m y : Nat) (x : Mux) (s : State) (h : y ≠ m) : (s.setMux m x).mux y = s.mux y := by
  simp [State.mux, State.setMux, Sparse.get_set_other _ _ _ _ _ h]

/-! ### Pll -/

@[simp] theorem State.setPll_hw (n : Nat) (x : Pll) (s : State) : (s.setPll n x).hw = s.hw := rfl
@[simp] theorem State.setPll_ref (n : Nat) (x : Pll) (s : State) : (s.setPll n x).ref = s.ref := rfl
@[simp] theorem State.setPll_time (n : Nat) (x : Pll) (s : State) : (s.setPll n x).time = s.time := rfl
@[simp] theorem State.setPll_dev (n : Nat) (x : Pll) (s : State) : (s.setPll n x).dev = s.dev := rfl
@[simp] theorem State.setPll_host (n : Nat) (x : Pll) (s : State) : (s.setPll n x).host = s.host := rfl
@[simp] theorem State.setPll_mem (n : Nat) (x : Pll) (s : State) : (s.setPll n x).mem = s.mem := rfl
@[simp] theorem State.setPll_fence (n : Nat) (x : Pll) (s : State) : (s.setPll n x).fence = s.fence := rfl
@[simp] theorem State.setPll_otp (n : Nat) (x : Pll) (s : State) : (s.setPll n x).otp = s.otp := rfl
@[simp] theorem State.setPll_place (n : Nat) (x : Pll) (s : State) : (s.setPll n x).place = s.place := rfl
@[simp] theorem State.setPll_blocks (n : Nat) (x : Pll) (s : State) : (s.setPll n x).blocks = s.blocks := rfl
@[simp] theorem State.setPll_hud (n : Nat) (x : Pll) (s : State) : (s.setPll n x).hud = s.hud := rfl
@[simp] theorem State.setPll_hif (n : Nat) (x : Pll) (s : State) : (s.setPll n x).hif = s.hif := rfl
@[simp] theorem State.setPll_sft (n : Nat) (x : Pll) (s : State) : (s.setPll n x).sft = s.sft := rfl
@[simp] theorem State.setPll_sw (n : Nat) (x : Pll) (s : State) : (s.setPll n x).sw = s.sw := rfl
@[simp] theorem State.setPll_pnt (n : Nat) (x : Pll) (s : State) : (s.setPll n x).pnt = s.pnt := rfl
@[simp] theorem State.setPll_ports (n : Nat) (x : Pll) (s : State) : (s.setPll n x).ports = s.ports := rfl
@[simp] theorem State.setPll_rly (n : Nat) (x : Pll) (s : State) : (s.setPll n x).rly = s.rly := rfl
@[simp] theorem State.setPll_coll (n : Nat) (x : Pll) (s : State) : (s.setPll n x).coll = s.coll := rfl
@[simp] theorem State.setPll_jnl (n : Nat) (x : Pll) (s : State) : (s.setPll n x).jnl = s.jnl := rfl
@[simp] theorem State.setPll_sec (n : Nat) (x : Pll) (s : State) : (s.setPll n x).sec = s.sec := rfl
@[simp] theorem State.setPll_prf (n : Nat) (x : Pll) (s : State) : (s.setPll n x).prf = s.prf := rfl
@[simp] theorem State.setPll_sb (n : Nat) (x : Pll) (s : State) : (s.setPll n x).sb = s.sb := rfl
@[simp] theorem State.setPll_regs (n : Nat) (x : Pll) (s : State) : (s.setPll n x).regs = s.regs := rfl
@[simp] theorem State.setPll_out (n : Nat) (x : Pll) (s : State) : (s.setPll n x).out = s.out := rfl
@[simp] theorem State.setPll_free (n : Nat) (x : Pll) (s : State) : (s.setPll n x).free = s.free := rfl
@[simp] theorem State.setPll_pending (n : Nat) (x : Pll) (s : State) : (s.setPll n x).pending = s.pending := rfl
@[simp] theorem State.pll_setPll (n : Nat) (x : Pll) (s : State) : (s.setPll n x).pll n = x := by
  simp [State.pll, State.setPll]
theorem State.pll_setPll_other (n y : Nat) (x : Pll) (s : State) (h : y ≠ n) : (s.setPll n x).pll y = s.pll y := by
  simp [State.pll, State.setPll, Sparse.get_set_other _ _ _ _ _ h]

/-! ### Sifter -/

@[simp] theorem State.setSifter_hw (n : Nat) (x : Sifter) (s : State) : (s.setSifter n x).hw = s.hw := rfl
@[simp] theorem State.setSifter_ref (n : Nat) (x : Sifter) (s : State) : (s.setSifter n x).ref = s.ref := rfl
@[simp] theorem State.setSifter_time (n : Nat) (x : Sifter) (s : State) : (s.setSifter n x).time = s.time := rfl
@[simp] theorem State.setSifter_clk (n : Nat) (x : Sifter) (s : State) : (s.setSifter n x).clk = s.clk := rfl
@[simp] theorem State.setSifter_dev (n : Nat) (x : Sifter) (s : State) : (s.setSifter n x).dev = s.dev := rfl
@[simp] theorem State.setSifter_host (n : Nat) (x : Sifter) (s : State) : (s.setSifter n x).host = s.host := rfl
@[simp] theorem State.setSifter_mem (n : Nat) (x : Sifter) (s : State) : (s.setSifter n x).mem = s.mem := rfl
@[simp] theorem State.setSifter_fence (n : Nat) (x : Sifter) (s : State) : (s.setSifter n x).fence = s.fence := rfl
@[simp] theorem State.setSifter_otp (n : Nat) (x : Sifter) (s : State) : (s.setSifter n x).otp = s.otp := rfl
@[simp] theorem State.setSifter_place (n : Nat) (x : Sifter) (s : State) : (s.setSifter n x).place = s.place := rfl
@[simp] theorem State.setSifter_blocks (n : Nat) (x : Sifter) (s : State) : (s.setSifter n x).blocks = s.blocks := rfl
@[simp] theorem State.setSifter_hud (n : Nat) (x : Sifter) (s : State) : (s.setSifter n x).hud = s.hud := rfl
@[simp] theorem State.setSifter_hif (n : Nat) (x : Sifter) (s : State) : (s.setSifter n x).hif = s.hif := rfl
@[simp] theorem State.setSifter_sw (n : Nat) (x : Sifter) (s : State) : (s.setSifter n x).sw = s.sw := rfl
@[simp] theorem State.setSifter_pnt (n : Nat) (x : Sifter) (s : State) : (s.setSifter n x).pnt = s.pnt := rfl
@[simp] theorem State.setSifter_ports (n : Nat) (x : Sifter) (s : State) : (s.setSifter n x).ports = s.ports := rfl
@[simp] theorem State.setSifter_rly (n : Nat) (x : Sifter) (s : State) : (s.setSifter n x).rly = s.rly := rfl
@[simp] theorem State.setSifter_coll (n : Nat) (x : Sifter) (s : State) : (s.setSifter n x).coll = s.coll := rfl
@[simp] theorem State.setSifter_jnl (n : Nat) (x : Sifter) (s : State) : (s.setSifter n x).jnl = s.jnl := rfl
@[simp] theorem State.setSifter_sec (n : Nat) (x : Sifter) (s : State) : (s.setSifter n x).sec = s.sec := rfl
@[simp] theorem State.setSifter_prf (n : Nat) (x : Sifter) (s : State) : (s.setSifter n x).prf = s.prf := rfl
@[simp] theorem State.setSifter_sb (n : Nat) (x : Sifter) (s : State) : (s.setSifter n x).sb = s.sb := rfl
@[simp] theorem State.setSifter_regs (n : Nat) (x : Sifter) (s : State) : (s.setSifter n x).regs = s.regs := rfl
@[simp] theorem State.setSifter_out (n : Nat) (x : Sifter) (s : State) : (s.setSifter n x).out = s.out := rfl
@[simp] theorem State.setSifter_free (n : Nat) (x : Sifter) (s : State) : (s.setSifter n x).free = s.free := rfl
@[simp] theorem State.setSifter_pending (n : Nat) (x : Sifter) (s : State) : (s.setSifter n x).pending = s.pending := rfl
@[simp] theorem State.sifter_setSifter (n : Nat) (x : Sifter) (s : State) : (s.setSifter n x).sifter n = x := by
  simp [State.sifter, State.setSifter]
theorem State.sifter_setSifter_other (n y : Nat) (x : Sifter) (s : State) (h : y ≠ n) : (s.setSifter n x).sifter y = s.sifter y := by
  simp [State.sifter, State.setSifter, Sparse.get_set_other _ _ _ _ _ h]

/-! ### Ctx -/

@[simp] theorem State.setCtx_hw (c : Nat) (x : Ctx) (s : State) : (s.setCtx c x).hw = s.hw := rfl
@[simp] theorem State.setCtx_ref (c : Nat) (x : Ctx) (s : State) : (s.setCtx c x).ref = s.ref := rfl
@[simp] theorem State.setCtx_time (c : Nat) (x : Ctx) (s : State) : (s.setCtx c x).time = s.time := rfl
@[simp] theorem State.setCtx_clk (c : Nat) (x : Ctx) (s : State) : (s.setCtx c x).clk = s.clk := rfl
@[simp] theorem State.setCtx_dev (c : Nat) (x : Ctx) (s : State) : (s.setCtx c x).dev = s.dev := rfl
@[simp] theorem State.setCtx_host (c : Nat) (x : Ctx) (s : State) : (s.setCtx c x).host = s.host := rfl
@[simp] theorem State.setCtx_mem (c : Nat) (x : Ctx) (s : State) : (s.setCtx c x).mem = s.mem := rfl
@[simp] theorem State.setCtx_fence (c : Nat) (x : Ctx) (s : State) : (s.setCtx c x).fence = s.fence := rfl
@[simp] theorem State.setCtx_otp (c : Nat) (x : Ctx) (s : State) : (s.setCtx c x).otp = s.otp := rfl
@[simp] theorem State.setCtx_place (c : Nat) (x : Ctx) (s : State) : (s.setCtx c x).place = s.place := rfl
@[simp] theorem State.setCtx_blocks (c : Nat) (x : Ctx) (s : State) : (s.setCtx c x).blocks = s.blocks := rfl
@[simp] theorem State.setCtx_hud (c : Nat) (x : Ctx) (s : State) : (s.setCtx c x).hud = s.hud := rfl
@[simp] theorem State.setCtx_hif (c : Nat) (x : Ctx) (s : State) : (s.setCtx c x).hif = s.hif := rfl
@[simp] theorem State.setCtx_sw (c : Nat) (x : Ctx) (s : State) : (s.setCtx c x).sw = s.sw := rfl
@[simp] theorem State.setCtx_pnt (c : Nat) (x : Ctx) (s : State) : (s.setCtx c x).pnt = s.pnt := rfl
@[simp] theorem State.setCtx_ports (c : Nat) (x : Ctx) (s : State) : (s.setCtx c x).ports = s.ports := rfl
@[simp] theorem State.setCtx_rly (c : Nat) (x : Ctx) (s : State) : (s.setCtx c x).rly = s.rly := rfl
@[simp] theorem State.setCtx_coll (c : Nat) (x : Ctx) (s : State) : (s.setCtx c x).coll = s.coll := rfl
@[simp] theorem State.setCtx_jnl (c : Nat) (x : Ctx) (s : State) : (s.setCtx c x).jnl = s.jnl := rfl
@[simp] theorem State.setCtx_sec (c : Nat) (x : Ctx) (s : State) : (s.setCtx c x).sec = s.sec := rfl
@[simp] theorem State.setCtx_prf (c : Nat) (x : Ctx) (s : State) : (s.setCtx c x).prf = s.prf := rfl
@[simp] theorem State.setCtx_sb (c : Nat) (x : Ctx) (s : State) : (s.setCtx c x).sb = s.sb := rfl
@[simp] theorem State.setCtx_regs (c : Nat) (x : Ctx) (s : State) : (s.setCtx c x).regs = s.regs := rfl
@[simp] theorem State.setCtx_out (c : Nat) (x : Ctx) (s : State) : (s.setCtx c x).out = s.out := rfl
@[simp] theorem State.setCtx_free (c : Nat) (x : Ctx) (s : State) : (s.setCtx c x).free = s.free := rfl
@[simp] theorem State.setCtx_pending (c : Nat) (x : Ctx) (s : State) : (s.setCtx c x).pending = s.pending := rfl
@[simp] theorem State.ctx_setCtx (c : Nat) (x : Ctx) (s : State) : (s.setCtx c x).ctx c = x := by
  simp [State.ctx, State.setCtx]
theorem State.ctx_setCtx_other (c y : Nat) (x : Ctx) (s : State) (h : y ≠ c) : (s.setCtx c x).ctx y = s.ctx y := by
  simp [State.ctx, State.setCtx, Sparse.get_set_other _ _ _ _ _ h]

/-! ### HRing -/

@[simp] theorem State.setHring_hw (r : Nat) (x : HRing) (s : State) : (s.setHring r x).hw = s.hw := rfl
@[simp] theorem State.setHring_ref (r : Nat) (x : HRing) (s : State) : (s.setHring r x).ref = s.ref := rfl
@[simp] theorem State.setHring_time (r : Nat) (x : HRing) (s : State) : (s.setHring r x).time = s.time := rfl
@[simp] theorem State.setHring_clk (r : Nat) (x : HRing) (s : State) : (s.setHring r x).clk = s.clk := rfl
@[simp] theorem State.setHring_dev (r : Nat) (x : HRing) (s : State) : (s.setHring r x).dev = s.dev := rfl
@[simp] theorem State.setHring_host (r : Nat) (x : HRing) (s : State) : (s.setHring r x).host = s.host := rfl
@[simp] theorem State.setHring_mem (r : Nat) (x : HRing) (s : State) : (s.setHring r x).mem = s.mem := rfl
@[simp] theorem State.setHring_fence (r : Nat) (x : HRing) (s : State) : (s.setHring r x).fence = s.fence := rfl
@[simp] theorem State.setHring_otp (r : Nat) (x : HRing) (s : State) : (s.setHring r x).otp = s.otp := rfl
@[simp] theorem State.setHring_place (r : Nat) (x : HRing) (s : State) : (s.setHring r x).place = s.place := rfl
@[simp] theorem State.setHring_blocks (r : Nat) (x : HRing) (s : State) : (s.setHring r x).blocks = s.blocks := rfl
@[simp] theorem State.setHring_hud (r : Nat) (x : HRing) (s : State) : (s.setHring r x).hud = s.hud := rfl
@[simp] theorem State.setHring_sft (r : Nat) (x : HRing) (s : State) : (s.setHring r x).sft = s.sft := rfl
@[simp] theorem State.setHring_sw (r : Nat) (x : HRing) (s : State) : (s.setHring r x).sw = s.sw := rfl
@[simp] theorem State.setHring_pnt (r : Nat) (x : HRing) (s : State) : (s.setHring r x).pnt = s.pnt := rfl
@[simp] theorem State.setHring_ports (r : Nat) (x : HRing) (s : State) : (s.setHring r x).ports = s.ports := rfl
@[simp] theorem State.setHring_rly (r : Nat) (x : HRing) (s : State) : (s.setHring r x).rly = s.rly := rfl
@[simp] theorem State.setHring_coll (r : Nat) (x : HRing) (s : State) : (s.setHring r x).coll = s.coll := rfl
@[simp] theorem State.setHring_jnl (r : Nat) (x : HRing) (s : State) : (s.setHring r x).jnl = s.jnl := rfl
@[simp] theorem State.setHring_sec (r : Nat) (x : HRing) (s : State) : (s.setHring r x).sec = s.sec := rfl
@[simp] theorem State.setHring_prf (r : Nat) (x : HRing) (s : State) : (s.setHring r x).prf = s.prf := rfl
@[simp] theorem State.setHring_sb (r : Nat) (x : HRing) (s : State) : (s.setHring r x).sb = s.sb := rfl
@[simp] theorem State.setHring_regs (r : Nat) (x : HRing) (s : State) : (s.setHring r x).regs = s.regs := rfl
@[simp] theorem State.setHring_out (r : Nat) (x : HRing) (s : State) : (s.setHring r x).out = s.out := rfl
@[simp] theorem State.setHring_free (r : Nat) (x : HRing) (s : State) : (s.setHring r x).free = s.free := rfl
@[simp] theorem State.setHring_pending (r : Nat) (x : HRing) (s : State) : (s.setHring r x).pending = s.pending := rfl
@[simp] theorem State.hring_setHring (r : Nat) (x : HRing) (s : State) : (s.setHring r x).hring r = x := by
  simp [State.hring, State.setHring]
theorem State.hring_setHring_other (r y : Nat) (x : HRing) (s : State) (h : y ≠ r) : (s.setHring r x).hring y = s.hring y := by
  simp [State.hring, State.setHring, Sparse.get_set_other _ _ _ _ _ h]

/-! ### Meter -/

@[simp] theorem State.setMeter_hw (k : Nat) (m : Meter) (s : State) : (s.setMeter k m).hw = s.hw := rfl
@[simp] theorem State.setMeter_ref (k : Nat) (m : Meter) (s : State) : (s.setMeter k m).ref = s.ref := rfl
@[simp] theorem State.setMeter_time (k : Nat) (m : Meter) (s : State) : (s.setMeter k m).time = s.time := rfl
@[simp] theorem State.setMeter_clk (k : Nat) (m : Meter) (s : State) : (s.setMeter k m).clk = s.clk := rfl
@[simp] theorem State.setMeter_dev (k : Nat) (m : Meter) (s : State) : (s.setMeter k m).dev = s.dev := rfl
@[simp] theorem State.setMeter_host (k : Nat) (m : Meter) (s : State) : (s.setMeter k m).host = s.host := rfl
@[simp] theorem State.setMeter_mem (k : Nat) (m : Meter) (s : State) : (s.setMeter k m).mem = s.mem := rfl
@[simp] theorem State.setMeter_fence (k : Nat) (m : Meter) (s : State) : (s.setMeter k m).fence = s.fence := rfl
@[simp] theorem State.setMeter_otp (k : Nat) (m : Meter) (s : State) : (s.setMeter k m).otp = s.otp := rfl
@[simp] theorem State.setMeter_place (k : Nat) (m : Meter) (s : State) : (s.setMeter k m).place = s.place := rfl
@[simp] theorem State.setMeter_blocks (k : Nat) (m : Meter) (s : State) : (s.setMeter k m).blocks = s.blocks := rfl
@[simp] theorem State.setMeter_hud (k : Nat) (m : Meter) (s : State) : (s.setMeter k m).hud = s.hud := rfl
@[simp] theorem State.setMeter_hif (k : Nat) (m : Meter) (s : State) : (s.setMeter k m).hif = s.hif := rfl
@[simp] theorem State.setMeter_sft (k : Nat) (m : Meter) (s : State) : (s.setMeter k m).sft = s.sft := rfl
@[simp] theorem State.setMeter_pnt (k : Nat) (m : Meter) (s : State) : (s.setMeter k m).pnt = s.pnt := rfl
@[simp] theorem State.setMeter_ports (k : Nat) (m : Meter) (s : State) : (s.setMeter k m).ports = s.ports := rfl
@[simp] theorem State.setMeter_rly (k : Nat) (m : Meter) (s : State) : (s.setMeter k m).rly = s.rly := rfl
@[simp] theorem State.setMeter_coll (k : Nat) (m : Meter) (s : State) : (s.setMeter k m).coll = s.coll := rfl
@[simp] theorem State.setMeter_jnl (k : Nat) (m : Meter) (s : State) : (s.setMeter k m).jnl = s.jnl := rfl
@[simp] theorem State.setMeter_sec (k : Nat) (m : Meter) (s : State) : (s.setMeter k m).sec = s.sec := rfl
@[simp] theorem State.setMeter_prf (k : Nat) (m : Meter) (s : State) : (s.setMeter k m).prf = s.prf := rfl
@[simp] theorem State.setMeter_sb (k : Nat) (m : Meter) (s : State) : (s.setMeter k m).sb = s.sb := rfl
@[simp] theorem State.setMeter_regs (k : Nat) (m : Meter) (s : State) : (s.setMeter k m).regs = s.regs := rfl
@[simp] theorem State.setMeter_out (k : Nat) (m : Meter) (s : State) : (s.setMeter k m).out = s.out := rfl
@[simp] theorem State.setMeter_free (k : Nat) (m : Meter) (s : State) : (s.setMeter k m).free = s.free := rfl
@[simp] theorem State.setMeter_pending (k : Nat) (m : Meter) (s : State) : (s.setMeter k m).pending = s.pending := rfl
@[simp] theorem State.meter_setMeter (k : Nat) (m : Meter) (s : State) : (s.setMeter k m).meter k = m := by
  simp [State.meter, State.setMeter]
theorem State.meter_setMeter_other (k y : Nat) (m : Meter) (s : State) (h : y ≠ k) : (s.setMeter k m).meter y = s.meter y := by
  simp [State.meter, State.setMeter, Sparse.get_set_other _ _ _ _ _ h]

@[simp] theorem State.block_setBlock (b : Nat) (x : Block) (s : State) : (s.setBlock b x).block b = x := by
  simp [State.block, State.setBlock]
theorem State.block_setBlock_other (b y : Nat) (x : Block) (s : State) (h : y ≠ b) : (s.setBlock b x).block y = s.block y := by
  simp [State.block, State.setBlock, Sparse.get_set_other _ _ _ _ _ h]

end Sys2Proof.Machine
end

