-- ==== Sys2Proof/Laws/Ops.lean ====
section
/-! SUPPORT. What the shared operations can do, said once each: an answer, a register just stored, recording an error, and taking the
descriptor at the front of the window. -/

namespace Sys2Proof.Machine

/-! ### Answers -/

theorem State.answer_eq (m : Touch) (s t : State) : s.answer m t = .next (s.keep m t) := rfl

theorem State.answer_next_iff (m : Touch) (s t u : State) : s.answer m t = .next u ↔ s.keep m t = u := by
  simp [State.answer]


/-- A command that names no full reset keeps every fence (R23). -/
theorem keep_fences (m : Touch) (s t : State) (h : m.unfence = false) : FencesKept s (s.keep m t) := by
  unfold FencesKept
  constructor <;> intro b hb <;> by_cases hf : m.fence = true <;> simp_all [FenceMap.join]

/-- Whatever the effect, the parts that a command's `Touch` does not name stay. -/
theorem keep_onlyIn (m : Touch) (s t : State) : OnlyIn m s (s.keep m t) := by
  unfold OnlyIn
  have := keep_fences m s t
  simp +contextual [this]

/-! ### Recording an error leaves the other parts -/

@[simp] theorem State.sendVec_hw (v : Nat) (s : State) : (s.sendVec v).hw = s.hw := by
  simp only [State.sendVec]; split <;> rfl
@[simp] theorem State.sendVec_ref (v : Nat) (s : State) : (s.sendVec v).ref = s.ref := by
  simp only [State.sendVec]; split <;> rfl
@[simp] theorem State.sendVec_time (v : Nat) (s : State) : (s.sendVec v).time = s.time := by
  simp only [State.sendVec]; split <;> rfl
@[simp] theorem State.sendVec_clk (v : Nat) (s : State) : (s.sendVec v).clk = s.clk := by
  simp only [State.sendVec]; split <;> rfl
@[simp] theorem State.sendVec_dev (v : Nat) (s : State) : (s.sendVec v).dev = s.dev := by
  simp only [State.sendVec]; split <;> rfl
@[simp] theorem State.sendVec_host (v : Nat) (s : State) : (s.sendVec v).host = s.host := by
  simp only [State.sendVec]; split <;> rfl
@[simp] theorem State.sendVec_mem (v : Nat) (s : State) : (s.sendVec v).mem = s.mem := by
  simp only [State.sendVec]; split <;> rfl
@[simp] theorem State.sendVec_fence (v : Nat) (s : State) : (s.sendVec v).fence = s.fence := by
  simp only [State.sendVec]; split <;> rfl
@[simp] theorem State.sendVec_otp (v : Nat) (s : State) : (s.sendVec v).otp = s.otp := by
  simp only [State.sendVec]; split <;> rfl
@[simp] theorem State.sendVec_place (v : Nat) (s : State) : (s.sendVec v).place = s.place := by
  simp only [State.sendVec]; split <;> rfl
@[simp] theorem State.sendVec_blocks (v : Nat) (s : State) : (s.sendVec v).blocks = s.blocks := by
  simp only [State.sendVec]; split <;> rfl
@[simp] theorem State.sendVec_hud (v : Nat) (s : State) : (s.sendVec v).hud = s.hud := by
  simp only [State.sendVec]; split <;> rfl
@[simp] theorem State.sendVec_sft (v : Nat) (s : State) : (s.sendVec v).sft = s.sft := by
  simp only [State.sendVec]; split <;> rfl
@[simp] theorem State.sendVec_sw (v : Nat) (s : State) : (s.sendVec v).sw = s.sw := by
  simp only [State.sendVec]; split <;> rfl
@[simp] theorem State.sendVec_pnt (v : Nat) (s : State) : (s.sendVec v).pnt = s.pnt := by
  simp only [State.sendVec]; split <;> rfl
@[simp] theorem State.sendVec_ports (v : Nat) (s : State) : (s.sendVec v).ports = s.ports := by
  simp only [State.sendVec]; split <;> rfl
@[simp] theorem State.sendVec_rly (v : Nat) (s : State) : (s.sendVec v).rly = s.rly := by
  simp only [State.sendVec]; split <;> rfl
@[simp] theorem State.sendVec_coll (v : Nat) (s : State) : (s.sendVec v).coll = s.coll := by
  simp only [State.sendVec]; split <;> rfl
@[simp] theorem State.sendVec_jnl (v : Nat) (s : State) : (s.sendVec v).jnl = s.jnl := by
  simp only [State.sendVec]; split <;> rfl
@[simp] theorem State.sendVec_sec (v : Nat) (s : State) : (s.sendVec v).sec = s.sec := by
  simp only [State.sendVec]; split <;> rfl
@[simp] theorem State.sendVec_prf (v : Nat) (s : State) : (s.sendVec v).prf = s.prf := by
  simp only [State.sendVec]; split <;> rfl
@[simp] theorem State.sendVec_sb (v : Nat) (s : State) : (s.sendVec v).sb = s.sb := by
  simp only [State.sendVec]; split <;> rfl
@[simp] theorem State.sendVec_regs (v : Nat) (s : State) : (s.sendVec v).regs = s.regs := by
  simp only [State.sendVec]; split <;> rfl
@[simp] theorem State.sendVec_free (v : Nat) (s : State) : (s.sendVec v).free = s.free := by
  simp only [State.sendVec]; split <;> rfl
@[simp] theorem State.sendVec_pending (v : Nat) (s : State) : (s.sendVec v).pending = s.pending := by
  simp only [State.sendVec]; split <;> rfl

@[simp] theorem State.errqPush_hw (g : Nat) (s : State) : (s.errqPush g).hw = s.hw := by
  simp only [State.errqPush]; split <;> rfl
@[simp] theorem State.errqPush_ref (g : Nat) (s : State) : (s.errqPush g).ref = s.ref := by
  simp only [State.errqPush]; split <;> rfl
@[simp] theorem State.errqPush_time (g : Nat) (s : State) : (s.errqPush g).time = s.time := by
  simp only [State.errqPush]; split <;> rfl
@[simp] theorem State.errqPush_clk (g : Nat) (s : State) : (s.errqPush g).clk = s.clk := by
  simp only [State.errqPush]; split <;> rfl
@[simp] theorem State.errqPush_dev (g : Nat) (s : State) : (s.errqPush g).dev = s.dev := by
  simp only [State.errqPush]; split <;> rfl
@[simp] theorem State.errqPush_host (g : Nat) (s : State) : (s.errqPush g).host = s.host := by
  simp only [State.errqPush]; split <;> rfl
@[simp] theorem State.errqPush_mem (g : Nat) (s : State) : (s.errqPush g).mem = s.mem := by
  simp only [State.errqPush]; split <;> rfl
@[simp] theorem State.errqPush_fence (g : Nat) (s : State) : (s.errqPush g).fence = s.fence := by
  simp only [State.errqPush]; split <;> rfl
@[simp] theorem State.errqPush_otp (g : Nat) (s : State) : (s.errqPush g).otp = s.otp := by
  simp only [State.errqPush]; split <;> rfl
@[simp] theorem State.errqPush_place (g : Nat) (s : State) : (s.errqPush g).place = s.place := by
  simp only [State.errqPush]; split <;> rfl
@[simp] theorem State.errqPush_blocks (g : Nat) (s : State) : (s.errqPush g).blocks = s.blocks := by
  simp only [State.errqPush]; split <;> rfl
@[simp] theorem State.errqPush_hud (g : Nat) (s : State) : (s.errqPush g).hud = s.hud := by
  simp only [State.errqPush]; split <;> rfl
@[simp] theorem State.errqPush_sft (g : Nat) (s : State) : (s.errqPush g).sft = s.sft := by
  simp only [State.errqPush]; split <;> rfl
@[simp] theorem State.errqPush_sw (g : Nat) (s : State) : (s.errqPush g).sw = s.sw := by
  simp only [State.errqPush]; split <;> rfl
@[simp] theorem State.errqPush_pnt (g : Nat) (s : State) : (s.errqPush g).pnt = s.pnt := by
  simp only [State.errqPush]; split <;> rfl
@[simp] theorem State.errqPush_ports (g : Nat) (s : State) : (s.errqPush g).ports = s.ports := by
  simp only [State.errqPush]; split <;> rfl
@[simp] theorem State.errqPush_rly (g : Nat) (s : State) : (s.errqPush g).rly = s.rly := by
  simp only [State.errqPush]; split <;> rfl
@[simp] theorem State.errqPush_coll (g : Nat) (s : State) : (s.errqPush g).coll = s.coll := by
  simp only [State.errqPush]; split <;> rfl
@[simp] theorem State.errqPush_jnl (g : Nat) (s : State) : (s.errqPush g).jnl = s.jnl := by
  simp only [State.errqPush]; split <;> rfl
@[simp] theorem State.errqPush_sec (g : Nat) (s : State) : (s.errqPush g).sec = s.sec := by
  simp only [State.errqPush]; split <;> rfl
@[simp] theorem State.errqPush_prf (g : Nat) (s : State) : (s.errqPush g).prf = s.prf := by
  simp only [State.errqPush]; split <;> rfl
@[simp] theorem State.errqPush_sb (g : Nat) (s : State) : (s.errqPush g).sb = s.sb := by
  simp only [State.errqPush]; split <;> rfl
@[simp] theorem State.errqPush_regs (g : Nat) (s : State) : (s.errqPush g).regs = s.regs := by
  simp only [State.errqPush]; split <;> rfl
@[simp] theorem State.errqPush_out (g : Nat) (s : State) : (s.errqPush g).out = s.out := by
  simp only [State.errqPush]; split <;> rfl
@[simp] theorem State.errqPush_free (g : Nat) (s : State) : (s.errqPush g).free = s.free := by
  simp only [State.errqPush]; split <;> rfl
@[simp] theorem State.errqPush_pending (g : Nat) (s : State) : (s.errqPush g).pending = s.pending := by
  simp only [State.errqPush]; split <;> rfl

@[simp] theorem State.setErrStat_hw (p : Page) (i v : Nat) (s : State) : (s.setErrStat p i v).hw = s.hw := by
  simp only [State.setErrStat]; split <;> simp
@[simp] theorem State.setErrStat_ref (p : Page) (i v : Nat) (s : State) : (s.setErrStat p i v).ref = s.ref := by
  simp only [State.setErrStat]; split <;> simp
@[simp] theorem State.setErrStat_time (p : Page) (i v : Nat) (s : State) : (s.setErrStat p i v).time = s.time := by
  simp only [State.setErrStat]; split <;> simp
@[simp] theorem State.setErrStat_clk (p : Page) (i v : Nat) (s : State) : (s.setErrStat p i v).clk = s.clk := by
  simp only [State.setErrStat]; split <;> simp
@[simp] theorem State.setErrStat_dev (p : Page) (i v : Nat) (s : State) : (s.setErrStat p i v).dev = s.dev := by
  simp only [State.setErrStat]; split <;> simp
@[simp] theorem State.setErrStat_host (p : Page) (i v : Nat) (s : State) : (s.setErrStat p i v).host = s.host := by
  simp only [State.setErrStat]; split <;> simp
@[simp] theorem State.setErrStat_mem (p : Page) (i v : Nat) (s : State) : (s.setErrStat p i v).mem = s.mem := by
  simp only [State.setErrStat]; split <;> simp
@[simp] theorem State.setErrStat_fence (p : Page) (i v : Nat) (s : State) : (s.setErrStat p i v).fence = s.fence := by
  simp only [State.setErrStat]; split <;> simp
@[simp] theorem State.setErrStat_otp (p : Page) (i v : Nat) (s : State) : (s.setErrStat p i v).otp = s.otp := by
  simp only [State.setErrStat]; split <;> simp
@[simp] theorem State.setErrStat_place (p : Page) (i v : Nat) (s : State) : (s.setErrStat p i v).place = s.place := by
  simp only [State.setErrStat]; split <;> simp
@[simp] theorem State.setErrStat_blocks (p : Page) (i v : Nat) (s : State) : (s.setErrStat p i v).blocks = s.blocks := by
  simp only [State.setErrStat]; split <;> simp
@[simp] theorem State.setErrStat_hud (p : Page) (i v : Nat) (s : State) : (s.setErrStat p i v).hud = s.hud := by
  simp only [State.setErrStat]; split <;> simp
@[simp] theorem State.setErrStat_sft (p : Page) (i v : Nat) (s : State) : (s.setErrStat p i v).sft = s.sft := by
  simp only [State.setErrStat]; split <;> simp
@[simp] theorem State.setErrStat_sw (p : Page) (i v : Nat) (s : State) : (s.setErrStat p i v).sw = s.sw := by
  simp only [State.setErrStat]; split <;> simp
@[simp] theorem State.setErrStat_pnt (p : Page) (i v : Nat) (s : State) : (s.setErrStat p i v).pnt = s.pnt := by
  simp only [State.setErrStat]; split <;> simp
@[simp] theorem State.setErrStat_ports (p : Page) (i v : Nat) (s : State) : (s.setErrStat p i v).ports = s.ports := by
  simp only [State.setErrStat]; split <;> simp
@[simp] theorem State.setErrStat_rly (p : Page) (i v : Nat) (s : State) : (s.setErrStat p i v).rly = s.rly := by
  simp only [State.setErrStat]; split <;> simp
@[simp] theorem State.setErrStat_coll (p : Page) (i v : Nat) (s : State) : (s.setErrStat p i v).coll = s.coll := by
  simp only [State.setErrStat]; split <;> simp
@[simp] theorem State.setErrStat_jnl (p : Page) (i v : Nat) (s : State) : (s.setErrStat p i v).jnl = s.jnl := by
  simp only [State.setErrStat]; split <;> simp
@[simp] theorem State.setErrStat_sec (p : Page) (i v : Nat) (s : State) : (s.setErrStat p i v).sec = s.sec := by
  simp only [State.setErrStat]; split <;> simp
@[simp] theorem State.setErrStat_prf (p : Page) (i v : Nat) (s : State) : (s.setErrStat p i v).prf = s.prf := by
  simp only [State.setErrStat]; split <;> simp
@[simp] theorem State.setErrStat_sb (p : Page) (i v : Nat) (s : State) : (s.setErrStat p i v).sb = s.sb := by
  simp only [State.setErrStat]; split <;> simp
@[simp] theorem State.setErrStat_free (p : Page) (i v : Nat) (s : State) : (s.setErrStat p i v).free = s.free := by
  simp only [State.setErrStat]; split <;> simp
@[simp] theorem State.setErrStat_pending (p : Page) (i v : Nat) (s : State) : (s.setErrStat p i v).pending = s.pending := by
  simp only [State.setErrStat]; split <;> simp

@[simp] theorem State.sbRequest_hw (s : State) : (s.sbRequest).hw = s.hw := by
  simp only [State.sbRequest]; split <;> rfl
@[simp] theorem State.sbRequest_ref (s : State) : (s.sbRequest).ref = s.ref := by
  simp only [State.sbRequest]; split <;> rfl
@[simp] theorem State.sbRequest_time (s : State) : (s.sbRequest).time = s.time := by
  simp only [State.sbRequest]; split <;> rfl
@[simp] theorem State.sbRequest_clk (s : State) : (s.sbRequest).clk = s.clk := by
  simp only [State.sbRequest]; split <;> rfl
@[simp] theorem State.sbRequest_dev (s : State) : (s.sbRequest).dev = s.dev := by
  simp only [State.sbRequest]; split <;> rfl
@[simp] theorem State.sbRequest_host (s : State) : (s.sbRequest).host = s.host := by
  simp only [State.sbRequest]; split <;> rfl
@[simp] theorem State.sbRequest_mem (s : State) : (s.sbRequest).mem = s.mem := by
  simp only [State.sbRequest]; split <;> rfl
@[simp] theorem State.sbRequest_fence (s : State) : (s.sbRequest).fence = s.fence := by
  simp only [State.sbRequest]; split <;> rfl
@[simp] theorem State.sbRequest_otp (s : State) : (s.sbRequest).otp = s.otp := by
  simp only [State.sbRequest]; split <;> rfl
@[simp] theorem State.sbRequest_place (s : State) : (s.sbRequest).place = s.place := by
  simp only [State.sbRequest]; split <;> rfl
@[simp] theorem State.sbRequest_blocks (s : State) : (s.sbRequest).blocks = s.blocks := by
  simp only [State.sbRequest]; split <;> rfl
@[simp] theorem State.sbRequest_hud (s : State) : (s.sbRequest).hud = s.hud := by
  simp only [State.sbRequest]; split <;> rfl
@[simp] theorem State.sbRequest_hif (s : State) : (s.sbRequest).hif = s.hif := by
  simp only [State.sbRequest]; split <;> rfl
@[simp] theorem State.sbRequest_sft (s : State) : (s.sbRequest).sft = s.sft := by
  simp only [State.sbRequest]; split <;> rfl
@[simp] theorem State.sbRequest_sw (s : State) : (s.sbRequest).sw = s.sw := by
  simp only [State.sbRequest]; split <;> rfl
@[simp] theorem State.sbRequest_pnt (s : State) : (s.sbRequest).pnt = s.pnt := by
  simp only [State.sbRequest]; split <;> rfl
@[simp] theorem State.sbRequest_ports (s : State) : (s.sbRequest).ports = s.ports := by
  simp only [State.sbRequest]; split <;> rfl
@[simp] theorem State.sbRequest_rly (s : State) : (s.sbRequest).rly = s.rly := by
  simp only [State.sbRequest]; split <;> rfl
@[simp] theorem State.sbRequest_coll (s : State) : (s.sbRequest).coll = s.coll := by
  simp only [State.sbRequest]; split <;> rfl
@[simp] theorem State.sbRequest_jnl (s : State) : (s.sbRequest).jnl = s.jnl := by
  simp only [State.sbRequest]; split <;> rfl
@[simp] theorem State.sbRequest_sec (s : State) : (s.sbRequest).sec = s.sec := by
  simp only [State.sbRequest]; split <;> rfl
@[simp] theorem State.sbRequest_prf (s : State) : (s.sbRequest).prf = s.prf := by
  simp only [State.sbRequest]; split <;> rfl
@[simp] theorem State.sbRequest_regs (s : State) : (s.sbRequest).regs = s.regs := by
  simp only [State.sbRequest]; split <;> rfl
@[simp] theorem State.sbRequest_out (s : State) : (s.sbRequest).out = s.out := by
  simp only [State.sbRequest]; split <;> rfl
@[simp] theorem State.sbRequest_free (s : State) : (s.sbRequest).free = s.free := by
  simp only [State.sbRequest]; split <;> rfl
@[simp] theorem State.sbRequest_pending (s : State) : (s.sbRequest).pending = s.pending := by
  simp only [State.sbRequest]; split <;> rfl

@[simp] theorem State.fatal_hw (s : State) : (s.fatal).hw = s.hw := by
  simp [State.fatal]
@[simp] theorem State.fatal_time (s : State) : (s.fatal).time = s.time := by
  simp [State.fatal]
@[simp] theorem State.fatal_clk (s : State) : (s.fatal).clk = s.clk := by
  simp [State.fatal]
@[simp] theorem State.fatal_dev (s : State) : (s.fatal).dev = s.dev := by
  simp [State.fatal]
@[simp] theorem State.fatal_host (s : State) : (s.fatal).host = s.host := by
  simp [State.fatal]
@[simp] theorem State.fatal_mem (s : State) : (s.fatal).mem = s.mem := by
  simp [State.fatal]
@[simp] theorem State.fatal_fence (s : State) : (s.fatal).fence = s.fence := by
  simp [State.fatal]
@[simp] theorem State.fatal_otp (s : State) : (s.fatal).otp = s.otp := by
  simp [State.fatal]
@[simp] theorem State.fatal_place (s : State) : (s.fatal).place = s.place := by
  simp [State.fatal]
@[simp] theorem State.fatal_blocks (s : State) : (s.fatal).blocks = s.blocks := by
  simp [State.fatal]
@[simp] theorem State.fatal_hud (s : State) : (s.fatal).hud = s.hud := by
  simp [State.fatal]
@[simp] theorem State.fatal_sft (s : State) : (s.fatal).sft = s.sft := by
  simp [State.fatal]
@[simp] theorem State.fatal_sw (s : State) : (s.fatal).sw = s.sw := by
  simp [State.fatal]
@[simp] theorem State.fatal_pnt (s : State) : (s.fatal).pnt = s.pnt := by
  simp [State.fatal]
@[simp] theorem State.fatal_ports (s : State) : (s.fatal).ports = s.ports := by
  simp [State.fatal]
@[simp] theorem State.fatal_rly (s : State) : (s.fatal).rly = s.rly := by
  simp [State.fatal]
@[simp] theorem State.fatal_coll (s : State) : (s.fatal).coll = s.coll := by
  simp [State.fatal]
@[simp] theorem State.fatal_jnl (s : State) : (s.fatal).jnl = s.jnl := by
  simp [State.fatal]
@[simp] theorem State.fatal_sec (s : State) : (s.fatal).sec = s.sec := by
  simp [State.fatal]
@[simp] theorem State.fatal_prf (s : State) : (s.fatal).prf = s.prf := by
  simp [State.fatal]
@[simp] theorem State.fatal_free (s : State) : (s.fatal).free = s.free := by
  simp [State.fatal]
@[simp] theorem State.fatal_pending (s : State) : (s.fatal).pending = s.pending := by
  simp [State.fatal]

@[simp] theorem State.raise_hw (p : Page) (i b g x y z : Nat) (s : State) : (s.raise p i b g x y z).hw = s.hw := by
  simp only [State.raise]; split <;> split <;> split <;> simp
@[simp] theorem State.raise_time (p : Page) (i b g x y z : Nat) (s : State) : (s.raise p i b g x y z).time = s.time := by
  simp only [State.raise]; split <;> split <;> split <;> simp
@[simp] theorem State.raise_clk (p : Page) (i b g x y z : Nat) (s : State) : (s.raise p i b g x y z).clk = s.clk := by
  simp only [State.raise]; split <;> split <;> split <;> simp
@[simp] theorem State.raise_dev (p : Page) (i b g x y z : Nat) (s : State) : (s.raise p i b g x y z).dev = s.dev := by
  simp only [State.raise]; split <;> split <;> split <;> simp
@[simp] theorem State.raise_host (p : Page) (i b g x y z : Nat) (s : State) : (s.raise p i b g x y z).host = s.host := by
  simp only [State.raise]; split <;> split <;> split <;> simp
@[simp] theorem State.raise_mem (p : Page) (i b g x y z : Nat) (s : State) : (s.raise p i b g x y z).mem = s.mem := by
  simp only [State.raise]; split <;> split <;> split <;> simp
@[simp] theorem State.raise_fence (p : Page) (i b g x y z : Nat) (s : State) : (s.raise p i b g x y z).fence = s.fence := by
  simp only [State.raise]; split <;> split <;> split <;> simp
@[simp] theorem State.raise_otp (p : Page) (i b g x y z : Nat) (s : State) : (s.raise p i b g x y z).otp = s.otp := by
  simp only [State.raise]; split <;> split <;> split <;> simp
@[simp] theorem State.raise_place (p : Page) (i b g x y z : Nat) (s : State) : (s.raise p i b g x y z).place = s.place := by
  simp only [State.raise]; split <;> split <;> split <;> simp
@[simp] theorem State.raise_blocks (p : Page) (i b g x y z : Nat) (s : State) : (s.raise p i b g x y z).blocks = s.blocks := by
  simp only [State.raise]; split <;> split <;> split <;> simp
@[simp] theorem State.raise_hud (p : Page) (i b g x y z : Nat) (s : State) : (s.raise p i b g x y z).hud = s.hud := by
  simp only [State.raise]; split <;> split <;> split <;> simp
@[simp] theorem State.raise_sft (p : Page) (i b g x y z : Nat) (s : State) : (s.raise p i b g x y z).sft = s.sft := by
  simp only [State.raise]; split <;> split <;> split <;> simp
@[simp] theorem State.raise_sw (p : Page) (i b g x y z : Nat) (s : State) : (s.raise p i b g x y z).sw = s.sw := by
  simp only [State.raise]; split <;> split <;> split <;> simp
@[simp] theorem State.raise_pnt (p : Page) (i b g x y z : Nat) (s : State) : (s.raise p i b g x y z).pnt = s.pnt := by
  simp only [State.raise]; split <;> split <;> split <;> simp
@[simp] theorem State.raise_ports (p : Page) (i b g x y z : Nat) (s : State) : (s.raise p i b g x y z).ports = s.ports := by
  simp only [State.raise]; split <;> split <;> split <;> simp
@[simp] theorem State.raise_rly (p : Page) (i b g x y z : Nat) (s : State) : (s.raise p i b g x y z).rly = s.rly := by
  simp only [State.raise]; split <;> split <;> split <;> simp
@[simp] theorem State.raise_coll (p : Page) (i b g x y z : Nat) (s : State) : (s.raise p i b g x y z).coll = s.coll := by
  simp only [State.raise]; split <;> split <;> split <;> simp
@[simp] theorem State.raise_jnl (p : Page) (i b g x y z : Nat) (s : State) : (s.raise p i b g x y z).jnl = s.jnl := by
  simp only [State.raise]; split <;> split <;> split <;> simp
@[simp] theorem State.raise_sec (p : Page) (i b g x y z : Nat) (s : State) : (s.raise p i b g x y z).sec = s.sec := by
  simp only [State.raise]; split <;> split <;> split <;> simp
@[simp] theorem State.raise_prf (p : Page) (i b g x y z : Nat) (s : State) : (s.raise p i b g x y z).prf = s.prf := by
  simp only [State.raise]; split <;> split <;> split <;> simp
@[simp] theorem State.raise_free (p : Page) (i b g x y z : Nat) (s : State) : (s.raise p i b g x y z).free = s.free := by
  simp only [State.raise]; split <;> split <;> split <;> simp
@[simp] theorem State.raise_pending (p : Page) (i b g x y z : Nat) (s : State) : (s.raise p i b g x y z).pending = s.pending := by
  simp only [State.raise]; split <;> split <;> split <;> simp

@[simp] theorem State.raise0_hw (p : Page) (i b : Nat) (s : State) : (s.raise0 p i b).hw = s.hw := by
  simp [State.raise0]
@[simp] theorem State.raise0_time (p : Page) (i b : Nat) (s : State) : (s.raise0 p i b).time = s.time := by
  simp [State.raise0]
@[simp] theorem State.raise0_clk (p : Page) (i b : Nat) (s : State) : (s.raise0 p i b).clk = s.clk := by
  simp [State.raise0]
@[simp] theorem State.raise0_dev (p : Page) (i b : Nat) (s : State) : (s.raise0 p i b).dev = s.dev := by
  simp [State.raise0]
@[simp] theorem State.raise0_host (p : Page) (i b : Nat) (s : State) : (s.raise0 p i b).host = s.host := by
  simp [State.raise0]
@[simp] theorem State.raise0_mem (p : Page) (i b : Nat) (s : State) : (s.raise0 p i b).mem = s.mem := by
  simp [State.raise0]
@[simp] theorem State.raise0_fence (p : Page) (i b : Nat) (s : State) : (s.raise0 p i b).fence = s.fence := by
  simp [State.raise0]
@[simp] theorem State.raise0_otp (p : Page) (i b : Nat) (s : State) : (s.raise0 p i b).otp = s.otp := by
  simp [State.raise0]
@[simp] theorem State.raise0_place (p : Page) (i b : Nat) (s : State) : (s.raise0 p i b).place = s.place := by
  simp [State.raise0]
@[simp] theorem State.raise0_blocks (p : Page) (i b : Nat) (s : State) : (s.raise0 p i b).blocks = s.blocks := by
  simp [State.raise0]
@[simp] theorem State.raise0_hud (p : Page) (i b : Nat) (s : State) : (s.raise0 p i b).hud = s.hud := by
  simp [State.raise0]
@[simp] theorem State.raise0_sft (p : Page) (i b : Nat) (s : State) : (s.raise0 p i b).sft = s.sft := by
  simp [State.raise0]
@[simp] theorem State.raise0_sw (p : Page) (i b : Nat) (s : State) : (s.raise0 p i b).sw = s.sw := by
  simp [State.raise0]
@[simp] theorem State.raise0_pnt (p : Page) (i b : Nat) (s : State) : (s.raise0 p i b).pnt = s.pnt := by
  simp [State.raise0]
@[simp] theorem State.raise0_ports (p : Page) (i b : Nat) (s : State) : (s.raise0 p i b).ports = s.ports := by
  simp [State.raise0]
@[simp] theorem State.raise0_rly (p : Page) (i b : Nat) (s : State) : (s.raise0 p i b).rly = s.rly := by
  simp [State.raise0]
@[simp] theorem State.raise0_coll (p : Page) (i b : Nat) (s : State) : (s.raise0 p i b).coll = s.coll := by
  simp [State.raise0]
@[simp] theorem State.raise0_jnl (p : Page) (i b : Nat) (s : State) : (s.raise0 p i b).jnl = s.jnl := by
  simp [State.raise0]
@[simp] theorem State.raise0_sec (p : Page) (i b : Nat) (s : State) : (s.raise0 p i b).sec = s.sec := by
  simp [State.raise0]
@[simp] theorem State.raise0_prf (p : Page) (i b : Nat) (s : State) : (s.raise0 p i b).prf = s.prf := by
  simp [State.raise0]
@[simp] theorem State.raise0_free (p : Page) (i b : Nat) (s : State) : (s.raise0 p i b).free = s.free := by
  simp [State.raise0]
@[simp] theorem State.raise0_pending (p : Page) (i b : Nat) (s : State) : (s.raise0 p i b).pending = s.pending := by
  simp [State.raise0]

@[simp] theorem State.finishEntry_hw (e : WinEntry) (st r0 : Nat) (s : State) : (s.finishEntry e st r0).hw = s.hw := by simp [State.finishEntry]
@[simp] theorem State.finishEntry_ref (e : WinEntry) (st r0 : Nat) (s : State) : (s.finishEntry e st r0).ref = s.ref := by simp [State.finishEntry]
@[simp] theorem State.finishEntry_time (e : WinEntry) (st r0 : Nat) (s : State) : (s.finishEntry e st r0).time = s.time := by simp [State.finishEntry]
@[simp] theorem State.finishEntry_clk (e : WinEntry) (st r0 : Nat) (s : State) : (s.finishEntry e st r0).clk = s.clk := by simp [State.finishEntry]
@[simp] theorem State.finishEntry_dev (e : WinEntry) (st r0 : Nat) (s : State) : (s.finishEntry e st r0).dev = s.dev := by simp [State.finishEntry]
@[simp] theorem State.finishEntry_host (e : WinEntry) (st r0 : Nat) (s : State) : (s.finishEntry e st r0).host = s.host := by simp [State.finishEntry]
@[simp] theorem State.finishEntry_mem (e : WinEntry) (st r0 : Nat) (s : State) : (s.finishEntry e st r0).mem = s.mem := by simp [State.finishEntry]
@[simp] theorem State.finishEntry_fence (e : WinEntry) (st r0 : Nat) (s : State) : (s.finishEntry e st r0).fence = s.fence := by simp [State.finishEntry]
@[simp] theorem State.finishEntry_otp (e : WinEntry) (st r0 : Nat) (s : State) : (s.finishEntry e st r0).otp = s.otp := by simp [State.finishEntry]
@[simp] theorem State.finishEntry_place (e : WinEntry) (st r0 : Nat) (s : State) : (s.finishEntry e st r0).place = s.place := by simp [State.finishEntry]
@[simp] theorem State.finishEntry_blocks (e : WinEntry) (st r0 : Nat) (s : State) : (s.finishEntry e st r0).blocks = s.blocks := by simp [State.finishEntry]
@[simp] theorem State.finishEntry_hud (e : WinEntry) (st r0 : Nat) (s : State) : (s.finishEntry e st r0).hud = s.hud := by simp [State.finishEntry]
@[simp] theorem State.finishEntry_sft (e : WinEntry) (st r0 : Nat) (s : State) : (s.finishEntry e st r0).sft = s.sft := by simp [State.finishEntry]
@[simp] theorem State.finishEntry_sw (e : WinEntry) (st r0 : Nat) (s : State) : (s.finishEntry e st r0).sw = s.sw := by simp [State.finishEntry]
@[simp] theorem State.finishEntry_pnt (e : WinEntry) (st r0 : Nat) (s : State) : (s.finishEntry e st r0).pnt = s.pnt := by simp [State.finishEntry]
@[simp] theorem State.finishEntry_ports (e : WinEntry) (st r0 : Nat) (s : State) : (s.finishEntry e st r0).ports = s.ports := by simp [State.finishEntry]
@[simp] theorem State.finishEntry_rly (e : WinEntry) (st r0 : Nat) (s : State) : (s.finishEntry e st r0).rly = s.rly := by simp [State.finishEntry]
@[simp] theorem State.finishEntry_coll (e : WinEntry) (st r0 : Nat) (s : State) : (s.finishEntry e st r0).coll = s.coll := by simp [State.finishEntry]
@[simp] theorem State.finishEntry_jnl (e : WinEntry) (st r0 : Nat) (s : State) : (s.finishEntry e st r0).jnl = s.jnl := by simp [State.finishEntry]
@[simp] theorem State.finishEntry_sec (e : WinEntry) (st r0 : Nat) (s : State) : (s.finishEntry e st r0).sec = s.sec := by simp [State.finishEntry]
@[simp] theorem State.finishEntry_prf (e : WinEntry) (st r0 : Nat) (s : State) : (s.finishEntry e st r0).prf = s.prf := by simp [State.finishEntry]
@[simp] theorem State.finishEntry_sb (e : WinEntry) (st r0 : Nat) (s : State) : (s.finishEntry e st r0).sb = s.sb := by simp [State.finishEntry]
@[simp] theorem State.finishEntry_regs (e : WinEntry) (st r0 : Nat) (s : State) : (s.finishEntry e st r0).regs = s.regs := by simp [State.finishEntry]
@[simp] theorem State.finishEntry_out (e : WinEntry) (st r0 : Nat) (s : State) : (s.finishEntry e st r0).out = s.out := by simp [State.finishEntry]
@[simp] theorem State.finishEntry_free (e : WinEntry) (st r0 : Nat) (s : State) : (s.finishEntry e st r0).free = s.free := by simp [State.finishEntry]
@[simp] theorem State.finishEntry_pending (e : WinEntry) (st r0 : Nat) (s : State) : (s.finishEntry e st r0).pending = s.pending := by simp [State.finishEntry]

/-! ### A register just stored -/

theorem State.reg_setReg (p : Page) (i off v : Nat) (s : State) (h : v ^^^ regReset p i off < 2 ^ 64) :
    (s.setReg p i off v).reg p i off = v := by
  have h' : (BitVec.ofNat 64 (v ^^^ regReset p i off)).toNat = v ^^^ regReset p i off := by
    rw [BitVec.toNat_ofNat]; exact Nat.mod_eq_of_lt h
  simp only [State.reg, State.setReg, Sparse.get_set_same, h', Nat.xor_assoc, Nat.xor_self, Nat.xor_zero]

theorem State.reg_setReg_other (p q : Page) (i j off o v : Nat) (s : State) (h : q.at j + o ≠ p.at i + off) :
    (s.setReg p i off v).reg q j o = s.reg q j o := by
  simp [State.reg, State.setReg, Sparse.get_set_other _ _ _ _ _ h]

/-- A register depends on the register file alone. -/
theorem State.reg_congr (s t : State) (p : Page) (i off : Nat) (h : s.regs = t.regs) : s.reg p i off = t.reg p i off := by
  simp [State.reg, h]

theorem State.fld_congr (s t : State) (p : Page) (i off a b : Nat) (h : s.regs = t.regs) : s.fld p i off a b = t.fld p i off a b := by
  simp [State.fld, State.reg_congr s t p i off h]

/-! ### Taking the descriptor at the front -/

section take
variable {chosen formatOk : WinEntry → Bool} {waits : State → WinEntry → Bool} {body : WinEntry → State → State}
variable {s : State} {e : WinEntry} {rest : List WinEntry}

/-- With room for it, a completion waits for its ring at once. -/
theorem State.finishIn_room (q : Nat) (ts : List Nat) (c : Compl) (h : s.room c.ring = true) :
    s.finishIn q ts c = { s with hif.done := s.hif.done ++ [c] } := by simp [State.finishIn, h]

/-- Without room, the command is held at its end (R556). -/
theorem State.finishIn_held (q : Nat) (ts : List Nat) (c : Compl) (h : s.room c.ring = false) :
    s.finishIn q ts c = { s with hif.ending := s.hif.ending ++ [{ c, queue := q, targets := ts }] } := by simp [State.finishIn, h]

/-- A descriptor just taken ends: the completion waits and nothing else changed. -/
theorem State.finishEntry_eq (st r0 : Nat) (h : s.room e.ringByte = true) :
    State.finishEntry e st r0 { s with hif.window := rest } = s.ended e rest st r0 := by
  rw [State.finishEntry, State.finishIn_room _ _ _ (by exact h)]; rfl

/-- Nothing waits in a queue: no command of a queue may go on ahead of the window. -/
@[simp] theorem State.parkedNext_none (h : s.hif.parked = []) : s.parkedNext chosen waits = none := by
  simp [State.parkedNext, h]

/-- While nothing waits in a queue, a command that is met is the one at the front of the window. -/
theorem State.take_front (h : s.hif.parked = []) : State.take chosen formatOk waits body s =
    s.takeFront chosen formatOk (fun e t => if waits t e || !t.mayRun t.hif.parked e then t.park e else body e t) := by
  simp [State.take, h]

/-- With no command of a queue waiting or held at its end, any command may execute. -/
theorem State.mayRun_first (h : s.hif.ending = []) : s.mayRun [] e = true := by
  simp [State.mayRun, h]

/-- A descriptor offered whose format is right is carried on: it is executed, or waits in its queue. -/
theorem State.take_offered (h : s.Fronts e rest) (hc : chosen e = true) (hf : formatOk e = true) :
    State.take chosen formatOk waits body s =
      if waits { s with hif.window := rest } e then State.park e { s with hif.window := rest } else body e { s with hif.window := rest } := by
  obtain ⟨h1, h2, h3, h4, h5, h6, h7⟩ := h
  have hm : ({ s with hif.window := rest } : State).mayRun ({ s with hif.window := rest } : State).hif.parked e = true := by
    rw [show ({ s with hif.window := rest } : State).hif.parked = [] from h6]
    exact State.mayRun_first h7
  rw [State.take_front h6, State.takeFront, h1]
  simp only [hm, hc, h2, h3, h4, h5, hf, Bool.not_true, Bool.or_false, Bool.false_eq_true, if_false, show ((1 : Nat) == 0) = false from rfl]

/-- A descriptor offered whose format is right and which need not wait is carried on by the command's own part. -/
theorem State.take_runs (h : s.Fronts e rest) (hc : chosen e = true) (hf : formatOk e = true)
    (hw : waits { s with hif.window := rest } e = false) :
    State.take chosen formatOk waits body s = body e { s with hif.window := rest } := by
  simp [State.take_offered h hc hf, hw]

/-- A descriptor offered that has to wait waits in its queue, and what stands behind it may be taken (R544). -/
theorem State.take_waits (h : s.Fronts e rest) (hc : chosen e = true) (hf : formatOk e = true)
    (hw : waits { s with hif.window := rest } e = true) :
    State.take chosen formatOk waits body s = State.park e { s with hif.window := rest } := by
  simp [State.take_offered h hc hf, hw]

/-- A descriptor offered whose format is wrong ends with CMD_FORMAT (R544). -/
theorem State.take_format (h : s.Offers e rest) (hc : chosen e = true) (hf : formatOk e = false) :
    State.take chosen formatOk waits body s = s.ended e rest stFormat 0 := by
  obtain ⟨⟨h1, h2, h3, h4, h5, h6, h7⟩, hr⟩ := h
  rw [State.take_front h6, ← State.finishEntry_eq (rest := rest) _ _ hr]
  simp [State.takeFront, h1, h2, h3, h4, h5, hc, hf]

/-- A descriptor at the front that another command takes, or that may not be taken now, changes nothing. -/
theorem State.take_other (h0 : s.hif.parked = []) (h1 : s.hif.window = e :: rest) (hc : chosen e = false ∨ s.canTake e = false) :
    State.take chosen formatOk waits body s = s := by
  rw [State.take_front h0]
  rcases hc with hc | hc <;> simp [State.takeFront, h1, hc]

/-- An empty window gives nothing to take. -/
theorem State.take_nothing (h0 : s.hif.parked = []) (h1 : s.hif.window = []) : State.take chosen formatOk waits body s = s := by
  rw [State.take_front h0]; simp [State.takeFront, h1]

/-- In a fatal state a descriptor ends with REF_FATAL (R573). -/
theorem State.take_fatal (h0 : s.hif.parked = []) (h1 : s.hif.window = e :: rest) (h2 : s.canTake e = true)
    (h3 : s.fld .hif 0 (0x408 + 0x20 * e.ring) 0 0 = 1) (h4 : s.ref.faulted = true) (hr : s.room e.ringByte = true)
    (hc : chosen e = true) : State.take chosen formatOk waits body s = s.ended e rest stFatal 0 := by
  rw [State.take_front h0, ← State.finishEntry_eq (rest := rest) _ _ hr]
  simp [State.takeFront, h1, h2, h3, h4, hc]

/-- A descriptor whose completion ring is off is dropped, and CMD_RING_OFF records it (R553). -/
theorem State.take_ringOff (h0 : s.hif.parked = []) (h1 : s.hif.window = e :: rest) (h2 : s.canTake e = true)
    (h3 : s.fld .hif 0 (0x408 + 0x20 * e.ring) 0 0 = 0) (hc : chosen e = true) :
    State.take chosen formatOk waits body s =
      State.raise .hif 0 3 e.tag 0 (e.seq + e.opcode * 2 ^ 32) 0 { s with hif.window := rest } := by
  rw [State.take_front h0]; simp [State.takeFront, h1, h2, h3, hc]

end take

end Sys2Proof.Machine
end

