-- ==== Sys2Proof/Laws/Dev.lean ====
section
/-! SUPPORT. Reads and writes of device memory where nothing stands in their way: what `State.devRead` and `State.devWrite` answer, said
once. -/

namespace Sys2Proof.Machine

/-! ### Pieces of a range -/

theorem piecesOf_bound (u : Nat) (hu : 0 < u) (f a n : Nat) :
    ∀ p ∈ piecesOf u f a n, a ≤ p.1 ∧ p.1 + p.2 ≤ a + n ∧ 0 < p.2 := by
  induction f generalizing a n with
  | zero => simp [piecesOf]
  | succ f ih =>
    intro p hp
    simp only [piecesOf] at hp
    split at hp
    · simp at hp
    · have hm := Nat.mod_lt a hu
      simp only [List.mem_cons] at hp
      rcases hp with rfl | hp
      · simp only; omega
      · have := ih _ _ p hp
        omega

/-- Enough pieces cover the whole range. -/
theorem piecesOf_sum (u : Nat) (hu : 0 < u) (f a n : Nat) (h : n + a % u ≤ u * f) :
    ((piecesOf u f a n).map Prod.snd).sum = n := by
  induction f generalizing a n with
  | zero => simp [piecesOf]; omega
  | succ f ih =>
    simp only [piecesOf]
    split
    · simp_all
    · have hm := Nat.mod_lt a hu
      simp only [List.map_cons, List.sum_cons]
      by_cases hc : n ≤ u - a % u
      · have : min n (u - a % u) = n := by omega
        rw [this]
        have : piecesOf u f (a + n) (n - n) = [] := by
          cases f <;> simp [piecesOf]
        rw [this]; simp
      · have he : min n (u - a % u) = u - a % u := by omega
        rw [he]
        have hz : (a + (u - a % u)) % u = 0 := by
          have := Nat.div_add_mod a u
          have h2 : a + (u - a % u) = u * (a / u + 1) := by rw [Nat.mul_add]; omega
          rw [h2]; simp
        rw [ih]
        · omega
        · rw [hz]
          rw [Nat.mul_add] at h
          omega

theorem Mem.read_append (m : Mem) (a j k : Nat) : m.read a (j + k) = m.read a j ++ m.read (a + j) k := by
  simp only [Mem.read, List.range_add, List.map_append, List.map_map]
  congr 1
  apply List.map_congr_left
  intro i _
  simp [Nat.add_assoc]

theorem piecesOf_read (m : Mem) (u : Nat) (f a n : Nat) (h : ((piecesOf u f a n).map Prod.snd).sum = n) :
    (piecesOf u f a n).flatMap (fun p => m.read p.1 p.2) = m.read a n := by
  induction f generalizing a n with
  | zero => simp [piecesOf] at h; subst h; simp [piecesOf, Mem.read]
  | succ f ih =>
    simp only [piecesOf] at h ⊢
    split
    · simp_all [Mem.read]
    · rename_i hn
      simp only [hn, if_false, List.map_cons, List.sum_cons] at h
      simp only [List.flatMap_cons]
      rw [ih]
      · rw [← Mem.read_append]
        congr 1; omega
      · omega

/-! ### Where a range is plain -/

/-- The pieces of a plain range in normal service: each lies in the range, in one stack. -/
theorem Plain_pieces (s : State) (a n : Nat) (h : s.Plain a n) :
    s.devPieces a n = piecesOf (2 ^ 36) (n / 2 ^ 36 + 2) a n := by
  simp [State.devPieces, h.1]

theorem Plain_unit (s : State) (a n : Nat) (h : s.Plain a n) (p : Nat × Nat) (hp : p ∈ s.devPieces a n) :
    (s.stack (p.1 / 2 ^ 36)).Clean a n ∧ s.clockStopped (lb4Mux (p.1 / 2 ^ 36)) = false := by
  rw [Plain_pieces s a n h] at hp
  have hb := piecesOf_bound (2 ^ 36) (by decide) _ _ _ p hp
  apply h.2.2.2.2 (p.1 / 2 ^ 36)
  · have := Nat.div_add_mod p.1 (2 ^ 36)
    have := Nat.mod_lt p.1 (show 0 < 2 ^ 36 by decide)
    omega
  · have := Nat.div_add_mod p.1 (2 ^ 36)
    omega

theorem Plain_stack (s : State) (a n : Nat) (h : s.Plain a n) (p : Nat × Nat) (hp : p ∈ s.devPieces a n) :
    (s.stack (p.1 / 2 ^ 36)).Clean a n := (Plain_unit s a n h p hp).1

theorem Plain_online (s : State) (a n : Nat) (w : Bool) (h : s.Plain a n) : s.devOffline w (s.devPieces a n) = false := by
  simp only [State.devOffline, List.any_eq_false]
  intro p hp
  have := (Plain_stack s a n h p hp).1
  simp [-Nat.reducePow, this]

theorem Plain_free (s : State) (a n : Nat) (h : s.Plain a n) : s.devBusy a n = false := by
  simp only [State.devBusy, List.any_eq_false]
  intro p hp
  obtain ⟨⟨_, h1, h2, _⟩, h3⟩ := Plain_unit s a n h p hp
  simp [-Nat.reducePow, h1, h2, h3]

theorem Plain_awake (s : State) (a n : Nat) (h : s.Plain a n) : s.wake (s.devPieces a n) = s := by
  have : ∀ ps : List (Nat × Nat), (∀ p ∈ ps, (s.stack (p.1 / 2 ^ 36)).state = 1) → s.wake ps = s := by
    intro ps
    induction ps with
    | nil => intro _; rfl
    | cons p ps ih =>
      intro hs
      simp only [State.wake, List.foldl_cons]
      have h1 := hs p (by simp)
      simp only [h1, show (1 : Nat) = 2 ↔ False by decide, if_false]
      exact ih (fun q hq => hs q (by simp [hq]))
  exact this _ (fun p hp => (Plain_stack s a n h p hp).1)

theorem Plain_sound (s : State) (a n : Nat) (h : s.Plain a n) : s.devBad (s.devPieces a n) = none := by
  simp only [State.devBad, List.findSome?_eq_none_iff]
  intro p hp
  obtain ⟨_, _, _, h1, h2⟩ := Plain_stack s a n h p hp
  rw [Plain_pieces s a n h] at hp
  have hb := piecesOf_bound (2 ^ 36) (by decide) _ _ _ p hp
  have e1 : (s.stack (p.1 / 2 ^ 36)).lost.find? (meetsUnit 128 p) = none := by
    rw [List.find?_eq_none]
    intro l hl
    have := h1 l hl
    simp [meetsUnit]; omega
  have e2 : (s.stack (p.1 / 2 ^ 36)).bad.find? (meetsUnit 32 p) = none := by
    rw [List.find?_eq_none]
    intro l hl
    have := h2 l hl
    simp [meetsUnit]; omega
  simp [-Nat.reducePow, e1, e2]

theorem Plain_unheld (s : State) (a n : Nat) (h : s.Plain a n) : ∀ p ∈ s.devPieces a n, s.holdsIn p.1 p.2 = false := by
  intro p hp
  rw [Plain_pieces s a n h] at hp
  have hb := piecesOf_bound (2 ^ 36) (by decide) _ _ _ p hp
  have hh := h.2.2.1
  simp only [State.holdsIn, List.any_eq_false] at hh ⊢
  intro r hr
  have := hh r hr
  simp at this ⊢
  omega

/-- A read of a plain range answers its bytes and leaves the state as it was. -/
theorem devReadAs_plain (s : State) (kind : Option Nat) (who a n : Nat) (h : s.Plain a n) :
    s.devReadAs kind who a n = (0, s.dev.read a n, s) := by
  have hb : ∀ (ps : List (Nat × Nat)) (k : Nat), (∀ p ∈ ps, s.holdsIn p.1 p.2 = false) →
      s.devBytesOf k ps = ps.flatMap (fun p => s.dev.read p.1 p.2) := by
    intro ps
    induction ps with
    | nil => intro k _; rfl
    | cons p ps ih =>
      intro k hs
      simp only [State.devBytesOf, List.flatMap_cons, State.devBytesAt, hs p (by simp)]
      rw [ih _ (fun q hq => hs q (by simp [hq]))]
      simp
  have hu := Plain_unheld s a n h
  have ha : (s.devPieces a n).any (fun p => s.holdsIn p.1 p.2) = false := by
    simp only [List.any_eq_false]; intro p hp; simp [hu p hp]
  have hlt : ¬ devBytes < a + n := by have := h.2.1; omega
  have hr : (s.devPieces a n).flatMap (fun p => s.dev.read p.1 p.2) = s.dev.read a n := by
    rw [Plain_pieces s a n h]
    apply piecesOf_read
    apply piecesOf_sum _ (by decide)
    have := Nat.mod_lt a (show 0 < 2 ^ 36 by decide)
    have := Nat.div_add_mod n (2 ^ 36)
    have := Nat.mod_lt n (show 0 < 2 ^ 36 by decide)
    rw [Nat.mul_add]; omega
  simp [State.devReadAs, Plain_online s a n false h, Plain_sound s a n h, Plain_awake s a n h, ha, hlt, hb _ 0 hu, hr]

theorem devRead_plain (s : State) (who a n : Nat) (h : s.Plain a n) : s.devRead who a n = (0, s.dev.read a n, s) :=
  devReadAs_plain s none who a n h

/-! ### Writes -/

theorem Mem.cells_append (a : Nat) (b c : List Byte) : Mem.cells a (b ++ c) = Mem.cells a b ++ Mem.cells (a + b.length) c := by
  induction b generalizing a with
  | nil => rfl
  | cons x b ih =>
    simp only [List.cons_append, Mem.cells, List.length_cons, ih]
    have : a + 1 + b.length = a + (b.length + 1) := by omega
    split <;> simp [this]

/-- Bytes written in two parts, one after the other. -/
theorem Mem.write_append (m : Mem) (a : Nat) (b c : List Byte) : m.write a (b ++ c) = (m.write a b).write (a + b.length) c := by
  have hc := Mem.cells_range a b
  simp only [Mem.write, Mem.cells_append, List.filter_append, List.filter_filter, List.length_append]
  have e1 : (Mem.cells a b).filter (fun c => decide (c.1 < a + b.length)) = Mem.cells a b := by
    rw [List.filter_eq_self]; intro x hx; have := hc x hx; simp; omega
  have e2 : (Mem.cells a b).filter (fun x => decide (a + b.length + c.length ≤ x.1)) = [] := by
    rw [List.filter_eq_nil_iff]; intro x hx; have := hc x hx; simp; omega
  have e3 : m.filter (fun x => decide (x.1 < a + b.length) && decide (x.1 < a)) = m.filter (fun x => decide (x.1 < a)) := by
    apply List.filter_congr; intro x _; by_cases h : x.1 < a <;> simp [h]; omega
  have e4 : m.filter (fun x => decide (x.1 < a + b.length) && decide (a + b.length ≤ x.1)) = [] := by
    rw [List.filter_eq_nil_iff]; intro x _; simp
  have e5 : m.filter (fun x => decide (a + b.length + c.length ≤ x.1) && decide (x.1 < a)) = [] := by
    rw [List.filter_eq_nil_iff]; intro x _; simp; omega
  have e6 : m.filter (fun x => decide (a + b.length + c.length ≤ x.1) && decide (a + b.length ≤ x.1)) =
      m.filter (fun x => decide (a + b.length + c.length ≤ x.1)) := by
    apply List.filter_congr; intro x _; by_cases h : a + b.length + c.length ≤ x.1 <;> simp [h]; omega
  rw [e1, e2, e3, e4, e5, e6]
  simp [Nat.add_assoc]

theorem Stack.Clean_dirty (k : Stack) (d : List Nat) (a n : Nat) (h : k.Clean a n) : ({ k with dirty := d } : Stack).Clean a n := h

theorem Stack.Clean_sub (k : Stack) (a n b m : Nat) (h : k.Clean a n) (h1 : a ≤ b) (h2 : b + m ≤ a + n) : k.Clean b m := by
  obtain ⟨c1, c2, c3, c4, c5⟩ := h
  refine ⟨c1, c2, c3, ?_, ?_⟩
  · intro l hl; have := c4 l hl; omega
  · intro l hl; have := c5 l hl; omega

theorem devPut_clean (s : State) (p : Nat × Nat) (bs : List Byte) (h : (s.stack (p.1 / 2 ^ 36)).Clean p.1 p.2) :
    (s.devPut p bs).2 = none ∧ s.Stored (s.devPut p bs).1 p.1 bs := by
  obtain ⟨_, _, _, h1, h2⟩ := h
  have e1 : (s.stack (p.1 / 2 ^ 36)).lost.filter (fun l => meetsUnit 128 p l && !coversUnit 128 p l) = [] := by
    rw [List.filter_eq_nil_iff]; intro l hl; have := h1 l hl; simp [meetsUnit]; omega
  have e2 : (s.stack (p.1 / 2 ^ 36)).bad.filter (fun l => meetsUnit 32 p l && !coversUnit 32 p l) = [] := by
    rw [List.filter_eq_nil_iff]; intro l hl; have := h2 l hl; simp [meetsUnit]; omega
  have e3 : (s.stack (p.1 / 2 ^ 36)).lost.filter (fun l => !coversUnit 128 p l) = (s.stack (p.1 / 2 ^ 36)).lost := by
    rw [List.filter_eq_self]; intro l hl; have := h1 l hl; simp [coversUnit]; omega
  have e4 : (s.stack (p.1 / 2 ^ 36)).bad.filter (fun l => !coversUnit 32 p l) = (s.stack (p.1 / 2 ^ 36)).bad := by
    rw [List.filter_eq_self]; intro l hl; have := h2 l hl; simp [coversUnit]; omega
  simp only [State.devPut, e1, e2, e3, e4, List.foldl_nil]
  refine ⟨trivial, rfl, ?_⟩
  intro i
  by_cases hi : i = p.1 / 2 ^ 36
  · subst hi; exact ⟨_, State.stack_setStack _ _ _⟩
  · exact ⟨_, State.stack_setStack_other _ _ _ _ hi⟩

theorem Stored_trans (s t u : State) (a : Nat) (b c : List Byte) (h1 : s.Stored t a b) (h2 : t.Stored u (a + b.length) c) :
    s.Stored u a (b ++ c) := by
  obtain ⟨h1, k1⟩ := h1
  obtain ⟨h2, k2⟩ := h2
  refine ⟨?_, fun i => ?_⟩
  · rw [h2]
    rw [h1]
    simp [Mem.write_append]
  · obtain ⟨d, hd⟩ := k1 i
    obtain ⟨e, he⟩ := k2 i
    exact ⟨e, by rw [he, hd]⟩

theorem devPutAll_clean (s : State) (f a n : Nat) (bs : List Byte) (hn : bs.length = n) (h0 : 0 < n)
    (hs : ((piecesOf (2 ^ 36) f a n).map Prod.snd).sum = n)
    (hc : ∀ p ∈ piecesOf (2 ^ 36) f a n, (s.stack (p.1 / 2 ^ 36)).Clean p.1 p.2) :
    (s.devPutAll (piecesOf (2 ^ 36) f a n) bs).2 = none ∧ s.Stored (s.devPutAll (piecesOf (2 ^ 36) f a n) bs).1 a bs := by
  induction f generalizing s a n bs with
  | zero => simp [piecesOf] at hs; omega
  | succ f ih =>
    have hz : ¬ n = 0 := by omega
    simp only [piecesOf, hz, if_false] at hs hc ⊢
    generalize hk : min n (2 ^ 36 - a % 2 ^ 36) = k at *
    have hkn : k ≤ n := by omega
    simp only [List.map_cons, List.sum_cons] at hs
    have hp := devPut_clean s (a, k) (bs.take k) (hc (a, k) (by simp))
    simp only [State.devPutAll]
    obtain ⟨hd, ht⟩ := hp
    rw [hd]
    generalize (State.devPut (a, k) (bs.take k) s).1 = t at *
    have hl : (bs.take k).length = k := by simp; omega
    by_cases hrest : n - k = 0
    · have : piecesOf (2 ^ 36) f (a + k) (n - k) = [] := by
        cases f <;> simp [piecesOf, hrest]
      have hb : bs.take k = bs := by rw [List.take_of_length_le]; omega
      rw [hb] at ht
      rw [this]
      exact ⟨rfl, ht⟩
    · have hi := ih t (a + k) (n - k) (bs.drop k) (by simp [hn]) (by omega) (by omega) (by
        intro p hp
        have := hc p (by simp [-Nat.reducePow, hp])
        obtain ⟨e, he⟩ := ht.2 (p.1 / 2 ^ 36)
        rw [he]; exact this)
      obtain ⟨he, hu⟩ := hi
      rw [he]
      generalize (t.devPutAll (piecesOf (2 ^ 36) f (a + k) (n - k)) (bs.drop k)).1 = u at *
      refine ⟨rfl, ?_⟩
      have := Stored_trans s t u a (bs.take k) (bs.drop k) ht (by rw [hl]; exact hu)
      rwa [List.take_append_drop] at this

/-- A write of a plain range succeeds and stores its bytes there. -/
theorem devWrite_plain (s : State) (who a : Nat) (bs : List Byte) (h0 : bs ≠ []) (h : s.Plain a bs.length) :
    ∃ t, s.devWrite who a bs = (0, t) ∧ s.Stored t a bs := by
  have hne : bs.isEmpty = false := by cases bs <;> simp_all
  have hlen : 0 < bs.length := by cases bs <;> simp_all
  have hlt : ¬ devBytes < a + bs.length := by have := h.2.1; omega
  have hsum : ((piecesOf (2 ^ 36) (bs.length / 2 ^ 36 + 2) a bs.length).map Prod.snd).sum = bs.length := by
    apply piecesOf_sum _ (by decide)
    have := Nat.mod_lt a (show 0 < 2 ^ 36 by decide)
    have := Nat.div_add_mod bs.length (2 ^ 36)
    have := Nat.mod_lt bs.length (show 0 < 2 ^ 36 by decide)
    rw [Nat.mul_add]; omega
  have hc : ∀ p ∈ piecesOf (2 ^ 36) (bs.length / 2 ^ 36 + 2) a bs.length, (s.stack (p.1 / 2 ^ 36)).Clean p.1 p.2 := by
    intro p hp
    have hb := piecesOf_bound (2 ^ 36) (by decide) _ _ _ p hp
    exact Stack.Clean_sub _ a bs.length _ _ (Plain_stack s a bs.length h p (by rw [Plain_pieces s a _ h]; exact hp)) hb.1 hb.2.1
  have hp := devPutAll_clean s _ a bs.length bs rfl hlen hsum hc
  have hw := Plain_awake s a bs.length h
  have ho := Plain_online s a bs.length true h
  rw [Plain_pieces s a _ h] at hw ho
  simp only [State.devWrite, hne, Bool.false_eq_true, if_false, Plain_pieces s a _ h, ho, hw, hlt, decide_false, Bool.or_false]
  generalize hq : s.devPutAll (piecesOf (2 ^ 36) (bs.length / 2 ^ 36 + 2) a bs.length) bs = q at *
  obtain ⟨t, d⟩ := q
  obtain ⟨hd, ht⟩ := hp
  simp only at hd
  subst hd
  exact ⟨t, rfl, ht⟩

end Sys2Proof.Machine
end

