-- ==== Sys2Proof/Laws/Err.lean ====
section
/-! SUPPORT. What recording an error does: the error bit that it sets, and what it leaves of the host interface, of the island and of
what was sent. -/

namespace Sys2Proof.Machine

theorem Page.at_mod (p : Page) (i : Nat) : p.at i % 0x1000 = 0 := by
  have h : p.base % 0x1000 = 0 ∧ p.stride % 0x1000 = 0 := by cases p <;> decide
  obtain ⟨h1, h2⟩ := h
  simp [Page.at, Nat.add_mod, Nat.mul_mod, h1, h2]

/-- Registers at different offsets within their pages are different registers. -/
theorem State.reg_setReg_off (p q : Page) (i j off o v : Nat) (s : State) (h1 : off < 0x1000) (h2 : o < 0x1000) (h : o ≠ off) :
    (s.setReg p i off v).reg q j o = s.reg q j o := by
  apply State.reg_setReg_other
  have := Page.at_mod p i
  have := Page.at_mod q j
  omega

theorem regReset_errStat (p : Page) (i : Nat) : regReset p i 0x20 = 0 := by cases p <;> rfl

theorem State.reg_errStat_lt (s : State) (p : Page) (i : Nat) : s.reg p i 0x20 < 2 ^ 64 := by
  simp only [State.reg, regReset_errStat, Nat.xor_zero]
  exact BitVec.isLt _

theorem State.setErrStat_regs (p : Page) (i v : Nat) (s : State) : (s.setErrStat p i v).regs = (s.setReg p i 0x20 v).regs := by
  simp only [State.setErrStat]; split <;> simp

theorem State.setErrStat_reg (p : Page) (i v : Nat) (s : State) (h : v < 2 ^ 64) : (s.setErrStat p i v).reg p i 0x20 = v := by
  rw [State.reg_congr _ _ _ _ _ (State.setErrStat_regs p i v s)]
  apply State.reg_setReg
  rw [regReset_errStat, Nat.xor_zero]; exact h

theorem State.setErrStat_reg_off (p q : Page) (i j v o : Nat) (s : State) (h : o < 0x1000) (h2 : o ≠ 0x20) :
    (s.setErrStat p i v).reg q j o = s.reg q j o := by
  rw [State.reg_congr _ _ _ _ _ (State.setErrStat_regs p i v s)]
  exact State.reg_setReg_off _ _ _ _ _ _ _ _ (by decide) h h2

theorem State.fatal_regs (s : State) : s.fatal.regs = (s.evtAdd .ref 0 6 1).regs := by
  simp [State.fatal, State.evtAdd, State.setReg, State.reg]

theorem State.fatal_reg (s : State) (p : Page) (i o : Nat) (h : o < 0x1000) (h2 : o ≠ 0xB0) : s.fatal.reg p i o = s.reg p i o := by
  rw [State.reg_congr _ _ _ _ _ (State.fatal_regs s)]
  exact State.reg_setReg_off _ _ _ _ _ _ _ _ (by decide) h h2

theorem setBit_lt (v b : Nat) (h : v < 2 ^ 64) (hb : b < 64) : setBit v b < 2 ^ 64 := by
  unfold setBit
  exact Nat.or_lt_two_pow h (Nat.pow_lt_pow_right (by decide) hb)

/-- An error recorded: its bit is set, and the other error bits of the page are as they were. -/
theorem State.raise_errStat (p : Page) (i b g x y z : Nat) (s : State) (hb : b < 64) :
    (s.raise p i b g x y z).reg p i 0x20 = setBit (s.reg p i 0x20) b := by
  have hs := State.reg_errStat_lt s p i
  have key : ∀ u : State, u.reg p i 0x20 = s.reg p i 0x20 →
      ((u.setErrStat p i (setBit (u.reg p i 0x20) b))).reg p i 0x20 = setBit (s.reg p i 0x20) b := by
    intro u hu
    rw [State.setErrStat_reg]
    · rw [hu]
    · rw [hu]; exact setBit_lt _ _ hs hb
  simp only [State.raise]
  have h1 : ∀ u : State, u.reg p i 0x20 = s.reg p i 0x20 → 
      ((if (match levelItem p b with | some k => ((u.setErrStat p i (setBit (u.reg p i 0x20) b)).sbAdd (0x1000 + 0x20 * p.type + b) 1).sbAdd k 1 | none => (u.setErrStat p i (setBit (u.reg p i 0x20) b)).sbAdd (0x1000 + 0x20 * p.type + b) 1).severity p i b == 2
        then ((match levelItem p b with | some k => ((u.setErrStat p i (setBit (u.reg p i 0x20) b)).sbAdd (0x1000 + 0x20 * p.type + b) 1).sbAdd k 1 | none => (u.setErrStat p i (setBit (u.reg p i 0x20) b)).sbAdd (0x1000 + 0x20 * p.type + b) 1).sbAdd 3 1).fatal
        else (match levelItem p b with | some k => ((u.setErrStat p i (setBit (u.reg p i 0x20) b)).sbAdd (0x1000 + 0x20 * p.type + b) 1).sbAdd k 1 | none => (u.setErrStat p i (setBit (u.reg p i 0x20) b)).sbAdd (0x1000 + 0x20 * p.type + b) 1)) : State).reg p i 0x20 =
        setBit (s.reg p i 0x20) b := by
    intro u hu
    have hk := key u hu
    rw [← hk]
    split <;> split
    · exact (State.fatal_reg _ p i 0x20 (by decide) (by decide)).trans (State.reg_congr _ _ _ _ _ (by simp only [State.sbAdd_regs]))
    · exact State.reg_congr _ _ _ _ _ (by simp only [State.sbAdd_regs])
    · exact (State.fatal_reg _ p i 0x20 (by decide) (by decide)).trans (State.reg_congr _ _ _ _ _ (by simp only [State.sbAdd_regs]))
    · exact State.reg_congr _ _ _ _ _ (by simp only [State.sbAdd_regs])
  apply h1
  split
  · rfl
  · simp only [State.reg_setReg_off _ _ _ _ _ _ _ _ (show 0x58 < 0x1000 by decide) (show 0x20 < 0x1000 by decide) (show 0x20 ≠ 0x58 by decide),
      State.reg_setReg_off _ _ _ _ _ _ _ _ (show 0x50 < 0x1000 by decide) (show 0x20 < 0x1000 by decide) (show 0x20 ≠ 0x50 by decide),
      State.reg_setReg_off _ _ _ _ _ _ _ _ (show 0x48 < 0x1000 by decide) (show 0x20 < 0x1000 by decide) (show 0x20 ≠ 0x48 by decide),
      State.reg_setReg_off _ _ _ _ _ _ _ _ (show 0x40 < 0x1000 by decide) (show 0x20 < 0x1000 by decide) (show 0x20 ≠ 0x40 by decide),
      State.reg_setReg_off _ _ _ _ _ _ _ _ (show 0x38 < 0x1000 by decide) (show 0x20 < 0x1000 by decide) (show 0x20 ≠ 0x38 by decide)]

theorem State.raise_errSet (p : Page) (i b g x y z : Nat) (s : State) (hb : b < 64) : (s.raise p i b g x y z).errSet p i b := by
  unfold State.errSet
  rw [State.raise_errStat p i b g x y z s hb]
  simp [setBit, Nat.testBit_or]

/-! ### What an error leaves of the host interface, of the island and of what was sent -/

@[simp] theorem State.sendVec_hif_window (v : Nat) (s : State) : (s.sendVec v).hif.window = s.hif.window := by
  simp only [State.sendVec]; split <;> rfl
@[simp] theorem State.errqPush_hif_window (g : Nat) (s : State) : (s.errqPush g).hif.window = s.hif.window := by
  simp only [State.errqPush]; split <;> rfl
@[simp] theorem State.setErrStat_hif_window (p : Page) (i v : Nat) (s : State) : (s.setErrStat p i v).hif.window = s.hif.window := by
  simp only [State.setErrStat]; split <;> simp
@[simp] theorem State.fatal_hif_window (s : State) : s.fatal.hif.window = s.hif.window := by
  simp [State.fatal]
@[simp] theorem State.raise_hif_window (p : Page) (i b g x y z : Nat) (s : State) : (s.raise p i b g x y z).hif.window = s.hif.window := by
  simp only [State.raise]; split <;> split <;> split <;> simp
@[simp] theorem State.sendVec_hif_seqNext (v : Nat) (s : State) : (s.sendVec v).hif.seqNext = s.hif.seqNext := by
  simp only [State.sendVec]; split <;> rfl
@[simp] theorem State.errqPush_hif_seqNext (g : Nat) (s : State) : (s.errqPush g).hif.seqNext = s.hif.seqNext := by
  simp only [State.errqPush]; split <;> rfl
@[simp] theorem State.setErrStat_hif_seqNext (p : Page) (i v : Nat) (s : State) : (s.setErrStat p i v).hif.seqNext = s.hif.seqNext := by
  simp only [State.setErrStat]; split <;> simp
@[simp] theorem State.fatal_hif_seqNext (s : State) : s.fatal.hif.seqNext = s.hif.seqNext := by
  simp [State.fatal]
@[simp] theorem State.raise_hif_seqNext (p : Page) (i b g x y z : Nat) (s : State) : (s.raise p i b g x y z).hif.seqNext = s.hif.seqNext := by
  simp only [State.raise]; split <;> split <;> split <;> simp
@[simp] theorem State.sendVec_hif_opened (v : Nat) (s : State) : (s.sendVec v).hif.opened = s.hif.opened := by
  simp only [State.sendVec]; split <;> rfl
@[simp] theorem State.errqPush_hif_opened (g : Nat) (s : State) : (s.errqPush g).hif.opened = s.hif.opened := by
  simp only [State.errqPush]; split <;> rfl
@[simp] theorem State.setErrStat_hif_opened (p : Page) (i v : Nat) (s : State) : (s.setErrStat p i v).hif.opened = s.hif.opened := by
  simp only [State.setErrStat]; split <;> simp
@[simp] theorem State.fatal_hif_opened (s : State) : s.fatal.hif.opened = s.hif.opened := by
  simp [State.fatal]
@[simp] theorem State.raise_hif_opened (p : Page) (i b g x y z : Nat) (s : State) : (s.raise p i b g x y z).hif.opened = s.hif.opened := by
  simp only [State.raise]; split <;> split <;> split <;> simp
@[simp] theorem State.sendVec_hif_waits (v : Nat) (s : State) : (s.sendVec v).hif.waits = s.hif.waits := by
  simp only [State.sendVec]; split <;> rfl
@[simp] theorem State.errqPush_hif_waits (g : Nat) (s : State) : (s.errqPush g).hif.waits = s.hif.waits := by
  simp only [State.errqPush]; split <;> rfl
@[simp] theorem State.setErrStat_hif_waits (p : Page) (i v : Nat) (s : State) : (s.setErrStat p i v).hif.waits = s.hif.waits := by
  simp only [State.setErrStat]; split <;> simp
@[simp] theorem State.fatal_hif_waits (s : State) : s.fatal.hif.waits = s.hif.waits := by
  simp [State.fatal]
@[simp] theorem State.raise_hif_waits (p : Page) (i b g x y z : Nat) (s : State) : (s.raise p i b g x y z).hif.waits = s.hif.waits := by
  simp only [State.raise]; split <;> split <;> split <;> simp
@[simp] theorem State.sendVec_hif_done (v : Nat) (s : State) : (s.sendVec v).hif.done = s.hif.done := by
  simp only [State.sendVec]; split <;> rfl
@[simp] theorem State.errqPush_hif_done (g : Nat) (s : State) : (s.errqPush g).hif.done = s.hif.done := by
  simp only [State.errqPush]; split <;> rfl
@[simp] theorem State.setErrStat_hif_done (p : Page) (i v : Nat) (s : State) : (s.setErrStat p i v).hif.done = s.hif.done := by
  simp only [State.setErrStat]; split <;> simp
@[simp] theorem State.fatal_hif_done (s : State) : s.fatal.hif.done = s.hif.done := by
  simp [State.fatal]
@[simp] theorem State.raise_hif_done (p : Page) (i b g x y z : Nat) (s : State) : (s.raise p i b g x y z).hif.done = s.hif.done := by
  simp only [State.raise]; split <;> split <;> split <;> simp
@[simp] theorem State.sendVec_hif_rings (v : Nat) (s : State) : (s.sendVec v).hif.rings = s.hif.rings := by
  simp only [State.sendVec]; split <;> rfl
@[simp] theorem State.errqPush_hif_rings (g : Nat) (s : State) : (s.errqPush g).hif.rings = s.hif.rings := by
  simp only [State.errqPush]; split <;> rfl
@[simp] theorem State.setErrStat_hif_rings (p : Page) (i v : Nat) (s : State) : (s.setErrStat p i v).hif.rings = s.hif.rings := by
  simp only [State.setErrStat]; split <;> simp
@[simp] theorem State.fatal_hif_rings (s : State) : s.fatal.hif.rings = s.hif.rings := by
  simp [State.fatal]
@[simp] theorem State.raise_hif_rings (p : Page) (i b g x y z : Nat) (s : State) : (s.raise p i b g x y z).hif.rings = s.hif.rings := by
  simp only [State.raise]; split <;> split <;> split <;> simp
@[simp] theorem State.sendVec_hif_inflight (v : Nat) (s : State) : (s.sendVec v).hif.inflight = s.hif.inflight := by
  simp only [State.sendVec]; split <;> rfl
@[simp] theorem State.errqPush_hif_inflight (g : Nat) (s : State) : (s.errqPush g).hif.inflight = s.hif.inflight := by
  simp only [State.errqPush]; split <;> rfl
@[simp] theorem State.setErrStat_hif_inflight (p : Page) (i v : Nat) (s : State) : (s.setErrStat p i v).hif.inflight = s.hif.inflight := by
  simp only [State.setErrStat]; split <;> simp
@[simp] theorem State.fatal_hif_inflight (s : State) : s.fatal.hif.inflight = s.hif.inflight := by
  simp [State.fatal]
@[simp] theorem State.raise_hif_inflight (p : Page) (i b g x y z : Nat) (s : State) : (s.raise p i b g x y z).hif.inflight = s.hif.inflight := by
  simp only [State.raise]; split <;> split <;> split <;> simp
@[simp] theorem State.sendVec_hif_msixMask (v : Nat) (s : State) : (s.sendVec v).hif.msixMask = s.hif.msixMask := by
  simp only [State.sendVec]; split <;> rfl
@[simp] theorem State.errqPush_hif_msixMask (g : Nat) (s : State) : (s.errqPush g).hif.msixMask = s.hif.msixMask := by
  simp only [State.errqPush]; split <;> rfl
@[simp] theorem State.setErrStat_hif_msixMask (p : Page) (i v : Nat) (s : State) : (s.setErrStat p i v).hif.msixMask = s.hif.msixMask := by
  simp only [State.setErrStat]; split <;> simp
@[simp] theorem State.fatal_hif_msixMask (s : State) : s.fatal.hif.msixMask = s.hif.msixMask := by
  simp [State.fatal]
@[simp] theorem State.raise_hif_msixMask (p : Page) (i b g x y z : Nat) (s : State) : (s.raise p i b g x y z).hif.msixMask = s.hif.msixMask := by
  simp only [State.raise]; split <;> split <;> split <;> simp
@[simp] theorem State.sendVec_hif_msixTable (v : Nat) (s : State) : (s.sendVec v).hif.msixTable = s.hif.msixTable := by
  simp only [State.sendVec]; split <;> rfl
@[simp] theorem State.errqPush_hif_msixTable (g : Nat) (s : State) : (s.errqPush g).hif.msixTable = s.hif.msixTable := by
  simp only [State.errqPush]; split <;> rfl
@[simp] theorem State.setErrStat_hif_msixTable (p : Page) (i v : Nat) (s : State) : (s.setErrStat p i v).hif.msixTable = s.hif.msixTable := by
  simp only [State.setErrStat]; split <;> simp
@[simp] theorem State.fatal_hif_msixTable (s : State) : s.fatal.hif.msixTable = s.hif.msixTable := by
  simp [State.fatal]
@[simp] theorem State.raise_hif_msixTable (p : Page) (i b g x y z : Nat) (s : State) : (s.raise p i b g x y z).hif.msixTable = s.hif.msixTable := by
  simp only [State.raise]; split <;> split <;> split <;> simp
@[simp] theorem State.sendVec_out_read (v : Nat) (s : State) : (s.sendVec v).out.read = s.out.read := by
  simp only [State.sendVec]; split <;> rfl
@[simp] theorem State.errqPush_out_read (g : Nat) (s : State) : (s.errqPush g).out.read = s.out.read := by
  simp only [State.errqPush]; split <;> rfl
@[simp] theorem State.setErrStat_out_read (p : Page) (i v : Nat) (s : State) : (s.setErrStat p i v).out.read = s.out.read := by
  simp only [State.setErrStat]; split <;> simp
@[simp] theorem State.fatal_out_read (s : State) : s.fatal.out.read = s.out.read := by
  simp [State.fatal]
@[simp] theorem State.raise_out_read (p : Page) (i b g x y z : Nat) (s : State) : (s.raise p i b g x y z).out.read = s.out.read := by
  simp only [State.raise]; split <;> split <;> split <;> simp
@[simp] theorem State.sendVec_out_bar2 (v : Nat) (s : State) : (s.sendVec v).out.bar2 = s.out.bar2 := by
  simp only [State.sendVec]; split <;> rfl
@[simp] theorem State.errqPush_out_bar2 (g : Nat) (s : State) : (s.errqPush g).out.bar2 = s.out.bar2 := by
  simp only [State.errqPush]; split <;> rfl
@[simp] theorem State.setErrStat_out_bar2 (p : Page) (i v : Nat) (s : State) : (s.setErrStat p i v).out.bar2 = s.out.bar2 := by
  simp only [State.setErrStat]; split <;> simp
@[simp] theorem State.fatal_out_bar2 (s : State) : s.fatal.out.bar2 = s.out.bar2 := by
  simp [State.fatal]
@[simp] theorem State.raise_out_bar2 (p : Page) (i b g x y z : Nat) (s : State) : (s.raise p i b g x y z).out.bar2 = s.out.bar2 := by
  simp only [State.raise]; split <;> split <;> split <;> simp
@[simp] theorem State.sendVec_out_mem (v : Nat) (s : State) : (s.sendVec v).out.mem = s.out.mem := by
  simp only [State.sendVec]; split <;> rfl
@[simp] theorem State.errqPush_out_mem (g : Nat) (s : State) : (s.errqPush g).out.mem = s.out.mem := by
  simp only [State.errqPush]; split <;> rfl
@[simp] theorem State.setErrStat_out_mem (p : Page) (i v : Nat) (s : State) : (s.setErrStat p i v).out.mem = s.out.mem := by
  simp only [State.setErrStat]; split <;> simp
@[simp] theorem State.fatal_out_mem (s : State) : s.fatal.out.mem = s.out.mem := by
  simp [State.fatal]
@[simp] theorem State.raise_out_mem (p : Page) (i b g x y z : Nat) (s : State) : (s.raise p i b g x y z).out.mem = s.out.mem := by
  simp only [State.raise]; split <;> split <;> split <;> simp
@[simp] theorem State.sendVec_out_mgmt (v : Nat) (s : State) : (s.sendVec v).out.mgmt = s.out.mgmt := by
  simp only [State.sendVec]; split <;> rfl
@[simp] theorem State.errqPush_out_mgmt (g : Nat) (s : State) : (s.errqPush g).out.mgmt = s.out.mgmt := by
  simp only [State.errqPush]; split <;> rfl
@[simp] theorem State.setErrStat_out_mgmt (p : Page) (i v : Nat) (s : State) : (s.setErrStat p i v).out.mgmt = s.out.mgmt := by
  simp only [State.setErrStat]; split <;> simp
@[simp] theorem State.fatal_out_mgmt (s : State) : s.fatal.out.mgmt = s.out.mgmt := by
  simp [State.fatal]
@[simp] theorem State.raise_out_mgmt (p : Page) (i b g x y z : Nat) (s : State) : (s.raise p i b g x y z).out.mgmt = s.out.mgmt := by
  simp only [State.raise]; split <;> split <;> split <;> simp
@[simp] theorem State.sendVec_out_frames (v : Nat) (s : State) : (s.sendVec v).out.frames = s.out.frames := by
  simp only [State.sendVec]; split <;> rfl
@[simp] theorem State.errqPush_out_frames (g : Nat) (s : State) : (s.errqPush g).out.frames = s.out.frames := by
  simp only [State.errqPush]; split <;> rfl
@[simp] theorem State.setErrStat_out_frames (p : Page) (i v : Nat) (s : State) : (s.setErrStat p i v).out.frames = s.out.frames := by
  simp only [State.setErrStat]; split <;> simp
@[simp] theorem State.fatal_out_frames (s : State) : s.fatal.out.frames = s.out.frames := by
  simp [State.fatal]
@[simp] theorem State.raise_out_frames (p : Page) (i b g x y z : Nat) (s : State) : (s.raise p i b g x y z).out.frames = s.out.frames := by
  simp only [State.raise]; split <;> split <;> split <;> simp
@[simp] theorem State.sendVec_out_pause (v : Nat) (s : State) : (s.sendVec v).out.pause = s.out.pause := by
  simp only [State.sendVec]; split <;> rfl
@[simp] theorem State.errqPush_out_pause (g : Nat) (s : State) : (s.errqPush g).out.pause = s.out.pause := by
  simp only [State.errqPush]; split <;> rfl
@[simp] theorem State.setErrStat_out_pause (p : Page) (i v : Nat) (s : State) : (s.setErrStat p i v).out.pause = s.out.pause := by
  simp only [State.setErrStat]; split <;> simp
@[simp] theorem State.fatal_out_pause (s : State) : s.fatal.out.pause = s.out.pause := by
  simp [State.fatal]
@[simp] theorem State.raise_out_pause (p : Page) (i b g x y z : Nat) (s : State) : (s.raise p i b g x y z).out.pause = s.out.pause := by
  simp only [State.raise]; split <;> split <;> split <;> simp
@[simp] theorem State.sendVec_out_flits (v : Nat) (s : State) : (s.sendVec v).out.flits = s.out.flits := by
  simp only [State.sendVec]; split <;> rfl
@[simp] theorem State.errqPush_out_flits (g : Nat) (s : State) : (s.errqPush g).out.flits = s.out.flits := by
  simp only [State.errqPush]; split <;> rfl
@[simp] theorem State.setErrStat_out_flits (p : Page) (i v : Nat) (s : State) : (s.setErrStat p i v).out.flits = s.out.flits := by
  simp only [State.setErrStat]; split <;> simp
@[simp] theorem State.fatal_out_flits (s : State) : s.fatal.out.flits = s.out.flits := by
  simp [State.fatal]
@[simp] theorem State.raise_out_flits (p : Page) (i b g x y z : Nat) (s : State) : (s.raise p i b g x y z).out.flits = s.out.flits := by
  simp only [State.raise]; split <;> split <;> split <;> simp
@[simp] theorem State.sendVec_out_spdm (v : Nat) (s : State) : (s.sendVec v).out.spdm = s.out.spdm := by
  simp only [State.sendVec]; split <;> rfl
@[simp] theorem State.errqPush_out_spdm (g : Nat) (s : State) : (s.errqPush g).out.spdm = s.out.spdm := by
  simp only [State.errqPush]; split <;> rfl
@[simp] theorem State.setErrStat_out_spdm (p : Page) (i v : Nat) (s : State) : (s.setErrStat p i v).out.spdm = s.out.spdm := by
  simp only [State.setErrStat]; split <;> simp
@[simp] theorem State.fatal_out_spdm (s : State) : s.fatal.out.spdm = s.out.spdm := by
  simp [State.fatal]
@[simp] theorem State.raise_out_spdm (p : Page) (i b g x y z : Nat) (s : State) : (s.raise p i b g x y z).out.spdm = s.out.spdm := by
  simp only [State.raise]; split <;> split <;> split <;> simp

/-- An error changes nothing of the island but FAULT_N and FAULTED, which a fatal one sets. -/
theorem State.raise_ref_cases (p : Page) (i b g x y z : Nat) (s : State) :
    (s.raise p i b g x y z).ref = s.ref ∨ (s.raise p i b g x y z).ref = { s.ref with faultN := true, faulted := true } := by
  simp only [State.raise]; split <;> split <;> split <;> simp [State.fatal]

end Sys2Proof.Machine
end

