-- ==== Sys2Proof/Laws/Regs.lean ====
section
/-! SUPPORT. What a write of a register does to its fields, said once: bit fields, the address map of BAR0, and the fields that a write
gives a value. -/

namespace Sys2Proof.Machine

/-! ### Bit fields -/

theorem bits_eq (n hi lo : Nat) : bits n hi lo = n / 2 ^ lo % 2 ^ (hi + 1 - lo) := by
  simp [bits, Nat.shiftRight_eq_div_pow]

theorem bits_lt (n hi lo : Nat) : bits n hi lo < 2 ^ (hi + 1 - lo) := Nat.mod_lt _ (by positivity)

theorem setBits_parts (n hi lo v : Nat) (h : lo ≤ hi) :
    setBits n hi lo v = n % 2 ^ lo + 2 ^ lo * (v % 2 ^ (hi + 1 - lo) + 2 ^ (hi + 1 - lo) * (n / 2 ^ (hi + 1))) := by
  have e1 : n = n % 2 ^ lo + 2 ^ lo * (n / 2 ^ lo) := (Nat.mod_add_div n (2 ^ lo)).symm
  have e2 : n / 2 ^ lo = n / 2 ^ lo % 2 ^ (hi + 1 - lo) + 2 ^ (hi + 1 - lo) * (n / 2 ^ lo / 2 ^ (hi + 1 - lo)) :=
    (Nat.mod_add_div _ _).symm
  have e3 : n / 2 ^ lo / 2 ^ (hi + 1 - lo) = n / 2 ^ (hi + 1) := by
    rw [Nat.div_div_eq_div_mul, ← Nat.pow_add]; congr 2; omega
  rw [e3] at e2
  simp only [setBits, bits_eq]
  generalize n / 2 ^ lo % 2 ^ (hi + 1 - lo) = b at *
  generalize n / 2 ^ (hi + 1) = c at *
  generalize 2 ^ (hi + 1 - lo) = w at *
  generalize v % w = x
  have : n = n % 2 ^ lo + b * 2 ^ lo + 2 ^ lo * (w * c) := by
    conv => lhs; rw [e1, e2]
    rw [Nat.mul_add, Nat.mul_comm b]; omega
  have h2 : 2 ^ lo * (x + w * c) = x * 2 ^ lo + 2 ^ lo * (w * c) := by rw [Nat.mul_add, Nat.mul_comm x]
  omega

/-- A field just set reads as what was put into it. -/
theorem bits_setBits (n hi lo v : Nat) (h : lo ≤ hi) : bits (setBits n hi lo v) hi lo = v % 2 ^ (hi + 1 - lo) := by
  rw [setBits_parts n hi lo v h, bits_eq]
  rw [Nat.add_mul_div_left _ _ (by positivity), Nat.div_eq_of_lt (Nat.mod_lt _ (by positivity)), Nat.zero_add,
    Nat.add_mul_mod_self_left, Nat.mod_mod]

/-- Other fields read as before. -/
theorem bits_setBits_other (n hi lo v h l : Nat) (hl : lo ≤ hi) (h2 : l ≤ h) (hd : h < lo ∨ hi < l) :
    bits (setBits n hi lo v) h l = bits n h l := by
  rw [setBits_parts n hi lo v hl]
  rcases hd with hd | hd
  · -- below
    have key : ∀ m : Nat, bits m h l = m % 2 ^ lo / 2 ^ l % 2 ^ (h + 1 - l) := by
      intro m
      rw [bits_eq]
      have hp : (2 : Nat) ^ lo = 2 ^ l * 2 ^ (h + 1 - l) * 2 ^ (lo - (h + 1)) := by
        rw [← Nat.pow_add, ← Nat.pow_add]; congr 1; omega
      rw [hp, Nat.mul_assoc, Nat.mod_mul_right_div_self, Nat.mod_mul_right_mod]
    rw [key, key n]
    congr 2
    rw [Nat.add_mul_mod_self_left, Nat.mod_mod]
  · have key : ∀ m : Nat, bits m h l = m / 2 ^ (hi + 1) / 2 ^ (l - (hi + 1)) % 2 ^ (h + 1 - l) := by
      intro m
      rw [bits_eq, Nat.div_div_eq_div_mul, ← Nat.pow_add]; congr 3; omega
    rw [key, key n]
    congr 2
    have : (2 : Nat) ^ (hi + 1) = 2 ^ lo * 2 ^ (hi + 1 - lo) := by rw [← Nat.pow_add]; congr 1; omega
    conv => lhs; rw [this, ← Nat.div_div_eq_div_mul]
    rw [Nat.add_mul_div_left _ _ (by positivity), Nat.div_eq_of_lt (Nat.mod_lt _ (by positivity)), Nat.zero_add,
      Nat.add_mul_div_left _ _ (by positivity), Nat.div_eq_of_lt (Nat.mod_lt _ (by positivity)), Nat.zero_add, this]

theorem setBits_lt (n hi lo v : Nat) (h : lo ≤ hi) (hh : hi < 64) (hn : n < 2 ^ 64) : setBits n hi lo v < 2 ^ 64 := by
  rw [setBits_parts n hi lo v h]
  have h1 : n / 2 ^ (hi + 1) < 2 ^ (64 - (hi + 1)) := by
    rw [Nat.div_lt_iff_lt_mul (by positivity), ← Nat.pow_add]
    have : 64 - (hi + 1) + (hi + 1) = 64 := by omega
    rw [this]; exact hn
  have h2 : v % 2 ^ (hi + 1 - lo) < 2 ^ (hi + 1 - lo) := Nat.mod_lt _ (by positivity)
  have h3 : n % 2 ^ lo < 2 ^ lo := Nat.mod_lt _ (by positivity)
  have h4 : v % 2 ^ (hi + 1 - lo) + 2 ^ (hi + 1 - lo) * (n / 2 ^ (hi + 1)) < 2 ^ (64 - lo) := by
    have : (2 : Nat) ^ (64 - lo) = 2 ^ (hi + 1 - lo) * 2 ^ (64 - (hi + 1)) := by rw [← Nat.pow_add]; congr 1; omega
    rw [this]
    generalize 2 ^ (hi + 1 - lo) = w at *
    calc _ < w + w * (n / 2 ^ (hi + 1)) := by omega
      _ = w * (n / 2 ^ (hi + 1) + 1) := by ring
      _ ≤ _ := Nat.mul_le_mul_left _ h1
  have : (2 : Nat) ^ 64 = 2 ^ lo * 2 ^ (64 - lo) := by rw [← Nat.pow_add]; congr 1; omega
  rw [this]
  generalize 2 ^ lo = w at *
  calc _ < w + w * (v % 2 ^ (hi + 1 - lo) + 2 ^ (hi + 1 - lo) * (n / 2 ^ (hi + 1))) := by omega
    _ = w * (v % 2 ^ (hi + 1 - lo) + 2 ^ (hi + 1 - lo) * (n / 2 ^ (hi + 1)) + 1) := by ring
    _ ≤ _ := Nat.mul_le_mul_left _ h4

/-! ### The address map -/

/-- What a page makes of a BAR0 offset. -/
theorem pageOf_hit (p q : Page) (i off : Nat) (hi : i < p.count) (ho : off < 0x1000) (hq : q ≠ p) :
    (if q.stride = 0 then
        (if q.base ≤ p.at i + off ∧ p.at i + off < q.base + 0x1000 then some (q, 0, p.at i + off - q.base) else none)
      else
        let j := (p.at i + off - q.base) / q.stride
        if q.base ≤ p.at i + off ∧ j < q.count ∧ (p.at i + off - q.base) % q.stride < 0x1000 then
          some (q, j, (p.at i + off - q.base) % q.stride)
        else none) = (none : Option (Page × Nat × Nat)) := by
  cases p <;> cases q <;> first
    | exact absurd rfl hq
    | (split
       · split
         · rename_i h; simp only [Page.at, Page.base, Page.stride, Page.count] at h hi; omega
         · rfl
       · dsimp only
         split
         · rename_i h; simp only [Page.at, Page.base, Page.stride, Page.count] at h hi; omega
         · rfl)

/-- Every page's instances and offsets lie where `pageOf` finds them (R560). -/
theorem pageOf_at (p : Page) (i off : Nat) (hi : i < p.count) (ho : off < 0x1000) : pageOf (p.at i + off) = some (p, i, off) := by
  have hself : (if p.stride = 0 then
        (if p.base ≤ p.at i + off ∧ p.at i + off < p.base + 0x1000 then some (p, 0, p.at i + off - p.base) else none)
      else
        let j := (p.at i + off - p.base) / p.stride
        if p.base ≤ p.at i + off ∧ j < p.count ∧ (p.at i + off - p.base) % p.stride < 0x1000 then
          some (p, j, (p.at i + off - p.base) % p.stride)
        else none) = some (p, i, off) := by
    cases p <;>
      (split
       · split
         · rename_i h1 h; simp only [Page.at, Page.base, Page.stride, Page.count] at h hi h1
           simp only [Page.at, Page.base, Page.stride, Option.some.injEq, Prod.mk.injEq, true_and]; omega
         · rename_i h1 h; simp only [Page.at, Page.base, Page.stride, Page.count] at h hi h1; omega
       · dsimp only
         split
         · rename_i h1 h; simp only [Page.at, Page.base, Page.stride, Page.count] at h hi h1
           simp only [Page.at, Page.base, Page.stride, Option.some.injEq, Prod.mk.injEq, true_and]; omega
         · rename_i h1 h; simp only [Page.at, Page.base, Page.stride, Page.count] at h hi h1; omega)
  have hmem : p ∈ Page.all := by cases p <;> decide
  unfold pageOf
  have key : ∀ l : List Page, p ∈ l → l.findSome? (fun q =>
      if q.stride = 0 then
        (if q.base ≤ p.at i + off ∧ p.at i + off < q.base + 0x1000 then some (q, 0, p.at i + off - q.base) else none)
      else
        let j := (p.at i + off - q.base) / q.stride
        if q.base ≤ p.at i + off ∧ j < q.count ∧ (p.at i + off - q.base) % q.stride < 0x1000 then
          some (q, j, (p.at i + off - q.base) % q.stride)
        else none) = some (p, i, off) := by
    intro l
    induction l with
    | nil => simp
    | cons q l ih =>
      intro hm
      rw [List.findSome?_cons]
      by_cases hq : q = p
      · subst hq; rw [hself]
      · rw [pageOf_hit p q i off hi ho hq]
        exact ih (by simpa [Ne.symm hq] using hm)
  exact key _ hmem

/-! ### A write of eight bytes -/

theorem bar0_addr (p : Page) (i off : Nat) (h8 : off % 8 = 0) : (p.at i + off) % 8 = 0 := by
  have := Page.at_mod p i; omega

/-- A write of a register of a page that serves writes is the write of its fields. -/
theorem State.pageWrite_served (s : State) (p : Page) (i off data : Nat) (h : s.Serves p i) (ho : off < 0x1000) (h8 : off % 8 = 0) :
    s.pageWrite p i off data = s.regWritten p i off (data % 2 ^ 64) (2 ^ 64 - 1) := by
  obtain ⟨h1, h2, h3, h4⟩ := h
  have ha := bar0_addr p i off h8
  have he : off / 8 * 8 = off := by omega
  simp [State.pageWrite, h3, h4, State.bar0Write, h1, bar0Fits, ha, pageOf_at p i off h3 ho, h2, writeData, writeMask, he]

/-- A write of eight bytes at a register's address likewise. -/
theorem State.bar0Write_served (s : State) (p : Page) (i off data : Nat) (h : s.Serves p i) (ho : off < 0x1000) (h8 : off % 8 = 0) :
    s.bar0Write (p.at i + off) 8 data = s.regWritten p i off (data % 2 ^ 64) (2 ^ 64 - 1) := by
  rw [← State.pageWrite_served s p i off data h ho h8]
  simp [State.pageWrite, h.2.2.1]

/-! ### Fields of a write -/

/-- Two fields share no bit. -/
def RField.apart (f g : RField) : Bool := decide (f.hi < g.lo) || decide (g.hi < f.lo)

/-- A register's fields lie in 64 bits, each with its top bit above its bottom bit, and share no bit. -/
def fieldsOk (fs : List RField) : Bool :=
  fs.all (fun f => decide (f.lo ≤ f.hi) && decide (f.hi < 64)) && decide (fs.Pairwise (fun f g => f.apart g = true))

/-- The tables of the spec hold: no register has fields that overlap. -/
theorem tables_ok : ∀ p ∈ Page.all, (pageRegs p).all (fun r => fieldsOk r.fields) = true := by decide +kernel

theorem findReg_mem (p : Page) (off : Nat) (r : RegDesc) (k : Nat) (h : findReg p off = some (r, k)) : r ∈ pageRegs p := by
  unfold findReg at h
  rw [List.findSome?_eq_some_iff] at h
  obtain ⟨l1, d, l2, hl, hd, _⟩ := h
  have : r = d := by
    split at hd
    · split at hd <;> simp_all
    · split at hd <;> simp_all
  rw [hl, this]; simp

theorem findReg_fields (p : Page) (off : Nat) (r : RegDesc) (k : Nat) (h : findReg p off = some (r, k)) : fieldsOk r.fields = true := by
  have hm := findReg_mem p off r k h
  have := tables_ok p (by cases p <;> decide)
  rw [List.all_eq_true] at this
  exact this r hm

/-- One field of a write, as `State.fieldsWritten` treats it. -/
def State.fieldStep (s : State) (p : Page) (i off d m v : Nat) (r : Nat × Bool) (f : RField) : Nat × Bool :=
  if bits m f.hi f.lo = 0 || s.noField p i off f then r
  else match f.acc with
  | .rw =>
    let x := bits v f.hi f.lo
    if s.reserved p i off f x v then (r.1, true) else (setBits r.1 f.hi f.lo x, r.2)
  | .w1c =>
    let was := bits r.1 f.hi f.lo
    (setBits r.1 f.hi f.lo (was - (was &&& bits (d &&& m) f.hi f.lo)), r.2)
  | _ => r

theorem State.fieldsWritten_eq (s : State) (p : Page) (i off d m : Nat) (fs : List RField) :
    s.fieldsWritten p i off d m fs =
      fs.foldl (s.fieldStep p i off d m (mergeBits (s.programmed p i off) d m)) (s.programmed p i off, false) := rfl

/-- What a write gives one field. -/
def State.fieldNew (s : State) (p : Page) (i off d m v old : Nat) (f : RField) : Nat :=
  if bits m f.hi f.lo = 0 || s.noField p i off f then old
  else match f.acc with
  | .rw => if s.reserved p i off f (bits v f.hi f.lo) v then old else bits v f.hi f.lo
  | .w1c => old - (old &&& bits (d &&& m) f.hi f.lo)
  | _ => old

theorem State.fieldStep_self (s : State) (p : Page) (i off d m v : Nat) (r : Nat × Bool) (f : RField) (h : f.lo ≤ f.hi) :
    bits (s.fieldStep p i off d m v r f).1 f.hi f.lo = s.fieldNew p i off d m v (bits r.1 f.hi f.lo) f := by
  unfold State.fieldStep State.fieldNew
  split
  · rfl
  · cases f.acc <;> simp only []
    · split
      · rfl
      · simp only []
        rw [bits_setBits _ _ _ _ h, Nat.mod_eq_of_lt (bits_lt _ _ _)]
    · rw [bits_setBits _ _ _ _ h, Nat.mod_eq_of_lt]
      have := bits_lt r.1 f.hi f.lo
      omega

theorem State.fieldStep_other (s : State) (p : Page) (i off d m v : Nat) (r : Nat × Bool) (f g : RField) (h : f.lo ≤ f.hi) (hg : g.lo ≤ g.hi)
    (ha : f.apart g = true) : bits (s.fieldStep p i off d m v r f).1 g.hi g.lo = bits r.1 g.hi g.lo := by
  have hd : g.hi < f.lo ∨ f.hi < g.lo := by
    simp [RField.apart] at ha; omega
  unfold State.fieldStep
  split
  · rfl
  · cases f.acc <;> simp only []
    · split
      · rfl
      · exact bits_setBits_other _ _ _ _ _ _ h hg hd
    · exact bits_setBits_other _ _ _ _ _ _ h hg hd

/-- A field after a write of its register, whatever the other fields were given. -/
theorem State.fields_after (s : State) (p : Page) (i off d m v : Nat) (fs : List RField) (r : Nat × Bool) (g : RField)
    (hok : fieldsOk fs = true) (hg : g ∈ fs) :
    bits (fs.foldl (s.fieldStep p i off d m v) r).1 g.hi g.lo = s.fieldNew p i off d m v (bits r.1 g.hi g.lo) g := by
  have hout : ∀ (fs : List RField) (r : Nat × Bool), fieldsOk fs = true → (∀ f ∈ fs, f.apart g = true) → g.lo ≤ g.hi →
      bits (fs.foldl (s.fieldStep p i off d m v) r).1 g.hi g.lo = bits r.1 g.hi g.lo := by
    intro fs
    induction fs with
    | nil => intro r _ _ _; rfl
    | cons f fs ih =>
      intro r h1 h2 h3
      simp only [fieldsOk, List.all_cons, List.pairwise_cons, Bool.and_eq_true, decide_eq_true_eq] at h1
      rw [List.foldl_cons, ih _ (by simp [fieldsOk, h1.1.2, h1.2.2]) (fun x hx => h2 x (by simp [hx])) h3]
      exact State.fieldStep_other _ _ _ _ _ _ _ _ _ _ h1.1.1.1 h3 (h2 f (by simp))
  induction fs generalizing r with
  | nil => simp at hg
  | cons f fs ih =>
    have h1 := hok
    simp only [fieldsOk, List.all_cons, List.pairwise_cons, Bool.and_eq_true, decide_eq_true_eq] at h1
    have htail : fieldsOk fs = true := by simp [fieldsOk, h1.1.2, h1.2.2]
    rw [List.foldl_cons]
    rcases List.mem_cons.mp hg with hgf | hgf
    · subst hgf
      rw [hout _ _ htail (fun x hx => by
        have := h1.2.1 x hx
        simp only [RField.apart] at this ⊢
        rw [Bool.or_comm]; exact this) h1.1.1.1]
      exact State.fieldStep_self _ _ _ _ _ _ _ _ _ h1.1.1.1
    · rw [ih _ htail hgf, State.fieldStep_other _ _ _ _ _ _ _ _ _ _ h1.1.1.1 ?_ (h1.2.1 g hgf)]
      have := List.all_eq_true.mp h1.1.2 g hgf
      simp at this; exact this.1

/-- A field after a whole write of eight bytes: what `State.fieldNew` says, of the value it held. -/
theorem State.fieldsWritten_field (s : State) (p : Page) (i off d m : Nat) (r : RegDesc) (k : Nat) (g : RField)
    (h : findReg p off = some (r, k)) (hg : g ∈ r.fields) :
    bits (s.fieldsWritten p i off d m r.fields).1 g.hi g.lo =
      s.fieldNew p i off d m (mergeBits (s.programmed p i off) d m) (bits (s.programmed p i off) g.hi g.lo) g := by
  rw [State.fieldsWritten_eq]
  exact State.fields_after _ _ _ _ _ _ _ _ _ _ (findReg_fields p off r k h) hg

/-- A write of all 64 bits replaces the value. -/
theorem mergeBits_full (old d : Nat) (ho : old < 2 ^ 64) (hd : d < 2 ^ 64) : mergeBits old d (2 ^ 64 - 1) = d := by
  unfold mergeBits
  have : (old ^^^ d) &&& (2 ^ 64 - 1) = old ^^^ d := by
    rw [Nat.and_two_pow_sub_one_eq_mod, Nat.mod_eq_of_lt (Nat.xor_lt_two_pow ho hd)]
  rw [this, ← Nat.xor_assoc, Nat.xor_self, Nat.zero_xor]

/-! ### Values of registers -/

theorem tables_reset_ok : ∀ p ∈ Page.all, (pageRegs p).all (fun r => decide (fieldsReset r.fields < 2 ^ 64)) = true := by decide +kernel

theorem regReset_lt (p : Page) (i off : Nat) (hi : i < p.count) : regReset p i off < 2 ^ 64 := by
  have hf : ∀ q : Page, (match findReg q off with | some (d, _) => fieldsReset d.fields | none => 0) < 2 ^ 64 := by
    intro q
    split
    · rename_i d k h
      have := tables_reset_ok q (by cases q <;> decide)
      rw [List.all_eq_true] at this
      simpa using this d (findReg_mem q off d k h)
    · decide
  unfold regReset
  split
  · cases p <;> decide
  · cases p <;> simp only []
    case sft =>
      split
      · simp only [Page.count] at hi
        exact Nat.pow_lt_pow_right (by decide) (by omega)
      · exact hf .sft
    case clk =>
      split
      · decide
      · exact hf .clk
    all_goals exact hf _

theorem State.reg_lt (s : State) (p : Page) (i off : Nat) (hi : i < p.count) : s.reg p i off < 2 ^ 64 := by
  unfold State.reg
  exact Nat.xor_lt_two_pow (BitVec.isLt _) (regReset_lt p i off hi)

/-- A register just stored holds the value, of 64 bits. -/
theorem State.reg_stored (s : State) (p : Page) (i off v : Nat) (hi : i < p.count) (hv : v < 2 ^ 64) : (s.setReg p i off v).reg p i off = v :=
  State.reg_setReg p i off v s (Nat.xor_lt_two_pow hv (regReset_lt p i off hi))

/-! ### A write of a register, by its fields -/

/-- Whether a write of the bits `m` gives a field a reserved encoding. -/
def State.anyReserved (s : State) (p : Page) (i off m v : Nat) (fs : List RField) : Bool :=
  fs.any (fun f => !(bits m f.hi f.lo == 0) && !s.noField p i off f && f.acc == .rw && s.reserved p i off f (bits v f.hi f.lo) v)

theorem State.fields_flag (s : State) (p : Page) (i off d m v : Nat) (fs : List RField) (r : Nat × Bool) :
    (fs.foldl (s.fieldStep p i off d m v) r).2 = (r.2 || s.anyReserved p i off m v fs) := by
  induction fs generalizing r with
  | nil => simp [State.anyReserved]
  | cons f fs ih =>
    rw [List.foldl_cons, ih]
    simp only [State.anyReserved, List.any_cons]
    rw [← Bool.or_assoc]
    congr 1
    unfold State.fieldStep
    by_cases h1 : bits m f.hi f.lo = 0
    · simp [h1]
    · by_cases h2 : s.noField p i off f = true
      · simp [h2]
      · simp only [h1, h2, decide_false, Bool.or_self, Bool.false_eq_true, if_false]
        cases hacc : f.acc <;> simp
        by_cases h3 : s.reserved p i off f (bits v f.hi f.lo) v = true <;> simp_all

/-- A served write of eight bytes, in terms of what its fields become. -/
theorem State.pageWrite_fields (s : State) (p : Page) (i off data : Nat) (r : RegDesc) (k : Nat) (h : s.Serves p i) (ho : off < 0x1000)
    (h8 : off % 8 = 0) (hf : findReg p off = some (r, k)) (hp : s.programmed p i off < 2 ^ 64) :
    ∃ v, (∀ f ∈ r.fields, bits v f.hi f.lo =
        s.fieldNew p i off (data % 2 ^ 64) (2 ^ 64 - 1) (data % 2 ^ 64) (bits (s.programmed p i off) f.hi f.lo) f) ∧
      s.pageWrite p i off data =
        if s.anyReserved p i off (2 ^ 64 - 1) (data % 2 ^ 64) r.fields then
          (s.applyReg p i off (s.programmed p i off) v (data % 2 ^ 64) (2 ^ 64 - 1)).regErr p i 0 off
        else s.applyReg p i off (s.programmed p i off) v (data % 2 ^ 64) (2 ^ 64 - 1) := by
  have hd : data % 2 ^ 64 < 2 ^ 64 := Nat.mod_lt _ (by decide)
  refine ⟨(s.fieldsWritten p i off (data % 2 ^ 64) (2 ^ 64 - 1) r.fields).1, ?_, ?_⟩
  · intro f hm
    rw [State.fieldsWritten_field s p i off _ _ r k f hf hm, mergeBits_full _ _ hp hd]
  · rw [State.pageWrite_served s p i off data h ho h8]
    unfold State.regWritten
    rw [hf]
    have hm : data % 2 ^ 64 &&& (2 ^ 64 - 1) = data % 2 ^ 64 := by
      rw [Nat.and_two_pow_sub_one_eq_mod, Nat.mod_mod]
    have hflag : (s.fieldsWritten p i off (data % 2 ^ 64) (2 ^ 64 - 1) r.fields).2 = s.anyReserved p i off (2 ^ 64 - 1) (data % 2 ^ 64) r.fields := by
      rw [State.fieldsWritten_eq, State.fields_flag, mergeBits_full _ _ hp hd, Bool.false_or]
    simp only [hm, hflag]

/-- What an RW field becomes, where the part has it and the encoding is legal. -/
theorem State.fieldNew_rw (s : State) (p : Page) (i off d m v old : Nat) (f : RField) (h : f.acc = .rw) (hn : s.noField p i off f = false)
    (hc : bits m f.hi f.lo ≠ 0) (hr : s.reserved p i off f (bits v f.hi f.lo) v = false) :
    s.fieldNew p i off d m v old f = bits v f.hi f.lo := by
  simp [State.fieldNew, h, hn, hc, hr]

end Sys2Proof.Machine
end

