-- ==== Sys2Proof/WellFormed.lean ====
section
/-! DEFINITION. Well-formed commands: each operand names a unit, line, ring, register or size that the part has (R1, R12, R22, R212,
R536, R542, R560). An ill-formed command names nothing of the part: no sender sends one, and what the model gives for it stands for nothing (log 24). -/

namespace Sys2Proof

/-- A physical block (R22). -/
def wfBlock (n : Nat) : Bool := decide (n < 544)
/-- A compute die (R1). -/
def wfDie (n : Nat) : Bool := decide (n < 32)
/-- A selective IDE stream, or none (R497). -/
def wfStream : Option Nat → Bool
  | none => true
  | some k => decide (k < 4)

/-- An error of a block of a die in the same beat: the block's index on the die and the bit its own page would set (R24, R101). -/
def wfUnder : Option (Nat × Nat) → Bool
  | none => true
  | some (b, c) => decide (b < 17) && (c == 7 || c == 12 || c == 13 || c == 14)
/-- A port (R348). -/
def wfPort (n : Nat) : Bool := decide (n < 128)
/-- A Sifter (R224). -/
def wfSifter (n : Nat) : Bool := decide (n < 32)
/-- A port die (R1). -/
def wfPortDie (n : Nat) : Bool := decide (n < 4)
/-- A stack (R419). -/
def wfStack (n : Nat) : Bool := decide (n < 16)
/-- A channel of a stack (R419). -/
def wfChannel (n : Nat) : Bool := decide (n < 32)
/-- A Huddle line (R212). -/
def wfLine (n : Nat) : Bool := decide (n < 16)
/-- A completion ring (R555). -/
def wfRing (n : Nat) : Bool := decide (n < 64)
/-- A collective slot (R386). -/
def wfSlot (n : Nat) : Bool := decide (n < 16)
/-- An egress class or PFC priority (R309). -/
def wfPrio (n : Nat) : Bool := decide (n < 8)
/-- A Rally lane (R357). -/
def wfLane (n : Nat) : Bool := decide (n < 7)
/-- A PLL (R520). -/
def wfPll (n : Nat) : Bool := decide (n < 42)
/-- A clock multiplexer (R535). -/
def wfMux (n : Nat) : Bool := decide (n < 25)
/-- A 64-bit value. -/
def wfWord (n : Nat) : Bool := decide (n < 2 ^ 64)
/-- A BAR0 offset (R538). -/
def wfBar0 (n : Nat) : Bool := decide (n < 2 ^ 28)
/-- A device address with a length (R419, R422). -/
def wfDev (a n : Nat) : Bool := decide (a + n ≤ 2 ^ 40)

/-- The command names things that the part has. -/
def Instr.wellFormed : Instr → Bool
  | .bar4DescriptorWrite off data k => decide (off + data.length ≤ 2 ^ 20 ∧ data.length ≤ 512) && wfStream k
  | .ringCompletionWrite r _ => wfRing r
  | .ringHoldoffExpiry r => wfRing r
  | .longWordIssue b _ _ _ => wfBlock b
  | .emptyBeat b _ _ _ => wfBlock b
  | .commandEnd b => wfBlock b
  | .huddleRelease l => wfLine l
  | .blockFence b c _ => wfBlock b && (c == 12 || c == 13)
  | .blkWatchdog b _ => wfBlock b
  | .dieFabric d u => wfDie d && wfUnder u
  | .dieVdom d u => wfDie d && wfUnder u
  | .blockStoreScrub b w _ => wfBlock b && decide (w < 2 ^ 24)
  | .prepInstruction b m => wfBlock b && decide (m < 4)
  | .vlnSig b => wfBlock b
  | .vlnSigr b => wfBlock b
  | .vlnWait b => wfBlock b
  | .vlnRead b => wfBlock b
  | .vlnHarv b => wfBlock b
  | .vlnHwait b => wfBlock b
  | .vlnRun b => wfBlock b
  | .vlnWreg b => wfBlock b
  | .vlnRreg b => wfBlock b
  | .vlnRclr b => wfBlock b
  | .vlnRent b => wfBlock b
  | .vlnRstat b => wfBlock b
  | .vlnArm b => wfBlock b
  | .vlnRdbc b => wfBlock b
  | .prepInterrupt b => wfBlock b
  | .dmaDescriptorStart b _ => wfBlock b
  | .dmaDescriptorEnd b _ _ => wfBlock b
  | .auditDescriptorStart b _ => wfBlock b
  | .auditDescriptorEnd b => wfBlock b
  | .ethFrameArrival p d e _ u _ => wfPort p && (if e then decide (d.length ≤ 128) else d.length == 128) && decide (u < 16)
  | .ethFrameEnd p d _ u => wfPort p && decide (d.length ≤ 16384) && decide (u < 3)
  | .sifterRun n u => wfSifter n && decide (u < 8)
  | .watermarkBroadcast p => wfPortDie p
  | .sifterHoldAgeOut n => wfSifter n
  | .txSelect p => wfPort p
  | .ageCheck p => wfPort p
  | .shaperRefill p => wfPort p
  | .gateEntryChange p => wfPort p
  | .pfcFrameReceive p c q => wfPort p && wfPrio c && decide (q < 65536)
  | .pfcPauseRepeat p c => wfPort p && wfPrio c
  | .pfcPauseExpiry p c => wfPort p && wfPrio c
  | .timeStep t => wfWord t
  | .flitReceive p f c => wfPort p && f.length == 256 && decide (c < 4)
  | .replayTimeout p => wfPort p
  | .retrainTimeout p => wfPort p
  | .rallyLanesTrained p => wfPort p
  | .rallyIdentReceive p id x m => wfPort p && wfWord id && decide (x < 4096) && decide (m < 4096)
  | .rallyCreditsReceive p c => wfPort p && c.length == 7
  | .rallyPacketArrival p u => wfPort p && decide (u < 3)
  | .detourTimeout p l => wfPort p && wfLane l
  | .collSlotStart n => wfSlot n
  | .collChunkSend e => decide (e < 4)
  | .collTileReady n => wfSlot n
  | .collTimeout n => wfSlot n
  | .memAccess _ a n d o => wfDev a n && decide (1 ≤ n) && decide (n ≤ 16384) && decide (d.length ≤ 16384) && decide (o < 5)
  | .atomicAdd a _ _ => wfDev a 1
  | .atomicSmin a _ _ => wfDev a 1
  | .atomicSmax a _ _ => wfDev a 1
  | .atomicUmin a _ _ => wfDev a 1
  | .atomicUmax a _ _ => wfDev a 1
  | .atomicSwap a _ _ => wfDev a 1
  | .atomicCas a _ _ _ => wfDev a 1
  | .atomicFadd a _ => wfDev a 1
  | .addExact a _ _ => wfDev a 1
  | .hbmScrub w o => decide (w < 2 ^ 35) && decide (o < 3)
  | .hbmRetrainStart k c => wfStack k && wfChannel c
  | .hbmRetrainDone k _ => wfStack k
  | .selfRefreshEntry k => wfStack k
  | .bar2Read _ n k => decide (n ≤ 4096) && wfStream k
  | .bar2Write _ d k => decide (d.length ≤ 4096) && wfStream k
  | .bar2Resize n => decide (n < 8)
  | .barAccess _ off _ d => wfBar0 off && wfWord d
  | .refPageTimeout _ off => wfBar0 off
  | .genericRegisterWrite off n d => wfBar0 off && (n == 4 || n == 8) && wfWord d
  | .rcRegisterRead off n => wfBar0 off && (n == 4 || n == 8)
  | .errStatWrite off n d => wfBar0 off && (n == 4 || n == 8) && wfWord d
  | .blkTraceCtrlWrite b d => decide (b < 512) && wfWord d
  | .sdSelWrite d => wfWord d
  | .dieArbWeightWrite n d => wfDie n && wfWord d
  | .cfgDetWrite d => wfWord d
  | .sftPortcfgWrite n p d => wfSifter n && decide (p < 4) && wfWord d
  | .sftOrderWrite n d => wfSifter n && wfWord d
  | .sftTabWrite n t d => wfSifter n && decide (t < 16) && wfWord d
  | .sifterRingEnable n r d => wfSifter n && decide (r < 2) && wfWord d
  | .pntCscfgWrite d => wfWord d
  | .tmGateCtrlWrite p d => wfPort p && wfWord d
  | .mtPtpcfgWrite d => wfWord d
  | .rlPmodeWrite d => wfWord d
  | .rlCoordWrite d => wfWord d
  | .rlEpochWrite d => wfWord d
  | .rlRteWrite v a c d => decide (v < 2) && decide (a < 3) && decide (c < 16) && wfWord d
  | .rlFenceWrite d => wfWord d
  | .portCfgWrite p r d => wfPort p && (r == 0x800 || r == 0x810) && wfWord d
  | .colLastWrite d => wfWord d
  | .memModeWrite d => wfWord d
  | .memMaintRetrain k d => wfStack k && wfWord d
  | .secCtrlCommit d => wfWord d
  | .secCtrlIdeReq d => wfWord d
  | .clkMuxWrite m d => wfMux m && wfWord d
  | .clkMuxSwitchDone m => wfMux m
  | .clkswStuck m => wfMux m
  | .hifBar2BaseWrite d => wfWord d
  | .hifRingCfgWrite r k d => wfRing r && decide (k < 4) && wfWord d
  | .rfResetWrite d => wfWord d
  | .rfMtestStart d => wfWord d
  | .mtestDone m => decide (m < 65536)
  | .jnlCtrlWrite d => wfWord d
  | .sbCtrlWrite d => wfWord d
  | .prfDieWrite n d => wfDie n && wfWord d
  | .thermalTrip u k => (wfDie u && decide (k < 8)) || (decide (0x20 ≤ u ∧ u ≤ 0x23) && decide (k < 4)) || (decide (0x30 ≤ u ∧ u ≤ 0x3F) && decide (k < 2))
  | .clkPllUnlock n => wfPll n
  | .pllRelock n => wfPll n
  | .pllRelockTimeout n => wfPll n
  | .mgmtRead off => decide (off < 65536)
  | .mgmtWrite off d => decide (off < 65536) && wfWord d
  | .ethernetLinkUp p => wfPort p
  | .ethernetLinkDown p => wfPort p
  | .nop => true
  | .wait => true
  | .signal => true
  | .run => true
  | .placeLoad fs => fs.all (fun b => decide (b < 864))
  | .placeRetire => true
  | .copy _ => true
  | .atomic => true
  | .sftLoad => true
  | .sftUnload => true
  | .sftCtxHome => true
  | .sftCtxPin => true
  | .sftCtxUnpin => true
  | .sftCtxWrite _ => true
  | .sftCtxRead _ => true
  | .sftTable _ => true
  | .sftReleaseDiscard => true
  | .sftReleaseForward => true
  | .swTcamWrite _ => true
  | .swEmInsert => true
  | .swEmUpdate => true
  | .swEmDelete => true
  | .swMcWrite => true
  | .tmMeterWrite _ => true
  | .tmMeterRead _ => true
  | .collLaunch => true
  | .fwUpdate _ => true
  | .attest _ => true
  | .getRandom _ => true
  | .jnlAppend _ => true
  | .jnlClose => true
  | .jnlTrim => true
  | .jnlSend => true
  | .jnlRecv => true
  | .jnlExport _ => true
  | .jnlImport _ => true
  | .signalArrival _ => true
  | .sealRecordAccept _ => true
  | .sealBatchClose => true
  | .sealBatchSign => true
  | .sealRingWrite _ => true
  | .sifterHandover _ => true
  | .pageInDone _ _ => true
  | .pageOutDone _ => true
  | .pagingSweep => true
  | .leakAuditSweep => true
  | .reseqTimeout _ => true
  | .collJoin _ => true
  | .collReady _ => true
  | .collData _ u => decide (u < 3)
  | .collFin _ => true
  | .collAbort _ => true
  | .collHoldExpiry _ => true
  | .pciePowerState _ => true
  | .hifErrqRead => true
  | .sdFetchDone _ => true
  | .prooferSample r => r.length == 935
  | .prooferWindow => true
  | .prooferAdmit => true
  | .prfOverpower => true
  | .prooferWarm => true
  | .monitorWindow _ => true
  | .clkMonFail => true
  | .powerApply => true
  | .powerFail => true
  | .perstAssert => true
  | .pcieHotReset => true
  | .pcieLinkDisable => true
  | .refereeWatchdog => true
  | .resetRelease _ => true
  | .epoNAssert _ => true
  | .mgmtReset => true
  | .mgmtEpo => true
  | .recoveryData _ => true
  | .recoveryDone _ => true
  | .trngHealthFail => true
  | .secIdeFault n => decide (n < 4)
  | .spdmRequest c a b _ => decide (c < 256 ∧ a < 256 ∧ b < 256)
  | .jnlCommitTick => true
  | .jnlMirrorReceive => true
  | .jnlAckSend => true
  | .jnlAckReceive => true
  | .journalUnmirrored => true
  | .jnlTransferTimeout => true
  | .scorebookPeriodic => true
  | .scorebookWriteDone _ => true
  | .histogramTick => true
  | .ptpMessageReceive p d _ _ _ => wfPort p && decide (d < 256)
  | .aux12vChange _ => true
  | .busMasterEnableChange _ _ => true

end Sys2Proof
end

