-- ==== Sys2Proof/Tests/Slice0.lean ====
section
/-! SUPPORT. The model's own tests: what the check of well-formedness refuses, values that the spec gives as examples, and for each statement
with hypotheses a concrete state and operands that meet them, at the boundaries of their ranges. -/

namespace Sys2Proof.Tests

open Sys2Proof Sys2Proof.Machine

-- One declaration after another: many evaluations at once would ask for more memory than the check gives.
set_option Elab.async false

/-! ### Helpers -/

/-- The module READY with its link up, bus mastering on, every stack ONLINE in normal service and ring 0 on. -/
def up : State := (({ State.reset with
  ref := { inReset := false, ready := true, linkUp := true, busMaster := true, memSpace := true }
  mem := { units := (List.range 16).map (fun i => (i, { state := 1 })) } } : State).setReg .hif 0 0x408 0x2_0000_0301).setReg .mctl 0 0x100 2

/-- 64 descriptor bytes with little-endian fields (offset, bytes, value), the opcode and the ring byte among them. -/
def desc (op : Nat) (fields : List (Nat × Nat × Nat)) : WinEntry :=
  { seq := 7, bytes := Mem.read (fields.foldl (fun (m : Mem) f => m.write f.1 (leBytes f.2.1 f.2.2)) (Mem.write [] 4 [BitVec.ofNat 8 op])) 0 64 }

/-- A LIVE placement of die 0: 16 blocks, counter 0 of shape 0 USED and HOST. -/
def live : State := { up with
  place := { pstate := psLive, id := 0x20240417, dieMask := 1, shapeBlocks := 16, map := (List.range 16).map (fun i => (i, i + 1)) }
  blocks := [(0, { cntCfg := [(0, { used := true, hostOk := true })], hudMask := 1 })] }

/-- Its counter 0 of shape 0 with a value. -/
def cnt0 (s : State) (c : Cnt) : State := s.setBlock 0 { s.block 0 with cnts := Sparse.set {} (s.block 0).cnts 0 c }

/-- The state with one descriptor in the window. -/
def front (s : State) (e : WinEntry) : State := { s with hif.window := [e] }

/-- A descriptor stands offered at the front of the window. -/
def offered (s : State) (e : WinEntry) (rest : List WinEntry) : Bool :=
  decide (s.hif.window = e :: rest) && s.canTake e && decide (s.fld .hif 0 (0x408 + 0x20 * e.ring) 0 0 = 1) && !s.ref.faulted && e.headerOk &&
  s.hif.parked.isEmpty && s.hif.ending.isEmpty && s.room e.ringByte

theorem offers_of {s : State} {e : WinEntry} {rest : List WinEntry} (h : offered s e rest = true) : s.Offers e rest := by
  simp only [offered, Bool.and_eq_true, decide_eq_true_eq, Bool.not_eq_true', List.isEmpty_iff] at h
  obtain ⟨⟨⟨⟨⟨⟨⟨h1, h2⟩, h3⟩, h4⟩, h5⟩, h6⟩, h7⟩, h8⟩ := h
  exact ⟨⟨h1, h2, h3, h4, h5, h6, h7⟩, h8⟩

/-- The device XADDR of an address. -/
def dx (a : Nat) : Nat := 2 ^ 63 + a

/-- A stack is clean over a range. -/
def cleanB (k : Stack) (a n : Nat) : Bool :=
  k.state == 1 && !k.held && !k.retraining && k.lost.all (fun l => decide (128 * (l + 1) ≤ a ∨ a + n ≤ 128 * l)) &&
  k.bad.all (fun w => decide (32 * (w + 1) ≤ a ∨ a + n ≤ 32 * w))

theorem clean_of {s : State} {a n : Nat} (h : (decide (a + n ≤ 2 ^ 40) && (List.range 16).all (fun i => cleanB (s.stack i) a n &&
      !s.clockStopped (lb4Mux i))) = true) :
    ∀ i, a < 2 ^ 36 * (i + 1) → 2 ^ 36 * i < a + n → (s.stack i).Clean a n ∧ s.clockStopped (lb4Mux i) = false := by
  intro i h1 h2
  simp only [Bool.and_eq_true, decide_eq_true_eq, List.all_eq_true, List.mem_range] at h
  have h3 := h.2 i (by omega)
  simp only [cleanB, Bool.and_eq_true, beq_iff_eq, Bool.not_eq_true', List.all_eq_true, decide_eq_true_eq] at h3
  exact ⟨⟨h3.1.1.1.1.1, h3.1.1.1.1.2, h3.1.1.1.2, h3.1.1.2, h3.1.2⟩, h3.2⟩

theorem plain_of {s : State} {a n : Nat} (h : (!s.nearFar && decide (a + n ≤ devBytes) && !s.holdsIn a n && s.mem.queue.isEmpty) = true)
    (h' : (decide (a + n ≤ 2 ^ 40) && (List.range 16).all (fun i => cleanB (s.stack i) a n && !s.clockStopped (lb4Mux i))) = true) :
    s.Plain a n := by
  simp only [Bool.and_eq_true, decide_eq_true_eq, Bool.not_eq_true', List.isEmpty_iff] at h
  exact ⟨h.1.1.1, h.1.1.2, h.1.2, by simp [h.2], clean_of h'⟩

/-- No collective runs, waits or has lost a packet. -/
def noColl (s : State) : Bool := s.coll.slots.isEmpty && s.coll.queued.isEmpty && s.coll.lost.isEmpty

/-- A command of an opcode whose XADDR at an offset lies in host memory or in device memory is reached either way. -/
theorem reach_host {s : State} {x n : Nat} (h : (!xDev x && s.hostDma && s.hostStaged n && decide (s.hif.done.length < 4096)) = true) :
    s.Reach x n .answered := by
  simp only [Bool.and_eq_true, Bool.not_eq_true', decide_eq_true_eq] at h
  exact ⟨fun hx => by simp [h.1.1.1] at hx, fun _ => ⟨rfl, h.1.1.2, h.1.2, h.2⟩⟩

theorem reach_dev {s : State} {x n : Nat} {way : HostWay} (hx : xDev x = true) (h : s.Plain (xAddr x) n) : s.Reach x n way :=
  ⟨fun _ => h, fun hx' => by simp [hx] at hx'⟩

/-- A Sifter of a state that has none of its own has nothing waiting. -/
theorem noRecs {s : State} (h : s.sft.units = []) : ∀ sf, (s.sifter sf).recq = [] := by
  intro sf; simp [State.sifter, h]; rfl

/-- Nothing waits for memory in a state that is so far untouched. -/
theorem noWaiters {s : State} (h : (s.mem.queue.isEmpty && s.rly.reqIn.isEmpty && decide (s.sft.units = [])) = true) : s.NoWaiters := by
  simp only [Bool.and_eq_true, List.isEmpty_iff, decide_eq_true_eq] at h
  exact ⟨h.1.1, h.1.2, noRecs h.2⟩

/-! ### Commands that name nothing of the part -/

/-- A byte string of a length. -/
def zb (n : Nat) : List (BitVec 8) := List.replicate n 0

/-- One ill-formed command for each check of Instr.wellFormed. -/
theorem test_wellFormed_refuses : ∀ c ∈ [
    Instr.bar4DescriptorWrite 0 (zb 513) none, .bar4DescriptorWrite (2 ^ 20) (zb 1) none, .bar4DescriptorWrite 0 (zb 1) (some 4), .ringCompletionWrite 64 true, .ringHoldoffExpiry 64,
    .longWordIssue 544 .clean none none, .emptyBeat 544 .clean none none, .commandEnd 544, .huddleRelease 16,
    .blockFence 544 12 none, .blockFence 0 11 none, .blkWatchdog 544 none, .dieFabric 32 none, .dieFabric 0 (some (17, 12)), .dieFabric 0 (some (0, 6)),
    .dieVdom 32 none, .dieVdom 0 (some (0, 15)), .blockStoreScrub 544 0 .clean, .blockStoreScrub 0 (2 ^ 24) .clean, .prepInstruction 544 0, .prepInstruction 0 4, .vlnSig 544, .vlnSigr 544, .vlnWait 544, .vlnRead 544, .vlnHarv 544,
    .vlnHwait 544, .vlnRun 544, .vlnWreg 544, .vlnRreg 544, .vlnRclr 544, .vlnRent 544, .vlnRstat 544, .vlnArm 544, .vlnRdbc 544,
    .prepInterrupt 544, .dmaDescriptorStart 544 .clean, .dmaDescriptorEnd 544 0 .clean, .auditDescriptorStart 544 .clean, .auditDescriptorEnd 544],
    c.wellFormed = false := by decide +kernel

/-- More of them: frames, Sifters, ports, links, collectives. -/
theorem test_wellFormed_refuses_frames : ∀ c ∈ [
    Instr.ethFrameArrival 128 (zb 64) true true 0 0, .ethFrameArrival 0 (zb 129) true true 0 0, .ethFrameArrival 0 (zb 64) false true 0 0,
    .ethFrameArrival 0 (zb 64) true true 16 0, .ethFrameEnd 128 [] true 0, .ethFrameEnd 0 (zb 16385) true 0, .ethFrameEnd 0 [] true 3,
    .sifterRun 32 0, .sifterRun 0 8, .watermarkBroadcast 4, .sifterHoldAgeOut 32, .txSelect 128, .ageCheck 128, .shaperRefill 128,
    .gateEntryChange 128, .pfcFrameReceive 128 0 0, .pfcFrameReceive 0 8 0, .pfcFrameReceive 0 0 65536, .pfcPauseRepeat 128 0, .pfcPauseRepeat 0 8,
    .pfcPauseExpiry 128 0, .pfcPauseExpiry 0 8, .timeStep (2 ^ 64), .flitReceive 128 (zb 256) 0, .flitReceive 0 (zb 255) 0, .flitReceive 0 (zb 256) 4, .replayTimeout 128,
    .retrainTimeout 128, .rallyLanesTrained 128, .rallyIdentReceive 128 0 0 0, .rallyIdentReceive 0 (2 ^ 64) 0 0, .rallyIdentReceive 0 0 4096 0,
    .rallyIdentReceive 0 0 0 4096, .rallyCreditsReceive 128 [0, 0, 0, 0, 0, 0, 0], .rallyCreditsReceive 0 [0], .rallyPacketArrival 128 0, .rallyPacketArrival 0 3,
    .detourTimeout 128 0, .detourTimeout 0 7, .collSlotStart 16, .collChunkSend 4, .collTileReady 16, .collTimeout 16, .collData 0 3,
    .ethernetLinkUp 128, .ethernetLinkDown 128], c.wellFormed = false := by decide +kernel

/-- More of them: memory, registers, clocks, resets, the Proofer. -/
theorem test_wellFormed_refuses_registers : ∀ c ∈ [
    Instr.memAccess false (2 ^ 40) 1 [] 0, .memAccess false 0 0 [] 0, .memAccess false 0 16385 [] 0, .memAccess true 0 1 (zb 16385) 0,
    .memAccess false 0 1 [] 5, .atomicAdd (2 ^ 40) 32 0, .atomicSmin (2 ^ 40) 32 0, .atomicSmax (2 ^ 40) 32 0, .atomicUmin (2 ^ 40) 32 0,
    .atomicUmax (2 ^ 40) 32 0, .atomicSwap (2 ^ 40) 32 0, .atomicCas (2 ^ 40) 32 0 0, .atomicFadd (2 ^ 40) 0, .addExact (2 ^ 40) 0 0,
    .hbmScrub (2 ^ 35) 0, .hbmScrub 0 3, .hbmRetrainStart 16 0, .hbmRetrainStart 0 32, .hbmRetrainDone 16 true, .selfRefreshEntry 16,
    .bar2Read 0 4097 none, .bar2Read 0 1 (some 4), .bar2Write 0 (zb 1) (some 4), .bar2Write 0 (zb 4097) none, .bar2Resize 8, .barAccess true (2 ^ 28) 4 0, .barAccess true 0 4 (2 ^ 64),
    .refPageTimeout true (2 ^ 28), .genericRegisterWrite (2 ^ 28) 8 0, .genericRegisterWrite 0 2 0, .genericRegisterWrite 0 8 (2 ^ 64),
    .rcRegisterRead (2 ^ 28) 8, .rcRegisterRead 0 2, .errStatWrite (2 ^ 28) 8 0, .errStatWrite 0 2 0, .errStatWrite 0 8 (2 ^ 64),
    .blkTraceCtrlWrite 512 0, .blkTraceCtrlWrite 0 (2 ^ 64), .sdSelWrite (2 ^ 64), .dieArbWeightWrite 32 0, .dieArbWeightWrite 0 (2 ^ 64),
    .cfgDetWrite (2 ^ 64), .sftPortcfgWrite 32 0 0, .sftPortcfgWrite 0 4 0, .sftPortcfgWrite 0 0 (2 ^ 64), .sftOrderWrite 32 0,
    .sftOrderWrite 0 (2 ^ 64), .sftTabWrite 32 0 0, .sftTabWrite 0 16 0, .sftTabWrite 0 0 (2 ^ 64), .sifterRingEnable 32 0 0,
    .sifterRingEnable 0 2 0, .sifterRingEnable 0 0 (2 ^ 64), .pntCscfgWrite (2 ^ 64), .tmGateCtrlWrite 128 0, .tmGateCtrlWrite 0 (2 ^ 64),
    .mtPtpcfgWrite (2 ^ 64), .rlPmodeWrite (2 ^ 64), .rlCoordWrite (2 ^ 64), .rlEpochWrite (2 ^ 64), .rlRteWrite 2 0 0 0, .rlRteWrite 0 3 0 0,
    .rlRteWrite 0 0 16 0, .rlRteWrite 0 0 0 (2 ^ 64), .rlFenceWrite (2 ^ 64), .portCfgWrite 128 0x800 0, .portCfgWrite 0 0x808 0,
    .portCfgWrite 0 0x810 (2 ^ 64), .colLastWrite (2 ^ 64), .memModeWrite (2 ^ 64), .memMaintRetrain 16 0, .memMaintRetrain 0 (2 ^ 64),
    .secCtrlCommit (2 ^ 64), .secCtrlIdeReq (2 ^ 64), .clkMuxWrite 25 0, .clkMuxWrite 0 (2 ^ 64), .clkMuxSwitchDone 25, .clkswStuck 25,
    .hifBar2BaseWrite (2 ^ 64), .hifRingCfgWrite 64 0 0, .hifRingCfgWrite 0 4 0, .hifRingCfgWrite 0 0 (2 ^ 64), .rfResetWrite (2 ^ 64),
    .rfMtestStart (2 ^ 64), .mtestDone 65536, .jnlCtrlWrite (2 ^ 64), .sbCtrlWrite (2 ^ 64), .prfDieWrite 32 0, .prfDieWrite 0 (2 ^ 64),
    .thermalTrip 0 8, .thermalTrip 0x20 4, .thermalTrip 0x24 0, .thermalTrip 0x30 2, .thermalTrip 0x40 0, .clkPllUnlock 42, .pllRelock 42,
    .pllRelockTimeout 42, .mgmtRead 65536, .mgmtWrite 65536 0, .mgmtWrite 0 (2 ^ 64), .placeLoad [864], .secIdeFault 4, .prooferSample [], .spdmRequest 256 0 0 [], .ptpMessageReceive 128 0 false 0 0, .ptpMessageReceive 0 256 false 0 0],
    c.wellFormed = false := by decide +kernel

/-- And commands that name the last unit of each kind are well formed. -/
theorem test_wellFormed_takes : ∀ c ∈ [
    Instr.bar4DescriptorWrite (2 ^ 20 - 512) (zb 512) (some 3), .ringCompletionWrite 63 true, .longWordIssue 543 .uncorrectable (some 3) none, .huddleRelease 15,
    .blockFence 543 13 (some 0), .dieVdom 31 (some (16, 14)), .ethFrameArrival 127 (zb 128) true true 15 0, .sifterRun 31 7, .detourTimeout 127 6, .collSlotStart 15,
    .memAccess false (2 ^ 40 - 1) 1 [] 4, .hbmRetrainStart 15 31, .genericRegisterWrite (2 ^ 28 - 8) 8 (2 ^ 64 - 1), .clkMuxWrite 24 0, .pllRelock 41,
    .thermalTrip 31 7, .thermalTrip 0x23 3, .thermalTrip 0x3F 1, .placeRetire], c.wellFormed = true := by decide +kernel

/-! ### Witnesses: the whole machine -/

theorem test_witness_IdleStepMovesOnlyTime : State.reset.pending = [] := by decide +kernel

theorem test_witness_FenceLastsUntilFullReset :
    (∃ t, step { up with pending := [.pcieHotReset] } = .next t) ∧ up.linked = true := ⟨⟨_, rfl⟩, by decide +kernel⟩

theorem test_witness_OtpSvnOnlyRisesByCommit : ∃ t, step { up with pending := [.secCtrlCommit 1] } = .next t := ⟨_, rfl⟩

/-! ### Witnesses: the command window -/

/-- The window with room for exactly the last write, two misfits, and a window that stalls the link. -/
theorem test_witness_Bar4WriteSubmitsWholeDescriptors :
    let s : State := { up with hif.window := List.replicate 4088 {} }
    let full : State := { up with hif.window := List.replicate 4089 {} }
    s.linked = true ∧ s.barRefused none = false ∧ zb 512 ≠ [] ∧ 64 % 64 = 0 ∧ (zb 512).length % 64 = 0 ∧ s.hif.window.length + 8 ≤ 4096 ∧
    (32 % 64 ≠ 0 ∨ (zb 64).length % 64 ≠ 0) ∧ (64 % 64 ≠ 0 ∨ (zb 65).length % 64 ≠ 0) ∧
    full.linked = true ∧ full.barRefused none = false ∧ 4096 < full.hif.window.length + 8 := by decide +kernel

/-- The module's buffer full of completions for ring 1, and no slot of ring 0 free. -/
theorem test_witness_NopAndReservedOpcodesComplete :
    let e := desc 0 [(0, 4, 0x51A7)]
    let f := desc 0 [(0x3F, 1, 1)]
    let g := desc 3 []
    let held : State := { (front up e) with hif := { (front up e).hif with done := List.replicate 4096 { ring := 1 }, rings := [(0, { produced := 1 }), (1, { produced := 1 })] } }
    ((front up e).Offers e [] ∧ e.opcode = 0 ∧ e.zeros 0x10 0x40 = true) ∧ ((front up f).Offers f [] ∧ f.opcode = 0 ∧ f.zeros 0x10 0x40 = false) ∧
    ((front up g).Offers g [] ∧ g.opcode ∉ [0, 1, 2, 0x10, 0x11, 0x12, 0x20, 0x21, 0x30, 0x31, 0x32, 0x33, 0x34, 0x40, 0x41, 0x42, 0x43, 0x44, 0x48,
      0x50, 0x60, 0x61, 0x62, 0x70, 0x71, 0x72, 0x73, 0x74, 0x75, 0x76]) ∧
    (held.Fronts e [] ∧ 4096 ≤ held.hif.done.length ∧ held.ringFree e.ring ≤ held.waitingFor e.ring ∧ 4096 ≤ held.buffered) := by
  intro e f g held
  and_intros <;> decide +kernel

theorem test_witness_FaultedModuleRunsNoNewCommand :
    ∀ x ∈ [(Instr.nop, 0), (.wait, 1), (.signal, 2), (.run, 0x10), (.placeRetire, 0x12), (.copy .answered, 0x20), (.atomic, 0x21), (.sftUnload, 0x31),
      (.swMcWrite, 0x44), (.fwUpdate .written, 0x60), (.attest .answered, 0x61), (.getRandom .answered, 0x62), (.jnlClose, 0x71)],
    let e := desc x.2 []
    let s : State := { front up e with ref.faulted := true }
    let o := s.setReg .hif 0 0x408 0x2_0000_0300
    s.hif.window = [e] ∧ s.canTake e = true ∧ s.hif.parked = [] ∧ s.place.retireSeq = none ∧ (x.1, e.opcode) = x ∧
      s.fld .hif 0 (0x408 + 0x20 * e.ring) 0 0 = 1 ∧ s.ref.faulted = true ∧ s.room e.ringByte = true ∧
      o.hif.window = [e] ∧ o.canTake e = true ∧ o.fld .hif 0 (0x408 + 0x20 * e.ring) 0 0 = 0 := by decide +kernel

theorem test_witness_WaitCompletesOrEntersThePool :
    let e := desc 1 [(6, 2, 0x8000), (8, 8, 2)]
    let f := desc 1 [(6, 2, 0x8001), (8, 8, 2)]
    let w := (e.wshape, e.wcnt, e.wtarget)
    let low := front (cnt0 live { value := 1 }) e
    let at' := front (cnt0 live { value := 2 }) e
    let gone := front (cnt0 live { abandoned := some 1 }) e
    ((front live f).Offers f [] ∧ f.opcode = 1 ∧ f.zeros 0x10 0x40 = true ∧ (front live f).waitUsed f = false) ∧
    (at'.Offers e [] ∧ e.opcode = 1 ∧ e.zeros 0x10 0x40 = true ∧ at'.waitUsed e = true ∧ at'.waitState (some w) = .ok) ∧
    (gone.Offers e [] ∧ gone.waitUsed e = true ∧ gone.waitState (some w) = .abandoned) ∧
    (low.Offers e [] ∧ low.waitUsed e = true ∧ low.waitState (some w) = .notYet ∧ low.hif.waits.length < 256) ∧
    (let s : State := { low with hif.waits := List.replicate 255 0 }
     s.Offers e [] ∧ s.waitUsed e = true ∧ s.waitState (some w) = .notYet ∧ s.hif.waits.length < 256) ∧
    (let s : State := { low with hif.waits := List.replicate 256 0 }
     s.Offers e [] ∧ s.waitUsed e = true ∧ s.waitState (some w) = .notYet ∧ 256 ≤ s.hif.waits.length) := by
  intro e f w low at' gone
  and_intros <;> decide +kernel

theorem test_witness_SignalSetsOutOrWaits :
    let e := desc 2 [(6, 2, 0x8000), (8, 8, 2), (0x18, 8, 1)]
    let f := desc 2 [(0x18, 8, 1)]
    let g := desc 2 [(0x10, 2, 0x2F), (0x18, 8, 1)]
    let u := desc 2 [(6, 2, 0x802F), (8, 8, 2), (0x18, 8, 1)]
    let w := (e.wshape, e.wcnt, e.wtarget)
    let low := front (cnt0 live { value := 1 }) e
    let at' := front (cnt0 live { value := 2 }) e
    let gone := front (cnt0 live { abandoned := some 1 }) e
    ((front live g).Offers g [] ∧ g.opcode = 2 ∧ g.signalOk = true ∧ (front live g).hostCnt (bits (g.op 0x10 2) 14 6) (bits (g.op 0x10 2) 5 0) = false) ∧
    ((front live f).Offers f [] ∧ f.opcode = 2 ∧ f.signalOk = true ∧ (front live f).hostCnt 0 0 = true ∧ f.wen = false) ∧
    ((front live u).Offers u [] ∧ u.opcode = 2 ∧ u.signalOk = true ∧ (front live u).hostCnt 0 0 = true ∧ u.wen = true ∧ (front live u).waitUsed u = false) ∧
    (e.opcode = 2 ∧ e.signalOk = true ∧ e.wen = true) ∧
    (at'.Offers e [] ∧ at'.hostCnt 0 0 = true ∧ at'.waitUsed e = true ∧ at'.waitState (some w) = .ok) ∧
    (gone.Offers e [] ∧ gone.hostCnt 0 0 = true ∧ gone.waitUsed e = true ∧ gone.waitState (some w) = .abandoned) ∧
    (let s : State := { low with hif.waits := List.replicate 255 0 }
     s.Offers e [] ∧ s.hostCnt 0 0 = true ∧ s.waitUsed e = true ∧ s.waitState (some w) = .notYet ∧ s.hif.waits.length < 256) ∧
    (let s : State := { low with hif.waits := List.replicate 256 0 }
     s.Offers e [] ∧ s.hostCnt 0 0 = true ∧ s.waitUsed e = true ∧ s.waitState (some w) = .notYet ∧ 256 ≤ s.hif.waits.length) := by
  intro e f g u w low at' gone
  and_intros <;> decide +kernel

/-- A RUN of class COLL with its targets (die, index) listed. -/
def runDesc (flags : Nat) (ts : List (Nat × Nat)) : WinEntry :=
  desc 0x10 ([(0x10, 8, 0x20240417), (0x20, 4, 0x40), (0x24, 2, 350), (0x26, 1, flags), (0x27, 1, ts.length)] ++
    ts.zipIdx.map (fun t => (0x28 + 2 * t.2, 2, t.1.1 * 256 + t.1.2)))

theorem test_witness_RunIsRefusedInTheOrderOfTheChecks :
    let known := fun (s : State) (e : WinEntry) => s.place.pstate = psLive ∧ e.op 0x10 8 = s.place.id
    let present := fun (s : State) (e : WinEntry) => ∀ t ∈ e.listed, t.2 < s.exposed
    let placed := fun (s : State) (e : WinEntry) => ∀ t ∈ e.listed, s.place.dieMask.testBit t.1 = true ∧ t.2 < s.place.shapeBlocks
    let e := runDesc 0x10 [(0, 0)]
    let f := runDesc 0x10 [(0, 16)]
    let g := runDesc 0x10 [(1, 0)]
    let h := runDesc 0x10 [(0, 15)]
    let fenced : State := { front live h with fence.blocks := 2 ^ 15 }
    ((front up e).Offers e [] ∧ e.opcode = 0x10 ∧ e.runOk = true ∧ e.runAll = false ∧ ¬ known (front up e) e) ∧
    ((front live f).Offers f [] ∧ f.opcode = 0x10 ∧ f.runOk = true ∧ f.runAll = false ∧ known (front live f) f ∧ ¬ present (front live f) f) ∧
    ((front live g).Offers g [] ∧ g.opcode = 0x10 ∧ g.runOk = true ∧ g.runAll = false ∧ known (front live g) g ∧ present (front live g) g ∧
      ¬ placed (front live g) g) ∧
    (fenced.Offers h [] ∧ h.opcode = 0x10 ∧ h.runOk = true ∧ h.runAll = false ∧ known fenced h ∧ present fenced h ∧ placed fenced h ∧
      ∃ t ∈ h.listed, fenced.fencedBlock ((fenced.physOf (t.1 * fenced.place.shapeBlocks + t.2)).getD 0) = true) := by
  intro known present placed e f g h fenced
  and_intros <;> decide +kernel

theorem test_witness_RunAcceptedQueuesOnEveryTarget :
    let e := runDesc 0x10 [(0, 0), (0, 15)]
    let f := desc 0x10 [(0x10, 8, 0x20240417), (0x20, 4, 0x40), (0x26, 1, 0x38)]
    let bare : State := { front live f with place := { live.place with dieMask := 0, map := [] } }
    (∀ x ∈ [(front live e, e), (front live f, f), (bare, f)], x.1.Offers x.2 [] ∧ x.2.opcode = 0x10 ∧ x.2.runOk = true ∧ x.2.wen = false ∧ x.2.cls ≠ 0 ∧
      x.1.place.pstate = psLive ∧ x.2.op 0x10 8 = x.1.place.id ∧
      (x.2.runAll = false → ∀ t ∈ x.2.listed, t.2 < x.1.exposed ∧ x.1.place.dieMask.testBit t.1 = true ∧ t.2 < x.1.place.shapeBlocks) ∧
      ∀ t ∈ x.1.runTargets x.2, x.1.fencedBlock t.2 = false) ∧
    e.runAll = false ∧ f.runAll = true ∧ (front live e).runTargets e ≠ [] ∧ (front live f).runTargets f ≠ [] ∧ bare.runTargets f = [] := by
  intro e f bare
  refine ⟨?_, by decide +kernel⟩
  unfold State.Offers State.Fronts; decide +kernel

/-- Pantry on, with one page of Crumbs that class 14 may take. -/
def pantryOn : State := { (up.setReg .pnt 0 0x4C0 (2 ^ 62 - 1)) with
  pnt := { en := true, pools := [(0, BitVec.ofNat 64 (16 + 2 * 2 ^ 20 + 2 ^ 40))] } }

/-- With Pantry's regions at the start of device memory and no journal, nothing from 4 GiB on is held. -/
theorem holdsIn_high {s : State} {a n : Nat} (h : (decide (s.pnt.spillBase = 0) && decide (s.pnt.spillGib = 0) && decide (s.pnt.metaBase = 0) &&
    decide (s.jnl.size = 0) && decide (s.jnl.msize = 0)) = true) (ha : 2 ^ 32 ≤ a) : s.holdsIn a n = false := by
  simp only [Bool.and_eq_true, decide_eq_true_eq] at h
  have hk := Nat.mod_lt (Config.metaMib s.pnt.spillGib ((List.range 4).map s.poolReg)) (show 4096 > 0 by decide)
  simp only [State.holdsIn, State.heldRegions, h.1.1.1.1, h.1.1.1.2, h.1.1.2, h.1.2, h.2]
  rw [h.1.1.1.2] at hk
  generalize Config.metaMib 0 ((List.range 4).map s.poolReg) % 4096 = k at hk ⊢
  split <;> simp
  omega

/-- Device to device, host to device and device to host; one that waits for bus mastering and one for a buffer; one that passes a buffer. -/
theorem test_witness_CopyMovesItsBytes :
    let e := desc 0x20 [(0x10, 8, dx 0), (0x18, 8, dx (2 ^ 40 - 64)), (0x20, 8, 64)]
    let f := desc 0x20 [(0x10, 8, 0x1000), (0x18, 8, dx (2 ^ 40 - 64)), (0x20, 8, 64)]
    let g := desc 0x20 [(0x10, 8, dx 0), (0x18, 8, 2 ^ 63 - 64), (0x20, 8, 64)]
    let off : State := { front up f with ref.busMaster := false }
    let dry : State := { front up f with pnt.en := true }
    ((front up e).Offers e [] ∧ e.opcode = 0x20 ∧ e.copyOk = true ∧ (front up e).Plain (xAddr (e.op 0x10 8)) (e.op 0x20 8) ∧
      (front up e).Plain (xAddr (e.op 0x18 8)) (e.op 0x20 8) ∧ xDev (e.op 0x10 8) = true ∧ xDev (e.op 0x18 8) = true) ∧
    ((front up f).Offers f [] ∧ f.opcode = 0x20 ∧ f.copyOk = true ∧ xDev (f.op 0x10 8) = false ∧
      (front up f).Plain (xAddr (f.op 0x18 8)) (f.op 0x20 8) ∧ xDev (f.op 0x18 8) = true) ∧
    ((front up g).Offers g [] ∧ g.opcode = 0x20 ∧ g.copyOk = true ∧ xDev (g.op 0x18 8) = false ∧
      (front up g).Plain (xAddr (g.op 0x10 8)) (g.op 0x20 8)) ∧
    (off.Offers f [] ∧ off.hostDma = false) ∧ (dry.Offers f [] ∧ dry.hostStaged (f.op 0x20 8) = false) ∧
    ((front pantryOn f).Offers f [] ∧ (front pantryOn f).pnt.en = true ∧ (front pantryOn f).Plain (xAddr (f.op 0x18 8)) 64) := by
  intro e f g off dry
  and_intros <;> first | decide +kernel | (refine clean_of ?_; decide +kernel) | (refine holdsIn_high ?_ ?_ <;> decide +kernel)

/-- The host ends of those copies are reached, with Pantry off and with it on. -/
theorem test_witness_CopyReach : ∀ s ∈ [up, pantryOn], ∀ x ∈ [0x1000, 2 ^ 63 - 64], s.Reach x 64 .answered := by
  intro s hs x hx
  refine reach_host ?_
  revert s x
  decide +kernel

theorem test_witness_AtomicCommandStoresAndReturnsOld :
    ∀ aop ∈ [0x00, 0x01, 0x02, 0x03, 0x04, 0x05, 0x06, 0x10, 0x11, 0x12, 0x13, 0x14, 0x15, 0x16],
    let e := desc 0x21 [(0x10, 1, aop), (0x18, 8, dx (2 ^ 40 - 8)), (0x20, 1, 5)]
    let s := front up e
    (s.Offers e [] ∧ e.opcode = 0x21 ∧ e.op 0x10 1 = aop ∧ aopOk aop = true ∧ aopOp aop ≤ 6) ∧
    (let f := desc 0x21 [(0x10, 1, aop), (0x18, 8, 2 ^ 40 - 8), (0x20, 1, 5)]
     (front up f).Offers f [] ∧ f.atomicOk = true ∧ f.op 0x18 8 % aopBytes aop = 0) := by
  unfold State.Offers State.Fronts; decide +kernel

theorem test_witness_AtomicCommandPlain : up.Plain (2 ^ 40 - 8) 8 ∧ up.Plain (2 ^ 40 - 8) 4 := by
  and_intros <;> first | decide +kernel | (refine clean_of ?_; decide +kernel)

/-! ### Witnesses: completions, BAR2 and the link -/

theorem test_witness_CompletionsAndTheirVectors :
    let c : Compl := { seq := 9, tag := 0x51A7, ring := 63 }
    let at' := fun (produced seen : Nat) => ({ up with
      hif := { up.hif with done := [c], rings := [(63, { base := 0x1_0000, sizeLog2 := 6, prod := 0x2_0000, cons := 0x2_0008, produced })] }
      host := Mem.write [] 0x2_0008 (leBytes 8 seen) } : State)
    (∀ x ∈ [(at' 0 0, true), (at' 63 0, false), (at' 64 0, true)],
      x.1.hif.done.find? (fun d => bits d.ring 5 0 == 63) = some c ∧ x.1.hostDma = true ∧ x.1.hif.ending = []) ∧
    (at' 63 0).hring 63 = { base := 0x1_0000, sizeLog2 := 6, prod := 0x2_0000, cons := 0x2_0008, produced := 63 } ∧
    63 < (at' 63 0).consumed 63 + 2 ^ 6 ∧ (at' 64 0).consumed 63 + 2 ^ 6 ≤ 64 ∧
    (let s : State := { up with ref.busMaster := false, hif.ending := [{ c := c }] }
     s.hostDma = false ∧ s.hif.ending = [{ c := c }] ∧ s.room c.ring = true) := by
  intro c at'; and_intros <;> decide +kernel

theorem test_witness_CompletionRecords : ∀ sf, (up.sifter sf).recq = [] := noRecs (by decide +kernel)

theorem test_witness_CompletionVectors :
    let s := fun (moved : Bool) => ({ (up.setReg .hif 0 0x408 0xFFFF_0002_0000_0303) with
      hif := { up.hif with rings := [(0, { holdoff := true, moved })], msixMask := [(2, 1)], msixPba := [0, 2] } } : State)
    (∀ m ∈ [true, false], ((s m).hring 0).holdoff = true ∧ ((s m).hring 0).moved = m) ∧
    ((s true).ringFld 0 1 1 = 1 ∧ (s true).ref.busMaster = true ∧ (s true).hif.msixMask.num ((s true).ringFld 0 42 32) = 1) ∧
    (s true).hif.msixPba.Nodup := by decide +kernel

/-- The last bytes of the window, and the first past it. -/
theorem test_witness_Bar2ReachesDeviceMemory :
    let s := up.setReg .hif 0 0x108 (0x3F0 * 2 ^ 30)
    let a := s.fld .hif 0 0x108 39 30 * 2 ^ 30 + (2 ^ 34 - 8)
    let busy := s.setStack 15 { (s.stack 15) with held := true }
    s.linked = true ∧ s.barRefused none = false ∧ s.ref.bar2Log2 = 4 ∧ 2 ^ 34 - 8 + 8 ≤ 2 ^ (30 + s.ref.bar2Log2) ∧ s.Plain a 8 ∧
    s.hif.window.length + 8 ≤ 4096 ∧ 2 ^ (30 + s.ref.bar2Log2) < (2 ^ 34 - 7) + 8 ∧ ({ s with ref.d3hot := true } : State).barRefused none = true ∧
    ({ s with ref.d3hot := true } : State).linked = true ∧ ({ s with sec.ideInsecure := 8 } : State).barRefused (some 3) = true ∧
    ({ s with sec.ideInsecure := 8 } : State).barRefused (some 2) = false ∧ busy.linked = true ∧ busy.barRefused none = false ∧ busy.devBusy a 8 = true := by
  intro s a busy
  and_intros <;> first | decide +kernel | (refine clean_of ?_; decide +kernel)

theorem test_witness_LinkEventsAndMisfitAccesses :
    up.linked = true ∧ 6 ≤ 6 ∧ (¬ (2 = 4 ∨ 2 = 8) ∨ 0 % 2 ≠ 0) ∧ 2 ^ 16 - 1 < 2 ^ (8 * 2) ∧ (¬ (8 = 4 ∨ 8 = 8) ∨ 4 % 8 ≠ 0) ∧ 2 ^ 64 - 1 < 2 ^ (8 * 8) ∧
    up.barsOpen = true ∧ up.hif.window.length + 8 ≤ 4096 ∧ up.bar0Open = true ∧
    (∀ s ∈ [({ up with ref.d3hot := true } : State), { up with ref.memSpace := false }], s.linked = true ∧ s.barsOpen = false) := by
  decide +kernel

/-! ### Witnesses: registers and errors -/

/-- Some RW field of the register that the part has meets a test. -/
def rwField (s : State) (p : Page) (i off : Nat) (test : RField → Bool) : Bool :=
  (findReg p off).any (fun rk => rk.1.fields.any (fun f => decide (f.acc = .rw) && !s.noField p i off f && test f))

theorem serves_of {s : State} {p : Page} {i : Nat} (h : (s.bar0Open && s.pageServed p i && decide (i < p.count) && !s.stalled) = true) : s.Serves p i := by
  simp only [Bool.and_eq_true, decide_eq_true_eq, Bool.not_eq_true'] at h
  exact ⟨h.1.1.1, h.1.1.2, h.1.2, h.2⟩

/-- Each command of the statement writes a field with a value that is taken and one that is reserved, where the register has such a value. -/
theorem test_witness_RegisterWriteSetsItsFields :
    (∀ x ∈ [(Page.hif, 0, 0x28, 0xFFFF, 0), (.die, 31, 0x100, 2 ^ 64 - 1, 0), (.sft, 31, 0x378, 0, 2 ^ 24 + 8191), (.prf, 0, 0x2F8, 46 * 256, 47 * 256),
        (.hif, 0, 0x108, 16 * 2 ^ 30, 17 * 2 ^ 30)],
      let (p, i, off, good, bad) := x
      (up.bar0Open && up.pageServed p i && decide (i < p.count) && !up.stalled) = true ∧ off % 8 = 0 ∧ off < 0x1000 ∧
      rwField up p i off (fun f => !up.reserved p i off f (bits (good % 2 ^ 64) f.hi f.lo) (good % 2 ^ 64)) = true ∧
      (off ≠ 0x28 → rwField up p i off (fun f => up.reserved p i off f (bits (bad % 2 ^ 64) f.hi f.lo) (bad % 2 ^ 64)) = true)) ∧
    plainReg .hif 0x28 = true ∧ plainReg .die 0x100 = true ∧ 0x300 + 8 * 15 = 0x378 ∧ 0x200 + 8 * 31 = 0x2F8 := by
  and_intros <;> decide +kernel

theorem test_witness_EventCountClearsWhenRead :
    ∀ x ∈ [(Page.blk, 511), (.stk, 15), (.ref, 0)],
      up.bar0Open = true ∧ up.pageServed x.1 x.2 = true ∧ x.2 < x.1.count ∧ 7 < 8 ∧ (7 ≠ 5 ∧ 7 ≠ 6) := by decide +kernel

/-- First and later errors, the release of one bit and of the last, and severities. -/
theorem test_witness_FirstErrorIsHeldUntilErrStatIsZero :
    let s := (up.raise .stk 15 7 7 1 2 3).raise .stk 15 0 8 4 5 6
    (up.reg .stk 15 0x38).testBit 63 = false ∧ (s.reg .stk 15 0x38).testBit 63 = true ∧ s.Serves .stk 15 ∧
    (findReg .stk 0x20).isSome = true ∧ (findReg .stk 0x30).isSome = true ∧
    (∀ data ∈ [2 ^ 7, 2 ^ 7 + 1], (s.pageWrite .stk 15 0x20 data).reg .stk 15 0x20 = 2 ^ 7 + 1 - data) ∧
    rwField up .stk 15 0x30 (fun f => decide (bits (sevReset .stk) f.hi f.lo ≤ 2)) = true := by
  intro s
  refine ⟨by decide +kernel, by decide +kernel, serves_of (by decide +kernel), ?_⟩
  and_intros <;> decide +kernel

theorem test_witness_FatalErrorStopsNewWork :
    let s := up.setReg .sw 0 0x30 (up.reg .sw 0 0x30 ||| 2)
    31 < 32 ∧ s.fld .sw 0 0x30 1 0 = 2 ∧ up.fld .sw 0 0x30 (2 * 31 + 1) (2 * 31) ≠ 2 := by decide +kernel

theorem test_witness_QueueTraceDumpAndDetRegisters :
    let s : State := { live with hif.errq := [0x3FFF, 1] }
    let d : State := { live with ref.sdHost := { sel := BitVec.ofNat 64 0x402, busy := true }, ref.sdMgmt := { sel := BitVec.ofNat 64 0x402, busy := true } }
    let gone : State := { d with hw.fused := 2 ^ 16 }
    (s.bar0Open = true ∧ s.pageServed .hif 0 = true ∧ s.hif.errq = [0x3FFF, 1]) ∧
    (live.Serves .blk 15 ∧ live.shown 15 = some 15 ∧ (live.reg .blk 15 0x118).testBit 0 = false ∧ (0xF001).testBit 0 = true) ∧
    (live.Serves .ref 0 ∧ 2 ^ 16 - 1 - 63 + 47 < 2 ^ 16 ∧ bits 0x42F 10 6 ≤ 16 ∧ bits 0x42F 5 0 ≤ 47) ∧
    (d.ref.sdHost.busy = true ∧ d.ref.sdHost.sel.toNat.testBit 16 = false ∧ d.ref.sdMgmt.busy = true ∧ d.ref.sdMgmt.sel.toNat.testBit 16 = false ∧
      d.hw.fused.testBit (17 * bits d.ref.sdHost.sel.toNat 15 11 + bits d.ref.sdHost.sel.toNat 10 6) = false ∧
      d.place.dieOff.testBit (dieOf (17 * bits d.ref.sdHost.sel.toNat 15 11 + bits d.ref.sdHost.sel.toNat 10 6)) = false) ∧
    (gone.hw.fused.testBit (17 * bits gone.ref.sdHost.sel.toNat 15 11 + bits gone.ref.sdHost.sel.toNat 10 6) = true) ∧ live.Serves .cfg 0 := by
  intro s d gone
  refine ⟨by decide +kernel, ⟨serves_of (by decide +kernel), by decide +kernel, by decide +kernel, by decide +kernel⟩,
    ⟨serves_of (by decide +kernel), by decide +kernel, by decide +kernel, by decide +kernel⟩, ?_, by decide +kernel, serves_of (by decide +kernel)⟩
  decide +kernel

theorem test_witness_SifterPortOrderAndRingRegisters :
    let other := fun v : Nat => bits v 3 0 ≠ 0 ∧ bits v 3 0 ≠ 2 ^ (31 / 8)
    let legal := fun data : Nat => bits data 6 0 ≠ 0 ∧ bits data 6 0 ≤ 64 ∧ bits data 11 10 < 2
    let ord := up.setReg .sft 31 0x1C0 1
    let inl := up.setReg .sft 31 0x118 (up.reg .sft 31 0x118 ||| 256)
    (∀ s ∈ [up, ord, inl], (s.bar0Open && s.pageServed .sft 31 && decide (31 < Page.sft.count) && !s.stalled) = true) ∧
    (other (ord.reg .sft 31 0x1C0) ∧ ord.fld .sft 31 0x118 8 8 = 0 ∧ (0x540).testBit 8 = true ∧ legal 0x540) ∧
    (¬ other (up.reg .sft 31 0x1C0) ∧ (up.sifterAt 31).slots = [] ∧ legal 0x140 ∧ legal 0x001) ∧
    (other 1 ∧ inl.fld .sft 31 (0x100 + 8 * 3) 8 8 = 1 ∧ ¬ other 8 ∧ ∀ port < 4, up.fld .sft 31 (0x100 + 8 * port) 8 8 = 0) ∧
    ((up.reg .sft 31 0x228).testBit 0 = false ∧ (0x141).testBit 0 = true ∧ 4 ≤ bits 0x141 8 4 ∧ bits 0x141 8 4 ≤ 20 ∧ 4 ≤ bits 0x43 8 4) := by
  intro other legal ord inl; and_intros <;> decide +kernel

/-- A spill region of 60 GiB with the metadata behind it, in one stack. -/
def laid : State := up.setReg .pnt 0 0x110 (60 * 2 ^ 30)

/-- The layout is valid whatever the size of the metadata region. -/
theorem test_witness_PantryLayout : laid.layoutOk 60 = true := by
  have hk := Nat.mod_lt (Config.metaMib 60 laid.poolRegs) (show 4096 > 0 by decide)
  unfold State.layoutOk State.metaMib
  generalize Config.metaMib 60 laid.poolRegs % 4096 = k at hk ⊢
  obtain ⟨a, ha, b, hb, rfl⟩ : ∃ a, a < 64 ∧ ∃ b, b < 64 ∧ k = 64 * a + b := ⟨k / 64, by omega, k % 64, by omega, by omega⟩
  clear hk
  revert b
  revert a
  decide +kernel

theorem test_witness_PantryGatePtpAndOrderRegisters :
    let on : State := { (up.setReg .pnt 0 0x100 1) with pnt := { en := true, bufs := [(1, {})] } }
    let eth := up.setReg .fab 0 0x110 (2 ^ 30)
    let bad := up.setReg .pnt 0 0x118 (16 + 8177 * 2 ^ 20)
    (laid.Serves .pnt 0 ∧ bits (60 * 512 + 1) 15 9 = 60 ∧ laid.reg .pnt 0 0x100 % 2 = 0) ∧
    (on.Serves .pnt 0 ∧ on.reg .pnt 0 0x100 % 2 = 1 ∧ on.pnt.bufs ≠ []) ∧
    (bad.Serves .pnt 0 ∧ bad.reg .pnt 0 0x100 % 2 = 0 ∧ bad.layoutOk (bits 1 15 9) = false) ∧
    (up.Serves .port 127 ∧ (64 * 256 + 2).testBit 1 = true ∧ (up.reg .port 127 0x580).testBit 1 = false ∧ bits (64 * 256 + 2) 14 8 ≤ 64 ∧
      1 ≤ up.fld .port 127 0x590 31 0) ∧
    (eth.Serves .ref 0 ∧ eth.portMode (bits 0xFF 6 0) = 1 ∧ 0xFF ≠ eth.reg .ref 0 0x410 ∧ eth.reg .ref 0 0x410 < 2 ^ 17) ∧
    (up.Serves .coll 0 ∧ up.coll.slots = [] ∧ up.coll.held = [] ∧ up.coll.queued = []) ∧
    (∀ s ∈ [({ up with coll.slots := [(0, { state := 2 })] } : State), { up with coll.held := [{}] }, { up with coll.queued := [{}] }],
      s.coll.slots ≠ [] ∨ s.coll.held ≠ [] ∨ s.coll.queued ≠ []) := by
  intro on eth bad
  and_intros <;> decide +kernel

theorem test_witness_FabricRegisters :
    let rallyUp : State := { up with rly.links := [(0, { st := lkUp })] }
    let act := up.setReg .fab 0 0x118 (up.reg .fab 0 0x118 ||| 6)
    (up.Serves .fab 0 ∧ rallyUp.Serves .fab 0 ∧ act.Serves .fab 0 ∧ up.Serves .port 127) ∧
    (rallyUp.rallyDown = false ∧ up.rallyDown = true ∧ ∀ a < 3, bits 0xFFF0FFF (4 * a + 3) (4 * a) ≤ bits 0xFFF0FFF (4 * a + 19) (4 * a + 16)) ∧
    (bit 1 0 ≠ bit (up.reg .fab 0 0x118) 0 ∧ (1 : Nat).testBit (1 + bit 1 0) = false) ∧
    (bits (up.reg .fab 0 0x118) 2 0 = bits (up.reg .fab 0 0x118) 2 0 ∧ bits (up.reg .fab 0 0x118) 23 16 ≠ 0 ∧
      orderBad (bits (up.reg .fab 0 0x118) 14 9) = false ∧ orderBad (bits (up.reg .fab 0 0x118) 8 3) = false) ∧
    (act.versionActive 1 = true ∧ up.versionActive 1 = false) ∧ (∀ g < 16, bits 0xAAAA_5555 (2 * g + 1) (2 * g) ≠ 3) ∧ bits 0x80 7 6 < 3 := by
  intro rallyUp act
  and_intros <;> decide +kernel

/-- A module whose fabric carries nothing. -/
theorem idle_of {s : State} (h : (s.rly.links.isEmpty && decide (s.ports = []) && s.coll.slots.isEmpty && s.coll.queued.isEmpty &&
    s.coll.lost.isEmpty && s.jnl.transfer.isNone) = true) : s.FabricIdle := by
  simp only [Bool.and_eq_true, List.isEmpty_iff, decide_eq_true_eq, Option.isNone_iff_eq_none] at h
  refine ⟨h.1.1.1.1.1, fun n => ?_, ⟨h.1.1.1.2, h.1.1.2, h.1.2⟩, h.2⟩
  simp [State.port, h.1.1.1.1.2]
  exact ⟨rfl, fun _ => rfl⟩

theorem test_witness_FabricIdle : up.FabricIdle ∧ up.Serves .fab 0 ∧ up.Serves .port 127 :=
  ⟨idle_of (by decide +kernel), serves_of (by decide +kernel), serves_of (by decide +kernel)⟩

theorem test_witness_MemoryModeRetrainAndClockRegisters :
    let place : State := { up with place.pstate := psLive }
    let pend := up.setMux 24 { (up.mux 24) with pending := true }
    (up.Serves .mctl 0 ∧ bits 1 0 0 ≠ up.fld .mctl 0 0x100 0 0 ∧ up.nfMayChange = true) ∧
    (place.Serves .mctl 0 ∧ bits 1 0 0 ≠ place.fld .mctl 0 0x100 0 0 ∧ place.nfMayChange = false) ∧
    (up.Serves .stk 15 ∧ (0xF9_0000_0001 : Nat).testBit 32 = true ∧ bits 0xF9_0000_0001 15 0 ≠ 0 ∧ (up.stack 15).state = 1 ∧ (up.stack 15).retraining = false) ∧
    (up.Serves .clk 0 ∧ (bits 3 1 0 = 3 ∨ (bits 3 1 0 = 2 ∧ 24 ≠ 0)) ∧ (bits 2 1 0 = 2 ∧ 24 ≠ 0)) ∧
    (pend.Serves .clk 0 ∧ ¬ (bits 0 1 0 = 3 ∨ (bits 0 1 0 = 2 ∧ 24 ≠ 0)) ∧ (pend.mux 24).pending = true) ∧
    ((up.mux 24).pending = false ∧ (bits 0 1 0 = 1 → (up.pll (muxPll 24)).locked = true) ∧ (up.mux 0).pending = false ∧ bits 2 1 0 ≠ 1) := by
  intro place pend
  and_intros <;> decide +kernel

theorem test_witness_ServiceRegisters :
    let held : State := { up with hif.done := [{ ring := 0 }] }
    let trial : State := { up with sec.inTrial := true }
    let ide := up.setReg .sec 0 0x108 2
    let tst : State := { up with ref.mtRunning := true }
    let tr : State := { up with jnl.transfer := some {} }
    (up.Serves .hif 0 ∧ up.fld .hif 0 (0x408 + 0x20 * 63) 0 0 = 0 ∧ (0x2_0000_0A01 : Nat).testBit 0 = true ∧ 6 ≤ bits 0x2_0000_0A01 11 7 ∧
      bits 0x2_0000_0A01 11 7 ≤ 20 ∧ 2 ≤ bits 0x2_0000_0A01 42 32) ∧
    (held.Serves .hif 0 ∧ held.fld .hif 0 0x408 0 0 = 1 ∧ held.outstanding 0 ≠ 0) ∧
    (trial.Serves .sec 0 ∧ trial.sec.inTrial = true) ∧ (up.Serves .sec 0 ∧ up.sec.inTrial = false ∧ up.sec.running = up.sec.active) ∧
    (ide.Serves .sec 0 ∧ ide.fld .sec 0 0x108 1 1 = 1) ∧
    (up.Serves .ref 0 ∧ (0xA501 : Nat).testBit 0 = true ∧ bits 0xA501 15 8 = 0xA5 ∧ bits 0xA401 15 8 ≠ 0xA5) ∧
    (up.ref.mtRunning = false ∧ up.nfMayChange = true ∧ up.jnlMode = 0 ∧ up.mirrorRx = false ∧ tst.Serves .ref 0 ∧ tst.ref.mtRunning = true) ∧
    (tr.Serves .ref 0 ∧ tr.jnl.transfer ≠ none ∧ bits (2 ^ 48 + 1) 63 48 ≠ 0 ∧ bits (2 ^ 48 + 1) 1 0 ≠ 3) ∧
    (up.Serves .sb 0 ∧ ({ up with sb.writing := some {} } : State).sb.writing ≠ none) := by
  intro held trial ide tst tr
  and_intros <;> decide +kernel

/-! ### Witnesses: device memory -/

/-- A range that ends with a stack, and one that ends with the device. -/
theorem test_witness_MemoryAccessReadsAndWrites :
    let off := up.setStack 15 { (up.stack 15) with state := 3 }
    (0 < 16384 ∧ up.Plain (2 ^ 40 - 16384) 16384) ∧ up.Plain (2 ^ 36 - 8192) 16384 ∧
    (0 < 16384 ∧ off.nearFar = false ∧ (2 ^ 40 - 16384) + 16384 ≤ 2 ^ 40 ∧ (2 ^ 40 - 16384) / 2 ^ 36 = (2 ^ 40 - 16384 + 16384 - 1) / 2 ^ 36 ∧
      (off.stack ((2 ^ 40 - 16384) / 2 ^ 36)).state = 3 ∧ off.memWaits { addr := 2 ^ 40 - 16384, len := 16384 } = false) ∧
    (∀ k ∈ [({ up.stack 15 with held := true } : Stack), { up.stack 15 with retraining := true, retrainCh := 0 }],
      (up.setStack 15 k).devBusy (2 ^ 40 - 16384) 16384 = true) := by
  intro off
  and_intros <;> first | decide +kernel | (refine clean_of ?_; decide +kernel)

theorem test_witness_AtomicsAtTheStack :
    let s : State := { up with place.strict := true }
    let nf := up.setReg .mctl 0 0x100 3
    (∀ w ∈ [32, 64], (2 ^ 40 - 8) % (w / 8) = 0) ∧ up.Plain (2 ^ 40 - 8) (32 / 8) ∧ up.Plain (2 ^ 40 - 8) (64 / 8) ∧
    ((2 ^ 40 - 4) % 4 = 0 ∧ up.Plain (2 ^ 40 - 4) 4 ∧ up.strict = false) ∧
    ((2 ^ 40 - 128) % 128 = 0 ∧ up.Plain (2 ^ 40 - 128) 72 ∧ (Total.ofBytes (up.dev.read (2 ^ 40 - 128) 72)).zst ≠ 3) ∧
    (s.Plain (2 ^ 40 - 4) 4 ∧ s.strict = true) ∧
    (2 ^ 40 - 3 < 2 ^ 40 ∧ up.memWaits { addr := 2 ^ 40 - 3, len := 32 / 8 } = false ∧ up.memWaits { addr := 2 ^ 40 - 4, len := 64 / 8 } = false ∧ (2 ^ 40 - 3) % (32 / 8) ≠ 0 ∧ (2 ^ 40 - 4) % (64 / 8) ≠ 0) ∧
    (nf.memWaits { addr := 8, len := 64 / 8 } = false ∧ nf.nearFar = true) := by
  intro s nf
  and_intros <;> first | decide +kernel | (refine clean_of ?_; decide +kernel)

theorem test_witness_ScrubRetrainAndSelfRefresh :
    let rt := fun (fails : Nat) => up.setStack 15 { (up.stack 15) with retraining := true, retrainCh := 31, retrainFails := [(31, fails)] }
    let asked := (rt 1).setReg .stk 15 0x108 0x1_0000_0001
    let sleep := up.setStack 15 { (up.stack 15) with state := 2 }
    (2 ^ 35 - 1 < 2 ^ 35 ∧ (up.stack ((2 ^ 35 - 1) / 2 ^ 31)).state ≠ 3 ∧ 2 ^ 35 - 1 ∉ (up.stack ((2 ^ 35 - 1) / 2 ^ 31)).bad) ∧
    ((up.stack 15).retraining = false ∧ (up.stack 15).state = 1 ∧ (sleep.stack 15).retraining = false ∧ (sleep.stack 15).state = 2) ∧
    (∀ f ∈ [1, 2], ((rt f).stack 15).retraining = true ∧ (rt f).retrainAsked 15 = none ∧
      ((rt f).stack 15).retrainFails.num ((rt f).stack 15).retrainCh = f ∧ ((rt f).stack 15).state ≠ 3) ∧
    ((asked.stack 15).retraining = true ∧ ∃ c ∈ List.range 32, c ≠ (asked.stack 15).retrainCh ∧ asked.retrainAsked 15 = some c ∧ (asked.stack 15).state = 1) ∧
    (up.fld .mctl 0 0x100 1 1 = 1 ∧ (up.stack 15).held = false) ∧
    (∀ s ∈ [up, sleep, rt 1, rt 2, asked], s.clockStopped (lb4Mux 15) = false) := by
  intro rt asked sleep; and_intros <;> decide +kernel

theorem test_witness_RetrainEndsWithNothingWaiting : ∀ f ∈ [1, 2],
    (up.setStack 15 { (up.stack 15) with retraining := true, retrainCh := 31, retrainFails := [(31, f)] }).NoWaiters := by
  intro f _
  refine noWaiters ?_
  exact Eq.trans (b := (up.mem.queue.isEmpty && up.rly.reqIn.isEmpty && decide (up.sft.units = []))) rfl (by decide +kernel)

theorem test_witness_StoringKeepsMemoryCanonical :
    let s : State := { up with dev := Mem.write [] (2 ^ 40 - 1) [1], host := Mem.write [] 0 [1] }
    s.memOk ∧ (∃ t, exec (.memAccess true 0 0 [1] 0) s = .next t) := by
  intro s; exact ⟨⟨by decide +kernel, by decide +kernel⟩, _, rfl⟩

/-! ### Witnesses: blocks -/

/-- Block 0 of the LIVE placement with a long-word program of one word and a run of SEQ 7 at its start. -/
def runs (hdr : Nat) (slots : List Nat) (phase : Phase := .issue) : State := { live with
  blocks := [(0, { store := Mem.write [] 0 (leBytes 2 hdr ++ slots.flatMap (leBytes 4)), lwBytes := 2 + 4 * slots.length, hudMask := 1
                   cntCfg := [(0, { used := true, hostOk := true }), (47, { used := true })]
                   run := some { req := { seq := some 7 }, phase } })]
  hif := { live.hif with opened := [{ seq := 7, opcode := 0x10, targets := [(0, 0)], all := [(0, 0)] }] } }

/-- The word that block `p` takes up issues: the hypotheses of the statements about words that issue. -/
def issues (s : State) (p : Nat) (w : LongWord) : Bool :=
  match (s.block p).run with
  | none => false
  | some run =>
    let b := (s.block p).land (s.block p).beats
    let u := s.setBlock p b
    s.canBeat p && decide (run.phase = .issue) && noColl s && decide ((s.block p).lateFault (s.block p).beats = none) &&
    decide (b.residueHit none = none) && decide (fetchWord b.store b.lwBase b.lwBytes (2 * run.pc) = some w) &&
    decide (wordFault (u.wordEnv p) run.pc w = none) && (match w.slot 6 with | some r => decide (u.holdTest p r = .pass) | none => true) &&
    decide (stateFault u p b.beats run.req.chk (decide (b.hold ≠ .none)) w = none)

theorem test_witness_WordIssuesInOneBeat :
    issues (runs 0x8040 [0x4F03F000]) 0 { hdr := 0x8040, slots := [(0, 0x4F03F000)] } = true ∧
    issues (runs 0x2000 [0xF3E00004]) 0 { hdr := 0x2000, slots := [(2, 0xF3E00004)] } = true := by and_intros <;> decide +kernel

/-- One word for each clause: no slot; loads in either slot; a store; the first and last VEC operation; SETA; SIG; ZERO of all 64 columns; MMA. -/
theorem test_witness_SlotsActAtTheirIssueBeat :
    issues (runs 0 []) 0 { hdr := 0, slots := [] } = true ∧
    (∀ x ∈ [(2, 0xF3E00004), (3, 0x13E00004)], issues (runs (2 ^ (15 - x.1)) [x.2]) 0 { hdr := 2 ^ (15 - x.1), slots := [x] } = true ∧
      lKind x.2 = 0 ∧ lDec x.2 = false) ∧
    (issues (runs (2 ^ 11) [0xF3E00004]) 0 { hdr := 2 ^ 11, slots := [(4, 0xF3E00004)] } = true ∧ lKind 0xF3E00004 = 0) ∧
    (∀ r ∈ [0xF0000000, 0xF4400008], issues (runs (2 ^ 10) [r]) 0 { hdr := 2 ^ 10, slots := [(5, r)] } = true ∧ vOp r ≤ 0x11) ∧ vOp 0xF4400008 = 0x11 ∧
    (issues (runs (2 ^ 8) [0x27F80001]) 0 { hdr := 2 ^ 8, slots := [(7, 0x27F80001)] } = true ∧ cOp 0x27F80001 = 4) ∧
    (issues (runs (2 ^ 9) [0x17803FFF]) 0 { hdr := 2 ^ 9, slots := [(6, 0x17803FFF)] } = true ∧ sOp 0x17803FFF = 0 ∧ sCnt 0x17803FFF = 47) ∧
    (∀ i ∈ [0, 1], issues (runs (2 ^ (15 - i)) [0x4F03F000]) 0 { hdr := 2 ^ (15 - i), slots := [(i, 0x4F03F000)] } = true ∧ mOp 0x4F03F000 = 4 ∧
      issues (runs (2 ^ (15 - i)) [0x1F01FC00]) 0 { hdr := 2 ^ (15 - i), slots := [(i, 0x1F01FC00)] } = true ∧ mOp 0x1F01FC00 = 1) := by
  and_intros <;> decide +kernel

/-- The last and an earlier beat of each kind, and the end with and without something in flight. -/
theorem test_witness_EmptyBeatsAndCommandEnd :
    (∀ ph ∈ [Phase.idle 1, .idle 15, .mmas 1 0, .mmas 1 3, .mmas 7 0, .ending 1, .ending 0], let s := runs 0 [] ph
      ((s.block 0).run.any (fun r => decide (r.phase = ph))) = true ∧ (s.block 0).lateFault (s.block 0).beats = none ∧ s.canBeat 0 = true ∧
      ((s.block 0).land (s.block 0).beats).residueHit none = none) ∧
    (let s := (runs 0 [] (.ending 0)).onBlock 0 (fun b => { b with pend := [{ due := 5 }] })
     s.canBeat 0 = true ∧ ((s.block 0).land (s.block 0).beats).pend ≠ []) ∧
    (let s := runs 0 [] (.ending 0)
     s.fencedBlock 0 = false ∧ ((s.block 0).land (s.block 0).beats).pend = [] ∧ s.hif.done.length < 4096 ∧
      (∃ c ∈ s.hif.opened, s.openCmd 7 = some c ∧ c.targets.map Prod.fst = [0] ∧ c.faults = []) ∧ s.shapeOf 0 = some 0) ∧
    (let s := (runs 0 [] (.ending 0)).onBlock 0 (fun b => { b with run := some { phase := .ending 0 } })
     (s.block 0).run.any (fun r => decide (r.req.seq = none)) = true ∧ s.fencedBlock 0 = false ∧ ((s.block 0).land (s.block 0).beats).pend = []) := by
  and_intros <;> decide +kernel

/-- A reserved header bit, and a load outside the block store. -/
theorem test_witness_WordFaultEndsItsCommand :
    ∀ x ∈ [(0x0010, []), (0x2000, [0xF3E00004])],
      let s := (runs x.1 x.2).onBlock 0 (fun b => { b with cells := [(0, { a := [(0, 2 ^ 40)] })] })
      let b := (s.block 0).land (s.block 0).beats
      let u := s.setBlock 0 b
      let w : LongWord := { hdr := x.1, slots := (slotsOf x.1).zip x.2 }
      s.canBeat 0 = true ∧ noColl s = true ∧ s.hif.done.length < 4096 ∧ s.pageOfBlock 0 = some 0 ∧ (s.block 0).lateFault (s.block 0).beats = none ∧ b.residueHit none = none ∧
      fetchWord b.store b.lwBase b.lwBytes 0 = some w ∧
      (if x.1 = 0x10 then (wordFault (u.wordEnv 0) 0 w).any (fun f => decide (f.code < 32)) = true
       else wordFault (u.wordEnv 0) 0 w = none ∧ (w.slot 6).all (fun r => decide (u.holdTest 0 r = .pass)) = true ∧
        (stateFault u 0 b.beats false (decide (b.hold ≠ .none)) w).any (fun f => decide (f.code < 32)) = true) := by
  decide +kernel

theorem test_witness_SignalsAndHuddleReleases :
    let arrives : State := { live with hif.inflight := [.host 0 0 (2 ^ 64 - 1) none], hif.opened := [{ seq := 3, opcode := 1, wait := some (0, 0, 5) }], hif.waits := [3] }
    let early : State := { (live.onBlock 0 (fun b => { b with dma.flight := [(0, 1)] })) with hif.inflight := [.remote 0 0 0 1 0 1] }
    let line : State := live.onBlock 0 (fun b => { b with arr := [(0, 1)] })
    (arrives.hif.inflight[0]? = some (.host 0 0 (2 ^ 64 - 1) none) ∧ (InFlight.host 0 0 (2 ^ 64 - 1) none).target = (0, 0, 2 ^ 64 - 1) ∧
      arrives.signalReady (.host 0 0 (2 ^ 64 - 1) none) = true ∧ arrives.physOf 0 = some 0 ∧ arrives.hif.done.length < 4096) ∧
    (arrives.hif.waits = [3] ∧ arrives.hif.opened = [{ seq := 3, opcode := 1, wait := some (0, 0, 5) }] ∧ ((arrives.block 0).cnt 0).abandoned = none ∧
      5 ≤ min (2 ^ 64 - 1) (((arrives.block 0).cnt 0).value + (2 ^ 64 - 1))) ∧
    (early.hif.inflight[0]? = some (.remote 0 0 0 1 0 1) ∧ early.signalReady (.remote 0 0 0 1 0 1) = false) ∧
    ((line.line 0).gen < line.finalGen 0 ∧ live.finalGen 0 ≤ (live.line 0).gen) := by
  intro arrives early line; and_intros <;> decide +kernel

theorem test_witness_FencesStopTheirBlocks :
    (noColl live = true ∧ live.inService 0 = true ∧ live.fencedBlock 0 = false ∧ live.live = true ∧ live.shapeOf 0 = some 0 ∧ live.pageOfBlock 0 = some 0) ∧
    2 ^ 24 - 1 < 2 ^ 24 ∧ (live.block 0).hudMask.testBit 0 = true ∧ (31 < 32 ∧ live.fence.dies.testBit 31 = false) := by
  and_intros <;> decide +kernel

/-- Block 0 with a DMA ring of 16 slots at 0x1000 whose first descriptor moves three rows of 64 bytes at the end of device memory. -/
def dmaAt (op posted : Nat) (flight : List (Nat × Nat)) (sig : Nat := 0) : State := live.setBlock 0 { live.block 0 with
  store := Mem.write [] 0x1000 (leBytes 1 op ++ leBytes 1 0 ++ leBytes 2 2 ++ leBytes 4 64 ++ leBytes 8 (2 ^ 40 - 192) ++ leBytes 4 0x10000 ++
    leBytes 2 0 ++ leBytes 2 sig ++ leBytes 4 64 ++ leBytes 4 64)
  cnts := Sparse.set {} [] 1 { value := posted }
  dma := { en := true, slotsLog2 := 4, base := 1, done := 2, post := 1, started := flight.length, flight } }

theorem test_witness_DmaMovesItsRows :
    (∀ s ∈ [dmaAt 1 1 [], dmaAt 1 8 (List.replicate 7 (0, 1)), dmaAt 1 1 [] 0x8000], s.fencedBlock 0 = false ∧ noColl s = true ∧ s.ringsRun = true ∧
      (s.block 0).dma.en = true ∧ (s.block 0).dma.halted = false ∧ (s.block 0).dma.flight.length < 8 ∧
      (s.block 0).dma.started + 1 ≤ ((s.block 0).cnt (s.block 0).dma.post).value) ∧
    ((dmaAt 1 1 []).dmaFormatOk (((dmaAt 1 1 []).block 0).dmaDesc 0) = true ∧ (dmaAt 1 1 [] 0x8000).dmaFormatOk (((dmaAt 1 1 [] 0x8000).block 0).dmaDesc 0) = false) ∧
    (∀ op ∈ [1, 2], let b := (dmaAt op 1 [(0, 1)]).block 0
      let d := b.dmaDesc 0
      b.sigs = [] ∧ (b.cnt b.dma.done).abandoned = none ∧ b.dma.flight = [(0, 1)] ∧ d.op = op ∧ d.rows = 3 ∧ d.len ≤ d.lstride ∧ d.len ≤ d.rstride ∧
      ∀ r < d.rows, ∀ k < d.len, rowAt d.loc d.lstride r + k ≠ b.dma.slotAddr 32 0 + 20) ∧
    (∀ op ∈ [0, 1, 4], let s := dmaAt op 1 [(0, 1)] 0x8000
      (s.block 0).dma.flight = [(0, 1)] ∧ ((s.block 0).dmaDesc 0).op = op ∧ s.dmaFormatOk ((s.block 0).dmaDesc 0) = false) := by
  and_intros <;> decide +kernel

theorem test_witness_DmaRowsPlain : ∀ op ∈ [1, 2], ∀ r < 3, (dmaAt op 1 [(0, 1)]).Plain (rowAt (2 ^ 40 - 192) 64 r) 64 := by
  intro op hop r hr
  refine plain_of ?_ ?_
  all_goals
    revert r
    revert op
    decide +kernel

/-! ### Witnesses: the prep core -/

/-- Block 0 of the LIVE placement with one instruction of four bytes at the pc and values in x1 and x2. -/
def core (ins x1 x2 : Nat) (more : Block → Block := id) : State := live.setBlock 0 (more { live.block 0 with
  imem := Mem.write [] 0 (leBytes 4 ins)
  prep := { state := 1, x := [(1, BitVec.ofNat 64 x1), (2, BitVec.ofNat 64 x2)] } })

/-- The instruction of four bytes stands at the pc of the running core of block 0. -/
def prepAt (s : State) (ins : Nat) : Bool :=
  s.prepRuns 0 && !(s.block 0).asleep && (match (s.block 0).prepFetch with | .ok x => decide (x = (ins, 4)) | .error _ => false)

theorem prepAt_of {s : State} {ins : Nat} (h : prepAt s ins = true) : s.PrepAt 0 ins 4 := by
  unfold prepAt at h
  split at h
  · simp only [Bool.and_eq_true, Bool.not_eq_true', decide_eq_true_eq] at h
    exact ⟨h.1.1, h.1.2, by rename_i x hx; rw [hx, h.2]⟩
  · simp at h

theorem test_witness_PrepAt : (core 0x002081B3 1 1).PrepAt 0 0x002081B3 4 := prepAt_of (by decide +kernel)

/-- ADD x3, x1, x2; ADDI x3, x1, −1; BEQ taken and not; LD and SD at both ends of data memory; ECALL in and out of a trap; MRET. -/
theorem test_witness_PrepCoreInstructions :
    (∀ x ∈ [(0x002081B3, 5, 2 ^ 64 - 1), (0xFFF08193, 0, 0), (0x00208463, 7, 7), (0x00208463, 7, 8), (0x0000B183, 0x100000, 0), (0x0000B183, 0x13FFF8, 0),
        (0x0020B023, 0x100000, 0), (0x0020B023, 0x13FFF8, 0), (0x00000073, 0, 0), (0x30200073, 0, 0)],
      noColl (core x.1 x.2.1 x.2.2) = true ∧ prepAt (core x.1 x.2.1 x.2.2) x.1 = true ∧
        ((core x.1 x.2.1 x.2.2).block 0).xreg 1 = x.2.1) ∧
    (iOp 0x002081B3 = 0x33 ∧ iF3 0x002081B3 = 0 ∧ iF7 0x002081B3 = 0) ∧ (iOp 0xFFF08193 = 0x13 ∧ iF3 0xFFF08193 = 0) ∧
    (iOp 0x00208463 = 0x63 ∧ iF3 0x00208463 = 0) ∧ (iOp 0x0000B183 = 0x03 ∧ iF3 0x0000B183 = 3 ∧ iRs1 0x0000B183 = 1 ∧ immI 0x0000B183 = 0) ∧
    (iOp 0x0020B023 = 0x23 ∧ iF3 0x0020B023 = 3 ∧ iRs1 0x0020B023 = 1 ∧ immS 0x0020B023 = 0) ∧
    (let s := core 0x00000073 0 0 (fun b => { b with prep.inTrap := true })
     prepAt s 0x00000073 = true ∧ (s.block 0).prep.inTrap = true ∧ s.fencedBlock 0 = false ∧ s.inService 0 = true ∧ s.pageOfBlock 0 = some 0) ∧
    (let s := core 0x13 0 0 (fun b => { b with prep := { b.prep with mstatus := 0x1808, mip := 2 ^ 18, mie := 2 ^ 18 } })
     let c := (s.block 0).prep
     s.prepRuns 0 = true ∧ c.mstatus.getLsbD 3 = true ∧ c.mip.getLsbD 18 = true ∧ c.mie.getLsbD 18 = true ∧ ∀ j < 18, (c.mip &&& c.mie).getLsbD j = false) := by
  and_intros <;> decide +kernel

/-- The word of an Xvln instruction with x1, x2 and x3. -/
def vln (f7 : Nat) : Nat := encR f7 2 1 0 3 0x0B

theorem test_witness_XvlnInstructions :
    let line := fun (b : Block) => { b with hudMask := 2 ^ 15 }
    let busy := fun (b : Block) => { b with run := some {} }
    let at47 := fun (b : Block) => { b with cnts := [(47, { value := 9 })] }
    let gone := fun (b : Block) => { b with cnts := [(47, { abandoned := some 3 })] }
    (∀ x ∈ [(0x00, 47, 1), (0x00, 0, 2 ^ 32 - 1), (0x01, 256 * 15 + 47, 1), (0x02, 47, 0), (0x03, 47, 0), (0x08, 0, 0), (0x09, 15 + 15 * 64, 1), (0x09, 16 + 7, 1),
        (0x09, 32 + 3, 1), (0x0A, 15 + 8 * 64, 0), (0x10, 15, 0), (0x11, 15, 0), (0x12, 0, 0), (0x18, 47, 1), (0x19, 0, 0)],
      prepAt (core (vln x.1) x.2.1 x.2.2) (vln x.1) = true ∧ iOp (vln x.1) = 0x0B ∧ iF3 (vln x.1) = 0 ∧ iF7 (vln x.1) = x.1 ∧
      ((core (vln x.1) x.2.1 x.2.2).block 0).xreg (iRs1 (vln x.1)) = x.2.1 ∧ ((core (vln x.1) x.2.1 x.2.2).block 0).xreg (iRs2 (vln x.1)) = x.2.2 ∧
      ((core (vln x.1) x.2.1 x.2.2).block 0).run = none) ∧
    ((core (vln 1) (256 * 15 + 47) 1).physOf ((256 * 15 + 47) / 256)).isSome = true ∧ (256 * 15 + 47) % 256 ≤ 47 ∧ (core (vln 3) 0 0).strict = false ∧
    (prepAt (core 0x13 0 0) 0x13 = true ∧ iOp 0x13 ≠ 0x0B) ∧
    (∀ y ∈ [9, 10], prepAt (core (vln 2) 47 y at47) (vln 2) = true ∧ (((core (vln 2) 47 y at47).block 0).cnt 47).abandoned = none ∧
      (((core (vln 2) 47 y at47).block 0).cnt 47).value = 9 ∧ prepAt (core (vln 0x18) 47 y at47) (vln 0x18) = true) ∧
    (prepAt (core (vln 0x18) 47 9 gone) (vln 0x18) = true ∧ (((core (vln 0x18) 47 9 gone).block 0).cnt 47).abandoned ≠ none) ∧
    (prepAt (core (vln 4) 15 0 line) (vln 4) = true ∧ (core (vln 4) 15 0 line).hudTest 0 15 true = .ok) ∧
    (prepAt (core (vln 5) 15 0 line) (vln 5) = true ∧ (core (vln 5) 15 0 line).hudTest 0 15 false = .ok) ∧
    (∀ f ∈ [0x08, 0x10, 0x12], prepAt (core (vln f) 0 0 busy) (vln f) = true ∧ ((core (vln f) 0 0 busy).block 0).run.isSome = true) ∧
    (∀ x ∈ [15 + 15 * 64, 16 + 7, 32 + 3, 15 + 8 * 64], selectorOk x = true) := by
  intro line busy at47 gone; and_intros <;> decide +kernel

/-! ### Witnesses: placements -/

/-- A placement image of 384 bytes that places no die: its header with the two digests, an empty weight table and an empty route section. -/
def img (route : Nat) (digests : List (BitVec 8)) : List (BitVec 8) :=
  leBytes 4 0x434C5056 ++ leBytes 2 1 ++ leBytes 2 256 ++ leBytes 8 0x20240417 ++ leBytes 4 0 ++ leBytes 4 16 ++ leBytes 8 384 ++
  leBytes 8 256 ++ leBytes 8 256 ++ leBytes 8 route ++ leBytes 8 384 ++ digests ++ zb 256

/-- The digests that the image's own bytes have. -/
def imgDigests : List (BitVec 8) := beBytes 32 0xC6FFC49089E9FCF9C64C0C613A45F8F52FB4C1B005691823B34858DC62D9D70B ++ beBytes 32 0x070FA1AB6FCC557ED14D42941F1967693048551EB9042A8D0A057AFBD75E81E0

/-- A PLACE_LOAD of an image at device address 0, in a state of the placement. -/
def loadAt (img : List (BitVec 8)) (ps : Nat) (gradeB := false) : State :=
  front { up with dev := Mem.write [] 0 img, place.pstate := ps, hw.gradeB := gradeB } (desc 0x11 [(0x10, 8, dx 0)])

theorem test_witness_PlaceLoadIsOffered :
    (∀ ps ∈ [psEmpty, psLoading, psVerifying, psLive, psRetiring, psFailed], let s := loadAt (img 320 (zb 64)) ps
      let e := desc 0x11 [(0x10, 8, dx 0)]
      offered s e [] = true ∧ e.opcode = 0x11 ∧ e.imageXOk = true ∧ xAddr (e.op 0x10 8) = 0 ∧ s.devBusy 0 256 = false ∧ s.place.pstate = ps) ∧
    (loadAt (img 320 (zb 64)) psEmpty).Plain 0 256 ∧ (loadAt (img 320 (zb 64)) psFailed).Plain 0 384 ∧ up.Plain (2 ^ 40 - 256) 256 ∧
    (∀ ps ∈ [psEmpty, psFailed], ((loadAt (img 320 (zb 64)) ps).setStack 0 { up.stack 0 with held := true }).devBusy 0 256 = true) := by
  and_intros <;> first | decide +kernel | (refine clean_of ?_; decide +kernel)

/-- An image that fails its header's checks, its tables' (two of them meet), the grade's, its digests', and one that passes everything. -/
theorem test_witness_PlaceLoadMakesThePlacementLive :
    let h := fun (s : State) => s.dev.read 0 256
    let d := fun (s : State) => ImgHdr.ofBytes (h s)
    let i := fun (s : State) => s.dev.read 0 (d s).bytes
    (headerChecks (h (loadAt (zb 256) psEmpty)) = false) ∧
    (let s := loadAt (img 256 (zb 64)) psFailed
     headerChecks (h s) = true ∧ (d s).bytes = 384 ∧ (d s).imageOk (i s) = false) ∧
    (let s := loadAt (img 320 (zb 64)) psEmpty true
     headerChecks (h s) = true ∧ (d s).imageOk (i s) = true ∧ s.shapeFits (d s) = false) ∧
    (let s := loadAt (img 320 (zb 64)) psEmpty
     headerChecks (h s) = true ∧ (d s).imageOk (i s) = true ∧ s.shapeFits (d s) = true ∧ (d s).countersOk (i s) = true ∧
       (d s).wgtDigest (i s) ≠ slice (i s) 0x60 32) ∧
    (let s := loadAt (img 320 imgDigests) psEmpty
     headerChecks (h s) = true ∧ (d s).imageOk (i s) = true ∧ s.shapeFits (d s) = true ∧ (d s).countersOk (i s) = true ∧
       (d s).progDigest (i s) = slice (i s) 0x40 32 ∧ (d s).wgtDigest (i s) = slice (i s) 0x60 32) := by
  intro h d i; and_intros <;> decide +kernel

theorem test_witness_PlaceRetireEmptiesThePlacement :
    let e := desc 0x12 []
    let busy : State := { runs 0 [] with hif.opened := [] }
    let going : State := { live with place := { live.place with pstate := psRetiring, retireSeq := some 7 }, hif.opened := [{ seq := 7, opcode := 0x12 }] }
    (e.opcode = 0x12 ∧ e.zeros 0x10 0x40 = true) ∧
    ((front up e).Offers e [] ∧ (front up e).place.retireSeq = none ∧ (front up e).place.pstate = psEmpty) ∧
    ((front live e).Offers e [] ∧ (front live e).place.retireSeq = none ∧ (front live e).place.pstate ≠ psEmpty ∧ (front live e).hif.opened = [] ∧
      (front live e).hif.waits = [] ∧ (front live e).placementIdle = true) ∧
    (let s : State := { front busy e with place := { busy.place with pstate := psRetiring, retireSeq := some 3 } }
     s.Offers e [] ∧ s.place.retireSeq ≠ none ∧ s.placementIdle = false) ∧
    ((front busy e).Offers e [] ∧ (front busy e).place.retireSeq = none ∧ (front busy e).place.pstate ≠ psEmpty ∧
      (front busy e).waitingSeqs = [] ∧ (front busy e).placementIdle = false) ∧
    (going.place.retireSeq = some 7 ∧ going.placementIdle = true ∧ going.hif.done.length < 4096 ∧ going.openCmd 7 = some { seq := 7, opcode := 0x12 }) := by
  intro e busy going; and_intros <;> decide +kernel

/-! ### Witnesses: Sifters -/

/-- A module with context 8,191 pinned or not, homed on Sifter 31 or not. -/
def ctxState (home : Option Nat) (pinned : Bool) : State := up.setCtx 8191 { home, pinned }

/-- A Sifter image of one instruction, END, with its header's last 32 bytes given (R260). -/
def sftImage (digest : List (BitVec 8)) : List (BitVec 8) :=
  leBytes 4 0x534E4C49 ++ leBytes 2 1 ++ leBytes 2 1 ++ leBytes 8 0x77 ++ leBytes 4 15 ++ leBytes 4 1 ++ zb 8 ++ digest ++ leBytes 8 (0x52 * 2 ^ 56)

/-- An SFT_LOAD to a slot of Sifter 31 with its image at device address 0. -/
def sftLoadAt (slot : Nat) (image : List (BitVec 8)) : State :=
  front { up with dev := Mem.write [] 0 image } (desc 0x30 [(0x10, 1, 31), (0x11, 1, slot), (0x18, 8, dx 0)])

theorem test_witness_SifterCommands_load :
    let e := desc 0x30 [(0x10, 1, 31), (0x11, 1, 15), (0x18, 8, dx 0)]
    let f := desc 0x30 [(0x10, 1, 31), (0x11, 1, 16), (0x18, 8, dx 0)]
    let u := desc 0x31 [(0x10, 1, 31), (0x11, 1, 15)]
    let good := sftLoadAt 15 (sftImage (beBytes 32 0x572C7033FD986B567D9E6AE968964B3986D9D53360281EA5714E03CA7C47752E))
    let bad := sftLoadAt 15 (sftImage (zb 32))
    (∀ x ∈ [(sftLoadAt 15 (zb 72), e), (sftLoadAt 16 (sftImage (zb 32)), f), (good, e), (bad, e)],
      offered x.1 x.2 [] = true ∧ x.2.opcode = 0x30 ∧ x.2.op 0x10 1 < 32 ∧ x.2.zeros 0x12 0x18 = true ∧ xIsDev (x.2.op 0x18 8) = true ∧ x.2.zeros 0x20 0x40 = true ∧
      x.1.xBusy (x.2.op 0x18 8) 2112 = false) ∧
    (∀ s ∈ [good, bad], s.nearFar = false ∧ s.holdsIn 0 72 = false) ∧ good.Plain 0 72 ∧
    sftHeaderOk ((sftLoadAt 15 (zb 72)).dev.read 0 64) = false ∧ 15 < f.op 0x11 1 ∧
    (∀ s ∈ [good, bad], sftHeaderOk (s.dev.read 0 64) = true ∧ 8 * field (s.dev.read 0 64) 6 2 = 8) ∧
    good.sftCheck 31 (good.dev.read 0 64) (good.dev.read 64 8) = 0 ∧ bad.sftCheck 31 (bad.dev.read 0 64) (bad.dev.read 64 8) ≠ 0 ∧
    ((front up u).Offers u [] ∧ u.opcode = 0x31 ∧ u.op 0x10 1 < 32 ∧ u.op 0x11 1 < 16 ∧ u.zeros 0x12 0x40 = true) := by
  intro e f u good bad
  and_intros <;> first | decide +kernel | (refine clean_of ?_; decide +kernel)

/-- An SFT_CTX descriptor of context 8,191. -/
def ctxDesc (op : Nat) (more : List (Nat × Nat × Nat)) : WinEntry := desc 0x32 ([(0x10, 1, op), (0x12, 2, 8191)] ++ more)

theorem test_witness_SifterCommands_contexts :
    let offers := fun (s : State) (e : WinEntry) => offered (front s e) e [] = true ∧ e.opcode = 0x32 ∧ e.ctxNo < 8192 ∧
      e.zeros 0x15 0x16 = true ∧ e.zeros 0x20 0x40 = true ∧ s.ctxInRun e = false ∧ s.ctxAway e = false
    let inRun := (ctxState (some 31) false).setSifter 31 { runs := [{ sf := { ctxA := 8191 } }] }
    let full : State := { ctxState (some 31) false with sft.ctxs := (List.range 512).map (fun i => (i, { home := some 31, pinned := true })) ++ [(8191, { home := some 31 })] }
    let strict : State := { ctxState none false with place.strict := true }
    (∀ h ∈ [31, 0xFF], ∀ p ∈ [true, false], let e := ctxDesc 0 [(0x11, 1, h)]
      let s := ctxState (some 3) p
      offers s e ∧ e.op 0x10 1 = 0 ∧ s.strict = false ∧ (e.op 0x11 1 < 32 ∨ e.op 0x11 1 = 0xFF) ∧ e.zeros 0x14 0x20 = true ∧ (s.ctx 8191).pinned = p) ∧
    (∀ s ∈ [ctxState none false, ctxState (some 31) false, full], let e := ctxDesc 1 []
      offers s e ∧ e.op 0x10 1 = 1 ∧ s.strict = false ∧ e.zeros 0x11 0x12 = true ∧ e.zeros 0x14 0x20 = true) ∧
    ((ctxState none false).ctx 8191).home = none ∧ ((ctxState (some 31) false).ctx 8191).home = some 31 ∧ ((ctxState (some 31) false).ctx 8191).pinned = false ∧
    (512 ≤ full.pinnedOn (fun j => sifterDie j == sifterDie 31)) ∧ ¬ 512 ≤ (ctxState (some 31) false).pinnedOn (fun j => sifterDie j == sifterDie 31) ∧
    (let e := ctxDesc 2 []
     offers (ctxState (some 31) true) e ∧ e.op 0x10 1 = 2 ∧ e.zeros 0x11 0x12 = true ∧ e.zeros 0x14 0x20 = true) ∧
    (∀ op ∈ [3, 4], ∀ n ∈ [(0, 255), (255, 0)], ∀ x ∈ [dx (2 ^ 40 - 256), 0x1000], let e := ctxDesc op [(0x14, 1, n.1), (0x16, 2, n.2), (0x18, 8, x)]
      offers up e ∧ e.op 0x10 1 = op ∧ e.ctxDataOk = true ∧ (front up e).xBusy x 256 = false ∧ (up.ctx 8191).ue = false) ∧
    (∀ x ∈ [(0, 0), (1, 0), (2, 0), (3, 255), (4, 255)], let e := ctxDesc x.1 [(0x16, 2, x.2), (0x18, 8, if x.1 < 3 then 0 else dx 0)]
      offered (front inRun e) e [] = true ∧ inRun.ctxInRun e = true ∧ inRun.ctxAway e = false ∧ (3 ≤ x.1 → e.ctxDataOk = true) ∧ e.zeros 0x11 0x12 = true) ∧
    (∀ op ∈ [0, 1, 2], let e := ctxDesc op []
      offers strict e ∧ e.op 0x10 1 = op ∧ strict.strict = true ∧ (strict.ctx 8191).home = none ∧ e.zeros 0x14 0x20 = true ∧ e.op 0x11 1 = 0) := by
  intro offers inRun full strict; and_intros <;> decide +kernel

theorem test_witness_SifterCommands_table :
    let e := desc 0x33 [(0x10, 1, 31), (0x12, 2, 8191), (0x14, 2, 1), (0x18, 8, dx 0)]
    (front up e).Offers e [] ∧ e.opcode = 0x33 ∧ e.op 0x10 1 < 32 ∧ e.zeros 0x11 0x12 = true ∧ 1 ≤ e.op 0x14 2 ∧ e.op 0x12 2 + e.op 0x14 2 ≤ 8192 ∧
    e.zeros 0x16 0x18 = true ∧ xOk (e.op 0x18 8) = true ∧ e.zeros 0x20 0x40 = true ∧ up.Plain 0 16 ∧
up.Plain (2 ^ 40 - 256) 256 ∧ (up.hostDma = true ∧ up.hostStaged 256 = true ∧ up.hostStaged 16 = true) := by
  intro e
  and_intros <;> first | decide +kernel | (refine clean_of ?_; decide +kernel)

/-- Sifter 31 with a program and the lowest frame of its queue settled and whole in store. -/
def sftReady (ins : List (BitVec 64)) : State := ({ up with
  time := { now := 100 }
  sw.frames := [{ id := 5, port := 124, bytes := zb 64, complete := true }] } : State).setSifter 31
  { slots := [(0, { insns := ins })], queue := [{ frame := 5, stamp := 99, port := 124, head := zb 64 }] }

theorem test_witness_SifterEvents :
    let f : SftFrame := { frame := 5, stamp := 99, port := 124, head := zb 64 }
    let hand := fun (die n : Nat) => ({ up with sft.handovers := [(31, die, f)] } : State).setSifter 31 { queue := List.replicate n {} }
    let ok := sftReady [BitVec.ofNat 64 (0x52 * 2 ^ 56)]
    let bad := sftReady [BitVec.ofNat 64 (0x05 * 2 ^ 56), BitVec.ofNat 64 (0x52 * 2 ^ 56)]
    let runOf := fun (s : State) (p : Prog) => ilnusRun (s.runEnv 31 0 64 f) p.insns 256 0 { mem := s.sft.ctxMem }
    ((hand 3 63).sft.handovers = [(31, 3, f)] ∧ ((hand 3 63).srcDies 31).testBit 3 = true ∧ ((hand 3 63).sifter 31).queue.length < 64) ∧
    ((hand 0 0).srcDies 31).testBit 0 = false ∧
    ((hand 3 63).clockStopped (switchMux (31 / 8)) = false ∧ (up.setMux 4 { (up.mux 4) with stuck := true }).clockStopped (switchMux (31 / 8)) = true ∧
      (up.setMux 4 { (up.mux 4) with stuck := true }).clockStopped (switchMux 3) = true) ∧
    (∀ s ∈ [ok, bad], s.clk.coast = false ∧ (s.sifter 31).runs = [] ∧ (s.sifter 31).lowest = some (f, []) ∧ s.settledOrder 31 f = true ∧
      (s.progIn 31 f.slot).isSome = true ∧ (∀ c ∈ f.ctxs, (s.ctx c).pinned = true) ∧ (∀ c ∈ f.ctxs, s.homed 31 c = true → (s.ctx c).pinned = true) ∧
      (s.frame f.frame).any (fun g => g.complete && g.bytes.length == 64) = true ∧ s.stampClash f = none ∧ s.ctxCmdsOn f = [] ∧ s.clockStopped (switchMux (31 / 8)) = false) ∧
    (ok.progIn 31 0).any (fun p => match runOf ok p with | .done _ => true | .fault .. => false) = true ∧
    (bad.progIn 31 0).any (fun p => match runOf bad p with | .done _ => false | .fault _ bit _ _ _ => decide (bit < 32)) = true := by
  intro f hand ok bad runOf; and_intros <;> decide +kernel

theorem test_witness_SifterEvents_releases :
    let e := fun (op : Nat) => desc 0x34 [(0x10, 4, 31 * 2 ^ 27 + 1), (0x14, 1, op)]
    let s := fun (ok : Bool) => up.setSifter 31 { holds := [{ id := 31 * 2 ^ 27 + 1, hostOk := ok }] }
    (∀ op ∈ [0, 1], (e op).opcode = 0x34 ∧ (e op).zeros 0x15 0x40 = true ∧ (e op).op 0x14 1 = op ∧ (front up (e op)).holdOf (e op) = none ∧
      (front up (e op)).canTake (e op) = true ∧ (e op).headerOk = true) ∧
    (∀ op ∈ [0, 1], ∀ ok ∈ [true, false], (front (s ok) (e op)).holdOf (e op) = some { id := 31 * 2 ^ 27 + 1, hostOk := ok } ∧
      (front (s ok) (e op)).canTake (e op) = true ∧ (front (s ok) (e op)).hif.window = [e op]) ∧ (front up (e 0)).Offers (e 0) [] := by
  intro e s; and_intros <;> decide +kernel

/-! ### Witnesses: switch core, Ethernet, traffic manager, Pantry -/

/-- An exact-match descriptor of the all-zero key with a result, and the places of that key filled or not. -/
def emDesc (op : Nat) (result : Nat) : WinEntry := desc op [(0x28, 8, result)]
/-- Every place of the all-zero key taken by another key. -/
def emFull : State := { up with sw.em := (emPlaces (zb 24)).map (fun i => (i, { key := 1, result := 1 })) }
/-- The all-zero key in its first place. -/
def emHas : State := { up with sw.em := [((emPlaces (zb 24)).headD 0, { key := 0, result := 1 })] }

theorem test_witness_TableAndMeterCommands_em :
    (∀ x ∈ [(up, 0x41, 1), (up, 0x41, 0), (emHas, 0x41, 1), (emFull, 0x41, 1), (up, 0x42, 1), (emHas, 0x42, 1), (up, 0x43, 0), (emHas, 0x43, 0)],
      let e := emDesc x.2.1 x.2.2
      offered (front x.1 e) e [] = true ∧ e.opcode = x.2.1 ∧ e.zeros 0x30 0x40 = true ∧ e.emKey = zb 24) ∧
    (emDesc 0x43 0).zeros 0x28 0x40 = true ∧ emResOk 0 = false ∧ emResOk 1 = true ∧ emHas.emFind (zb 24) ≠ none ∧ up.emFind (zb 24) = none ∧
    emFull.emFind (zb 24) = none ∧ (∀ i ∈ emPlaces (zb 24), (!resValid (emFull.emE i).result || (emFull.emE i).bad) = false) ∧
    ((emPlaces (zb 24)).find? (fun i => !resValid (up.emE i).result || (up.emE i).bad)).isSome = true := by
  and_intros <;> decide +kernel

theorem test_witness_TableAndMeterCommands_tables :
    let t := fun (i x : Nat) => desc 0x40 [(0x10, 2, i), (0x18, 8, x)]
    let g := fun (i : Nat) => desc 0x44 [(0x10, 2, i), (0x12, 1, 1), (0x20, 8, 3)]
    let bad : State := { up with dev := Mem.write [] 160 (leBytes 8 (2 ^ 63)) }
    (∀ i ∈ [8191, 8192], ∀ x ∈ [dx 0, 0x1000], offered (front up (t i x)) (t i x) [] = true ∧ (t i x).opcode = 0x40 ∧
      (t i x).zeros 0x12 0x18 = true ∧ xOk x = true ∧ (t i x).zeros 0x20 0x40 = true ∧ (t i x).op 0x10 2 = i ∧ (t i x).op 0x18 8 = x) ∧
    (up.Plain 0 168 ∧ bad.Plain 0 168 ∧ up.hostDma = true ∧ up.hostStaged 168 = true) ∧ resOk (field (bad.bytesAt (dx 0) 168) 160 8) = false ∧
    resOk (field (up.bytesAt (dx 0) 168) 160 8) = true ∧
    (∀ i ∈ [4095, 4096], offered (front up (g i)) (g i) [] = true ∧ (g i).opcode = 0x44 ∧ (g i).op 0x12 1 < 2 ∧
      (g i).zeros 0x13 0x20 = true ∧ (g i).zeros 0x30 0x40 = true ∧ (g i).op 0x10 2 = i) := by
  intro t g bad
  and_intros <;> first | decide +kernel | (refine clean_of ?_; decide +kernel)

theorem test_witness_TableAndMeterCommands_meters :
    let e := fun (b : Nat) => desc 0x48 [(0x10, 1, b), (0x12, 2, 4095), (0x18, 8, dx 0)]
    let good : State := { up with dev := Mem.write [] 4 (leBytes 4 1 ++ leBytes 4 0 ++ leBytes 4 9216 ++ leBytes 4 9216) }
    (∀ b ∈ [0x0F, 0x88], offered (front good (e b)) (e b) [] = true ∧ (e b).opcode = 0x48 ∧ (e b).op 0x12 2 = 4095) ∧
    ((e 0x0F).op 0x10 1).testBit 7 = false ∧ (e 0x0F).meterOk false = true ∧ ((e 0x88).op 0x10 1).testBit 7 = true ∧ (e 0x88).meterOk true = true ∧
    meterRecordOk (up.bytesAt (dx 0) 32) = false ∧ meterRecordOk (good.bytesAt (dx 0) 32) = true ∧ good.Plain 0 32 ∧ up.Plain 0 32 ∧ up.hostStaged 32 = true := by
  intro e good
  and_intros <;> first | decide +kernel | (refine clean_of ?_; decide +kernel)

/-- Every port group in Ethernet mode and clocked, ports 0 and 127 enabled and up, Pantry on with one pool, port 0's misses to port 127. -/
def eth : State := { ((((((up.setReg .fab 0 0x110 0x5555_5555).setReg .port 127 0x810 1).setReg .port 0 0x400 (127 * 256 + 2)).setReg .port 0 0x408 (16 + 16 * 2 ^ 20)).setReg
      .port 127 0x408 (16 + 16 * 2 ^ 20)).setReg .pnt 0 0x300 (2 ^ 62 - 1)) with
  clk.plls := (List.range 16).map (fun i => (10 + i, { en := true, locked := true }))
  ports := [(0, { up := true }), (127, { up := true })]
  pnt := { en := true, pools := [(0, BitVec.ofNat 64 (16 + 2 * 2 ^ 20 + 2 ^ 40))] } }

/-- A 64-byte frame that is not tagged. -/
def frame64 : List (BitVec 8) := zb 12 ++ [0x88, 0xB5] ++ zb 50

theorem test_witness_EthernetFrames_links :
    eth.clockStopped (switchMux (portDie 0)) = false ∧ eth.clockStopped (switchMux (portDie 127)) = false ∧
    (eth.portMode 127 = 1 ∧ eth.fld .port 127 0x810 0 0 = 1 ∧ eth.serdesOn 127 = true ∧ eth.fld .port 126 0x810 4 3 ≠ 3) ∧
    (up.portMode 127 ≠ 1 ∨ up.fld .port 127 0x810 0 0 = 0 ∨ up.serdesOn 127 = false) := by decide +kernel

theorem test_witness_EthernetFrames_arrivals :
    let v := eth.reg .port 0 0x400
    let cls := eth.ingressClass 0 (parseFrame frame64)
    let off : State := { eth with pnt.en := false }
    let drop := eth.setReg .port 0 0x400 0
    (up.ethUp 0 = false ∧ (({ eth with ports := [(0, { up := true, rx := some 1 })] } : State).port 0).rx ≠ none) ∧
    (eth.ethUp 0 = true ∧ (eth.port 0).rx = none ∧ frame64.length ≤ 128) ∧ (off.ethUp 0 = true ∧ (off.port 0).rx = none ∧ off.canAlloc cls 0 (some 0) = false) ∧
    (eth.canAlloc cls 0 (some 0) = true ∧ eth.sw.frames = [] ∧ eth.ternaryHit (eth.ternaryKey (parseFrame frame64) frame64 0 cls) = none ∧
      bits v 2 1 = 1 ∧ bit v 0 = 0 ∧ bits v 14 8 = 127 ∧ eth.outBelow (bits v 14 8) = true) ∧
    (bits (drop.reg .port 0 0x400) 2 1 ≠ 1 ∧ drop.canAlloc cls 0 (some 0) = true ∧
      drop.ternaryHit (drop.ternaryKey (parseFrame frame64) frame64 0 cls) = none) ∧
    (let s : State := { eth with time.now := 7, sw.lastKey := [(0, (7, 1))] }
     s.ethUp 0 = true ∧ (s.port 0).rx = none ∧ (Sparse.get (0, 0) s.sw.lastKey (0 / 32)).1 = s.time.now ∧ 0 < (Sparse.get (0, 0) s.sw.lastKey (0 / 32)).2) := by
  intro v cls off drop; and_intros <;> decide +kernel

theorem test_witness_EthernetFrames_departures :
    let g : Frame := { id := 5, port := 0, bytes := zb 128, decided := true, ct := [127], bufs := [8192] }
    let recv : State := { eth with sw.frames := [g], ports := [(0, { up := true, rx := some 5 }), (127, { up := true })] }
    let k : Copy := { frame := 5, stamp := 0, len := 64 }
    let send : State := { eth with sw.frames := [{ id := 5, bytes := frame64, complete := true }], ports := [(127, { up := true, queues := [(0, [k])] })] }
    ((recv.port 0).rx = some 5 ∧ recv.frame 5 = some g ∧ g.port = 0 ∧ g.decided = true ∧ g.outs = [] ∧ g.ct = [127] ∧ g.bad = false ∧ g.bufs ≠ [] ∧
      g.bytes.length + (zb 128).length ≤ 256) ∧
    (send.ethUp 127 = true ∧ send.txBusy 127 = false ∧ (send.pickClass 127).1 = some 0 ∧ (send.port 127).queue 0 = [k] ∧ send.aged k = false ∧
      (send.frame k.frame).any (fun f => !f.bad) = true) := by
  intro g recv k send; and_intros <;> decide +kernel

theorem test_witness_TrafficAndTimeEvents :
    let due : State := { eth with time.now := 5000, ports := [(127, { up := true, gate := { oper := [(255, 600), (1, 400)], cycle := 1000, changeAt := some 5000 } })] }
    let at' := fun (now entry start : Nat) => ({ eth with time.now := now, ports := [(127, { up := true, gate := { oper := [(255, 600), (1, 400)], cycle := 1000, entry, start } })] } : State)
    let pfc := eth.setReg .port 127 0x418 0xFF00
    let xoff : State := { eth with pnt.xoff := [(127, 128)] }
    let ptp : State := eth.setReg .ref 0 0x410 0xFF
    ((due.port 127).gate.changeAt = some 5000 ∧ 5000 ≤ due.time.now) ∧
    (∀ s ∈ [at' 600 0 0, at' 1000 1 600, at' 599 0 0], (s.port 127).gate.changeAt = none ∧ (s.port 127).gate.oper ≠ [] ∧ (s.port 127).gate.closed = false) ∧
    (((at' 600 0 0).port 127).gate.entryEnd = 600 ∧ ((at' 1000 1 600).port 127).gate.entryEnd = 1000 ∧ (at' 599 0 0).time.now < ((at' 599 0 0).port 127).gate.entryEnd) ∧
    (7 < 8 ∧ pfc.ethUp 127 = true ∧ (pfc.reg .port 127 0x418).testBit (8 + 7) = true ∧ (eth.reg .port 127 0x418).testBit (8 + 7) = false) ∧
    ((xoff.pnt.xoff.num 127).testBit 7 = true ∧ xoff.ethUp 127 = true ∧ (eth.pnt.xoff.num 127).testBit 7 = false) ∧
    (let s := (due.setReg .port 127 0x580 1)
     127 < 128 ∧ s.gateEn 127 = true ∧ (s.port 127).gate.oper ≠ [] ∧ 0 < (s.port 127).gate.cycle) ∧
    (ptp.ptpOurs 127 0 false = true ∧ ptp.ptpOurs 127 1 false = false ∧ ptp.ptpOurs 127 0 true = false ∧ ptp.ptpOurs 126 0 false = false ∧
      eth.ptpOurs 127 0 false = false) ∧
    (let open' : Shaper := { en := true, owing := true, most := some 5 }
     let s := eth.setPort 127 { shapers := [(7, open')] }
     ((s.port 127).shaper 7).owing = true ∧ ((s.port 127).shaper 7).en = true ∧ ((s.port 127).shaper 6).owing = false) ∧
    (∀ s ∈ [due, at' 600 0 0, pfc, xoff, ptp], s.clockStopped (switchMux (portDie 127)) = false) := by
  intro due at' pfc xoff ptp; and_intros <;> decide +kernel

theorem test_witness_PantryPagesAndLeaks :
    let spill := fun (used : Nat) => ({ up with pnt := { en := true, spillGib := 1, resident := List.range used, waitIn := [9000] } } : State)
    let leaky := fun (seen : Nat) => ({ (up.setReg .pnt 0 0x140 1) with pnt := { en := true, bufs := [(8192, { seen })] } } : State)
    (9000 ∈ (spill 1).pnt.waitIn ∧ 0 < (spill 1).freeFrames) ∧ (8191 ∈ ({ up with pnt.pagingOut := [8191] } : State).pnt.pagingOut ∧ 8190 ∉ ({ up with pnt.pagingOut := [8191] } : State).pnt.pagingOut) ∧
    (up.pnt.en = false ∨ up.fld .pnt 0 0x138 28 16 ≤ up.freeFrames) ∧ (spill 1).fld .pnt 0 0x138 28 16 ≤ (spill 1).freeFrames ∧
    (∀ n ∈ [0, 1], (leaky n).rly.links = [] ∧ (leaky n).pnt.bufs = [(8192, { seen := n })] ∧ 8192 ∉ (leaky n).liveBufs ∧ (leaky n).fld .pnt 0 0x140 0 0 = 1) ∧
    (let s : State := { (up.setReg .pnt 0 0x140 0) with pnt := { en := true, bufs := [(8192, {})] } }
     s.rly.links = [] ∧ s.pnt.bufs = [(8192, {})] ∧ 8192 ∉ s.liveBufs ∧ s.fld .pnt 0 0x140 0 0 = 0) ∧
    up.clockStopped (switchMux 0) = false ∧ (spill 1).pnt.paging = false := by
  intro spill leaky; and_intros <;> decide +kernel

/-! ### Witnesses: Rally links, the fabric, collectives -/

/-- Every port group in Rally mode and clocked, extents 15 in every axis, version 0 ACTIVE, port 127 for coordinate 15 on the X axis, in a link state. -/
def rally (st : Nat) : State := { ((((up.setReg .fab 0 0x110 0xAAAA_AAAA).setReg .fab 0 0x100 0xFFF_0000).setReg .fab 0 0x118 2).setReg
      .port 127 0x800 0x3D) with
  clk.plls := (List.range 16).map (fun i => (10 + i, { en := true, locked := true }))
  rly := { links := [(127, { st := st, retry := if st = 3 then [{ fseq := 0, flit := [1], epoch := 0, isEnd := true }] else [] })] } }

/-- A flit whose CRC is the value of R351 for its bytes. -/
def flit (fseq type : Nat) : List (BitVec 8) := mkFlit fseq 0xFFF type false 7 0 (zb 246)

theorem test_witness_RallyLinkEvents_flits :
    (∀ s ∈ [rally 0, rally 1, rally 3, rally 4], noColl s = true ∧ s.jnl.transfer = none ∧ s.clockStopped (switchMux (portDie 127)) = false ∧ s.rallyOn 127 = true) ∧
    (∀ f ∈ [flit 0 4, flit 4095 4, zb 256], f.length = 256) ∧
    (∀ f ∈ [flit 0 4, flit 4095 4], crc32 (slice f 0 252) = field f 252 4 ∧ bits (field f 0 6) 23 21 = 4) ∧
    (∀ s ∈ [rally 1, rally 3], ((s.link 127).st = lkUp ∨ (s.link 127).st = lkTraining) ∧ (s.link 127).rxFseq = bits (field (flit 0 4) 0 6) 47 36 ∧
      (s.link 127).rxFseq ≠ bits (field (flit 4095 4) 0 6) 47 36) ∧
    crc32 (slice (zb 256) 0 252) ≠ field (zb 256) 252 4 ∧ ((rally 3).link 127).nakSent = false ∧ ((rally 3).link 127).st = lkUp ∧
    ((rally 3).link 127).ctl = [] ∧ ((rally 3).link 127).retry.length < 1024 ∧ ((rally 3).link 127).pos = 0 ∧
    ((rally 0).link 127).st = lkDown ∧
    -- a flit touched by the second codeword of its pair, the last one that the first touches, and one that neither touches
    (let t := fun (pos : Nat) => (rally 3).setLink 127 { (rally 3).link 127 with pos, cwBad := if pos = 0 then 0 else 2 }
     let hit := fun (s : State) (cw : Nat) => let k := s.link 127
       let bad := if k.pos = 0 then cw % 4 else k.cwBad
       (k.pos ≤ 2 ∧ bad.testBit 0 = true) ∨ (2 ≤ k.pos ∧ bad.testBit 1 = true)
     ¬ hit (t 0) 2 ∧ hit (t 0) 1 ∧ hit (t 2) 0 ∧ ¬ hit (t 1) 3 ∧ hit (t 4) 0) := by
  and_intros <;> decide +kernel

theorem test_witness_RallyLinkEvents_states :
    ((rally 3).link 127).noProg < 7 ∧ ((rally 3).link 127).retry ≠ [] ∧ ((rally 4).link 127).st = lkRetraining ∧
    (let s := (rally 3).setLink 127 { (rally 3).link 127 with noProg := 7 }
     noColl s = true ∧ (s.link 127).st ≠ lkDown ∧ (s.link 127).st ≠ lkRetraining ∧ (s.link 127).retry ≠ [] ∧ 7 ≤ (s.link 127).noProg) ∧
    ((rally 0).link 127).ctl = [] ∧ ((rally 0).link 127).retry = [] ∧
    (rally 4).fld .port 127 0x800 7 6 < 3 ∧ (rally 0).serdesOn 127 = true ∧ (rally 0).fld .port 127 0x800 0 0 = 1 ∧
    (let s := rally 1
     let axis := s.fld .port 127 0x800 7 6
     (s.link 127).st = lkTraining ∧ 15 < 4096 ∧ 0 = s.reg .fab 0 0x108 ∧ 0xFFF = s.fld .fab 0 0x100 27 16 ∧
     (∀ a < 3, coordOf 15 a ≠ coordOf s.module a ↔ a = axis) ∧ coordOf 15 axis = s.fld .port 127 0x800 5 2 ∧ axis < 3 ∧
     1 ≠ s.reg .fab 0 0x108) := by
  and_intros <;> decide +kernel

theorem test_witness_PacketsAreTakenAndRouted_arrivals :
    let pk := fun (dst cls epoch : Nat) => ({ hdr := mkHdr dst 15 cls false epoch none 0 0 0 0 0 } : Pkt)
    let s := fun (k : Pkt) => ({ ((rally 3).setReg .fab 0 0x120 (2 ^ 15)) with rly.arrived := [(126, k), (127, k), (127, k)] } : State)
    (∀ k : Pkt, (s k).rly.arrived = [(126, k)] ++ (127, k) :: [(127, k)] ∧ (∀ a ∈ [(126, k)], a.1 ≠ 127)) ∧
    (pk 15 5 0).wellFormed = false ∧ ((pk 15 4 1).wellFormed = true ∧ (pk 15 4 1).payload.length = (pk 15 4 1).len ∧ (s (pk 15 4 1)).versionActive 1 = false) ∧
    noColl (s (pk 0 4 0)) = true ∧ (s (pk 0 4 0)).jnl.transfer = none ∧ (s (pk 0 4 0)).clockStopped (switchMux (portDie 127)) = false ∧
    -- a response: with no reservation, and with the one it answers
    (let k := pk 0 1 0
     let r : State := { s k with rly.txns := [{ txn := k.txn, dst := k.src }] }
     k.wellFormed = true ∧ k.payload = [] ∧ k.len = 0 ∧ k.cls = 1 ∧ k.bad = false ∧ k.dst = r.module ∧ r.versionActive k.epoch = true ∧
     (∀ x ∈ (s k).rly.txns, ¬ (x.txn = k.txn ∧ x.dst = k.src)) ∧ (∃ x ∈ r.rly.txns, x.txn = k.txn ∧ x.dst = k.src) ∧
     (r.stream (streamKey k.src 1 k.mc)).waiting = [] ∧ (r.stream (streamKey k.src 1 k.mc)).expected = k.seq) ∧
    ((pk 15 4 0).wellFormed = true ∧ (pk 15 4 0).payload = [] ∧ (pk 15 4 0).len = 0 ∧ (s (pk 15 4 0)).versionActive 0 = true ∧
      (pk 15 4 0).dst ≠ (s (pk 15 4 0)).module ∧ (s (pk 15 4 0)).nextAxis (pk 15 4 0) = some 0 ∧
      (s (pk 15 4 0)).neighbourFenced 0 (coordOf 15 0) = true) ∧
    (let k := pk 0 4 0
     k.wellFormed = true ∧ k.dst = (s k).module ∧ k.cls = 4 ∧ k.loose = false ∧ k.bad = false ∧ (s k).mgtBytes + 16 ≤ 262144 ∧
     ((s k).stream (streamKey k.src 4 k.mc)).waiting = [] ∧ ((s k).stream (streamKey k.src 4 k.mc)).expected = k.seq) := by
  intro pk s
  refine ⟨fun k => ⟨rfl, by simp⟩, ?_⟩
  and_intros <;> decide +kernel

theorem test_witness_PacketsAreTakenAndRouted_timers :
    let p : Pkt := { hdr := mkHdr 15 0 4 false 0 none 0 0 0 0 0 }
    let wait : State := { rally 3 with rly.reseq := [(7, { waiting := [(1, p)] })] }
    let s0 := rally 3
    let s : State := { (((s0.setReg .fab 0 0x118 0x8002).setReg .fab 0 (0x400 + 8 * 15) (2 ^ 15 + 127 * 256 + 2 ^ 27 + 14 * 2 ^ 28)).setReg .fab 0
        (0x400 + 8 * 14) (2 ^ 15 + 126 * 256)) with
      rly.links := [(126, { st := 3 }), (127, { st := 3, txq := [(0, [p])] })] }
    (s0.clockStopped (switchMux 0) = false ∧ noColl wait = true ∧ wait.clockStopped (switchMux 0) = false ∧ noColl s = true ∧ s.jnl.transfer = none ∧
      s.clockStopped (switchMux (portDie 127)) = false) ∧
    ((s0.stream 7).waiting = [] ∧ (wait.stream 7).waiting ≠ [] ∧ Sparse.get [] (s0.link 127).txq 0 = []) ∧
    (Sparse.get [] (s.link 127).txq 0 = p :: [] ∧ s.rlEpoch.testBit 15 = true ∧ p.esc = false ∧ s.nextAxis p = some 0 ∧
      s.detourPort p 0 (coordOf p.dst 0) = some (14, 126) ∧ s.neighbourFenced 0 14 = false ∧
      s.usablePorts (s.rte p.epoch 0 (coordOf p.dst 0)) = [127] ∧ (s.link 127).credits.num 0 < creditCost p.len) := by
  intro p wait s0 s; and_intros <;> decide +kernel

/-- A BARRIER's launch record of the first `dx + 1` modules of the X axis. -/
def barrier (op ticket prev flags n : Nat) : List (BitVec 8) :=
  leBytes 8 ticket ++ leBytes 8 prev ++ [BitVec.ofNat 8 op, 0, 0x12, 0x12, 0, BitVec.ofNat 8 flags, 1, 0] ++ zb 16 ++ leBytes 8 (n * 2 ^ 12) ++ zb 80

/-- The module 0 of a fabric, with a launch record at address 0 of its memory. -/
def collS (bs : List (BitVec 8)) : State := { rally 3 with dev := Mem.write [] 0 bs }

theorem test_witness_CollectivesRunAndEnd_launch :
    let e := desc 0x50 [(0x10, 8, dx 0)]
    (∀ bs ∈ [barrier 7 1 0 0 1, barrier 6 1 0 0 1, barrier 6 2 1 0 1, barrier 6 16 0 0 15],
      let s := front (collS bs) e
      offered s e [] = true ∧ s.dev.read 0 128 = bs ∧ noColl s = true ∧ s.coll.held = [] ∧ s.hif.done.length < 4096 ∧ s.clk.coast = false ∧
      s.xBusy (e.op 0x10 8) 128 = false ∧ s.hif.opened = [] ∧ (field bs 0x15 1).testBit 0 = false) ∧
    (e.opcode = 0x50 ∧ xIsDev (e.op 0x10 8) = true ∧ xAddr (e.op 0x10 8) = 0 ∧ e.zeros 0x18 0x40 = true) ∧
    (collS (barrier 6 1 0 0 1)).Plain 0 128 ∧
    -- a LOOSE record in strict mode
    (let s : State := { collS (barrier 6 1 0 2 1) with place.strict := true }
     let bs := barrier 6 1 0 2 1
     let l := launchOf bs (boxMembers (field bs 0x28 8))
     offered (front s e) e [] = true ∧ s.launchFault bs l = none ∧ l.loose = true ∧ s.strict = true ∧ (field bs 0x15 1).testBit 0 = false) ∧
    (let l := fun bs => launchOf bs (boxMembers (field bs 0x28 8))
     let f := fun bs => (collS bs).launchFault bs (l bs)
     f (barrier 7 1 0 0 1) = some 0x10 ∧ f (barrier 6 1 0 0 1) = none ∧ f (barrier 6 2 1 0 1) = none ∧ f (barrier 6 16 0 0 15) = none ∧
     (l (barrier 6 1 0 0 1)).loose = false ∧
     ((l (barrier 6 1 0 0 1)).ticket ≤ ({ collS (barrier 6 1 0 0 1) with coll.last := 1 } : State).coll.last) ∧
     ((collS []).coll.last < (l (barrier 6 16 0 0 15)).ticket ∧ (l (barrier 6 16 0 0 15)).prev = (collS []).coll.last ∧
       ((collS []).pendTable (engineOf (slotOf 16))).all (fun c => c.ticket != 16) = true ∧
       (collS []).collLost [] (l (barrier 6 16 0 0 15)) 0 = none ∧ (l (barrier 6 16 0 0 15)).rankOf (collS []).module = some 0 ∧
       (l (barrier 6 16 0 0 15)).others 0 ≠ [] ∧ ∀ r ∈ (l (barrier 6 16 0 0 15)).others 0, (collS []).memberFenced (l (barrier 6 16 0 0 15)) r = false) ∧
     (l (barrier 6 2 1 0 1)).prev ≠ (collS []).coll.last) := by
  intro e
  and_intros <;> first | decide +kernel | (refine clean_of ?_; decide +kernel)

/-- A BARRIER of two modules, 0 and 1, with a ticket, and the command that launched it. -/
def lrec (ticket : Nat) (members : List Nat) : LRec := { ticket, op := 6, members, weight := 1, n := 0 }
/-- The open command of SEQ 9. -/
def cmd9 : OpenCmd := { seq := 9, tag := 3, opcode := 0x50 }

theorem test_witness_CollectivesRunAndEnd_slots :
    let h := fun (t : Nat) (ms : List Nat) => ({ launch := lrec t ms, seq := 9, tag := 3 } : HeldLaunch)
    let held : State := { rally 3 with coll.held := [h 2 [0, 1]], hif.opened := [cmd9] }
    let q := fun (t : Nat) (ms : List Nat) => ({ rally 3 with coll.queued := [h t ms], hif.opened := [cmd9] } : State)
    (noColl held = true ∧ held.clk.coast = false ∧ held.hif.done.length < 4096 ∧ held.coll.held = [h 2 [0, 1]] ∧ held.openCmd 9 = some cmd9) ∧
    (∀ x ∈ [(15, [0]), (15, [0, 1]), (16, [0, 1])], (q x.1 x.2).clk.coast = false ∧ (q x.1 x.2).coll.slots = [] ∧ (q x.1 x.2).coll.lost = [] ∧ (q x.1 x.2).hif.done.length < 4096 ∧ slotOf x.1 < 16 ∧
      (q x.1 x.2).coll.queued = [h x.1 x.2] ∧ (q x.1 x.2).openCmd 9 = some cmd9 ∧ (lrec x.1 x.2).tiles = false ∧ (lrec x.1 x.2).doneEn = false ∧
      ((q x.1 x.2).pendTable (engineOf (slotOf x.1))) = []) ∧
    (slotOf 15 = 15 ∧ slotOf 16 = 0 ∧ (q 15 [0]).module = 0 ∧ (lrec 15 [0]).members = [(q 15 [0]).module]) ∧
    ((lrec 15 [0, 1]).others (((lrec 15 [0, 1]).rankOf 0).getD 0) = [1] ∧ (∃ r ∈ (lrec 15 [0, 1]).others 0, r ∉ (h 15 [0, 1]).joins) ∧ (q 15 [0, 1]).memberFenced (lrec 15 [0, 1]) 1 = false) := by
  intro h held q; and_intros <;> decide +kernel

/-- Control packets of rank `r` for a ticket. -/
def ctl (opc ticket r digest code : Nat) : Pkt :=
  { hdr := mkHdr 0 r 3 false 0 none 32 0 0 opc (collArg (slotOf ticket) r 5), payload := controlRecord ticket digest code r }

theorem test_witness_CollectivesRunAndEnd_packets :
    let l := lrec 15 [0, 1, 2]
    let s := fun (st : Nat) (fins : List Nat) (k : Pkt) => ({ rally 3 with
      coll := { slots := [(15, { state := st, launch := l, seq := 9, tag := 3, rank := 0, fins })], inbox := [k] }, hif.opened := [cmd9] } : State)
    let c := fun (opc code : Nat) => ctl opc 15 1 l.digest code
    (∀ x ∈ [(2, 1, 0), (2, 2, 0), (4, 4, 0), (2, 5, 31), (1, 5, 0)], let k := c x.2.1 x.2.2
      ((s x.1 [2] k).inboxAt 0 x.2.1 = some k ∧ (s x.1 [2] k).coll.lost = [] ∧ (s x.1 [2] k).coll.queued = [] ∧ (s x.1 [2] k).clk.coast = false ∧
        (s x.1 [2] k).hif.done.length < 4096 ∧ k.control.ticket = l.ticket ∧ k.control.digest = l.digest ∧ k.control.rank = 1 ∧
        k.control.code < 32 ∧ (s x.1 [2] k).openCmd 9 = some cmd9 ∧ slotOf l.ticket = 15)) ∧
    (∃ r ∈ ((s 2 [] (c 1 0)).slot 15).others, r ∉ addTo ((s 2 [] (c 1 0)).slot 15).joins 1) ∧
    (∀ r ∈ ((s 4 [2] (c 4 0)).slot 15).others, r ∈ addTo ((s 4 [2] (c 4 0)).slot 15).fins 1) ∧ l.op = 6 ∧ l.tiles = false ∧ l.doneEn = false := by
  intro l s c; and_intros <;> decide +kernel

/-- An ALLGATHER of 8 bytes between modules 0 and 1, the input at address 0 and the output at 64; state, grants and chunks sent as given. -/
def gather (st granted : Nat) (inbox : List Pkt) : State :=
  let l : LRec := { ticket := 15, op := 3, ifmt := 0x12, ofmt := 0x12, weight := 1, n := 8, src := 0, dst := 64, members := [0, 1] }
  let x : Slot := { state := st, seq := 9, tag := 3, rank := 0, granted := if granted = 0 then [] else [(1, granted)], joins := [1], launch := l }
  { rally 3 with coll := { inbox, slots := [(15, x)] }, hif.opened := [cmd9] }

theorem test_witness_CollectiveChunksAndTiles :
    let d := chunkPayload ((gather 3 0 []).slot 15).launch 1 0 8 8 [1, 2, 3, 4, 5, 6, 7, 8]
    let k := fun (p : List (BitVec 8)) => ({ hdr := mkHdr 0 1 3 false 0 none 40 0 0 3 (collArg 15 1 0), payload := p } : Pkt)
    let bad := zb 8 |> fun z => leBytes 8 15 ++ z ++ z ++ z ++ z
    let tl : LRec := { ticket := 15, op := 3, flags := 4, n := 8, tile := 0, members := [0, 1] }
    let t : State := { live with hif.opened := [cmd9], coll.slots := [(15, { state := 2, seq := 9, rank := 0, asked := [1], launch := tl })] }
    (∀ s ∈ [gather 3 0 [k d], gather 3 1 [], t], s.coll.queued = [] ∧ s.coll.lost = [] ∧ s.hif.done.length < 4096 ∧ s.clk.coast = false) ∧
    (let s : State := { gather 3 1 [] with clk.coast := true }
     s.clk.coast = true ∧ (s.openCmd (s.slot 15).seq).isSome = true) ∧
    (∀ p ∈ [d, bad], bits (k p).arg 39 36 = 15 ∧ 2 ≤ ((gather 3 0 [k p]).slot 15).state ∧ (gather 3 0 [k p]).inboxAt 0 3 = some (k p) ∧ field p 0 8 = 15 ∧ ((gather 3 0 [k p]).slot 15).launch.ticket = 15 ∧
      ((gather 3 0 [k p]).slot 15).launch.tiles = false ∧ ((gather 3 0 [k p]).slot 15).launch.doneEn = false ∧ (gather 3 0 [k p]).openCmd 9 = some cmd9) ∧
    (crc32c (d.take 28 ++ d.drop 32) = field d 28 4 ∧ crc32c (bad.take 28 ++ bad.drop 32) ≠ field bad 28 4 ∧ slotOf 15 = 15) ∧
    (let s := gather 3 1 []
     let x := s.slot 15
     x.nextChunk = some (1, 0, 0, 0, 0, 8) ∧ s.clk.coast = false ∧ x.launch.loose = false ∧ x.launch.multicast = true ∧
     s.memberFenced x.launch 1 = false ∧ x.launch.peers x.rank 0 = [1] ∧ x.ownPart 0 0 8 = some (0, 8) ∧ s.devBusy 0 8 = false ∧ s.Plain 0 8) ∧
    (let x := t.slot 15
     x.launch.tiles = true ∧ x.launch.doneEn = false ∧ x.toAsk = [] ∧ x.state = 2 ∧ (t.openCmd x.seq).isSome = true ∧ t.physOf x.launch.tileShape = some 0 ∧
     ((t.block 0).cnt x.launch.tileCnt).abandoned = none ∧ (∃ r ∈ x.others, r ∉ x.joins)) := by
  intro d k bad tl t
  and_intros <;> first | decide +kernel | (refine clean_of ?_; decide +kernel)

/-! ### An image whose ML-DSA signature needs no evaluation

Under a key whose t1 is 0, the response z = 0 with no hints fits every message: w is then the same for every challenge, and the signature's first
bytes are that challenge's hash. -/

/-- A boot ROM key with ρ and t1 zero. -/
def weakPk : List (BitVec 8) := zb 1952
/-- Twenty bytes of a response: eight coefficients that are 0. -/
def weakChunk : List (BitVec 8) := (List.replicate 4 ([0, 0, 8, 0, 0x80] : List (BitVec 8))).flatten
/-- A polynomial of them. -/
def weakPoly : List (BitVec 8) := (List.replicate 32 weakChunk).flatten
/-- A response whose coefficients are all 0, and no hints. -/
def weakTail : List (BitVec 8) := weakPoly ++ (weakPoly ++ (weakPoly ++ (weakPoly ++ (weakPoly ++ zb 61))))
/-- What the verifier computes as w for it. -/
def weakW : List Poly := List.zipWith (fun az _ => untt (polySub az polyZero)) (mlApply (mlExpandA (weakPk.take 32)) (List.replicate 5 (ntt polyZero))) (List.replicate 6 polyZero)
/-- Its high part. -/
def weakW1 : List Poly := List.zipWith (fun hs p => List.zipWith mlUseHint hs p) (List.replicate 6 polyZero) weakW
/-- The challenge's hash for a message. -/
def weakCt (msg : List (BitVec 8)) : List (BitVec 8) := mlChallenge (mlMu (shake256 weakPk 64) msg) weakW1

theorem length_leBytes (k n : Nat) : (leBytes k n).length = k := by
  induction k generalizing n with
  | zero => rfl
  | succ k ih => simp [leBytes, ih]

theorem length_weakCt (msg : List (BitVec 8)) : (weakCt msg).length = 48 := by
  show (spongeOut 136 1 48 _).length = 48
  rw [spongeOut, if_pos (by decide)]
  exact length_leBytes 48 _

theorem slice_left (a b : List (BitVec 8)) (i n : Nat) (h : i + n ≤ a.length) : slice (a ++ b) i n = slice a i n := by
  have h1 : i ≤ a.length := by omega
  have h2 : n ≤ (a.drop i).length := by simp; omega
  simp only [slice, List.drop_append_of_le_length h1, List.take_append_of_le_length h2]

theorem slice_right (a b : List (BitVec 8)) (i n : Nat) : slice (a ++ b) (a.length + i) n = slice b i n := by
  simp only [slice, List.drop_append, Nat.add_sub_cancel_left, List.drop_eq_nil_of_le (Nat.le_add_right a.length i), List.nil_append]

theorem slice_whole (a b : List (BitVec 8)) : slice (a ++ b) 0 a.length = a := by
  rw [slice_left a b 0 a.length (by omega)]; simp [slice]

theorem length_nttFrom (f k : Nat) (a : Poly) (h : a.length = 2 ^ f) : (nttFrom f k a).length = 2 ^ f := by
  induction f generalizing k a with
  | zero => exact h
  | succ f ih =>
    have h1 : a.length / 2 = 2 ^ f := by rw [h, pow_succ]; omega
    have h2 : a.length - 2 ^ f = 2 ^ f := by rw [h, pow_succ]; omega
    simp only [nttFrom, List.length_append]
    rw [ih, ih]
    · rw [pow_succ]; omega
    all_goals simp [polySub, polyAdd, polyScale, h1, h2]; omega

theorem nttFrom_zero (f k : Nat) : nttFrom f k (List.replicate (2 ^ f) 0) = List.replicate (2 ^ f) 0 := by
  induction f generalizing k with
  | zero => rfl
  | succ f ih =>
    have h1 : 2 ^ (f + 1) / 2 = 2 ^ f := by rw [pow_succ]; omega
    have h2 : 2 ^ (f + 1) - 2 ^ f = 2 ^ f := by rw [pow_succ]; omega
    have h3 : min (2 ^ f) (2 ^ (f + 1)) = 2 ^ f := by rw [pow_succ]; omega
    simp only [nttFrom, List.length_replicate, h1, List.take_replicate, List.drop_replicate, h2, h3, polyScale, List.map_replicate, Nat.mul_zero, Nat.zero_mod,
      polyAdd, polySub, List.zipWith_replicate, Nat.min_self, Nat.add_zero, Nat.sub_zero, Nat.zero_add, Nat.mod_self, ih, List.replicate_append_replicate]
    congr 1; rw [pow_succ]; omega

theorem length_ballStep (signs : Nat) (a : Poly × Nat) (b : BitVec 8) (h : a.1.length = 256) : (mlBallStep signs a b).1.length = 256 := by
  simp only [mlBallStep]
  split
  · exact h
  · rw [List.length_set, List.length_set]; exact h

theorem length_balls (signs : Nat) (bs : List (BitVec 8)) (a : Poly × Nat) (h : a.1.length = 256) :
    (bs.foldl (mlBallStep signs) a).1.length = 256 := by
  induction bs generalizing a with
  | nil => exact h
  | cons b bs ih => exact ih _ (length_ballStep signs a b h)

theorem length_ballOf (bs : List (BitVec 8)) : (mlBallOf bs).length = 256 := length_balls _ _ _ List.length_replicate

theorem length_mlBall (ct : List (BitVec 8)) : (mlBall ct).length = 256 := length_ballOf _

theorem polyMul_zero (c : Poly) (h : c.length = 256) : polyMul c polyZero = polyZero := by
  refine List.ext_getElem (by rw [polyMul, List.length_zipWith, h, polyZero, List.length_replicate, Nat.min_self]) fun i h1 h2 => ?_
  simp only [polyMul, polyZero, List.getElem_zipWith, List.getElem_replicate, Nat.mul_zero, Nat.zero_mod]

theorem length_weakPoly : weakPoly.length = 640 := by decide +kernel

theorem slice_weakPoly (rest : List (BitVec 8)) : slice (weakPoly ++ rest) 0 640 = weakPoly := by
  have h := slice_whole weakPoly rest; rwa [length_weakPoly] at h

theorem slice_pastPoly (rest : List (BitVec 8)) (i : Nat) : slice (weakPoly ++ rest) (640 + i) 640 = slice rest i 640 := by
  have h := slice_right weakPoly rest i 640; rwa [length_weakPoly] at h

theorem slice_polys : (List.range mlL).map (fun i => slice weakTail (640 * i) 640) = List.replicate 5 weakPoly := by
  show [slice weakTail 0 640, slice weakTail (640 + 0) 640, slice weakTail (640 + (640 + 0)) 640, slice weakTail (640 + (640 + (640 + 0))) 640,
    slice weakTail (640 + (640 + (640 + (640 + 0)))) 640] = _
  simp only [weakTail, slice_weakPoly, slice_pastPoly]
  rfl

theorem slice_run (n i : Nat) (c : List (BitVec 8)) (h : i < n) : slice (List.replicate n c).flatten (c.length * i) c.length = c := by
  induction i generalizing n with
  | zero =>
    obtain ⟨m, rfl⟩ : ∃ m, n = m + 1 := ⟨n - 1, by omega⟩
    exact slice_whole c _
  | succ i ih =>
    obtain ⟨m, rfl⟩ : ∃ m, n = m + 1 := ⟨n - 1, by omega⟩
    rw [List.replicate_succ, List.flatten_cons, Nat.mul_succ, Nat.add_comm, slice_right]
    exact ih m (by omega)

/-- Numbers unpacked from equal runs of bytes. -/
theorem unpack_chunks (w n : Nat) (c : List (BitVec 8)) (xs : List Nat) (hw : 0 < w) (hc : c.length = w)
    (hx : (List.range 8).map (fun i => leNat c / 2 ^ (w * i) % 2 ^ w) = xs) :
    unpackBits w (List.replicate n c).flatten = (List.replicate n xs).flatten := by
  have h : chunksOf w (List.replicate n c).flatten = List.replicate n c := by
    have hl : (List.replicate n c).flatten.length = n * w := by simp [hc]
    have hn : ceilDiv (n * w) w = n := by
      rw [ceilDiv, Nat.add_sub_assoc hw, Nat.add_comm, Nat.add_mul_div_right _ _ hw, Nat.div_eq_of_lt (by omega), Nat.zero_add]
    rw [chunksOf, hl, hn]
    refine List.ext_getElem (by simp) fun i h1 h2 => ?_
    have := slice_run n i c (by simpa using h2)
    rw [hc] at this
    simpa using this
  rw [unpackBits, h, List.flatMap_replicate, hx]

/-- The signature verifies under that key, whatever the message. -/
theorem weak_verifies (msg : List (BitVec 8)) : mlVerify weakPk msg (weakCt msg ++ weakTail) = true := by
  have hl := length_weakCt msg
  have h0 : slice (weakCt msg ++ weakTail) 0 48 = weakCt msg := by have h := slice_whole (weakCt msg) weakTail; rwa [hl] at h
  have hs : ∀ i n, slice (weakCt msg ++ weakTail) (48 + i) n = slice weakTail i n := fun i n => by
    have h := slice_right (weakCt msg) weakTail i n; rwa [hl] at h
  have hz : (List.range mlL).map (fun i => unpackZ (slice (weakCt msg ++ weakTail) (mlCt + 640 * i) 640)) = List.replicate 5 polyZero := by
    simp only [mlCt, hs]
    rw [show (fun i => unpackZ (slice weakTail (640 * i) 640)) = unpackZ ∘ (fun i => slice weakTail (640 * i) 640) from rfl, ← List.map_map, slice_polys,
      List.map_replicate, unpackZ, weakPoly, unpack_chunks 20 32 weakChunk (List.replicate 8 524288) (by decide) (by decide +kernel) (by decide +kernel)]
    decide +kernel
  have ht : (List.range mlK).map (fun i => unpackBits 10 (slice weakPk (32 + 320 * i) 320)) = List.replicate 6 polyZero := by
    have h1 : (List.range mlK).map (fun i => slice weakPk (32 + 320 * i) 320) = List.replicate 6 (List.replicate 32 (zb 10)).flatten := by decide +kernel
    rw [show (fun i => unpackBits 10 (slice weakPk (32 + 320 * i) 320)) = unpackBits 10 ∘ (fun i => slice weakPk (32 + 320 * i) 320) from rfl, ← List.map_map,
      h1, List.map_replicate, unpack_chunks 10 32 (zb 10) (List.replicate 8 0) (by decide) (by decide +kernel) (by decide +kernel)]
    decide +kernel
  have hd : (weakCt msg ++ weakTail).drop (mlCt + 640 * mlL) = weakTail.drop 3200 := by
    show (weakCt msg ++ weakTail).drop (48 + 3200) = _
    rw [← hl, List.drop_append]
    simp
  have hh : unpackHints (weakTail.drop 3200) = some (List.replicate 6 polyZero) := by decide +kernel
  have hc : ∀ ct, polyMul (ntt (mlBall ct)) (ntt (polyScale (2 ^ mlD) polyZero)) = polyZero := fun ct => by
    have h1 : polyScale (2 ^ mlD) polyZero = List.replicate (2 ^ 8) 0 := by decide +kernel
    rw [h1, ntt, ntt, nttFrom_zero]
    exact polyMul_zero _ (length_nttFrom 8 1 _ (length_mlBall ct))
  have hw : ∀ ct, List.zipWith (fun az t => untt (polySub az (polyMul (ntt (mlBall ct)) (ntt (polyScale (2 ^ mlD) t)))))
      (mlApply (mlExpandA (weakPk.take 32)) ((List.replicate 5 polyZero).map ntt)) (List.replicate 6 polyZero) = weakW := fun ct => by
    rw [weakW, List.map_replicate]
    generalize mlApply (mlExpandA (weakPk.take 32)) (List.replicate 5 (ntt polyZero)) = a
    refine List.ext_getElem (by simp) fun i h1 h2 => ?_
    simp only [List.getElem_zipWith, List.getElem_replicate, hc]
  have hb : mlBelow (mlGamma1 - mlBeta) (List.replicate 5 polyZero) = true := by decide +kernel
  simp only [mlVerify, hz, ht, hd, hh, hw, hb, show slice (weakCt msg ++ weakTail) 0 mlCt = weakCt msg from h0]
  simp only [List.length_append, hl, show weakTail.length = 3261 by decide +kernel, show weakPk.length = 1952 by decide +kernel,
    show mlChallenge (mlMu (shake256 weakPk 64) msg) (List.zipWith (fun hs p => List.zipWith mlUseHint hs p) (List.replicate 6 polyZero) weakW) = weakCt msg from rfl]
  simp

/-- The factory image's first 192 bytes: all that its Ed25519 signature covers, and that signature. -/
def weakHead : List (BitVec 8) := Config.factoryHeader.take 192
/-- That image with the ML-DSA signature that fits the key with t1 zero. -/
def weakHdr : List (BitVec 8) := weakHead ++ (weakCt (slice weakHead 0 0x80) ++ (weakTail ++ zb 595))
/-- The image. -/
def weakImage : FwImage := { hdr := weakHdr, payload := [0] }
/-- A state whose boot ROM holds that key. -/
def weakRom (s : State) : State := { s with hw.romMl := [weakPk] }

theorem length_weakHead : weakHead.length = 192 := by decide +kernel

theorem slice_weakHead (i n : Nat) (h : i + n ≤ 192) : slice weakHdr i n = slice weakHead i n :=
  slice_left _ _ i n (by rw [length_weakHead]; exact h)

theorem slice_weakTail (i n : Nat) : slice weakHdr (240 + i) n = slice (weakTail ++ zb 595) i n := by
  have h1 := slice_right weakHead (weakCt (slice weakHead 0 0x80) ++ (weakTail ++ zb 595)) (48 + i) n
  have h2 := slice_right (weakCt (slice weakHead 0 0x80)) (weakTail ++ zb 595) i n
  rw [length_weakCt] at h2
  rw [length_weakHead, h2, ← Nat.add_assoc] at h1
  exact h1

theorem slice_weakSig : slice weakHdr 0xC0 3309 = weakCt (slice weakHead 0 0x80) ++ weakTail := by
  have h1 := slice_right weakHead (weakCt (slice weakHead 0 0x80) ++ (weakTail ++ zb 595)) 0 3309
  have h2 := slice_whole (weakCt (slice weakHead 0 0x80) ++ weakTail) (zb 595)
  rw [List.append_assoc, List.length_append, length_weakCt, show weakTail.length = 3261 by decide +kernel] at h2
  rw [length_weakHead, h2] at h1
  exact h1

theorem length_weakHdr : weakHdr.length = 4096 := by
  rw [weakHdr, List.length_append, List.length_append, length_weakHead, length_weakCt, show (weakTail ++ zb 595).length = 3856 by decide +kernel]

theorem weakHdr_ok : fwHeaderOk weakHdr = true := by
  simp only [fwHeaderOk, field, slice_weakHead 0 4 (by decide), slice_weakHead 4 2 (by decide), slice_weakHead 6 2 (by decide), slice_weakHead 0x11 1 (by decide),
    slice_weakHead 0x12 6 (by decide), slice_weakHead 0x18 8 (by decide), slice_weakHead 0x20 32 (by decide),
    show slice weakHdr 0xDAD 595 = slice (weakTail ++ zb 595) 3261 595 from slice_weakTail 3261 595, length_weakHdr]
  decide +kernel

theorem weakHdr_len : field weakHdr 0x18 8 = 1 := by rw [field, slice_weakHead 0x18 8 (by decide)]; decide +kernel

/-- It passes every check of R484. -/
theorem weak_passes (s : State) (h1 : s.otp = 0) (h2 : s.hw.revokedEd = 0) (h3 : s.hw.revokedMl = 0) (h4 : s.hw.romEd = State.reset.hw.romEd)
    (h5 : s.hw.romMl = [weakPk]) : s.fwCheck weakImage = 0 := by
  have hsvn : weakImage.svn = 0 := by
    simp only [FwImage.svn, weakImage, field, slice_weakHead 0x10 1 (by decide)]; decide +kernel
  have hkeys : weakImage.keys = (0, 0) := by
    simp only [FwImage.keys, weakImage, field, slice_weakHead 0x11 1 (by decide)]; decide +kernel
  have hdig : weakImage.digest = slice weakHead 0x40 64 := slice_weakHead 0x40 64 (by decide)
  have hed : edVerify (s.hw.romEd.getD 0 []) (slice weakHead 0 0x80) (slice weakHead 0x80 64) = true := by rw [h4]; decide +kernel
  have hml : mlVerify weakPk (slice weakHead 0 0x80) (weakCt (slice weakHead 0 0x80) ++ weakTail) = true := weak_verifies _
  have hsha : sha512 (slice weakHead 0 64 ++ [0]) = slice weakHead 0x40 64 := by decide +kernel
  simp only [State.fwCheck, hsvn, hkeys, hdig]
  simp only [weakImage, weakHdr_ok, weakHdr_len, h1, h2, h3, h5, slice_weakHead 0 0x80 (by decide), slice_weakHead 0x80 64 (by decide),
    slice_weakHead 0 64 (by decide), slice_weakSig, hed, hsha, List.getD_cons_zero, hml]
  simp [bitOn]

/-! ### An image that maps fifteen blocks of die 0 -/

/-- Its bytes up to the counter table: the header, the program table, the program section that its entries share, an empty weight table, and the
arbiter word of one die. -/
def mapFront : List (BitVec 8) :=
  leBytes 4 0x434C5056 ++ leBytes 2 1 ++ leBytes 2 256 ++ leBytes 8 7 ++ leBytes 4 1 ++ leBytes 4 15 ++ leBytes 8 8832 ++ leBytes 8 256 ++
    leBytes 8 960 ++ leBytes 8 1024 ++ leBytes 8 1152 ++ zb 192 ++
  ((List.range 15).flatMap (fun i => leBytes 8 i ++ leBytes 8 768 ++ leBytes 16 192) ++ zb 32) ++
  (leBytes 8 0x53475250 ++ zb 36 ++ leBytes 4 2 ++ zb 144) ++ zb 64 ++ (leBytes 64 1 ++ leBytes 8 0x111_1111_1111_1111) ++ zb 56

/-- Zeros behind a byte string change no part of it, as bytes past its end read 0. -/
theorem slice_zeros (a : List (BitVec 8)) (n i k : Nat) : slice (a ++ zb n) i k = slice a i k := by
  simp only [slice, zb, List.drop_append, List.take_append, List.drop_replicate, List.take_replicate, List.append_assoc, List.length_append,
    List.length_replicate, List.replicate_append_replicate]
  congr 2
  simp only [List.length_take, List.length_drop]
  omega

/-- A byte string written at address 0 is read there, with zeros behind it. -/
theorem read_zeros (a : List (BitVec 8)) (n : Nat) : Mem.read (Mem.write [] 0 a) 0 (a.length + n) = a ++ zb n := by
  refine List.ext_getElem (by simp [Mem.read, zb]) fun i h1 h2 => ?_
  by_cases h : i < a.length
  · have := Mem.get_write_same [] 0 a i h
    simpa [Mem.read, List.getElem_append_left h] using this
  · have := Mem.get_write_other [] 0 a i (Or.inr (by omega))
    simp [Mem.read, zb, List.getElem_append_right (Nat.le_of_not_lt h), this, Mem.get]

/-- What an image's checks say depends on the parts of its bytes alone. -/
theorem imageOk_congr (d : ImgHdr) (a b : List (BitVec 8)) (h : ∀ i k, slice a i k = slice b i k) : d.imageOk a = d.imageOk b := by
  have hn : d.wgtCount a = d.wgtCount b ∧ d.ndie a = d.ndie b ∧ d.npin a = d.npin b := by
    simp only [ImgHdr.wgtCount, ImgHdr.ndie, ImgHdr.npin, field, h, and_self]
  have ht : d.tables a = d.tables b := by simp only [ImgHdr.tables, hn]
  have hs : ∀ o l, d.sectionOk a o l = d.sectionOk b o l := fun o l => by simp only [ImgHdr.sectionOk, ht]
  have hw : d.weights a = d.weights b := by simp only [ImgHdr.weights, field, h, hn]
  have hw1 : d.weightOk a = d.weightOk b := funext fun w => by simp only [ImgHdr.weightOk, hs]
  have hp : ∀ i, d.pinAt a i = d.pinAt b i := fun i => by
    have hs : slice a = slice b := funext fun i => funext fun k => h i k
    have hf : field a = field b := funext fun i => funext fun k => by rw [field, field, hs]
    unfold ImgHdr.pinAt
    rw [hf, hs, hn.2.1]
  have hps : d.pins a = d.pins b := by simp only [ImgHdr.pins, hp, hn]
  have he : ∀ i, d.progEntry a i = d.progEntry b i := fun i => by simp only [ImgHdr.progEntry, field, h]
  have hx : ∀ i, d.sectionAt a i = d.sectionAt b i := fun i => by simp only [ImgHdr.sectionAt, he, h]
  have ho : ∀ i n, d.progOk a i n = d.progOk b i n := fun i n => by
    simp only [ImgHdr.progOk, ImgHdr.weightsOf, field, h, he, hs, hx, hw]
  simp only [ImgHdr.imageOk, ImgHdr.routeOk, ImgHdr.arbWord, field, h, hn, ht, hw, hw1, hp, hps, ho]

theorem countersOk_congr (d : ImgHdr) (a b : List (BitVec 8)) (h : ∀ i k, slice a i k = slice b i k) : d.countersOk a = d.countersOk b := by
  simp only [ImgHdr.countersOk, ImgHdr.cntWord, ImgHdr.ringUsed, ImgHdr.progEntry, ImgHdr.sectionAt, field, h]

/-- A LOAD of it. -/
def mapLoad : State := loadAt mapFront psEmpty
/-- Its header. -/
def mapHdr : ImgHdr := { id := 7, dieMask := 1, sb := 15, bytes := 8832, prog := 256, wgt := 960, route := 1024, cnt := 1152 }

theorem mapLoad_hdr : ImgHdr.ofBytes (mapLoad.dev.read 0 256) = mapHdr := by
  have h : let b := mapLoad.dev.read 0 256
      field b 8 8 = 7 ∧ field b 0x10 4 = 1 ∧ field b 0x14 1 = 15 ∧ field b 0x18 8 = 8832 ∧ field b 0x20 8 = 256 ∧ field b 0x28 8 = 960 ∧
      field b 0x30 8 = 1024 ∧ field b 0x38 8 = 1152 := by decide +kernel
  simp only [ImgHdr.ofBytes, h, mapHdr]

theorem mapLoad_img : mapLoad.dev.read 0 8832 = mapFront ++ zb 7680 := by
  have hl : mapFront.length = 1152 := by decide +kernel
  have h := read_zeros mapFront 7680
  rwa [hl] at h

theorem mapLoad_offered : offered mapLoad (desc 0x11 [(0x10, 8, dx 0)]) [] = true := by decide +kernel
theorem mapLoad_plain : mapLoad.Plain 0 256 ∧ mapLoad.Plain 0 8832 :=
  ⟨plain_of (by decide +kernel) (by decide +kernel), plain_of (by decide +kernel) (by decide +kernel)⟩
theorem mapLoad_header : headerChecks (mapLoad.dev.read 0 256) = true := by decide +kernel
theorem mapFront_ok : mapHdr.imageOk mapFront = true := by decide +kernel
theorem mapFront_counters : mapHdr.countersOk mapFront = true := by
  have hl : mapFront.length = 1152 := by decide +kernel
  have hz : ∀ n k, 1152 ≤ n → slice mapFront n k = zb k := fun n k h => by
    simp only [slice, List.drop_eq_nil_of_le (show mapFront.length ≤ n by omega), List.take_nil, List.nil_append, List.length_nil, Nat.sub_zero, zb]
  have hw : ∀ i c, mapHdr.cntWord mapFront i c = 0 := fun i c => by
    rw [ImgHdr.cntWord, field, hz _ _ (by show 1152 ≤ 1152 + 512 * i + 8 * c; omega)]; rfl
  have hr : ∀ i < 15, (mapHdr.sectionAt mapFront i).dmaq = 0 ∧ (mapHdr.sectionAt mapFront i).audq = 0 := by decide +kernel
  have hc : mapHdr.count = 15 := by decide +kernel
  have h0 : mapHdr.cntOk 0 = true := by decide +kernel
  simp only [ImgHdr.countersOk, List.all_eq_true, List.mem_range, hc]
  intro i hi
  simp only [hw, h0, hz (mapHdr.cnt + 512 * i + 386) 126 (by show 1152 ≤ 1152 + 512 * i + 386; omega), hr i hi, ImgHdr.ringUsed]
  decide +kernel
theorem mapLoad_maps : mapLoad.shapeFits mapHdr = true ∧ ((mapLoad.mappingFor mapHdr).map Prod.snd).length = 15 := by decide +kernel

/-- The clause about a block of the mapping that is fenced meanwhile: the image passes the checks before it, and maps fifteen blocks. -/
theorem test_witness_PlaceLoad_mapped :
    let h := mapLoad.dev.read 0 256
    let d := ImgHdr.ofBytes h
    let img := mapLoad.dev.read 0 d.bytes
    offered mapLoad (desc 0x11 [(0x10, 8, dx 0)]) [] = true ∧ mapLoad.place.pstate = psEmpty ∧ mapLoad.Plain 0 256 ∧ headerChecks h = true ∧ mapLoad.Plain 0 d.bytes ∧
    d.imageOk img = true ∧ mapLoad.shapeFits d = true ∧ d.countersOk img = true ∧ ((mapLoad.mappingFor d).map Prod.snd).length = 15 := by
  intro h d img
  simp only [h, d, img, mapLoad_hdr]
  rw [show mapHdr.bytes = 8832 from rfl, mapLoad_img, imageOk_congr _ _ _ (slice_zeros mapFront 7680), countersOk_congr _ _ _ (slice_zeros mapFront 7680)]
  exact ⟨mapLoad_offered, rfl, mapLoad_plain.1, mapLoad_header, mapLoad_plain.2, mapFront_ok, mapLoad_maps.1, mapFront_counters, mapLoad_maps.2⟩

/-! ### Witnesses: the security engine and the management interface -/

/-- A firmware image of one payload byte with a digest; its other fields as R482 has them. -/
def fwHdr (svn : Nat) (digest : List (BitVec 8)) : List (BitVec 8) :=
  leBytes 4 0x57464C56 ++ leBytes 2 1 ++ leBytes 2 4096 ++ zb 8 ++ [BitVec.ofNat 8 svn, 0] ++ zb 6 ++ leBytes 8 1 ++ zb 32 ++ digest ++ zb 3968

/-- That image at address 0 of the memory. -/
def fwAt (digest : List (BitVec 8)) : State := { up with dev := Mem.write [] 0 (slice (fwHdr 3 digest) 0 128) |>.write 4096 [0x5A] }

/-- The image that passes every check at address 0 of the memory. -/
def fwGood : State := { weakRom up with dev := Mem.write [] 0 weakHdr }

/-- A header written at address 0 is read there. -/
theorem read_hdr (h : List (BitVec 8)) (n : Nat) (hn : h.length = n) : Mem.read (Mem.write [] 0 h) 0 n = h := by
  refine List.ext_getElem (by simp [Mem.read, hn]) fun i h1 h2 => ?_
  have := Mem.get_write_same [] 0 h i h2
  simpa [Mem.read] using this

/-- And past it memory reads 0. -/
theorem read_past (h : List (BitVec 8)) (n : Nat) (hn : h.length = n) : Mem.read (Mem.write [] 0 h) n 1 = [0] := by
  have := Mem.get_write_other [] 0 h n (Or.inr (by omega))
  simp [Mem.read, this, Mem.get]

theorem fwGood_read : fwGood.dev.read 0 4096 = weakHdr := read_hdr weakHdr 4096 length_weakHdr

theorem fwGood_passes : fwGood.fwCheck { hdr := weakHdr, payload := [0] } = 0 := weak_passes _ rfl rfl rfl rfl rfl

/-- A descriptor of FW_UPDATE. -/
def fwEntry : WinEntry := desc 0x60 [(0x10, 8, dx 0)]

theorem test_witness_SecurityEngine_fwUpdate :
    let e := fwEntry
    let img := fun (s : State) => ({ hdr := s.dev.read 0 4096, payload := s.dev.read 4096 (field (s.dev.read 0 4096) 0x18 8) } : FwImage)
    (offered (front up e) e [] = true ∧ e.opcode = 0x60 ∧ xIsDev (e.op 0x10 8) = true ∧ xAddr (e.op 0x10 8) = 0 ∧ e.zeros 0x18 0x40 = true ∧
      (front up e).devBusy 0 4096 = false) ∧
    (up.Plain 0 4096 ∧ (fwAt []).Plain 0 4096 ∧ (fwAt []).Plain 4096 1) ∧
    (up.sec.inTrial = false ∧ up.sec.updating = false ∧ ({ up with sec.inTrial := true } : State).sec.inTrial = true ∧
      fwHeaderOk (up.dev.read 0 4096) = false) ∧
    (fwHeaderOk ((fwAt []).dev.read 0 4096) = true ∧ field ((fwAt []).dev.read 0 4096) 0x18 8 = 1) ∧ (fwAt []).fwCheck (img (fwAt [])) = 4 := by
  intro e img
  and_intros <;> first | decide +kernel | (refine clean_of ?_; decide +kernel)

/-- And with an image that passes, written as it stands, or with what the flash kept of it passing or not. -/
theorem test_witness_SecurityEngine_fwUpdate_passes :
    (front fwGood fwEntry).Offers fwEntry [] ∧ fwGood.Plain 0 4096 ∧ fwGood.Plain 4096 1 ∧ fwGood.sec.inTrial = false ∧ fwGood.sec.updating = false ∧
    fwHeaderOk (fwGood.dev.read 0 4096) = true ∧ field (fwGood.dev.read 0 4096) 0x18 8 = 1 ∧
    fwGood.fwCheck { hdr := fwGood.dev.read 0 4096, payload := fwGood.dev.read 4096 (field (fwGood.dev.read 0 4096) 0x18 8) } = 0 ∧
    fwGood.fwCheck (FwImage.ofBytes (weakHdr ++ [0])) = 0 ∧ fwGood.fwCheck (FwImage.ofBytes []) ≠ 0 := by
  have hp : fwGood.dev.read 4096 1 = [0] := read_past weakHdr 4096 length_weakHdr
  have ho : FwImage.ofBytes (weakHdr ++ [0]) = { hdr := weakHdr, payload := [0] } := by
    rw [FwImage.ofBytes, List.take_left' length_weakHdr, List.drop_left' length_weakHdr, weakHdr_len]; rfl
  rw [fwGood_read, weakHdr_len, hp, ho]
  exact ⟨offers_of (by decide +kernel), plain_of (by decide +kernel) (by decide +kernel), plain_of (by decide +kernel) (by decide +kernel), rfl, rfl,
    weakHdr_ok, rfl, fwGood_passes, fwGood_passes, by decide +kernel⟩

/-- A recovery whose image passes installs it. -/
theorem recovery_installs (s : State) (n : Nat) (f : FwImage) (hr : s.sec.recovery = true) (hk : s.fwCheck f = 0)
    (hf : ({ hdr := s.sec.recBuf.read 0 4096, payload := s.sec.recBuf.read 4096 (min maxPayload (n - 4096)) } : FwImage) = f) :
    s.recoveryInstall n = (s.setFwSlot 0 f).writeSelector 0 none := by
  subst hf
  simp [State.recoveryInstall, hr, hk]

/-- A boot without a trial whose ACTIVE slot passes does not end in RECOVERY. -/
theorem boot_runs (s : State) (h : s.readSelector.sec.trial = none) (hk : s.readSelector.fwCheck (s.readSelector.fwSlot s.readSelector.sec.active) = 0) :
    s.bootRom.sec.recovery = s.readSelector.sec.recovery := by
  simp [State.bootRom, State.bootOrder, h, hk]

/-- The start-up's last step. -/
theorem getReady_ready (s : State) : s.getReady.ref.ready = true := by
  simp only [State.getReady, State.sbRequest_ref, State.confirmTrial]
  split <;> rfl

theorem firmwareUp_ready (env : List Nat) (s : State) : (s.firmwareUp env).ref.ready = true := getReady_ready _

/-- A start-up that does not end in RECOVERY comes to READY. -/
theorem resetReleased_ready (s : State) (env : List Nat) (h0 : (!s.ref.inReset || !s.ref.coresOn || !s.ref.island) = false)
    (h : (({ s with ref.inReset := false } : State).trngUp (envAt env 0 != 0)).bootRom.sec.recovery = false) : (s.resetReleased env).ref.ready = true := by
  simp only [State.resetReleased, h0, h, Bool.false_eq_true, if_false]
  exact firmwareUp_ready env _

/-- A module in RECOVERY with the image that passes in its buffer. -/
def recovering (p : List Instr) : State :=
  { up with hw.romMl := [weakPk], sec := { recovery := true, recBuf := Mem.write [] 0 weakHdr }, pending := p }

/-- A module in reset whose ACTIVE slot holds that image. -/
def booting : State := { State.reset with
  hw.romMl := [weakPk], ref := { State.reset.ref with inReset := true, coresOn := true, island := true }, sec.slotA := weakImage }

theorem recovering_installs (p : List Instr) : (recovering p).recoveryInstall 4097 = ((recovering p).setFwSlot 0 weakImage).writeSelector 0 none :=
  recovery_installs _ _ _ rfl (weak_passes _ rfl rfl rfl rfl rfl) (by
    rw [show (recovering p).sec.recBuf.read 0 4096 = weakHdr from read_hdr weakHdr 4096 length_weakHdr,
      show (recovering p).sec.recBuf.read 4096 (min maxPayload (4097 - 4096)) = [0] from read_past weakHdr 4096 length_weakHdr]; rfl)

/-- It is not the image of a new part. -/
theorem weak_is_new : weakImage ≠ ({} : Sec).slotA := fun h => by
  have h2 : slice weakHdr 240 5 = slice Config.factoryHeader 240 5 := congrArg (fun f => slice f.hdr 240 5) h
  rw [show slice weakHdr 240 5 = _ from slice_weakTail 0 5] at h2
  exact absurd h2 (by decide +kernel)

/-- The state in which FW_UPDATE's descriptor has been taken. -/
def fwTaken : State := { front fwGood fwEntry with hif.window := [] }

theorem fwTaken_reads (who a n : Nat) (h : fwTaken.Plain a n) : fwTaken.devRead who a n = (0, fwGood.dev.read a n, fwTaken) := devRead_plain _ _ _ _ h

theorem fwUpdate_runs : (front fwGood fwEntry).fwUpdateCmd .written = fwTaken.writeUpdate .written fwEntry weakImage := by
  obtain ⟨ho, -⟩ := test_witness_SecurityEngine_fwUpdate_passes
  have hr1 := fun who => fwTaken_reads who 0 4096 (plain_of (by decide +kernel) (by decide +kernel))
  have hr2 := fun who => fwTaken_reads who (0 + 4096) 1 (plain_of (by decide +kernel) (by decide +kernel))
  have hf : fwGood.dev.read (0 + 4096) 1 = [0] := read_past weakHdr 4096 length_weakHdr
  have hk : fwTaken.fwCheck { hdr := weakHdr, payload := [0] } = 0 := weak_passes _ rfl rfl rfl rfl rfl
  have ha : xAddr (fwEntry.op 0x10 8) = 0 := by decide +kernel
  have ht : fwTaken.sec.inTrial = false ∧ fwTaken.sec.updating = false := ⟨rfl, rfl⟩
  rw [State.fwUpdateCmd, State.take_runs ho.1 (by decide +kernel) (by decide +kernel) (by decide +kernel)]
  rw [← fwTaken]
  generalize fwTaken = u at *
  simp only [ha, ht.1, ht.2, hr1, fwGood_read, weakHdr_ok, weakHdr_len, hr2, hf, hk]
  simp [weakImage]

theorem fwUpdate_names : ∃ t, exec (.fwUpdate .written) (front fwGood fwEntry) = .next t ∧ t.sec.trial = some 1 := by
  refine ⟨_, rfl, ?_⟩
  rw [fwUpdate_runs]
  simp only [State.keep_sec, State.writeUpdate, State.finishEntry_sec]
  rfl

/-- The module in reset, released and its TRNG up. -/
def released : State := ({ booting with ref.inReset := false } : State).trngUp false

theorem readSelector_keeps (s : State) : s.readSelector.hw = s.hw ∧ s.readSelector.otp = s.otp ∧ s.readSelector.sec.slotA = s.sec.slotA ∧
    s.readSelector.sec.recovery = s.sec.recovery := by
  simp only [State.readSelector]; split <;> exact ⟨rfl, rfl, rfl, rfl⟩

theorem booting_ready : (booting.resetReleased []).ref.ready = true := by
  obtain ⟨k1, k2, k3, k4⟩ := readSelector_keeps released
  have h1 : released.readSelector.sec.trial = none := by decide +kernel
  have h2 : released.readSelector.sec.active = 0 := by decide +kernel
  have h3 : released.readSelector.fwCheck weakImage = 0 :=
    weak_passes _ (by rw [k2]; rfl) (by rw [k1]; rfl) (by rw [k1]; rfl) (by rw [k1]; rfl) (by rw [k1]; rfl)
  have h : released.bootRom.sec.recovery = false := by
    refine (boot_runs released h1 ?_).trans k4
    rw [h2, State.fwSlot, if_pos rfl, k3]
    exact h3
  have he : (({ booting with ref.inReset := false } : State).trngUp (envAt [] 0 != 0)) = released := rfl
  exact resetReleased_ready booting [] rfl (by rw [he]; exact h)

/-- The start-up as a command. -/
theorem exec_booting : exec (.resetRelease []) booting = .next (booting.keep touchMost (booting.resetReleased [])) := rfl

theorem exec_recovering (p : List Instr) : exec (.recoveryDone 4097) (recovering p) =
    .next ((recovering p).keep touchSecErr (((recovering p).setFwSlot 0 weakImage).writeSelector 0 none)) := by
  rw [← recovering_installs]; rfl

theorem recovered_slot (p : List Instr) :
    ((recovering p).keep touchSecErr (((recovering p).setFwSlot 0 weakImage).writeSelector 0 none)).sec.slotA = weakImage := by
  simp only [State.keep, State.writeSelector, State.writeCopy, State.setFwSlot]; rfl

/-- An update that names a new slot, a recovery that changes slot A, which is ACTIVE, and a start-up that comes to READY. -/
theorem test_witness_BothSignatures :
    (weakRom up).fwCheck weakImage = 0 ∧
    (∃ t, exec (.fwUpdate .written) (front fwGood fwEntry) = .next t ∧ t.sec.trial ≠ (front fwGood fwEntry).sec.trial) ∧
    (let r := recovering [.recoveryDone 4097]
     ∃ t, step r = .next t ∧ t.fwSlot r.sec.active ≠ r.fwSlot r.sec.active) ∧
    (let r := recovering []
     ∃ t, exec (.recoveryDone 4097) r = .next t ∧ t.sec.slotA ≠ r.sec.slotA) ∧
    (booting.ref.ready = false ∧ ∃ t, exec (.resetRelease []) booting = .next t ∧ t.ref.ready = true) := by
  have hstep : step (recovering [.recoveryDone 4097]) = exec (.recoveryDone 4097) (recovering []) := rfl
  refine ⟨weak_passes _ rfl rfl rfl rfl rfl, ?_, ⟨_, hstep.trans (exec_recovering []), ?_⟩, ⟨_, exec_recovering [], ?_⟩, rfl, ?_⟩
  · obtain ⟨t, h1, h2⟩ := fwUpdate_names
    exact ⟨t, h1, by rw [h2]; decide +kernel⟩
  · show State.fwSlot _ 0 ≠ State.fwSlot _ 0
    simp only [State.fwSlot, if_pos, recovered_slot]
    exact weak_is_new
  · rw [recovered_slot]; exact weak_is_new
  · refine ⟨_, exec_booting, ?_⟩
    rw [State.keep_ref, show touchMost.ref = true from rfl, if_pos rfl]; exact booting_ready

theorem test_witness_SecurityEngine_reports :
    let a := fun (x : Nat) => desc 0x61 [(0x30, 8, x)]
    let g := fun (n x : Nat) => desc 0x62 [(0x10, 2, n), (0x18, 8, x)]
    let good : State := { up with sec.trngOk := true }
    let strict : State := { up with place.strict := true }
    (∀ x ∈ [dx 0, 0x1000], offered (front up (a x)) (a x) [] = true ∧ (a x).opcode = 0x61 ∧ xFits ((a x).op 0x30 8) 8192 = true ∧
      (a x).zeros 0x38 0x40 = true ∧ (front up (a x)).xBusy ((a x).op 0x30 8) 8192 = false) ∧
    (∀ n ∈ [1, 4096], ∀ x ∈ [dx 0, 0x1000], offered (front up (g n x)) (g n x) [] = true ∧ (g n x).opcode = 0x62 ∧
      (g n x).op 0x10 2 = n ∧ (g n x).zeros 0x12 0x18 = true ∧ xFits ((g n x).op 0x18 8) n = true ∧ (g n x).zeros 0x20 0x40 = true ∧
      (front up (g n x)).xBusy ((g n x).op 0x18 8) n = false) ∧
    (good.strict = false ∧ good.sec.trngOk = true ∧ up.strict = false ∧ up.sec.trngOk = false ∧ strict.strict = true) := by
  intro a g good strict; and_intros <;> decide +kernel

/-- Host memory and device memory are reached in each of those states. -/
theorem test_witness_SecurityEngine_reach : ∀ s ∈ [up, { up with sec.trngOk := true }, { up with place.strict := true }],
    s.Reach 0x1000 8192 .answered ∧ s.Reach (dx 0) 8192 .answered := by
  intro s hs
  refine ⟨reach_host ?_, reach_dev (by decide +kernel) ?_⟩
  · revert s; decide +kernel
  · rw [show xAddr (dx 0) = 0 by decide +kernel]
    refine plain_of ?_ ?_ <;> (revert s; decide +kernel)

theorem test_witness_SecurityEngine_management :
    let ide : State := { up with sec.ideSecure := 8, sec.spdmVer := true }
    let rec' : State := { up with sec.recovery := true }
    let img := fun (s : State) => ({ hdr := s.sec.recBuf.read 0 4096, payload := s.sec.recBuf.read 4096 (min maxPayload (4097 - 4096)) } : FwImage)
    (ide.sec.ideSecure.testBit 3 = true ∧ ide.sec.spdmVer = true ∧ ide.sec.spdm < 2 ∧ ide.sec.spdm = 0 ∧ up.sec.spdmVer = false ∧
      ({ ide with sec.spdm := 2 } : State).sec.spdm = 2 ∧ ({ up with sec.trngOk := true } : State).sec.trngOk = true) ∧
    -- of the chain, from its start on; slot 0 and another; measurements signed and not
    (field [0, 0, 4, 0] 0 2 ≤ up.hw.certEd.length ∧ 0x10 % 16 = 0 ∧ 1 % 16 ≠ 0 ∧ 0 % 2 = 0 ∧ 1 % 2 = 1 ∧ 0xEC ∈ [0xE5, 0xE8, 0xE9, 0xEC, 0xFE]) ∧
    (up.ref.island = true ∧ (∀ r ∈ [0, 0x2F8, 0x320, 0xFF8], r < 0x1000 ∧ r % 8 = 0 ∧ (r < 0x300 ∨ 0x318 < r)) ∧ sdReserved (bits 0 16 0) = false ∧
      0x310 ∉ [0x108, 0x300, 0x5108, 0x5118]) ∧
    (∀ n ∈ [1, 240], zb n ≠ [] ∧ (zb n).length ≤ 240 ∧ field (leBytes 4 (64 * 2 ^ 20 - n)) 0 4 + n ≤ 64 * 2 ^ 20) ∧
    (rec'.sec.recovery = true ∧ rec'.fwCheck (img rec') = 1) := by
  intro ide rec' img
  and_intros <;> decide +kernel

/-- And an image that passes stands in the buffer. -/
theorem test_witness_SecurityEngine_recovery : (recovering []).sec.recovery = true ∧
    (recovering []).fwCheck { hdr := (recovering []).sec.recBuf.read 0 4096, payload := (recovering []).sec.recBuf.read 4096 (min maxPayload (4097 - 4096)) } = 0 := by
  rw [show (recovering []).sec.recBuf.read 0 4096 = weakHdr from read_hdr weakHdr 4096 length_weakHdr,
    show (recovering []).sec.recBuf.read 4096 (min maxPayload (4097 - 4096)) = [0] from read_past weakHdr 4096 length_weakHdr]
  exact ⟨rfl, weak_passes _ rfl rfl rfl rfl rfl⟩

/-! ### Witnesses: the journal -/

/-- The module with its journal in a mode (JNL_CTRL whole), a ring of 1 GiB at address 0x4000_0000, and entries. -/
def jnl (ctrl : Nat) (entries : List JEntry) : State := { rally 3 with
    regs := (((rally 3).setReg .ref 0 0x500 ctrl).setReg .mctl 0 0x100 2).regs
    jnl := { base := 2 ^ 30, size := 2 ^ 30, entries, openFirst := entries.head?.map JEntry.jseq, next := match entries.getLast? with | some e => e.jseq + 1 | none => 0
             wptr := 4096 + 128 * entries.length, mbase := 2 ^ 31, msize := 2 ^ 30 } }

/-- Three entries of 128 bytes, JSEQ 5 to 7. -/
def three : List JEntry := [{ jseq := 5, addr := 2 ^ 30 + 4096 }, { jseq := 6, addr := 2 ^ 30 + 4224 }, { jseq := 7, addr := 2 ^ 30 + 4352 }]

/-- An entry without data of the host's, with a JSEQ. -/
def entry (j : Nat) : List (BitVec 8) :=
  entryBytes j { stamp := 0, seq := 1, port := 0xFFFF, frameLen := 0, flags := 2, sifter := 0xFF, progId := 0, mark := 0, reason := 0, verdict := 0, cls := 0 } []

theorem test_entry_is_genuine : (entry 8).length = 128 ∧ entryOk (entry 8) = true ∧ entryOk (zb 128) = false := by
  and_intros <;> decide +kernel

theorem test_witness_JournalCommands_append :
    let e := fun (x n : Nat) => desc 0x70 [(0x10, 8, x), (0x18, 2, n)]
    (∀ x ∈ [dx 0, 0x1000], ∀ n ∈ [1, 16256], offered (front (jnl 1 []) (e x n)) (e x n) [] = true ∧ noColl (front (jnl 1 []) (e x n)) = true ∧ (e x n).opcode = 0x70 ∧ (e x n).op 0x10 8 = x ∧ (e x n).op 0x18 2 = n ∧ xOk x = true ∧
      (e x n).zeros 0x1A 0x40 = true) ∧
    ((jnl 0 []).jnlMode ≠ 1 ∧ (jnl 1 []).jnlMode = 1 ∧ (jnl 1 []).autoTrim = false ∧ (jnl 1 []).ringRoom (64 * unitsFor 16256) = true ∧
      ({ jnl 1 [] with jnl.size := 4096 } : State).jnlMode = 1 ∧ ({ jnl 1 [] with jnl.size := 4096 } : State).ringRoom (64 * unitsFor 1) = false ∧ (jnl 9 []).mirrorEn = true ∧ (jnl 9 []).autoTrim = false) := by
  intro e; and_intros <;> decide +kernel

/-- The data that the journal's commands read and write lie in host memory or in device memory. -/
theorem test_witness_JournalCommands_reach : ∀ s ∈ [jnl 1 [], jnl 1 three, jnl 2 three, jnl 2 []], ∀ n ∈ [1, 128, 384, 16256],
    s.Reach 0x1000 n .answered ∧ s.Reach (dx 0) n .answered := by
  intro s hs n hn
  refine ⟨reach_host ?_, reach_dev (by decide +kernel) ?_⟩
  · revert s n; decide +kernel
  · rw [show xAddr (dx 0) = 0 by decide +kernel]
    refine plain_of ?_ ?_ <;> (revert s n; decide +kernel)

theorem test_witness_JournalCommands_ranges :
    let c := desc 0x71 []
    let t := fun (j : Nat) => desc 0x72 [(0x10, 8, j)]
    let send := fun (first last ring : Nat) => desc 0x73 [(0x10, 8, first), (0x18, 8, last), (0x20, 2, 15), (0x22, 1, ring)]
    let recv := fun (first last : Nat) => desc 0x74 [(0x10, 8, first), (0x18, 8, last), (0x20, 2, 15)]
    let s := jnl 1 three
    let r := jnl 2 three
    (∀ e ∈ [c, t 5, t 6, send 5 7 0, send 5 8 1, recv 8 9, recv 9 8], offered (front s e) e [] = true ∧ noColl (front s e) = true) ∧
    (c.opcode = 0x71 ∧ c.zeros 0x10 0x40 = true ∧ (jnl 1 []).jnl.openFirst = none ∧ s.jnl.openFirst = some 5 ∧ s.jnlLast = some 7 ∧ s.jnl.closed.length < 32) ∧
    ((t 6).opcode = 0x72 ∧ (t 6).zeros 0x18 0x40 = true ∧ s.jnl.openFirst.getD s.jnl.next < (t 6).op 0x10 8 ∧ (t 5).op 0x10 8 ≤ s.jnl.openFirst.getD s.jnl.next) ∧
    ((send 5 7 0).opcode = 0x73 ∧ (send 5 7 0).op 0x20 2 = 15 ∧ (send 5 7 1).op 0x22 1 ≤ 1 ∧ (send 5 7 0).zeros 0x23 0x40 = true ∧ s.jnl.transfer = none ∧
      (∀ a < 4, s.neighbourFenced a (coordOf 15 a) = false) ∧ s.heldRange 0 5 8 = none ∧ s.heldRange 0 5 7 = some three ∧
      (∀ y ∈ three, y.addr + 64 * y.units ≤ devBytes)) ∧ (s.Plain (2 ^ 30 + 4096) 384) ∧
    ((recv 8 9).opcode = 0x74 ∧ (recv 8 9).zeros 0x22 0x40 = true ∧ r.jnlMode = 2 ∧ r.jnl.transfer = none ∧ (recv 9 8).op 0x18 8 < (recv 9 8).op 0x10 8 ∧
      (recv 8 8).op 0x10 8 ≤ (recv 8 8).op 0x18 8 ∧ (recv 8 8).op 0x10 8 = r.jnl.next) := by
  intro c t send recv s r
  and_intros <;> first | decide +kernel | (refine clean_of ?_; decide +kernel)

theorem test_witness_JournalCommands_exportImport :
    let ex := fun (last x : Nat) => desc 0x75 [(0x10, 8, 5), (0x18, 8, last), (0x28, 8, x), (0x30, 8, 384)]
    let im := desc 0x76 [(0x10, 8, dx 0), (0x18, 8, 128)]
    let s := jnl 1 three
    let r := fun (bs : List (BitVec 8)) => ({ jnl 2 three with dev := Mem.write [] 0 bs } : State)
    (∀ e ∈ [ex 7 (dx 0), ex 8 (dx 0), ex 7 0x1000], offered (front s e) e [] = true ∧ noColl (front s e) = true ∧ e.opcode = 0x75 ∧
      e.op 0x20 1 ≤ 1 ∧ e.zeros 0x21 0x28 = true ∧ xOk (e.op 0x28 8) = true ∧ e.zeros 0x38 0x40 = true) ∧
    (s.hostDma = true ∧ s.hostStaged 0 = true ∧ s.heldRange 0 5 8 = none ∧ s.heldRange 0 5 7 = some three ∧ (three.map (fun y => 64 * y.units)).sum = 384 ∧ (∀ y ∈ three, y.addr + 64 * y.units ≤ devBytes) ∧ s.Plain (2 ^ 30 + 4096) 384) ∧
    (offered (front (r []) im) im [] = true ∧ im.opcode = 0x76 ∧ xOk (im.op 0x10 8) = true ∧ im.op 0x18 8 = 128 ∧ im.zeros 0x20 0x40 = true ∧ (r (entry 8)).Plain 0 128 ∧
      (r []).jnlMode = 2 ∧ (r []).jnl.transfer = none) ∧
    (let bs := (r (entry 8)).bytesAt (dx 0) 128
     bs = entry 8 ∧ entryJseq bs = (r bs).jnl.next ∧ bs.length = 64 * entryUnits bs ∧ (r bs).autoTrim = false ∧ (r bs).ringRoom bs.length = true) ∧
    (let r0 : State := jnl 2 []
     let bs := r0.bytesAt (dx 0) 128
     r0.jnl.entries = [] ∧ entryOk bs = false ∧ bs ≠ []) := by
  intro ex im s r
  and_intros <;> first | decide +kernel | (refine clean_of ?_; decide +kernel)

theorem test_witness_JournalEvents :
    let k := fun (opc cls : Nat) (p : List (BitVec 8)) => ({ hdr := mkHdr 0 15 cls false 0 none p.length 0 0 opc 0, payload := p } : Pkt)
    let fwd := fun (ctrl opc : Nat) => ({ jnl ctrl three with rly.fwd := [k opc 2 (entry 8)] } : State)
    let tr := fun (recv : Bool) (last : Nat) => ({ recv, seq := 9, first := 8, last, peer := 15 } : Transfer)
    let withTr := fun (s : State) (t : Transfer) => ({ s with jnl.transfer := some t, hif.opened := [cmd9] } : State)
    let mir := 0x10 + 15 * 2 ^ 32
    let ack := fun (v : Nat) => k 0x20 4 (leBytes 8 v ++ leBytes 8 noJseq ++ leBytes 8 noJseq)
    (∀ s ∈ [jnl 1 three, fwd 1 3, fwd mir 1, withTr (fwd 2 2) (tr true 8), withTr (jnl 1 three) (tr false 9)], noColl s = true ∧ s.hif.done.length < 4096) ∧
    ((jnl 1 three).jnlLast = some 7 ∧ (jnl 9 three).unmirrored = true) ∧
    ((fwd 1 3).rly.fwd = [k 3 2 (entry 8)] ∧ (k 3 2 []).opc ≠ 1 ∧ (k 3 2 []).opc ≠ 2) ∧
    ((k 1 2 (entry 8)).opc = 1 ∧ (fwd mir 1).mirrorRx = true ∧ entryOk (entry 8) = true ∧ (k 1 2 (entry 8)).src = (fwd mir 1).client ∧ 4096 + 64 * entryUnits (entry 8) ≤ (fwd mir 1).jnl.msize ∧
      (fwd mir 1).jnl.mexp = none) ∧
    (∀ last ∈ [8, 9], let s := withTr (fwd 2 2) (tr true last)
      (k 2 2 (entry 8)).opc = 2 ∧ s.jnl.transfer = some (tr true last) ∧ (k 2 2 (entry 8)).src = 15 ∧ s.openCmd 9 = some cmd9 ∧ entryJseq (entry 8) = s.jnl.next ∧
      s.autoTrim = false ∧ s.ringRoom (64 * entryUnits (entry 8)) = true) ∧
    (let s : State := { jnl mir [] with jnl.mnew := true }
     s.mirrorRx = true ∧ s.jnl.mnew = true ∧ s.jnl.transfer = none) ∧
    (∀ v ∈ [8, 9], (ack v).opc = 0x20 ∧ (ack v).payload.length = 24 ∧ field (ack v).payload 0 8 = v ∧ v ≠ noJseq ∧ (tr false 9).peer = (ack v).src) ∧
    ((withTr (jnl 1 three) (tr false 9)).openCmd 9 = some cmd9) ∧
    (let s := jnl (9 + 15 * 2 ^ 16) three
     s.jnl.transfer = none ∧ (ack 7).src = s.buddy ∧ s.mirrorEn = true) ∧
    (let s := (jnl 0 []).setReg .ref 0 0x508 (2 ^ 30 + 1)
     s.bar0Open = true ∧ s.pageServed .ref 0 = true ∧ 0 < Page.count .ref ∧ s.stalled = false ∧ s.jnl.transfer = none ∧ s.jnlMode = 0 ∧ bits (2 ^ 48 + 1) 63 48 ≠ 0 ∧ bits (2 ^ 48 + 1) 1 0 = 1) := by
  intro k fwd tr withTr mir ack; and_intros <;> decide +kernel

/-! ### Witnesses: the Proofer, clocks, resets, power, the Scorebook -/

/-- Readings of a good sample: 25 degrees everywhere, no energy. -/
def calm : List Nat := List.replicate 304 500

/-- The live placement with one block that runs work of a class on a hot die. -/
def hot (cls : Nat) : State := { live with
  prf := { tjTarget := 85, dies := [(0, { tmax := 400, sensorOk := 255 })] }, blocks := [(0, { run := some { req := { cls } } })] }

theorem test_witness_ProoferEvents_samples :
    (∀ d ∈ [0, 31], ∀ i < 8, sensorInRange (reading calm (8 * d + i)) = true ∧ up.frozenCount calm (8 * d + i) (100 * reading calm (848 + d)) < 100000) ∧
    -- the last sensor of a port die and of an LB4: one out of range, and one that has shown its value for 1 s
    (∀ x ∈ [(3, 3, 256 + 4 * 3, 4), (4, 1, 272, 2), (19, 1, 272 + 2 * 15, 2)], let k := x.2.2.1 + x.2.1
      let s : State := { up with prf := { up.prf with last := calm, frozen := [(k, 99999)] } }
      ((x.1 < 4 ∧ x.2.2.2 = 4 ∧ x.2.2.1 = 256 + 4 * x.1) ∨ (4 ≤ x.1 ∧ x.1 < 20 ∧ x.2.2.2 = 2 ∧ x.2.2.1 = 272 + 2 * (x.1 - 4))) ∧ x.2.1 < x.2.2.2 ∧
      s.prf.last ≠ [] ∧ sensorValid (reading s.prf.last k) (s.prf.frozen.num k) = true ∧ sensorInRange (reading (calm.set k 1001) k) = false ∧
      s.frozenCount (calm ++ List.replicate 700 51) k (reading (calm ++ List.replicate 700 51) (914 + x.1)) = 100000) ∧
    (sensorInRange (reading [239] 0) = false ∧ sensorInRange (reading [1001] 0) = false ∧ sensorInRange 240 = true ∧ sensorInRange 1000 = true ∧
      ((hot 1).diePow 0).sensorOk.testBit 0 = true) ∧
    (((hot 3).block 0).run = some { req := { cls := 3 } } ∧ 3 ∈ [1, 2, 3]) := by
  and_intros <;> decide +kernel

/-- The reading that puts every die at 100 °C leaves no headroom at a target of 85 °C. -/
theorem test_sample_holds_a_hot_block :
    (match exec (.prooferSample (List.replicate 304 800)) (hot 3) with
      | .next t => decide (t.headroom 0 < 0) && (t.block 0).prooferHold
      | _ => false) = true := by decide +kernel

theorem test_witness_ProoferEvents_windows :
    let s := fun (warm : Bool) (wins : Nat) => ({ hot 1 with prf := { (hot 1).prf with warm, accN := 1, accW := 900, dies := [(0, { heldNow := true, heldWins := wins, vnow := 30 })] } } : State)
    (0 < (s false 0).prf.accN ∧ (s false 0).prf.warm = false ∧ (s true 1).prf.warm = true) ∧
    ((((s true 1).setReg .prf 0 0x200 0x80).fld .prf 0 0x200 7 7 = 1) ∧ (s true 1).fld .prf 0 0x200 7 7 = 0 ∧ ((s true 1).diePow 0).heldNow = true ∧
      1 ≤ ((s true 1).diePow 0).heldWins) := by
  intro s; and_intros <;> decide +kernel

/-- A RUN of COLL ready in block 0, its charge 350 W. -/
def oneReady (rem : Nat) : State :=
  { live with
    hif.opened := [{ seq := 9, opcode := 0x10, cls := 3, targets := [(0, 0)], all := [(0, 0)], estW := 350 }]
    prf := { rem, dieMaxW := 400, tjTarget := 85, dies := [(0, { tmax := 100, sensorOk := 255 })] }
    blocks := [(0, { runq := [{ seq := some 9, cls := 3 }] })] }

theorem test_witness_ProoferEvents_admission :
    let c : OpenCmd := { seq := 9, opcode := 0x10, cls := 3, targets := [(0, 0)], all := [(0, 0)], estW := 350 }
    ∀ rem ∈ [0, 350 * chargeUnit], let s := oneReady rem
      s.openCmd c.seq = some c ∧ c.opcode = 0x10 ∧ c.cls < 4 ∧ (c.targets.map Prod.snd).Nodup ∧ (c.targets.all fun x => s.headIs x.2 (some c.seq)) = true ∧
      (∀ j < 4, s.readyIn j = if j = c.cls then [(c.since, Ready.cmd c.seq)] else []) ∧
      s.fits c.cls (s.runCharge c.entryOff c.estW) c.all = (rem != 0) := by decide +kernel

theorem test_witness_ProoferEvents_trips :
    (∀ u ∈ [0, 31], u < 32 ∧ live.fence.dies.testBit u = false) ∧ 32 ≤ 0x3F ∧ 32 ≤ 0x20 ∧ live.inService 0 = true ∧ dieOf 0 = 0 := by decide +kernel

theorem test_witness_ClockEvents :
    let s : State := { up with clk := { windows := List.replicate 63 512, plls := [(10, { en := true, locked := true }), (26, { en := true, locked := true }),
      (27, { en := true }), (0, { en := true })], muxes := [(24, { pending := true }), (0, { pending := true }), (4, { stuck := true }), (8, { stuck := true })] } }
    (s.clk.coast = false ∧ s.clk.monFailed = false ∧ s.ref.inReset = false ∧ s.ref.island = true ∧ s.clk.windows.length = 63 ∧ s.clk.c0 = 0) ∧
    (s.countBad 461 = false ∧ s.countBad 563 = false ∧ s.countBad 460 = true ∧ s.countBad 564 = true ∧ s.countBad 0 = true) ∧
    ((s.pll 10).locked = true ∧ (s.pll 26).locked = true ∧ (s.pll 27).en = true ∧ (s.pll 27).locked = false ∧ (s.pll 0).en = true ∧ (s.pll 0).locked = false ∧
      (s.stack 1).state ≠ 3) ∧
    (∀ m ∈ [0, 24], (s.mux m).pending = true ∧ (s.mux m).stuck = false) ∧
    (127 / 32 = 3 ∧ (s.mux (1 + 3)).stuck = true ∧ (s.mux (5 + 3)).stuck = true) := by
  intro s; and_intros <;> decide +kernel

theorem test_witness_ClockEvents_noWaiters : up.NoWaiters := noWaiters (by decide +kernel)

/-- The selector's copies while slot B is on trial, with their CRC. -/
def trialCopies : List SelCopy :=
  let c : SelCopy := { seq := 1, active := 0, trial := some 1 }
  [{ c with crc := c.sum }, {}]

/-- The module in reset with both slots holding the image that passes, slot B on trial. -/
def trying : State := { booting with sec := { slotA := weakImage, slotB := weakImage, copies := trialCopies } }

theorem test_witness_ResetsPowerAndScorebook_boots :
    (∀ s ∈ [(booting.ref, booting.sec.recovery), (trying.ref, trying.sec.recovery)], s.1.inReset = true ∧ s.1.coresOn = true ∧ s.1.island = true ∧ s.1.ready = false ∧
      s.2 = false) ∧ envAt [] 0 = 0 ∧
    (pickCopy booting.sec.copies).map (fun c => (c.active, c.trial)) = some (0, none) ∧ booting.fwCheck (booting.fwSlot 0) = 0 ∧
    (pickCopy trying.sec.copies).map (fun c => (c.active, c.trial)) = some (0, some 1) ∧ trying.fwCheck (trying.fwSlot 1) = 0 ∧
    (let s : State := { booting with sec.slotA := {} }
     (pickCopy s.sec.copies).map (fun c => (c.active, c.trial)) = some (0, none) ∧ s.fwCheck (s.fwSlot 0) ≠ 0 ∧ s.fwCheck (s.fwSlot (1 - 0)) ≠ 0) :=
  ⟨by decide +kernel, rfl, by decide +kernel, weak_passes booting rfl rfl rfl rfl rfl, by decide +kernel, weak_passes trying rfl rfl rfl rfl rfl, by decide +kernel⟩

theorem test_witness_ResetsPowerAndScorebook :
    let on : State := { up with ref := { up.ref with p54 := true, coresOn := true, mtRunning := true, mtStacks := 0xFFFF } }
    let copy : SbCopy := { seq := 2 ^ 32 - 1, sector := 255 }
    (on.ref.p54 = true ∧ on.linked = true ∧ on.ref.island = true ∧ (!({ up with ref.p54 := false } : State).ref.p54) = true ∧ up.ref.mtRunning = false) ∧
    (on.ref.epo = false ∧ ({ on with ref.aux12 := true } : State).ref.aux12 = true ∧ on.ref.mtRunning = true ∧ (0x8000 &&& on.ref.mtStacks).testBit 15 = true) ∧
    (let s : State := { up with sb := { inForce := some copy } }
     s.ref.island = true ∧ s.sb.writing = none ∧ s.sb.inForce = some copy) ∧
    (∀ again ∈ [true, false], let s : State := { up with sb := { writing := some copy, again } }
      s.sb.writing = some copy ∧ s.sb.writing ≠ none ∧ s.sb.again = again) := by
  intro on copy; and_intros <;> decide +kernel

/-! ### Witnesses: audit units and sealing -/

/-- Block 0 with an audit ring of its descriptor's fields, its digest at 0x1C0, its list of JSEQs at 0x2000 (the first is 5), and a journal. -/
def audit (fields : List (Nat × Nat × Nat)) (entries : List JEntry) : State := { live with
  jnl.entries := entries
  blocks := [(0, { store := (Mem.write (fields.foldl (fun (m : Mem) f => m.write f.1 (leBytes f.2.1 f.2.2)) []) 0x2000 [5])
                   aud := { en := true, post := 46, done := 47 }, cnts := [(46, { value := 1 })] })] }

/-- A descriptor's fields: KIND, FLAGS, the number of entries named, and the output's length. -/
def audFields (kind inCount : Nat) : List (Nat × Nat × Nat) :=
  [(0, 1, kind), (6, 2, inCount), (0x18, 4, 0x2000), (0x1C, 4, 0x3000), (0x20, 4, 64), (0x24, 4, 0x1C0)]

theorem test_witness_AuditAndSealing_starts :
    let e5 : JEntry := { jseq := 5, addr := 4096 }
    (∀ s ∈ [audit (audFields 3 0) [], audit (audFields 1 1) [], audit (audFields 1 1) [e5], audit (audFields 2 0) []],
      noColl s = true ∧ s.ringsRun = true ∧ (s.block 0).aud.en = true ∧ (s.block 0).aud.halted = false ∧ s.fencedBlock 0 = false ∧
      (s.block 0).aud.flight = [] ∧ (s.block 0).aud.started + 1 ≤ ((s.block 0).cnt (s.block 0).aud.post).value ∧ s.inService 0 = true) ∧
    (let s := audit (audFields 3 0) []
     s.audFormatOk ((s.block 0).audDesc 0) = false) ∧
    (let s := audit (audFields 1 1) []
     s.audFormatOk ((s.block 0).audDesc 0) = true ∧ (s.block 0).audInputs ((s.block 0).audDesc 0) = [5] ∧ s.audWaits [5] = false) ∧
    (let s := audit (audFields 1 1) [e5]
     s.audFormatOk ((s.block 0).audDesc 0) = true ∧ (s.block 0).audInputs ((s.block 0).audDesc 0) = [5] ∧ s.audWaits [5] = false ∧
       s.jnl.entries.find? (fun e => e.jseq == 5) = some e5 ∧ s.Plain (4096 + 0x40) 32) ∧
    (let s := audit (audFields 2 0) []
     s.audFormatOk ((s.block 0).audDesc 0) = true ∧ (s.block 0).audInputs ((s.block 0).audDesc 0) = []) := by
  intro e5
  and_intros <;> first | decide +kernel | (refine clean_of ?_; decide +kernel)

/-- The descriptor in flight, and the open batch. -/
def ending (kind st : Nat) (openB : Option Batch) : State :=
  let s := audit (audFields kind 0) []
  { (s.onBlock 0 (fun b => { b with aud := { b.aud with started := 1, flight := [(0, st)] } })) with sec.openB := openB, time.now := 999999 }

theorem test_witness_AuditAndSealing_ends :
    (∀ x ∈ [(1, 1), (2, 1), (1, 0x83)], let s := ending x.1 x.2 none
      (s.block 0).aud.flight = [(0, x.2)] ∧ s.fencedBlock 0 = false ∧ ((s.block 0).audDesc 0).alarm = (x.1 == 2) ∧ (s.block 0).aud.accepted = false ∧ (x.1 = 2 → s.recordFirst 0 = true)) ∧
    (let s := ending 2 1 (some {})
     s.sec.openB = some {} ∧ s.batchDue = false ∧ (ending 2 1 none).sec.openB = none ∧ ({} : Batch).recs.length + 1 < 4096) := by
  and_intros <;> decide +kernel

theorem length_slice (bs : List (BitVec 8)) (off len : Nat) : (slice bs off len).length = len := by
  simp only [slice, List.length_append, List.length_take, List.length_replicate]; omega

/-- A batch of one record, signed, some of its records written. -/
def batch1 (written : Nat) (signed : List (BitVec 8)) : Batch := { recs := [{ bytes := zb 256 }], signed, written }

/-- Seal rings on, their consumers' counts at 0x1000. -/
def sealing (b : Batch) : State := { ((up.setReg .sec 0 0x410 (dx 0x1000)).setReg .sec 0 0x428 (dx 0x1000)) with
  sec := { queue := [b], trngOk := true, recRing := { en := true, base := dx 0x10000, slotsLog2 := 4 }, sealRing := { en := true, base := 0x10000, slotsLog2 := 4 } } }

theorem test_record_is_16384_bytes (s : State) (written : Nat) (signed : List (BitVec 8)) :
    (s.recordBytes (batch1 written signed) 0).1.length = 16384 := by
  have h : ((batch1 written signed).recs.getD 0 {}).leaf.length = 32 := by
    show (AlarmRec.leaf { bytes := zb 256 }).length = 32
    decide +kernel
  have h2 : merkle 13 0 (batch1 written signed).leaves = (((batch1 written signed).recs.getD 0 {}).leaf, []) := rfl
  have h3 : ((batch1 written signed).recs.getD 0 {}).bytes.length = 256 := List.length_replicate
  have h4 : ∀ x : Nat, (leBytes 8 x).length = 8 ∧ (leBytes 4 x).length = 4 ∧ (leBytes 1 x).length = 1 := fun x => ⟨rfl, rfl, rfl⟩
  have h5 : ((batch1 written signed).recs.getD 0 {}).each = false := rfl
  simp only [State.recordBytes, h2, h5, List.length_append, h, h3, h4, length_slice, List.length_replicate, Bool.false_eq_true, if_false]

theorem test_witness_AuditAndSealing_batches :
    (let s : State := { up with sec.openB := some { openTime := 0 }, time.now := 1000000 }
     s.sec.openB = some { openTime := 0 } ∧ s.batchDue = true ∧ up.batchDue = false) ∧
    ((sealing (batch1 0 [])).sec.queue = [batch1 0 []] ∧ (batch1 0 []).signed = [] ∧ (sealing (batch1 0 [])).sec.trngOk = true ∧ up.sec.trngOk = false) := by
  and_intros <;> decide +kernel

theorem test_witness_AuditAndSealing_rings :
    ∀ x ∈ [(0, 0x410, dx 0x10000, 16384, true), (1, 0x428, 0x10000, 4096, false)],
      let b := batch1 x.1 (zb 4096)
      let s := sealing b
      let g := if x.2.2.2.2 then s.sec.recRing else s.sec.sealRing
      let cons := s.reg .sec 0 x.2.1 / 8 * 8
      b.signed ≠ [] ∧ b.signed.length = 4096 ∧ (b.written < b.recs.length ↔ x.2.2.2.2 = true) ∧ g.en = true ∧ xOk cons = true ∧
      g.base + g.prod % 2 ^ g.slotsLog2 * x.2.2.2.1 = x.2.2.1 ∧ xOk x.2.2.1 = true ∧ xAddr cons = 0x1000 ∧ s.hostDma = true ∧ s.xBusy cons 8 = false ∧ s.xBusy x.2.2.1 x.2.2.2.1 = false ∧ (b.recs.getD b.written {}).each = false ∧
      g.prod < leNat (s.bytesAt cons 8) + 2 ^ g.slotsLog2 := by
  simp only [List.mem_cons, List.mem_nil_iff, or_false, forall_eq_or_imp, forall_eq]
  and_intros <;> decide +kernel

theorem test_witness_AuditAndSealing_memory : (sealing (batch1 0 [])).Plain 0x1000 8 ∧ (sealing (batch1 0 [])).Plain 0x10000 16384 := by
  and_intros <;> first | decide +kernel | (refine clean_of ?_; decide +kernel)

/-! ### Values that the spec gives -/

/-- The RUN descriptor of the worked example under R557. -/
def runExample : WinEntry := { seq := 0x1F42, bytes := [0xa7, 0x51, 0, 0, 0x10, 3, 0, 0, 0, 0, 0, 0, 0, 0, 0, 0, 0x17, 4, 0x24, 0x20, 0, 0, 0, 0, 0, 0, 0x60, 4, 0, 0, 0, 0,
  0x40, 0, 0, 0, 0x5e, 1, 0x25, 1, 7, 0x0c, 0, 0, 0, 0, 0, 0, 0, 0, 0, 0, 0, 0, 0, 0, 0, 0, 0, 0, 0, 0, 0, 0] }

/-- Worked example under R557: the descriptor's fields, its completion record, and the states it passes. -/
theorem test_run_descriptor : runExample.headerOk = true ∧ runExample.tag = 0x51A7 ∧ runExample.opcode = 0x10 ∧ runExample.ring = 3 ∧
    runExample.op 0x10 8 = 0x20240417 ∧ runExample.op 0x18 8 = 73400320 ∧ runExample.op 0x20 4 = 0x40 ∧ runExample.op 0x24 2 = 350 ∧
    runExample.op 0x26 1 = 0x25 ∧ runExample.op 0x28 2 = 0x0C07 := by and_intros <;> decide +kernel

/-- Worked example under R557: the completion record. -/
theorem test_run_completion : (runExample.compl 0 0x046030FD).bytes = [0xa7, 0x51, 0, 0, 0x10, 3, 0, 0, 0xfd, 0x30, 0x60, 4, 0, 0, 0, 0,
    0, 0, 0, 0, 0, 0, 0, 0, 0x42, 0x1f, 0, 0, 0, 0, 0, 0] := by decide +kernel

/-- The STATUS codes given under R554. -/
theorem test_status_codes : statusOf .blk 5 = 0x1105 ∧ statusOf .sec 4 = 0x0504 ∧ statusOf .coll 3 = 0x2203 ∧ stMemUe = 0x3003 ∧ stBadTarget = 0x110B := by decide

/-- The examples under R420 and R423. -/
theorem test_pseudo_channel : pseudoChannel 0x30_4041_C540 = 6 ∧ nearFarToNormal 0x31_8101_0740 = 0x30_4041_C540 ∧ 0x30_4041_C540 / 2 ^ 36 = 3 := by decide +kernel

/-- The example under R106. -/
theorem test_fp6_packing : packElems 6 [0b101101, 0b010011, 0, 0] = [0xED, 0x04, 0] ∧ packedAt [0xED, 0x04, 0] 6 0 = 0b101101 ∧ packedAt [0xED, 0x04, 0] 6 1 = 0b010011 := by
  decide +kernel

/-- The example under R125: 300.7 (to 2^-10) as a block of E4M3. -/
theorem test_mx_block : encodeBlock 0 [(.fin false 307917 (-10), rne)] = (127, [0x79]) := by decide +kernel

/-- The worked example of chapter 2: the bytes of a long word. -/
theorem test_long_word : fetchWord (Mem.write [] 0 [0x00, 0xB1, 0x00, 0x1C, 0x48, 0x1F, 0x80, 0x01, 0x64, 0xF6, 0x08, 0x00, 0xA2, 0xF0, 0xF7, 0xFF, 0xFF, 0x10]) 0 18 0 =
      some { hdr := 0xB100, slots := [(0, 0x1F481C00), (2, 0xF6640180), (3, 0xF0A20008), (7, 0x10FFFFF7)] } ∧
    mOp 0x1F481C00 = 1 ∧ mT 0x1F481C00 = 1 ∧ mV 0x1F481C00 = 4 ∧ mCol 0x1F481C00 = 3 ∧ mAcc 0x1F481C00 = true ∧
    lKind 0xF6640180 = 1 ∧ lT 0xF6640180 = 2 ∧ lPart 0xF6640180 = 3 ∧ lAreg 0xF6640180 = 2 ∧ lOff 0xF6640180 = 0x30 ∧
    lReg 0xF0A20008 = 5 ∧ lOff 0xF0A20008 = 1 ∧ cOp 0x10FFFFF7 = 2 ∧ cOffset 0x10FFFFF7 = -9 := by decide +kernel

/-- The worked example of chapter 4: 2^60 and its negative cancel around 10,000 times 2^-20, and the total drains exactly to FP32 and BF16. -/
theorem test_drain_with_cancellation :
    let chunk := fun (ts : List Machine.Num) => chunkOf ts false
    let t := ([chunk [.fin false 1 60], chunk (List.replicate 64 (.fin false 156 (-20))), chunk (List.replicate 16 (.fin false 1 (-20))), chunk [.fin true 1 60]]).foldl
      Total.addChunk Total.zero
    t.value = 625 * 2 ^ 256 ∧ t.cls = 0 ∧ t.zst = 2 ∧ t.inv = false ∧ t.ovf = false ∧ t.loss = false ∧
    encodeElem 0xA rne (t.toNum 0) = 0x3C1C_4000 ∧ encodeElem 0x8 rne (t.toNum 0) = 0x3C1C := by decide +kernel

/-- The example under R397: an exact sum of 2^100, 1, -2^100 and 2^-149. -/
theorem test_exact_allreduce :
    let p := [0x7180_0000, 0x3F80_0000, 0xF180_0000, 1].foldl (fun (q : Partial) v => q.add (partialOf 0xA 0 (leBytes 4 v))) Partial.zero
    p.result 0xA 0xA 0 = leBytes 4 0x3F80_0000 ∧ (Total.ofBytes (p.result 0xA 0x11 0)).value = 2 ^ 272 + 2 ^ 123 := by decide +kernel

/-- The worked example under R337: green, green, yellow, yellow, red, green. -/
theorem test_meter_example :
    let s : State := { up with sw.meters := [(17, meterOf (leBytes 4 0 ++ leBytes 4 80000 ++ leBytes 4 0 ++ leBytes 4 9216 ++ leBytes 4 9216 ++ zb 12))] }
    ([1000, 2000, 3000, 4000, 5000, 461800].foldl (fun (x : List Nat × State) t => let r := x.2.meterFrame 17 4608 t false; (x.1 ++ [r.1], r.2.2)) ([], s)).1 =
      [0, 0, 1, 1, 2, 0] := by decide +kernel

/-- The worked example of chapter 7's program: the window count. -/
theorem test_window_count : windowCount 17 10000000 1 (leBytes 8 9699328 ++ [120, 64, 60, 70, 50, 40, 30, 20].flatMap (leBytes 2)) =
    (leBytes 8 0x0098_0000 ++ [1, 0, 120, 64, 60, 70, 50, 40].flatMap (leBytes 2), 405) := by decide +kernel

/-- The example under R186: a group of an FP8 record. -/
theorem test_sparse_group : compGroup 0 (0b0101 :: zb 127 ++ [0x38, 0xB0]) 0 = [0x38, 0, 0xB0, 0] ∧
    compOverfull 0 (zb 18 ++ [0xB0] ++ zb 621) = some 37 := by decide +kernel

/-- The worked example of chapter 10: the entry for version B names ports 40 and 41 and detour 7. -/
theorem test_route_entry : entryPorts 0x78A9_A800 = [40, 41] ∧ entryPorts 0x7800_A800 = [40] ∧ bits 0x78A9_A800 31 28 = 7 ∧ (0x78A9_A800).testBit 27 = true ∧
    0x400 + 0x180 * 1 + 8 * 6 = 0x5B0 := by decide

/-- The example under R472: leaf 5 of 6 has a path of two. -/
theorem test_merkle_path : (merkle 13 5 [[0], [1], [2], [3], [4], [5]]).2.length = 2 ∧ (merkle 13 5 [[0], [1], [2], [3], [4], [5]]).2.head? = some [4] := by decide +kernel

/-- Check values of the CRCs that R351 and R399 name, for the nine bytes "123456789". -/
theorem test_crc : crc32 [0x31, 0x32, 0x33, 0x34, 0x35, 0x36, 0x37, 0x38, 0x39] = 0xCBF4_3926 ∧
    crc32c [0x31, 0x32, 0x33, 0x34, 0x35, 0x36, 0x37, 0x38, 0x39] = 0xE306_9283 := by decide +kernel

/-- The first bytes of SHA3-256 and SHA-512 of the empty message (FIPS 202, FIPS 180-4). -/
theorem test_hashes : (sha3 []).take 4 = [0xa7, 0xff, 0xc6, 0xf8] ∧ (sha512 []).take 4 = [0xcf, 0x83, 0xe1, 0x35] := by and_intros <;> decide +kernel

/-- Half-way cases of FP32 addition go to the even value; two negative zeros give one (R117, R119). -/
theorem test_fp32_add : fadd32 0x3F80_0000 0x3380_0000 = 0x3F80_0000 ∧ fadd32 0x3F80_0001 0x3380_0000 = 0x3F80_0002 ∧ fadd32 0x8000_0000 0x8000_0000 = 0x8000_0000 := by
  decide +kernel

/-- No word spells a command; an idle step moves only the time. -/
theorem test_idle : decodeTableWord 32 0 = none ∧ step State.reset = .next { State.reset with time.now := State.reset.time.now + 1 } := ⟨rfl, rfl⟩
end Sys2Proof.Tests
end

section
/-! PROOFS. The statements of 00_scope.md: every command leaves a next state, a register write sets its fields, and an event count clears
when it is read. Each rests on one lemma about the operation behind it: `exec_eq_answer`, `State.pageWrite_justStores` and
`State.bar0Read_served`. -/

namespace Sys2Proof.Machine

/-! ### Every command is an answer -/

/-- A command's whole outcome is an effect of which `State.keep` takes the parts that the command may touch. -/
theorem exec_eq_answer (c : Instr) (s : State) : ∃ m t, exec c s = s.answer m t := by
  cases c <;> exact ⟨_, _, rfl⟩

/-- Settles O3: the outcome of every command is a `State.answer`, which leaves a next state and keeps the queue and the hardware. -/
theorem everyCommandLeavesANextState : Obligations.EveryCommandLeavesANextState := by
  intro c s
  obtain ⟨m, t, h⟩ := exec_eq_answer c s
  exact ⟨s.keep m t, h.trans (State.answer_eq m s t), State.keep_pending m s t, State.keep_hw m s t⟩

/-! ### Frames -/

/-- A command keeps the fences that its effect keeps. -/
theorem FencesKept.keep {s u : State} (h : FencesKept s u) (m : Touch) : FencesKept s (s.keep m u) := by
  obtain ⟨hb, hd⟩ := h
  constructor <;> intro k hk <;> rw [State.keep_fence] <;> split_ifs <;> simp_all [FenceMap.join]

/-- Where an effect changes only the parts `n`, so does the state that a command keeps of it, whatever else the command might touch. -/
theorem OnlyIn.keep {n : Touch} {s u : State} (h : OnlyIn n s u) (m : Touch) : OnlyIn n s (s.keep m u) := by
  unfold OnlyIn at h ⊢
  simp +contextual [h, FencesKept.keep, FenceMap.join]

/-- A value stored in a register, with or without an error recorded then, changes only registers and what an error brings about. -/
theorem State.setReg_onlyIn (s : State) (p : Page) (i off v : Nat) : OnlyIn touchTake s (s.setReg p i off v) := by
  simp [OnlyIn, FencesKept, touchTake]

theorem State.setReg_regErr_onlyIn (s : State) (p : Page) (i off v b : Nat) : OnlyIn touchTake s ((s.setReg p i off v).regErr p i b off) := by
  simp [OnlyIn, FencesKept, touchTake, State.regErr]

/-! ### Registers that an error does not change -/

/-- The registers of a page that recording an error may change: ERR_STAT, the first-error capture and the count of fatal errors (R558, R559,
R573). -/
def errOffs : List Nat := [0x20, 0x38, 0x40, 0x48, 0x50, 0x58, 0xB0]

/-- An error leaves every other register of every page as it was. -/
theorem State.raise_reg_off (s : State) (p q : Page) (i j b g x y z o : Nat) (ho : o < 0x1000) (he : o ∉ errOffs) :
    (s.raise p i b g x y z).reg q j o = s.reg q j o := by
  simp only [errOffs, List.mem_cons, List.not_mem_nil, or_false, not_or] at he
  obtain ⟨h20, h38, h40, h48, h50, h58, hB0⟩ := he
  have hadd : ∀ (u : State) (k n : Nat), (u.sbAdd k n).reg q j o = u.reg q j o := fun u k n => State.reg_congr _ _ _ _ _ (State.sbAdd_regs k n u)
  have hset : ∀ (u : State) (off v : Nat), off < 0x1000 → o ≠ off → (u.setReg p i off v).reg q j o = u.reg q j o :=
    fun u off v h1 h2 => State.reg_setReg_off p q i j off o v u h1 ho h2
  simp only [State.raise]
  split <;> split <;> split <;>
    simp [hadd, hset, State.fatal_reg _ q j o ho hB0, State.setErrStat_reg_off p q i j _ o _ ho h20, h38, h40, h48, h50, h58]

/-- No RW field lies in one of those registers. -/
theorem errOffs_no_rw : ∀ p ∈ Page.all, ∀ off ∈ errOffs, (findReg p off).all (fun rk => rk.1.fields.all (fun f => f.acc != .rw)) = true := by
  decide +kernel

theorem Page.mem_all (p : Page) : p ∈ Page.all := by cases p <;> decide

theorem rw_not_errOffs {p : Page} {off k : Nat} {r : RegDesc} {f : RField} (hr : findReg p off = some (r, k)) (hf : f ∈ r.fields)
    (ha : f.acc = .rw) : off ∉ errOffs := by
  intro hm
  have h := errOffs_no_rw p p.mem_all off hm
  rw [hr, Option.all_some, List.all_eq_true] at h
  simpa [ha] using h f hf

/-! ### A write of a register without an action -/

theorem State.Serves.lt_count {s : State} {p : Page} {i : Nat} (h : s.Serves p i) : i < p.count := by
  obtain ⟨-, -, hi, -⟩ := h
  exact hi

/-- A field below bit 64 is read from the low 64 bits. -/
theorem bits_mod_word (v hi lo : Nat) (hlo : lo ≤ hi) (h : hi < 64) : bits (v % 2 ^ 64) hi lo = bits v hi lo := by
  have hsplit : (2 : Nat) ^ 64 = 2 ^ lo * 2 ^ (64 - lo) := by rw [← Nat.pow_add]; congr 1; omega
  rw [bits_eq, bits_eq, hsplit, Nat.mod_mul_right_div_self, Nat.mod_mod_of_dvd _ (Nat.pow_dvd_pow 2 (by omega))]

theorem bits_allOnes_ne_zero (hi lo : Nat) (hlo : lo ≤ hi) (h : hi < 64) : bits (2 ^ 64 - 1) hi lo ≠ 0 := by
  have hbit : (bits (2 ^ 64 - 1) hi lo).testBit 0 = true := by
    rw [bits, Nat.testBit_mod_two_pow, Nat.testBit_shiftRight, Nat.testBit_two_pow_sub_one]
    simp; omega
  intro h0
  rw [h0, Nat.zero_testBit] at hbit
  exact absurd hbit (by decide)

/-- The fields of the tables lie in 64 bits. -/
theorem findReg_field {p : Page} {off k : Nat} {r : RegDesc} {f : RField} (hr : findReg p off = some (r, k)) (hf : f ∈ r.fields) :
    f.lo ≤ f.hi ∧ f.hi < 64 := by
  have h := findReg_fields p off r k hr
  simp only [fieldsOk, Bool.and_eq_true, List.all_eq_true, decide_eq_true_eq] at h
  exact h.1 f hf

/-- A register just stored holds the low 64 bits of the value. -/
theorem State.reg_setReg_mod (s : State) (p : Page) (i off v : Nat) (hi : i < p.count) : (s.setReg p i off v).reg p i off = v % 2 ^ 64 := by
  have hr : regReset p i off % 2 ^ 64 = regReset p i off := Nat.mod_eq_of_lt (regReset_lt p i off hi)
  simp only [State.reg, State.setReg, Sparse.get_set_same, BitVec.toNat_ofNat, Nat.xor_mod_two_pow, hr, Nat.xor_assoc, Nat.xor_self,
    Nat.xor_zero]

/-- A register whose write stores the value of its fields in the register file and does nothing besides. -/
def JustStores (p : Page) (off : Nat) : Prop :=
  ∀ (s : State) (i old new a m : Nat), i < p.count →
    s.programmed p i off = s.reg p i off ∧ s.applyReg p i off old new a m = s.setReg p i off new

/-- The common header's registers but for ERR_STAT: no page gives one an action of its own. -/
theorem justStores_header {p : Page} {off : Nat} (h20 : off ≠ 0x20) (h : off < 0x100) : JustStores p off := by
  intro s i old new a m hi
  cases p
  case die | hud | prf | sw => constructor <;> simp (disch := omega) only [State.programmed, State.applyReg, if_neg]
  case blk | port | sft | coll | stk =>
    constructor <;> simp (disch := omega) only [State.programmed, State.applyReg, State.applyBlk, State.applyPort, State.applySft,
      State.applyColl, if_pos, if_neg]
  all_goals
    obtain rfl : i = 0 := by simpa [Page.count] using hi
    constructor <;> simp (disch := omega) only [State.programmed, State.applyReg, State.applyRef, State.applyClk, State.applySec, State.applyPnt,
      State.applyFab, if_neg]

/-- The registers of the pages' own that have no action. -/
theorem justStores_of_plainReg {p : Page} {off : Nat} (h : plainReg p off = true) : JustStores p off := by
  simp only [plainReg, Bool.and_eq_true, Bool.or_eq_true, bne_iff_ne, decide_eq_true_eq] at h
  obtain ⟨h20, hlt | hown⟩ := h
  · exact justStores_header h20 hlt
  · intro s i old new a m hi
    cases p
    case die | hud | prf | sw => exact ⟨rfl, by simp only [State.applyReg, if_neg h20]⟩
    case stk =>
      rw [bne_iff_ne] at hown
      exact ⟨rfl, by simp only [State.applyReg, if_neg h20, if_neg hown]⟩
    case mctl | sb | pnt =>
      obtain rfl : i = 0 := by simpa [Page.count] using hi
      rw [bne_iff_ne] at hown
      exact ⟨rfl, by simp only [State.applyReg, State.applyPnt, if_neg h20, if_neg hown]⟩
    case hif =>
      obtain rfl : i = 0 := by simpa [Page.count] using hi
      simp only [Bool.or_eq_true, bne_iff_ne, decide_eq_true_eq] at hown
      exact ⟨rfl, by simp (disch := omega) only [State.applyReg, if_neg]⟩
    all_goals exact absurd hown Bool.false_ne_true

theorem justStores_sftTab (table : Nat) (h : table < 16) : JustStores .sft (0x300 + 8 * table) := by
  intro s i old new a m hi
  exact ⟨rfl, by simp (disch := omega) only [State.applyReg, State.applySft, if_neg]⟩

/-- What an RW field keeps where the encoding written is reserved (R14). -/
theorem State.fieldNew_reserved (s : State) (p : Page) (i off d m v old : Nat) (f : RField) (h : f.acc = .rw)
    (hr : s.reserved p i off f (bits v f.hi f.lo) v = true) : s.fieldNew p i off d m v old f = old := by
  simp [State.fieldNew, h, hr]

/-- One field given a reserved encoding is enough for the write to be reported. -/
theorem State.anyReserved_of_mem {s : State} {p : Page} {i off m v : Nat} {fs : List RField} {f : RField} (hf : f ∈ fs) (ha : f.acc = .rw)
    (hn : s.noField p i off f = false) (hc : bits m f.hi f.lo ≠ 0) (hr : s.reserved p i off f (bits v f.hi f.lo) v = true) :
    s.anyReserved p i off m v fs = true := by
  rw [State.anyReserved, List.any_eq_true]
  exact ⟨f, hf, by simp [ha, hn, hc, hr]⟩

/-- A served write of a register that just stores: the register file takes the new fields, and REG_WRITE sets where one was reserved. -/
theorem State.pageWrite_justStores {s : State} {p : Page} {i off data k : Nat} {r : RegDesc} (hs : s.Serves p i) (h8 : off % 8 = 0)
    (ho : off < 0x1000) (hr : findReg p off = some (r, k)) (hj : JustStores p off) :
    ∃ v, (∀ f ∈ r.fields, bits v f.hi f.lo =
        s.fieldNew p i off (data % 2 ^ 64) (2 ^ 64 - 1) (data % 2 ^ 64) (s.fld p i off f.hi f.lo) f) ∧
      s.pageWrite p i off data =
        if s.anyReserved p i off (2 ^ 64 - 1) (data % 2 ^ 64) r.fields then (s.setReg p i off v).regErr p i 0 off
        else s.setReg p i off v := by
  have hi := hs.lt_count
  have hp : s.programmed p i off = s.reg p i off := (hj s i 0 0 0 0 hi).1
  obtain ⟨v, hv, hw⟩ := State.pageWrite_fields s p i off data r k hs ho h8 hr (hp ▸ State.reg_lt s p i off hi)
  rw [hp] at hv
  rw [(hj s i _ v _ _ hi).2] at hw
  exact ⟨v, hv, hw⟩

/-- What such a write does to an RW field that the part has, and what it leaves. -/
theorem State.pageWrite_rwField {s : State} {p : Page} {i off data k : Nat} {r : RegDesc} {f : RField} (hs : s.Serves p i) (h8 : off % 8 = 0)
    (ho : off < 0x1000) (hr : findReg p off = some (r, k)) (hf : f ∈ r.fields) (ha : f.acc = .rw) (hn : s.noField p i off f = false)
    (hj : JustStores p off) :
    let x := bits (data % 2 ^ 64) f.hi f.lo
    let t := s.pageWrite p i off data
    (s.reserved p i off f x (data % 2 ^ 64) = false → t.fld p i off f.hi f.lo = x) ∧
    (s.reserved p i off f x (data % 2 ^ 64) = true → t.fld p i off f.hi f.lo = s.fld p i off f.hi f.lo ∧ t.errSet p i 0) ∧
    OnlyIn touchTake s t := by
  intro x t
  obtain ⟨hlo, h64⟩ := findReg_field hr hf
  have hones := bits_allOnes_ne_zero f.hi f.lo hlo h64
  obtain ⟨v, hv, hw⟩ := State.pageWrite_justStores (data := data) hs h8 ho hr hj
  have hstored : (s.setReg p i off v).fld p i off f.hi f.lo = bits v f.hi f.lo := by
    rw [State.fld, State.reg_setReg_mod s p i off v hs.lt_count, bits_mod_word v _ _ hlo h64]
  have hfld : t.fld p i off f.hi f.lo = bits v f.hi f.lo := by
    rw [← hstored]
    simp only [t, hw]
    split
    · exact congrArg (bits · f.hi f.lo) (State.raise_reg_off _ p p i i 0 0 _ _ _ off ho (rw_not_errOffs hr hf ha))
    · rfl
  refine ⟨fun hres => ?_, fun hres => ⟨?_, ?_⟩, ?_⟩
  · rw [hfld, hv f hf, State.fieldNew_rw s p i off _ _ _ _ f ha hn hones hres]
  · rw [hfld, hv f hf, State.fieldNew_reserved s p i off _ _ _ _ f ha hres]
  · simp only [t, hw, if_pos (State.anyReserved_of_mem hf ha hn hones hres)]
    exact State.raise_errSet p i 0 _ _ _ _ _ (by decide)
  · simp only [t, hw]
    split
    · exact State.setReg_regErr_onlyIn s p i off v 0
    · exact State.setReg_onlyIn s p i off v

/-! ### The commands that write such a register -/

/-- GENERIC_REGISTER_WRITE of a plain register, or one of the rows that R51, R274, R514 and R540 name, at its own register. -/
def WritesPlain (c : Instr) (p : Page) (i off data : Nat) : Prop :=
  (c = .genericRegisterWrite (p.at i + off) 8 data ∧ plainReg p off = true) ∨
    (c = .dieArbWeightWrite i data ∧ p = .die ∧ off = 0x100) ∨
    (∃ table, table < 16 ∧ c = .sftTabWrite i table data ∧ p = .sft ∧ off = 0x300 + 8 * table) ∨
    (∃ die, die < 32 ∧ c = .prfDieWrite die data ∧ p = .prf ∧ off = 0x200 + 8 * die) ∨
    (c = .hifBar2BaseWrite data ∧ p = .hif ∧ off = 0x108)

/-- Each of them is a write of its page, of a register that just stores. -/
theorem WritesPlain.exec_eq {c : Instr} {p : Page} {i off data : Nat} (hi : i < p.count) (h : WritesPlain c p i off data) (s : State) :
    JustStores p off ∧ ∃ m : Touch, m.regs = true ∧ exec c s = s.answer m (s.pageWrite p i off data) := by
  rcases h with ⟨rfl, hp⟩ | ⟨rfl, rfl, rfl⟩ | ⟨table, ht, rfl, rfl, rfl⟩ | ⟨die, hd, rfl, rfl, rfl⟩ | ⟨rfl, rfl, rfl⟩
  case inl =>
    rw [State.pageWrite, if_pos hi]
    exact ⟨justStores_of_plainReg hp, { touchMost with unfence := _, otp := _, host := true }, rfl, rfl⟩
  case inr.inl => exact ⟨justStores_of_plainReg rfl, touchTake, rfl, rfl⟩
  case inr.inr.inl =>
    refine ⟨justStores_sftTab table ht, touchTake, rfl, ?_⟩
    change s.answer touchTake (if table < 16 then _ else s) = _
    rw [if_pos ht]
  case inr.inr.inr.inl =>
    obtain rfl : i = 0 := by simpa [Page.count] using hi
    refine ⟨justStores_of_plainReg (by simp [plainReg]; omega), touchTake, rfl, ?_⟩
    change s.answer touchTake (if die < 32 then _ else s) = _
    rw [if_pos hd]
  case inr.inr.inr.inr =>
    obtain rfl : i = 0 := by simpa [Page.count] using hi
    exact ⟨justStores_of_plainReg rfl, touchTake, rfl, rfl⟩

/-- Settles O19: the page write under the command sets the field, and the command keeps the page write's registers. -/
theorem registerWriteSetsItsFields : Obligations.RegisterWriteSetsItsFields := by
  intro s c p i off data r k f hs h8 ho hr hf ha hn hc x
  obtain ⟨hj, m, hm, he⟩ := WritesPlain.exec_eq hs.lt_count hc s
  obtain ⟨htakes, hkeeps, honly⟩ := State.pageWrite_rwField (data := data) hs h8 ho hr hf ha hn hj
  have hregs : (s.keep m (s.pageWrite p i off data)).regs = (s.pageWrite p i off data).regs := by simp [hm]
  have hfld := State.fld_congr _ _ p i off f.hi f.lo hregs
  refine ⟨s.keep m (s.pageWrite p i off data), he.trans (State.answer_eq ..), fun hx => hfld.trans (htakes hx), fun hx => ?_, honly.keep m⟩
  obtain ⟨hold, herr⟩ := hkeeps hx
  exact ⟨hfld.trans hold, by rwa [State.errSet, State.reg_congr _ _ p i 0x20 hregs]⟩

/-! ### Reads of the common header -/

/-- The registers of the common header that read as they are programmed: ERR_MASK, ERR_SEV, the event counts and SCRATCH (R558). -/
def headerOffs : List Nat := [0x28, 0x30, 0x80, 0x88, 0x90, 0x98, 0xA0, 0xA8, 0xB0, 0xB8, 0xF8]

theorem headerOffs_found : ∀ p ∈ Page.all, ∀ off ∈ headerOffs, (findReg p off).isNone = false := by decide +kernel

/-- Every page shows those as they are programmed. -/
theorem State.regView_header (s : State) (p : Page) (i off : Nat) (hi : i < p.count) (h : off ∈ headerOffs) :
    s.regView p i off = s.reg p i off := by
  have hfound := headerOffs_found p p.mem_all off h
  have hrange : 0x20 < off ∧ off < 0x100 := by simp only [headerOffs, List.mem_cons, List.not_mem_nil, or_false] at h; omega
  obtain ⟨hlow, hhigh⟩ := hrange
  rw [State.regView.eq_def, if_neg (by simp [hfound]), if_neg (by omega), if_neg (by omega), if_neg (by omega)]
  cases p
  case die | blk | port | sft | coll | stk =>
    simp (disch := omega) only [State.viewDie, State.viewBlk, State.viewPort, State.viewSft, State.viewColl, State.viewStk, if_pos, if_neg]
  all_goals
    obtain rfl : i = 0 := by simpa [Page.count] using hi
    simp (disch := omega) only [State.viewRef, State.viewCfg, State.viewPrf, State.viewClk, State.viewSec, State.viewSb, State.viewHud,
      State.viewHif, State.viewPnt, State.viewFab, if_neg]

/-- A read of the common header clears an event count that is read with 8 bytes, and nothing else. -/
theorem State.readEffects_header (s : State) (p : Page) (i off size : Nat) (h : off < 0x100) :
    s.readEffects p i off size = if 0x80 ≤ off ∧ off < 0xC0 ∧ size = 8 then s.setReg p i off 0 else s := by
  cases p
  case blk =>
    rw [State.readEffects]
    split
    · simp (disch := omega) only [State.readEffects.counts, if_neg]
    · rfl
  all_goals simp (disch := omega) only [State.readEffects, State.readEffects.counts, if_neg]

/-- A read of a common header's register on a served page that counts nothing of the cache's. -/
theorem State.bar0Read_served {s : State} {p : Page} {i off size : Nat} (hopen : s.bar0Open = true) (hserved : s.pageServed p i = true)
    (hi : i < p.count) (h : off ∈ headerOffs) (hsize : size = 4 ∨ size = 8) (hcache : p = .stk → off ≠ 0xA8 ∧ off ≠ 0xB0) :
    s.bar0Read (p.at i + off) size =
      (if 0x80 ≤ off ∧ off < 0xC0 ∧ size = 8 then s.setReg p i off 0 else s).readAnswer (halfOf off size (s.reg p i off)) := by
  have hrange : off % 8 = 0 ∧ off < 0x100 := by simp only [headerOffs, List.mem_cons, List.not_mem_nil, or_false] at h; omega
  obtain ⟨h8, hlt⟩ := hrange
  have hlinked : s.linked = true := by
    rw [State.bar0Open, Bool.and_eq_true] at hopen
    exact hopen.1
  have hfits : bar0Fits (p.at i + off) size = true := by
    have := Page.at_mod p i
    simp only [bar0Fits, Bool.and_eq_true, Bool.or_eq_true, beq_iff_eq]
    rcases hsize with rfl | rfl <;> omega
  have hcount : s.cacheCounted p i off = s := by
    rw [State.cacheCounted, if_neg]
    rintro ⟨hp, h1 | h1⟩
    · exact (hcache hp).1 h1
    · exact (hcache hp).2 h1
  have hround : off / 8 * 8 = off := by omega
  simp [State.bar0Read, hlinked, hfits, hopen, pageOf_at p i off hi (by omega), hserved, hround, hcount,
    State.readEffects_header s p i off size hlt, State.regView_header s p i off hi h]

theorem halfOf_word (off v : Nat) (hv : v < 2 ^ 64) : halfOf off 8 v = v := by
  rw [halfOf, if_pos rfl, Nat.mod_eq_of_lt hv]

theorem halfOf_low (off v : Nat) (h8 : off % 8 = 0) : halfOf off 4 v = v % 2 ^ 32 := by
  rw [halfOf, if_neg (by decide), if_neg (by omega), bits_eq, pow_zero, Nat.div_one]

/-- The parts that RC_REGISTER_READ may touch hold whatever a read gives the register file and the answer. -/
theorem exec_rcRegisterRead_eq (s : State) (a size : Nat) :
    exec (.rcRegisterRead a size) s =
      s.answer { touchTake with jnl := true, blocks := true, sft := true, pnt := true, free := true } (s.bar0Read a size) := rfl

/-- Settles O20: the read answers the programmed value, and only an event count read with 8 bytes is stored anew. -/
theorem eventCountClearsWhenRead : Obligations.EventCountClearsWhenRead := by
  intro s p i hopen hserved hi
  refine ⟨?_, fun off hoff => ?_⟩
  · intro k hk hcache off
    have hmem : off ∈ headerOffs := by simp only [off, headerOffs, List.mem_cons, List.not_mem_nil, or_false]; omega
    have hc : p = .stk → off ≠ 0xA8 ∧ off ≠ 0xB0 := fun hp => by have := hcache hp; omega
    have h8 := State.bar0Read_served hopen hserved hi hmem (.inr rfl) hc
    have h4 := State.bar0Read_served hopen hserved hi hmem (.inl rfl) hc
    rw [if_pos (by omega), halfOf_word off _ (State.reg_lt s p i off hi)] at h8
    rw [if_neg (by omega), halfOf_low off _ (by omega)] at h4
    refine ⟨_, _, (exec_rcRegisterRead_eq s _ 8).trans (State.answer_eq ..), ?_, ?_,
      (exec_rcRegisterRead_eq s _ 4).trans (State.answer_eq ..), ?_, ?_⟩
    · rw [h8]; rfl
    · rw [h8]
      exact State.reg_stored s p i off 0 hi (by decide)
    · rw [h4]; rfl
    · rw [h4]; rfl
  · have hmem : off ∈ headerOffs ∧ ¬ (0x80 ≤ off ∧ off < 0xC0) := by
      simp only [headerOffs, List.mem_cons, List.not_mem_nil, or_false] at hoff ⊢; omega
    obtain ⟨hmem, hcount⟩ := hmem
    have h8 := State.bar0Read_served hopen hserved hi hmem (.inr rfl) (fun _ => ⟨fun h => hcount (by omega), fun h => hcount (by omega)⟩)
    rw [if_neg (fun h => hcount ⟨h.1, h.2.1⟩), halfOf_word off _ (State.reg_lt s p i off hi)] at h8
    rw [exec_rcRegisterRead_eq, h8]
    rfl

end Sys2Proof.Machine
end

section
/-! PROOFS. The fences: a command keeps them, unless it is a cause of a full reset and leaves the module in reset. -/

namespace Sys2Proof.Machine

/-! ### Fences -/

/-- An effect that clears fences only where it leaves the module in reset. -/
def FencesUnlessReset (s u : State) : Prop := FencesKept s u ∨ u.ref.inReset = true

theorem FencesKept.of_eq {s u : State} (h : u.fence = s.fence) : FencesKept s u := by
  constructor <;> simp [h]

theorem State.fullReset_inReset (cause : Nat) (s : State) : (s.fullReset cause).ref.inReset = true := rfl

theorem State.resetIf_fences (ok : Bool) (cause : Nat) (s : State) : FencesUnlessReset s (s.resetIf ok cause) := by
  cases ok
  · exact .inl (.of_eq rfl)
  · exact .inr (s.fullReset_inReset cause)

theorem State.powerApplied_fences (s : State) : FencesUnlessReset s s.powerApplied := by
  unfold State.powerApplied
  split
  · exact .inl (.of_eq rfl)
  · exact .inr (State.fullReset_inReset 1 _)

theorem State.resetWritten_fences (cause a : Nat) (s : State) : FencesUnlessReset s (s.resetWritten cause a) := by
  unfold State.resetWritten
  split_ifs
  · exact .inl (.of_eq rfl)
  · exact .inr (s.fullReset_inReset cause)
  · exact .inl (.of_eq (by simp [State.regErr]))

/-- An error recorded for a register write neither clears a fence nor ends a reset. -/
theorem FencesUnlessReset.regErr {s u : State} (h : FencesUnlessReset s u) (p : Page) (i b off : Nat) :
    FencesUnlessReset s (u.regErr p i b off) := by
  unfold State.regErr
  rcases h with ⟨hb, hd⟩ | h
  · exact .inl ⟨by simpa using hb, by simpa using hd⟩
  · refine .inr ?_
    rcases State.raise_ref_cases p i b 0 (regInfo p i off) 0 _ u with hr | hr <;> rw [hr] <;> exact h

theorem State.regWritten_rfReset_fences (s : State) (d m : Nat) : FencesUnlessReset s (s.regWritten .ref 0 0x108 d m) := by
  unfold State.regWritten
  split
  · exact .inl (.of_eq rfl)
  · next r _ _ =>
    have h : FencesUnlessReset s (s.applyReg .ref 0 0x108 (s.programmed .ref 0 0x108)
        (s.fieldsWritten .ref 0 0x108 d m r.fields).1 (d &&& m) m) := s.resetWritten_fences 5 (d &&& m)
    dsimp only
    split
    · exact h.regErr ..
    · exact h

/-- A write anywhere in the eight bytes of RF_RESET. -/
theorem State.bar0Write_rfReset_fences (s : State) (off size data : Nat) (h : off / 8 * 8 = 0x108) :
    FencesUnlessReset s (s.bar0Write off size data) := by
  have hpage : pageOf off = some (.ref, 0, off) := by
    simpa [Page.at, Page.base, Page.stride] using pageOf_at .ref 0 off (by decide) (by omega)
  unfold State.bar0Write
  rw [hpage]
  split
  · exact .inl (.of_eq rfl)
  · dsimp only
    rw [h]
    split
    · exact s.regWritten_rfReset_fences _ _
    · exact .inl (.of_eq rfl)

theorem State.mgmtWritten_rfReset_fences (s : State) (data : Nat) : FencesUnlessReset s (s.mgmtWritten 0x108 data) :=
  s.resetWritten_fences 5 data

/-- A command may clear fences only if it is one of the causes of a full reset, and then only by that reset. -/
theorem exec_fences (c : Instr) (s : State) : ∃ m u, exec c s = s.answer m u ∧
    (m.unfence = true → m.ref = true ∧ c.causesFullReset = true ∧ FencesUnlessReset s u) := by
  cases c
  case powerApply => exact ⟨_, _, rfl, fun _ => ⟨rfl, rfl, s.powerApplied_fences⟩⟩
  case perstAssert | pcieHotReset | pcieLinkDisable | refereeWatchdog | mgmtReset =>
    exact ⟨_, _, rfl, fun _ => ⟨rfl, rfl, s.resetIf_fences _ _⟩⟩
  case rfResetWrite data => exact ⟨_, _, rfl, fun _ => ⟨rfl, rfl, s.bar0Write_rfReset_fences 0x108 8 data rfl⟩⟩
  case mgmtWrite reg data =>
    refine ⟨_, _, rfl, fun h => ?_⟩
    obtain rfl : reg = 0x108 := of_decide_eq_true h
    refine ⟨rfl, rfl, ?_⟩
    split
    · exact s.mgmtWritten_rfReset_fences _
    · exact .inl (.of_eq rfl)
  case genericRegisterWrite off size data =>
    refine ⟨_, _, rfl, fun h => ?_⟩
    have hoff : off / 8 * 8 = 0x108 := of_decide_eq_true h
    exact ⟨rfl, beq_iff_eq.mpr hoff, s.bar0Write_rfReset_fences off size data hoff⟩
  all_goals exact ⟨_, _, rfl, fun h => absurd h Bool.false_ne_true⟩

/-- A command keeps every fence, unless it is a cause of a full reset and leaves the module in reset. -/
theorem exec_keeps_fences {c : Instr} {s t : State} (h : exec c s = .next t) :
    FencesKept s t ∨ (t.ref.inReset = true ∧ c.causesFullReset = true) := by
  obtain ⟨m, u, hc, hm⟩ := exec_fences c s
  rw [hc, State.answer_next_iff] at h
  subst h
  by_cases hu : m.unfence = true
  · obtain ⟨href, hcause, hkept | hreset⟩ := hm hu
    · exact .inl (hkept.keep m)
    · exact .inr ⟨by rw [State.keep_ref, if_pos href]; exact hreset, hcause⟩
  · exact .inl (keep_fences m s u (Bool.eq_false_iff.mpr hu))

/-- Settles O4: a step runs the front command, which keeps the fences or is a full reset; an idle step changes only the time. -/
theorem fenceLastsUntilFullReset : Obligations.FenceLastsUntilFullReset := by
  refine ⟨fun s t hstep => ?_, fun s hlinked => ?_⟩
  · cases hp : s.pending with
    | nil =>
      rw [step, hp, Host.Outcome.next.injEq] at hstep
      subst hstep
      exact .inl (.of_eq rfl)
    | cons c rest =>
      rw [step, hp] at hstep
      exact (exec_keeps_fences hstep).imp id fun ⟨hreset, hcause⟩ => ⟨hreset, c, rest, rfl, hcause⟩
  · have heff : s.resetIf s.linked 3 = s.fullReset 3 := by rw [hlinked]; rfl
    exact ⟨_, State.answer_eq touchReset s (s.resetIf s.linked 3), by rw [heff]; exact ⟨rfl, rfl, rfl⟩⟩

end Sys2Proof.Machine
end

section
/-! PROOFS. The state right after reset, and what an error of fatal severity brings about (R573). -/

namespace Sys2Proof.Machine

/-! ### The state right after reset -/

theorem State.reset_reg (p : Page) (i off : Nat) : State.reset.reg p i off = regReset p i off := Nat.zero_xor _

/-- No register of the event counts has a reset value of its own (R558). -/
theorem regReset_evtCnt (p : Page) (i : Nat) : ∀ k < 8, regReset p i (0x80 + 8 * k) = 0 := by
  have htables : ∀ q ∈ Page.all, ∀ k < 8, regReset q 0 (0x80 + 8 * k) = 0 := by decide +kernel
  intro k hk
  rw [← htables p p.mem_all k hk]
  cases p <;> simp (disch := omega) only [regReset, if_neg]

/-- Settles O6: each part of the state holds its reset value, and a register its table's. -/
theorem resetState : Obligations.ResetState := by
  have hregs : ∀ (p : Page) (i : Nat), State.reset.reg p i 0x20 = 0 ∧ ∀ k < 8, State.reset.reg p i (0x80 + 8 * k) = 0 := fun p i =>
    ⟨(State.reset_reg p i 0x20).trans (regReset_errStat p i), fun k hk => (State.reset_reg p i _).trans (regReset_evtCnt p i k hk)⟩
  have hlimits : State.reset.reg .prf 0 0x100 = 0x03E8_0258_3A98 := by decide +kernel
  have hmem : State.reset.memOk := ⟨rfl, rfl⟩
  exact ⟨rfl, rfl, rfl, rfl, rfl, rfl, rfl, rfl, rfl, hregs, rfl, rfl, rfl, rfl, rfl, fun _ => rfl, rfl, hlimits, rfl, rfl, rfl, rfl, hmem,
    Nat.zero_le _⟩

/-! ### Fatal errors -/

/-- What noting an error leaves: the island, the vectors' masks, the Scorebook's write and every severity. -/
def State.SameForFatal (s u : State) : Prop :=
  u.ref = s.ref ∧ u.hif.msixMask = s.hif.msixMask ∧ u.sb.writing = s.sb.writing ∧ ∀ p i b, u.severity p i b = s.severity p i b

theorem State.severity_congr {s u : State} (h : ∀ p i, u.reg p i 0x30 = s.reg p i 0x30) (p : Page) (i b : Nat) :
    u.severity p i b = s.severity p i b := by
  simp [State.severity, State.fld, h]

theorem State.SameForFatal.refl (s : State) : s.SameForFatal s := ⟨rfl, rfl, rfl, fun _ _ _ => rfl⟩

theorem State.SameForFatal.trans {s u v : State} (h : s.SameForFatal u) (k : u.SameForFatal v) : s.SameForFatal v := by
  obtain ⟨h1, h2, h3, h4⟩ := h
  obtain ⟨k1, k2, k3, k4⟩ := k
  exact ⟨k1.trans h1, k2.trans h2, k3.trans h3, fun p i b => (k4 p i b).trans (h4 p i b)⟩

theorem State.SameForFatal.setReg (s : State) (p : Page) (i off v : Nat) (ho : off < 0x1000) (h30 : off ≠ 0x30) :
    s.SameForFatal (s.setReg p i off v) :=
  ⟨rfl, rfl, rfl, State.severity_congr fun q j => State.reg_setReg_off p q i j off 0x30 v s ho (by decide) h30.symm⟩

theorem State.SameForFatal.setErrStat (s : State) (p : Page) (i v : Nat) : s.SameForFatal (s.setErrStat p i v) :=
  ⟨State.setErrStat_ref .., State.setErrStat_hif_msixMask .., by rw [State.setErrStat_sb],
    State.severity_congr fun q j => State.setErrStat_reg_off p q i j v 0x30 s (by decide) (by decide)⟩

theorem State.SameForFatal.sbAdd (s : State) (k n : Nat) : s.SameForFatal (s.sbAdd k n) :=
  ⟨rfl, rfl, rfl, State.severity_congr fun _ _ => rfl⟩

/-- The first error of a page, captured with its tag and detail (R559). -/
def State.captured (p : Page) (i b tag i0 i1 i2 : Nat) (s : State) : State :=
  if bitOn (s.reg p i 0x38) 63 then s
  else ((((s.setReg p i 0x38 (2 ^ 63 + b)).setReg p i 0x40 tag).setReg p i 0x48 i0).setReg p i 0x50 i1).setReg p i 0x58 i2

/-- An error counted in the Scorebook's items of its bit and of its level (R593). -/
def State.counted (p : Page) (b : Nat) (s : State) : State :=
  let t := s.sbAdd (0x1000 + 0x20 * p.type + b) 1
  match levelItem p b with | some k => t.sbAdd k 1 | none => t

/-- An error noted: captured, its bit set, and counted. -/
def State.noted (p : Page) (i b tag i0 i1 i2 : Nat) (s : State) : State :=
  let t := s.captured p i b tag i0 i1 i2
  (t.setErrStat p i (setBit (t.reg p i 0x20) b)).counted p b

theorem State.raise_eq (s : State) (p : Page) (i b tag i0 i1 i2 : Nat) :
    s.raise p i b tag i0 i1 i2 =
      if (s.noted p i b tag i0 i1 i2).severity p i b == 2 then ((s.noted p i b tag i0 i1 i2).sbAdd 3 1).fatal else s.noted p i b tag i0 i1 i2 :=
  rfl

theorem State.SameForFatal.captured (s : State) (p : Page) (i b tag i0 i1 i2 : Nat) : s.SameForFatal (s.captured p i b tag i0 i1 i2) := by
  unfold State.captured
  split
  · exact .refl s
  · refine ((((State.SameForFatal.setReg s _ _ _ _ ?_ ?_).trans (.setReg _ _ _ _ _ ?_ ?_)).trans (.setReg _ _ _ _ _ ?_ ?_)).trans
      (.setReg _ _ _ _ _ ?_ ?_)).trans (.setReg _ _ _ _ _ ?_ ?_) <;> decide

theorem State.SameForFatal.counted (s : State) (p : Page) (b : Nat) : s.SameForFatal (s.counted p b) := by
  unfold State.counted
  dsimp only
  split
  · exact (State.SameForFatal.sbAdd s _ 1).trans (.sbAdd _ _ 1)
  · exact .sbAdd s _ 1

theorem State.SameForFatal.noted (s : State) (p : Page) (i b tag i0 i1 i2 : Nat) : s.SameForFatal (s.noted p i b tag i0 i1 i2) :=
  ((State.SameForFatal.captured s p i b tag i0 i1 i2).trans (.setErrStat _ p i _)).trans (.counted _ p b)

/-- An error whose severity is fatal is noted, counted as fatal (R593), and acts as R573 says. -/
theorem State.raise_fatal (s : State) (p : Page) (i b tag i0 i1 i2 : Nat) (h : s.severity p i b = 2) :
    s.raise p i b tag i0 i1 i2 = ((s.noted p i b tag i0 i1 i2).sbAdd 3 1).fatal := by
  obtain ⟨-, -, -, hsev⟩ := State.SameForFatal.noted s p i b tag i0 i1 i2
  rw [State.raise_eq, hsev, h]
  rfl

/-- An error of another severity is noted. -/
theorem State.raise_notFatal (s : State) (p : Page) (i b tag i0 i1 i2 : Nat) (h : s.severity p i b ≠ 2) :
    s.raise p i b tag i0 i1 i2 = s.noted p i b tag i0 i1 i2 := by
  obtain ⟨-, -, -, hsev⟩ := State.SameForFatal.noted s p i b tag i0 i1 i2
  rw [State.raise_eq, hsev, if_neg (by simpa using h)]

theorem State.sbRequest_writing (s : State) : s.sbRequest.sb.writing ≠ none ∧ (s.sb.writing ≠ none → s.sbRequest.sb.again = true) := by
  unfold State.sbRequest
  cases hw : s.sb.writing <;> simp [hw]

theorem State.sendVec_delivers (v : Nat) (s : State) :
    if s.ref.busMaster && s.hif.msixMask.num v == 1 then v ∈ (s.sendVec v).out.msix else v ∈ (s.sendVec v).hif.msixPba := by
  unfold State.sendVec
  split
  · simp
  · simp only [addTo]; split <;> simp_all

/-- What a fatal error brings about (R573). -/
theorem State.fatal_effect (s : State) :
    s.fatal.ref = { s.ref with faultN := true, faulted := true } ∧
    (if s.ref.busMaster && s.hif.msixMask.num 0 == 1 then 0 ∈ s.fatal.out.msix else 0 ∈ s.fatal.hif.msixPba) ∧
    s.fatal.sb.writing ≠ none ∧ (s.sb.writing ≠ none → s.fatal.sb.again = true) := by
  refine ⟨by simp [State.fatal], ?_, ?_⟩
  · have h := State.sendVec_delivers 0 { s with ref.faultN := true, ref.faulted := true }
    simpa [State.fatal] using h
  · have h := State.sbRequest_writing
      ((({ s with ref.faultN := true, ref.faulted := true } : State).sendVec 0 |>.sbAdd 0x0008 1 |>.evtAdd .ref 0 6 1))
    simpa [State.fatal, State.sbAdd] using h

/-- Settles O22: an error is noted, which leaves the island and every unit's data, and a fatal one then acts as R573 says. -/
theorem fatalErrorStopsNewWork : Obligations.FatalErrorStopsNewWork := by
  intro s p i b tag i0 i1 i2 _
  refine ⟨fun hsev => ?_, fun hsev => ?_, ?_⟩
  · obtain ⟨href, hmask, hwriting, -⟩ := (State.SameForFatal.noted s p i b tag i0 i1 i2).trans (.sbAdd _ 3 1)
    have h := ((s.noted p i b tag i0 i1 i2).sbAdd 3 1).fatal_effect
    rwa [href, hmask, hwriting, ← s.raise_fatal p i b tag i0 i1 i2 hsev] at h
  · obtain ⟨href, -, -, -⟩ := State.SameForFatal.noted s p i b tag i0 i1 i2
    rw [s.raise_notFatal p i b tag i0 i1 i2 hsev, href]
  · simp [OnlyIn, FencesKept]

end Sys2Proof.Machine
end

section
/-! PROOFS. RUN: refused by the first check of R44 that fails, and otherwise queued on every target. -/

namespace Sys2Proof.Machine

/-! ### RUN refused -/

theorem exec_run_eq (s : State) : exec .run s = s.answer { touchTake with blocks := true } s.runCmd := rfl

section run
variable {s : State} {e : WinEntry} {rest : List WinEntry}

/-- A well-formed RUN at the front of the window is executed there. -/
theorem State.runCmd_front (h : s.Fronts e rest) (hop : e.opcode = 0x10) (hok : e.runOk = true) :
    s.runCmd = (match s.runRefused e with
      | some 0x0302 =>
        (({ s with hif.window := rest } : State).raise .prf 0 2 e.tag
          (0xFF * 2 ^ 56 + s.runCharge e.entryOff e.estW / chargeUnit % 2 ^ 24) 0 0).finishEntry e 0x0302 0
      | some st => ({ s with hif.window := rest } : State).finishEntry e st 0
      | none => ({ s with hif.window := rest } : State).acceptRun e) :=
  State.take_runs h (beq_iff_eq.mpr hop) hok rfl

/-- A RUN refused by another check than that of the INLINE reserve completes with the check's STATUS, and nothing else changes. -/
theorem exec_run_refused (h : s.Offers e rest) (hop : e.opcode = 0x10) (hok : e.runOk = true) {st : Nat} (hst : st ≠ 0x0302)
    (href : s.runRefused e = some st) : exec .run s = .next (s.ended e rest st 0) := by
  have hcmd : s.runCmd = s.ended e rest st 0 := by
    rw [State.runCmd_front h.1 hop hok, href, ← State.finishEntry_eq st 0 h.2]
    split
    · next heq => exact absurd (Option.some.inj heq) hst
    · next heq => rw [Option.some.inj heq]
    · next heq => exact absurd heq (Option.some_ne_none st)
  rw [exec_run_eq, hcmd]
  rfl

/-- The placement named is LIVE (R44). -/
def State.runKnown (s : State) (e : WinEntry) : Prop := s.place.pstate = psLive ∧ e.op 0x10 8 = s.place.id

/-- The grade exposes every block index listed (R44, R47). -/
def State.runPresent (s : State) (e : WinEntry) : Prop := ∀ t ∈ e.listed, t.2 < s.exposed

/-- Every target listed lies within DIE_MASK and SHAPE_BLOCKS (R44). -/
def State.runPlaced (s : State) (e : WinEntry) : Prop :=
  ∀ t ∈ e.listed, s.place.dieMask.testBit t.1 = true ∧ t.2 < s.place.shapeBlocks

theorem State.runKnown_iff : (!s.live || e.op 0x10 8 != s.place.id) = false ↔ s.runKnown e := by
  simp [State.runKnown, State.live]

theorem State.runPresent_iff : e.listed.any (fun t => decide (s.exposed ≤ t.2)) = false ↔ s.runPresent e := by
  simp [State.runPresent]

theorem State.runPlaced_iff :
    e.listed.any (fun t => !bitOn s.place.dieMask t.1 || decide (s.place.shapeBlocks ≤ t.2)) = false ↔ s.runPlaced e := by
  simp [State.runPlaced, bitOn]

theorem State.runRefused_unknown (hk : ¬ s.runKnown e) : s.runRefused e = some stNoPlacement := by
  rw [← State.runKnown_iff, Bool.not_eq_false] at hk
  rw [State.runRefused, if_pos hk]

theorem State.runRefused_absent (hk : s.runKnown e) (hall : e.runAll = false) (hp : ¬ s.runPresent e) : s.runRefused e = some 0x0241 := by
  rw [← State.runKnown_iff] at hk
  rw [← State.runPresent_iff, Bool.not_eq_false] at hp
  simp [State.runRefused, hk, hall, hp]

theorem State.runRefused_misplaced (hk : s.runKnown e) (hall : e.runAll = false) (hp : s.runPresent e) (hl : ¬ s.runPlaced e) :
    s.runRefused e = some 0x0242 := by
  rw [← State.runKnown_iff] at hk
  rw [← State.runPresent_iff] at hp
  rw [← State.runPlaced_iff, Bool.not_eq_false] at hl
  simp [State.runRefused, hk, hall, hp, hl]

/-- A RUN past the first three checks of R44. -/
theorem State.runRefused_placed (hk : s.runKnown e) (hl : e.runAll = false → s.runPresent e ∧ s.runPlaced e) :
    s.runRefused e =
      if (s.runTargets e).any (fun t => s.fencedBlock t.2) then some 0x0243
      else if e.wen && !s.waitUsed e then some stBadTarget
      else if e.wen && s.waitState e.cond == .abandoned then some stAbandoned
      else if e.cls = 0 ∧ s.prf.inlineW * chargeUnit < s.runCharge e.entryOff e.estW + s.runningCharge (· == 0) then some 0x0302
      else none := by
  rw [← State.runKnown_iff] at hk
  rw [← State.runPresent_iff, ← State.runPlaced_iff] at hl
  cases hall : e.runAll
  · obtain ⟨hp, hpl⟩ := hl hall
    simp only [State.runRefused, hk, hall, hp, hpl, Bool.and_false, Bool.false_eq_true, if_false]
  · simp only [State.runRefused, hk, hall, Bool.not_true, Bool.false_and, Bool.false_eq_true, if_false]

theorem State.runRefused_fenced (hk : s.runKnown e) (hl : e.runAll = false → s.runPresent e ∧ s.runPlaced e)
    (hf : ∃ t ∈ s.runTargets e, s.fencedBlock t.2 = true) : s.runRefused e = some 0x0243 := by
  rw [State.runRefused_placed hk hl, if_pos (List.any_eq_true.mpr hf)]

theorem State.runTargets_listed (hall : e.runAll = false) : s.runTargets e = e.listed.map (fun t =>
    (t.1 * s.place.shapeBlocks + t.2, (s.physOf (t.1 * s.place.shapeBlocks + t.2)).getD 0)) := by
  simp [State.runTargets, hall]

end run

/-- Settles O12: a RUN that the first check to fail refuses ends with that check's STATUS. -/
theorem runIsRefusedInTheOrderOfTheChecks : Obligations.RunIsRefusedInTheOrderOfTheChecks := by
  intro s e rest h hop hok hall known present placed block
  refine ⟨fun hk => ?_, fun hk hp => ?_, fun hk hp hl => ?_, fun hk hp hl ⟨t, ht, hf⟩ => ?_⟩
  · exact exec_run_refused h hop hok (by decide) (State.runRefused_unknown hk)
  · exact exec_run_refused h hop hok (by decide) (State.runRefused_absent hk hall hp)
  · exact exec_run_refused h hop hok (by decide) (State.runRefused_misplaced hk hall hp hl)
  · refine exec_run_refused h hop hok (by decide) (State.runRefused_fenced hk (fun _ => ⟨hp, hl⟩) ?_)
    rw [State.runTargets_listed hall]
    exact ⟨_, List.mem_map_of_mem ht, hf⟩

/-! ### RUN accepted -/

/-- A request put at the back of a block's run queue (R195). -/
def Block.enqueue (req : RunReq) (b : Block) : Block := { b with runq := b.runq ++ [req] }

/-- A request put at the back of the run queue of each block of a list. -/
def State.enqueueAll (req : RunReq) (bs : List Nat) (s : State) : State := bs.foldl (fun s b => s.onBlock b (Block.enqueue req)) s

theorem State.enqueueAll_cons (req : RunReq) (b : Nat) (bs : List Nat) (s : State) :
    s.enqueueAll req (b :: bs) = (s.onBlock b (Block.enqueue req)).enqueueAll req bs := rfl

theorem State.enqueueAll_frame (req : RunReq) (bs : List Nat) (s : State) :
    s.enqueueAll req bs = { s with blocks := (s.enqueueAll req bs).blocks } := by
  induction bs generalizing s with
  | nil => rfl
  | cons b bs ih => rw [State.enqueueAll_cons, ih]; rfl

theorem State.block_onBlock (s : State) (b x : Nat) (f : Block → Block) :
    (s.onBlock b f).block x = if x = b then f (s.block b) else s.block x := by
  unfold State.onBlock
  split
  · next hx => rw [hx, State.block_setBlock]
  · next hx => rw [State.block_setBlock_other _ _ _ _ hx]

/-- Each block has one more request for each time the list names it. -/
theorem State.enqueueAll_block (req : RunReq) (bs : List Nat) (s : State) (x : Nat) :
    (s.enqueueAll req bs).block x = { s.block x with runq := (s.block x).runq ++ List.replicate (bs.count x) req } := by
  induction bs generalizing s with
  | nil => simp [State.enqueueAll]
  | cons b bs ih =>
    rw [State.enqueueAll_cons, ih, State.block_onBlock]
    by_cases hx : x = b
    · subst hx
      simp [Block.enqueue, List.replicate_succ]
    · rw [if_neg hx, List.count_cons_of_ne (Ne.symm hx)]

section run
variable {s : State} {e : WinEntry} {rest : List WinEntry}

/-- The request that a RUN puts in its targets' queues. -/
def WinEntry.runReq (e : WinEntry) (now : Nat) : RunReq :=
  { seq := some e.seq, tag := e.tag, entry := e.entryOff, chk := bitOn e.rflags 0, dense := bitOn e.rflags 1,
    stepSet := if e.stepSet then some (e.op 0x18 8) else none, cls := e.cls, estW := e.estW, isNew := now }

/-- A RUN as it is held while it is open. -/
def State.runOpen (s : State) (e : WinEntry) : OpenCmd :=
  { e.toOpen with
    wait := e.cond, targets := s.runTargets e, all := s.runTargets e, first := ((s.runTargets e).map Prod.fst).headD 0, cls := e.cls,
    entryOff := e.entryOff, estW := e.estW, since := s.time.now }

theorem State.acceptRun_none (h : s.runTargets e = []) : s.acceptRun e = s.finishEntry e 0 0 := by
  simp [State.acceptRun, h]

theorem State.acceptRun_queues (h : s.runTargets e ≠ []) :
    s.acceptRun e = State.enqueueAll (e.runReq s.time.now) ((s.runTargets e).map Prod.snd)
      { s with hif.opened := s.hif.opened ++ [s.runOpen e] } := by
  rw [State.acceptRun, if_neg (by simpa using h), State.enqueueAll, List.foldl_map]
  rfl

/-- A RUN without a wait condition, of another class than INLINE, with its targets as R44 asks, is not refused. -/
theorem State.runRefused_none (hk : s.runKnown e) (hl : e.runAll = false → s.runPresent e ∧ s.runPlaced e)
    (hf : ∀ t ∈ s.runTargets e, s.fencedBlock t.2 = false) (hwen : e.wen = false) (hcls : e.cls ≠ 0) : s.runRefused e = none := by
  have hany : (s.runTargets e).any (fun t => s.fencedBlock t.2) = false := by simpa using hf
  simp [State.runRefused_placed hk hl, hany, hwen, hcls]

end run

/-- Settles O13: the RUN passes the checks; with no target it completes, and otherwise it opens and its request is queued on every target. -/
theorem runAcceptedQueuesOnEveryTarget : Obligations.RunAcceptedQueuesOnEveryTarget := by
  intro s e rest h hop hok hwen hcls hlive hid hlisted hfence
  have hplaced : e.runAll = false → s.runPresent e ∧ s.runPlaced e := fun hall =>
    ⟨fun t ht => (hlisted hall t ht).1, fun t ht => (hlisted hall t ht).2⟩
  have hnone := State.runRefused_none ⟨hlive, hid⟩ hplaced hfence hwen hcls
  have hcmd : s.runCmd = ({ s with hif.window := rest } : State).acceptRun e := by rw [State.runCmd_front h.1 hop hok, hnone]
  refine ⟨fun hnil => ?_, fun hcons => ?_⟩
  · rw [exec_run_eq, hcmd, State.acceptRun_none (s := { s with hif.window := rest }) hnil, State.finishEntry_eq 0 0 h.2]
    rfl
  · have hcmd := hcmd.trans (State.acceptRun_queues hcons)
    have hframe := hcmd.trans (State.enqueueAll_frame _ _ _)
    refine ⟨s.runCmd, s.runOpen e, e.runReq s.time.now, ?_, ?_, rfl, rfl, rfl, rfl, rfl, rfl, rfl, rfl, rfl, rfl, rfl, rfl, fun b => ?_, ?_⟩
    · rw [exec_run_eq, State.answer_eq, hframe]
      rfl
    · rw [hframe]
      rfl
    · rw [hcmd, State.enqueueAll_block]
      rfl
    · rw [hframe]

end Sys2Proof.Machine
end

section
/-! PROOFS. PLACE_RETIRE: what it leaves when it starts, waits and ends (R39). -/

namespace Sys2Proof.Machine

/-! ### What the end of a retire leaves -/

/-- What a retire leaves of the blocks: their beat counters (R81). -/
def State.bareBlocks (s : State) : Sparse Block :=
  s.blocks.filterMap (fun c => if c.2.beats = 0 then none else some (c.1, c.2.bare))

/-- An EMPTY placement, of which only what outlives a retire is left (R39, R48, R621). -/
def Place.emptied (x : Place) : Place :=
  { x with
    pstate := psEmpty, strict := x.req, retireSeq := none, id := 0, progDig := [], wgtDig := [], map := [], pins := [], dieMask := 0
    shapeBlocks := 0, progress := 0 }

theorem State.emptyPlacement_eq (s : State) : s.emptyPlacement =
    { s with blocks := s.bareBlocks, hud := [], hif := { s.hif with inflight := [] }, place := s.place.emptied } := rfl

/-- With a place in the buffer, an open command's completion waits for its ring and the command is open no more. -/
theorem State.finishOpen_room (s : State) (c : OpenCmd) (st r0 r1 nf : Nat) (h : s.room c.ring = true) :
    s.finishOpen c st r0 r1 nf =
      { s with hif := { s.hif with opened := s.hif.opened.filter (fun o => o.seq != c.seq), done := s.hif.done ++ [c.compl st r0 r1 nf] } } :=
  State.finishIn_room _ _ (c.compl st r0 r1 nf) h

theorem State.finishRetire_idle (s : State) (q : Nat) (c : OpenCmd) (hq : s.place.retireSeq = some q) (hidle : s.placementIdle = true)
    (hc : s.openCmd q = some c) : s.finishRetire = s.emptyPlacement.finishOpen c 0 0 0 0 := by
  simp [State.finishRetire, hq, hidle, hc]

theorem State.finishRetire_busy (s : State) (hidle : s.placementIdle = false) : s.finishRetire = s := by
  unfold State.finishRetire
  split
  · rfl
  · rw [hidle, if_pos (by rfl)]

/-! ### How a retire starts -/

/-- The blocks of a placement that leaves LIVE. -/
def State.leftBlocks (s : State) : Sparse Block :=
  s.blocks.filterMap (fun c => if c.2.leaveLive = {} then none else some (c.1, c.2.leaveLive))

/-- With no command that waits on a counter, the start of a retire ends no command. -/
theorem State.startRetire_eq (s : State) (e : WinEntry) (h : s.waitingSeqs = []) : s.startRetire e =
    { s with
      place := { s.place with pstate := psRetiring, loadTag := e.tag, retireSeq := some e.seq }
      prf := { s.prf with learned := [] }
      hif := { s.hif with opened := s.hif.opened ++ [e.toOpen] }
      hud := [], blocks := s.leftBlocks } := by
  rw [State.startRetire, h]
  rfl

/-- Nothing is under way in a block, fenced or not (R39). -/
def Block.idleIn (fenced : Bool) (b : Block) : Bool :=
  b.dma.flight.isEmpty && (fenced || (b.run.isNone && b.runq.isEmpty && b.aud.flight.isEmpty))

theorem State.placementIdle_eq (s : State) : s.placementIdle = s.blocks.all (fun c => c.2.idleIn (s.fencedBlock c.1)) := rfl

theorem Block.idleIn_leaveLive (fenced : Bool) (b : Block) : b.leaveLive.idleIn fenced = b.idleIn fenced := rfl

theorem Block.idleIn_of_leaveLive_default (fenced : Bool) (b : Block) (h : b.leaveLive = {}) : b.idleIn fenced = true := by
  rw [← Block.idleIn_leaveLive, h]
  cases fenced <;> rfl

/-- The start of a retire neither starts nor ends what is under way. -/
theorem State.placementIdle_startRetire (s : State) (e : WinEntry) (h : s.waitingSeqs = []) :
    (s.startRetire e).placementIdle = s.placementIdle := by
  rw [State.placementIdle_eq, State.placementIdle_eq, State.startRetire_eq s e h]
  simp only [State.leftBlocks, List.all_filterMap]
  congr 1
  funext c
  by_cases hc : c.2.leaveLive = {}
  · simp only [if_pos hc, Block.idleIn_of_leaveLive_default _ _ hc]
  · simp only [if_neg hc]
    exact Block.idleIn_leaveLive _ c.2

/-- No counter of a block that left LIVE is ABANDONED (R211). -/
theorem Block.leaveLive_abandoned (b : Block) : ∀ k ∈ b.leaveLive.cnts, k.2.abandoned = none := by
  intro k hk
  obtain ⟨c, -, hc⟩ := List.mem_filterMap.mp hk
  dsimp only at hc
  split_ifs at hc
  obtain rfl := Option.some.inj hc
  rfl

theorem State.leftBlocks_abandoned (s : State) : ∀ c ∈ s.leftBlocks, ∀ k ∈ c.2.cnts, k.2.abandoned = none := by
  intro c hc
  obtain ⟨b, -, hb⟩ := List.mem_filterMap.mp hc
  split_ifs at hb
  obtain rfl := Option.some.inj hb
  exact b.2.leaveLive_abandoned

theorem Block.leaveLive_beats (b : Block) : b.leaveLive.beats = b.beats := rfl

/-- What a retire leaves of a block does not depend on how the block left LIVE. -/
theorem State.bareBlocks_leftBlocks (s t : State) (h : t.blocks = s.leftBlocks) : t.bareBlocks = s.bareBlocks := by
  rw [State.bareBlocks, h, State.leftBlocks, List.filterMap_filterMap]
  refine List.filterMap_congr fun c _ => ?_
  by_cases hc : c.2.leaveLive = {}
  · have hbeats : c.2.beats = 0 := by rw [← Block.leaveLive_beats, hc]
    simp only [if_pos hc, if_pos hbeats, Option.bind_none]
  · simp only [if_neg hc, Option.bind_some, Block.leaveLive_beats]
    rfl

/-- A retire that starts with nothing under way ends with its start. -/
theorem State.retire_atOnce (s : State) (e : WinEntry) (hopen : s.hif.opened = []) (hwaits : s.hif.waits = [])
    (hidle : s.placementIdle = true) (hroom : s.room e.ringByte = true) :
    (s.startRetire e).finishRetire = { s with
      blocks := s.bareBlocks, hud := [], prf := { s.prf with learned := [] }, place := { s.place.emptied with loadTag := e.tag }
      hif := { s.hif with opened := s.hif.opened, inflight := [], done := s.hif.done ++ [e.compl 0 0] } } := by
  have hseqs : s.waitingSeqs = [] := by simp [State.waitingSeqs, hopen, hwaits]
  have hstart := State.startRetire_eq s e hseqs
  have hbare : (s.startRetire e).bareBlocks = s.bareBlocks := State.bareBlocks_leftBlocks _ _ (by rw [hstart])
  have hopened : (s.startRetire e).openCmd e.seq = some e.toOpen := by
    rw [hstart, State.openCmd, hopen]
    exact List.find?_cons_of_pos (beq_self_eq_true e.seq)
  have hclosed : (s.hif.opened ++ [e.toOpen]).filter (fun o => o.seq != e.toOpen.seq) = s.hif.opened := by simp [hopen]
  rw [State.finishRetire_idle _ e.seq e.toOpen (by rw [hstart]) ((State.placementIdle_startRetire s e hseqs).trans hidle) hopened,
    State.finishOpen_room _ _ _ _ _ _ (by rw [hstart]; exact hroom), State.emptyPlacement_eq, hbare, hstart]
  dsimp only
  rw [hclosed]
  rfl

/-! ### PLACE_RETIRE -/

theorem exec_placeRetire_eq (s : State) : exec .placeRetire s =
    s.answer { hif := true, ref := true, regs := true, out := true, sb := true, place := true, blocks := true, hud := true, prf := true }
      s.placeRetire := rfl

section retire
variable {s : State} {e : WinEntry} {rest : List WinEntry}

/-- A PLACE_RETIRE taken while none is under way. -/
theorem State.placeRetire_front (h : s.Fronts e rest) (hop : e.opcode = 0x12) (hz : e.zeros 0x10 0x40 = true)
    (hnone : s.place.retireSeq = none) :
    s.placeRetire =
      if s.place.pstate = psEmpty then
        State.finishEntry e 0 0 { ({ s with hif.window := rest } : State) with place := { s.place with loadTag := e.tag } }
      else (({ s with hif.window := rest } : State).startRetire e).finishRetire := by
  rw [State.placeRetire, hnone, if_neg (by simp)]
  refine State.take_runs h (beq_iff_eq.mpr hop) hz ?_
  simp [hnone]

/-- In EMPTY only the tag is taken. -/
theorem State.placeRetire_empty (h : s.Offers e rest) (hop : e.opcode = 0x12) (hz : e.zeros 0x10 0x40 = true)
    (hnone : s.place.retireSeq = none) (hst : s.place.pstate = psEmpty) :
    s.placeRetire = { s.ended e rest 0 0 with place := { s.place with loadTag := e.tag } } := by
  rw [State.placeRetire_front h.1 hop hz hnone, if_pos hst, State.finishEntry, State.finishIn_room _ _ _ (by exact h.2)]
  rfl

/-- With nothing under way, the retire ends at once. -/
theorem State.placeRetire_idle (h : s.Offers e rest) (hop : e.opcode = 0x12) (hz : e.zeros 0x10 0x40 = true)
    (hnone : s.place.retireSeq = none) (hst : s.place.pstate ≠ psEmpty) (hopen : s.hif.opened = []) (hwaits : s.hif.waits = [])
    (hidle : s.placementIdle = true) :
    s.placeRetire = { s.ended e rest 0 0 with
      blocks := s.bareBlocks, hud := []
      hif := { (s.ended e rest 0 0).hif with inflight := [] }
      prf := { s.prf with learned := [] }
      place := { s.place.emptied with loadTag := e.tag } } := by
  rw [State.placeRetire_front h.1 hop hz hnone, if_neg hst, State.retire_atOnce { s with hif.window := rest } e hopen hwaits hidle (by exact h.2)]
  rfl

/-- With something under way, the retire only starts. -/
theorem State.placeRetire_busy (h : s.Fronts e rest) (hop : e.opcode = 0x12) (hz : e.zeros 0x10 0x40 = true)
    (hnone : s.place.retireSeq = none) (hst : s.place.pstate ≠ psEmpty) (hseqs : s.waitingSeqs = []) (hidle : s.placementIdle = false) :
    s.placeRetire = { s with
      place := { s.place with pstate := psRetiring, loadTag := e.tag, retireSeq := some e.seq }
      prf := { s.prf with learned := [] }
      hif := { s.hif with window := rest, opened := s.hif.opened ++ [e.toOpen] }
      hud := [], blocks := s.leftBlocks } := by
  have hseqs' : ({ s with hif.window := rest } : State).waitingSeqs = [] := hseqs
  rw [State.placeRetire_front h hop hz hnone, if_neg hst,
    State.finishRetire_busy _ ((State.placementIdle_startRetire _ e hseqs').trans hidle), State.startRetire_eq _ e hseqs']
  rfl

/-- A further PLACE_RETIRE waits in its queue (R544). -/
theorem State.placeRetire_further (h : s.Fronts e rest) (hop : e.opcode = 0x12) (hz : e.zeros 0x10 0x40 = true)
    (hsome : s.place.retireSeq ≠ none) (hidle : s.placementIdle = false) :
    s.placeRetire = { s with hif := { s.hif with window := rest, parked := [e] } } := by
  obtain ⟨-, -, -, -, -, hparked, -⟩ := id h
  have hwaits := State.take_waits (chosen := fun e => e.opcode == 0x12) (formatOk := fun e => e.zeros 0x10 0x40)
    (waits := fun s _ => s.place.retireSeq.isSome) (body := fun e s =>
      if s.place.pstate = psEmpty then ({ s with place.loadTag := e.tag } : State).finishEntry e 0 0
      else (s.startRetire e).finishRetire) h (beq_iff_eq.mpr hop) hz (Option.isSome_iff_ne_none.mpr hsome)
  rw [State.placeRetire, hidle, Bool.and_false, if_neg Bool.false_ne_true, hwaits, State.park, hparked]
  rfl

end retire

/-- A retire under way ends with the first PLACE_RETIRE after nothing of it is left under way. -/
theorem State.placeRetire_ends (s : State) (q : Nat) (c : OpenCmd) (hq : s.place.retireSeq = some q) (hidle : s.placementIdle = true)
    (hroom : s.hif.done.length < 4096) (hc : s.openCmd q = some c) :
    s.placeRetire = { s with
      blocks := s.bareBlocks, hud := [], place := s.place.emptied
      hif := { s.hif with
        inflight := [], opened := s.hif.opened.filter (fun o => o.seq != c.seq), done := s.hif.done ++ [c.compl 0 0 0 0] } } := by
  have hr : s.emptyPlacement.room c.ring = true := by
    simp [State.room, State.emptyPlacement_eq, hroom]
  rw [State.placeRetire, hq, hidle, if_pos (by rfl), State.finishRetire_idle s q c hq hidle hc, State.finishOpen_room _ _ _ _ _ _ hr,
    State.emptyPlacement_eq]

/-- Settles O43: the retire is taken in EMPTY, ends at once, starts, waits or ends, as what is under way decides. -/
theorem placeRetireEmptiesThePlacement : Obligations.PlaceRetireEmptiesThePlacement := by
  refine ⟨fun s e rest h hop hz hnone => ⟨fun hst => ?_, fun hst hopen hwaits hidle => ?_, fun hst hseqs hidle => ?_⟩,
    fun s e rest h hop hz hsome hidle => ?_, fun s q c hq hidle hroom hc => ?_⟩
  · rw [exec_placeRetire_eq, State.placeRetire_empty h hop hz hnone hst]
    rfl
  · rw [exec_placeRetire_eq, State.placeRetire_idle h hop hz hnone hst hopen hwaits hidle, Place.emptied, ← hnone]
    rfl
  · have hbusy := State.placeRetire_busy h.1 hop hz hnone hst hseqs hidle
    refine ⟨s.keep _ s.placeRetire, rfl, ?_⟩
    rw [hbusy]
    refine ⟨rfl, rfl, rfl, s.leftBlocks_abandoned, ?_⟩
    simp [OnlyIn, FencesKept]
  · rw [exec_placeRetire_eq, State.placeRetire_further h.1 hop hz hsome hidle]
    rfl
  · have hends := State.placeRetire_ends s q c hq hidle hroom hc
    refine ⟨s.keep _ s.placeRetire, rfl, ?_⟩
    rw [hends]
    exact ⟨rfl, rfl, rfl, rfl, rfl, rfl⟩

end Sys2Proof.Machine
end

section
/-! PROOFS. What landing, a fence's marks and the ends of commands do to a block. -/

namespace Sys2Proof.Machine

/-! ### A block that stops -/

/-- Nothing more waits or is in flight in a block than before, no counter loses its mark, and its Huddle lines are the same. -/
structure Block.Fades (b c : Block) : Prop where
  runq : c.runq ⊆ b.runq
  pend : c.pend ⊆ b.pend
  abandoned : ∀ i, (b.cnt i).abandoned ≠ none → (c.cnt i).abandoned ≠ none
  hudMask : c.hudMask = b.hudMask

/-- What landing and a fence's marks do to a block. -/
structure Block.Settles (b c : Block) : Prop extends Block.Fades b c where
  run : c.run = b.run

/-- What the ends of commands do to a block as well: nothing starts to run in it. -/
structure Block.Decays (b c : Block) : Prop extends Block.Fades b c where
  run : b.run = none → c.run = none

theorem Block.Fades.refl (b : Block) : b.Fades b := ⟨List.Subset.refl _, List.Subset.refl _, fun _ => id, rfl⟩

theorem Block.Fades.trans {b c d : Block} (h : b.Fades c) (k : c.Fades d) : b.Fades d :=
  ⟨List.Subset.trans k.runq h.runq, List.Subset.trans k.pend h.pend, fun i => k.abandoned i ∘ h.abandoned i, k.hudMask.trans h.hudMask⟩

theorem Block.Settles.refl (b : Block) : b.Settles b := ⟨.refl b, rfl⟩

theorem Block.Settles.trans {b c d : Block} (h : b.Settles c) (k : c.Settles d) : b.Settles d :=
  ⟨h.toFades.trans k.toFades, k.run.trans h.run⟩

theorem Block.Settles.decays {b c : Block} (h : b.Settles c) : b.Decays c := ⟨h.toFades, h.run.trans⟩

theorem Block.Decays.refl (b : Block) : b.Decays b := ⟨.refl b, id⟩

theorem Block.Decays.trans {b c d : Block} (h : b.Decays c) (k : c.Decays d) : b.Decays d := ⟨h.toFades.trans k.toFades, k.run ∘ h.run⟩

/-- A fold of steps in each of which a block settles. -/
theorem Block.Settles.foldl {α : Type} {f : Block → α → Block} (l : List α) (b : Block) (h : ∀ (c : Block) (a : α), c.Settles (f c a)) :
    b.Settles (l.foldl f b) :=
  List.foldlRecOn (motive := fun c => b.Settles c) l f (.refl b) (fun c hc a _ => hc.trans (h c a))

/-- The parts of a block that no clause names change freely. -/
theorem Block.Settles.of_same {b c : Block} (hrun : c.run = b.run) (hrunq : c.runq = b.runq) (hpend : c.pend = b.pend)
    (hcnts : c.cnts = b.cnts) (hmask : c.hudMask = b.hudMask) : b.Settles c :=
  ⟨⟨hrunq ▸ List.Subset.refl _, hpend ▸ List.Subset.refl _, fun i h => by rwa [Block.cnt, hcnts], hmask⟩, hrun⟩

theorem Block.Decays.of_same {b c : Block} (hrun : c.run = b.run) (hrunq : c.runq = b.runq) (hpend : c.pend = b.pend)
    (hcnts : c.cnts = b.cnts) (hmask : c.hudMask = b.hudMask) : b.Decays c := (Block.Settles.of_same hrun hrunq hpend hcnts hmask).decays

theorem Block.cnt_setCnt (b : Block) (i j : Nat) (c : Cnt) : (b.setCnt i c).cnt j = if j = i then c else b.cnt j := by
  unfold Block.setCnt Block.cnt
  split
  · next h => rw [h, Sparse.get_set_same]
  · next h => exact Sparse.get_set_other _ _ _ _ _ h

/-- A counter replaced by one that is marked if it was. -/
theorem Block.Settles.setCnt (b : Block) (i : Nat) (c : Cnt) (h : (b.cnt i).abandoned ≠ none → c.abandoned ≠ none) : b.Settles (b.setCnt i c) := by
  refine ⟨⟨List.Subset.refl _, List.Subset.refl _, fun j hj => ?_, rfl⟩, rfl⟩
  rw [Block.cnt_setCnt]
  split
  · next hji => exact h (hji ▸ hj)
  · exact hj

theorem Block.Settles.checkArm (b : Block) : b.Settles b.checkArm := by
  unfold Block.checkArm
  split
  · exact .refl b
  · split
    · exact .of_same rfl rfl rfl rfl rfl
    · exact .refl b

theorem Block.Settles.addCnt (i n : Nat) (b : Block) : b.Settles (b.addCnt i n) := by
  unfold Block.addCnt
  dsimp only
  split
  · exact .refl b
  · exact (Block.Settles.setCnt b i { b.cnt i with value := min max64 ((b.cnt i).value + n) } id).trans (.checkArm _)

theorem Block.Settles.ownSignal (i n beat gate : Nat) (b : Block) : b.Settles (b.ownSignal i n beat gate) := by
  unfold Block.ownSignal
  dsimp only
  split
  · exact .refl b
  · exact (Block.Settles.setCnt b i { b.cnt i with ahead := (b.cnt i).ahead + n } id).trans (.of_same rfl rfl rfl rfl rfl)

theorem Block.Settles.publishOne (b : Block) (e : Nat × Nat × Nat × Nat) : b.Settles (b.publishOne e) := by
  unfold Block.publishOne
  split
  · exact (Block.Settles.setCnt b e.1 { b.cnt e.1 with ahead := (b.cnt e.1).ahead - e.2.1 } id).trans (.addCnt _ _ _)
  · exact .of_same rfl rfl rfl rfl rfl

theorem Block.Settles.publish (b : Block) : b.Settles b.publish :=
  (Block.Settles.of_same (b := b) (c := { b with sigs := [] }) rfl rfl rfl rfl rfl).trans (.foldl _ _ Block.Settles.publishOne)

/-- An operation that lands starts nothing: of what is in flight only the merges that a clear overtakes go. -/
theorem Block.Settles.landOne (b : Block) (p : Pend) : b.Settles (b.landOne p) := by
  unfold Block.landOne
  split
  case h_8 i n beat gate _ | h_9 i n beat gate _ => exact .ownSignal i n beat gate b
  case h_12 => exact ⟨⟨List.Subset.refl _, List.filter_subset_self _, fun _ => id, rfl⟩, rfl⟩
  all_goals exact .of_same rfl rfl rfl rfl rfl

/-- The block with what is due by a beat taken out of flight. -/
def Block.undue (b : Block) (n : Nat) : Block := { b with pend := b.pend.filter (fun p => decide (n < p.due)) }

theorem Block.Settles.undue (b : Block) (n : Nat) : b.Settles (b.undue n) :=
  ⟨⟨List.Subset.refl _, List.filter_subset_self _, fun _ => id, rfl⟩, rfl⟩

theorem Block.Settles.undue_land (b : Block) (n : Nat) : (b.undue n).Settles (b.land n) :=
  (Block.Settles.foldl _ _ Block.Settles.landOne).trans (.publish _)

theorem Block.Settles.land (b : Block) (n : Nat) : b.Settles (b.land n) := (Block.Settles.undue b n).trans (.undue_land b n)

/-- After a beat nothing due by it is in flight. -/
theorem Block.land_pend (b : Block) (n : Nat) : ∀ p ∈ (b.land n).pend, p ∈ b.pend ∧ n < p.due := by
  intro p hp
  simpa using List.mem_filter.mp ((Block.Settles.undue_land b n).pend hp)

theorem Block.due_le_lastDue (b : Block) : ∀ p ∈ b.pend, p.due ≤ b.lastDue := by
  have hfold : ∀ (l : List Pend) (m : Nat), m ≤ l.foldl (fun m p => max m p.due) m ∧ ∀ p ∈ l, p.due ≤ l.foldl (fun m p => max m p.due) m := by
    intro l
    induction l with
    | nil => intro m; exact ⟨le_rfl, fun p hp => absurd hp List.not_mem_nil⟩
    | cons q l ih =>
      intro m
      obtain ⟨hm, hl⟩ := ih (max m q.due)
      refine ⟨(le_max_left _ _).trans hm, fun p hp => ?_⟩
      rcases List.mem_cons.mp hp with rfl | hp
      · exact (le_max_right _ _).trans hm
      · exact hl p hp
  exact (hfold b.pend 0).2

/-- The block before the last beat of a flush. -/
def Block.landed (b : Block) : Block := (List.range (b.lastDue + 1 - b.beats)).foldl (fun b i => b.land (b.beats + i)) b

theorem Block.Settles.landed (b : Block) : b.Settles b.landed := .foldl _ _ fun c i => .land c (c.beats + i)

theorem Block.Settles.land_flush (b : Block) : (b.landed.land b.lastDue).Settles b.flush := .of_same rfl rfl rfl rfl rfl

theorem Block.Settles.flush (b : Block) : b.Settles b.flush := ((Block.Settles.landed b).trans (.land _ _)).trans (.land_flush b)

/-- A flush leaves nothing in flight (R90). -/
theorem Block.flush_pend (b : Block) : b.flush.pend = [] := by
  refine List.eq_nil_iff_forall_not_mem.mpr fun p hp => ?_
  obtain ⟨hmem, hdue⟩ := Block.land_pend _ _ p ((Block.Settles.land_flush b).pend hp)
  exact absurd (b.due_le_lastDue p ((Block.Settles.landed b).pend hmem)) (Nat.not_le.mpr hdue)

theorem Block.Settles.stopAt (b : Block) : b.Settles b.stopAt :=
  ⟨⟨List.Subset.refl _, List.nil_subset _, fun _ => id, rfl⟩, rfl⟩

/-- One counter of a block marked by a fence, if the fence abandons it. -/
def Block.abandonOne (own : Bool) (f : Nat) (b : Block) (i : Nat) : Block :=
  if b.abandonsBy own f i && (b.cnt i).abandoned.isNone then b.setCnt i { b.cnt i with abandoned := some f } else b

theorem Block.abandon_eq (own : Bool) (f : Nat) (b : Block) : b.abandon own f = ((List.range 48).foldl (Block.abandonOne own f) b).checkArm := rfl

theorem Block.Settles.abandonOne (own : Bool) (f : Nat) (b : Block) (i : Nat) : b.Settles (b.abandonOne own f i) := by
  unfold Block.abandonOne
  split
  · exact .setCnt b i _ fun _ => Option.some_ne_none f
  · exact .refl b

theorem Block.Settles.abandon (own : Bool) (f : Nat) (b : Block) : b.Settles (b.abandon own f) :=
  (Block.Settles.foldl _ _ (.abandonOne own f)).trans (.checkArm _)

theorem Block.abandonOne_own (f : Nat) (b : Block) (i : Nat) : ((b.abandonOne true f i).cnt i).abandoned ≠ none := by
  unfold Block.abandonOne
  split
  · rw [Block.cnt_setCnt, if_pos rfl]
    exact Option.some_ne_none f
  · next h =>
    intro hnone
    exact h (by simp [Block.abandonsBy, hnone])

/-- The fence of a block marks each of its own counters (R207). -/
theorem Block.abandon_own (f : Nat) (b : Block) : ∀ i < 48, ((b.abandon true f).cnt i).abandoned ≠ none := by
  intro i hi
  obtain ⟨l₁, l₂, hl⟩ := List.append_of_mem (List.mem_range.mpr hi)
  rw [Block.abandon_eq, hl, List.foldl_append, List.foldl_cons]
  exact ((Block.Settles.foldl l₂ _ (Block.Settles.abandonOne true f)).trans (.checkArm _)).abandoned i (Block.abandonOne_own f _ i)

end Sys2Proof.Machine
end

section
/-! PROOFS. What recording errors, and the ends of commands, leave of the state. -/

namespace Sys2Proof.Machine

/-! ### Error bits stay -/

/-- Every error bit set before is set after. -/
def State.KeepsErrs (s t : State) : Prop := ∀ (q : Page) (j k : Nat), s.errSet q j k → t.errSet q j k

theorem State.KeepsErrs.trans {s t u : State} (h : s.KeepsErrs t) (k : t.KeepsErrs u) : s.KeepsErrs u := fun q j b => k q j b ∘ h q j b

/-- Error bits depend on the register file alone. -/
theorem State.KeepsErrs.of_regs {s t : State} (h : t.regs = s.regs) : s.KeepsErrs t := fun q j k hk => by
  rwa [State.errSet, State.reg_congr t s q j 0x20 h]

/-- A register of another offset than ERR_STAT holds no error bit. -/
theorem State.KeepsErrs.setReg (s : State) (p : Page) (i off v : Nat) (ho : off < 0x1000) (h20 : off ≠ 0x20) : s.KeepsErrs (s.setReg p i off v) :=
  fun q j k hk => by rwa [State.errSet, State.reg_setReg_off p q i j off 0x20 v s ho (by decide) h20.symm]

theorem State.reg_errStat_setReg (p q : Page) (i j v : Nat) (s : State) :
    (s.setReg p i 0x20 v).reg q j 0x20 = if q.at j = p.at i then v % 2 ^ 64 else s.reg q j 0x20 := by
  split
  · next h => simp [State.reg, State.setReg, regReset_errStat, h]
  · next h => exact State.reg_setReg_other p q i j 0x20 0x20 v s (by omega)

/-- An error bit set in a page leaves the other bits, of every page. -/
theorem State.KeepsErrs.setErrBit (s : State) (p : Page) (i b : Nat) : s.KeepsErrs (s.setErrStat p i (setBit (s.reg p i 0x20) b)) := by
  intro q j k hk
  have hk64 : k < 64 := by
    by_contra hge
    rw [State.errSet, Nat.testBit_lt_two_pow ((s.reg_errStat_lt q j).trans_le (Nat.pow_le_pow_right (by decide) (by omega)))] at hk
    exact Bool.false_ne_true hk
  rw [State.errSet, State.reg_congr _ _ _ _ _ (State.setErrStat_regs p i _ s), State.reg_errStat_setReg]
  split
  · next h =>
    have hsame : s.reg p i 0x20 = s.reg q j 0x20 := by simp [State.reg, regReset_errStat, h]
    rw [Nat.testBit_mod_two_pow, setBit, Nat.testBit_or, hsame, show (s.reg q j 0x20).testBit k = true from hk]
    simp [hk64]
  · exact hk

theorem State.KeepsErrs.captured (s : State) (p : Page) (i b tag i0 i1 i2 : Nat) : s.KeepsErrs (s.captured p i b tag i0 i1 i2) := by
  unfold State.captured
  split
  · exact .of_regs rfl
  · refine ((((State.KeepsErrs.setReg s _ _ _ _ ?_ ?_).trans (.setReg _ _ _ _ _ ?_ ?_)).trans (.setReg _ _ _ _ _ ?_ ?_)).trans
      (.setReg _ _ _ _ _ ?_ ?_)).trans (.setReg _ _ _ _ _ ?_ ?_) <;> decide

theorem State.counted_regs (s : State) (p : Page) (b : Nat) : (s.counted p b).regs = s.regs := by
  unfold State.counted
  dsimp only
  split <;> rfl

theorem State.KeepsErrs.noted (s : State) (p : Page) (i b tag i0 i1 i2 : Nat) : s.KeepsErrs (s.noted p i b tag i0 i1 i2) :=
  ((State.KeepsErrs.captured s p i b tag i0 i1 i2).trans (.setErrBit _ p i b)).trans (.of_regs (State.counted_regs _ p b))

theorem State.KeepsErrs.sbAdd (s : State) (k n : Nat) : s.KeepsErrs (s.sbAdd k n) := .of_regs rfl

theorem State.KeepsErrs.fatal (s : State) : s.KeepsErrs s.fatal := fun q j k hk => by
  rwa [State.errSet, State.fatal_reg s q j 0x20 (by decide) (by decide)]

theorem State.KeepsErrs.raise (s : State) (p : Page) (i b tag i0 i1 i2 : Nat) : s.KeepsErrs (s.raise p i b tag i0 i1 i2) := by
  rw [State.raise_eq]
  split
  · exact ((State.KeepsErrs.noted s p i b tag i0 i1 i2).trans (.sbAdd _ 3 1)).trans (.fatal _)
  · exact .noted s p i b tag i0 i1 i2

theorem State.KeepsErrs.evtAdd (s : State) (p : Page) (i k n : Nat) (hk : k < 8) : s.KeepsErrs (s.evtAdd p i k n) :=
  .setReg s p i _ _ (by omega) (by omega)

/-! ### What recording errors, traces and memory leaves -/

/-- Only what is on record differs: registers, counts, traces and device memory, and what an error sends. -/
structure State.Records (s t : State) : Prop where
  hw : t.hw = s.hw
  fence : t.fence = s.fence
  place : t.place = s.place
  coll : t.coll = s.coll
  hud : t.hud = s.hud
  done : t.hif.done = s.hif.done
  opened : t.hif.opened = s.hif.opened
  errs : s.KeepsErrs t
  block : ∀ p, ∃ tr, t.block p = { s.block p with trace := tr }

theorem State.Records.refl (s : State) : s.Records s := ⟨rfl, rfl, rfl, rfl, rfl, rfl, rfl, .of_regs rfl, fun p => ⟨(s.block p).trace, rfl⟩⟩

theorem State.Records.trans {s t u : State} (h : s.Records t) (k : t.Records u) : s.Records u where
  hw := k.hw.trans h.hw
  fence := k.fence.trans h.fence
  place := k.place.trans h.place
  coll := k.coll.trans h.coll
  hud := k.hud.trans h.hud
  done := k.done.trans h.done
  opened := k.opened.trans h.opened
  errs := h.errs.trans k.errs
  block p := by
    obtain ⟨tr, htr⟩ := h.block p
    obtain ⟨ur, hur⟩ := k.block p
    exact ⟨ur, by rw [hur, htr]⟩

/-- A step that leaves the blocks. -/
theorem State.Records.of_blocks {s t : State} (hw : t.hw = s.hw) (fence : t.fence = s.fence) (place : t.place = s.place) (coll : t.coll = s.coll)
    (hud : t.hud = s.hud) (done : t.hif.done = s.hif.done) (opened : t.hif.opened = s.hif.opened) (errs : s.KeepsErrs t)
    (blocks : t.blocks = s.blocks) : s.Records t :=
  ⟨hw, fence, place, coll, hud, done, opened, errs, fun p => ⟨(s.block p).trace, by rw [State.block, blocks]; rfl⟩⟩

theorem State.Records.raise (s : State) (p : Page) (i b tag i0 i1 i2 : Nat) : s.Records (s.raise p i b tag i0 i1 i2) :=
  .of_blocks (by simp) (by simp) (by simp) (by simp) (by simp) (by simp) (by simp) (.raise s p i b tag i0 i1 i2) (by simp)

theorem State.Records.evtAdd (s : State) (p : Page) (i k n : Nat) (hk : k < 8) : s.Records (s.evtAdd p i k n) :=
  .of_blocks rfl rfl rfl rfl rfl rfl rfl (.evtAdd s p i k n hk) rfl

theorem State.Records.setStack (s : State) (n : Nat) (k : Stack) : s.Records (s.setStack n k) :=
  .of_blocks rfl rfl rfl rfl rfl rfl rfl (.of_regs rfl) rfl

theorem State.Records.memUe (s : State) (who kind a : Nat) : s.Records (s.memUe who kind a) :=
  (State.Records.raise s _ _ _ _ _ _ _).trans (.evtAdd _ _ _ _ _ (by decide))

theorem State.Records.wake (s : State) (ps : List (Nat × Nat)) : s.Records (s.wake ps) := by
  refine List.foldlRecOn (motive := s.Records) ps _ (.refl s) fun t ht p _ => ht.trans ?_
  dsimp only
  split
  · exact .setStack t _ _
  · exact .refl t

theorem State.Records.devPut (s : State) (p : Nat × Nat) (bs : List Byte) : s.Records (s.devPut p bs).1 :=
  .of_blocks rfl rfl rfl rfl rfl rfl rfl (.of_regs rfl) rfl

theorem State.Records.devPutAll (s : State) (ps : List (Nat × Nat)) (bs : List Byte) : s.Records (s.devPutAll ps bs).1 := by
  induction ps generalizing s bs with
  | nil => exact .refl s
  | cons p ps ih => exact (State.Records.devPut s p _).trans (ih _ _)

theorem State.Records.devWrite (s : State) (who a : Nat) (bs : List Byte) : s.Records (s.devWrite who a bs).2 := by
  have hput := (State.Records.wake s (s.devPieces a bs.length)).trans (.devPutAll _ (s.devPieces a bs.length) bs)
  unfold State.devWrite
  split
  · exact .refl s
  dsimp only
  split
  · exact .refl s
  · split
    · exact hput.trans (.memUe _ _ _ _)
    · exact hput

theorem State.Records.of_devWrite {s t : State} {who a st : Nat} {bs : List Byte} (h : s.devWrite who a bs = (st, t)) : s.Records t := by
  have hw := State.Records.devWrite s who a bs
  rwa [h] at hw

/-- A block's trace replaced. -/
theorem State.Records.onTrace (s : State) (p : Nat) (f : Block → Block) (h : ∀ b : Block, ∃ tr, f b = { b with trace := tr }) :
    s.Records (s.onBlock p f) := by
  refine ⟨rfl, rfl, rfl, rfl, rfl, rfl, rfl, .of_regs rfl, fun q => ?_⟩
  rw [State.block_onBlock]
  split
  · next hq => rw [hq]; exact h _
  · exact ⟨_, rfl⟩

theorem State.Records.traceRec (s : State) (p kind lwoff step cause slotcell code detail aux : Nat) :
    s.Records (s.traceRec p kind lwoff step cause slotcell code detail aux) := by
  unfold State.traceRec
  dsimp only
  split
  · exact .refl s
  split
  · exact .refl s
  split
  · exact .onTrace s p _ fun b => ⟨_, rfl⟩
  split
  · next t hw =>
    refine (State.Records.of_devWrite hw).trans (.onTrace _ p _ fun b => ?_)
    split <;> exact ⟨_, rfl⟩
  · next t hw =>
    exact (State.Records.of_devWrite hw).trans (.onTrace _ p _ fun b => ⟨_, rfl⟩)

/-! ### What the ends of commands leave -/

/-- Commands end and blocks stop, but no fence, no placement and no collective changes, and no completion, error bit or mark is lost. -/
structure State.Steady (s t : State) : Prop where
  hw : t.hw = s.hw
  fence : t.fence = s.fence
  place : t.place = s.place
  coll : t.coll = s.coll
  done : s.hif.done <+: t.hif.done
  errs : s.KeepsErrs t
  lines : ∀ n, (s.line n).abandoned ≠ none → (t.line n).abandoned ≠ none
  block : ∀ p, (s.block p).Decays (t.block p)

theorem State.Steady.trans {s t u : State} (h : s.Steady t) (k : t.Steady u) : s.Steady u where
  hw := k.hw.trans h.hw
  fence := k.fence.trans h.fence
  place := k.place.trans h.place
  coll := k.coll.trans h.coll
  done := h.done.trans k.done
  errs := h.errs.trans k.errs
  lines n := k.lines n ∘ h.lines n
  block p := (h.block p).trans (k.block p)

theorem State.Records.steady {s t : State} (h : s.Records t) : s.Steady t where
  hw := h.hw
  fence := h.fence
  place := h.place
  coll := h.coll
  done := by rw [h.done]
  errs := h.errs
  lines n hn := by rwa [State.line, h.hud]
  block p := by
    obtain ⟨tr, htr⟩ := h.block p
    rw [htr]
    exact .of_same rfl rfl rfl rfl rfl

theorem State.Steady.refl (s : State) : s.Steady s := (State.Records.refl s).steady

/-- A fold of steady steps. -/
theorem State.Steady.foldl {α : Type} {f : State → α → State} (l : List α) (s : State) (h : ∀ (t : State) (a : α), t.Steady (f t a)) :
    s.Steady (l.foldl f s) :=
  List.foldlRecOn (motive := s.Steady) l f (.refl s) fun t ht a _ => ht.trans (h t a)

/-- A change of one block, which decays. -/
theorem State.Steady.onBlock (s : State) (p : Nat) (f : Block → Block) (h : (s.block p).Decays (f (s.block p))) : s.Steady (s.onBlock p f) := by
  refine ⟨rfl, rfl, rfl, rfl, List.prefix_refl _, .of_regs rfl, fun _ => id, fun q => ?_⟩
  rw [State.block_onBlock]
  split
  · next hq => rwa [hq]
  · exact .refl _

/-- A change of the host interface, or of the Proofer, that loses no completion. -/
theorem State.Steady.of_hif {s t : State} (hw : t.hw = s.hw) (fence : t.fence = s.fence) (place : t.place = s.place) (coll : t.coll = s.coll)
    (hud : t.hud = s.hud) (blocks : t.blocks = s.blocks) (regs : t.regs = s.regs) (done : s.hif.done <+: t.hif.done) : s.Steady t :=
  ⟨hw, fence, place, coll, done, .of_regs regs, fun n hn => by rwa [State.line, hud], fun p => by
    rw [State.block, State.block, blocks]; exact .refl _⟩

theorem State.Records.learn (s : State) (entry energy start : Nat) : s.Records (s.learn entry energy start) := by
  unfold State.learn
  split
  · exact .refl s
  · dsimp only
    split <;> exact .of_blocks rfl rfl rfl rfl rfl rfl rfl (.of_regs rfl) rfl

theorem State.Steady.finishIn (s : State) (q : Nat) (ts : List Nat) (c : Compl) : s.Steady (s.finishIn q ts c) := by
  unfold State.finishIn
  split
  · exact .of_hif rfl rfl rfl rfl rfl rfl rfl (List.prefix_append _ _)
  · exact .of_hif rfl rfl rfl rfl rfl rfl rfl (List.prefix_refl _)

theorem State.Steady.finishOpen (s : State) (c : OpenCmd) (st r0 r1 nf : Nat) : s.Steady (s.finishOpen c st r0 r1 nf) :=
  (State.Steady.of_hif (s := s) (t := { s with hif.opened := s.hif.opened.filter (fun o => o.seq != c.seq) }) rfl rfl rfl rfl rfl rfl rfl
    (List.prefix_refl _)).trans (.finishIn _ _ _ _)

theorem State.Steady.setOpen (s : State) (c : OpenCmd) : s.Steady (s.setOpen c) := .of_hif rfl rfl rfl rfl rfl rfl rfl (List.prefix_refl _)

theorem State.Steady.finishRun (s : State) (c : OpenCmd) : s.Steady (s.finishRun c) := by
  have h := (State.Records.learn s c.entryOff c.energy c.start).steady
  unfold State.finishRun
  dsimp only
  split <;> exact h.trans (.finishOpen _ _ _ _ _ _)

theorem State.Steady.targetEnd (s : State) (q shape st step r1 : Nat) : s.Steady (s.targetEnd q shape st step r1) := by
  unfold State.targetEnd
  split
  · exact .refl s
  · dsimp only
    split
    · exact .finishRun s _
    · exact .setOpen s _

theorem State.Steady.addEnergy (s : State) (q e : Nat) : s.Steady (s.addEnergy q e) := by
  unfold State.addEnergy
  split
  · exact .refl s
  · exact .setOpen s _

/-- A block in which nothing runs any more. -/
def Block.ended (b : Block) : Block := { b with run := none, hold := .none }

theorem Block.Decays.ended (b : Block) : b.Decays b.ended :=
  ⟨⟨List.Subset.refl _, List.Subset.refl _, fun _ => id, rfl⟩, fun _ => rfl⟩

theorem State.Steady.ended (s : State) (p : Nat) : s.Steady (s.onBlock p Block.ended) := .onBlock s p _ (.ended _)

/-- The end of a run, whoever started it. -/
theorem State.endRun_steady (s : State) (p st step r1 : Nat) :
    s.Steady (s.endRun p st step r1) ∧ ((s.endRun p st step r1).block p).run = none := by
  unfold State.endRun
  split
  · next h => exact ⟨.refl s, h⟩
  · next r _ =>
    have hended : ((s.onBlock p Block.ended).block p).run = none := by rw [State.block_onBlock, if_pos rfl]; rfl
    have hrest : ∀ t, (s.onBlock p Block.ended).Steady t → s.Steady t ∧ (t.block p).run = none := fun t ht =>
      ⟨(State.Steady.ended s p).trans ht, (ht.block p).run hended⟩
    dsimp only
    split
    · exact hrest _ ((State.Steady.onBlock _ p _ (.of_same rfl rfl rfl rfl rfl)).trans (State.Records.learn _ _ _ _).steady)
    · exact hrest _ ((State.Steady.addEnergy _ _ _).trans (.targetEnd _ _ _ _ _ _))

/-- A command taken out of a block's run queue. -/
def Block.dequeue (q : Nat) (b : Block) : Block := { b with runq := b.runq.filter (fun r => r.seq != some q) }

theorem Block.Decays.dequeue (q : Nat) (b : Block) : b.Decays (b.dequeue q) :=
  ⟨⟨List.filter_subset_self _, List.Subset.refl _, fun _ => id, rfl⟩, id⟩

/-- A command taken out of the pool of those that wait. -/
def State.unpool (q : Nat) (s : State) : State := { s with hif.waits := s.hif.waits.filter (fun x => x != q) }

theorem State.Steady.unpool (s : State) (q : Nat) : s.Steady (s.unpool q) := .of_hif rfl rfl rfl rfl rfl rfl rfl (List.prefix_refl _)

theorem State.dropCmd_open (s : State) (q st : Nat) (c : OpenCmd) (h : s.openCmd q = some c) :
    s.dropCmd q st = ((c.targets.foldl (fun s t => s.onBlock t.2 (Block.dequeue q)) s).unpool q).finishOpen c st 0 0 0 := by
  unfold State.dropCmd
  rw [h]
  rfl

theorem State.Steady.dropCmd (s : State) (q st : Nat) : s.Steady (s.dropCmd q st) := by
  cases h : s.openCmd q with
  | none => unfold State.dropCmd; rw [h]; exact .refl s
  | some c =>
    rw [State.dropCmd_open s q st c h]
    have hqueues := State.Steady.foldl c.targets s fun t x => .onBlock t x.2 _ (.dequeue q _)
    exact (hqueues.trans (.unpool _ q)).trans (.finishOpen _ _ _ _ _ _)

theorem State.Steady.wakeOne (s : State) (q : Nat) : s.Steady (s.wakeOne q) := by
  unfold State.wakeOne
  split
  · exact .refl s
  split
  · exact .refl s
  · exact .dropCmd s _ _
  · refine .trans ?_ (.finishOpen _ _ _ _ _ _)
    refine (State.Steady.unpool s q).trans ?_
    split <;> exact .of_hif rfl rfl rfl rfl rfl rfl rfl (List.prefix_refl _)

theorem State.Steady.wakeHost (s : State) : s.Steady s.wakeHost :=
  (State.Steady.foldl _ s fun t q => .wakeOne t q).trans (.foldl _ _ fun t c => .dropCmd t c.seq stAbandoned)

/-- ERR_INFO0 and RESULT1 of a fault: the offset of its word, its slot and its cell (R102, R552). -/
def WFault.info (f : WFault) (lwoff : Nat) : Nat := lwoff * 2 ^ 40 + f.slot * 2 ^ 37 + f.cell * 2 ^ 35

/-- The state in which a fault is on record, before its command ends. -/
def State.faultNoted (p l : Nat) (f : WFault) (lwoff step : Nat) (s : State) : State :=
  let t := s.onBlock p Block.flush
  let u := t.raise .blk l f.code (t.block p).lastTag (f.info lwoff + f.detail) step (f.aux * 2 ^ 32 + pblkOf p)
  u.traceRec p 2 lwoff step f.code (f.slot * 32 + f.cell * 8) 0 f.detail f.aux

theorem State.faultRun_eq (s : State) (p l : Nat) (f : WFault) (lwoff step : Nat) (h : s.pageOfBlock p = some l) :
    s.faultRun p f lwoff step =
      ((s.faultNoted p l f lwoff step).endRun p (statusOf .blk f.code) step (f.info lwoff)).wakeHost := by
  unfold State.faultRun
  rw [h]
  rfl

/-- Noting a fault is landing what is in flight, and recording the fault. -/
theorem State.Records.faultNoted (s : State) (p l : Nat) (f : WFault) (lwoff step : Nat) :
    (s.onBlock p Block.flush).Records (s.faultNoted p l f lwoff step) :=
  (State.Records.raise _ _ _ _ _ _ _ _).trans (.traceRec _ _ _ _ _ _ _ _ _ _)

theorem State.Steady.faultNoted (s : State) (p l : Nat) (f : WFault) (lwoff step : Nat) : s.Steady (s.faultNoted p l f lwoff step) :=
  (State.Steady.onBlock s p _ (Block.Settles.flush _).decays).trans (State.Records.faultNoted s p l f lwoff step).steady

theorem State.Steady.faultRun (s : State) (p : Nat) (f : WFault) (lwoff step : Nat) : s.Steady (s.faultRun p f lwoff step) := by
  cases h : s.pageOfBlock p with
  | none => unfold State.faultRun; rw [h]; exact .refl s
  | some l =>
    rw [State.faultRun_eq s p l f lwoff step h]
    exact ((State.Steady.faultNoted s p l f lwoff step).trans (State.endRun_steady _ _ _ _ _).1).trans (.wakeHost _)

theorem State.Steady.releaseHeld (s : State) (p : Nat) : s.Steady (s.releaseHeld p) := by
  unfold State.releaseHeld
  dsimp only
  split
  · exact .refl s
  split
  · split
    · exact .faultRun s _ _ _ _
    · exact .refl s
  · split
    · split
      · exact .faultRun s _ _ _ _
      · exact .refl s
    · exact .refl s
  · exact .refl s

end Sys2Proof.Machine
end

section
/-! PROOFS. A word that faults ends its run at that beat, and its command with it (R90, R552). -/

namespace Sys2Proof.Machine

/-! ### The end of a target -/

/-- The open command of a SEQ has that SEQ. -/
theorem State.openCmd_seq {s : State} {q : Nat} {c : OpenCmd} (h : s.openCmd q = some c) : c.seq = q := by
  simpa using List.find?_some h

/-- An open command replaced is found in its place. -/
theorem State.openCmd_setOpen {s : State} {q : Nat} {c d : OpenCmd} (h : s.openCmd q = some c) (hd : d.seq = q) :
    (s.setOpen d).openCmd q = some d := by
  subst hd
  have hfind : ∀ l : List OpenCmd, l.find? (fun o => o.seq == d.seq) = some c →
      (l.map (fun o => if o.seq == d.seq then d else o)).find? (fun o => o.seq == d.seq) = some d := by
    intro l
    induction l with
    | nil => intro h; exact absurd h.symm (Option.some_ne_none c)
    | cons o l ih =>
      intro hl
      by_cases ho : o.seq = d.seq
      · simp [ho]
      · rw [List.find?_cons_of_neg (by simpa using ho)] at hl
        rw [List.map_cons, if_neg (by simpa using ho), List.find?_cons_of_neg (by simpa using ho)]
        exact ih hl
  exact hfind s.hif.opened h

theorem State.addEnergy_open {s : State} {q e : Nat} {c : OpenCmd} (h : s.openCmd q = some c) :
    s.addEnergy q e = s.setOpen { c with energy := c.energy + e } := by
  unfold State.addEnergy
  rw [h]

/-- A RUN with one fault on record completes with it (R552). -/
theorem State.finishRun_fault {s : State} {c : OpenCmd} {shape st step r1 : Nat} (hfaults : c.faults = [(shape, st, step, r1)])
    (hroom : s.hif.done.length < 4096) : (s.finishRun c).hif.done = s.hif.done ++ [c.compl st step (r1 + shape) 1] := by
  have hlearn := (State.Records.learn s c.entryOff c.energy c.start).done
  have hroom' : (s.learn c.entryOff c.energy c.start).room c.ring = true := by simp [State.room, hlearn, hroom]
  unfold State.finishRun
  rw [hfaults]
  refine (congrArg (fun t : State => t.hif.done) (State.finishOpen_room _ c st step (r1 + shape) 1 hroom')).trans ?_
  rw [hlearn]

/-- A RUN whose last target ends by a fault, with no earlier failure, completes with that fault (R552). -/
theorem State.targetEnd_last {s : State} {q shape st step r1 : Nat} {c : OpenCmd} (hc : s.openCmd q = some c)
    (hshape : c.targets.map Prod.fst = [shape]) (hfaults : c.faults = []) (hst : st ≠ 0) (hroom : s.hif.done.length < 4096) :
    (s.targetEnd q shape st step r1).hif.done = s.hif.done ++ [c.compl st step (r1 + shape) 1] := by
  have hlast : c.targets.filter (fun t => t.1 != shape) = [] := by
    refine List.filter_eq_nil_iff.mpr fun t ht => ?_
    have hmem : t.1 ∈ c.targets.map Prod.fst := List.mem_map_of_mem ht
    rw [hshape, List.mem_singleton] at hmem
    simp [hmem]
  unfold State.targetEnd
  rw [hc]
  dsimp only
  rw [hlast, if_pos (by rfl), State.finishRun_fault (by rw [if_neg hst, hfaults]; rfl) hroom]
  rfl

/-- A fault ends the run of a block; nothing of it is in flight any more. -/
theorem State.faultRun_stops (s : State) (p l : Nat) (f : WFault) (lwoff step : Nat) (hl : s.pageOfBlock p = some l) :
    ((s.faultRun p f lwoff step).block p).run = none ∧ ((s.faultRun p f lwoff step).block p).pend = [] := by
  rw [State.faultRun_eq s p l f lwoff step hl]
  have hflush : ((s.onBlock p Block.flush).block p).pend = [] := by rw [State.block_onBlock, if_pos rfl, Block.flush_pend]
  have hnoted := (State.Records.faultNoted s p l f lwoff step).steady
  obtain ⟨hend, hrun⟩ := (s.faultNoted p l f lwoff step).endRun_steady p (statusOf .blk f.code) step (f.info lwoff)
  refine ⟨((State.Steady.wakeHost _).block p).run hrun, List.subset_nil.mp ?_⟩
  rw [← hflush]
  exact (((hnoted.trans hend).trans (.wakeHost _)).block p).pend

/-- A fault is on record on the page of the block. -/
theorem State.faultRun_errSet (s : State) (p l : Nat) (f : WFault) (lwoff step : Nat) (hl : s.pageOfBlock p = some l) (hf : f.code < 64) :
    (s.faultRun p f lwoff step).errSet .blk l f.code := by
  rw [State.faultRun_eq s p l f lwoff step hl]
  have hrest := (State.endRun_steady (s.faultNoted p l f lwoff step) p (statusOf .blk f.code) step (f.info lwoff)).1.trans (.wakeHost _)
  exact hrest.errs _ _ _ ((State.Records.traceRec _ _ _ _ _ _ _ _ _ _).errs _ _ _ (State.raise_errSet _ _ _ _ _ _ _ _ hf))

/-- The run of a RUN whose last target faults, with no earlier failure: the completion names the fault (R552). -/
theorem State.endRun_last {s : State} {p q shape st step r1 : Nat} {run : Run} {c : OpenCmd} (hrun : (s.block p).run = some run)
    (hq : run.req.seq = some q) (hc : s.openCmd q = some c) (hshape : c.targets.map Prod.fst = [shape]) (hp : s.shapeOf p = some shape)
    (hfaults : c.faults = []) (hst : st ≠ 0) (hroom : s.hif.done.length < 4096) :
    (s.endRun p st step r1).hif.done = s.hif.done ++ [c.compl st step (r1 + shape) 1] := by
  have hc' : (s.onBlock p Block.ended).openCmd q = some c := hc
  have hopen := State.openCmd_setOpen (d := { c with energy := c.energy + run.energy }) hc' (State.openCmd_seq (c := c) hc)
  have hend : s.endRun p st step r1 =
      ((s.onBlock p Block.ended).setOpen { c with energy := c.energy + run.energy }).targetEnd q shape st step r1 := by
    unfold State.endRun
    rw [hrun]
    dsimp only
    rw [hq, hp, ← State.addEnergy_open hc']
    rfl
  rw [hend]
  exact State.targetEnd_last (c := { c with energy := c.energy + run.energy }) hopen hshape hfaults hst hroom

theorem State.faultRun_done {s : State} {p l q shape : Nat} {f : WFault} {lwoff step : Nat} {run : Run} {c : OpenCmd}
    (hl : s.pageOfBlock p = some l) (hrun : (s.block p).run = some run) (hq : run.req.seq = some q) (hc : s.openCmd q = some c)
    (hshape : c.targets.map Prod.fst = [shape]) (hp : s.shapeOf p = some shape) (hfaults : c.faults = [])
    (hroom : s.hif.done.length < 4096) :
    ∃ more r1, (s.faultRun p f lwoff step).hif.done = s.hif.done ++ c.compl (statusOf .blk f.code) step r1 1 :: more := by
  have hnoted := State.Records.faultNoted s p l f lwoff step
  have hrun' : ((s.faultNoted p l f lwoff step).block p).run = some run := by
    obtain ⟨tr, htr⟩ := hnoted.block p
    rw [htr, State.block_onBlock, if_pos rfl]
    exact (Block.Settles.flush (s.block p)).run.trans hrun
  have hp' : (s.faultNoted p l f lwoff step).shapeOf p = some shape := by
    rw [State.shapeOf, hnoted.place]
    exact hp
  have hc' : (s.faultNoted p l f lwoff step).openCmd q = some c := by
    rw [State.openCmd, hnoted.opened]
    exact hc
  have hdone : (s.faultNoted p l f lwoff step).hif.done = s.hif.done := hnoted.done
  have hlast := State.endRun_last (step := step) (r1 := f.info lwoff) hrun' hq hc' hshape hp' hfaults
    (show statusOf .blk f.code ≠ 0 by simp [statusOf, Page.type]) (by rwa [hdone])
  obtain ⟨more, hmore⟩ := (State.Steady.wakeHost ((s.faultNoted p l f lwoff step).endRun p (statusOf .blk f.code) step (f.info lwoff))).done
  refine ⟨more, f.info lwoff + shape, ?_⟩
  rw [State.faultRun_eq s p l f lwoff step hl, ← hmore, hlast, hdone, List.append_assoc, List.singleton_append]

/-! ### A collective's part in a command of a block -/

/-- Where no collective runs, none moves on. -/
theorem State.collSettle_none {s : State} (h : s.NoColl) : s.collSettle = s := by
  obtain ⟨hslots, hqueued, hlost⟩ := h
  rw [State.collSettle, hslots, hqueued, if_pos (by rfl), ← hlost]

theorem State.Steady.noColl {s t : State} (h : s.Steady t) (hs : s.NoColl) : t.NoColl := by
  rwa [State.NoColl, h.coll]

/-! ### A word that faults -/

/-- The word that is next, where it faults. -/
def State.wordFaults (s : State) (p : Nat) (run : Run) (w : LongWord) (f : WFault) : Prop :=
  wordFault (s.wordEnv p) run.pc w = some f ∨
    (wordFault (s.wordEnv p) run.pc w = none ∧ (∀ r, w.slot 6 = some r → s.holdTest p r = .pass) ∧
      stateFault s p (s.block p).beats run.req.chk (decide ((s.block p).hold ≠ .none)) w = some f)

/-- A word that faults ends its run. -/
theorem State.nextWord_fault {s : State} {p : Nat} {run : Run} {w : LongWord} {f : WFault}
    (hw : fetchWord (s.block p).store (s.block p).lwBase (s.block p).lwBytes (2 * run.pc) = some w) (h : s.wordFaults p run w f) :
    s.nextWord p run = s.faultRun p f run.pc (s.block p).step := by
  unfold State.nextWord
  dsimp only
  rw [hw]
  rcases h with h | ⟨hnone, hpass, hstate⟩
  · dsimp only
    rw [h]
  · dsimp only
    rw [hnone]
    cases hslot : w.slot 6 with
    | none => dsimp only; rw [hstate]
    | some r => dsimp only; rw [hpass r hslot]; dsimp only; rw [hstate]

/-- The block after what is due by its beat has become visible. -/
def State.landed (p : Nat) (s : State) : State := s.setBlock p ((s.block p).land (s.block p).beats)

theorem State.Steady.landed (s : State) (p : Nat) : s.Steady (s.landed p) :=
  .onBlock s p (fun b => b.land (s.block p).beats) (Block.Settles.land _ _).decays

/-- A beat in which no late fault and no residue failure is due goes on. -/
theorem State.beat_next {s : State} {p : Nat} {residue : Option Nat} {next : State → State}
    (hlate : (s.block p).lateFault (s.block p).beats = none) (hres : ((s.landed p).block p).residueHit residue = none) :
    s.beat p residue next = (next (s.landed p)).wakeHost := by
  unfold State.beat
  dsimp only
  rw [hlate]
  dsimp only
  rw [show s.onBlock p (fun b => b.land (s.block p).beats) = s.landed p from rfl, hres]

/-- The word that is due is taken up, where the block may take a beat and no read of its store fails. -/
theorem State.longWordBeat_clean {s : State} {p : Nat} {op residue : Option Nat} {run : Run} (hrun : (s.block p).run = some run)
    (hbeat : s.canBeat p = true) (hphase : run.phase = .issue) :
    s.longWordBeat p .clean op residue = s.beat p residue (State.nextWord p run) := by
  unfold State.longWordBeat
  rw [hrun]
  dsimp only
  rw [hbeat, hphase, if_neg (by decide), if_neg (by decide)]
  rfl

theorem exec_longWordIssue_eq (s : State) (p : Nat) (reads : StoreRead) (op residue : Option Nat) :
    exec (.longWordIssue p reads op residue) s = s.answer touchBlock (s.longWordBeat p reads op residue).collSettle := rfl

/-- Nothing is fenced twice. -/
theorem FenceMap.join_self (f : FenceMap) : f.join f = f := by simp [FenceMap.join]

/-- Settles O36: the word's fault ends the run at that beat. -/
theorem wordFaultEndsItsCommand : Obligations.WordFaultEndsItsCommand := by
  intro s p l op residue run w f hrun hbeat hphase hcoll hl _ hlate b u hres hw hcode hroom hfault
  have hblock : u.block p = b := State.block_setBlock p b s
  have hland : s.Steady u := .landed s p
  have hlu : u.pageOfBlock p = some l := hl
  have hword : u.nextWord p run = u.faultRun p f run.pc b.step := by
    have h := State.nextWord_fault (s := u) (p := p) (run := run) (w := w) (f := f) (by rw [hblock]; exact hw)
      (by rw [State.wordFaults, hblock]; exact hfault)
    rwa [hblock] at h
  have hbeatEq : s.longWordBeat p .clean op residue = (u.faultRun p f run.pc b.step).wakeHost := by
    rw [State.longWordBeat_clean hrun hbeat hphase, State.beat_next hlate (by rw [show s.landed p = u from rfl, hblock]; exact hres)]
    exact congrArg State.wakeHost hword
  have hwake := State.Steady.wakeHost (u.faultRun p f run.pc b.step)
  have hsteady := (hland.trans (.faultRun u p f run.pc b.step)).trans hwake
  obtain ⟨hstop, hpend⟩ := u.faultRun_stops p l f run.pc b.step hlu
  refine ⟨s.keep touchBlock (u.faultRun p f run.pc b.step).wakeHost, ?_, ?_, ?_, ?_, ?_, ?_⟩
  · rw [exec_longWordIssue_eq, hbeatEq, State.collSettle_none (hsteady.noColl hcoll)]
    rfl
  · exact (hwake.block p).run hstop
  · exact List.subset_nil.mp (hpend ▸ (hwake.block p).pend)
  · exact hwake.errs _ _ _ (u.faultRun_errSet p l f run.pc b.step hlu (by omega))
  · exact (congrArg s.fence.join hsteady.fence).trans s.fence.join_self
  · intro q shape c hq hc hshape hp hfaults
    have hurun : (u.block p).run = some run := by rw [hblock]; exact (Block.Settles.land _ _).run.trans hrun
    obtain ⟨more, r1, hdone⟩ := State.faultRun_done (s := u) (f := f) (lwoff := run.pc) (step := b.step) hlu hurun hq hc hshape hp hfaults hroom
    obtain ⟨more', hmore⟩ := hwake.done
    refine ⟨more ++ more', r1, ?_⟩
    change (u.faultRun p f run.pc b.step).wakeHost.hif.done = _
    rw [← hmore, hdone, List.append_assoc, List.cons_append]
    rfl

end Sys2Proof.Machine
end

section
/-! PROOFS. The fence of a block or of a die: what stops, what is abandoned, what is reported (R25, R46, R207, R215). -/

namespace Sys2Proof.Machine

/-! ### What the fence of a block brings about -/

/-- A line of the Huddle marked. -/
def State.markLine (f : Nat) (s : State) (l : Nat) : State := { s with hud := Sparse.set {} s.hud l { s.line l with abandoned := some f } }

/-- One line marked by the fence of a block of shape F, if the block takes part in it (R215). -/
def State.abandonLine (p f : Nat) (s : State) (l : Nat) : State :=
  if bitOn (s.block p).hudMask l && (s.line l).abandoned.isNone then s.markLine f l else s

theorem State.abandonLines_eq (s : State) (p f : Nat) : s.abandonLines p f = (List.range 16).foldl (State.abandonLine p f) s := rfl

theorem State.line_markLine (f : Nat) (s : State) (l n : Nat) :
    (s.markLine f l).line n = if n = l then { s.line l with abandoned := some f } else s.line n := by
  unfold State.markLine State.line
  split
  · next h => rw [h, Sparse.get_set_same]
  · next h => exact Sparse.get_set_other _ _ _ _ _ h

theorem State.Steady.markLine (s : State) (f l : Nat) : s.Steady (s.markLine f l) := by
  refine ⟨rfl, rfl, rfl, rfl, List.prefix_refl _, .of_regs rfl, fun n hn => ?_, fun p => .refl _⟩
  rw [State.line_markLine]
  split
  · exact Option.some_ne_none f
  · exact hn

theorem State.Steady.abandonLine (s : State) (p f l : Nat) : s.Steady (s.abandonLine p f l) := by
  unfold State.abandonLine
  split
  · exact .markLine s f l
  · exact .refl s

theorem State.Steady.abandonLines (s : State) (p f : Nat) : s.Steady (s.abandonLines p f) := by
  rw [State.abandonLines_eq]
  exact .foldl _ s fun t l => .abandonLine t p f l

/-- A line in which the block takes part is marked. -/
theorem State.abandonLine_marks (s : State) (p f l : Nat) (h : (s.block p).hudMask.testBit l = true) :
    ((s.abandonLine p f l).line l).abandoned ≠ none := by
  unfold State.abandonLine
  split
  · exact (congrArg HudLine.abandoned ((s.line_markLine f l l).trans (if_pos rfl))).trans_ne (Option.some_ne_none f)
  · next hn =>
    intro hnone
    exact hn (by rw [bitOn, h, hnone]; rfl)

/-- The fence of a block marks every line in which it takes part (R215). -/
theorem State.abandonLines_marks (s : State) (p f n : Nat) (hn : n < 16) (h : (s.block p).hudMask.testBit n = true) :
    ((s.abandonLines p f).line n).abandoned ≠ none := by
  obtain ⟨l₁, l₂, hl⟩ := List.append_of_mem (List.mem_range.mpr hn)
  rw [State.abandonLines_eq, hl, List.foldl_append, List.foldl_cons]
  have hbefore := State.Steady.foldl l₁ s fun t l => .abandonLine t p f l
  have hmask : ((l₁.foldl (State.abandonLine p f) s).block p).hudMask.testBit n = true := by rwa [(hbefore.block p).hudMask]
  exact (State.Steady.foldl l₂ _ fun t l => .abandonLine t p f l).lines n (State.abandonLine_marks _ p f n hmask)

theorem State.Steady.dropSignals (s : State) (p : Nat) : s.Steady (s.dropSignals p) :=
  .of_hif rfl rfl rfl rfl rfl rfl rfl (List.prefix_refl _)

/-- The counters that the fence of block `p`, of shape F, abandons in every block of a list (R207). -/
def State.abandonAll (p f : Nat) (cs : List (Nat × Nat)) (s : State) : State :=
  cs.foldl (fun s c => s.onBlock c.2 (Block.abandon (c.2 == p) f)) s

theorem State.Steady.abandonAll (s : State) (p f : Nat) (cs : List (Nat × Nat)) : s.Steady (s.abandonAll p f cs) :=
  .foldl cs s fun t c => .onBlock t c.2 _ (Block.Settles.abandon _ f _).decays

/-- Each counter of the block itself is marked, where the block is one of the list. -/
theorem State.abandonAll_own (s : State) (p f : Nat) (cs : List (Nat × Nat)) (c : Nat × Nat) (hc : c ∈ cs) (hp : c.2 = p) :
    ∀ i < 48, (((s.abandonAll p f cs).block p).cnt i).abandoned ≠ none := by
  intro i hi
  subst hp
  obtain ⟨l₁, l₂, rfl⟩ := List.append_of_mem hc
  rw [State.abandonAll, List.foldl_append, List.foldl_cons, beq_self_eq_true]
  refine ((State.Steady.abandonAll _ c.2 f l₂).block c.2).abandoned i ?_
  rw [State.block_onBlock, if_pos rfl]
  exact Block.abandon_own f _ i hi

/-- The commands of a fenced block end: nothing runs in it and nothing waits. -/
theorem State.endFenced_steady (s : State) (p st : Nat) (o : FlightOp) :
    s.Steady (s.endFenced p st o) ∧ ((s.endFenced p st o).block p).run = none ∧ ((s.endFenced p st o).block p).runq = [] := by
  obtain ⟨hend, hrun⟩ := s.endRun_steady p st o.step o.info
  have hdrop := State.Steady.foldl ((s.block p).runq.filterMap (fun q => q.seq)) (s.endRun p st o.step o.info)
    fun t q => .dropCmd t q 0x0243
  unfold State.endFenced
  dsimp only
  refine ⟨(hend.trans hdrop).trans (.onBlock _ p _ ⟨⟨List.nil_subset _, List.Subset.refl _, fun _ => id, rfl⟩, id⟩), ?_, ?_⟩
  · rw [State.block_onBlock, if_pos rfl]
    exact (hdrop.block p).run hrun
  · rw [State.block_onBlock, if_pos rfl]

/-- A block whose commands have ended, of which nothing is under way, and each of whose counters is abandoned. -/
structure Block.Halted (b : Block) : Prop where
  run : b.run = none
  runq : b.runq = []
  pend : b.pend = []
  abandoned : ∀ i < 48, (b.cnt i).abandoned ≠ none

theorem Block.Halted.decays {b c : Block} (h : b.Halted) (k : b.Decays c) : c.Halted where
  run := k.run h.run
  runq := List.subset_nil.mp (h.runq ▸ k.runq)
  pend := List.subset_nil.mp (h.pend ▸ k.pend)
  abandoned i hi := k.abandoned i (h.abandoned i hi)

/-- A block of a shape number is one of those the placement maps. -/
theorem State.placed_of_shapeOf {s : State} {p f : Nat} (h : s.shapeOf p = some f) : (f, p) ∈ s.placed := by
  obtain ⟨c, hc, rfl⟩ := Option.map_eq_some_iff.mp h
  have hp : c.2 = p + 1 := by simpa using List.find?_some hc
  exact List.mem_map.mpr ⟨c, List.mem_of_find?_eq_some hc, by rw [hp]; rfl⟩

/-- The state in which the counters and lines of the fence are marked and the commands of the block have not yet ended. -/
def State.fenceMarked (p f : Nat) (s : State) : State :=
  let u := (s.dropSignals p).onBlock p Block.stopAt
  (u.abandonAll p f u.placed).abandonLines p f

theorem State.fenceEffects_eq (s : State) (p st f : Nat) (o : FlightOp) (h : s.shapeOf p = some f) :
    s.fenceEffects p st o =
      ((((s.fenceMarked p f).endFenced p st o).placed.foldl (fun s c => s.releaseHeld c.2) ((s.fenceMarked p f).endFenced p st o))).wakeHost := by
  unfold State.fenceEffects
  rw [h]
  rfl

theorem State.Steady.stopAt (s : State) (p : Nat) : s.Steady (s.onBlock p Block.stopAt) := .onBlock s p _ (Block.Settles.stopAt _).decays

theorem State.Steady.fenceMarked (s : State) (p f : Nat) : s.Steady (s.fenceMarked p f) :=
  (((State.Steady.dropSignals s p).trans (.stopAt _ p)).trans (.abandonAll _ p f _)).trans (.abandonLines _ p f)

theorem State.Steady.releaseAll (s : State) : s.Steady (s.placed.foldl (fun s c => s.releaseHeld c.2) s).wakeHost :=
  (State.Steady.foldl s.placed s fun t c => .releaseHeld t c.2).trans (.wakeHost _)

theorem State.Steady.fenceEffects (s : State) (p st : Nat) (o : FlightOp) : s.Steady (s.fenceEffects p st o) := by
  cases h : s.shapeOf p with
  | none => unfold State.fenceEffects; rw [h]; exact .stopAt s p
  | some f =>
    rw [State.fenceEffects_eq s p st f o h]
    exact ((State.Steady.fenceMarked s p f).trans (State.endFenced_steady _ p st o).1).trans (.releaseAll _)

/-- The fence of a block of the placement halts it and marks its lines (R46, R207, R215). -/
theorem State.fenceEffects_halts (s : State) (p st f : Nat) (o : FlightOp) (h : s.shapeOf p = some f) :
    ((s.fenceEffects p st o).block p).Halted ∧
    ∀ n < 16, (s.block p).hudMask.testBit n = true → ((s.fenceEffects p st o).line n).abandoned ≠ none := by
  let u := (s.dropSignals p).onBlock p Block.stopAt
  let v := u.abandonAll p f u.placed
  have hstop : s.Steady u := (State.Steady.dropSignals s p).trans (.stopAt _ p)
  have hv : u.Steady v := .abandonAll u p f u.placed
  have hlines : v.Steady (s.fenceMarked p f) := .abandonLines v p f
  obtain ⟨hend, hrun, hrunq⟩ := (s.fenceMarked p f).endFenced_steady p st o
  have hrest := State.Steady.releaseAll ((s.fenceMarked p f).endFenced p st o)
  have hpend : (u.block p).pend = [] := by rw [State.block_onBlock, if_pos rfl]; rfl
  have hplaced : (f, p) ∈ u.placed := State.placed_of_shapeOf h
  rw [State.fenceEffects_eq s p st f o h]
  refine ⟨Block.Halted.decays ⟨hrun, hrunq, ?_, fun i hi => ?_⟩ (hrest.block p), fun n hn hmask => ?_⟩
  · exact List.subset_nil.mp (hpend ▸ (((hv.trans hlines).trans hend).block p).pend)
  · exact ((hlines.trans hend).block p).abandoned i (State.abandonAll_own u p f u.placed (f, p) hplaced rfl i hi)
  · have hvmask : (v.block p).hudMask.testBit n = true := by rwa [((hstop.trans hv).block p).hudMask]
    exact (hend.trans hrest).lines n (State.abandonLines_marks v p f n hn hvmask)

/-! ### A block fenced on its own -/

/-- The state with a block on record as fenced. -/
def State.fenced (p : Nat) (s : State) : State := { s with fence.blocks := setBit s.fence.blocks p }

theorem State.fenceBlock_eq (s : State) (p st : Nat) (o : FlightOp) (hin : s.inService p = true) (hf : s.fencedBlock p = false) :
    s.fenceBlock p st o = (s.fenced p).fenceEffects p st o := by
  rw [State.fenceBlock, hin, hf]
  rfl

theorem State.Steady.inService {s t : State} (h : s.Steady t) (p : Nat) : t.inService p = s.inService p := by
  simp [State.inService, h.hw, h.place]

theorem State.Steady.fencedBlock {s t : State} (h : s.Steady t) (p : Nat) : t.fencedBlock p = s.fencedBlock p := by
  simp [State.fencedBlock, h.fence]

theorem State.Steady.shapeOf {s t : State} (h : s.Steady t) (p : Nat) : t.shapeOf p = s.shapeOf p := by
  simp [State.shapeOf, h.place]

/-- A block that a live placement maps is reported on its logical page. -/
theorem State.reportsOnPage_mapped {s : State} {p f : Nat} (hlive : s.live = true) (hshape : s.shapeOf p = some f) :
    s.reportsOnPage p = true := by
  simp [State.reportsOnPage, hlive, hshape]

/-- The error of a block that a live placement maps is recorded on its logical page, and the block is fenced. -/
theorem State.fenceFor_mapped {s : State} {p l f : Nat} (code : Nat) (o : FlightOp) (under : Option FlightOp) (detail aux : Nat)
    (hin : s.inService p = true) (hf : s.fencedBlock p = false) (hlive : s.live = true) (hshape : s.shapeOf p = some f)
    (hpage : s.pageOfBlock p = some l) (hcode : code < 64) :
    ∃ t st w, s.Steady t ∧ t.errSet .blk l code ∧ s.fenceFor p code o under detail aux = (t.fenced p).fenceEffects p st w := by
  have hrecorded : ∀ (tag i0 i1 i2 st : Nat) (w : FlightOp) (t : State), (s.raise .blk l code tag i0 i1 i2).Records t →
      ∃ t' st' w', s.Steady t' ∧ t'.errSet .blk l code ∧ t.fenceBlock p st w = (t'.fenced p).fenceEffects p st' w' := by
    intro tag i0 i1 i2 st w t h
    have ht := ((State.Records.raise s .blk l code tag i0 i1 i2).trans h).steady
    exact ⟨t, st, w, ht, h.errs _ _ _ (State.raise_errSet _ _ _ _ _ _ _ _ hcode),
      t.fenceBlock_eq p st w ((ht.inService p).trans hin) ((ht.fencedBlock p).trans hf)⟩
  unfold State.fenceFor
  rw [hin, hf, if_neg (by decide)]
  dsimp only
  rw [State.reportsOnPage_mapped hlive hshape, if_pos rfl, hpage]
  dsimp only
  split
  · exact hrecorded _ _ _ _ _ _ _ (.traceRec _ _ _ _ _ _ _ _ _ _)
  · exact hrecorded _ _ _ _ _ _ _ (.refl _)

/-- What the fence of a block that a live placement maps leaves (R23, R25, R46, R207, R215). -/
structure State.FencedTo (s : State) (p l code : Nat) (t : State) : Prop where
  fence : t.fence = { s.fence with blocks := setBit s.fence.blocks p }
  coll : t.coll = s.coll
  err : t.errSet .blk l code
  block : (t.block p).Halted
  lines : ∀ n < 16, (s.block p).hudMask.testBit n = true → (t.line n).abandoned ≠ none

theorem State.fenceFor_fencedTo {s : State} {p l f : Nat} (code : Nat) (o : FlightOp) (under : Option FlightOp) (detail aux : Nat)
    (hin : s.inService p = true) (hf : s.fencedBlock p = false) (hlive : s.live = true) (hshape : s.shapeOf p = some f)
    (hpage : s.pageOfBlock p = some l) (hcode : code < 64) : s.FencedTo p l code (s.fenceFor p code o under detail aux) := by
  obtain ⟨t, st, w, hst, herr, heq⟩ := State.fenceFor_mapped code o under detail aux hin hf hlive hshape hpage hcode
  have heffects := State.Steady.fenceEffects (t.fenced p) p st w
  obtain ⟨hhalted, hlines⟩ := (t.fenced p).fenceEffects_halts p st f w ((hst.shapeOf p).trans hshape)
  rw [heq]
  refine ⟨?_, heffects.coll.trans hst.coll, heffects.errs _ _ _ herr, hhalted, fun n hn hmask => hlines n hn ?_⟩
  · rw [heffects.fence, State.fenced, hst.fence]
  · rwa [show (t.fenced p).block p = t.block p from rfl, (hst.block p).hudMask]

/-- A command whose effect is that fence. -/
theorem State.FencedTo.command {s u : State} {p l code : Nat} (h : s.FencedTo p l code u) (hcoll : s.NoColl) {c : Instr}
    (hc : exec c s = s.answer touchBlock u.collSettle) :
    ∃ t, exec c s = .next t ∧ t.fence = { s.fence with blocks := s.fence.blocks ||| 2 ^ p } ∧ t.errSet .blk l code ∧
      (t.block p).run = none ∧ (t.block p).runq = [] ∧ (t.block p).pend = [] ∧ (∀ i < 48, ((t.block p).cnt i).abandoned ≠ none) ∧
      (∀ n < 16, (s.block p).hudMask.testBit n = true → (t.line n).abandoned ≠ none) := by
  have hnone : u.NoColl := by rwa [State.NoColl, h.coll]
  refine ⟨s.keep touchBlock u, ?_, ?_, h.err, h.block.run, h.block.runq, h.block.pend, h.block.abandoned, h.lines⟩
  · rw [hc, State.collSettle_none hnone]
    rfl
  · refine (congrArg s.fence.join h.fence).trans ?_
    simp [FenceMap.join, setBit]

theorem exec_blockFence_eq (s : State) (p code : Nat) (r : Option Nat) :
    exec (.blockFence p code r) s = s.answer touchBlock (s.fenceAlone p code r).collSettle := rfl

theorem exec_blkWatchdog_eq (s : State) (p : Nat) (r : Option Nat) :
    exec (.blkWatchdog p r) s = s.answer touchBlock (s.fenceAlone p 14 r).collSettle := rfl

theorem exec_blockStoreScrub_eq (s : State) (p word : Nat) (reads : StoreRead) (hw : word < 2 ^ 24) :
    exec (.blockStoreScrub p word reads) s = s.answer touchBlock (s.storeScrub p reads).collSettle :=
  congrArg (s.answer touchBlock) (if_pos hw)

/-- A corrected word of a mapped block's store is reported on its page. -/
theorem State.storeCorrected_mapped {s : State} {p l f : Nat} (o : FlightOp) (hin : s.inService p = true) (hlive : s.live = true)
    (hshape : s.shapeOf p = some f) (hpage : s.pageOfBlock p = some l) :
    s.storeCorrected p o = (s.sbAdd (0x0100 + dieOf p) 1).raise .blk l 16 (s.block p).lastTag o.info o.step (pblkOf p) := by
  unfold State.storeCorrected
  rw [hin, if_neg (by decide)]
  dsimp only
  rw [State.reportsOnPage_mapped hlive hshape, if_pos rfl, hpage]
  rfl

/-! ### A die fenced with its blocks -/

theorem testBit_setBit (m i k : Nat) : (setBit m i).testBit k = (m.testBit k || decide (i = k)) := by
  rw [setBit, Nat.testBit_or, Nat.testBit_two_pow]

theorem testBit_foldl_setBit (ps : List Nat) (m k : Nat) (h : k ∈ ps ∨ m.testBit k = true) : (ps.foldl setBit m).testBit k = true := by
  induction ps generalizing m with
  | nil => exact h.resolve_left List.not_mem_nil
  | cons p ps ih =>
    refine ih (setBit m p) ?_
    rw [testBit_setBit]
    rcases h with h | h
    · exact (List.mem_cons.mp h).elim (fun hk => .inr (by simp [hk])) .inl
    · exact .inr (by simp [h])

/-- The state in which the fence of a die is on record. -/
def State.dieNoted (d bit i0 i1 i2 : Nat) (s : State) : State :=
  ({ s with fence.dies := setBit s.fence.dies d } : State).raise .die d bit 0 i0 i1 i2

/-- The blocks of a die that are fenced with it: those in service and not yet fenced (R25). -/
def State.dieBlocks (d : Nat) (s : State) : List Nat :=
  ((List.range blocksPerDie).map (fun b => blocksPerDie * d + b)).filter (fun p => s.inService p && !s.fencedBlock p)

/-- The state with those blocks on record as fenced. -/
def State.allFenced (ps : List Nat) (s : State) : State := { s with fence.blocks := ps.foldl setBit s.fence.blocks }

theorem State.fenceDie_eq (s : State) (d bit i0 i1 i2 : Nat) (hd : d < 32) (hf : s.fence.dies.testBit d = false) :
    s.fenceDie d bit i0 i1 i2 =
      ((s.dieNoted d bit i0 i1 i2).dieBlocks d).foldl (fun s p => s.fenceEffects p (statusOf .die bit) (s.block p).lastWord)
        ((s.dieNoted d bit i0 i1 i2).allFenced ((s.dieNoted d bit i0 i1 i2).dieBlocks d)) := by
  unfold State.fenceDie
  rw [hf, if_neg (by simp; omega)]
  rfl

/-- What the fence of a die leaves (R23, R25, R598). -/
structure State.DieFenced (s : State) (d bit : Nat) (t : State) : Prop where
  dies : t.fence.dies = setBit s.fence.dies d
  blocks : ∀ k < 17, s.inService (17 * d + k) = true → t.fencedBlock (17 * d + k) = true
  place : t.place = s.place
  coll : t.coll = s.coll
  err : t.errSet .die d bit
  errs : s.KeepsErrs t

theorem State.fenceDie_dieFenced (s : State) (d bit i0 i1 i2 : Nat) (hd : d < 32) (hf : s.fence.dies.testBit d = false) (hbit : bit < 64) :
    s.DieFenced d bit (s.fenceDie d bit i0 i1 i2) := by
  let u := s.dieNoted d bit i0 i1 i2
  have hnoted : ({ s with fence.dies := setBit s.fence.dies d } : State).Records u := .raise _ _ _ _ _ _ _ _
  have herr : u.errSet .die d bit := State.raise_errSet _ _ _ _ _ _ _ _ hbit
  have heffects : (u.allFenced (u.dieBlocks d)).Steady (s.fenceDie d bit i0 i1 i2) := by
    rw [s.fenceDie_eq d bit i0 i1 i2 hd hf]
    exact .foldl _ _ fun t p => .fenceEffects t p _ _
  refine ⟨?_, fun k hk hin => ?_, heffects.place.trans hnoted.place, heffects.coll.trans hnoted.coll, heffects.errs _ _ _ herr,
    fun q j b hb => heffects.errs _ _ _ (hnoted.errs q j b hb)⟩
  · exact (congrArg FenceMap.dies heffects.fence).trans (congrArg FenceMap.dies hnoted.fence)
  · have hin' : u.inService (17 * d + k) = true := (hnoted.steady.inService _).trans hin
    rw [heffects.fencedBlock]
    refine testBit_foldl_setBit _ _ _ ?_
    by_cases hfb : u.fencedBlock (17 * d + k) = true
    · exact .inr hfb
    · refine .inl (List.mem_filter.mpr ⟨List.mem_map.mpr ⟨k, List.mem_range.mpr hk, rfl⟩, ?_⟩)
      simp [hin', hfb]

/-- The fences that a command keeps of that effect. -/
theorem State.DieFenced.keep {s v u : State} {d bit : Nat} {m : Touch} (h : v.DieFenced d bit u) (hv : s.Records v) (hfence : m.fence = true)
    (hun : m.unfence = false) : (s.keep m u).fence.dies = s.fence.dies ||| 2 ^ d ∧
      ∀ k < 17, s.inService (17 * d + k) = true → (s.keep m u).fencedBlock (17 * d + k) = true := by
  have hjoin : (s.keep m u).fence = s.fence.join u.fence := by rw [State.keep_fence, hun, hfence]; rfl
  constructor
  · rw [hjoin, FenceMap.join, h.dies, hv.fence]
    simp [setBit]
  · intro k hk hin
    have hu : u.fence.blocks.testBit (17 * d + k) = true := h.blocks k hk ((hv.steady.inService _).trans hin)
    rw [State.fencedBlock, hjoin, FenceMap.join, Nat.testBit_or, hu, Bool.or_true]

theorem exec_dieFabric_eq (s : State) (d : Nat) (under : Option (Nat × Nat)) :
    exec (.dieFabric d under) s = s.answer touchBlock (s.linkRetriesFail d under).collSettle := rfl

theorem exec_dieVdom_eq (s : State) (d : Nat) (under : Option (Nat × Nat)) :
    exec (.dieVdom d under) s = s.answer { touchBlock with place := true } (s.railFails d under).collSettle := rfl

/-- The retries of a link on record (R574). -/
def State.retriesNoted (d : Nat) (s : State) : State :=
  ((s.useFree).raise .die d 1 0 (Config.free s.free % 8 * 2 ^ 60) 0 0).evtAdd .die d 0 16

theorem State.Records.useFree (s : State) : s.Records s.useFree := .of_blocks rfl rfl rfl rfl rfl rfl rfl (.of_regs rfl) rfl

theorem State.Records.retriesNoted (s : State) (d : Nat) : s.Records (s.retriesNoted d) :=
  ((State.Records.useFree s).trans (.raise _ _ _ _ _ _ _ _)).trans (.evtAdd _ _ _ _ _ (by decide))

theorem State.retriesNoted_err (s : State) (d : Nat) : (s.retriesNoted d).errSet .die d 1 :=
  State.KeepsErrs.evtAdd _ _ _ _ _ (by decide) _ _ _ (State.raise_errSet _ _ _ _ _ _ _ _ (by decide))

/-- DIE_FABRIC: the retries are on record, and the die is fenced (R574). -/
theorem exec_dieFabric_fences (s : State) (d : Nat) (under : Option (Nat × Nat)) (hcoll : s.NoColl) (hd : d < 32)
    (hf : s.fence.dies.testBit d = false) :
    ∃ t, exec (.dieFabric d under) s = .next t ∧ t.fence.dies = s.fence.dies ||| 2 ^ d ∧ t.errSet .die d 1 ∧ t.errSet .die d 2 ∧
      (∀ k < 17, s.inService (17 * d + k) = true → t.fencedBlock (17 * d + k) = true) ∧ t.place = s.place := by
  have hretries := State.Records.retriesNoted s d
  have hfenced : (s.retriesNoted d).DieFenced d 2 (s.linkRetriesFail d under) :=
    State.fenceDie_dieFenced _ d 2 _ _ _ hd (by rw [hretries.fence, hf]) (by decide)
  obtain ⟨hdies, hblocks⟩ := hfenced.keep hretries (m := touchBlock) rfl rfl
  refine ⟨s.keep touchBlock (s.linkRetriesFail d under), ?_, hdies, hfenced.errs _ _ _ (s.retriesNoted_err d), hfenced.err, hblocks, rfl⟩
  rw [exec_dieFabric_eq, State.collSettle_none (by rw [State.NoColl, hfenced.coll, hretries.coll]; exact hcoll)]
  rfl

/-- DIE_VDOM: the die is fenced and off (R218, R574). -/
theorem exec_dieVdom_fences (s : State) (d : Nat) (under : Option (Nat × Nat)) (hcoll : s.NoColl) (hd : d < 32)
    (hf : s.fence.dies.testBit d = false) :
    ∃ t, exec (.dieVdom d under) s = .next t ∧ t.fence.dies = s.fence.dies ||| 2 ^ d ∧ t.errSet .die d 3 ∧
      (∀ k < 17, s.inService (17 * d + k) = true → t.fencedBlock (17 * d + k) = true) ∧
      t.place = { s.place with dieOff := s.place.dieOff ||| 2 ^ d } := by
  obtain ⟨u, hrail, hfenced⟩ : ∃ u : State, s.railFails d under = { u with place.dieOff := setBit u.place.dieOff d } ∧
      s.useFree.DieFenced d 3 u := ⟨_, rfl, State.fenceDie_dieFenced _ d 3 _ _ _ hd hf (by decide)⟩
  obtain ⟨hdies, hblocks⟩ := hfenced.keep (State.Records.useFree s) (m := { touchBlock with place := true }) rfl rfl
  refine ⟨s.keep { touchBlock with place := true } { u with place.dieOff := setBit u.place.dieOff d }, ?_, hdies, hfenced.err, hblocks, ?_⟩
  · have hnone : ({ u with place.dieOff := setBit u.place.dieOff d } : State).NoColl := by
      rw [State.NoColl, show ({ u with place.dieOff := setBit u.place.dieOff d } : State).coll = s.coll from hfenced.coll]
      exact hcoll
    rw [exec_dieVdom_eq, hrail, State.collSettle_none hnone]
    rfl
  · exact congrArg (fun x : Place => { x with dieOff := setBit x.dieOff d }) hfenced.place

/-! ### Patrol scrub of a block store -/

/-- A corrected word is reported on the block's page, and fences nothing (R433). -/
theorem exec_scrub_corrected {s : State} {p l f word : Nat} (hcoll : s.NoColl) (hin : s.inService p = true) (hlive : s.live = true)
    (hshape : s.shapeOf p = some f) (hpage : s.pageOfBlock p = some l) (hword : word < 2 ^ 24) :
    ∃ t, exec (.blockStoreScrub p word .corrected) s = .next t ∧ t.errSet .blk l 16 ∧ t.fence = s.fence ∧ t.blocks = s.blocks := by
  have hscrub : s.storeScrub p .corrected =
      (s.sbAdd (0x0100 + dieOf p) 1).raise .blk l 16 (s.block p).lastTag (s.block p).lastWord.info (s.block p).lastWord.step (pblkOf p) :=
    State.storeCorrected_mapped _ hin hlive hshape hpage
  have hnone : (s.storeScrub p .corrected).NoColl := by rw [hscrub, State.NoColl, State.raise_coll]; exact hcoll
  refine ⟨s.keep touchBlock (s.storeScrub p .corrected), ?_, ?_, ?_, ?_⟩
  · rw [exec_blockStoreScrub_eq s p word .corrected hword, State.collSettle_none hnone]
    rfl
  · rw [hscrub]
    exact State.raise_errSet _ _ _ _ _ _ _ _ (by decide)
  · refine (congrArg s.fence.join ?_).trans s.fence.join_self
    rw [hscrub, State.raise_fence]
    rfl
  · change (s.storeScrub p .corrected).blocks = s.blocks
    rw [hscrub, State.raise_blocks]
    rfl

/-- A clean word changes nothing. -/
theorem exec_scrub_clean {s : State} {p word : Nat} (hcoll : s.NoColl) (hword : word < 2 ^ 24) :
    exec (.blockStoreScrub p word .clean) s = .next (s.keep touchBlock s) := by
  rw [exec_blockStoreScrub_eq s p word .clean hword, show s.storeScrub p .clean = s from rfl, State.collSettle_none hcoll]
  rfl

/-- Settles O38: each of the errors fences its block, the two errors of a die fence the die, and a corrected or clean word fences nothing. -/
theorem fencesStopTheirBlocks : Obligations.FencesStopTheirBlocks := by
  refine ⟨fun s p l f hcoll hin hf hlive hshape hpage _ => ⟨fun c bit word r hword hc => ?_, fun word hword => ?_, fun word hword => ?_⟩,
    fun s d under hcoll hd hf => ⟨exec_dieFabric_fences s d under hcoll hd hf, exec_dieVdom_fences s d under hcoll hd hf⟩⟩
  · have hfenced : ∀ code < 64, ∀ under, s.FencedTo p l code (s.fenceFor p code (s.block p).lastWord under 0 0) := fun code hcode under =>
      State.fenceFor_fencedTo code _ under 0 0 hin hf hlive hshape hpage hcode
    simp only [List.mem_cons, Prod.mk.injEq, List.not_mem_nil, or_false] at hc
    obtain ⟨rfl, rfl⟩ | ⟨rfl, rfl⟩ | ⟨rfl, rfl⟩ | ⟨rfl, rfl⟩ := hc
    · exact (hfenced 12 (by decide) _).command hcoll (exec_blockFence_eq s p 12 r)
    · exact (hfenced 13 (by decide) _).command hcoll (exec_blockFence_eq s p 13 r)
    · exact (hfenced 14 (by decide) _).command hcoll (exec_blkWatchdog_eq s p r)
    · exact (hfenced 12 (by decide) none).command hcoll (exec_blockStoreScrub_eq s p word .uncorrectable hword)
  · exact exec_scrub_corrected hcoll hin hlive hshape hpage hword
  · exact ⟨_, exec_scrub_clean hcoll hword, s.fence.join_self, rfl, rfl⟩

end Sys2Proof.Machine
end

section
/-! PROOFS. What the collectives do after a command changes no block: the central store, Rally links, packets, device memory and the collective engines, each
in turn. -/

namespace Sys2Proof.Machine

/-- A fold of steps that leave the blocks leaves them. -/
theorem State.foldl_blocks {α : Type} {f : State → α → State} (h : ∀ (t : State) (a : α), (f t a).blocks = t.blocks) (l : List α) (s : State) :
    (l.foldl f s).blocks = s.blocks :=
  List.foldlRecOn (motive := fun t => t.blocks = s.blocks) l f rfl fun t ht a _ => (h t a).trans ht

/-! ### The central store -/

@[simp] theorem State.touchPage_blocks (s : State) (pg : Nat) : (s.touchPage pg).blocks = s.blocks := by
  unfold State.touchPage
  split
  · rfl
  · split <;> rfl

@[simp] theorem State.outPages_blocks (s : State) (pgs : List Nat) : (s.outPages pgs).blocks = s.blocks := by
  refine State.foldl_blocks (fun t pg => ?_) pgs s
  split
  · rfl
  · split <;> rfl

@[simp] theorem State.pageWork_blocks (s : State) : s.pageWork.blocks = s.blocks := by
  unfold State.pageWork
  split
  · rfl
  · exact State.outPages_blocks _ _

@[simp] theorem State.enterPage_blocks (s : State) (pg : Nat) : (s.enterPage pg).blocks = s.blocks := by
  unfold State.enterPage
  split
  · exact State.pageWork_blocks _
  · exact State.touchPage_blocks s pg

@[simp] theorem State.pntErr_blocks (s : State) (bit info addr : Nat) : (s.pntErr bit info addr).blocks = s.blocks := State.raise_blocks ..

theorem State.sendPause_blocks (s : State) (n c q : Nat) : (s.sendPause n c q).blocks = s.blocks := by
  unfold State.sendPause
  split <;> rfl

theorem State.pfcPort_blocks (c : Nat) (s : State) (n : Nat) : (s.pfcPort c n).blocks = s.blocks := by
  unfold State.pfcPort
  dsimp only
  split
  · exact State.sendPause_blocks _ _ _ _
  · split
    · exact State.sendPause_blocks _ _ _ _
    · rfl

theorem State.noteLevels_blocks (s : State) (c : Nat) : (s.noteLevels c).blocks = s.blocks := by
  refine State.foldl_blocks (fun t p => ?_) _ s
  rfl

@[simp] theorem State.compareClass_blocks (s : State) (c : Nat) : (s.compareClass c).blocks = s.blocks := by
  unfold State.compareClass
  dsimp only
  split
  · exact (State.foldl_blocks (State.pfcPort_blocks c) _ _).trans (State.noteLevels_blocks s c)
  · split <;> exact State.noteLevels_blocks s c

theorem State.alloc_blocks {s t : State} {c p q : Nat} {port : Option Nat} (h : s.alloc c p port = some (q, t)) : t.blocks = s.blocks := by
  unfold State.alloc at h
  split at h
  · exact absurd h.symm (Option.some_ne_none _)
  · split at h
    · exact absurd h.symm (Option.some_ne_none _)
    · cases h
      simp

@[simp] theorem State.freeBuf_blocks (s : State) (unit pool q : Nat) : (s.freeBuf unit pool q).blocks = s.blocks := by
  unfold State.freeBuf
  dsimp only
  split
  · simp
  · split
    · simp
    · split <;> simp

@[simp] theorem State.freeBufs_blocks (s : State) (unit : Nat) (qs : List Nat) : (s.freeBufs unit qs).blocks = s.blocks :=
  State.foldl_blocks (fun t _ => State.freeBuf_blocks t _ _ _) qs s

@[simp] theorem State.touchBufs_blocks (s : State) (qs : List Nat) : (s.touchBufs qs).blocks = s.blocks :=
  State.foldl_blocks (fun t _ => State.touchPage_blocks t _) qs s

@[simp] theorem State.overrun_blocks (s : State) (unit c p : Nat) : (s.overrun unit c p).blocks = s.blocks := by simp [State.overrun]

/-! ### Rally links -/

@[simp] theorem State.sendHeld_blocks (s : State) (n type : Nat) (bad isEnd : Bool) (epoch ack : Nat) (content : List Byte) :
    (s.sendHeld n type bad isEnd epoch ack content).blocks = s.blocks := rfl

@[simp] theorem State.flushControl_blocks (n fuel : Nat) (s : State) : (s.flushControl n fuel).blocks = s.blocks := by
  induction fuel generalizing s with
  | zero => rfl
  | succ fuel ih =>
    unfold State.flushControl
    dsimp only
    split
    · rfl
    · split
      · exact ih _
      · rfl

@[simp] theorem State.flushLane_blocks (n : Nat) (s : State) (lane : Nat) : (s.flushLane n lane).blocks = s.blocks := by
  unfold State.flushLane
  dsimp only
  split
  · rfl
  · refine State.foldl_blocks (fun t m => ?_) _ _
    rfl

@[simp] theorem State.returnCredits_blocks (s : State) (k : Pkt) : (s.returnCredits k).blocks = s.blocks := by
  unfold State.returnCredits
  split
  · rfl
  · exact State.flushLane_blocks _ _ _

@[simp] theorem State.sendPacket_blocks (s : State) (n : Nat) (k : Pkt) : (s.sendPacket n k).blocks = s.blocks := by
  refine State.foldl_blocks (fun t i => ?_) _ _
  rfl

@[simp] theorem State.freePkt_blocks (s : State) (k : Pkt) : (s.freePkt k).blocks = s.blocks := State.freeBufs_blocks s _ _

@[simp] theorem State.askHeads_blocks (s : State) (n : Nat) : (s.askHeads n).blocks = s.blocks := by
  refine State.foldl_blocks (fun t q => ?_) _ s
  split
  · split <;> simp
  · rfl

@[simp] theorem State.pump_blocks (n fuel : Nat) (s : State) : (s.pump n fuel).blocks = s.blocks := by
  induction fuel generalizing s with
  | zero => rfl
  | succ fuel ih =>
    unfold State.pump
    split
    · rfl
    extract_lets s0 lane
    have h0 : s0.blocks = s.blocks := by
      simp only [s0]
      split <;> rfl
    split
    · exact h0
    · rw [ih, ← h0]
      simp

@[simp] theorem State.pumpPort_blocks (s : State) (n : Nat) : (s.pumpPort n).blocks = s.blocks := by simp [State.pumpPort]

/-! ### Packets -/

@[simp] theorem State.fabErr_blocks (s : State) (bit port axis coord reason hi : Nat) :
    (s.fabErr bit port axis coord reason hi).blocks = s.blocks := State.raise_blocks ..

@[simp] theorem State.dropPkt_blocks (s : State) (k : Pkt) : (s.dropPkt k).blocks = s.blocks :=
  (State.returnCredits_blocks (s.freePkt k) k).trans (State.freePkt_blocks s k)

@[simp] theorem State.noteLost_blocks (s : State) (k : Pkt) : (s.noteLost k).blocks = s.blocks := by
  unfold State.noteLost
  split <;> rfl

theorem State.queuePkt_blocks (s : State) (n lane : Nat) (k : Pkt) : (s.queuePkt n lane k).blocks = s.blocks := by
  unfold State.queuePkt
  dsimp only
  split
  · simp
  · split
    · simp
    · split <;> split <;> simp

@[simp] theorem State.noRoute_blocks (s : State) (k : Pkt) (axis coord reason : Nat) : (s.noRoute k axis coord reason).blocks = s.blocks := by
  simp [State.noRoute]

@[simp] theorem State.stale_blocks (s : State) (k : Pkt) : (s.stale k).blocks = s.blocks := by simp [State.stale]

theorem State.takeDetour_blocks (s : State) (k : Pkt) (a d p : Nat) : (s.takeDetour k a d p).blocks = s.blocks := by
  unfold State.takeDetour
  split
  · exact State.noRoute_blocks s _ _ _ _
  · exact State.queuePkt_blocks _ _ _ _

@[simp] theorem State.route_blocks (s : State) (k : Pkt) : (s.route k).blocks = s.blocks := by
  unfold State.route
  split
  · exact State.dropPkt_blocks s k
  dsimp only
  split
  · exact State.noRoute_blocks s _ _ _ _
  split
  · exact State.queuePkt_blocks s _ _ _
  split
  · exact State.takeDetour_blocks s _ _ _ _
  · exact State.noRoute_blocks s _ _ _ _

/-- A packet injected here changes no block. -/
@[simp] theorem State.injectAs_blocks (s : State) (loose : Bool) (unit dst cls txn opc arg : Nat) (mc : Option Nat) (payload : List Byte) :
    (s.injectAs loose unit dst cls txn opc arg mc payload).blocks = s.blocks := by
  unfold State.injectAs
  dsimp only
  split
  · exact State.stale_blocks _ _
  split
  · split <;> exact State.route_blocks _ _
  split
  · next halloc =>
    have h := State.alloc_blocks halloc
    split <;> exact (State.route_blocks _ _).trans h
  · exact State.overrun_blocks _ _ _ _

/-! ### Device memory -/

theorem State.memUe_blocks (s : State) (who kind a : Nat) : (s.memUe who kind a).blocks = s.blocks := by simp [State.memUe]

theorem State.wake_blocks (s : State) (ps : List (Nat × Nat)) : (s.wake ps).blocks = s.blocks := by
  refine State.foldl_blocks (fun t p => ?_) ps s
  dsimp only
  split <;> rfl

theorem State.devPutAll_blocks (ps : List (Nat × Nat)) (s : State) (bs : List Byte) : (s.devPutAll ps bs).1.blocks = s.blocks := by
  induction ps generalizing s bs with
  | nil => rfl
  | cons p ps ih => exact ih _ _

theorem State.devRead_blocks {s t : State} {who a n st : Nat} {bs : List Byte} (h : s.devRead who a n = (st, bs, t)) : t.blocks = s.blocks := by
  unfold State.devRead State.devReadAs at h
  dsimp only at h
  split at h
  · cases h; rfl
  split at h
  · cases h
    exact (State.memUe_blocks _ _ _ _).trans (State.wake_blocks s _)
  · cases h
    split <;> exact State.wake_blocks s _

theorem State.devWrite_blocks {s t : State} {who a st : Nat} {bs : List Byte} (h : s.devWrite who a bs = (st, t)) : t.blocks = s.blocks := by
  have hput : ((s.wake (s.devPieces a bs.length)).devPutAll (s.devPieces a bs.length) bs).1.blocks = s.blocks :=
    (State.devPutAll_blocks _ _ _).trans (State.wake_blocks s _)
  unfold State.devWrite at h
  split at h
  · cases h; rfl
  dsimp only at h
  split at h
  · cases h; rfl
  split at h
  · cases h
    exact (State.memUe_blocks _ _ _ _).trans hput
  · cases h
    exact hput

theorem State.freeAt_blocks (s : State) (a n : Nat) : (s.freeAt a n).blocks = s.blocks := by
  refine State.foldl_blocks (fun t p => ?_) _ s
  rfl

/-! ### Collectives -/

@[simp] theorem State.finishOpen_blocks (s : State) (c : OpenCmd) (st r0 r1 nf : Nat) : (s.finishOpen c st r0 r1 nf).blocks = s.blocks :=
  State.finishIn_blocks ..

@[simp] theorem State.endLaunch_blocks (s : State) (seq st : Nat) : (s.endLaunch seq st).blocks = s.blocks := by
  unfold State.endLaunch
  split <;> simp

theorem State.collSends_blocks (l : LRec) (rank opc : Nat) (payload : List Byte) (ds : List (Nat × Nat)) (s : State) :
    (s.collSends l rank opc payload ds).2.blocks = s.blocks := by
  induction ds generalizing s with
  | nil => rfl
  | cons d ds ih =>
    unfold State.collSends
    dsimp only
    split
    · rfl
    split
    · exact State.fabErr_blocks ..
    · exact (ih _).trans (State.injectAs_blocks ..)

@[simp] theorem State.freeSlot_blocks (s : State) (j : Nat) : (s.freeSlot j).blocks = s.blocks := State.freeBufs_blocks s _ _

theorem State.collEnds_blocks (s : State) (l : LRec) (seq tag rank bit peer chunk addr : Nat) (remote : Option Nat) :
    (s.collEnds l seq tag rank bit peer chunk addr remote).blocks = s.blocks := by
  unfold State.collEnds
  dsimp only
  split
  · simp [State.freeAt_blocks]
  · refine (State.foldl_blocks (fun _ _ => State.injectAs_blocks ..) _ _).trans ?_
    simp [State.freeAt_blocks]

@[simp] theorem State.collFault_blocks (s : State) (j bit peer chunk addr : Nat) (remote : Option Nat) :
    (s.collFault j bit peer chunk addr remote).blocks = s.blocks := by
  unfold State.collFault
  dsimp only
  split
  · rfl
  · exact (State.collEnds_blocks ..).trans (State.freeSlot_blocks s j)

theorem State.queueFault_blocks (s : State) (h : HeldLaunch) (bit peer : Nat) (remote : Option Nat) :
    (s.queueFault h bit peer remote).blocks = s.blocks := State.collEnds_blocks ..

/-- What follows a send leaves the blocks where the send did. -/
theorem settleSend_blocks (j : Nat) (r : Option SendEnd × State) :
    (settleSend (fun bit d s => s.collFault j bit d 0 0 none) r).blocks = r.2.blocks := by
  obtain ⟨e, s⟩ := r
  match e with
  | none => rfl
  | some (.missing d) => exact State.collFault_blocks ..
  | some .loose => exact State.collFault_blocks ..

theorem State.deliverColl_blocks (s : State) (j : Nat) : (s.deliverColl j).blocks = s.blocks := by
  unfold State.deliverColl
  dsimp only
  split <;> simp

theorem State.readInput_blocks {s t : State} {j off len st : Nat} {bs : List Byte} (h : s.readInput j off len = (st, bs, t)) :
    t.blocks = s.blocks := by
  unfold State.readInput at h
  dsimp only at h
  split at h
  · cases h; rfl
  · exact State.devRead_blocks h

theorem State.askSenders_blocks (s : State) (j : Nat) : (s.askSenders j).blocks = s.blocks := by
  unfold State.askSenders
  dsimp only
  split
  · rfl
  · exact (settleSend_blocks j _).trans (State.collSends_blocks _ _ _ _ _ _)

theorem State.collOutput_blocks (s : State) (j : Nat) : (s.collOutput j).blocks = s.blocks := by
  unfold State.collOutput
  dsimp only
  split
  · next hread =>
    have hr := State.readInput_blocks hread
    split
    · next hwrite =>
      exact ((settleSend_blocks j _).trans (State.collSends_blocks _ _ _ _ _ _)).trans ((State.devWrite_blocks hwrite).trans hr)
    · next hwrite => exact (State.collFault_blocks ..).trans ((State.devWrite_blocks hwrite).trans hr)
  · next hread => exact (State.collFault_blocks ..).trans (State.readInput_blocks hread)

theorem State.collAdvance_blocks (s : State) (j : Nat) : (s.collAdvance j).blocks = s.blocks := by
  unfold State.collAdvance
  extract_lets x s1 x1 s2 x2
  have h1 : s1.blocks = s.blocks := by
    refine (State.askSenders_blocks _ j).trans ?_
    split <;> rfl
  have h2 : s2.blocks = s.blocks := by
    simp only [s2]
    split
    · exact (State.collOutput_blocks s1 j).trans h1
    · exact h1
  split
  · exact (State.deliverColl_blocks s2 j).trans h2
  · exact h2

theorem State.collCheck_blocks (s : State) : s.collCheck.blocks = s.blocks := by
  unfold State.collCheck
  refine (State.foldl_blocks (fun t j => ?_) _ _).trans ((State.foldl_blocks (fun t h => ?_) _ _).trans rfl)
  · dsimp only
    split
    · rfl
    split
    · exact State.collFault_blocks ..
    split
    · rfl
    · exact State.collAdvance_blocks t j
  · split
    · exact State.queueFault_blocks ..
    · rfl

/-- Whatever the collectives do after a command, they change no block: what they tell one, they send to its counter (R404, R408). -/
theorem State.collSettle_blocks (s : State) : s.collSettle.blocks = s.blocks := by
  unfold State.collSettle
  split
  · rfl
  · exact State.collCheck_blocks s

end Sys2Proof.Machine
end

section
/-! PROOFS. What is left of a block by the release of waiting commands and by a command of the issue stage. -/

namespace Sys2Proof.Machine

/-! ### What the release of waiting commands does to a block -/

/-- Each block differs at most in its queue of runs. -/
def State.Requeues (s t : State) : Prop := ∀ p, ∃ q, t.block p = { s.block p with runq := q }

theorem State.Requeues.of_blocks {s t : State} (h : t.blocks = s.blocks) : s.Requeues t := fun p =>
  ⟨(s.block p).runq, by rw [State.block, h]; rfl⟩

theorem State.Requeues.refl (s : State) : s.Requeues s := .of_blocks rfl

theorem State.Requeues.trans {s t u : State} (h : s.Requeues t) (k : t.Requeues u) : s.Requeues u := fun p => by
  obtain ⟨q, hq⟩ := h p
  obtain ⟨r, hr⟩ := k p
  exact ⟨r, by rw [hr, hq]⟩

theorem State.Requeues.foldl {α : Type} {f : State → α → State} (l : List α) (s : State) (h : ∀ (t : State) (a : α), t.Requeues (f t a)) :
    s.Requeues (l.foldl f s) :=
  List.foldlRecOn (motive := s.Requeues) l f (.refl s) fun t ht a _ => ht.trans (h t a)

theorem State.Requeues.dequeue (s : State) (b q : Nat) : s.Requeues (s.onBlock b (Block.dequeue q)) := fun p => by
  rw [State.block_onBlock]
  split
  · next hp => exact ⟨_, by rw [hp]; rfl⟩
  · exact ⟨_, rfl⟩

theorem State.Requeues.finishOpen (s : State) (c : OpenCmd) (st r0 r1 nf : Nat) : s.Requeues (s.finishOpen c st r0 r1 nf) :=
  .of_blocks (State.finishOpen_blocks ..)

theorem State.Requeues.unpool (s : State) (q : Nat) : s.Requeues (s.unpool q) := .of_blocks rfl

/-- A command that ends unexecuted leaves the queues it stands in. -/
theorem State.Requeues.dropCmd (s : State) (q st : Nat) : s.Requeues (s.dropCmd q st) := by
  cases h : s.openCmd q with
  | none => unfold State.dropCmd; rw [h]; exact .refl s
  | some c =>
    rw [State.dropCmd_open s q st c h]
    have hqueues := State.Requeues.foldl c.targets s fun t x => .dequeue t x.2 q
    exact (hqueues.trans (.unpool _ q)).trans (.finishOpen _ _ _ _ _ _)

theorem State.Requeues.wakeOne (s : State) (q : Nat) : s.Requeues (s.wakeOne q) := by
  unfold State.wakeOne
  split
  · exact .refl s
  split
  · exact .refl s
  · exact .dropCmd s _ _
  · refine .trans (.of_blocks ?_) (.finishOpen _ _ _ _ _ _)
    split <;> rfl

theorem State.Requeues.wakeHost (s : State) : s.Requeues s.wakeHost :=
  (State.Requeues.foldl _ s fun t q => .wakeOne t q).trans (.foldl _ _ fun t c => .dropCmd t c.seq stAbandoned)

/-! ### What a command of the issue stage leaves of a block -/

/-- A block after such a command is as its effect leaves it, whatever collectives run. -/
theorem State.block_settled (s u : State) (p : Nat) : (s.keep touchBlock u.collSettle).block p = u.block p :=
  congrArg (fun bs => Sparse.get ({} : Block) bs p) (State.collSettle_blocks u)

/-- A command of the issue stage that ends with the release of waiting commands. -/
theorem State.answer_settled {s u : State} {p : Nat} {b : Block} (h : u.block p = b) :
    ∃ t q, s.answer touchBlock u.wakeHost.collSettle = .next t ∧ t.block p = { b with runq := q } := by
  obtain ⟨q, hq⟩ := State.Requeues.wakeHost u p
  exact ⟨s.keep touchBlock u.wakeHost.collSettle, q, State.answer_eq .., (State.block_settled s _ p).trans (hq.trans (h ▸ rfl))⟩

theorem State.block_landed (s : State) (p : Nat) : (s.landed p).block p = (s.block p).land (s.block p).beats := State.block_setBlock ..

theorem State.block_onBlock_same (s : State) (p : Nat) (f : Block → Block) : (s.onBlock p f).block p = f (s.block p) := by
  rw [State.block_onBlock, if_pos rfl]

end Sys2Proof.Machine
end

section
/-! PROOFS. Beats in which no word issues, and the end of a command (R57, R67, R89, R195, R552). -/

namespace Sys2Proof.Machine

/-! ### Empty beats -/

theorem exec_emptyBeat_eq (s : State) (p : Nat) (reads : StoreRead) (op residue : Option Nat) :
    exec (.emptyBeat p reads op residue) s = s.answer touchBlock (s.emptyBeat p reads op residue).collSettle := rfl

/-- A block in which an empty beat is counted, with the phase that follows it. -/
def Block.emptied (run : Run) (ph : Phase) (b : Block) : Block := ({ b with run := some { run with phase := ph } } : Block).countBeat

/-- A beat in which every read of the block store is clean. -/
theorem State.storeBeat_clean (s : State) (p : Nat) (op residue : Option Nat) (next : State → State) :
    s.storeBeat p .clean op residue next = s.beat p residue next := rfl

/-- An empty beat that is due counts, and the run goes on to its next phase. -/
theorem State.emptyBeat_counts {s : State} {p : Nat} {op residue : Option Nat} {run : Run} {ph : Phase}
    (hrun : (s.block p).run = some run) (hbeat : s.canBeat p = true) (hlate : (s.block p).lateFault (s.block p).beats = none)
    (hres : ((s.landed p).block p).residueHit residue = none) (hdue : run.phase ≠ .issue)
    (hph : phaseBeat run (!((s.landed p).block p).pend.isEmpty) = some ph) :
    s.emptyBeat p .clean op residue = ((s.landed p).onBlock p (Block.emptied run ph)).wakeHost := by
  unfold State.emptyBeat
  rw [hrun]
  dsimp only
  rw [hbeat, if_neg (by decide), if_neg hdue]
  rw [State.storeBeat_clean, State.beat_next hlate hres, hph]
  rfl

/-- What the command leaves of the block. -/
theorem exec_emptyBeat_counts {s : State} {p : Nat} {op residue : Option Nat} {run : Run} {ph : Phase}
    (hrun : (s.block p).run = some run) (hbeat : s.canBeat p = true) (hlate : (s.block p).lateFault (s.block p).beats = none)
    (hres : ((s.block p).land (s.block p).beats).residueHit residue = none) (hdue : run.phase ≠ .issue)
    (hph : phaseBeat run (!((s.block p).land (s.block p).beats).pend.isEmpty) = some ph) :
    ∃ t q, exec (.emptyBeat p .clean op residue) s = .next t ∧
      t.block p = { ((s.block p).land (s.block p).beats).emptied run ph with runq := q } := by
  rw [← State.block_landed] at hres hph ⊢
  rw [exec_emptyBeat_eq, State.emptyBeat_counts hrun hbeat hlate hres hdue hph]
  exact State.answer_settled (State.block_onBlock_same _ _ _)

/-! ### The end of a command -/

theorem exec_commandEnd_eq (s : State) (p : Nat) : exec (.commandEnd p) s = s.answer touchBlock (s.commandEnd p) := rfl

/-- The state in which the end of a block's command has been traced (R99). -/
def State.endTraced (p : Nat) (s : State) : State := s.traceRec p 1 (s.block p).lastOff (s.block p).lastStep 0xFF 0 0 0 0

/-- After END, with nothing in flight, the run ends (R89). -/
theorem State.commandEnd_ends {s : State} {p : Nat} {run : Run} (hrun : (s.block p).run = some run)
    (hlate : (s.block p).lateFault (s.block p).beats = none) (hphase : run.phase = .ending 0) (hfence : s.fencedBlock p = false)
    (hpend : ((s.landed p).block p).pend = []) :
    s.commandEnd p = (((s.landed p).endTraced p).endRun p 0 ((s.landed p).block p).step 0).wakeHost := by
  unfold State.commandEnd
  rw [hrun]
  dsimp only
  rw [hfence, hphase, if_neg (by decide), State.beat_next hlate rfl, hpend]
  rfl

/-- With no target failed, a RUN completes with STATUS 0 (R552). -/
theorem State.finishRun_clean {s : State} {c : OpenCmd} (hfaults : c.faults = []) (hroom : s.hif.done.length < 4096) :
    (s.finishRun c).hif.done = s.hif.done ++ [c.compl 0 c.okStep 0 0] := by
  have hlearn := (State.Records.learn s c.entryOff c.energy c.start).done
  have hroom' : (s.learn c.entryOff c.energy c.start).room c.ring = true := by simp [State.room, hlearn, hroom]
  unfold State.finishRun
  rw [hfaults]
  refine (congrArg (fun t : State => t.hif.done) (State.finishOpen_room _ c 0 c.okStep 0 0 hroom')).trans ?_
  rw [hlearn]

/-- The last target of a RUN that ends, with none failed, completes it (R552). -/
theorem State.targetEnd_lastClean {s : State} {q shape step r1 : Nat} {c : OpenCmd} (hc : s.openCmd q = some c)
    (hshape : c.targets.map Prod.fst = [shape]) (hfaults : c.faults = []) (hroom : s.hif.done.length < 4096) :
    (s.targetEnd q shape 0 step r1).hif.done = s.hif.done ++ [c.compl 0 (if shape = c.first then step else c.okStep) 0 0] := by
  obtain ⟨t, ht, rfl⟩ := List.map_eq_singleton_iff.mp hshape
  have hlast : c.targets.filter (fun x => x.1 != t.1) = [] := by simp [ht]
  unfold State.targetEnd
  rw [hc]
  dsimp only
  rw [hlast, if_pos (by rfl), State.finishRun_clean (by simpa using hfaults) hroom]
  rfl

/-- The end of a run that a host command started is the end of its target (R552). -/
theorem State.endRun_target {s : State} {p q st step r1 : Nat} {run : Run} {c : OpenCmd} (hrun : (s.block p).run = some run)
    (hq : run.req.seq = some q) (hc : s.openCmd q = some c) :
    s.endRun p st step r1 =
      ((s.onBlock p Block.ended).setOpen { c with energy := c.energy + run.energy }).targetEnd q ((s.shapeOf p).getD 0) st step r1 := by
  have hc' : (s.onBlock p Block.ended).openCmd q = some c := hc
  unfold State.endRun
  rw [hrun]
  dsimp only
  rw [hq, ← State.addEnergy_open hc']
  rfl

/-- The last block of a RUN to end its run, with none failed: the RUN completes. -/
theorem State.endRun_lastClean {s : State} {p q shape step r1 : Nat} {run : Run} {c : OpenCmd} (hrun : (s.block p).run = some run)
    (hq : run.req.seq = some q) (hc : s.openCmd q = some c) (hshape : c.targets.map Prod.fst = [shape]) (hp : s.shapeOf p = some shape)
    (hfaults : c.faults = []) (hroom : s.hif.done.length < 4096) :
    (s.endRun p 0 step r1).hif.done = s.hif.done ++ [c.compl 0 (if shape = c.first then step else c.okStep) 0 0] := by
  have hc' : (s.onBlock p Block.ended).openCmd q = some c := hc
  have hopen := State.openCmd_setOpen (d := { c with energy := c.energy + run.energy }) hc' (State.openCmd_seq (c := c) hc)
  rw [State.endRun_target hrun hq hc, hp, Option.getD_some]
  exact State.targetEnd_lastClean (c := { c with energy := c.energy + run.energy }) hopen hshape hfaults hroom

theorem State.learn_blocks (s : State) (entry energy start : Nat) : (s.learn entry energy start).blocks = s.blocks := by
  unfold State.learn
  split
  · rfl
  · dsimp only
    split <;> rfl

/-- A run of the prep core that ends raises interrupt 17 (R195). -/
theorem State.endRun_interrupts {s : State} {p st step r1 : Nat} {run : Run} (hrun : (s.block p).run = some run) (hq : run.req.seq = none) :
    ((s.endRun p st step r1).block p).prep.mip.getLsbD 17 = true := by
  unfold State.endRun
  rw [hrun]
  dsimp only
  rw [hq]
  dsimp only
  rw [State.block, State.learn_blocks, ← State.block, State.block_onBlock_same, BitVec.getLsbD_or]
  exact Bool.or_eq_true_iff.mpr (.inr (by decide))

/-- What COMMAND_END leaves of the run, its interrupt and its completion. -/
theorem exec_commandEnd_ends {s : State} {p : Nat} {run : Run} (hrun : (s.block p).run = some run)
    (hlate : (s.block p).lateFault (s.block p).beats = none) (hphase : run.phase = .ending 0) (hfence : s.fencedBlock p = false)
    (hpend : ((s.block p).land (s.block p).beats).pend = []) (hroom : s.hif.done.length < 4096) :
    ∃ t, exec (.commandEnd p) s = .next t ∧ (t.block p).run = none ∧
      (run.req.seq = none → (t.block p).prep.mip.getLsbD 17 = true) ∧
      (∀ (q shape : Nat) (c : OpenCmd), run.req.seq = some q → s.openCmd q = some c → c.targets.map Prod.fst = [shape] →
        s.shapeOf p = some shape → c.faults = [] → ∃ more, t.hif.done = s.hif.done ++
          c.compl 0 (if shape = c.first then ((s.block p).land (s.block p).beats).step else c.okStep) 0 0 :: more) := by
  rw [← State.block_landed] at hpend ⊢
  let u := (s.landed p).endTraced p
  let v := u.endRun p 0 ((s.landed p).block p).step 0
  have htraced : (s.landed p).Records u := .traceRec _ _ _ _ _ _ _ _ _ _
  have hurun : (u.block p).run = some run := by
    obtain ⟨tr, htr⟩ := htraced.block p
    rw [htr, State.block_landed]
    exact (Block.Settles.land _ _).run.trans hrun
  have hwake := State.Steady.wakeHost v
  refine ⟨s.keep touchBlock v.wakeHost, ?_, ?_, fun hq => ?_, fun q shape c hq hc hshape hp hfaults => ?_⟩
  · rw [exec_commandEnd_eq, State.commandEnd_ends hrun hlate hphase hfence hpend]
    rfl
  · exact (hwake.block p).run (u.endRun_steady p 0 _ 0).2
  · obtain ⟨rq, hrq⟩ := State.Requeues.wakeHost v p
    have hmip : (v.block p).prep.mip.getLsbD 17 = true := State.endRun_interrupts hurun hq
    change (v.wakeHost.block p).prep.mip.getLsbD 17 = true
    rwa [hrq]
  · have hdone : u.hif.done = s.hif.done := htraced.done
    have huc : u.openCmd q = some c := by
      rw [State.openCmd, htraced.opened]
      exact hc
    have hup : u.shapeOf p = some shape := by
      rw [State.shapeOf, htraced.place]
      exact hp
    obtain ⟨more, hmore⟩ := hwake.done
    refine ⟨more, ?_⟩
    change v.wakeHost.hif.done = _
    rw [← hmore, State.endRun_lastClean hurun hq huc hshape hup hfaults (by rwa [hdone]), hdone, List.append_assoc, List.singleton_append]

/-- Settles O35: each empty beat counts and goes on to the phase after it, and the end of the command ends its run. -/
theorem emptyBeatsAndCommandEnd : Obligations.EmptyBeatsAndCommandEnd := by
  intro s p run hrun hlate b
  refine ⟨fun op residue hbeat hres => ⟨fun k hk hphase => ?_, fun k idle hk hphase => ?_, fun k hk hphase => ?_, fun hphase hpend => ?_⟩,
    fun hphase hfence hpend hroom => exec_commandEnd_ends hrun hlate hphase hfence hpend hroom⟩
  · have hone : k ≤ 1 ↔ k = 1 := by omega
    refine exec_emptyBeat_counts hrun hbeat hlate hres (by simp [hphase]) ?_
    simp [phaseBeat, hphase, hone]
  · have hone : k ≤ 1 ↔ k = 1 := by omega
    refine exec_emptyBeat_counts hrun hbeat hlate hres (by simp [hphase]) ?_
    simp [phaseBeat, hphase, hone, phaseAfter]
  · refine exec_emptyBeat_counts hrun hbeat hlate hres (by simp [hphase]) ?_
    simp [phaseBeat, hphase, Nat.ne_of_gt hk]
  · have hsame : ({ run with phase := .ending 0 } : Run) = run := by rw [← hphase]
    have hbrun : b.run = some run := (Block.Settles.land _ _).run.trans hrun
    obtain ⟨t, q, ht, hblock⟩ := exec_emptyBeat_counts (op := op) (ph := .ending 0) hrun hbeat hlate hres (by simp [hphase])
      (by simpa [phaseBeat, hphase] using hpend)
    refine ⟨t, q, ht, hblock.trans ?_⟩
    rw [Block.emptied, hsame, ← hbrun]

end Sys2Proof.Machine
end

section
/-! PROOFS. What a word that issues leaves of its block (R53, R57, R84). -/

namespace Sys2Proof.Machine

/-! ### What one slot may do to its block -/

/-- A cell whose V, tile and A registers are those of another. -/
def Cell.KeepsRegs (x y : Cell) : Prop := y.v = x.v ∧ y.t = x.t ∧ y.a = x.a

theorem Cell.KeepsRegs.refl (x : Cell) : x.KeepsRegs x := ⟨rfl, rfl, rfl⟩

theorem Cell.KeepsRegs.trans {x y z : Cell} (h : x.KeepsRegs y) (k : y.KeepsRegs z) : x.KeepsRegs z := by
  obtain ⟨hv, ht, ha⟩ := h
  obtain ⟨kv, kt, ka⟩ := k
  exact ⟨kv.trans hv, kt.trans ht, ka.trans ha⟩

/-- A fold of steps that keep a cell's registers. -/
theorem Cell.KeepsRegs.foldl {α : Type} {f : Cell → α → Cell} (l : List α) (x : Cell) (h : ∀ (y : Cell) (a : α), y.KeepsRegs (f y a)) :
    x.KeepsRegs (l.foldl f x) :=
  List.foldlRecOn (motive := x.KeepsRegs) l f (.refl x) fun y hy a _ => hy.trans (h y a)

/-- What the issue of a word at beat `n` may do to its block: operations are put in flight behind those there, none due before the beat, and no
register, loop counter or byte of the store changes (R53, R84). -/
structure Block.Issues (n : Nat) (b c : Block) : Prop where
  beats : c.beats = b.beats
  step : c.step = b.step
  s : c.s = b.s
  lc : c.lc = b.lc
  store : c.store = b.store
  pend : ∃ more, c.pend = b.pend ++ more ∧ ∀ m ∈ more, n ≤ m.due
  cell : ∀ k, (b.cell k).KeepsRegs (c.cell k)

/-- A change of other parts of the block. -/
theorem Block.Issues.of_same {n : Nat} {b c : Block} (beats : c.beats = b.beats) (step : c.step = b.step) (s : c.s = b.s) (lc : c.lc = b.lc)
    (store : c.store = b.store) (pend : c.pend = b.pend) (cells : c.cells = b.cells) : b.Issues n c :=
  ⟨beats, step, s, lc, store, ⟨[], by simp [pend], fun _ hm => absurd hm List.not_mem_nil⟩, fun k => by
    rw [Block.cell, Block.cell, cells]; exact .refl _⟩

theorem Block.Issues.refl (n : Nat) (b : Block) : b.Issues n b := .of_same rfl rfl rfl rfl rfl rfl rfl

theorem Block.Issues.trans {n : Nat} {b c d : Block} (h : b.Issues n c) (k : c.Issues n d) : b.Issues n d where
  beats := k.beats.trans h.beats
  step := k.step.trans h.step
  s := k.s.trans h.s
  lc := k.lc.trans h.lc
  store := k.store.trans h.store
  pend := by
    obtain ⟨l, hl, hdue⟩ := h.pend
    obtain ⟨m, hm, kdue⟩ := k.pend
    exact ⟨l ++ m, by rw [hm, hl, List.append_assoc], fun x hx => (List.mem_append.mp hx).elim (hdue x) (kdue x)⟩
  cell i := (h.cell i).trans (k.cell i)

theorem Block.Issues.foldl {n : Nat} {α : Type} {f : Block → α → Block} (l : List α) (b : Block) (h : ∀ (c : Block) (a : α), c.Issues n (f c a)) :
    b.Issues n (l.foldl f b) :=
  List.foldlRecOn (motive := fun c => b.Issues n c) l f (.refl n b) fun c hc a _ => hc.trans (h c a)

theorem Block.Issues.post {n due : Nat} (b : Block) (k : PendKind) (h : n ≤ due) : b.Issues n (b.post due k) :=
  ⟨rfl, rfl, rfl, rfl, rfl, ⟨_, rfl, fun m hm => by rwa [List.mem_singleton.mp hm]⟩, fun _ => .refl _⟩

theorem Block.Issues.andPost {n due : Nat} {b c : Block} {k : PendKind} (h : b.Issues n c) (hdue : n ≤ due) : b.Issues n (c.post due k) :=
  h.trans (.post c k hdue)

theorem Block.cell_onCell (b : Block) (i k : Nat) (f : Cell → Cell) : (b.onCell i f).cell k = if k = i then f (b.cell k) else b.cell k := by
  unfold Block.onCell Block.cell
  split
  · next h => rw [h, Sparse.get_set_same]
  · next h => exact Sparse.get_set_other _ _ _ _ _ h

theorem Block.Issues.onCell {n : Nat} (b : Block) (i : Nat) (f : Cell → Cell) (h : (b.cell i).KeepsRegs (f (b.cell i))) : b.Issues n (b.onCell i f) := by
  refine ⟨rfl, rfl, rfl, rfl, rfl, ⟨[], (List.append_nil _).symm, fun _ hm => absurd hm List.not_mem_nil⟩, fun k => ?_⟩
  rw [Block.cell_onCell]
  split
  · next hk => rwa [hk]
  · exact .refl _

/-! ### The matrix slots -/

theorem Cell.KeepsRegs.mmaColumn (x : Cell) (w a : Nat) (tile side : List Byte) (xs : List Num) (col : Nat) (acc : Bool) :
    x.KeepsRegs (x.mmaColumn w a tile side xs col acc) := by
  refine Cell.KeepsRegs.foldl _ x fun y r => ?_
  exact ⟨rfl, rfl, rfl⟩

theorem Cell.KeepsRegs.zeroColumns (x : Cell) (col n : Nat) : x.KeepsRegs (x.zeroColumns col n) := ⟨rfl, rfl, rfl⟩

/-- The array of a cell in use until a beat (R86). -/
theorem Cell.KeepsRegs.busy (x : Cell) (free last : Nat) : x.KeepsRegs { x with arrayFree := free, lastProduct := last } := ⟨rfl, rfl, rfl⟩

/-- The products of an MMA added to a cell's totals (R61). -/
def Cell.mmaAdded (r : Nat) (x : Cell) : Cell :=
  x.mmaColumn x.wfmt x.afmt (x.tileBytes (mT r)) (x.sideBytes (mT r)) (columnOf x.afmt (tileK x.wfmt x.afmt) (x.vreg (mV r))) (mCol r) (mAcc r)

/-- A cell in which an MMA has issued at beat `n`. -/
def Cell.mmaIssued (n r : Nat) (x : Cell) : Cell :=
  { x.mmaAdded r with arrayFree := n + occupancy x.wfmt x.afmt, lastProduct := n + occupancy x.wfmt x.afmt }

theorem Block.mma_eq (n r c : Nat) (b : Block) :
    b.mma n r c = (b.onCell c (Cell.mmaIssued n r)).post (n + occupancy (b.cell c).wfmt (b.cell c).afmt + 5) .token := by
  unfold Block.mma Block.onCell Cell.mmaIssued Cell.mmaAdded
  rfl

theorem Cell.KeepsRegs.mmaIssued (n r : Nat) (x : Cell) : x.KeepsRegs (x.mmaIssued n r) :=
  (Cell.KeepsRegs.mmaColumn _ _ _ _ _ _ _ _).trans (.busy (x.mmaAdded r) _ _)

theorem Block.Issues.mma (n r c : Nat) (b : Block) : b.Issues n (b.mma n r c) := by
  rw [Block.mma_eq]
  exact .andPost (.onCell b c _ (.mmaIssued n r _)) (by omega)

theorem Block.Issues.mmas (dense : Bool) (n r c : Nat) (b : Block) : b.Issues n (b.mmas dense n r c) := by
  unfold Block.mmas
  extract_lets cell k cc cols cell'
  have hcell : cell.KeepsRegs cell' := .foldl _ cell fun y ic => .mmaColumn y _ _ _ _ _ _ _
  exact .andPost (.onCell b c _ (hcell.trans (.busy cell' _ _))) (by omega)

theorem Block.Issues.postRows {n s : Nat} (c reg lo hi w : Nat) (mx : Bool) (img : List Byte) (b : Block) (h : n ≤ s) :
    b.Issues n (b.postRows s c reg lo hi w mx img) := by
  unfold Block.postRows
  extract_lets b1 used b2 b3
  have h1 : b.Issues n b1 := .foldl _ b fun x i => .post x _ (by omega)
  have h2 : b.Issues n b2 := by
    simp only [b2]
    split
    · exact h1.trans (.foldl _ b1 fun x j => .post x _ (by omega))
    · exact h1
  have h3 : b.Issues n b3 := h2.andPost (by omega)
  split
  · split
    · exact h3.andPost (by omega)
    · exact h3
  · exact h2

theorem Cell.le_drainStart (c : Cell) (n : Nat) : n ≤ c.drainStart n := Nat.le_max_left n c.lastProduct

theorem Block.Issues.drain (n r c : Nat) (b : Block) : b.Issues n (b.drain n r c) := by
  unfold Block.drain
  extract_lets cell s f vals cleared cell' b1
  have hs : n ≤ s := cell.le_drainStart n
  split
  split
  extract_lets b2 b3
  have hcell : cell.KeepsRegs cell' := by
    have hclear : cell.KeepsRegs cleared := by
      simp only [cleared]
      split
      · exact .zeroColumns _ _ _
      · exact .refl _
    exact hclear.trans ⟨rfl, rfl, rfl⟩
  have h1 : b.Issues n b1 := .onCell b c _ hcell
  have h2 : b.Issues n b2 := by
    simp only [b2]
    split
    · exact h1.andPost hs
    · exact h1
  have h3 : b.Issues n b3 := by
    simp only [b3]
    split
    · exact h2.andPost (by omega)
    split
    · exact (h2.trans (.postRows _ _ _ _ _ _ _ b2 hs)).trans (.postRows _ _ _ _ _ _ _ _ hs)
    · exact h2.trans (.postRows _ _ _ _ _ _ _ b2 hs)
  split
  · exact h3.andPost (by omega)
  · exact h3

theorem Block.Issues.mSlot (dense : Bool) (n r c : Nat) (b : Block) : b.Issues n (b.mSlot dense n r c) := by
  unfold Block.mSlot
  split
  · exact .mma n r c b
  split
  · exact .mmas dense n r c b
  split
  · exact .drain n r c b
  split
  · exact .onCell b c _ (.zeroColumns _ _ _)
  · exact .post b _ (by omega)

/-! ### The load, store and vector slots -/

theorem Block.Issues.load (n r c : Nat) (b : Block) : b.Issues n (b.load n r c) := by
  unfold Block.load
  dsimp only
  split
  · exact .post b _ (by omega)
  · split <;> exact .post b _ (by omega)

theorem Block.Issues.ldSlot (n pc slot r : Nat) (b : Block) : b.Issues n (b.ldSlot n pc slot r) := by
  unfold Block.ldSlot
  split
  · exact (Block.Issues.post b _ (by omega)).trans (.foldl _ _ fun x c => .post x _ (by omega))
  · exact .foldl _ b fun x c => .load n r c x

theorem Block.Issues.storeSlot (n r c : Nat) (b : Block) : b.Issues n (b.storeSlot n r c) := .post b _ (by omega)

/-- No result of a slot is visible before the beat at which it issues. -/
theorem le_slotVisible (c : Cell) (n slot r : Nat) (x : Reg) : n ≤ slotVisible c n slot r x := by
  have hs := c.le_drainStart n
  unfold slotVisible
  dsimp only
  split_ifs <;> omega

theorem Block.Issues.vecSlot (n r : Nat) (b : Block) : b.Issues n (b.vecSlot n r) := by
  unfold Block.vecSlot
  dsimp only
  split
  · exact .andPost (.of_same rfl rfl rfl rfl rfl rfl rfl) (by omega)
  split
  · exact .andPost (.of_same rfl rfl rfl rfl rfl rfl rfl) (by omega)
  split
  · exact .foldl _ b fun x c => .post x _ (by omega)
  split
  · exact .foldl _ b fun x c => .post x _ (by omega)
  · exact .foldl _ b fun x c => .post x _ (le_slotVisible _ _ _ _ _)

/-! ### The slots of a word -/

/-- What one slot may do to the block of its word. -/
def State.Issues (p n : Nat) (s t : State) : Prop := (s.block p).Issues n (t.block p)

theorem State.Issues.onBlock {p n : Nat} (s : State) (f : Block → Block) (h : (s.block p).Issues n (f (s.block p))) :
    s.Issues p n (s.onBlock p f) := by
  rwa [State.Issues, State.block_onBlock_same]

theorem State.Issues.foldl {p n : Nat} {α : Type} {f : State → α → State} (l : List α) (s : State)
    (h : ∀ (t : State) (a : α), t.Issues p n (f t a)) : s.Issues p n (l.foldl f s) :=
  List.foldlRecOn (motive := s.Issues p n) l f (.refl n _) fun t ht a _ => Block.Issues.trans ht (h t a)

theorem State.Issues.post {p n : Nat} (s : State) (d : Nat) (k : PendKind) : s.Issues p n (s.onBlock p (Block.post (n + d) k)) :=
  .onBlock s _ (.post _ _ (by omega))

theorem State.Issues.traceRec {p n : Nat} (s : State) (kind lwoff step cause slotcell code detail aux : Nat) :
    s.Issues p n (s.traceRec p kind lwoff step cause slotcell code detail aux) := by
  obtain ⟨tr, htr⟩ := (State.Records.traceRec s p kind lwoff step cause slotcell code detail aux).block p
  rw [State.Issues, htr]
  exact .of_same rfl rfl rfl rfl rfl rfl rfl

theorem State.Issues.ite {p n : Nat} {s t u : State} {c : Prop} [Decidable c] (h : s.Issues p n t) (k : s.Issues p n u) :
    s.Issues p n (if c then t else u) := by
  split
  · exact h
  · exact k

theorem State.Issues.refl (p n : Nat) (s : State) : s.Issues p n s := Block.Issues.refl n _

theorem State.Issues.syncSlot (p n r : Nat) (s : State) : s.Issues p n (s.syncSlot p n r) := by
  unfold State.syncSlot
  exact .ite (.post s 3 _) (.ite (.refl p n _) (.ite (.post s 2 _)
    (.ite (.onBlock s _ (.of_same rfl rfl rfl rfl rfl rfl rfl)) (.refl p n s))))

/-- A trap word is noted in the prep core, and traced (R80, R196). -/
theorem State.Issues.trap (p n pc r : Nat) (s : State) (f : Block → Block) (h : (s.block p).Issues n (f (s.block p))) :
    s.Issues p n ((s.onBlock p f).traceRec p 3 pc (s.block p).step 0xFF (7 * 32) (bits r 15 0) 0 0) :=
  Block.Issues.trans (State.Issues.onBlock s f h) (State.Issues.traceRec _ _ _ _ _ _ _ _ _)

theorem State.Issues.ctlSlot (p n pc r : Nat) (s : State) : s.Issues p n (s.ctlSlot p n pc r) := by
  have hcells : ∀ k : Nat → PendKind, s.Issues p n ((onesOf 4 (slotMask 7 r)).foldl (fun t c => t.onBlock p (Block.post (n + 1) (k c))) s) :=
    fun k => .foldl _ s fun t c => .post t 1 _
  unfold State.ctlSlot
  exact .ite (.ite (.refl p n s) (.post s 1 _)) (.ite (.post s 1 _) (.ite (hcells _) (.ite (hcells _) (.ite (.post s 1 _) (.ite (.post s 1 _)
    (.ite (hcells _) (.ite (.trap p n pc r s _ (.of_same rfl rfl rfl rfl rfl rfl rfl)) (.ite (.post s 2 _) (.ite (.post s 2 _)
      (.ite (.post s 2 _) (.refl p n s)))))))))))

theorem State.Issues.issueSlot (p n pc : Nat) (dense : Bool) (s : State) (x : Nat × Nat) : s.Issues p n (s.issueSlot p n pc dense x) := by
  unfold State.issueSlot
  dsimp only
  exact .ite (.onBlock s _ (.foldl _ _ fun b c => .mSlot dense n x.2 c b)) (.ite (.onBlock s _ (.ldSlot n pc x.1 x.2 _))
    (.ite (.onBlock s _ (.foldl _ _ fun b c => .storeSlot n x.2 c b)) (.ite (.onBlock s _ (.vecSlot n x.2 _))
      (.ite (.syncSlot p n x.2 s) (.ctlSlot p n pc x.2 s)))))

/-! ### A word that issues -/

/-- The word `w` of a block's run is due in a beat that the block may take, and issues: nothing fails in the beat, the word has no fault and is not
held (R53, R619). -/
structure State.WordDue (s : State) (p : Nat) (residue : Option Nat) (run : Run) (w : LongWord) : Prop where
  running : (s.block p).run = some run
  beat : s.canBeat p = true
  phase : run.phase = .issue
  late : (s.block p).lateFault (s.block p).beats = none
  sound : ((s.landed p).block p).residueHit residue = none
  fetch : fetchWord ((s.landed p).block p).store ((s.landed p).block p).lwBase ((s.landed p).block p).lwBytes (2 * run.pc) = some w
  word : wordFault ((s.landed p).wordEnv p) run.pc w = none
  pass : ∀ r, w.slot 6 = some r → (s.landed p).holdTest p r = .pass
  state : stateFault (s.landed p) p ((s.landed p).block p).beats run.req.chk (decide (((s.landed p).block p).hold ≠ .none)) w = none

theorem State.WordDue.nextWord {s : State} {p : Nat} {residue : Option Nat} {run : Run} {w : LongWord} (h : s.WordDue p residue run w) :
    (s.landed p).nextWord p run = (s.landed p).issueWord p run w := by
  unfold State.nextWord
  dsimp only
  rw [h.fetch]
  dsimp only
  rw [h.word]
  cases hslot : w.slot 6 with
  | none => dsimp only; rw [h.state]
  | some r => dsimp only; rw [h.pass r hslot]; dsimp only; rw [h.state]

/-- What the command leaves of the block. -/
theorem exec_longWordIssue_issues {s : State} {p : Nat} {residue : Option Nat} {run : Run} {w : LongWord} (op : Option Nat)
    (h : s.WordDue p residue run w) :
    ∃ t q, exec (.longWordIssue p .clean op residue) s = .next t ∧
      t.block p = { ((s.landed p).issueWord p run w).block p with runq := q } := by
  rw [exec_longWordIssue_eq, State.longWordBeat_clean h.running h.beat h.phase, State.beat_next h.late h.sound, h.nextWord]
  exact State.answer_settled rfl

/-- The state in which every slot of the word has acted. -/
def State.slotsIssued (p : Nat) (run : Run) (w : LongWord) (s : State) : State :=
  w.slots.foldl (State.issueSlot p (s.block p).beats run.pc run.req.dense) s

theorem State.Issues.slotsIssued (p : Nat) (run : Run) (w : LongWord) (s : State) : s.Issues p (s.block p).beats (s.slotsIssued p run w) :=
  .foldl _ s (.issueSlot p _ run.pc run.req.dense)

/-- What is left of the block when a word has issued: that of its slots, and what is on record of the word. -/
theorem State.issueWord_block (s : State) (p : Nat) (run : Run) (w : LongWord) :
    ∃ r' sparse dense, (s.issueWord p run w).block p = Block.countBeat { (s.slotsIssued p run w).block p with
        hold := .none, lastOff := run.pc, lastStep := (s.block p).step, mmasBeats := sparse, denseBeats := dense, run := some r' } ∧
      r'.req = run.req ∧ r'.pc = nextPc (s.block p) run.pc w ∧ r'.last = w.isEnd := by
  unfold State.issueWord
  dsimp only
  exact ⟨_, _, _, State.block_onBlock_same _ _ _, rfl, rfl, rfl⟩

/-- Settles O33: every slot only puts operations in flight, and the word is then on record. -/
theorem wordIssuesInOneBeat : Obligations.WordIssuesInOneBeat := by
  intro s p op residue run w hrun hbeat hphase _ hlate b u hres hw hword hpass hstate
  have hb : (s.landed p).block p = b := State.block_landed s p
  have hdue : s.WordDue p residue run w := ⟨hrun, hbeat, hphase, hlate, by rwa [hb], by rwa [hb], hword, hpass, by rwa [hb]⟩
  obtain ⟨t, q, ht, hx⟩ := exec_longWordIssue_issues op hdue
  obtain ⟨r', sparse, dense, hy, hreq, hpc, hlast⟩ := (s.landed p).issueWord_block p run w
  have hissues := State.Issues.slotsIssued p run w (s.landed p)
  rw [State.Issues, hb] at hissues
  rw [hb] at hpc hy
  obtain ⟨more, hmore, hafter⟩ := hissues.pend
  refine ⟨t, _, r', more, ht, hx, ?_⟩
  rw [hy]
  exact ⟨congrArg (· + 1) hissues.beats, congrArg (fun k => (k + 1) % 2 ^ 64) hissues.step, rfl, rfl, rfl, rfl, hreq, hpc, hlast, hmore, hafter,
    hissues.cell, hissues.s, hissues.lc, hissues.store⟩

end Sys2Proof.Machine
end

section
/-! PROOFS. What the slots of a word put in flight (R61, R73 to R83). -/

namespace Sys2Proof.Machine

/-! ### Operations done one place after another -/

/-- A fold of steps each of which changes its own place alone, over places named once. -/
theorem foldl_reads {σ α : Type} {read : σ → Nat → α} {f : σ → Nat → σ} {g : Nat → α → α}
    (hf : ∀ x c k, read (f x c) k = if k = c then g k (read x k) else read x k) (l : List Nat) (hl : l.Nodup) (x : σ) (k : Nat) :
    read (l.foldl f x) k = if k ∈ l then g k (read x k) else read x k := by
  induction l generalizing x with
  | nil => simp
  | cons c l ih =>
    obtain ⟨hc, hl⟩ := List.nodup_cons.mp hl
    rw [List.foldl_cons, ih hl, hf]
    by_cases hk : k = c
    · subst hk
      simp [hc]
    · simp [hk]

theorem onesOf_nodup (k n : Nat) : (onesOf k n).Nodup := List.nodup_range.filter _

/-- Operations put in flight one for each cell of a list, where what is in flight does not bear on them. -/
theorem Block.foldl_post {f : Block → Nat → Block} {op : Block → Nat → Pend} (hf : ∀ b c, f b c = { b with pend := b.pend ++ [op b c] })
    (hop : ∀ b l c, op { b with pend := l } c = op b c) (cs : List Nat) (b : Block) :
    cs.foldl f b = { b with pend := b.pend ++ cs.map (op b) } := by
  induction cs generalizing b with
  | nil => simp
  | cons c cs ih => simp [hf, ih, hop]

/-- Changes of one block made one after another. -/
theorem State.block_foldl_onBlock {α : Type} (p : Nat) (g : α → Block → Block) (l : List α) (s : State) :
    (l.foldl (fun t a => t.onBlock p (g a)) s).block p = l.foldl (fun b a => g a b) (s.block p) := by
  induction l generalizing s with
  | nil => rfl
  | cons a l ih => rw [List.foldl_cons, ih, State.block_onBlock_same, List.foldl_cons]

/-! ### Loads and stores -/

/-- A load of a V register that does not decode brings the bytes as they are 12 beats later (R74, R83). -/
theorem Block.ldSlot_plain (n pc slot r : Nat) (b : Block) (hkind : lKind r = 0) (hdec : lDec r = false) :
    b.ldSlot n pc slot r = { b with pend := b.pend ++ (onesOf 4 (slotMask slot r)).map (fun c =>
      { due := n + 12, kind := .vreg c (lReg r) 0 (8 * lenBytes (lLen r))
          (leNat (b.store.read (slotAddr (b.cell c) r) (lenBytes (lLen r)))) true false }) } := by
  have hnone : b.overfull r = none := by simp [Block.overfull, hkind]
  unfold Block.ldSlot
  rw [hnone]
  refine Block.foldl_post (op := fun x c =>
    { due := n + 12, kind := .vreg c (lReg r) 0 (8 * lenBytes (lLen r))
        (leNat (x.store.read (slotAddr (x.cell c) r) (lenBytes (lLen r)))) true false }) (fun x c => ?_) (fun _ _ _ => rfl) _ b
  simp [Block.load, loadBytes, hkind, hdec, Block.postV, Block.post, Mem.read]

/-- A store of a V register writes its first bytes 8 beats later (R75, R83). -/
theorem Block.storeSlots_plain (n r : Nat) (cs : List Nat) (b : Block) (hkind : lKind r = 0) :
    cs.foldl (fun x c => x.storeSlot n r c) b = { b with pend := b.pend ++ cs.map (fun c =>
      { due := n + 8, kind := .store (slotAddr (b.cell c) r) (lOff r) (((b.cell c).vreg (lReg r)).take (lenBytes (lLen r))) (lenBytes (lLen r)) }) } := by
  refine Block.foldl_post (op := fun x c =>
    { due := n + 8, kind := .store (slotAddr (x.cell c) r) (lOff r)
        (((x.cell c).vreg (lReg r)).take (lenBytes (lLen r))) (lenBytes (lLen r)) }) (fun x c => ?_) (fun _ _ _ => rfl) cs b
  simp [Block.storeSlot, storeRange, hkind, Block.post]

/-! ### Vector operations -/

/-- A vector operation of FP32, INT32 or BF16 other than the reduction operations writes VD 4 beats later (R77, R83). -/
theorem Block.vecSlot_plain (n r : Nat) (b : Block) (hop : vOp r ≤ 0x11) :
    b.vecSlot n r = { b with pend := b.pend ++ (onesOf 4 (slotMask 5 r)).map (fun c =>
      let v := vecResult (vOp r) (vType r) (vAux r) (vB r) ((b.cell c).vreg (vA r)) ((b.cell c).vreg (vB r)) ((b.cell c).vreg (vD r))
      { due := n + 4, kind := .vreg c (vD r) 0 (8 * v.length) (leNat v) true false }) } := by
  have hdue : ∀ (x : Cell) (y : Reg), slotVisible x n 5 r y = n + 4 := fun x y => by
    unfold slotVisible
    simp (disch := omega) only [if_neg]
    simp
  unfold Block.vecSlot
  simp (disch := omega) only [if_neg, hdue]
  exact Block.foldl_post (fun x c => rfl) (fun _ _ _ => rfl) _ b

/-! ### Totals -/

theorem Cell.total_setTotal (x : Cell) (i k : Nat) (t : Total) : (x.setTotal i t).total k = if k = i then t else x.total k := by
  unfold Cell.setTotal Cell.total
  split
  · next h => rw [h, Sparse.get_set_same]
  · next h => exact Sparse.get_set_other _ _ _ _ _ h

/-- Columns zeroed hold the exact +0, and the others what they held (R73, R143). -/
theorem Cell.total_zeroColumns (x : Cell) (col n k : Nat) :
    (x.zeroColumns col n).total k = if 64 * col ≤ k ∧ k < 64 * (col + n) then {} else x.total k := by
  unfold Cell.zeroColumns Cell.total
  split
  · next h => exact Sparse.get_filter_out _ _ _ _ fun e he => by simp [he]; omega
  · next h => exact Sparse.get_filter _ _ _ _ fun e he => by simp [he]; omega

/-- Each total of a column has its own row of the tile multiplied in (R61, R138). -/
theorem Cell.total_mmaColumn (x : Cell) (w a : Nat) (tile side : List Byte) (xs : List Num) (col : Nat) (acc : Bool) (row : Nat) (h : row < 64) :
    (x.mmaColumn w a tile side xs col acc).total (64 * col + row) =
      (if acc then x.total (64 * col + row) else {}).addRow w a (tileRow w (tileK w a) tile side row) (alignGroup w a xs) := by
  have hfold := foldl_reads (read := fun (y : Cell) k => y.total (totalAt col k))
    (g := fun k t => (if acc then t else {}).addRow w a (tileRow w (tileK w a) tile side k) (alignGroup w a xs))
    (f := fun y r => y.setTotal (totalAt col r)
      ((if acc then y.total (totalAt col r) else {}).addRow w a (tileRow w (tileK w a) tile side r) (alignGroup w a xs)))
    (fun y c k => by
      have hrow : totalAt col k = totalAt col c ↔ k = c := by unfold totalAt; omega
      simp only [Cell.total_setTotal, hrow]
      split
      · next hk => rw [hk]
      · rfl) (List.range 64) List.nodup_range x row
  rw [if_pos (List.mem_range.mpr h)] at hfold
  exact hfold

theorem Cell.total_busy (y : Cell) (free last i : Nat) : ({ y with arrayFree := free, lastProduct := last } : Cell).total i = y.total i := rfl

/-- The totals of the column of an MMA once it has issued. -/
theorem Cell.total_mmaIssued (x : Cell) (n r row : Nat) (h : row < 64) :
    (x.mmaIssued n r).total (64 * mCol r + row) =
      (if mAcc r then x.total (64 * mCol r + row) else {}).addRow x.wfmt x.afmt
        (tileRow x.wfmt (tileK x.wfmt x.afmt) (x.tileBytes (mT r)) (x.sideBytes (mT r)) row)
        (alignGroup x.wfmt x.afmt (columnOf x.afmt (tileK x.wfmt x.afmt) (x.vreg (mV r)))) := by
  unfold Cell.mmaIssued
  rw [Cell.total_busy]
  unfold Cell.mmaAdded
  exact Cell.total_mmaColumn _ _ _ _ _ _ _ _ _ h

theorem Cell.arrayFree_mmaIssued (x : Cell) (n r : Nat) : (x.mmaIssued n r).arrayFree = n + occupancy x.wfmt x.afmt := by
  unfold Cell.mmaIssued
  rfl

/-! ### The matrix slots of a word -/

theorem Block.mSlot_zero (dense : Bool) (n r c : Nat) (b : Block) (h : mOp r = 4) :
    b.mSlot dense n r c = b.onCell c (fun x => x.zeroColumns (dCol r) (zCount r)) := by simp [Block.mSlot, h]

theorem Block.mSlot_mma (dense : Bool) (n r c : Nat) (b : Block) (h : mOp r = 1) : b.mSlot dense n r c = b.mma n r c := by simp [Block.mSlot, h]

/-- ZERO puts nothing in flight. -/
theorem Block.zeroSlots_pend (dense : Bool) (n r : Nat) (cs : List Nat) (b : Block) (h : mOp r = 4) :
    (cs.foldl (fun x c => x.mSlot dense n r c) b).pend = b.pend :=
  List.foldlRecOn (motive := fun x : Block => x.pend = b.pend) cs _ rfl fun x hx c _ => by rw [Block.mSlot_zero _ _ _ _ _ h]; exact hx

/-- ZERO acts in each cell of its mask. -/
theorem Block.zeroSlots_cell (dense : Bool) (n r m : Nat) (b : Block) (c : Nat) (h : mOp r = 4) :
    ((onesOf 4 m).foldl (fun x c => x.mSlot dense n r c) b).cell c =
      if c ∈ onesOf 4 m then (b.cell c).zeroColumns (dCol r) (zCount r) else b.cell c :=
  foldl_reads (read := Block.cell) (g := fun _ x => x.zeroColumns (dCol r) (zCount r))
    (fun x c k => by rw [Block.mSlot_zero _ _ _ _ _ h, Block.cell_onCell]) _ (onesOf_nodup 4 m) b c

/-- MMA acts in each cell of its mask. -/
theorem Block.mmaSlots_cell (dense : Bool) (n r m : Nat) (b : Block) (c : Nat) (h : mOp r = 1) :
    ((onesOf 4 m).foldl (fun x c => x.mSlot dense n r c) b).cell c = if c ∈ onesOf 4 m then (b.cell c).mmaIssued n r else b.cell c :=
  foldl_reads (read := Block.cell) (g := fun _ x => x.mmaIssued n r)
    (fun x c k => by rw [Block.mSlot_mma _ _ _ _ _ h, Block.mma_eq]; exact Block.cell_onCell _ _ _ _) _ (onesOf_nodup 4 m) b c

/-! ### The slot of a word that has one -/

theorem State.slotsIssued_none (p : Nat) (run : Run) (w : LongWord) (s : State) (h : w.slots = []) : s.slotsIssued p run w = s := by
  rw [State.slotsIssued, h]
  rfl

theorem State.slotsIssued_one (p : Nat) (run : Run) (w : LongWord) (s : State) (i r : Nat) (h : w.slots = [(i, r)]) :
    s.slotsIssued p run w = s.issueSlot p (s.block p).beats run.pc run.req.dense (i, r) := by
  rw [State.slotsIssued, h]
  rfl

section slot
variable (p n pc : Nat) (dense : Bool) (s : State) (i r : Nat)

theorem State.issueSlot_matrix (h : i ≤ 1) :
    (s.issueSlot p n pc dense (i, r)).block p = (onesOf 4 (slotMask i r)).foldl (fun b c => b.mSlot dense n r c) (s.block p) := by
  simp only [State.issueSlot, if_pos h, State.block_onBlock_same]

theorem State.issueSlot_load (h2 : 2 ≤ i) (h3 : i ≤ 3) : (s.issueSlot p n pc dense (i, r)).block p = (s.block p).ldSlot n pc i r := by
  simp only [State.issueSlot, if_neg (show ¬ i ≤ 1 by omega), if_pos h3, State.block_onBlock_same]

theorem State.issueSlot_store :
    (s.issueSlot p n pc dense (4, r)).block p = (onesOf 4 (slotMask 4 r)).foldl (fun b c => b.storeSlot n r c) (s.block p) := by
  simp [State.issueSlot, State.block_onBlock_same]

theorem State.issueSlot_vec : (s.issueSlot p n pc dense (5, r)).block p = (s.block p).vecSlot n r := by
  change (s.onBlock p _).block p = _
  rw [State.block_onBlock_same]

/-- A local SIG reaches its counter 3 beats later, behind the stores issued so far (R78, R203). -/
theorem State.issueSlot_sig (h : sOp r = 0) : (s.issueSlot p n pc dense (6, r)).block p =
    (s.block p).post (n + 3) (.sig (sCnt r) (sN r) (s.block p).storesBy (s.block p).dma.started) := by
  change (s.syncSlot p n r).block p = _
  rw [State.syncSlot, if_pos h, State.block_onBlock_same]

/-- SETA writes its A register one beat later in each cell of its mask (R80). -/
theorem State.issueSlot_seta (h : cOp r = 4) : (s.issueSlot p n pc dense (7, r)).block p =
    { s.block p with pend := (s.block p).pend ++ (onesOf 4 (slotMask 7 r)).map (fun c =>
      { due := n + 1, kind := .areg c (cAreg r) (BitVec.ofInt 64 (cImmA r)) }) } := by
  have hseta : s.ctlSlot p n pc r = (onesOf 4 (slotMask 7 r)).foldl (fun t c =>
      t.onBlock p (Block.post (n + 1) (.areg c (cAreg r) (BitVec.ofInt 64 (cImmA r))))) s := by
    simp [State.ctlSlot, h]
  change (s.ctlSlot p n pc r).block p = _
  rw [hseta, State.block_foldl_onBlock]
  exact Block.foldl_post (fun _ _ => rfl) (fun _ _ _ => rfl) _ _

end slot

/-- What is in flight and in the cells once a word has issued is what its slots leave. -/
theorem exec_longWordIssue_slots {s : State} {p : Nat} {residue : Option Nat} {run : Run} {w : LongWord} (op : Option Nat)
    (h : s.WordDue p residue run w) :
    ∃ t, exec (.longWordIssue p .clean op residue) s = .next t ∧
      (t.block p).pend = (((s.landed p).slotsIssued p run w).block p).pend ∧
      (t.block p).cells = (((s.landed p).slotsIssued p run w).block p).cells := by
  obtain ⟨t, q, ht, hx⟩ := exec_longWordIssue_issues op h
  obtain ⟨r', sparse, dense, hy, -, -, -⟩ := (s.landed p).issueWord_block p run w
  exact ⟨t, ht, by rw [hx, hy]; rfl, by rw [hx, hy]; rfl⟩

/-- Settles O34: the word's one slot acts alone on the block as its beat finds it. -/
theorem slotsActAtTheirIssueBeat : Obligations.SlotsActAtTheirIssueBeat := by
  intro s p op residue run w hrun hbeat hphase _ hlate b u n hres hw hword hpass hstate
  have hb : (s.landed p).block p = b := State.block_landed s p
  have hdue : s.WordDue p residue run w := ⟨hrun, hbeat, hphase, hlate, by rwa [hb], by rwa [hb], hword, hpass, by rwa [hb]⟩
  obtain ⟨t, ht, hpend, hcells⟩ := exec_longWordIssue_slots op hdue
  have hone : ∀ i r, w.slots = [(i, r)] →
      (s.landed p).slotsIssued p run w = (s.landed p).issueSlot p n run.pc run.req.dense (i, r) := fun i r h => by
    rw [State.slotsIssued_one _ _ _ _ i r h, hb]
  have hcell : ∀ c, (t.block p).cell c = (((s.landed p).slotsIssued p run w).block p).cell c := fun c => by rw [Block.cell, hcells]; rfl
  refine ⟨t, _, ht, rfl, fun hs => ?_, fun i r hs h2 h3 hkind hdec => ?_, fun r hs hkind => ?_, fun r hs hop => ?_, fun r hs hop => ?_,
    fun r hs hop => ?_, fun i r hs hi hop => ⟨?_, fun c k _ => ?_⟩, fun i r hs hi hop c hc => ?_⟩
  · rw [hpend, hcells, State.slotsIssued_none _ _ _ _ hs, hb]
    exact ⟨rfl, rfl⟩
  · rw [hpend, hone _ _ hs, State.issueSlot_load _ _ _ _ _ _ _ h2 h3, hb, Block.ldSlot_plain _ _ _ _ _ hkind hdec]
  · rw [hpend, hone _ _ hs, State.issueSlot_store, hb, Block.storeSlots_plain _ _ _ _ hkind]
  · rw [hpend, hone _ _ hs, State.issueSlot_vec, hb, Block.vecSlot_plain _ _ _ hop]
  · rw [hpend, hone _ _ hs, State.issueSlot_seta _ _ _ _ _ _ hop, hb]
  · rw [hpend, hone _ _ hs, State.issueSlot_sig _ _ _ _ _ _ hop, hb]
    rfl
  · rw [hpend, hone _ _ hs, State.issueSlot_matrix _ _ _ _ _ _ _ hi, hb, Block.zeroSlots_pend _ _ _ _ _ hop]
  · rw [hcell, hone _ _ hs, State.issueSlot_matrix _ _ _ _ _ _ _ hi, hb, Block.zeroSlots_cell _ _ _ _ _ _ hop]
    by_cases hc : c ∈ onesOf 4 (slotMask i r)
    · simp [hc, Cell.total_zeroColumns]
    · simp [hc]
  · have hissued : (t.block p).cell c = (b.cell c).mmaIssued n r := by
      rw [hcell, hone _ _ hs, State.issueSlot_matrix _ _ _ _ _ _ _ hi, hb, Block.mmaSlots_cell _ _ _ _ _ _ hop, if_pos hc]
    rw [hissued]
    exact ⟨Cell.arrayFree_mmaIssued _ _ _, fun row hrow => Cell.total_mmaIssued _ _ _ _ hrow⟩

end Sys2Proof.Machine
end

section
/-! PROOFS. HIF_ERRQ, the trace registers, the sideband dump and CFG_DET (R104, R217, R218, R456, R563). -/

namespace Sys2Proof.Machine

/-! ### HIF_ERRQ -/

theorem b2n_le_one (b : Bool) : b2n b ≤ 1 := by cases b <;> decide

/-- HIF_ERRQ shows the oldest page queued, with VALID and OVF (R563). -/
theorem State.regView_errq (s : State) (g : Nat) (gs : List Nat) (h : s.hif.errq = g :: gs) :
    s.regView .hif 0 0x110 = 2 ^ 63 + g % 2 ^ 14 + b2n s.hif.errqOvf * 2 ^ 62 := by
  have hfound : (findReg .hif 0x110).isNone = false := by decide +kernel
  simp [State.regView, hfound, State.viewHif, h]

/-- A read of HIF_ERRQ takes the page that it answers from the queue (R563). -/
theorem State.bar0Read_errq (s : State) (g : Nat) (gs : List Nat) (hopen : s.bar0Open = true) (hserved : s.pageServed .hif 0 = true)
    (h : s.hif.errq = g :: gs) :
    s.bar0Read 0x7110 8 = { s with
      hif := { s.hif with errq := gs, errqOvf := false }
      out := { s.out with read := some (0, 2 ^ 63 + g % 2 ^ 14 + b2n s.hif.errqOvf * 2 ^ 62) } } := by
  have hlinked : s.linked = true := by
    rw [State.bar0Open, Bool.and_eq_true] at hopen
    exact hopen.1
  have hpage : pageOf 0x7110 = some (.hif, 0, 0x110) := pageOf_at .hif 0 0x110 (by decide) (by decide)
  have hcount : s.cacheCounted .hif 0 0x110 = s := by simp [State.cacheCounted]
  have hword : 2 ^ 63 + g % 2 ^ 14 + b2n s.hif.errqOvf * 2 ^ 62 < 2 ^ 64 := by
    have := b2n_le_one s.hif.errqOvf
    omega
  simp only [State.bar0Read, hlinked, hopen, hpage, hserved, hcount, State.regView_errq s g gs h, halfOf_word _ _ hword, bar0Fits,
    State.readEffects, State.readAnswer, h, List.tail_cons]
  rfl

/-! ### A write that gives no field a reserved encoding -/

theorem testBit_eq_of_bits {v w k : Nat} (h : bits v k k = bits w k k) : v.testBit k = w.testBit k := by
  simp only [bits_eq, Nat.add_sub_cancel_left, pow_one] at h
  rw [Nat.testBit_eq_decide_div_mod_eq, Nat.testBit_eq_decide_div_mod_eq, h]

/-- What follows a served write of a register whose encodings are all legal: every RW field has the value written (R12). -/
theorem State.pageWrite_takes {s : State} {p : Page} {i off k : Nat} {r : RegDesc} (data : Nat) (hs : s.Serves p i) (ho : off < 0x1000)
    (h8 : off % 8 = 0) (hf : findReg p off = some (r, k)) (hp : s.programmed p i off < 2 ^ 64) (hn : ∀ f, s.noField p i off f = false)
    (hlegal : ∀ f x v, s.reserved p i off f x v = false) :
    ∃ v, (∀ f ∈ r.fields, f.acc = .rw → bits v f.hi f.lo = bits data f.hi f.lo) ∧
      s.pageWrite p i off data = s.applyReg p i off (s.programmed p i off) v (data % 2 ^ 64) (2 ^ 64 - 1) := by
  obtain ⟨v, hv, hw⟩ := State.pageWrite_fields s p i off data r k hs ho h8 hf hp
  refine ⟨v, fun f hm ha => ?_, ?_⟩
  · obtain ⟨hlo, hhi⟩ := findReg_field hf hm
    rw [hv f hm, State.fieldNew_rw _ _ _ _ _ _ _ _ _ ha (hn f) (bits_allOnes_ne_zero _ _ hlo hhi) (hlegal _ _ _), bits_mod_word _ _ _ hlo hhi]
  · rw [hw, if_neg]
    simp [State.anyReserved, hlegal]

/-! ### The block trace -/

/-- The fields of a block's trace control register. -/
def traceCtrlReg : RegDesc :=
  ⟨0x118, 1, 0, [⟨63, 40, .rc, 0⟩, ⟨39, 16, .ro, 0⟩, ⟨15, 12, .rw, 0⟩, ⟨11, 11, .ro, 0⟩, ⟨7, 4, .rw, 15⟩, ⟨0, 0, .rw, 0⟩]⟩

theorem findReg_traceCtrl : findReg .blk 0x118 = some (traceCtrlReg, 0) := rfl

/-- A write that turns EN on starts an empty trace (R104). -/
theorem State.pageWrite_traceOn (s : State) (l p data : Nat) (hs : s.Serves .blk l) (hshown : s.shown l = some p)
    (hoff : (s.reg .blk l 0x118).testBit 0 = false) (hon : data.testBit 0 = true) :
    ∃ v, s.pageWrite .blk l 0x118 data = (s.setReg .blk l 0x118 v).onBlock p (fun b => { b with trace := { b.trace with
      en := true, base := s.reg .blk l 0x110, sizeLog2 := bits data 15 12, head := 0, wrapped := false } }) := by
  obtain ⟨v, hv, hw⟩ := State.pageWrite_takes data hs (by decide) (by decide) findReg_traceCtrl (State.reg_lt s .blk l 0x118 hs.lt_count)
    (fun _ => rfl) (fun _ _ _ => rfl)
  have hen : v.testBit 0 = data.testBit 0 := testBit_eq_of_bits (hv ⟨0, 0, .rw, 0⟩ (by simp [traceCtrlReg]) rfl)
  have hsize : bits v 15 12 = bits data 15 12 := hv ⟨15, 12, .rw, 0⟩ (by simp [traceCtrlReg]) rfl
  have hrises : rises (s.programmed .blk l 0x118) v 0 = true := by
    simp only [rises, bitOn, Bool.and_eq_true, Bool.not_eq_true']
    exact ⟨hoff, hen.trans hon⟩
  refine ⟨v, ?_⟩
  rw [hw, ← hsize]
  simp [State.applyReg, State.applyBlk, hshown, State.traceCtrlWritten, hrises]

/-! ### The sideband dump -/

/-- The fields of SD_SEL. -/
def sdSelReg : RegDesc := ⟨0x300, 1, 0, [⟨16, 16, .rw, 0⟩, ⟨15, 11, .rw, 0⟩, ⟨10, 6, .rw, 0⟩, ⟨5, 0, .rw, 0⟩]⟩

theorem findReg_sdSel : findReg .ref 0x300 = some (sdSelReg, 0) := rfl

/-- The fields of SD_SEL make up its low 17 bits. -/
theorem sdSel_eq {v w : Nat} (h : ∀ f ∈ sdSelReg.fields, bits v f.hi f.lo = bits w f.hi f.lo) : bits v 16 0 = bits w 16 0 := by
  simp only [sdSelReg, List.forall_mem_cons, bits_eq] at h ⊢
  omega

/-- A legal KIND 0 selection starts a fetch (R217). -/
theorem State.pageWrite_sdSel (s : State) (data : Nat) (hs : s.Serves .ref 0) (hdata : data < 2 ^ 16) (hblk : bits data 10 6 ≤ 16)
    (hidx : bits data 5 0 ≤ 47) : s.pageWrite .ref 0 0x300 data = { s with ref := { s.ref with sdHost := { s.ref.sdHost with
      sel := BitVec.ofNat 64 data, info := BitVec.ofNat 64 (clearBit s.ref.sdHost.info.toNat 63), busy := true } } } := by
  obtain ⟨v, hv, hw⟩ := State.pageWrite_takes data hs (by decide) (by decide) findReg_sdSel (Nat.mod_lt _ (by decide)) (fun _ => rfl)
    (fun _ _ _ => rfl)
  have hsel : bits v 16 0 = data := by
    rw [sdSel_eq fun f hf => hv f hf (by revert f; decide), bits_eq]
    omega
  have hkind : sdKind data = 0 := by
    rw [sdKind, bits_eq]
    omega
  have hlegal : sdReserved data = false := by
    simp [sdReserved, hkind, sdIndex, Nat.not_lt.mpr hblk, Nat.not_lt.mpr hidx]
  have hcover : bits (2 ^ 64 - 1) 31 0 ≠ 0 := bits_allOnes_ne_zero _ _ (by decide) (by decide)
  rw [hw]
  simp [State.applyReg, State.applyRef, hsel, State.sdWritten, hlegal, -Nat.reducePow, -Nat.reduceSub, hcover]

/-- SD_INFO of a counter, put together of its flags, its waiting commands and its shape, has VALID and is of 64 bits. -/
theorem sdInfo_valid (abandoned used held prep : Bool) (waiters shape : Nat) (h : waiters < 2 ^ 16) :
    let info := 3 * 2 ^ 62 + b2n abandoned * 2 ^ 61 + b2n used * 2 ^ 60 + b2n held * 2 ^ 59 + b2n prep * 2 ^ 58 + waiters * 2 ^ 32 +
      shape % 2 ^ 16 * 2 ^ 16
    2 ^ 63 ≤ info ∧ info < 2 ^ 64 := by
  have := b2n_le_one abandoned
  have := b2n_le_one used
  have := b2n_le_one held
  have := b2n_le_one prep
  omega

/-- A fetch always finds SD_INFO with VALID, of 64 bits (R218, R219). -/
theorem State.sdFetch_info (s : State) (v : Nat) : 2 ^ 63 ≤ (s.sdFetch v).2.1 ∧ (s.sdFetch v).2.1 < 2 ^ 64 := by
  unfold State.sdFetch
  dsimp only
  split
  · dsimp only
    have := b2n_le_one (s.line (sdIndex v)).abandoned.isSome
    omega
  split
  · decide
  · refine sdInfo_valid _ _ _ _ _ _ ?_
    split
    · exact Nat.mod_lt _ (by decide)
    · decide

/-- A fetch of a counter whose block is reached finds its value, and of one that is not none (R217 to R219). -/
theorem State.sdFetch_counter (s : State) (v : Nat) (h : sdKind v = 0) :
    (s.hw.fused.testBit (sdBlock v) = true ∨ s.place.dieOff.testBit (dieOf (sdBlock v)) = true → s.sdFetch v = (0, 2 ^ 63, 0)) ∧
    (s.hw.fused.testBit (sdBlock v) = false → s.place.dieOff.testBit (dieOf (sdBlock v)) = false →
      (s.sdFetch v).1 = ((s.block (sdBlock v)).cnt (sdIndex v)).value) := by
  unfold State.sdFetch
  rw [if_neg (by omega)]
  refine ⟨fun hgone => ?_, fun hfused hoff => ?_⟩
  · simp [hgone]
  · simp [hfused, hoff]

/-- A sideband set in which a fetch has ended. -/
def SdSet.fetched (d : SdSet) (r : Nat × Nat × Nat) : SdSet :=
  { d with busy := false, value := BitVec.ofNat 64 r.1, info := BitVec.ofNat 64 r.2.1, target := BitVec.ofNat 64 r.2.2 }

/-- The end of a fetch of either set changes that set alone. -/
theorem exec_sdFetchDone_busy (s : State) (mgmt : Bool) (h : (if mgmt then s.ref.sdMgmt else s.ref.sdHost).busy = true) :
    let d := if mgmt then s.ref.sdMgmt else s.ref.sdHost
    ∃ t, exec (.sdFetchDone mgmt) s = .next t ∧ (if mgmt then t.ref.sdMgmt else t.ref.sdHost) = d.fetched (s.sdFetch d.sel.toNat) ∧
      OnlyIn { ref := true } s t := by
  refine ⟨s.keep { ref := true } (s.sdDone mgmt), rfl, ?_, keep_onlyIn _ _ _⟩
  cases mgmt <;> simp_all [State.sdDone, SdSet.fetched]

/-! ### CFG_DET -/

/-- The fields of CFG_DET. -/
def cfgDetReg : RegDesc := ⟨0x180, 1, 0, [⟨8, 8, .ro, 0⟩, ⟨0, 0, .rw, 0⟩]⟩

theorem findReg_cfgDet : findReg .cfg 0x180 = some (cfgDetReg, 0) := rfl

/-- A write of CFG_DET is one of REQ (R456). -/
theorem State.pageWrite_cfgDet (s : State) (data : Nat) (hs : s.Serves .cfg 0) : s.pageWrite .cfg 0 0x180 data = { s with place := { s.place with
    req := data.testBit 0
    strict := if s.place.pstate = psEmpty ∨ s.place.pstate = psFailed then data.testBit 0 else s.place.strict } } := by
  obtain ⟨v, hv, hw⟩ := State.pageWrite_takes data hs (by decide) (by decide) findReg_cfgDet (Nat.mod_lt _ (by decide)) (fun _ => rfl)
    (fun _ _ _ => rfl)
  have hreq : v.testBit 0 = data.testBit 0 := testBit_eq_of_bits (hv ⟨0, 0, .rw, 0⟩ (by simp [cfgDetReg]) rfl)
  rw [hw]
  simp [State.applyReg, State.detWritten, bitOn, hreq]

/-! ### The five commands -/

/-- Settles O23: each command is the read, the write or the end of a fetch above, and keeps all of it. -/
theorem queueTraceDumpAndDetRegisters : Obligations.QueueTraceDumpAndDetRegisters := by
  refine ⟨fun s g gs hopen hserved h => ?_, fun s l p data hs hshown hoff hon => ?_, fun s data hs hdata hblk hidx => ?_,
    ?_, fun s data hs => ?_⟩
  · change s.answer touchTake (s.bar0Read 0x7110 8) = _
    rw [State.bar0Read_errq s g gs hopen hserved h]
    rfl
  · obtain ⟨v, hw⟩ := State.pageWrite_traceOn s l p data hs hshown hoff hon
    let t := s.keep { touchTake with blocks := true } (s.pageWrite .blk l 0x118 data)
    have hblock : ∀ q, t.block q = (s.pageWrite .blk l 0x118 data).block q := fun _ => rfl
    refine ⟨t, rfl, ?_, fun q hq => ?_, keep_onlyIn _ _ _⟩
    · rw [hblock, hw, State.block_onBlock_same]
      rfl
    · rw [hblock, hw, State.block_onBlock, if_neg hq]
      rfl
  · change s.answer touchTake (s.pageWrite .ref 0 0x300 data) = _
    rw [State.pageWrite_sdSel s data hs hdata hblk hidx]
    rfl
  · intro s mgmt d hbusy hsel q
    obtain ⟨t, ht, hd, honly⟩ := exec_sdFetchDone_busy s mgmt hbusy
    have hkind : sdKind d.sel.toNat = 0 := by
      rw [sdKind, bits_eq]
      rw [Nat.testBit_eq_decide_div_mod_eq, decide_eq_false_iff_not] at hsel
      omega
    obtain ⟨hgone, hreached⟩ := s.sdFetch_counter d.sel.toNat hkind
    obtain ⟨hlo, hhi⟩ := s.sdFetch_info d.sel.toNat
    refine ⟨t, d.fetched (s.sdFetch d.sel.toNat), ht, hd, rfl, rfl, ?_, fun h => ?_, fun hfused hoff => ?_, honly⟩
    · rw [SdSet.fetched, BitVec.toNat_ofNat, Nat.mod_eq_of_lt hhi, Nat.testBit_eq_decide_div_mod_eq, decide_eq_true_eq]
      omega
    · rw [hgone h]
      exact ⟨rfl, rfl⟩
    · exact congrArg (BitVec.ofNat 64) (hreached hfused hoff)
  · change s.answer { touchTake with place := true } (s.pageWrite .cfg 0 0x180 data) = _
    rw [State.pageWrite_cfgDet s data hs]
    rfl

end Sys2Proof.Machine
end

section
/-! PROOFS. The Xvln instructions of the prep core (R193 to R197): each is one branch of `State.xvln`, of which its command leaves a state
that differs in one block and the signals on their way alone. -/

namespace Sys2Proof.Machine

/-! ### A block written twice -/

/-- Of two values written at one key the later stays. -/
theorem Sparse.set_set {α : Type} [DecidableEq α] (d : α) (m : Sparse α) (k : Nat) (v w : α) :
    Sparse.set d (Sparse.set d m k v) k w = Sparse.set d m k w := by
  have hmid : ∀ q : Nat × α → Bool, q (k, v) = false → (if v = d then [] else [(k, v)]).filter q = [] := by
    intro q hq
    split <;> simp [hq]
  have hlow : ((m.filter fun c => decide (c.1 < k)).filter fun c => decide (k < c.1)) = [] := by
    simp only [List.filter_filter, List.filter_eq_nil_iff, Bool.and_eq_true, decide_eq_true_eq]
    omega
  have hhigh : ((m.filter fun c => decide (k < c.1)).filter fun c => decide (c.1 < k)) = [] := by
    simp only [List.filter_filter, List.filter_eq_nil_iff, Bool.and_eq_true, decide_eq_true_eq]
    omega
  simp [Sparse.set, List.filter_append, hmid, hlow, hhigh]

theorem State.setBlock_setBlock (p : Nat) (b c : Block) (s : State) : (s.setBlock p b).setBlock p c = s.setBlock p c :=
  congrArg (fun bs => ({ s with blocks := bs } : State)) (Sparse.set_set _ _ _ _ _)

theorem State.onBlock_onBlock (p : Nat) (f g : Block → Block) (s : State) : (s.onBlock p f).onBlock p g = s.setBlock p (g (f (s.block p))) := by
  rw [State.onBlock, State.block_onBlock_same, State.onBlock, State.setBlock_setBlock]

/-! ### Integer registers and retirement -/

theorem Block.xreg_lt (b : Block) (i : Nat) : b.xreg i < 2 ^ 64 := by
  unfold Block.xreg
  split
  · decide
  · exact BitVec.isLt _

/-- Retirement without a result looks at the prep core of its block alone. -/
theorem Block.retire_prep_congr {b c : Block} (h : b.prep = c.prep) (len : Nat) : (b.retire len 0 0).prep = (c.retire len 0 0).prep := by
  simp [Block.retire, Block.setX, Block.retireAt, h]

theorem Block.retire_pc (b : Block) (len : Nat) : (b.retire len 0 0).prep.pc = BitVec.ofNat 64 (b.prep.pc.toNat + len) := rfl

/-! ### The registers that vln.wreg writes (R194) -/

theorem Block.onCell_foldl_prep (g : Cell → Cell) (cs : List Nat) (b : Block) : (cs.foldl (fun b c => b.onCell c g) b).prep = b.prep :=
  List.foldlRecOn (motive := fun c : Block => c.prep = b.prep) cs _ rfl fun _ hc _ _ => hc

theorem Block.writeSel_prep (x v : Nat) (b : Block) : (b.writeSel x v).prep = b.prep := by
  unfold Block.writeSel
  dsimp only
  split
  · exact Block.onCell_foldl_prep _ _ b
  · split <;> rfl

/-- Each cell of a list without repeats is changed once. -/
theorem Block.cell_foldl_onCell (g : Cell → Cell) {cs : List Nat} (hcs : cs.Nodup) (b : Block) (k : Nat) :
    (cs.foldl (fun b c => b.onCell c g) b).cell k = if k ∈ cs then g (b.cell k) else b.cell k :=
  foldl_reads (read := Block.cell) (g := fun _ => g) (fun b c k => b.cell_onCell c k g) cs hcs b k

/-- The A register is written in each cell of CMASK. -/
theorem Block.writeSel_areg {x v : Nat} (b : Block) (hv : v < 2 ^ 64) (hsel : bits x 5 4 = 0) {c : Nat} (hc : c ∈ onesOf 4 (bits x 9 6)) :
    ((b.writeSel x v).cell c).areg (bits x 3 0) = v := by
  rw [Block.writeSel, if_pos hsel, Block.cell_foldl_onCell _ (onesOf_nodup _ _), if_pos hc]
  simp [Cell.areg, BitVec.toNat_ofNat, Nat.mod_eq_of_lt hv, -Nat.reducePow]

theorem Block.writeSel_sreg {x v : Nat} (b : Block) (hv : v < 2 ^ 64) (hsel : bits x 5 4 = 1) : (b.writeSel x v).sreg (bits x 3 0) = v := by
  simp [Block.writeSel, hsel, Block.sreg, Nat.mod_eq_of_lt hv, -Nat.reducePow]

theorem Block.writeSel_lc {x v : Nat} (b : Block) (hsel : bits x 5 4 = 2) : (b.writeSel x v).lc.num (bits x 3 0) = v % 2 ^ 24 := by
  simp [Block.writeSel, hsel, Sparse.num, Sparse.setNum]

/-! ### The arming of interrupt 18 (R196) -/

/-- Interrupt 18 is pending once its bit of mip is set. -/
theorem getLsbD_or_bit18 (mip : BitVec 64) : (mip ||| 0x40000#64).getLsbD 18 = true := by
  rw [BitVec.getLsbD_or, show (0x40000#64).getLsbD 18 = true from rfl, Bool.or_true]

/-- A counter that is not abandoned and has not reached its target leaves the arming. -/
theorem Block.checkArm_waits {b : Block} {i n : Nat} (harm : b.prep.arm = some (i, n)) (hcnt : (b.cnt i).abandoned = none)
    (hn : (b.cnt i).value < n) : b.checkArm = b := by
  simp [Block.checkArm, harm, hcnt, hn]

/-- An abandoned counter, or one that has reached its target, raises the interrupt and clears the arming. -/
theorem Block.checkArm_raises {b : Block} {i n : Nat} (harm : b.prep.arm = some (i, n))
    (h : (b.cnt i).abandoned ≠ none ∨ n ≤ (b.cnt i).value) :
    b.checkArm = { b with prep.arm := none, prep.mip := b.prep.mip ||| 0x40000#64 } := by
  simp [Block.checkArm, harm, Option.isSome_iff_ne_none, h]

theorem Block.checkArm_pc (b : Block) : b.checkArm.prep.pc = b.prep.pc := by
  unfold Block.checkArm
  split
  · rfl
  · split <;> rfl

/-! ### The command of an Xvln instruction -/

/-- The commands of the Xvln instructions, each with its function code (R193). -/
def vlnCommands (p : Nat) : List (Instr × Nat) :=
  [(.vlnSig p, 0x00), (.vlnSigr p, 0x01), (.vlnWait p, 0x02), (.vlnRead p, 0x03), (.vlnHarv p, 0x04), (.vlnHwait p, 0x05), (.vlnRun p, 0x08),
    (.vlnWreg p, 0x09), (.vlnRreg p, 0x0A), (.vlnRclr p, 0x10), (.vlnRent p, 0x11), (.vlnRstat p, 0x12), (.vlnArm p, 0x18), (.vlnRdbc p, 0x19)]

theorem exec_vln_eq {p : Nat} {cf : Instr × Nat} (h : cf ∈ vlnCommands p) (s : State) :
    exec cf.1 s = s.answer touchBlock (s.vlnStep p cf.2).collSettle := by
  revert cf
  simp only [vlnCommands, List.forall_mem_cons]
  exact ⟨rfl, rfl, rfl, rfl, rfl, rfl, rfl, rfl, rfl, rfl, rfl, rfl, rfl, rfl, fun _ h => absurd h List.not_mem_nil⟩

/-- A command of a block keeps what its effect leaves of the blocks and of the host interface, where no collective runs. -/
theorem State.answer_touchBlock {s : State} (hcoll : s.NoColl) (bs : Sparse Block) (h : Hif) :
    s.answer touchBlock ({ s with blocks := bs, hif := h } : State).collSettle = .next { s with blocks := bs, hif := h } := by
  rw [State.collSettle_none (s := { s with blocks := bs, hif := h }) hcoll, State.answer_eq]
  exact congrArg (fun f => Host.Outcome.next { s with blocks := bs, hif := h, fence := f }) s.fence.join_self

theorem vlnN_of_range {n : Nat} (h1 : 1 ≤ n) (h2 : n < 2 ^ 32) : vlnN n = true := by
  rw [vlnN, decide_eq_true h1, decide_eq_true h2, Bool.and_self]

theorem Block.idleStage_of_none {b : Block} (h : b.run = none) : b.idleStage = true := by rw [Block.idleStage, h, Option.isNone_none]

/-- The Xvln instruction of a function code, with operands x and y, stands at the pc of a running core. -/
structure State.VlnAt (s : State) (p ins len f7 x y : Nat) : Prop where
  prep : s.PrepAt p ins len
  op : iOp ins = 0x0B
  f3 : iF3 ins = 0
  f7 : iF7 ins = f7
  rs1 : (s.block p).xreg (iRs1 ins) = x
  rs2 : (s.block p).xreg (iRs2 ins) = y

theorem State.vlnStep_of_other {s : State} {p ins len : Nat} (h : s.PrepAt p ins len) (hop : iOp ins ≠ 0x0B) (f7 : Nat) : s.vlnStep p f7 = s := by
  obtain ⟨hruns, hawake, hfetch⟩ := h
  simp [State.vlnStep, hruns, hawake, hfetch, hop]

section at_pc
variable {s : State} {p ins len f7 x y : Nat}

theorem State.VlnAt.vlnStep (h : s.VlnAt p ins len f7 x y) : s.vlnStep p f7 = s.xvln p ins len := by
  obtain ⟨hruns, hawake, hfetch⟩ := h.prep
  simp [State.vlnStep, hruns, hawake, hfetch, h.op, h.f3, h.f7]

/-- The command of the instruction at the pc leaves what the instruction does. -/
theorem State.VlnAt.exec (h : s.VlnAt p ins len f7 x y) (hcoll : s.NoColl) {c : Instr} {t : State} (hx : s.xvln p ins len = t)
    (ht : t = { s with blocks := t.blocks, hif := t.hif }) (hc : (c, f7) ∈ vlnCommands p := by simp [vlnCommands]) :
    Machine.exec c s = .next t := by
  rw [exec_vln_eq hc, h.vlnStep, hx, ht, State.answer_touchBlock hcoll]

/-! ### What each instruction does (R193 to R197) -/

theorem State.VlnAt.sig (h : s.VlnAt p ins len 0x00 x y) (hx : x ≤ 47) (h1 : 1 ≤ y) (h2 : y < 2 ^ 32) :
    s.xvln p ins len = (s.sendSignal p ((s.shapeOf p).getD 0) x y).onBlock p (Block.retire len 0 0) := by
  have hn := vlnN_of_range h1 h2
  simp [State.xvln, h.f3, h.f7, h.rs1, h.rs2, hn, Nat.not_lt.mpr hx]

theorem State.VlnAt.sigr (h : s.VlnAt p ins len 0x01 x y) (hx : x % 256 ≤ 47) (h1 : 1 ≤ y) (h2 : y < 2 ^ 32)
    (hshape : (s.physOf (x / 256)).isSome = true) :
    s.xvln p ins len = (s.sendSignal p (x / 256) (x % 256) y).onBlock p (Block.retire len 0 0) := by
  have hn := vlnN_of_range h1 h2
  have hplaced : (s.physOf (x / 256)).isNone = false := by rw [← Option.not_isSome, hshape, Bool.not_true]
  simp [State.xvln, h.f3, h.f7, h.rs1, h.rs2, hn, Nat.not_lt.mpr hx, hplaced]

theorem State.VlnAt.wait (h : s.VlnAt p ins len 0x02 x y) (hx : x ≤ 47) (hcnt : ((s.block p).cnt x).abandoned = none) :
    s.xvln p ins len = if y ≤ ((s.block p).cnt x).value then s.onBlock p (Block.retire len (iRd ins) 0) else s.prepStall p := by
  simp [State.xvln, h.f3, h.f7, h.rs1, h.rs2, Nat.not_lt.mpr hx, hcnt]

theorem State.VlnAt.read (h : s.VlnAt p ins len 0x03 x y) (hx : x ≤ 47) (hstrict : s.strict = false) :
    s.xvln p ins len = s.onBlock p (Block.retire len (iRd ins) ((s.block p).cnt x).value) := by
  simp [State.xvln, h.f3, h.f7, h.rs1, Nat.not_lt.mpr hx, hstrict]

theorem State.VlnAt.harv (h : s.VlnAt p ins len 0x04 x y) (hx : x ≤ 15) (htest : s.hudTest p x true = .ok) :
    s.xvln p ins len = s.setBlock p (({ s.block p with arr := (s.block p).arr.addNum x 1 } : Block).retire len 0 0) := by
  simp [State.xvln, h.f3, h.f7, h.rs1, Nat.not_lt.mpr hx, htest, State.onBlock_onBlock]

theorem State.VlnAt.hwait (h : s.VlnAt p ins len 0x05 x y) (hx : x ≤ 15) (htest : s.hudTest p x false = .ok) :
    s.xvln p ins len = if (s.block p).arrivals x ≤ (s.line x).gen then s.onBlock p (Block.retire len (iRd ins) 0) else s.prepStall p := by
  simp [State.xvln, h.f3, h.f7, h.rs1, Nat.not_lt.mpr hx, htest]

/-- While a run is under way, the instructions that need the idle issue stage stall. -/
theorem State.VlnAt.stalls (h : s.VlnAt p ins len f7 x y) (hf7 : f7 ∈ [0x08, 0x10, 0x12]) (hrun : (s.block p).run.isSome = true) :
    s.xvln p ins len = s.prepStall p := by
  have hbusy : (s.block p).idleStage = false := by rw [Block.idleStage, ← Option.not_isSome, hrun, Bool.not_true]
  simp only [List.mem_cons, List.not_mem_nil, or_false] at hf7
  obtain rfl | rfl | rfl := hf7 <;> simp [State.xvln, h.f3, h.f7, hbusy]

theorem State.VlnAt.run (h : s.VlnAt p ins len 0x08 x y) (hrun : (s.block p).run = none) :
    s.xvln p ins len = s.setBlock p (({ s.block p with runq := (s.block p).runq ++
      [{ seq := none, tag := y % 2 ^ 32, entry := x, chk := bitOn y 32, dense := bitOn y 33, cls := (s.block p).lastCls, isNew := s.time.now }] } :
        Block).retire len 0 0) := by
  simp [State.xvln, h.f3, h.f7, h.rs1, h.rs2, Block.idleStage_of_none hrun, State.onBlock_onBlock]

theorem State.VlnAt.wreg (h : s.VlnAt p ins len 0x09 x y) (hrun : (s.block p).run = none) (hsel : selectorOk x = true) :
    s.xvln p ins len = s.setBlock p (((s.block p).writeSel x y).retire len 0 0) := by
  simp [State.xvln, h.f3, h.f7, h.rs1, h.rs2, Block.idleStage_of_none hrun, hsel, State.onBlock_onBlock]

theorem State.VlnAt.rreg (h : s.VlnAt p ins len 0x0A x y) (hrun : (s.block p).run = none) (hsel : selectorOk x = true) :
    s.xvln p ins len = s.onBlock p (Block.retire len (iRd ins) ((s.block p).readSel x)) := by
  simp [State.xvln, h.f3, h.f7, h.rs1, Block.idleStage_of_none hrun, hsel]

theorem State.VlnAt.rclr (h : s.VlnAt p ins len 0x10 x y) (hrun : (s.block p).run = none) :
    s.xvln p ins len = s.setBlock p (({ s.block p with
      rdu := { (s.block p).rdu.clear (x % 16 + 1) with issMode := 3 } } : Block).retire len 0 0) := by
  simp [State.xvln, h.f3, h.f7, h.rs1, Block.idleStage_of_none hrun, State.onBlock_onBlock]

theorem State.VlnAt.rent (h : s.VlnAt p ins len 0x11 x y) (hrun : (s.block p).run = none) (hx : x ≤ 15) :
    s.xvln p ins len = s.onBlock p (Block.retire len (iRd ins) ((s.block p).rdu.entryWord x)) := by
  simp [State.xvln, h.f3, h.f7, h.rs1, Block.idleStage_of_none hrun, Nat.not_lt.mpr hx]

theorem State.VlnAt.rstat (h : s.VlnAt p ins len 0x12 x y) (hrun : (s.block p).run = none) :
    s.xvln p ins len = s.onBlock p (Block.retire len (iRd ins) (s.block p).rdu.word) := by
  simp [State.xvln, h.f3, h.f7, Block.idleStage_of_none hrun]

theorem State.VlnAt.arm (h : s.VlnAt p ins len 0x18 x y) (hx : x ≤ 47) :
    s.xvln p ins len = s.setBlock p (({ s.block p with prep.arm := some (x, y) } : Block).checkArm.retire len 0 0) := by
  simp [State.xvln, h.f3, h.f7, h.rs1, h.rs2, Nat.not_lt.mpr hx, State.onBlock_onBlock]

theorem State.VlnAt.rdbc (h : s.VlnAt p ins len 0x19 x y) (hstrict : s.strict = false) :
    s.xvln p ins len = s.onBlock p (Block.retire len (iRd ins) (s.block p).beats) := by
  simp [State.xvln, h.f3, h.f7, hstrict]

end at_pc

/-! ### The commands of an instruction together -/

/-- Settles O41: the command of each instruction leaves what its branch of `State.xvln` leaves, and with another instruction at the pc
nothing changes. -/
theorem xvlnInstructions : Obligations.XvlnInstructions := by
  intro s p ins len hcoll hprep b x y done ret stalled sends
  refine ⟨fun c hc hop => ?_, fun hop hf3 => ?_⟩
  · obtain ⟨cf, hcf, rfl⟩ := List.mem_map.mp (show c ∈ (vlnCommands p).map Prod.fst from hc)
    rw [exec_vln_eq hcf, State.vlnStep_of_other hprep hop]
    exact State.answer_touchBlock hcoll s.blocks s.hif
  have hat : ∀ {f7}, iF7 ins = f7 → s.VlnAt p ins len f7 x y := fun hf7 => ⟨hprep, hop, hf3, hf7, rfl, rfl⟩
  have hy : y < 2 ^ 64 := b.xreg_lt _
  refine ⟨fun h hx h1 h2 => (hat h).exec hcoll ((hat h).sig hx h1 h2) rfl,
    fun h hx h1 h2 hshape => (hat h).exec hcoll ((hat h).sigr hx h1 h2 hshape) rfl,
    fun h hx hcnt => (hat h).exec hcoll ((hat h).wait hx hcnt) (by split <;> rfl),
    fun h hx hstrict => (hat h).exec hcoll ((hat h).read hx hstrict) rfl,
    fun h hx htest => (hat h).exec hcoll ((hat h).harv hx htest) rfl,
    fun h hx htest => (hat h).exec hcoll ((hat h).hwait hx htest) (by split <;> rfl),
    fun hrun cf hcf h => ?stalls,
    fun hrun => ⟨fun h => (hat h).exec hcoll ((hat h).run hrun) rfl,
      fun h hsel => ?wreg,
      fun h hsel => (hat h).exec hcoll ((hat h).rreg hrun hsel) rfl,
      fun h => ?rclr,
      fun h hx => (hat h).exec hcoll ((hat h).rent hrun hx) rfl,
      fun h => (hat h).exec hcoll ((hat h).rstat hrun) rfl⟩,
    fun h hx => ?arm,
    fun h hstrict => (hat h).exec hcoll ((hat h).rdbc hstrict) rfl⟩
  case stalls =>
    simp only [List.mem_cons, List.not_mem_nil, or_false] at hcf
    obtain rfl | rfl | rfl := hcf <;> exact (hat h).exec hcoll ((hat h).stalls (by simp) hrun) rfl
  case wreg =>
    have hwritten : ((b.writeSel x y).retire len 0 0).prep = done.prep := Block.retire_prep_congr (b.writeSel_prep x y) len
    refine ⟨_, (hat h).exec hcoll ((hat h).wreg hrun hsel) rfl, ?_⟩
    rw [State.block_setBlock]
    exact ⟨rfl, hwritten, fun h0 c hc => b.writeSel_areg hy h0 hc, fun h1 => b.writeSel_sreg hy h1, fun h2 => b.writeSel_lc h2⟩
  case rclr =>
    refine ⟨_, (hat h).exec hcoll ((hat h).rclr hrun) rfl, ?_⟩
    rw [State.block_setBlock]
    exact ⟨rfl, rfl, rfl, rfl⟩
  case arm =>
    let armed : Block := { b with prep.arm := some (x, y) }
    refine ⟨_, (hat h).exec hcoll ((hat h).arm hx) rfl, ?_⟩
    rw [State.block_setBlock]
    refine ⟨rfl, ?_, fun hcnt hlt => ?_, fun hmet => ?_⟩
    · rw [Block.retire_pc, Block.checkArm_pc]
      rfl
    · rw [Block.checkArm_waits (b := armed) rfl hcnt hlt]
      rfl
    · rw [Block.checkArm_raises (b := armed) rfl hmet]
      exact ⟨rfl, getLsbD_or_bit18 _⟩

end Sys2Proof.Machine
end

section
/-! PROOFS. WAIT and SIGNAL (R546, R547, R622): at the front of the window each is one application of `State.holdOr`, which acts, ends
the command or puts it in the pool as its wait condition stands. -/

namespace Sys2Proof.Machine

/-! ### A command that acts once its condition holds -/

section hold
variable {s : State} {e : WinEntry} {rest : List WinEntry} {c : OpenCmd} {act : State → State}

/-- The command acts and completes with 0. -/
theorem State.holdOr_acts (h : s.waitState e.cond = .ok) : s.holdOr e c act = (act s).finishEntry e 0 0 := by
  rw [State.holdOr, h]

/-- The counter is abandoned: the command does not act (R208). -/
theorem State.holdOr_abandoned (hroom : s.room e.ringByte = true) (h : s.waitState e.cond = .abandoned) :
    State.holdOr e c act { s with hif.window := rest } = s.ended e rest stAbandoned 0 := by
  have ht : ({ s with hif.window := rest } : State).waitState e.cond = .abandoned := h
  rw [State.holdOr, ht]
  exact State.finishEntry_eq stAbandoned 0 hroom

/-- The condition does not hold yet and the pool of 256 has a place. -/
theorem State.holdOr_waits (h : s.waitState e.cond = .notYet) (hpool : s.hif.waits.length < 256) :
    s.holdOr e c act = { s with hif.opened := s.hif.opened ++ [c], hif.waits := s.hif.waits ++ [e.seq] } := by
  rw [State.holdOr, h]
  exact if_pos hpool

/-- The condition does not hold yet and the pool is full. -/
theorem State.holdOr_full (hroom : s.room e.ringByte = true) (h : s.waitState e.cond = .notYet) (hpool : 256 ≤ s.hif.waits.length) :
    State.holdOr e c act { s with hif.window := rest } = s.ended e rest stWaitFull 0 := by
  have ht : ({ s with hif.window := rest } : State).waitState e.cond = .notYet := h
  rw [State.holdOr, ht]
  exact (if_neg (Nat.not_lt.mpr hpool)).trans (State.finishEntry_eq stWaitFull 0 hroom)

end hold

theorem WinEntry.cond_of_wen {e : WinEntry} (h : e.wen = true) : e.cond = some (e.wshape, e.wcnt, e.wtarget) := if_pos h

/-- Without a wait condition a command need not wait. -/
theorem State.waitState_of_not_wen {s : State} {e : WinEntry} (h : e.wen = false) : s.waitState e.cond = .ok := by
  rw [WinEntry.cond, h]
  rfl

/-- A command of the window whose effect differs in the host interface alone leaves that effect. -/
theorem State.answer_touchTake (s : State) (h : Hif) : s.answer touchTake { s with hif := h } = .next { s with hif := h } := rfl

/-! ### WAIT -/

section wait
variable {s : State} {e : WinEntry} {rest : List WinEntry}

theorem exec_wait_eq (s : State) : exec .wait s = s.answer touchTake s.waitCmd := rfl

/-- A WAIT whose header is well formed has a wait condition (R546). -/
theorem State.Offers.wait_cond (h : s.Offers e rest) (hop : e.opcode = 1) : e.cond = some (e.wshape, e.wcnt, e.wtarget) := by
  obtain ⟨⟨-, -, -, -, hheader, -, -⟩, -⟩ := h
  refine WinEntry.cond_of_wen (Bool.of_not_eq_false fun hwen => ?_)
  simp [WinEntry.headerOk, hwen, hop] at hheader

/-- A well-formed WAIT at the front of the window is executed there. -/
theorem State.waitCmd_front (h : s.Fronts e rest) (hop : e.opcode = 1) (hok : e.zeros 0x10 0x40 = true) :
    s.waitCmd = if !s.waitUsed e then State.finishEntry e stBadTarget 0 { s with hif.window := rest }
      else State.holdOr e { e.toOpen with wait := e.cond } id { s with hif.window := rest } :=
  State.take_runs h (beq_iff_eq.mpr hop) hok rfl

/-- Its counter is not USED (R622). -/
theorem State.waitCmd_unused (h : s.Offers e rest) (hop : e.opcode = 1) (hok : e.zeros 0x10 0x40 = true) (hused : s.waitUsed e = false) :
    s.waitCmd = s.ended e rest stBadTarget 0 := by
  rw [State.waitCmd_front h.1 hop hok, hused, ← State.finishEntry_eq stBadTarget 0 h.2]
  rfl

/-- Its counter is USED. -/
theorem State.waitCmd_used (h : s.Offers e rest) (hop : e.opcode = 1) (hok : e.zeros 0x10 0x40 = true) (hused : s.waitUsed e = true) :
    s.waitCmd = State.holdOr e { e.toOpen with wait := e.cond } id { s with hif.window := rest } := by
  rw [State.waitCmd_front h.1 hop hok, hused]
  rfl

end wait

/-- Settles O10: the USED test, and then the three answers of the wait condition. -/
theorem waitCompletesOrEntersThePool : Obligations.WaitCompletesOrEntersThePool := by
  intro s e rest h hop hok w
  have hcond : e.cond = some w := h.wait_cond hop
  have hfront := State.waitCmd_used h hop hok
  rw [exec_wait_eq]
  refine ⟨fun hused => ?_, fun hused hst => ?_, fun hused hst => ?_, fun hused hst => ⟨fun hpool => ?_, fun hpool => ?_⟩⟩
  · rw [State.waitCmd_unused h hop hok hused]
    exact State.answer_touchTake s _
  all_goals rw [← hcond] at hst
  · rw [hfront hused, State.holdOr_acts (s := { s with hif.window := rest }) hst, id, State.finishEntry_eq 0 0 h.2]
    exact State.answer_touchTake s _
  · rw [hfront hused, State.holdOr_abandoned h.2 hst]
    exact State.answer_touchTake s _
  · rw [hfront hused, State.holdOr_waits (s := { s with hif.window := rest }) hst hpool, hcond, WinEntry.toOpen, hop]
    exact State.answer_touchTake s _
  · rw [hfront hused, State.holdOr_full h.2 hst hpool]
    exact State.answer_touchTake s _

/-! ### SIGNAL -/

section signal
variable {s : State} {e : WinEntry} {rest : List WinEntry} {shape i n : Nat}

theorem exec_signal_eq (s : State) : exec .signal s = s.answer touchTake s.signalCmd := rfl

/-- A SIGNAL of N to a counter, put on its way by the command of a SEQ (R547). -/
def State.hostSignal (shape i n seq : Nat) (s : State) : State :=
  { s with hif.inflight := s.hif.inflight ++ [.host shape i n (some seq)] }

/-- The command of a SIGNAL as the pool holds it. -/
def WinEntry.signalOpen (e : WinEntry) (shape i n : Nat) : OpenCmd := { e.toOpen with wait := e.cond, signal := some (shape, i, n) }

/-- A well-formed SIGNAL at the front of the window, with its target's shape and counter and its N. -/
structure State.SignalAt (s : State) (e : WinEntry) (rest : List WinEntry) (shape i n : Nat) : Prop where
  offers : s.Offers e rest
  opcode : e.opcode = 2
  ok : e.signalOk = true
  shape : bits (e.op 0x10 2) 14 6 = shape
  cnt : bits (e.op 0x10 2) 5 0 = i
  amount : e.op 0x18 8 = n

theorem State.SignalAt.signalCmd (h : s.SignalAt e rest shape i n) : s.signalCmd =
    if !s.hostCnt shape i then s.ended e rest stBadTarget 0
    else if e.wen && !s.waitUsed e then s.ended e rest stBadTarget 0
    else State.holdOr e (e.signalOpen shape i n) (State.hostSignal shape i n e.seq) { s with hif.window := rest } := by
  obtain ⟨⟨hfronts, hroom⟩, hop, hok, rfl, rfl, rfl⟩ := h
  rw [← State.finishEntry_eq stBadTarget 0 hroom]
  exact State.take_runs hfronts (beq_iff_eq.mpr hop) hok rfl

/-- The HOST test fails, or the wait counter is not USED (R622). -/
theorem State.SignalAt.exec_refused (h : s.SignalAt e rest shape i n)
    (hbad : s.hostCnt shape i = false ∨ (e.wen = true ∧ s.waitUsed e = false)) : exec .signal s = .next (s.ended e rest 0x110B 0) := by
  have hcmd : s.signalCmd = s.ended e rest stBadTarget 0 := by
    rw [h.signalCmd]
    rcases hbad with hhost | ⟨hwen, hused⟩
    · rw [hhost]
      rfl
    · rw [hwen, hused]
      exact ite_self _
  rw [exec_signal_eq, hcmd]
  exact State.answer_touchTake s _

/-- Past both tests the SIGNAL is held to its wait condition. -/
theorem State.SignalAt.exec_held (h : s.SignalAt e rest shape i n) (hhost : s.hostCnt shape i = true)
    (hwait : e.wen = true → s.waitUsed e = true) {g : Hif}
    (hg : State.holdOr e (e.signalOpen shape i n) (State.hostSignal shape i n e.seq) { s with hif.window := rest } = { s with hif := g }) :
    exec .signal s = .next { s with hif := g } := by
  have htest : (e.wen && !s.waitUsed e) = false := by
    cases hwen : e.wen
    · rfl
    · rw [hwait hwen]
      rfl
  rw [exec_signal_eq, h.signalCmd, hhost, htest]
  exact (congrArg (s.answer touchTake) hg).trans (State.answer_touchTake s g)

/-- The SIGNAL sets out, and its command completes. -/
theorem State.SignalAt.hold_sends (h : s.SignalAt e rest shape i n) (hst : s.waitState e.cond = .ok) :
    State.holdOr e (e.signalOpen shape i n) (State.hostSignal shape i n e.seq) { s with hif.window := rest } =
      { s.ended e rest 0 0 with hif := { (s.ended e rest 0 0).hif with
        inflight := s.hif.inflight ++ [InFlight.host shape i n (some e.seq)] } } := by
  rw [State.holdOr_acts (s := { s with hif.window := rest }) hst]
  exact State.finishEntry_eq (s := State.hostSignal shape i n e.seq s) (rest := rest) 0 0 h.offers.2

end signal

/-- Settles O11: the HOST test, then the USED test, then the three answers of the wait condition. -/
theorem signalSetsOutOrWaits : Obligations.SignalSetsOutOrWaits := by
  intro s e rest h hop hok shape i n w sent
  have hat : s.SignalAt e rest shape i n := ⟨h, hop, hok, rfl, rfl, rfl⟩
  refine ⟨fun hhost => hat.exec_refused (.inl hhost), fun hhost => ⟨fun hwen => ?_, fun hwen => ⟨fun hused => ?_, fun hused => ?_⟩⟩⟩
  · exact hat.exec_held hhost (by simp [hwen]) (hat.hold_sends (State.waitState_of_not_wen hwen))
  · exact hat.exec_refused (.inr ⟨hwen, hused⟩)
  have hcond : e.cond = some w := WinEntry.cond_of_wen hwen
  rw [← hcond]
  refine ⟨fun hst => ?_, fun hst => ?_, fun hst hpool => ?_, fun hst hpool => ?_⟩ <;>
    refine hat.exec_held hhost (fun _ => hused) ?_
  · exact hat.hold_sends hst
  · exact State.holdOr_abandoned h.2 hst
  · exact State.holdOr_full h.2 hst hpool
  · rw [State.holdOr_waits (s := { s with hif.window := rest }) hst hpool, WinEntry.signalOpen, WinEntry.toOpen, hop]

end Sys2Proof.Machine
end

section
/-! PROOFS. A signal that arrives, the waiting commands it releases, and a line of the Huddle that advances (R198, R203, R204, R212). -/

namespace Sys2Proof.Machine

/-! ### A signal at its counter -/

theorem Block.checkArm_cnt (b : Block) (j : Nat) : b.checkArm.cnt j = b.cnt j := by
  unfold Block.checkArm
  split
  · rfl
  · split <;> rfl

/-- The counter after a signal of N: an abandoned one stays, another goes up by N, to at most 2^64 − 1 (R198, R207). -/
def Cnt.plus (c : Cnt) (n : Nat) : Cnt := if c.abandoned.isSome then c else { c with value := min max64 (c.value + n) }

/-- A signal reaches its own counter alone. -/
theorem Block.addCnt_cnt (b : Block) (i n j : Nat) : (b.addCnt i n).cnt j = if j = i then (b.cnt i).plus n else b.cnt j := by
  unfold Block.addCnt Cnt.plus
  dsimp only
  by_cases hgone : (b.cnt i).abandoned.isSome = true
  · rw [if_pos hgone, if_pos hgone]
    split
    · next hj => rw [hj]
    · rfl
  · rw [if_neg hgone, if_neg hgone, Block.checkArm_cnt, Block.cnt_setCnt]

/-! ### The release of waiting commands -/

/-- Every signal on its way stays so; those of commands that are released set out behind it. -/
def State.KeepsSignals (s t : State) : Prop := s.hif.inflight <+: t.hif.inflight

theorem State.KeepsSignals.of_eq {s t : State} (h : t.hif.inflight = s.hif.inflight) : s.KeepsSignals t :=
  (congrArg (s.hif.inflight <+: ·) h).mpr List.prefix_rfl

theorem State.KeepsSignals.trans {s t u : State} (h : s.KeepsSignals t) (k : t.KeepsSignals u) : s.KeepsSignals u := List.IsPrefix.trans h k

theorem State.KeepsSignals.foldl {α : Type} {f : State → α → State} (l : List α) (s : State) (h : ∀ (t : State) (a : α), t.KeepsSignals (f t a)) :
    s.KeepsSignals (l.foldl f s) :=
  List.foldlRecOn (motive := s.KeepsSignals) l f (.of_eq rfl) fun t ht a _ => ht.trans (h t a)

theorem State.KeepsSignals.finishOpen (s : State) (c : OpenCmd) (st r0 r1 nf : Nat) : s.KeepsSignals (s.finishOpen c st r0 r1 nf) := by
  unfold State.finishOpen State.finishIn
  split <;> exact .of_eq rfl

theorem State.KeepsSignals.dropCmd (s : State) (q st : Nat) : s.KeepsSignals (s.dropCmd q st) := by
  cases h : s.openCmd q with
  | none => unfold State.dropCmd; rw [h]; exact .of_eq rfl
  | some c =>
    rw [State.dropCmd_open s q st c h]
    have hqueues := State.KeepsSignals.foldl c.targets s fun t x => .of_eq (t := t.onBlock x.2 (Block.dequeue q)) rfl
    exact (hqueues.trans (.of_eq (t := State.unpool q _) rfl)).trans (.finishOpen _ _ _ _ _ _)

theorem State.KeepsSignals.wakeOne (s : State) (q : Nat) : s.KeepsSignals (s.wakeOne q) := by
  unfold State.wakeOne
  split
  · exact .of_eq rfl
  split
  · exact .of_eq rfl
  · exact .dropCmd s _ _
  · refine .trans ?_ (.finishOpen _ _ _ _ _ _)
    split
    · exact .of_eq rfl
    · exact List.prefix_append _ _

theorem State.KeepsSignals.wakeHost (s : State) : s.KeepsSignals s.wakeHost :=
  (State.KeepsSignals.foldl _ s fun t q => .wakeOne t q).trans (.foldl _ _ fun t c => .dropCmd t c.seq stAbandoned)

/-- The release of waiting commands changes no counter. -/
theorem State.wakeHost_cnt (s : State) (p j : Nat) : (s.wakeHost.block p).cnt j = (s.block p).cnt j := by
  obtain ⟨q, hq⟩ := State.Requeues.wakeHost s p
  rw [hq]
  rfl

/-- The only command that waits, with no signal to send, completes when its condition holds (R208, R546). -/
theorem State.wakeHost_only {s : State} {c : OpenCmd} (hwaits : s.hif.waits = [c.seq]) (hopen : s.hif.opened = [c])
    (hcond : s.waitState c.wait = .ok) (hsig : c.signal = none) (hroom : s.hif.done.length < 4096) :
    s.wakeHost = { s with hif := { s.hif with waits := [], opened := [], done := s.hif.done ++ [c.compl 0 0 0 0] } } := by
  have hcmd : s.openCmd c.seq = some c := by simp [State.openCmd, hopen]
  have hone : s.wakeOne c.seq = { s with hif := { s.hif with waits := [], opened := [], done := s.hif.done ++ [c.compl 0 0 0 0] } } := by
    have hfree : ({ s with hif.waits := s.hif.waits.filter (fun x => x != c.seq) } : State).room c.ring = true := by
      simp [State.room, hroom]
    rw [State.wakeOne, hcmd]
    dsimp only
    rw [hcond]
    dsimp only
    rw [hsig]
    dsimp only
    rw [State.finishOpen_room _ c 0 0 0 0 hfree]
    simp [hwaits, hopen]
  rw [State.wakeHost, hwaits, List.foldl_cons, List.foldl_nil, hone]
  rfl

/-! ### SIGNAL_ARRIVAL -/

theorem exec_signalArrival_eq (s : State) (index : Nat) :
    exec (.signalArrival index) s = s.answer { blocks := true, hif := true } (s.signalArrives index) := rfl

/-- A signal whose earlier writes are not yet visible waits (R203). -/
theorem State.signalArrives_early {s : State} {index : Nat} {f : InFlight} (hf : s.hif.inflight[index]? = some f)
    (hready : s.signalReady f = false) : s.signalArrives index = s := by
  rw [State.signalArrives, hf]
  dsimp only
  rw [hready]
  rfl

/-- The state in which a signal of N has reached counter `i` of block `p` and no waiting command is released yet. -/
def State.signalLanded (index p i n : Nat) (s : State) : State :=
  ({ s with hif.inflight := s.hif.inflight.eraseIdx index } : State).onBlock p (Block.addCnt i n)

theorem State.signalLanded_cnt (s : State) (index p i n j : Nat) :
    ((s.signalLanded index p i n).block p).cnt j = if j = i then ((s.block p).cnt i).plus n else (s.block p).cnt j := by
  rw [State.signalLanded, State.block_onBlock_same, Block.addCnt_cnt]
  rfl

/-- A signal whose earlier writes are visible lands, and what waited for it is released. -/
theorem State.signalArrives_lands {s : State} {index shape i n p : Nat} {f : InFlight} (hf : s.hif.inflight[index]? = some f)
    (htarget : f.target = (shape, i, n)) (hready : s.signalReady f = true) (hp : s.physOf shape = some p) :
    s.signalArrives index = (s.signalLanded index p i n).wakeHost := by
  rw [State.signalArrives, hf]
  dsimp only
  rw [hready, htarget]
  dsimp only
  rw [hp]
  rfl

/-- A wait on the counter holds once the signal has brought it to the target. -/
theorem State.signalLanded_wait {s : State} {index shape i n p target : Nat} (hp : s.physOf shape = some p)
    (hcnt : ((s.block p).cnt i).abandoned = none) (hreach : target ≤ min (2 ^ 64 - 1) (((s.block p).cnt i).value + n)) :
    (s.signalLanded index p i n).waitState (some (shape, i, target)) = .ok := by
  have hwait : (s.signalLanded index p i n).waitCnt (shape, i, target) = some (((s.block p).cnt i).plus n) := by
    rw [State.waitCnt, show (s.signalLanded index p i n).physOf shape = some p from hp, Option.map_some, State.signalLanded_cnt, if_pos rfl]
  have hplus : ((s.block p).cnt i).plus n = { (s.block p).cnt i with value := min max64 (((s.block p).cnt i).value + n) } :=
    if_neg (by rw [hcnt]; exact Bool.false_ne_true)
  rw [State.waitState]
  dsimp only
  rw [hwait, hplus]
  dsimp only
  rw [hcnt, if_neg (by exact Bool.false_ne_true)]
  exact if_pos hreach

/-! ### HUDDLE_RELEASE -/

theorem exec_huddleRelease_eq (s : State) (l : Nat) :
    exec (.huddleRelease l) s = s.answer { hud := true } (if (s.line l).gen < s.finalGen l then
      { s with hud := Sparse.set {} s.hud l { s.line l with gen := (s.line l).gen + 1 } } else s) := rfl

/-- Settles O37: the signal lands and releases what waits, or waits itself; the line advances, or stays. -/
theorem signalsAndHuddleReleases : Obligations.SignalsAndHuddleReleases := by
  refine ⟨fun s index shape i n p f hf htarget hready hp => ?_, fun s index f hf hready => ?_, fun s l => ⟨fun hgen => ?_, fun hgen => ?_⟩⟩
  · let u := s.signalLanded index p i n
    let t := s.keep { blocks := true, hif := true } u.wakeHost
    have hexec : exec (.signalArrival index) s = .next t := by
      rw [exec_signalArrival_eq, State.signalArrives_lands hf htarget hready hp, State.answer_eq]
    have hcnt : ∀ j, (t.block p).cnt j = if j = i then ((s.block p).cnt i).plus n else (s.block p).cnt j := fun j =>
      (u.wakeHost_cnt p j).trans (s.signalLanded_cnt index p i n j)
    obtain ⟨more, hmore⟩ := State.KeepsSignals.wakeHost u
    refine ⟨t, more, hexec, hmore.symm, (hcnt i).trans (if_pos rfl), fun j hj => (hcnt j).trans (if_neg hj), keep_onlyIn _ _ _, ?_⟩
    intro c target hroom hwaits hopen _ hsig hwait hnone hreach
    have hcond : u.waitState c.wait = .ok := by rw [hwait, State.signalLanded_wait hp hnone hreach]
    have hwake := congrArg State.hif (State.wakeHost_only (s := u) hwaits hopen hcond hsig hroom)
    exact ⟨congrArg Hif.waits hwake, congrArg Hif.opened hwake, congrArg Hif.done hwake⟩
  · rw [exec_signalArrival_eq, State.signalArrives_early hf hready]
    rfl
  · refine ⟨_, (exec_huddleRelease_eq s l).trans (congrArg (s.answer _) (if_pos hgen)), ?_, fun k hk => ?_, keep_onlyIn _ _ _⟩
    · exact Sparse.get_set_same _ _ _ _
    · exact Sparse.get_set_other _ _ _ _ _ hk
  · rw [exec_huddleRelease_eq, if_neg (Nat.not_lt.mpr hgen)]
    rfl

end Sys2Proof.Machine
end

section
/-! PROOFS. The prep core's own instructions, its exceptions, MRET and its interrupts (R188 to R192, R196): each is one branch of
`State.prepExec`, or one of the three changes of its CSRs that enter and leave a trap. -/

namespace Sys2Proof.Machine

/-! ### Two's complement and little-endian numbers -/

theorem toSigned_modEq (k n : Nat) : toSigned k n ≡ (n : Int) [ZMOD ((2 ^ k : Nat) : Int)] := by
  have hmod : ((n % 2 ^ k : Nat) : Int) ≡ (n : Int) [ZMOD ((2 ^ k : Nat) : Int)] := by
    rw [Int.natCast_mod]
    exact Int.mod_modEq _ _
  unfold toSigned
  split
  · exact hmod
  · exact Int.sub_modulus_modEq_iff.mpr hmod

theorem ofSigned_of_modEq {k n : Nat} {z : Int} (h : z ≡ (n : Int) [ZMOD ((2 ^ k : Nat) : Int)]) : ofSigned k z = n % 2 ^ k := by
  rw [ofSigned, h.eq, ← Int.natCast_mod, Int.toNat_natCast]

/-- A doubleword is its own sign extension. -/
theorem sext_doubleword {n : Nat} (h : n < 2 ^ 64) : sext 64 n = n :=
  (ofSigned_of_modEq (toSigned_modEq 64 n)).trans (Nat.mod_eq_of_lt h)

/-- The sum of two registers is their sum modulo 2^64. -/
theorem aluOp_add (x y : Nat) : aluOp 64 0 false x y = some ((x + y) % 2 ^ 64) := by
  have hsum : toSigned 64 x + toSigned 64 y ≡ ((x + y : Nat) : Int) [ZMOD ((2 ^ 64 : Nat) : Int)] := by
    rw [Nat.cast_add]
    exact (toSigned_modEq 64 x).add (toSigned_modEq 64 y)
  rw [aluOp, if_pos rfl, wordOut, if_neg Bool.false_ne_true, ofSigned_of_modEq hsum, sext_doubleword (Nat.mod_lt _ (by decide))]

theorem leNat_lt (bs : List Byte) : leNat bs < 256 ^ bs.length := by
  induction bs with
  | nil => exact Nat.one_pos
  | cons b bs ih =>
    rw [leNat, List.length_cons, pow_succ]
    have := b.isLt
    omega

theorem Mem.readNat_lt (m : Mem) (a n : Nat) : m.readNat a n < 256 ^ n := by
  simpa [Mem.readNat, Mem.read] using leNat_lt (m.read a n)

/-! ### The instruction at the pc -/

theorem exec_prepInstruction_eq (s : State) (p mem : Nat) :
    exec (.prepInstruction p mem) s = s.answer touchBlock (s.prepStep p mem).collSettle := rfl

section at_pc
variable {s : State} {p ins len mem : Nat}

theorem State.PrepAt.prepStep (h : s.PrepAt p ins len) : s.prepStep p 0 = s.prepExec p ins len 0 := by
  obtain ⟨hruns, hawake, hfetch⟩ := h
  simp [State.prepStep, hruns, hawake, hfetch]

/-- An uncorrectable error of the core's memory faults the core (R192). -/
theorem State.PrepAt.prepStep_error (h : s.PrepAt p ins len) : s.prepStep p 1 = s.prepFault p (s.block p).prep.mcause.toNat true := by
  obtain ⟨hruns, hawake, -⟩ := h
  simp [State.prepStep, hruns, hawake]

/-- The command leaves what the instruction does to its block. -/
theorem State.PrepAt.exec (h : s.PrepAt p ins len) (hcoll : s.NoColl) {b : Block} (hx : s.prepExec p ins len 0 = s.setBlock p b) :
    Machine.exec (.prepInstruction p 0) s = .next (s.setBlock p b) := by
  rw [exec_prepInstruction_eq, h.prepStep, hx]
  exact State.answer_touchBlock hcoll (s.setBlock p b).blocks s.hif

/-! ### Arithmetic, branches, loads and stores (R188, R189) -/

theorem State.prepExec_add (hop : iOp ins = 0x33) (hf3 : iF3 ins = 0) (hf7 : iF7 ins = 0) :
    s.prepExec p ins len mem =
      s.onBlock p (Block.retire len (iRd ins) (((s.block p).xreg (iRs1 ins) + (s.block p).xreg (iRs2 ins)) % 2 ^ 64)) := by
  simp [State.prepExec, hop, opReg, hf3, hf7, aluOp_add, State.prepAlu]

theorem State.prepExec_addi (hop : iOp ins = 0x13) (hf3 : iF3 ins = 0) :
    s.prepExec p ins len mem = s.onBlock p (Block.retire len (iRd ins) (((s.block p).xreg (iRs1 ins) + immI ins) % 2 ^ 64)) := by
  simp [State.prepExec, hop, opImm, hf3, aluOp_add, State.prepAlu]

theorem State.prepExec_beq (hop : iOp ins = 0x63) (hf3 : iF3 ins = 0) :
    s.prepExec p ins len mem = s.onBlock p (Block.retireAt (
      if (s.block p).xreg (iRs1 ins) = (s.block p).xreg (iRs2 ins) then ((s.block p).prep.pc.toNat + immB ins) % 2 ^ 64
      else (s.block p).prep.pc.toNat + len)) := by
  simp [State.prepExec, hop, branchTaken, hf3]

/-- Addresses of data memory. -/
theorem prepMap_dmem {a n : Nat} (h1 : 0x100000 ≤ a) (h2 : a + n ≤ 0x140000) : prepMap a n = .dmem (a - 0x100000) := by
  rw [prepMap, if_neg (by omega), if_pos ⟨h1, h2⟩]

theorem State.prepExec_ld {a : Nat} (hop : iOp ins = 0x03) (hf3 : iF3 ins = 3)
    (ha : ((s.block p).xreg (iRs1 ins) + immI ins) % 2 ^ 64 = a) (h1 : 0x100000 ≤ a) (h2 : a + 8 ≤ 0x140000) :
    s.prepExec p ins len 0 = s.onBlock p (Block.retire len (iRd ins) ((s.block p).dmem.readNat (a - 0x100000) 8)) := by
  have hload : s.prepLoad p a 8 = .val ((s.block p).dmem.readNat (a - 0x100000) 8) false := by rw [State.prepLoad, prepMap_dmem h1 h2]
  have hword := sext_doubleword (Mem.readNat_lt (s.block p).dmem (a - 0x100000) 8)
  have hins : s.prepExec p ins len 0 = s.prepLoadIns p ins len 0 := by simp [State.prepExec, hop]
  rw [hins, State.prepLoadIns, ha, hf3]
  dsimp only
  rw [show 2 ^ (3 % 4) = 8 from rfl, hload]
  simp [State.prepCorrected, hword]

theorem State.prepExec_sd {a : Nat} (hop : iOp ins = 0x23) (hf3 : iF3 ins = 3)
    (ha : ((s.block p).xreg (iRs1 ins) + immS ins) % 2 ^ 64 = a) (h1 : 0x100000 ≤ a) (h2 : a + 8 ≤ 0x140000) :
    s.prepExec p ins len 0 = s.setBlock p (({ s.block p with
      dmem := (s.block p).dmem.writeNat (a - 0x100000) 8 ((s.block p).xreg (iRs2 ins)) } : Block).retire len 0 0) := by
  have hstore : ∀ v, (s.block p).prepStore a 8 v = .ok { s.block p with dmem := (s.block p).dmem.writeNat (a - 0x100000) 8 v } := fun v => by
    rw [Block.prepStore, prepMap_dmem h1 h2]
  have hins : s.prepExec p ins len 0 = s.prepStoreIns p ins len 0 := by simp [State.prepExec, hop]
  rw [hins, State.prepStoreIns, hf3]
  dsimp only
  rw [ha, show 2 ^ 3 = 8 from rfl, hstore]
  rfl

/-! ### Traps (R192, R196) -/

/-- One bit of a number replaced. -/
theorem testBit_setBits (n k v j : Nat) : (setBits n k k v).testBit j = if j = k then v.testBit 0 else n.testBit j := by
  split
  · next h =>
    have hbit := bits_setBits n k k v le_rfl
    rw [bits_eq, Nat.add_sub_cancel_left, pow_one] at hbit
    rw [h, Nat.testBit_eq_decide_div_mod_eq, hbit, Nat.testBit_zero]
  · next h => exact testBit_eq_of_bits (bits_setBits_other n k k v j j le_rfl le_rfl (by omega))

theorem testBit_bit (n k : Nat) : (bit n k).testBit 0 = n.testBit k := by
  rw [bit, Nat.testBit_zero, Nat.mod_mod, Nat.testBit_eq_decide_div_mod_eq, Nat.shiftRight_eq_div_pow]

/-- mstatus as a trap leaves it: interrupts are off, and MPIE holds whether they were on. -/
def Prep.trapStatus (c : Prep) (mpie : Nat) : BitVec 64 := BitVec.ofNat 64 (setBits (setBits c.mstatus.toNat 7 7 mpie) 3 3 0)

theorem Prep.trapStatus_mie (c : Prep) (mpie : Nat) : (c.trapStatus mpie).getLsbD 3 = false := by
  rw [Prep.trapStatus, BitVec.getLsbD_ofNat, testBit_setBits, if_pos rfl]
  rfl

theorem Prep.trapStatus_mpie (c : Prep) (mpie : Nat) : (c.trapStatus mpie).getLsbD 7 = mpie.testBit 0 := by
  rw [Prep.trapStatus, BitVec.getLsbD_ofNat, testBit_setBits, if_neg (by decide), testBit_setBits, if_pos rfl]
  rfl

/-- mstatus as MRET leaves it: MIE as saved. -/
def Prep.returnStatus (c : Prep) : BitVec 64 := BitVec.ofNat 64 (setBits (setBits c.mstatus.toNat 3 3 (bit c.mstatus.toNat 7)) 7 7 1)

theorem Prep.returnStatus_mie (c : Prep) : c.returnStatus.getLsbD 3 = c.mstatus.getLsbD 7 := by
  rw [Prep.returnStatus, BitVec.getLsbD_ofNat, testBit_setBits, if_neg (by decide), testBit_setBits, if_pos rfl, testBit_bit]
  rfl

theorem Prep.returnStatus_mpie (c : Prep) : c.returnStatus.getLsbD 7 = true := by
  rw [Prep.returnStatus, BitVec.getLsbD_ofNat, testBit_setBits, if_pos rfl]
  rfl

/-- The base of mtvec, of which the two low bits are the mode. -/
theorem Prep.trapBase_toNat (c : Prep) : (BitVec.ofNat 64 (c.mtvec.toNat / 4 * 4)).toNat = c.mtvec.toNat / 4 * 4 :=
  (BitVec.toNat_ofNat _ 64).trans (Nat.mod_eq_of_lt (by have := c.mtvec.isLt; omega))

/-- A block whose core has taken an exception. -/
def Block.trapped (cause tval : Nat) (b : Block) : Block :=
  { b with prep := { b.prep with
    mepc := b.prep.pc, mcause := BitVec.ofNat 64 cause, mtval := BitVec.ofNat 64 tval
    mstatus := b.prep.trapStatus (bit b.prep.mstatus.toNat 3)
    pc := BitVec.ofNat 64 (b.prep.mtvec.toNat / 4 * 4)
    inTrap := true, lastCause := cause % 256, state := 1 } }

/-- An exception outside a trap goes to mtvec. -/
theorem State.prepTrap_enters (h : (s.block p).prep.inTrap = false) (cause tval : Nat) :
    s.prepTrap p cause tval = s.setBlock p ((s.block p).trapped cause tval) := by
  rw [State.prepTrap, h]
  rfl

/-- An exception in a trap faults the core. -/
theorem State.prepTrap_nested (h : (s.block p).prep.inTrap = true) (cause tval : Nat) :
    s.prepTrap p cause tval = s.prepFault p cause false := by
  rw [State.prepTrap, h]
  rfl

theorem State.prepExec_ecall (s : State) (p len mem : Nat) : s.prepExec p 0x00000073 len mem = s.prepTrap p 11 0 := rfl

/-- A block whose core has returned from a trap. -/
def Block.returned (b : Block) : Block :=
  { b.retireAt b.prep.mepc.toNat with prep := { (b.retireAt b.prep.mepc.toNat).prep with inTrap := false, mstatus := b.prep.returnStatus } }

theorem State.prepExec_mret (s : State) (p len mem : Nat) : s.prepExec p 0x30200073 len mem = s.setBlock p (s.block p).returned := rfl

/-- MRET goes to mepc. -/
theorem Block.returned_pc (b : Block) : b.returned.prep.pc = b.prep.mepc := BitVec.ofNat_toNat 64 b.prep.mepc

/-! ### A core that faults (R192) -/

/-- A core that runs belongs to a block that a live placement maps (R190). -/
theorem State.prepRuns_mapped (h : s.prepRuns p = true) : s.live = true ∧ ∃ f, s.shapeOf p = some f := by
  simp only [State.prepRuns, Bool.and_eq_true] at h
  obtain ⟨⟨⟨hlive, -⟩, hshape⟩, -⟩ := h
  exact ⟨hlive, Option.isSome_iff_exists.mp hshape⟩

/-- A running core that faults fences its block, with bit 13 of its page. -/
theorem State.prepFault_fencedTo {l : Nat} (hruns : s.prepRuns p = true) (hfence : s.fencedBlock p = false) (hin : s.inService p = true)
    (hpage : s.pageOfBlock p = some l) (cause : Nat) (memory : Bool) : s.FencedTo p l 13 (s.prepFault p cause memory) := by
  obtain ⟨hlive, f, hshape⟩ := State.prepRuns_mapped hruns
  have h := State.fenceFor_fencedTo (s := s.onBlock p (fun b => { b with prep.state := 5 })) (p := p) (l := l) (f := f) ePrepFault
    (s.block p).lastWord none (cause % 256 + (if memory then 256 else 0)) ((s.block p).prep.pc.toNat % 2 ^ 32) hin hfence hlive hshape hpage
    (by decide)
  refine ⟨h.fence, h.coll, h.err, h.block, fun n hn hmask => h.lines n hn ?_⟩
  rwa [State.block_onBlock_same]

/-- The command of such a core. -/
theorem State.PrepAt.exec_faults {l : Nat} (h : s.PrepAt p ins len) (hcoll : s.NoColl) (hfence : s.fencedBlock p = false)
    (hin : s.inService p = true) (hpage : s.pageOfBlock p = some l) {cause : Nat} {memory : Bool}
    (hx : s.prepStep p mem = s.prepFault p cause memory) :
    ∃ t, Machine.exec (.prepInstruction p mem) s = .next t ∧ t.fencedBlock p = true ∧ t.errSet .blk l 13 := by
  have hto := State.prepFault_fencedTo h.1 hfence hin hpage cause memory
  obtain ⟨t, ht, hfenced, herr, -⟩ := hto.command hcoll (c := .prepInstruction p mem) (by rw [exec_prepInstruction_eq, hx])
  refine ⟨t, ht, ?_, herr⟩
  rw [State.fencedBlock, hfenced, Nat.testBit_or, Nat.testBit_two_pow_self, Bool.or_true]

/-! ### Interrupts (R196) -/

theorem exec_prepInterrupt_eq (s : State) (p : Nat) : Machine.exec (.prepInterrupt p) s = s.answer { blocks := true } (s.prepInterrupt p) := rfl

/-- A block whose core has taken interrupt `i`. -/
def Block.interrupted (i : Nat) (b : Block) : Block :=
  { b with prep := { b.prep with
    mepc := b.prep.pc, mcause := BitVec.ofNat 64 (2 ^ 63 + i), mtval := 0, mstatus := b.prep.trapStatus 1
    pc := BitVec.ofNat 64 (b.prep.mtvec.toNat / 4 * 4 + (if b.prep.mtvec.getLsbD 0 then 4 * i else 0))
    inTrap := true, state := 1 } }

/-- The lowest position of a one comes first. -/
theorem onesOf_lowest {k n i : Nat} (hi : i < k) (hset : n.testBit i = true) (hlow : ∀ j < i, n.testBit j = false) :
    ∃ rest, onesOf k n = i :: rest := by
  refine List.head?_eq_some_iff.mp ?_
  rw [onesOf, List.head?_filter, List.find?_range_eq_some]
  exact ⟨hset, List.mem_range.mpr hi, fun j hj => by rw [hlow j hj]; rfl⟩

theorem State.prepInterrupt_takes {i : Nat} (hruns : s.prepRuns p = true) (hmie : (s.block p).prep.mstatus.getLsbD 3 = true) (hi : i < 19)
    (hset : ((s.block p).prep.mip &&& (s.block p).prep.mie).getLsbD i = true)
    (hlow : ∀ j < i, ((s.block p).prep.mip &&& (s.block p).prep.mie).getLsbD j = false) :
    s.prepInterrupt p = s.setBlock p ((s.block p).interrupted i) := by
  obtain ⟨rest, hones⟩ := onesOf_lowest hi hset hlow
  rw [State.prepInterrupt, hruns, hmie, hones]
  rfl

end at_pc

/-- Settles O40: each instruction, exception and interrupt leaves what its branch of the prep core's step leaves of the block. -/
theorem prepCoreInstructions : Obligations.PrepCoreInstructions := by
  refine ⟨?instructions, ?interrupts⟩
  case interrupts =>
    intro s p i hruns c hmie hi hpend hen hlow
    have htaken := State.prepInterrupt_takes hruns hmie hi (by rw [BitVec.getLsbD_and, hpend, hen]; rfl) hlow
    refine ⟨s.setBlock p ((s.block p).interrupted i), by rw [exec_prepInterrupt_eq, htaken]; rfl, ?_⟩
    rw [State.block_setBlock]
    exact ⟨rfl, rfl, (BitVec.toNat_ofNat _ 64).trans (Nat.mod_eq_of_lt (by omega)), c.trapStatus_mpie 1, c.trapStatus_mie 1, rfl, rfl, rfl⟩
  intro s p ins len hcoll hat b c pc x y
  refine ⟨fun hop hf3 hf7 => hat.exec hcoll (State.prepExec_add hop hf3 hf7),
    fun hop hf3 => hat.exec hcoll (State.prepExec_addi hop hf3),
    fun hop hf3 => hat.exec hcoll (State.prepExec_beq hop hf3),
    fun hop hf3 h1 h2 => hat.exec hcoll (State.prepExec_ld hop hf3 rfl h1 h2),
    fun hop hf3 h1 h2 => hat.exec hcoll (State.prepExec_sd hop hf3 rfl h1 h2),
    fun hins htrap => ?ecall, fun hins => ?mret, fun hfence hin l hpage _ => ⟨?error, fun hins htrap => ?nested⟩⟩
  case ecall =>
    subst hins
    refine ⟨_, hat.exec hcoll ((s.prepExec_ecall p len 0).trans (State.prepTrap_enters htrap 11 0)), ?_⟩
    rw [State.block_setBlock]
    exact ⟨rfl, rfl, rfl, rfl, c.trapBase_toNat, rfl, (c.trapStatus_mpie _).trans (testBit_bit _ _), c.trapStatus_mie _, rfl⟩
  case mret =>
    subst hins
    refine ⟨_, hat.exec hcoll (s.prepExec_mret p len 0), ?_⟩
    rw [State.block_setBlock]
    exact ⟨rfl, b.returned_pc, rfl, c.returnStatus_mie, c.returnStatus_mpie, rfl⟩
  case error => exact hat.exec_faults hcoll hfence hin hpage hat.prepStep_error
  case nested =>
    subst hins
    exact hat.exec_faults hcoll hfence hin hpage
      (hat.prepStep.trans ((s.prepExec_ecall p len 0).trans (State.prepTrap_nested htrap 11 0)))

end Sys2Proof.Machine
end

section
/-! PROOFS. A Sifter's INLINE, its order mask and its rings (R238, R264, R272, R273). -/

namespace Sys2Proof.Machine

/-! ### A write whose encodings are legal -/

/-- What follows a served write that gives no RW field a reserved encoding: every RW field has the value written (R12, R14). -/
theorem State.pageWrite_legal {s : State} {p : Page} {i off k : Nat} {r : RegDesc} (data : Nat) (hs : s.Serves p i) (ho : off < 0x1000)
    (h8 : off % 8 = 0) (hf : findReg p off = some (r, k)) (hp : s.programmed p i off < 2 ^ 64) (hn : ∀ f, s.noField p i off f = false)
    (hlegal : ∀ f ∈ r.fields, f.acc = .rw → s.reserved p i off f (bits data f.hi f.lo) (data % 2 ^ 64) = false) :
    ∃ v, (∀ f ∈ r.fields, f.acc = .rw → bits v f.hi f.lo = bits data f.hi f.lo) ∧
      s.pageWrite p i off data = s.applyReg p i off (s.programmed p i off) v (data % 2 ^ 64) (2 ^ 64 - 1) := by
  have hword : ∀ f ∈ r.fields, bits (data % 2 ^ 64) f.hi f.lo = bits data f.hi f.lo := fun f hm =>
    bits_mod_word _ _ _ (findReg_field hf hm).1 (findReg_field hf hm).2
  obtain ⟨v, hv, hw⟩ := State.pageWrite_fields s p i off data r k hs ho h8 hf hp
  refine ⟨v, fun f hm ha => ?_, ?_⟩
  · obtain ⟨hlo, hhi⟩ := findReg_field hf hm
    have hres := hlegal f hm ha
    rw [← hword f hm] at hres ⊢
    rw [hv f hm, State.fieldNew_rw _ _ _ _ _ _ _ _ _ ha (hn f) (bits_allOnes_ne_zero _ _ hlo hhi) hres]
  · rw [hw, if_neg]
    rw [State.anyReserved, List.any_eq_true]
    rintro ⟨f, hm, hbad⟩
    simp only [Bool.and_eq_true, beq_iff_eq] at hbad
    obtain ⟨⟨-, ha⟩, hres⟩ := hbad
    rw [hword f hm, hlegal f hm ha] at hres
    exact Bool.false_ne_true hres

/-! ### Port dies besides a Sifter's own -/

/-- Nothing is left of a number without one bit: it is 0, or that bit alone. -/
theorem clearBit_eq_zero_iff (n k : Nat) : clearBit n k = 0 ↔ n = 0 ∨ n = 2 ^ k := by
  unfold clearBit
  split
  · next h =>
    have hle := Nat.ge_two_pow_of_testBit h
    have hpos := Nat.two_pow_pos k
    omega
  · next h =>
    refine ⟨.inl, fun h0 => h0.resolve_right fun hk => h ?_⟩
    rw [hk, Nat.testBit_two_pow_self]

theorem bitOn_clearBit (n k : Nat) : bitOn (clearBit n k) k = false := by
  unfold bitOn clearBit
  split
  · next h =>
    have hle : 2 ^ k * 1 ≤ n := by simpa using Nat.ge_two_pow_of_testBit h
    have hdiv := Nat.sub_mul_div n (2 ^ k) 1
    simp only [Nat.testBit_eq_decide_div_mod_eq, decide_eq_true_eq, decide_eq_false_iff_not] at h ⊢
    rw [Nat.mul_one] at hdiv
    omega
  · next h => exact Bool.eq_false_of_not_eq_true h

/-- The order mask names port dies besides the Sifter's own (R238). -/
theorem otherDies_iff (sf v : Nat) : otherDies sf v = true ↔ bits v 3 0 ≠ 0 ∧ bits v 3 0 ≠ 2 ^ (sf / 8) := by
  simp only [otherDies, Bool.and_eq_true, bne_iff_ne, ne_eq, clearBit_eq_zero_iff]
  tauto

/-! ### INLINE of a port -/

section portcfg
variable {s : State} {sf port data : Nat}

/-- The fields of SFT_PORTCFG: NOPROG or PREFETCH, INLINE and BUDGET. -/
def portcfgReg : RegDesc := ⟨0x100, 4, 8, [⟨11, 10, .rw, 1⟩, ⟨8, 8, .rw, 0⟩, ⟨6, 0, .rw, 64⟩]⟩

theorem findReg_portcfg {port : Nat} (h : port < 4) : findReg .sft (0x100 + 8 * port) = some (portcfgReg, port) := by
  revert h
  revert port
  decide

/-- A legal write of SFT_PORTCFG has the fields written and no other effect than `State.portcfgWritten` (R238, R264). -/
theorem State.pageWrite_portcfg (hs : s.Serves .sft sf) (hport : port < 4)
    (hbudget : bits data 6 0 ≠ 0 ∧ bits data 6 0 ≤ 64) (hfetch : bits data 11 10 < 2) :
    ∃ v, (bits v 11 10 = bits data 11 10 ∧ bits v 8 8 = bits data 8 8 ∧ bits v 6 0 = bits data 6 0) ∧
      s.pageWrite .sft sf (0x100 + 8 * port) data = s.portcfgWritten sf port (s.reg .sft sf (0x100 + 8 * port)) v := by
  obtain ⟨v, hv, hw⟩ := State.pageWrite_legal data hs (by omega) (by omega) (findReg_portcfg hport) (s.reg_lt _ _ _ hs.lt_count)
    (fun _ => rfl) (by
      simp (disch := omega) only [portcfgReg, List.forall_mem_cons, State.reserved, reservedSft, if_neg, if_pos]
      simp; omega)
  have hindex : (0x100 + 8 * port - 0x100) / 8 = port := by omega
  simp only [portcfgReg, List.forall_mem_cons, true_imp_iff] at hv
  obtain ⟨hfetch, hinline, hbudget, -⟩ := hv
  refine ⟨v, ⟨hfetch, hinline, hbudget⟩, hw.trans ?_⟩
  simp (disch := omega) only [State.applyReg, State.applySft, State.programmed, if_neg, if_pos, hindex]

theorem bits_one_bit (v k : Nat) : bits v k k = b2n (bitOn v k) := by
  rw [bits_eq, Nat.add_sub_cancel_left, pow_one, bitOn, Nat.testBit_eq_decide_div_mod_eq, b2n]
  split <;> simp_all

/-- CFG_REFUSED of a Sifter's page is bit 9. -/
theorem State.refuse_sft_eq (sf off : Nat) (s : State) : s.refuse .sft sf off = s.raise .sft sf 9 0 (0xFFFF * 2 ^ 48) 0 0 := rfl

theorem State.refuse_sft_errSet (sf off : Nat) (s : State) : (s.refuse .sft sf off).errSet .sft sf 9 := by
  rw [State.refuse_sft_eq]
  exact State.raise_errSet _ _ _ _ _ _ _ s (by decide)

/-- A refusal on a Sifter's page changes no register but those of the error. -/
theorem State.refuse_sft_reg (s : State) (sf off : Nat) {o : Nat} (ho : o < 0x1000 ∧ o ∉ errOffs) :
    (s.refuse .sft sf off).reg .sft sf o = s.reg .sft sf o := by
  rw [State.refuse_sft_eq]
  exact State.raise_reg_off s _ _ _ _ _ _ _ _ _ o ho.1 ho.2

/-- Neither SFT_PORTCFG nor SFT_ORDER is a register of the error. -/
theorem portcfg_not_errOffs {port : Nat} (h : port < 4) : 0x100 + 8 * port < 0x1000 ∧ 0x100 + 8 * port ∉ errOffs := by
  revert h
  revert port
  decide

theorem order_not_errOffs : 0x1C0 < 0x1000 ∧ 0x1C0 ∉ errOffs := by decide

/-- A field of a register of a Sifter's page just stored. -/
theorem State.fld_setReg_sft (s : State) {sf : Nat} (hsf : sf < Page.sft.count) (off v hi lo : Nat) (hlo : lo ≤ hi) (hhi : hi < 64) :
    (s.setReg .sft sf off v).fld .sft sf off hi lo = bits v hi lo := by
  rw [State.fld, State.reg_setReg_mod _ _ _ _ _ hsf, bits_mod_word _ _ _ hlo hhi]

/-- INLINE is not set beside an order mask that names other port dies: it stays clear, and the write is refused (R238). -/
theorem State.portcfgWritten_conflict {old new : Nat} (hsf : sf < Page.sft.count) (hport : port < 4)
    (ho : otherDies sf (s.reg .sft sf 0x1C0) = true) (hold : bitOn old 8 = false) (hnew : bitOn new 8 = true) :
    (s.portcfgWritten sf port old new).fld .sft sf (0x100 + 8 * port) 8 8 = 0 ∧ (s.portcfgWritten sf port old new).errSet .sft sf 9 := by
  have heq : s.portcfgWritten sf port old new =
      (s.setReg .sft sf (0x100 + 8 * port) (clearBit new 8)).refuse .sft sf (0x100 + 8 * port) := by
    simp [State.portcfgWritten, rises, ho, hold, hnew, bitOn_clearBit]
  rw [heq]
  refine ⟨?_, State.refuse_sft_errSet ..⟩
  rw [State.fld, State.refuse_sft_reg _ _ _ (portcfg_not_errOffs hport)]
  refine (s.fld_setReg_sft hsf _ _ 8 8 (by decide) (by decide)).trans ?_
  rw [bits_one_bit, bitOn_clearBit]
  rfl

/-- Without other port dies in the order mask and without a resident program the register takes its value (R238, R264). -/
theorem State.portcfgWritten_free {old new : Nat} (ho : otherDies sf (s.reg .sft sf 0x1C0) = false) (hslots : (s.sifterAt sf).slots = []) :
    s.portcfgWritten sf port old new = s.setReg .sft sf (0x100 + 8 * port) new := by
  simp [State.portcfgWritten, ho, State.breaksProgram, hslots]

end portcfg

/-! ### The order mask -/

section order
variable {s : State} {sf data : Nat}

/-- The order mask names other port dies and a port of the Sifter is INLINE (R238). -/
def State.orderConflict (s : State) (sf mask : Nat) : Bool :=
  otherDies sf mask && (List.range 4).any (fun p => s.fld .sft sf (0x100 + 8 * p) 8 8 == 1)

theorem State.orderConflict_iff (s : State) (sf mask : Nat) : s.orderConflict sf mask = true ↔
    (bits mask 3 0 ≠ 0 ∧ bits mask 3 0 ≠ 2 ^ (sf / 8)) ∧ ∃ port, port < 4 ∧ s.fld .sft sf (0x100 + 8 * port) 8 8 = 1 := by
  rw [State.orderConflict, Bool.and_eq_true, otherDies_iff, List.any_eq_true]
  simp only [List.mem_range, beq_iff_eq]

/-- A write of the order mask is refused where it conflicts with a port, and otherwise stores the mask (R238). -/
theorem State.pageWrite_order (hs : s.Serves .sft sf) : ∃ v, bits v 3 0 = bits data 3 0 ∧
    s.pageWrite .sft sf 0x1C0 data = if s.orderConflict sf data then s.refuse .sft sf 0x1C0 else s.setReg .sft sf 0x1C0 v := by
  obtain ⟨v, hv, hw⟩ := State.pageWrite_takes data hs (by decide) (by decide)
    (show findReg .sft 0x1C0 = some (⟨0x1C0, 1, 0, [⟨3, 0, .rw, 0⟩]⟩, 0) from rfl) (s.reg_lt _ _ _ hs.lt_count) (fun _ => rfl)
    (fun _ _ _ => rfl)
  have hmask : bits v 3 0 = bits data 3 0 := hv ⟨3, 0, .rw, 0⟩ (by simp) rfl
  have hother : otherDies sf v = otherDies sf data := by simp only [otherDies, hmask]
  refine ⟨v, hmask, hw.trans ?_⟩
  simp [State.applyReg, State.applySft, State.orderConflict, hother]

end order

/-! ### The rings -/

section ring
variable {s : State} {sf ring data : Nat}

/-- The fields of RING_CFG of a ring. -/
def sftRingReg : RegDesc := ⟨0x208, 2, 32, [⟨63, 32, .ro, 0⟩, ⟨8, 4, .rw, 4⟩, ⟨1, 1, .rw, 0⟩, ⟨0, 0, .rw, 0⟩]⟩

theorem findReg_sftRing {ring : Nat} (h : ring < 2) : findReg .sft (0x208 + 0x20 * ring) = some (sftRingReg, ring) := by
  revert h
  revert ring
  decide

/-- A write that turns EN on puts the ring programmed in force (R273). -/
theorem State.pageWrite_sftRing (hs : s.Serves .sft sf) (hring : ring < 2) (hoff : (s.reg .sft sf (0x208 + 0x20 * ring)).testBit 0 = false)
    (hon : data.testBit 0 = true) (h4 : 4 ≤ bits data 8 4) (h20 : bits data 8 4 ≤ 20) :
    ∃ v, s.pageWrite .sft sf (0x208 + 0x20 * ring) data = (s.setReg .sft sf (0x208 + 0x20 * ring) v).onSifter sf (fun x =>
      x.setRing ring (ringOn (s.reg .sft sf (0x200 + 0x20 * ring)) (if data.testBit 1 then 11 else 8) (bits data 8 4))) := by
  obtain ⟨v, hv, hw⟩ := State.pageWrite_legal data hs (by omega) (by omega) (findReg_sftRing hring) (s.reg_lt _ _ _ hs.lt_count)
    (fun _ => rfl) (by
      simp (disch := omega) only [sftRingReg, List.forall_mem_cons, State.reserved, reservedSft, if_neg]
      rw [if_pos (by omega)]
      simp; omega)
  simp only [sftRingReg, List.forall_mem_cons, true_imp_iff] at hv
  obtain ⟨-, hsize, hslot, hen, -⟩ := hv
  have hrises : rises (s.reg .sft sf (0x208 + 0x20 * ring)) v 0 = true := by
    rw [rises, bitOn, bitOn, hoff, testBit_eq_of_bits hen, hon]
    rfl
  have hindex : (0x208 + 0x20 * ring - 0x208) / 0x20 = ring := by omega
  have hbase : 0x208 + 0x20 * ring - 8 = 0x200 + 0x20 * ring := by omega
  refine ⟨v, hw.trans ?_⟩
  rw [← hsize, ← testBit_eq_of_bits hslot]
  simp (disch := omega) only [State.applyReg, State.applySft, State.programmed, if_neg, hindex]
  rw [if_pos (by omega)]
  simp only [State.sftRingWritten, hrises, if_true, hbase]
  rfl

theorem Sifter.ring_setRing (x : Sifter) (r : Nat) (g : SRing) : (x.setRing r g).ring r = g := by
  unfold Sifter.ring Sifter.setRing
  split <;> rfl

end ring

theorem exec_sftPortcfgWrite_eq {port : Nat} (h : port < 4) (sf data : Nat) (s : State) :
    exec (.sftPortcfgWrite sf port data) s = s.answer touchTake (s.pageWrite .sft sf (0x100 + 8 * port) data) := by
  rw [← if_pos (c := port < 4) (t := s.pageWrite .sft sf (0x100 + 8 * port) data) (e := s) h]
  rfl

theorem exec_sftOrderWrite_eq (sf data : Nat) (s : State) :
    exec (.sftOrderWrite sf data) s = s.answer touchTake (s.pageWrite .sft sf 0x1C0 data) := rfl

theorem exec_sifterRingEnable_eq {ring : Nat} (h : ring < 2) (sf data : Nat) (s : State) :
    exec (.sifterRingEnable sf ring data) s =
      s.answer { touchTake with sft := true } (s.pageWrite .sft sf (0x208 + 0x20 * ring) data) := by
  rw [← if_pos (c := ring < 2) (t := s.pageWrite .sft sf (0x208 + 0x20 * ring) data) (e := s) h]
  rfl

/-- Settles O24: each of the three registers stores what is written unless INLINE and the order mask would conflict. -/
theorem sifterPortOrderAndRingRegisters : Obligations.SifterPortOrderAndRingRegisters := by
  intro s sf hs mine other
  have hother : ∀ v, otherDies sf v = true ↔ other v := otherDies_iff sf
  have hsf := hs.lt_count
  refine ⟨fun port data hport _ => ⟨fun ho hold hon hlegal => ?inline, fun ho hslots hlegal => ?free⟩,
    fun data _ => ⟨fun ho hinline => ?refused, fun hfree => ?stored⟩, fun ring data hring _ hoff hon h4 h20 => ?ring⟩
  case inline =>
    obtain ⟨hpos, hbudget, hfetch⟩ := hlegal
    obtain ⟨v, ⟨-, hv, -⟩, hw⟩ := State.pageWrite_portcfg hs hport ⟨hpos, hbudget⟩ hfetch
    have hclear : bitOn (s.reg .sft sf (0x100 + 8 * port)) 8 = false := by
      have hbit := (bits_one_bit _ 8).symm.trans hold
      simpa [b2n] using hbit
    have hset : bitOn v 8 = true := (testBit_eq_of_bits hv).trans hon
    refine ⟨_, (exec_sftPortcfgWrite_eq hport sf data s).trans (State.answer_eq ..), ?_⟩
    rw [hw]
    exact State.portcfgWritten_conflict hsf hport ((hother _).mpr ho) hclear hset
  case free =>
    obtain ⟨hpos, hbudget, hfetch⟩ := hlegal
    obtain ⟨v, ⟨hvfetch, hvinline, hvbudget⟩, hw⟩ := State.pageWrite_portcfg hs hport ⟨hpos, hbudget⟩ hfetch
    rw [State.portcfgWritten_free (Bool.eq_false_of_not_eq_true fun h => ho ((hother _).mp h)) hslots] at hw
    refine ⟨_, (exec_sftPortcfgWrite_eq hport sf data s).trans (State.answer_eq ..), ?_⟩
    rw [hw, ← hvfetch, ← hvinline, ← hvbudget]
    exact ⟨s.fld_setReg_sft hsf _ _ _ _ (by decide) (by decide), s.fld_setReg_sft hsf _ _ _ _ (by decide) (by decide),
      s.fld_setReg_sft hsf _ _ _ _ (by decide) (by decide)⟩
  case refused =>
    obtain ⟨v, -, hw⟩ := State.pageWrite_order (data := data) hs
    rw [if_pos ((s.orderConflict_iff sf data).mpr ⟨ho, hinline⟩)] at hw
    refine ⟨_, (exec_sftOrderWrite_eq sf data s).trans (State.answer_eq ..), ?_⟩
    rw [hw]
    exact ⟨s.refuse_sft_reg sf _ order_not_errOffs, State.refuse_sft_errSet ..⟩
  case stored =>
    obtain ⟨v, hv, hw⟩ := State.pageWrite_order (data := data) hs
    rw [if_neg] at hw
    · refine ⟨_, (exec_sftOrderWrite_eq sf data s).trans (State.answer_eq ..), ?_⟩
      rw [hw, ← hv]
      exact s.fld_setReg_sft hsf _ _ _ _ (by decide) (by decide)
    · rw [State.orderConflict_iff]
      rintro ⟨ho, port, hport, hinline⟩
      exact hfree.elim (fun h => h ho) fun h => absurd hinline (by simp [h port hport])
  case ring =>
    obtain ⟨v, hw⟩ := State.pageWrite_sftRing hs hring hoff hon h4 h20
    refine ⟨_, ringOn (s.reg .sft sf (0x200 + 0x20 * ring)) (if data.testBit 1 then 11 else 8) (bits data 8 4),
      (exec_sifterRingEnable_eq hring sf data s).trans (State.answer_eq ..), ?_⟩
    rw [hw]
    refine ⟨?_, rfl, rfl, rfl, rfl, rfl, fun n hn => State.sifter_setSifter_other sf n _ _ hn⟩
    exact (congrArg (Sifter.ring · ring) (State.sifter_setSifter sf _ _)).trans (Sifter.ring_setRing _ ring _)

end Sys2Proof.Machine
end

section
/-! PROOFS. The SFT commands, where a table of contexts lists one that reads as it would unlisted (R243). -/

namespace Sys2Proof.Machine

/-- An SFT_CTX WRITE, to context 5, of the one byte at device address 0. -/
def writeOneByte : WinEntry := { seq := 7, bytes := leBytes 64 (0x32 * 256 ^ 0x04 + 3 * 256 ^ 0x10 + 5 * 256 ^ 0x12 + 2 ^ 63 * 256 ^ 0x18) }

/-- The module READY in normal service with ring 0 on and stack 0 ONLINE, the command at the front of its window, and a table of contexts that
is not in canonical form: it lists context 5 as it is at reset. -/
def listedAsReset : State := (({ State.reset with
  ref := { inReset := false, ready := true, linkUp := true, busMaster := true, memSpace := true }
  mem := { units := [(0, { state := 1 })] }
  hif.window := [writeOneByte]
  sft.ctxs := [(5, {})] } : State).setReg .hif 0 0x408 0x2_0000_0301).setReg .mctl 0 0x100 2

theorem listedAsReset_offers : listedAsReset.Offers writeOneByte [] := by
  and_intros <;> decide +kernel

theorem listedAsReset_plain : listedAsReset.Plain 0 1 := by
  refine ⟨by decide +kernel, by decide, by decide +kernel, by decide +kernel, fun i _ hi => ?_⟩
  obtain rfl : i = 0 := by omega
  and_intros <;> decide +kernel

/-- The command writes the byte and leaves the table of contexts alone: fewer than 256 bytes clear no error of the context. -/
theorem listedAsReset_written : (listedAsReset.sftCtxWriteCmd .answered).sft.ctxs = [(5, {})] := by decide +kernel

/-- Storing the control state that context 5 has brings the table to its canonical form, in which it lists nothing. -/
theorem listedAsReset_stored : (listedAsReset.setCtx 5 (listedAsReset.ctx 5)).sft.ctxs = [] := by decide +kernel

theorem exec_sftCtxWrite_eq (way : HostWay) (s : State) : exec (.sftCtxWrite way) s = s.answer touchSft (s.sftCtxWriteCmd way) := rfl

/-- Refutes O44: the statement stores the context's control state anew at a WRITE of fewer than 256 bytes, which the command does not, and the
two differ on a state whose table of contexts lists an entry equal to its default. -/
theorem not_sifterCommands : ¬ Obligations.SifterCommands := by
  intro h
  obtain ⟨-, -, -, -, -, -, -, hdata, -⟩ := h listedAsReset writeOneByte [] listedAsReset_offers
  obtain ⟨hwrite, -⟩ := hdata .answered (by decide +kernel) (by decide +kernel) (by decide +kernel) (by decide +kernel) (by decide +kernel)
    ⟨fun _ => listedAsReset_plain, fun hhost => absurd hhost (by decide +kernel)⟩
  obtain ⟨t, hexec, hstaged⟩ := hwrite (by decide +kernel)
  rw [exec_sftCtxWrite_eq, State.answer_next_iff] at hexec
  have hleft : t.sft.ctxs = [(5, {})] := (congrArg (·.sft.ctxs) hexec).symm.trans listedAsReset_written
  have hclaimed : t.sft.ctxs = [] := (congrArg (·.sft.ctxs) hstaged).trans listedAsReset_stored
  exact List.cons_ne_nil _ _ (hleft.symm.trans hclaimed)

end Sys2Proof.Machine
end

section
/-! PROOFS. What it is to leave the Sifters, host memory and the commands alone (`State.Outside`), and that the central store's operations do:
none changes a Sifter, a context, or one of the counts of a Sifter's runs, faults, discarded holds and handovers. -/

namespace Sys2Proof.Machine

/-! ### Registers of a Sifter's page that other units leave -/

/-- Registers of different pages are different registers. -/
theorem State.reg_setReg_page (s : State) {p q : Page} (hpq : q ≠ p) {i j off o : Nat} (hi : i < p.count) (hj : j < q.count) (hoff : off < 0x1000)
    (ho : o < 0x1000) (v : Nat) : (s.setReg p i off v).reg q j o = s.reg q j o := by
  refine State.reg_setReg_other p q i j off o v s fun h => hpq ?_
  have hpage := pageOf_at q j o hj ho
  rw [h, pageOf_at p i off hi hoff, Option.some_inj, Prod.mk.injEq] at hpage
  exact hpage.1.symm

/-- The event counts of a Sifter that say what it does by itself: its runs, its faults, the holds discarded, the handovers (R271). -/
def ownCounts : List Nat := [0, 1, 5, 7]

theorem ownCounts_lt {k : Nat} (h : k ∈ ownCounts) : 0x80 + 8 * k < 0x1000 ∧ 0x80 + 8 * k ∉ errOffs := by
  revert h
  revert k
  decide

/-! ### What lies outside the Sifters -/

/-- Nothing of the Sifters, of host memory or of the commands differs, and no error bit is lost. -/
structure State.Outside (s t : State) : Prop where
  sft : t.sft = s.sft
  host : t.host = s.host
  window : t.hif.window = s.hif.window
  done : t.hif.done = s.hif.done
  rings : t.hif.rings = s.hif.rings
  errs : s.KeepsErrs t
  counts : ∀ n < 32, ∀ k ∈ ownCounts, t.reg .sft n (0x80 + 8 * k) = s.reg .sft n (0x80 + 8 * k)

namespace State.Outside
variable {s t u : State}

theorem trans (h : s.Outside t) (k : t.Outside u) : s.Outside u where
  sft := k.sft.trans h.sft
  host := k.host.trans h.host
  window := k.window.trans h.window
  done := k.done.trans h.done
  rings := k.rings.trans h.rings
  errs := h.errs.trans k.errs
  counts n hn j hj := (k.counts n hn j hj).trans (h.counts n hn j hj)

/-- A change of other parts of the state. -/
theorem of_parts (regs : t.regs = s.regs) (sft : t.sft = s.sft) (host : t.host = s.host) (hif : t.hif = s.hif) : s.Outside t :=
  ⟨sft, host, by rw [hif], by rw [hif], by rw [hif], .of_regs regs, fun _ _ _ _ => State.reg_congr _ _ _ _ _ regs⟩

theorem refl (s : State) : s.Outside s := .of_parts rfl rfl rfl rfl

/-- A step taken after a change of other parts of the state. -/
theorem after (h : t.Outside u) (regs : t.regs = s.regs) (sft : t.sft = s.sft) (host : t.host = s.host) (hif : t.hif = s.hif) : s.Outside u :=
  (State.Outside.of_parts regs sft host hif).trans h

theorem useFree (s : State) : s.Outside s.useFree := .of_parts rfl rfl rfl rfl

/-- A fold of such steps. -/
theorem foldl {α : Type} {f : State → α → State} (h : ∀ (t : State) (a : α), t.Outside (f t a)) (l : List α) (s : State) :
    s.Outside (l.foldl f s) :=
  List.foldlRecOn (motive := s.Outside) l f (.refl s) fun t ht a _ => ht.trans (h t a)

theorem raise (s : State) (p : Page) (i b tag i0 i1 i2 : Nat) : s.Outside (s.raise p i b tag i0 i1 i2) :=
  ⟨by simp, by simp, by simp, by simp, by simp, .raise s p i b tag i0 i1 i2,
    fun _ _ _ hk => State.raise_reg_off _ _ _ _ _ _ _ _ _ _ _ (ownCounts_lt hk).1 (ownCounts_lt hk).2⟩

/-- An event counted on another page. -/
theorem evtAdd (s : State) {p : Page} {i k : Nat} (hp : .sft ≠ p) (hi : i < p.count) (hk : k < 8) (n : Nat) : s.Outside (s.evtAdd p i k n) :=
  ⟨rfl, rfl, rfl, rfl, rfl, .evtAdd s p i k n hk,
    fun _ hn _ hj => State.reg_setReg_page s hp hi hn (by omega) (ownCounts_lt hj).1 _⟩

/-! ### The central store -/

theorem touchPage (s : State) (pg : Nat) : s.Outside (s.touchPage pg) := by
  unfold State.touchPage
  split
  · exact .refl s
  · split <;> exact .of_parts rfl rfl rfl rfl

theorem touchBufs (s : State) (qs : List Nat) : s.Outside (s.touchBufs qs) := .foldl (fun t _ => .touchPage t _) qs s

theorem outPages (s : State) (pgs : List Nat) : s.Outside (s.outPages pgs) := by
  refine .foldl (fun t pg => ?_) pgs s
  split
  · exact .refl t
  · split <;> exact .of_parts rfl rfl rfl rfl

theorem pageWork (s : State) : s.Outside s.pageWork := by
  unfold State.pageWork
  split
  · exact .refl s
  · extract_lets cands t
    have ht : s.Outside t := (State.Outside.useFree s).trans (.outPages _ _)
    exact ht.trans (.of_parts rfl rfl rfl rfl)

theorem enterPage (s : State) (pg : Nat) : s.Outside (s.enterPage pg) := by
  unfold State.enterPage
  split
  · exact .after (.pageWork _) rfl rfl rfl rfl
  · exact .touchPage s pg

theorem sendPause (s : State) (n c q : Nat) : s.Outside (s.sendPause n c q) := by
  unfold State.sendPause
  split
  · exact .of_parts rfl rfl rfl rfl
  · exact .refl s

theorem pfcPort (c : Nat) (s : State) (n : Nat) : s.Outside (s.pfcPort c n) := by
  unfold State.pfcPort
  dsimp only
  split
  · exact .after (.sendPause _ _ _ _) rfl rfl rfl rfl
  · split
    · exact .after (.sendPause _ _ _ _) rfl rfl rfl rfl
    · exact .refl s

theorem noteLevels (s : State) (c : Nat) : s.Outside (s.noteLevels c) := by
  refine .foldl (fun t p => ?_) _ s
  exact .of_parts rfl rfl rfl rfl

theorem compareClass (s : State) (c : Nat) : s.Outside (s.compareClass c) := by
  have hnoted := State.Outside.noteLevels s c
  unfold State.compareClass
  dsimp only
  split
  · exact hnoted.trans (.after (.foldl (.pfcPort c) _ _) rfl rfl rfl rfl)
  · split
    · exact hnoted.trans (.of_parts rfl rfl rfl rfl)
    · exact hnoted.trans (.of_parts rfl rfl rfl rfl)

theorem alloc {c p q : Nat} {port : Option Nat} (h : s.alloc c p port = some (q, t)) : s.Outside t := by
  unfold State.alloc at h
  split at h
  · exact absurd h.symm (Option.some_ne_none _)
  split at h
  · exact absurd h.symm (Option.some_ne_none _)
  next a _ =>
    obtain ⟨-, rfl⟩ := Prod.mk.inj (Option.some.inj h)
    have hpage : s.Outside (s.useFree.enterPage (pageOfPtr a)) := (State.Outside.useFree s).trans (.enterPage _ _)
    generalize s.useFree.enterPage (pageOfPtr a) = u at hpage
    exact hpage.trans (.after (.compareClass _ _) rfl rfl rfl rfl)

theorem pntErr (s : State) (bit info addr : Nat) : s.Outside (s.pntErr bit info addr) := by
  rw [State.pntErr]
  exact .raise ..

/-- An error of the central store, counted. -/
theorem pntErr_counted (s : State) (bit info addr : Nat) {k : Nat} (hk : k < 8) (n : Nat) : s.Outside ((s.pntErr bit info addr).evtAdd .pnt 0 k n) :=
  (State.Outside.pntErr s bit info addr).trans (.evtAdd _ (by decide) (by decide) hk n)

theorem freeBuf (unit pool : Nat) (s : State) (q : Nat) : s.Outside (s.freeBuf unit pool q) := by
  unfold State.freeBuf
  dsimp only
  split
  · exact .pntErr_counted s _ _ _ (by decide) _
  split
  · exact .pntErr_counted s _ _ _ (by decide) _
  split
  · exact .pntErr_counted s _ _ _ (by decide) _
  · exact .after (.compareClass _ _) rfl rfl rfl rfl

theorem freeBufs (unit : Nat) (qs : List Nat) (s : State) : s.Outside (s.freeBufs unit qs) := .foldl (fun t _ => .freeBuf _ _ t _) qs s

theorem overrun (unit c p : Nat) (s : State) : s.Outside (s.overrun unit c p) := by
  unfold State.overrun
  exact .pntErr_counted s _ _ _ (by decide) _

end State.Outside
end Sys2Proof.Machine
end

section
/-! PROOFS. What Rally links and packets leave outside the Sifters. -/

namespace Sys2Proof.Machine
namespace State.Outside
variable {s t u : State}

/-! ### Rally links -/

theorem sendHeld (s : State) (n type : Nat) (bad isEnd : Bool) (epoch ack : Nat) (content : List Byte) :
    s.Outside (s.sendHeld n type bad isEnd epoch ack content) := .of_parts rfl rfl rfl rfl

theorem putControl (s : State) (n kind ack : Nat) : s.Outside (s.putControl n kind ack) := by
  unfold State.putControl
  exact .after (.sendHeld _ _ _ _ _ _ _ _) rfl rfl rfl rfl

theorem flushControl (n fuel : Nat) (s : State) : s.Outside (s.flushControl n fuel) := by
  induction fuel generalizing s with
  | zero => exact .refl s
  | succ fuel ih =>
    unfold State.flushControl
    dsimp only
    split
    · exact .refl s
    split
    · exact .trans (.after (.putControl (s.setLink n _) n _ _) rfl rfl rfl rfl) (ih _)
    · exact .refl s

theorem flushLane (n : Nat) (s : State) (lane : Nat) : s.Outside (s.flushLane n lane) := by
  unfold State.flushLane
  dsimp only
  split
  · exact .refl s
  · refine .after (.foldl (fun t m => ?_) _ (s.setLink n _)) rfl rfl rfl rfl
    exact .of_parts rfl rfl rfl rfl

theorem returnCredits (s : State) (k : Pkt) : s.Outside (s.returnCredits k) := by
  unfold State.returnCredits
  split
  · exact .refl s
  · next n _ => exact .after (.flushLane _ (s.setLink n _) _) rfl rfl rfl rfl

theorem sendPacket (s : State) (n : Nat) (k : Pkt) : s.Outside (s.sendPacket n k) := by
  unfold State.sendPacket
  dsimp only
  refine .after (.foldl (fun t i => ?_) _ _) rfl rfl rfl rfl
  exact .sendHeld ..

theorem freePkt (s : State) (k : Pkt) : s.Outside (s.freePkt k) := .freeBufs _ _ _

theorem askHeads (s : State) (n : Nat) : s.Outside (s.askHeads n) := by
  refine .foldl (fun t q => ?_) _ s
  split
  · split
    · exact .refl t
    · exact .touchBufs t _
  · exact .refl t

theorem pump (n fuel : Nat) (s : State) : s.Outside (s.pump n fuel) := by
  induction fuel generalizing s with
  | zero => exact .refl s
  | succ fuel ih =>
    unfold State.pump
    split
    · exact .refl s
    extract_lets s0 lane
    have h0 : s.Outside s0 := by
      simp only [s0]
      split
      · exact .refl s
      · exact .useFree s
    split
    · exact h0
    next p rest _ =>
      extract_lets k s1 s2
      have h2 : s.Outside s2 := h0.trans (.of_parts rfl rfl rfl rfl)
      exact ((((h2.trans (.touchBufs _ _)).trans (.sendPacket _ _ _)).trans (.freePkt _ _)).trans (.returnCredits _ _)).trans (ih _)

theorem pumpPort (s : State) (n : Nat) : s.Outside (s.pumpPort n) :=
  ((State.Outside.flushControl n _ s).trans (.askHeads _ n)).trans (.pump n _ _)

/-! ### Packets -/

theorem fabErr (s : State) (bit port axis coord reason hi : Nat) : s.Outside (s.fabErr bit port axis coord reason hi) := by
  rw [State.fabErr]
  exact .raise ..

/-- An error of the fabric, counted. -/
theorem fabErr_counted (s : State) (bit port axis coord reason hi : Nat) {k : Nat} (hk : k < 8) (n : Nat) :
    s.Outside ((s.fabErr bit port axis coord reason hi).evtAdd .fab 0 k n) :=
  (State.Outside.fabErr s bit port axis coord reason hi).trans (.evtAdd _ (by decide) (by decide) hk n)

theorem dropPkt (s : State) (k : Pkt) : s.Outside (s.dropPkt k) :=
  ((State.Outside.freePkt s k).trans (.returnCredits _ k)).trans (.of_parts rfl rfl rfl rfl)

theorem noteLost (s : State) (k : Pkt) : s.Outside (s.noteLost k) := by
  unfold State.noteLost
  split <;> exact .of_parts rfl rfl rfl rfl

/-- An event of the switch core counted if a condition holds. -/
theorem evtAdd_sw_if (s : State) (c : Prop) [Decidable c] {k : Nat} (hk : k < 8) (n : Nat) :
    s.Outside (if c then s.evtAdd .sw 0 k n else s) := by
  split
  · exact .evtAdd s (by decide) (by decide) hk n
  · exact .refl s

theorem queuePkt (s : State) (n lane : Nat) (k : Pkt) : s.Outside (s.queuePkt n lane k) := by
  unfold State.queuePkt
  dsimp only
  split
  · exact (State.Outside.overrun _ _ _ s).trans (.dropPkt _ _)
  split
  · exact .dropPkt s _
  · refine .trans (.trans (.after (.evtAdd_sw_if _ _ (by decide) _) ?_ ?_ ?_ ?_) (.evtAdd_sw_if _ _ (by decide) _)) (.pumpPort _ _) <;> rfl

theorem noRoute (s : State) (k : Pkt) (axis coord reason : Nat) : s.Outside (s.noRoute k axis coord reason) := by
  unfold State.noRoute
  exact ((State.Outside.noteLost s k).trans (.fabErr_counted _ _ _ _ _ _ _ (by decide) _)).trans (.dropPkt _ k)

theorem stale (s : State) (k : Pkt) : s.Outside (s.stale k) := by
  unfold State.stale
  exact ((State.Outside.noteLost s k).trans (.fabErr_counted _ _ _ _ _ _ _ (by decide) _)).trans (.dropPkt _ k)

theorem takeDetour (s : State) (k : Pkt) (a d p : Nat) : s.Outside (s.takeDetour k a d p) := by
  unfold State.takeDetour
  split
  · exact .noRoute s _ _ _ _
  · exact (State.Outside.evtAdd s (by decide) (by decide) (by decide) 1).trans (.queuePkt _ _ _ _)

theorem route (s : State) (k : Pkt) : s.Outside (s.route k) := by
  unfold State.route
  split
  · exact .dropPkt s k
  dsimp only
  split
  · exact .noRoute s _ _ _ _
  split
  · exact .queuePkt s _ _ _
  split
  · exact .takeDetour s _ _ _ _
  · exact .noRoute s _ _ _ _

theorem injectAs (s : State) (loose : Bool) (unit dst cls txn opc arg : Nat) (mc : Option Nat) (payload : List Byte) :
    s.Outside (s.injectAs loose unit dst cls txn opc arg mc payload) := by
  unfold State.injectAs
  extract_lets e rly s1 key pkt go p
  have h1 : s.Outside s1 := .of_parts rfl rfl rfl rfl
  have hgo : ∀ (bufs : List Nat) (t : State), t.Outside (go bufs t) := by
    intro bufs t
    simp only [go]
    split
    · exact .route t _
    · exact .after (.route _ _) rfl rfl rfl rfl
  split
  · exact h1.trans (.stale _ _)
  split
  · exact h1.trans (hgo _ _)
  split
  · next halloc => exact (h1.trans (.alloc halloc)).trans (hgo _ _)
  · exact (h1.trans (.overrun _ _ _ _)).trans (.of_parts rfl rfl rfl rfl)

end State.Outside
end Sys2Proof.Machine
end

section
/-! PROOFS. What device memory, the journal and frames leave outside the Sifters. -/

namespace Sys2Proof.Machine

/-! ### Device addresses stay in device memory -/

/-- A piece lies in one unit. -/
theorem piecesOf_within {u : Nat} {p : Nat × Nat} {f a n : Nat} (h : p ∈ piecesOf u f a n) : p.2 ≤ u - p.1 % u := by
  induction f generalizing a n with
  | zero => simp [piecesOf] at h
  | succ f ih =>
    rw [piecesOf] at h
    split at h
    · simp at h
    rcases List.mem_cons.mp h with rfl | h
    · exact Nat.min_le_right _ _
    · exact ih h

/-- The map of near/far mode keeps a stack's 256-byte granules in the stack. -/
theorem nearFarToNormal_granule {a n : Nat} (hn : n ≤ 256 - a % 256) : nearFarToNormal a + n ≤ (a / 2 ^ 36 + 1) * 2 ^ 36 := by
  have hg : bits a 29 8 < 2 ^ 22 := Nat.mod_lt _ (by decide)
  have hx : (bits a 35 30 ^^^ (bits a 29 8 % 64) ^^^ (bits a 29 8 / 64 % 64)) < 2 ^ 6 :=
    Nat.xor_lt_two_pow (Nat.xor_lt_two_pow (Nat.mod_lt _ (by decide)) (Nat.mod_lt _ (by decide))) (Nat.mod_lt _ (by decide))
  have hr := Nat.mod_lt a (show 0 < 256 by decide)
  unfold nearFarToNormal
  dsimp only
  generalize bits a 29 8 = g at *
  generalize (bits a 35 30 ^^^ (g % 64) ^^^ (g / 64 % 64)) = x at *
  omega

/-- The ranges of an access within device memory lie in device memory. -/
theorem State.devPieces_end {s : State} {a n : Nat} (h : a + n ≤ devBytes) {p : Nat × Nat} (hp : p ∈ s.devPieces a n) : p.1 + p.2 ≤ devBytes := by
  unfold State.devPieces at hp
  split at hp
  · obtain ⟨q, hq, rfl⟩ := List.mem_map.mp hp
    obtain ⟨-, hend, hpos⟩ := piecesOf_bound 256 (by decide) _ _ _ q hq
    have hgran := nearFarToNormal_granule (piecesOf_within hq)
    have hstack : q.1 / 2 ^ 36 < 2 ^ 4 := Nat.div_lt_of_lt_mul (by simp only [devBytes] at h; omega)
    simp only [devBytes]
    omega
  · obtain ⟨-, hend, -⟩ := piecesOf_bound (2 ^ 36) (by decide) _ _ _ p hp
    exact hend.trans h

/-- A unit that a range meets begins before the range's end. -/
theorem meetsUnit_lt {w i : Nat} {p : Nat × Nat} (h : meetsUnit w p i = true) : w * i < p.1 + p.2 := by
  simp only [meetsUnit, Bool.and_eq_true, decide_eq_true_eq] at h
  exact h.2

/-- What a read finds bad lies in device memory. -/
theorem State.devBad_lt {s : State} {ps : List (Nat × Nat)} (h : ∀ p ∈ ps, p.1 + p.2 ≤ devBytes) {x k : Nat} (hbad : s.devBad ps = some (x, k)) :
    x < devBytes := by
  obtain ⟨p, hp, hx⟩ := List.exists_of_findSome?_eq_some hbad
  dsimp only at hx
  split at hx
  · next l hl =>
    cases hx
    exact (meetsUnit_lt (List.find?_some hl)).trans_le (h p hp)
  · obtain ⟨w, hw, hx⟩ := Option.map_eq_some_iff.mp hx
    cases hx
    exact (meetsUnit_lt (List.find?_some hw)).trans_le (h p hp)

/-- What a write of a range drops lies before the range's end. -/
theorem State.devPut_lt {s : State} {p : Nat × Nat} {bs : List Byte} {x k : Nat} (h : (s.devPut p bs).2 = some (x, k)) : x < p.1 + p.2 := by
  unfold State.devPut at h
  dsimp only at h
  split at h
  · next l ls hl =>
    cases h
    have hmem := List.mem_cons_self (a := l) (l := ls)
    rw [← hl, List.mem_filter, Bool.and_eq_true] at hmem
    exact meetsUnit_lt hmem.2.1
  split at h
  · next w ws hw =>
    cases h
    have hmem := List.mem_cons_self (a := w) (l := ws)
    rw [← hw, List.mem_filter, Bool.and_eq_true] at hmem
    exact meetsUnit_lt hmem.2.1
  · exact absurd h.symm (Option.some_ne_none _)

theorem State.devPutAll_lt {ps : List (Nat × Nat)} (h : ∀ p ∈ ps, p.1 + p.2 ≤ devBytes) {s : State} {bs : List Byte} {x k : Nat}
    (hx : (s.devPutAll ps bs).2 = some (x, k)) : x < devBytes := by
  induction ps generalizing s bs with
  | nil => exact absurd hx.symm (Option.some_ne_none _)
  | cons p ps ih =>
    rw [State.devPutAll] at hx
    dsimp only at hx
    split at hx
    · next d hd =>
      cases hx
      exact (State.devPut_lt hd).trans_le (h p List.mem_cons_self)
    · exact ih (fun q hq => h q (List.mem_cons_of_mem p hq)) hx

namespace State.Outside
variable {s t u : State}

/-! ### Device memory -/

theorem memUe (s : State) (who kind : Nat) {a : Nat} (ha : a < devBytes) : s.Outside (s.memUe who kind a) := by
  unfold State.memUe
  have hn : a / 2 ^ 36 < 16 := Nat.div_lt_of_lt_mul (by simp only [devBytes] at ha; omega)
  exact (State.Outside.raise s _ _ _ _ _ _ _).trans (.evtAdd _ (by decide) hn (by decide) _)

theorem wake (s : State) (ps : List (Nat × Nat)) : s.Outside (s.wake ps) := by
  refine .foldl (fun t p => ?_) ps s
  dsimp only
  split <;> exact .of_parts rfl rfl rfl rfl

theorem devPutAll (ps : List (Nat × Nat)) (s : State) (bs : List Byte) : s.Outside (s.devPutAll ps bs).1 := by
  induction ps generalizing s bs with
  | nil => exact .refl s
  | cons p ps ih => exact (State.Outside.of_parts rfl rfl rfl rfl : s.Outside (s.devPut p (bs.take p.2)).1).trans (ih _ _)

theorem devRead {who a n st : Nat} {bs : List Byte} (h : s.devRead who a n = (st, bs, t)) : s.Outside t := by
  unfold State.devRead State.devReadAs at h
  dsimp only at h
  split at h
  · cases h
    exact .refl s
  next hin =>
  simp only [Bool.or_eq_true, decide_eq_true_eq, not_or, Nat.not_lt] at hin
  split at h
  · next x k hbad =>
    cases h
    exact (State.Outside.wake s _).trans (.memUe _ _ _ (State.devBad_lt (fun p hp => State.devPieces_end hin.2 hp) hbad))
  · cases h
    split
    · exact (State.Outside.wake s _).trans (.of_parts rfl rfl rfl rfl)
    · exact .wake s _

theorem devWrite (s : State) (who a : Nat) (bs : List Byte) : s.Outside (s.devWrite who a bs).2 := by
  have hput := (State.Outside.wake s (s.devPieces a bs.length)).trans (.devPutAll (s.devPieces a bs.length) _ bs)
  unfold State.devWrite
  split
  · exact .refl s
  dsimp only
  split
  · exact .refl s
  next hin =>
  simp only [Bool.or_eq_true, decide_eq_true_eq, not_or, Nat.not_lt] at hin
  split
  · next x k hbad => exact hput.trans (.memUe _ _ _ (State.devPutAll_lt (fun p hp => State.devPieces_end hin.2 hp) hbad))
  · exact hput

/-! ### The journal -/

theorem jnlErr (s : State) (bit i0 i1 peer tag : Nat) : s.Outside (s.jnlErr bit i0 i1 peer tag) := by
  rw [State.jnlErr]
  exact .raise ..

theorem releaseOldest (s : State) : s.Outside s.releaseOldest := by
  unfold State.releaseOldest
  split
  · exact .refl s
  · exact .after (.evtAdd _ (by decide) (by decide) (by decide) _) rfl rfl rfl rfl

theorem closeRange (s : State) : s.Outside s.closeRange := by
  unfold State.closeRange
  split
  · extract_lets s1
    have h1 : s.Outside s1 := by
      simp only [s1]
      split
      · exact .releaseOldest s
      · exact .refl s
    exact h1.trans (.of_parts rfl rfl rfl rfl)
  · exact .of_parts rfl rfl rfl rfl

theorem makeRoom (len n : Nat) (s : State) : s.Outside (s.makeRoom len n) := by
  induction n generalizing s with
  | zero => exact .refl s
  | succ n ih =>
    unfold State.makeRoom
    split
    · exact .refl s
    · exact (State.Outside.releaseOldest s).trans (ih _)

theorem ringPut (s : State) (base size w tag : Nat) (bs : List Byte) : s.Outside (s.ringPut base size w tag bs) := by
  unfold State.ringPut
  extract_lets tail s1
  have h1 : s.Outside s1 := by
    simp only [s1]
    split
    · exact .refl s
    · exact .after (.devWrite { s with free := s.free + 112 } _ _ _) rfl rfl rfl rfl
  exact h1.trans (.devWrite _ _ _ _)

theorem storeEntry (s : State) (tag : Nat) (bs : List Byte) : s.Outside (s.storeEntry tag bs).1 := by
  unfold State.storeEntry
  extract_lets s1
  have h1 : s.Outside s1 := by
    simp only [s1]
    split
    · exact .makeRoom _ _ s
    · exact .refl s
  split
  · exact (h1.trans (.jnlErr _ _ _ _ _ _)).trans (.trans (.closeRange _) (.evtAdd _ (by decide) (by decide) (by decide) _))
  · exact (h1.trans (.ringPut _ _ _ _ _ _)).trans (.after (.evtAdd _ (by decide) (by decide) (by decide) _) rfl rfl rfl rfl)

theorem appendEntry (s : State) (tag : Nat) (h : JHead) (data : List Byte) : s.Outside (s.appendEntry tag h data).1 := by
  unfold State.appendEntry
  dsimp only
  split
  · exact (State.Outside.storeEntry s _ _).trans (.injectAs _ _ _ _ _ _ _ _ _ _)
  · exact .storeEntry s _ _

theorem journalCopy (s : State) (h : JHead) (data : List Byte) : s.Outside (s.journalCopy h data) := by
  unfold State.journalCopy
  split
  · exact .appendEntry s _ _ _
  split
  · exact .evtAdd s (by decide) (by decide) (by decide) _
  · exact .refl s

/-! ### Frames -/

theorem setFrame (f : Frame) (s : State) : s.Outside (s.setFrame f) := .of_parts rfl rfl rfl rfl

theorem onFrame (s : State) (id : Nat) (g : Frame → Frame) : s.Outside (s.onFrame id g) := by
  unfold State.onFrame
  split
  · exact .setFrame _ s
  · exact .refl s

theorem swallow (s : State) (f : Frame) : s.Outside (s.swallow f) := by
  unfold State.swallow
  split
  · exact .refl s
  split
  · exact .of_parts rfl rfl rfl rfl
  · exact .refl s

theorem removeFrame (s : State) (f : Frame) : s.Outside (s.removeFrame f) := by
  unfold State.removeFrame
  refine .trans ?_ (.freeBufs _ _ _)
  exact .after (.swallow _ f) rfl rfl rfl rfl

theorem reap (s : State) (id : Nat) : s.Outside (s.reap id) := by
  unfold State.reap
  split
  · split
    · exact .refl s
    · exact .removeFrame s _
  · exact .refl s

theorem prefetch (s : State) (n c : Nat) : s.Outside (s.prefetch n c) := by
  refine .foldl (fun t k => ?_) _ s
  split
  · refine .foldl (fun t q => ?_) _ t
    split
    · exact .refl t
    · exact .touchPage t _
  · exact .refl t

theorem enqueue (f : Frame) (s : State) (o : Nat) : s.Outside (s.enqueue f o) := by
  unfold State.enqueue
  split
  · split <;> exact .evtAdd s (by decide) (by decide) (by decide) _
  extract_lets x k s1
  have h1 : s.Outside s1 := .after (.onFrame _ _ _) rfl rfl rfl rfl
  exact h1.trans (.after (.prefetch _ _ _) rfl rfl rfl rfl)

theorem depart (f : Frame) (s : State) (o : Nat) : s.Outside (s.depart f o) := by
  unfold State.depart
  extract_lets bytes out s1 s2
  have h2 : s.Outside s2 := .of_parts rfl rfl rfl rfl
  split
  · exact h2.trans (.evtAdd _ (by decide) (by decide) (by decide) _)
  · exact h2

theorem flushFrames (s : State) (ids : List Nat) : s.Outside (s.flushFrames ids) := by
  refine .foldl (fun t id => ?_) ids s
  split
  · exact .refl t
  split
  · exact .refl t
  split
  · exact (State.Outside.setFrame _ t).trans (.reap _ _)
  · exact ((State.Outside.setFrame _ t).trans (.foldl (.enqueue _) _ _)).trans (.reap _ _)

theorem flushPort (s : State) (p : Nat) : s.Outside (s.flushPort p) := .flushFrames s _

theorem settleFrame (s : State) (id cls : Nat) (outs : List Nat) : s.Outside (s.settleFrame id cls outs) := by
  unfold State.settleFrame
  split
  · exact .refl s
  next f0 _ =>
  extract_lets f s1 cut s2 s3 s4
  have h3 : s.Outside s3 := .after (.evtAdd s2 (by decide) (by decide) (by decide) _) rfl rfl rfl rfl
  have h4 : s.Outside s4 := by
    simp only [s4]
    split
    · exact h3.trans (.foldl (.depart f) _ _)
    · refine h3.trans (.foldl (fun t o => ?_) _ _)
      exact .of_parts rfl rfl rfl rfl
  exact (h4.trans (.flushPort _ _)).trans (.reap _ _)

theorem releaseFrame (s : State) (id : Nat) : s.Outside (s.releaseFrame id) := by
  unfold State.releaseFrame
  split
  · exact .refl s
  split
  · exact .setFrame _ s
  split
  · exact (State.Outside.setFrame _ s).trans (.reap _ _)
  · exact ((State.Outside.setFrame _ s).trans (.foldl (.enqueue _) _ _)).trans (.reap _ _)

theorem dropFrame (s : State) (id : Nat) : s.Outside (s.dropFrame id) := by
  unfold State.dropFrame
  split
  · exact .refl s
  · exact ((State.Outside.setFrame _ s).trans (.flushPort _ _)).trans (.reap _ _)

theorem sbAdd (s : State) (k n : Nat) : s.Outside (s.sbAdd k n) := .of_parts rfl rfl rfl rfl

/-- A frame's copies that no output takes, counted, before it goes on. -/
theorem evtAdd_lack (s : State) (n : Nat) : s.Outside (s.evtAdd .sw 0 4 n) := .evtAdd s (by decide) (by decide) (by decide) n

theorem forwardFrame (s : State) (f : SftFrame) (cls : Nat) : s.Outside (s.forwardFrame f cls) := by
  unfold State.forwardFrame
  split
  · exact .refl s
  · exact (State.Outside.evtAdd_lack s _).trans (.settleFrame _ _ _ _)

theorem storeError (s : State) (unit tag upset q : Nat) : s.Outside (s.storeError unit tag upset q) := by
  unfold State.storeError
  dsimp only
  split
  · exact ((State.Outside.useFree s).trans (.raise _ _ _ _ _ _ _ _)).trans (.sbAdd _ _ _)
  split
  · exact .raise _ _ _ _ _ _ _ _
  · exact .refl s

end State.Outside
end Sys2Proof.Machine
end

section
/-! PROOFS. What records, verdicts and holds leave of the Sifters: the queues, the contexts, the handovers and the counts of runs. -/

namespace Sys2Proof.Machine

/-! ### What a Sifter's records and verdicts leave -/

/-- No Sifter's queue, sequence or discarded handovers, no context and no handover differs, nor does a count of those named; no error bit is lost. -/
structure State.KeepsQueues (ks : List Nat) (s t : State) : Prop where
  handovers : t.sft.handovers = s.sft.handovers
  ctxMem : t.sft.ctxMem = s.sft.ctxMem
  queue : ∀ n, (t.sifter n).queue = (s.sifter n).queue
  seqno : ∀ n, (t.sifter n).seqno = (s.sifter n).seqno
  hodrop : ∀ n, (t.sifter n).hodrop = (s.sifter n).hodrop
  errs : s.KeepsErrs t
  counts : ∀ n < 32, ∀ k ∈ ks, t.reg .sft n (0x80 + 8 * k) = s.reg .sft n (0x80 + 8 * k)

/-- A count of another offset on a Sifter's page. -/
theorem State.reg_evtAdd_other (s : State) (p : Page) (i n m : Nat) {k j : Nat} (hk : k < 8) (hj : j ∈ ownCounts) (hjk : j ≠ k) :
    (s.evtAdd p i k m).reg .sft n (0x80 + 8 * j) = s.reg .sft n (0x80 + 8 * j) :=
  State.reg_setReg_off _ _ _ _ _ _ _ _ (by omega) (ownCounts_lt hj).1 (by omega)

/-- A count just raised. -/
theorem State.reg_evtAdd_same (s : State) {p : Page} {i : Nat} (hi : i < p.count) (k n : Nat) :
    (s.evtAdd p i k n).reg p i (0x80 + 8 * k) = min max64 (s.reg p i (0x80 + 8 * k) + n) := by
  rw [State.evtAdd, State.reg_setReg_mod _ _ _ _ _ hi, Nat.mod_eq_of_lt ((Nat.min_le_left _ _).trans_lt (by decide))]

namespace State.KeepsQueues
variable {ks ls : List Nat} {s t u : State}

theorem trans (h : s.KeepsQueues ks t) (k : t.KeepsQueues ks u) : s.KeepsQueues ks u where
  handovers := k.handovers.trans h.handovers
  ctxMem := k.ctxMem.trans h.ctxMem
  queue n := (k.queue n).trans (h.queue n)
  seqno n := (k.seqno n).trans (h.seqno n)
  hodrop n := (k.hodrop n).trans (h.hodrop n)
  errs := h.errs.trans k.errs
  counts n hn j hj := (k.counts n hn j hj).trans (h.counts n hn j hj)

theorem mono (h : s.KeepsQueues ks t) (hl : ls ⊆ ks) : s.KeepsQueues ls t :=
  { h with counts := fun n hn k hk => h.counts n hn k (hl hk) }

theorem refl (ks : List Nat) (s : State) : s.KeepsQueues ks s :=
  ⟨rfl, rfl, fun _ => rfl, fun _ => rfl, fun _ => rfl, .of_regs rfl, fun _ _ _ _ => rfl⟩

theorem foldl {α : Type} {f : State → α → State} (h : ∀ (t : State) (a : α), t.KeepsQueues ks (f t a)) (l : List α) (s : State) :
    s.KeepsQueues ks (l.foldl f s) :=
  List.foldlRecOn (motive := s.KeepsQueues ks) l f (.refl ks s) fun t ht a _ => ht.trans (h t a)

/-- A Sifter changed in other parts. -/
theorem setSifter (ks : List Nat) (s : State) (sf : Nat) {x : Sifter} (hq : x.queue = (s.sifter sf).queue) (hs : x.seqno = (s.sifter sf).seqno)
    (hd : x.hodrop = (s.sifter sf).hodrop) : s.KeepsQueues ks (s.setSifter sf x) := by
  have part {α : Type} (f : Sifter → α) (hf : f x = f (s.sifter sf)) (n : Nat) : f ((s.setSifter sf x).sifter n) = f (s.sifter n) := by
    by_cases hn : n = sf
    · rw [hn, State.sifter_setSifter, hf]
    · rw [State.sifter_setSifter_other _ _ _ _ hn]
  exact ⟨rfl, rfl, part Sifter.queue hq, part Sifter.seqno hs, part Sifter.hodrop hd, .of_regs rfl, fun _ _ _ _ => State.reg_congr _ _ _ _ _ rfl⟩

/-- An event counted that is not among those named. -/
theorem evtAdd (s : State) (p : Page) (i n : Nat) {k : Nat} (hk : k < 8) (hks : k ∉ ks) (hown : ks ⊆ ownCounts) : s.KeepsQueues ks (s.evtAdd p i k n) where
  handovers := rfl
  ctxMem := rfl
  queue _ := rfl
  seqno _ := rfl
  hodrop _ := rfl
  errs := .evtAdd s p i k n hk
  counts _ _ _ hj := s.reg_evtAdd_other _ _ _ _ hk (hown hj) fun h => hks (h ▸ hj)

end State.KeepsQueues

/-- What writing records leaves: the queues and their counts, and every hold. -/
structure State.KeepsHolds (s t : State) : Prop where
  queues : s.KeepsQueues ownCounts t
  holds : ∀ n, (t.sifter n).holds = (s.sifter n).holds

/-- What lies outside the Sifters leaves all of this. -/
theorem State.Outside.keepsHolds {s t : State} (h : s.Outside t) : s.KeepsHolds t := by
  have hx : ∀ n, t.sifter n = s.sifter n := fun n => by rw [State.sifter, h.sft]; rfl
  exact ⟨⟨by rw [h.sft], by rw [h.sft], fun n => by rw [hx], fun n => by rw [hx], fun n => by rw [hx], h.errs, h.counts⟩, fun n => by rw [hx]⟩

theorem State.Outside.keepsQueues {s t : State} (h : s.Outside t) : s.KeepsQueues ownCounts t := h.keepsHolds.queues

namespace State.KeepsHolds
variable {s t u : State}

theorem trans (h : s.KeepsHolds t) (k : t.KeepsHolds u) : s.KeepsHolds u :=
  ⟨h.queues.trans k.queues, fun n => (k.holds n).trans (h.holds n)⟩

theorem refl (s : State) : s.KeepsHolds s := ⟨.refl _ s, fun _ => rfl⟩

/-- A step that leaves the Sifters and the registers. -/
theorem of_parts (sft : t.sft = s.sft) (regs : t.regs = s.regs) : s.KeepsHolds t := by
  have hx : ∀ n, t.sifter n = s.sifter n := fun n => by rw [State.sifter, sft]; rfl
  exact ⟨⟨by rw [sft], by rw [sft], fun n => by rw [hx], fun n => by rw [hx], fun n => by rw [hx], .of_regs regs,
    fun _ _ _ _ => State.reg_congr _ _ _ _ _ regs⟩, fun n => by rw [hx]⟩

/-- A Sifter changed by a function that leaves its queue and its holds. -/
theorem onSifter (s : State) (sf : Nat) {f : Sifter → Sifter} (hq : ∀ x, (f x).queue = x.queue) (hs : ∀ x, (f x).seqno = x.seqno)
    (hd : ∀ x, (f x).hodrop = x.hodrop) (hh : ∀ x, (f x).holds = x.holds) : s.KeepsHolds (s.onSifter sf f) := by
  refine ⟨.setSifter _ s sf (hq _) (hs _) (hd _), fun n => ?_⟩
  by_cases hn : n = sf
  · rw [hn, State.onSifter, State.sifter_setSifter, hh]
  · rw [State.onSifter, State.sifter_setSifter_other _ _ _ _ hn]

/-! ### Records -/

theorem dropRec (sf : Nat) (s : State) : s.KeepsHolds (s.dropRec sf) :=
  ⟨.evtAdd s _ _ _ (by decide) (by decide) (List.Subset.refl _), fun _ => rfl⟩

theorem ringSignal (sf r : Nat) (s : State) : s.KeepsHolds (s.ringSignal sf r) := by
  unfold State.ringSignal
  dsimp only
  split
  · split
    · split
      · exact .of_parts rfl rfl
      · exact .refl s
    · exact .refl s
  · exact .refl s

theorem ringConsumed {unit addr : Nat} {c : Option Nat} (h : s.ringConsumed unit addr = (c, t)) : s.KeepsHolds t := by
  have hread : ∀ {st : Nat} {bs : List Byte} {w : State},
      (if xDev addr then s.devRead (whoOf unit) (xAddr addr) 8 else (0, s.hostRead (xAddr addr) 8, s)) = (st, bs, w) → s.KeepsHolds w := by
    intro st bs w hw
    split at hw
    · exact (State.Outside.devRead hw).keepsHolds
    · cases hw
      exact .refl s
  unfold State.ringConsumed at h
  split at h
  · next hw =>
    cases h
    exact hread hw
  · next hw =>
    cases h
    exact hread hw

theorem setRing (s : State) (sf r : Nat) (g : SRing) : s.KeepsHolds (s.onSifter sf (fun x => x.setRing r g)) := by
  refine .onSifter s sf ?_ ?_ ?_ ?_
  all_goals
    intro x
    unfold Sifter.setRing
    split <;> rfl

theorem ringRecord (sf r : Nat) (rec : SRec) (frame : List Byte) (bad : Bool) (copyLen : Nat) (s : State) :
    s.KeepsHolds (s.ringRecord sf r rec frame bad copyLen) := by
  unfold State.ringRecord
  dsimp only
  split
  · exact .dropRec sf s
  split
  · next hc =>
    split
    · exact (((ringConsumed hc).trans (State.Outside.devWrite _ _ _ _).keepsHolds).trans (.setRing _ _ _ _)).trans (.ringSignal _ _ _)
    · exact (ringConsumed hc).trans (.dropRec _ _)
  · next hc => exact (ringConsumed hc).trans (.dropRec _ _)

end State.KeepsHolds

theorem State.Outside.endRec (sf : Nat) (rec : SRec) (s : State) : s.Outside (s.endRec sf rec) := by
  unfold State.endRec
  refine .trans (.trans ?_ (.onFrame _ _ _)) (.reap _ _)
  split
  · exact .freeBufs _ _ s
  · exact .refl s

theorem State.Outside.askRec (rec : SRec) (s : State) : s.Outside (s.askRec rec) := by
  unfold State.askRec
  extract_lets s1
  have h1 : s.Outside s1 := by
    simp only [s1]
    split
    · exact .touchPage s _
    · exact .refl s
  split
  · split
    · exact h1
    · exact h1.trans (.touchBufs _ _)
  · exact h1

namespace State.KeepsHolds
variable {s t u : State}

theorem writeRecord (sf : Nat) (rec : SRec) (s : State) : s.KeepsHolds (s.writeRecord sf rec) := by
  unfold State.writeRecord
  split
  next bytes bad copyLen _ =>
  extract_lets s1 s2
  have h1 : s.Outside s1 := by
    simp only [s1]
    split
    · exact .touchPage s _
    · exact .refl s
  have h2 : s.Outside s2 := by
    simp only [s2]
    split
    · exact h1
    · exact h1.trans (.journalCopy _ _ _)
  exact (h2.keepsHolds.trans (.ringRecord _ _ _ _ _ _ _)).trans (State.Outside.endRec _ _ _).keepsHolds

/-- The records in preparation replaced. -/
theorem setRecq (s : State) (sf : Nat) (l : List SRec) : s.KeepsHolds (s.onSifter sf (fun x => { x with recq := l })) :=
  .onSifter s sf (fun _ => rfl) (fun _ => rfl) (fun _ => rfl) fun _ => rfl

theorem flushRecs (sf upset fuel : Nat) (s : State) : s.KeepsHolds (s.flushRecs sf upset fuel) := by
  induction fuel generalizing s upset with
  | zero => exact .refl s
  | succ fuel ih =>
    unfold State.flushRecs
    extract_lets x
    split
    · exact .refl s
    extract_lets ended went
    have hwent : ∀ t : State, t.KeepsHolds (went t) := fun t => .setRecq t sf _
    split
    · exact .refl s
    split
    · refine .trans ?_ (ih _ _)
      have hcount : (went s).Outside ((went s).evtAdd .pnt 0 1 1) := .evtAdd _ (by decide) (by decide) (by decide) 1
      exact (((hwent s).trans hcount.keepsHolds).trans (.dropRec _ _)).trans (State.Outside.endRec _ _ _).keepsHolds
    next r t hbuf =>
    have ht : s.KeepsHolds t := by
      split at hbuf
      · cases hbuf
        exact .refl s
      · obtain ⟨a, ha, hbuf⟩ := Option.map_eq_some_iff.mp hbuf
        cases hbuf
        exact (State.Outside.alloc ha).keepsHolds
    split
    · extract_lets u
      have hu : s.KeepsHolds u := (ht.trans (hwent t)).trans (State.Outside.storeError _ _ _ _ _).keepsHolds
      refine hu.trans (.trans ?_ (ih _ _))
      split
      · exact (KeepsHolds.dropRec _ _).trans (State.Outside.endRec _ _ _).keepsHolds
      · exact .writeRecord _ _ _
    · exact (ht.trans (setRecq t sf _)).trans (State.Outside.askRec _ _).keepsHolds

theorem pumpRecs (sf upset : Nat) (s : State) : s.KeepsHolds (s.pumpRecs sf upset) := .flushRecs _ _ _ _

theorem addRec (sf : Nat) (rec : SRec) (s : State) : s.KeepsHolds (s.addRec sf rec) := by
  unfold State.addRec
  refine .trans ?_ (State.Outside.onFrame _ _ _).keepsHolds
  exact .onSifter s sf (fun _ => rfl) (fun _ => rfl) (fun _ => rfl) fun _ => rfl

end State.KeepsHolds

/-! ### Verdicts -/

/-- The counts that a verdict leaves: a refused HOLD counts among the holds discarded (R256). -/
def runCounts : List Nat := [0, 1, 7]

theorem runCounts_own : runCounts ⊆ ownCounts := by decide

theorem State.KeepsHolds.runs {s t : State} (h : s.KeepsHolds t) : s.KeepsQueues runCounts t := h.queues.mono runCounts_own

theorem State.Outside.runs {s t : State} (h : s.Outside t) : s.KeepsQueues runCounts t := h.keepsHolds.runs

namespace State.KeepsQueues
variable {s : State}

theorem applyVerdict (sf seqno : Nat) (prog : Prog) (v0 : Verdict) (result : List Byte) (f : SftFrame) (s : State) :
    s.KeepsQueues runCounts (s.applyVerdict sf seqno prog v0 result f) := by
  unfold State.applyVerdict
  extract_lets x refused hold v cls base s1 s2 kept s4 s3
  have h1 : s.KeepsQueues runCounts s1 := by
    simp only [s1]
    split
    · exact (State.KeepsHolds.addRec _ _ _).runs
    · exact .refl _ s
  have h2 : s.KeepsQueues runCounts s2 := by
    simp only [s2]
    split
    · exact h1.trans (State.KeepsHolds.addRec _ _ _).runs
    split
    · exact (h1.trans (.evtAdd _ _ _ _ (by decide) (by decide) runCounts_own)).trans (State.KeepsHolds.addRec _ _ _).runs
    · exact h1
  have h3 : s.KeepsQueues runCounts s3 := by
    simp only [s3]
    split
    · exact h2.trans (State.Outside.forwardFrame _ _ _).runs
    split
    · have h4 : s2.KeepsQueues runCounts s4 := .setSifter _ _ sf rfl rfl rfl
      exact (h2.trans h4).trans (State.Outside.trans (.onFrame _ _ _) (.flushPort _ _)).runs
    · exact h2.trans (State.Outside.dropFrame _ _).runs
  exact h3.trans (State.KeepsHolds.pumpRecs _ _ _).runs

theorem noRun (sf seqno : Nat) (p : Prog) (f : SftFrame) (s : State) : s.KeepsQueues runCounts (s.noRun sf seqno p f) := .applyVerdict ..

theorem releaseHolds (sf : Nat) (s : State) (r : Nat × Bool) : s.KeepsQueues ownCounts (s.releaseHolds sf r) := by
  unfold State.releaseHolds
  extract_lets x mine s1
  have h1 : s.KeepsQueues ownCounts s1 := .setSifter _ s sf rfl rfl rfl
  refine h1.trans (.foldl (fun t h => ?_) _ _)
  split
  · exact (State.Outside.dropFrame _ _).keepsQueues
  split
  · exact ((State.Outside.evtAdd_lack _ _).trans (.releaseFrame _ _)).keepsQueues
  · exact .refl _ t

theorem setCtx (ks : List Nat) (s : State) (c : Nat) (x : Ctx) : s.KeepsQueues ks (s.setCtx c x) :=
  ⟨rfl, rfl, fun _ => rfl, fun _ => rfl, fun _ => rfl, .of_regs rfl, fun _ _ _ _ => State.reg_congr _ _ _ _ _ rfl⟩

end State.KeepsQueues
end Sys2Proof.Machine
end

section
/-! PROOFS. What a Sifter does by itself: handover, runs, holds, and the holds the host releases (R227 to R235, R256, R265). -/

namespace Sys2Proof.Machine

/-- With the clock of its domain stopped a command changes nothing. -/
theorem State.answer_stopped {s : State} {n : Nat} (h : s.clockStopped n = true) {m : Touch} (hf : m.fence = false) (hu : m.unfence = false)
    (go : State → State) : s.answer m (s.inDomain n go) = .next s := by
  rw [State.inDomain, if_pos h, State.answer_eq]
  simp [State.keep, hf, hu]

/-- With the clock running it does what it says. -/
theorem State.answer_running {s : State} {n : Nat} (h : s.clockStopped n = false) (m : Touch) (go : State → State) :
    s.answer m (s.inDomain n go) = .next (s.keep m (go s)) := by
  rw [State.inDomain, h, if_neg Bool.false_ne_true, State.answer_eq]

/-! ### Handover (R227, R228, R234) -/

/-- The handovers on their way replaced. -/
def State.setHandovers (l : List (Nat × Nat × SftFrame)) (s : State) : State := { s with sft.handovers := l }

/-- A handover counted as turned away (R228). -/
def State.turnAway (sf : Nat) (s : State) : State := s.onSifter sf (fun x => { x with hodrop := min max64 (x.hodrop + 1) })

section handover
variable {s : State} {sf die : Nat} {f : SftFrame} {more : List (Nat × Nat × SftFrame)}

/-- A frame from a port die of the order mask joins the queue. -/
theorem State.handover_joins (h : s.sft.handovers = (sf, die, f) :: more) (hdie : (s.srcDies sf).testBit die = true)
    (hroom : (s.sifter sf).queue.length < 64) :
    s.handover 0 = ((s.setHandovers more).evtAdd .sft sf 7 1).setSifter sf { s.sifter sf with queue := (s.sifter sf).queue ++ [f] } := by
  have hmask : bitOn ((s.setHandovers more).srcDies sf) die = true := hdie
  unfold State.handover
  rw [h]
  exact (if_pos hmask).trans (if_pos hroom)

/-- A frame from another port die takes its program's FALLBACK, or is dropped. -/
theorem State.handover_turned (h : s.sft.handovers = (sf, die, f) :: more) (hdie : (s.srcDies sf).testBit die = false) :
    ((s.setHandovers more).turnAway sf).KeepsQueues runCounts (s.handover 0) := by
  have hmask : ¬ bitOn ((s.setHandovers more).srcDies sf) die = true := ne_true_of_eq_false hdie
  unfold State.handover
  rw [h]
  dsimp only [List.getElem?_cons_zero]
  split
  · next hearlier => exact absurd hearlier Bool.false_ne_true
  split
  · next hon => exact absurd hon hmask
  split
  · exact .noRun _ _ _ _ _
  · exact (State.Outside.dropFrame _ _).runs

end handover

/-! ### Runs (R229, R235, R265) -/

/-- The frame dispatched next has left the queue, and the Sifter's sequence goes on. -/
def State.dispatched (sf : Nat) (rest : List SftFrame) (s : State) : State :=
  (s.onSifter sf (fun x => { x with queue := rest })).onSifter sf (fun x => { x with seqno := x.seqno + 1 })

theorem State.dispatched_sifter (s : State) (sf : Nat) (rest : List SftFrame) :
    (s.dispatched sf rest).sifter sf = { s.sifter sf with queue := rest, seqno := (s.sifter sf).seqno + 1 } := by
  simp only [State.dispatched, State.onSifter, State.sifter_setSifter]

/-- The run of a frame just dispatched, which no command of the host's stands before. -/
def dispatchedRun (x : Sifter) (f : SftFrame) (p : Prog) : SRun := { sf := f, seqno := x.seqno + 1, prog := p, behind := [] }

/-- A Sifter may run its queue's frame of the lowest key now, with every context at hand. -/
structure State.MayDispatch (s : State) (sf : Nat) (f : SftFrame) (rest : List SftFrame) (p : Prog) : Prop where
  coast : s.clk.coast = false
  runs : (s.sifter sf).runs = []
  cmds : s.ctxCmdsOn f = []
  lowest : (s.sifter sf).lowest = some (f, rest)
  settled : s.settledOrder sf f = true
  prog : s.progIn sf f.slot = some p
  inline : s.inlinePort f.port = true → ∀ c ∈ f.ctxs, (s.ctx c).pinned = true
  pinned : ∀ c ∈ f.ctxs, s.homed sf c = true → (s.ctx c).pinned = true

section run
variable {s : State} {sf : Nat} {f : SftFrame} {rest : List SftFrame} {p : Prog}

/-- A run whose contexts are pinned asks for no page. -/
theorem State.touchCtxs_pinned (h : ∀ c ∈ f.ctxs, s.homed sf c = true → (s.ctx c).pinned = true) : s.touchCtxs sf f = s := by
  refine List.foldlRecOn (motive := (· = s)) f.ctxs _ rfl fun t ht c hc => ?_
  subst ht
  refine if_neg fun hask => ?_
  simp only [Bool.and_eq_true, Bool.not_eq_true'] at hask
  exact Bool.false_ne_true (hask.2.symm.trans (h c hc hask.1))

theorem State.MayDispatch.runFree (h : s.MayDispatch sf f rest p) :
    (s.dispatched sf rest).runFree sf [] (dispatchedRun (s.sifter sf) f p) = true := by
  simp only [State.runFree, dispatchedRun, List.all_nil, Bool.and_true, List.any_nil, Bool.not_false, Bool.true_and, List.all_eq_true]
  intro c hc
  have hpin := h.pinned c hc
  change (!s.homed sf c || (s.ctx c).pinned || _) = true
  cases hhome : s.homed sf c
  · rfl
  · rw [hpin hhome]
    rfl

/-- The frame's run is executed at once. -/
theorem State.MayDispatch.sifterRunStep_eq (h : s.MayDispatch sf f rest p) :
    s.sifterRunStep sf 0 = ((s.dispatched sf rest).executeRun sf 0 (dispatchedRun (s.sifter sf) f p)).pumpRecs sf := by
  have hfree := h.runFree
  obtain ⟨hcoast, hruns, hcmds, hlowest, hsettled, hprog, hinline, hpinned⟩ := h
  have hdispatch : s.dispatch sf 0 f rest = (s.dispatched sf rest).executeRun sf 0 (dispatchedRun (s.sifter sf) f p) := by
    have hslot : (s.onSifter sf (fun x => { x with queue := rest })).progIn sf f.slot = some p := by
      rw [← hprog]
      simp only [State.progIn, State.onSifter, State.sifter_setSifter]
    have hask : ¬ (s.inlinePort f.port && f.ctxs.any (fun c => !(s.ctx c).pinned)) = true := by
      simp only [Bool.and_eq_true, List.any_eq_true, Bool.not_eq_true', not_and, not_exists]
      exact fun hin c hc hun => Bool.false_ne_true (hun.symm.trans (hinline hin c hc))
    unfold State.dispatch
    extract_lets s1 x s2
    split
    · next hnone => exact absurd (hnone.symm.trans hslot).symm (Option.some_ne_none _)
    next p1 hp1 =>
    cases hp1.symm.trans hslot
    extract_lets q
    have hx : x = { s.sifter sf with queue := rest } := State.sifter_setSifter sf _ s
    have hq : q = dispatchedRun (s.sifter sf) f p := by
      simp only [q, hx, dispatchedRun]
      rw [show s1.ctxCmdsOn f = [] from hcmds]
    have hfirst : s2.runFree sf x.runs q = true := by
      rw [hx, hruns, hq]
      exact hfree
    rw [if_neg (show ¬ (s2.inlinePort f.port && f.ctxs.any (fun c => !(s2.ctx c).pinned)) = true from hask), if_pos hfirst, hq]
    rfl
  unfold State.sifterRunStep
  rw [if_neg (by simp [hcoast])]
  dsimp only
  rw [hruns, hlowest]
  simp only [State.nextRun, hsettled, if_true, hdispatch]

/-- The length a run sees of a frame received whole. -/
theorem State.lenSeen_complete {q : SRun} {g : Frame} (hg : s.frame q.sf.frame = some g) (hc : g.complete = true) :
    s.lenSeen q = g.bytes.length := by
  rw [State.lenSeen, hg]
  exact if_pos hc

/-- The contexts' bytes as a run leaves them. -/
def State.setCtxMem (m : Mem) (s : State) : State := { s with sft.ctxMem := m }

/-- A run that reaches END commits, counts, and its verdict applies (R229, R235). -/
theorem State.executeRun_done {q : SRun} {r : IRun} (hclash : s.stampClash q.sf = none) (htouch : s.touchCtxs sf q.sf = s)
    (hrun : ilnusRun (s.runEnv sf 0 (s.lenSeen q) q.sf) q.prog.insns 256 0 { mem := s.sft.ctxMem } = .done r) :
    ∃ u, (s.setCtxMem r.mem).KeepsQueues ownCounts u ∧ (u.evtAdd .sft sf 0 1).KeepsQueues runCounts (s.executeRun sf 0 q) := by
  unfold State.executeRun
  extract_lets f t sft
  have ht : t = s := htouch
  have hsft : sft = s.sft := congrArg State.sft ht
  split
  · next hsome => exact absurd (hclash.symm.trans hsome).symm (Option.some_ne_none _)
  rw [ht]
  split
  · next hfault => exact absurd (hrun.symm.trans hfault) nofun
  next r1 hdone =>
  cases hrun.symm.trans hdone
  extract_lets s2 s3 s4
  refine ⟨s4, ?_, .applyVerdict _ _ _ _ _ _ _⟩
  have h3 : s2.KeepsQueues ownCounts s3 := by
    refine .foldl (fun t c => ?_) _ s2
    split
    · exact .setCtx _ t _ _
    · exact .refl _ t
  have h2 : s2 = s.setCtxMem r.mem := by
    simp only [s2, hsft]
    rfl
  rw [← h2]
  exact h3.trans (.foldl (State.KeepsQueues.releaseHolds sf) _ _)

/-- A run that faults changes no context, sets its bit, counts, and FALLBACK applies (R265). -/
theorem State.executeRun_fault {q : SRun} {insn bit c detail : Nat} {r : IRun} (hclash : s.stampClash q.sf = none)
    (htouch : s.touchCtxs sf q.sf = s) (hbit : bit < 32)
    (hrun : ilnusRun (s.runEnv sf 0 (s.lenSeen q) q.sf) q.prog.insns 256 0 { mem := s.sft.ctxMem } = .fault insn bit c detail r) :
    ∃ u, s.KeepsQueues ownCounts u ∧ u.errSet .sft sf bit ∧ (u.evtAdd .sft sf 1 1).KeepsQueues runCounts (s.executeRun sf 0 q) := by
  unfold State.executeRun
  extract_lets f t
  have ht : t = s := htouch
  split
  · next hsome => exact absurd (hclash.symm.trans hsome).symm (Option.some_ne_none _)
  rw [ht]
  split
  · next hfault =>
    cases hrun.symm.trans hfault
    extract_lets s2 x s3
    have h2 : s.KeepsQueues ownCounts s2 := (State.Outside.raise s _ _ _ _ _ _ _).keepsQueues
    have h3 : s2.KeepsQueues ownCounts s3 := by
      simp only [s3]
      split
      · exact .setCtx _ s2 _ _
      · exact .refl _ s2
    exact ⟨s3, h2.trans h3, h3.errs _ _ _ (State.raise_errSet _ _ _ _ _ _ _ s (by omega)), .applyVerdict _ _ _ _ _ _ _⟩
  · next hdone => exact absurd (hrun.symm.trans hdone) nofun

end run

/-! ### Holds that age out (R256) -/

section holds
variable {sf : Nat}

/-- A hold discarded counts, and its notice and its frame go. -/
theorem State.discardHold (hsf : sf < 32) (t : State) (rec : SRec) (id : Nat) :
    ((((t.evtAdd .sft sf 5 1).addRec sf rec).dropFrame id).sifter sf).holds = (t.sifter sf).holds ∧
      (((t.evtAdd .sft sf 5 1).addRec sf rec).dropFrame id).reg .sft sf 0xA8 = min max64 (t.reg .sft sf 0xA8 + 1) := by
  have h := (State.KeepsHolds.addRec sf rec (t.evtAdd .sft sf 5 1)).trans (State.Outside.dropFrame _ id).keepsHolds
  exact ⟨h.holds sf, (h.queues.counts sf hsf 5 (by decide)).trans (t.reg_evtAdd_same hsf 5 1)⟩

/-- Steps that each leave a Sifter's holds and count one, one after another. -/
theorem State.foldl_counted (hsf : sf < 32) {α : Type} {f : State → α → State}
    (hf : ∀ t a, ((f t a).sifter sf).holds = (t.sifter sf).holds ∧ (f t a).reg .sft sf 0xA8 = min max64 (t.reg .sft sf 0xA8 + 1))
    (l : List α) (s : State) :
    ((l.foldl f s).sifter sf).holds = (s.sifter sf).holds ∧
      (l.foldl f s).reg .sft sf 0xA8 = min max64 (s.reg .sft sf 0xA8 + l.length) := by
  induction l generalizing s with
  | nil =>
    have hlt : s.reg .sft sf 0xA8 < 2 ^ 64 := s.reg_lt _ _ _ hsf
    exact ⟨rfl, (Nat.min_eq_right (Nat.le_sub_one_of_lt hlt)).symm⟩
  | cons a l ih =>
    obtain ⟨hholds, hreg⟩ := hf s a
    obtain ⟨ihholds, ihreg⟩ := ih (f s a)
    refine ⟨ihholds.trans hholds, ihreg.trans ?_⟩
    rw [hreg, List.length_cons]
    omega

/-- A hold older than its HOLD_AGE. -/
def State.holdOld (s : State) (h : HoldRec) : Bool := decide (1000 * h.age < s.time.now - h.since)

theorem State.holdAgeOut_holds (hsf : sf < 32) (s : State) :
    ((s.holdAgeOut sf).sifter sf).holds = (s.sifter sf).holds.filter (fun h => !s.holdOld h) ∧
      (s.holdAgeOut sf).reg .sft sf 0xA8 = min max64 (s.reg .sft sf 0xA8 + ((s.sifter sf).holds.filter s.holdOld).length) := by
  unfold State.holdAgeOut
  extract_lets x old s1
  have hpump := fun t : State => State.KeepsHolds.pumpRecs sf 0 t
  obtain ⟨hholds, hreg⟩ := State.foldl_counted hsf (f := fun s (h : HoldRec) => _) (fun t h => State.discardHold hsf t _ h.frame) old s1
  refine ⟨((hpump _).holds sf).trans (hholds.trans ?_), ((hpump _).queues.counts sf hsf 5 (by decide)).trans (hreg.trans ?_)⟩
  · exact congrArg Sifter.holds (State.sifter_setSifter sf _ s)
  · rfl

end holds

/-! ### Holds that the host releases (R256) -/

section release
variable {s t : State} {e : WinEntry} {rest : List WinEntry} {h : HoldRec}

/-- Room for a completion depends on the completions that wait, the rings and host memory. -/
theorem State.Outside.room (h : s.Outside t) (ring : Nat) : t.room ring = s.room ring := by
  have hfree : t.ringFree = s.ringFree := by
    funext r
    simp only [State.ringFree, State.consumed, State.hring, h.rings, h.host]
  have hwait : t.waitingFor = s.waitingFor := by
    funext r
    simp only [State.waitingFor, h.done]
  have hbuf : t.buffered = s.buffered := by simp only [State.buffered, hfree, hwait, h.done]
  unfold State.room
  rw [hfree, hwait, hbuf, h.done]

/-- A command that has room still has it after what lies outside the Sifters, and ends. -/
theorem State.Outside.finishEntry (h : s.Outside t) (hr : s.room e.ringByte = true) (st r0 : Nat) :
    t.finishEntry e st r0 = { t with hif.done := s.hif.done ++ [e.compl st r0] } := by
  rw [State.finishEntry, State.finishIn_room _ _ _ (by exact (h.room e.ringByte).trans hr), h.done]
  rfl

/-- The hold found bears the number the descriptor gives. -/
theorem State.holdOf_id (h1 : s.holdOf e = some h) : h.id = e.op 0x10 4 :=
  beq_iff_eq.mp (List.find?_some (p := fun g : HoldRec => g.id == e.op 0x10 4) h1)

/-- A hold that has left its Sifter is not among its holds. -/
theorem State.unhold_holds (h1 : s.holdOf e = some h) :
    ((s.unhold h).sifter (e.op 0x10 4 / 2 ^ 27)).holds = (s.sifter (e.op 0x10 4 / 2 ^ 27)).holds.filter (fun g => g.id != e.op 0x10 4) := by
  rw [State.unhold, State.holdOf_id h1, State.onSifter, State.sifter_setSifter]

/-- An SFT_RELEASE of its operation, well formed and at the front of the window with room for its completion. -/
structure State.OffersRelease (s : State) (e : WinEntry) (rest : List WinEntry) (forward : Bool) : Prop where
  offers : s.Offers e rest
  opcode : e.opcode = 0x34
  zeros : e.zeros 0x15 0x40 = true
  op : e.op 0x14 1 = b2n forward

variable {forward : Bool}

/-- It is the command chosen. -/
theorem State.OffersRelease.chosen (ho : s.OffersRelease e rest forward) : (e.opcode == 0x34 && e.op 0x14 1 == b2n forward) = true := by
  simp [ho.opcode, ho.op]

theorem State.OffersRelease.absent (ho : s.OffersRelease e rest forward) (hnone : s.holdOf e = none) :
    s.sftReleaseCmd forward = s.ended e rest 0x2148 0 := by
  rw [State.sftReleaseCmd, State.take_runs ho.offers.1 ho.chosen ho.zeros rfl, show State.holdOf { s with hif.window := rest } e = none from hnone]
  exact State.finishEntry_eq _ _ ho.offers.2

theorem State.OffersRelease.locked (ho : s.OffersRelease e rest true) (hh : s.holdOf e = some h) (hlock : h.hostOk = false) :
    s.sftReleaseCmd true = s.ended e rest 0x2147 0 := by
  rw [State.sftReleaseCmd, State.take_runs ho.offers.1 ho.chosen ho.zeros rfl, show State.holdOf { s with hif.window := rest } e = some h from hh]
  refine (if_pos rfl).trans ((if_pos ?_).trans (State.finishEntry_eq _ _ ho.offers.2))
  rw [hlock]
  rfl

/-- Otherwise the hold leaves its Sifter, its frame is released or dropped, and the command ends. -/
theorem State.OffersRelease.released (ho : s.OffersRelease e rest forward) (hh : s.holdOf e = some h) (hok : forward = true → h.hostOk = true) :
    ∃ t, (State.unhold h { s with hif.window := rest }).Outside t ∧ s.sftReleaseCmd forward = t.finishEntry e 0 0 := by
  rw [State.sftReleaseCmd, State.take_runs ho.offers.1 ho.chosen ho.zeros rfl, show State.holdOf { s with hif.window := rest } e = some h from hh]
  dsimp only
  cases forward with
  | false => exact ⟨_, .dropFrame _ _, if_neg Bool.false_ne_true⟩
  | true =>
    rw [if_pos rfl, if_neg (by simp [hok rfl])]
    refine ⟨_, ?_, rfl⟩
    split
    · exact (State.Outside.evtAdd_lack _ _).trans (.releaseFrame _ _)
    · exact .refl _

end release

/-! ### The statement -/

theorem exec_sifterHandover_eq (index : Nat) (s : State) : exec (.sifterHandover index) s =
    s.answer touchFrames (s.inDomain (switchMux (s.handoverDie index)) (fun s => s.handover index)) := rfl

theorem exec_sifterRun_eq (sf upset : Nat) (s : State) : exec (.sifterRun sf upset) s =
    s.answer touchFrames (s.inDomain (switchMux (sf / 8)) (fun s => s.sifterRunStep sf upset)) := rfl

theorem exec_watermarkBroadcast_eq (pd : Nat) (s : State) : exec (.watermarkBroadcast pd) s =
    s.answer { sft := true } (s.inDomain (switchMux pd) (fun s => s.broadcastWatermark pd)) := rfl

theorem exec_sifterHoldAgeOut_eq (sf : Nat) (s : State) : exec (.sifterHoldAgeOut sf) s =
    s.answer touchFrames (s.inDomain (switchMux (sf / 8)) (fun s => s.holdAgeOut sf)) := rfl

/-- The instruction of SFT_RELEASE by its operation. -/
def releaseInstr (forward : Bool) : Instr := if forward then .sftReleaseForward else .sftReleaseDiscard

theorem exec_releaseInstr_eq (forward : Bool) (s : State) :
    exec (releaseInstr forward) s = s.answer touchFrames (s.sftReleaseCmd forward) := by
  cases forward <;> rfl

/-- SFT_RELEASE of an absent hold. -/
theorem State.OffersRelease.exec_absent {s : State} {e : WinEntry} {rest : List WinEntry} {forward : Bool}
    (ho : s.OffersRelease e rest forward) (hnone : s.holdOf e = none) : exec (releaseInstr forward) s = .next (s.ended e rest 0x2148 0) := by
  rw [exec_releaseInstr_eq, ho.absent hnone]
  rfl

/-- SFT_RELEASE, forwarding a hold that the host may not release. -/
theorem State.OffersRelease.exec_locked {s : State} {e : WinEntry} {rest : List WinEntry} {h : HoldRec}
    (ho : s.OffersRelease e rest true) (hh : s.holdOf e = some h) (hlock : h.hostOk = false) :
    exec (releaseInstr true) s = .next (s.ended e rest 0x2147 0) := by
  rw [exec_releaseInstr_eq, ho.locked hh hlock]
  rfl

/-- SFT_RELEASE of a hold that may be released as asked. -/
theorem State.OffersRelease.exec_released {s : State} {e : WinEntry} {rest : List WinEntry} {h : HoldRec} {forward : Bool}
    (ho : s.OffersRelease e rest forward) (hh : s.holdOf e = some h) (hok : forward = true → h.hostOk = true) :
    ∃ t, exec (releaseInstr forward) s = .next t ∧ t.hif.window = rest ∧ t.hif.done = s.hif.done ++ [e.compl 0 0] ∧
      (t.sifter (e.op 0x10 4 / 2 ^ 27)).holds = (s.sifter (e.op 0x10 4 / 2 ^ 27)).holds.filter (fun g => g.id != e.op 0x10 4) := by
  obtain ⟨t, hout, hcmd⟩ := ho.released hh hok
  refine ⟨_, (exec_releaseInstr_eq forward s).trans (State.answer_eq ..), ?_⟩
  rw [hcmd, hout.finishEntry (by exact ho.offers.2)]
  exact ⟨hout.window, rfl, (hout.keepsHolds.holds _).trans (State.unhold_holds (s := { s with hif.window := rest }) hh)⟩

section
variable {s : State} {sf : Nat}

theorem exec_sifterHandover_joins {die : Nat} {f : SftFrame} {more : List (Nat × Nat × SftFrame)} (h : s.sft.handovers = (sf, die, f) :: more)
    (hsf : sf < 32) (hclk : s.clockStopped (switchMux (sf / 8)) = false) (hdie : (s.srcDies sf).testBit die = true)
    (hroom : (s.sifter sf).queue.length < 64) :
    ∃ t, exec (.sifterHandover 0) s = .next t ∧ t.sft.handovers = more ∧ t.sifter sf = { s.sifter sf with queue := (s.sifter sf).queue ++ [f] } ∧
      t.reg .sft sf 0xB8 = min (2 ^ 64 - 1) (s.reg .sft sf 0xB8 + 1) := by
  have hdom : s.clockStopped (switchMux (s.handoverDie 0)) = false := by
    rw [State.handoverDie, h]
    exact hclk
  refine ⟨_, (exec_sifterHandover_eq 0 s).trans (State.answer_running hdom _ _), ?_⟩
  rw [State.handover_joins h hdie hroom]
  exact ⟨rfl, State.sifter_setSifter sf _ _, (s.setHandovers more).reg_evtAdd_same hsf 7 1⟩

theorem exec_sifterHandover_turned {die : Nat} {f : SftFrame} {more : List (Nat × Nat × SftFrame)} (h : s.sft.handovers = (sf, die, f) :: more)
    (hclk : s.clockStopped (switchMux (sf / 8)) = false) (hdie : (s.srcDies sf).testBit die = false) :
    ∃ t, exec (.sifterHandover 0) s = .next t ∧ t.sft.handovers = more ∧
      (t.sifter sf).hodrop = min (2 ^ 64 - 1) ((s.sifter sf).hodrop + 1) ∧ (t.sifter sf).queue = (s.sifter sf).queue := by
  have hdom : s.clockStopped (switchMux (s.handoverDie 0)) = false := by
    rw [State.handoverDie, h]
    exact hclk
  have hturned := State.handover_turned h hdie
  have hx : ((s.setHandovers more).turnAway sf).sifter sf = { s.sifter sf with hodrop := min max64 ((s.sifter sf).hodrop + 1) } :=
    State.sifter_setSifter sf _ _
  exact ⟨_, (exec_sifterHandover_eq 0 s).trans (State.answer_running hdom _ _), hturned.handovers,
    (hturned.hodrop sf).trans (congrArg Sifter.hodrop hx), (hturned.queue sf).trans (by rw [hx])⟩

variable {f : SftFrame} {rest : List SftFrame} {p : Prog} {g : Frame}

/-- What the Sifter's run reads once its frame is dispatched. -/
theorem State.runEnv_dispatched (s : State) (sf upset len : Nat) (f : SftFrame) (rest : List SftFrame) :
    (s.dispatched sf rest).runEnv sf upset len f = s.runEnv sf upset len f := by
  unfold State.runEnv
  rw [State.dispatched_sifter]
  rfl

/-- A dispatch, a commit, an event counted and a verdict, one after another. -/
theorem State.KeepsQueues.dispatched {m : Mem} {t u : State} {k : Nat} (hsf : sf < 32)
    (hu : ((s.dispatched sf rest).setCtxMem m).KeepsQueues ownCounts u) (hk : k ∈ runCounts)
    (ht : (u.evtAdd .sft sf k 1).KeepsQueues runCounts t) :
    t.sft.ctxMem = m ∧ (t.sifter sf).queue = rest ∧ (t.sifter sf).seqno = (s.sifter sf).seqno + 1 ∧
      t.reg .sft sf (0x80 + 8 * k) = min (2 ^ 64 - 1) (s.reg .sft sf (0x80 + 8 * k) + 1) := by
  have hx := s.dispatched_sifter sf rest
  refine ⟨ht.ctxMem.trans hu.ctxMem, ((ht.queue sf).trans (hu.queue sf)).trans ?_, ((ht.seqno sf).trans (hu.seqno sf)).trans ?_, ?_⟩
  · exact congrArg Sifter.queue hx
  · exact congrArg Sifter.seqno hx
  · rw [ht.counts sf hsf k hk, u.reg_evtAdd_same hsf, hu.counts sf hsf k (runCounts_own hk)]
    rfl

/-- The run of the dispatched frame, as the state before the dispatch gives it. -/
theorem State.ilnusRun_dispatched (hg : s.frame f.frame = some g) (hwhole : g.complete = true) :
    ilnusRun ((s.dispatched sf rest).runEnv sf 0 ((s.dispatched sf rest).lenSeen (dispatchedRun (s.sifter sf) f p)) f) p.insns 256 0
      { mem := s.sft.ctxMem } = ilnusRun (s.runEnv sf 0 g.bytes.length f) p.insns 256 0 { mem := s.sft.ctxMem } := by
  rw [State.lenSeen_complete (g := g) hg hwhole, s.runEnv_dispatched]

variable (hsf : sf < 32) (hclk : s.clockStopped (switchMux (sf / 8)) = false) (hready : s.MayDispatch sf f rest p) (hg : s.frame f.frame = some g)
  (hwhole : g.complete = true) (hclash : s.stampClash f = none)
include hsf hclk hready hg hwhole hclash

theorem exec_sifterRun_done {r : IRun} (hrun : ilnusRun (s.runEnv sf 0 g.bytes.length f) p.insns 256 0 { mem := s.sft.ctxMem } = .done r) :
    ∃ t, exec (.sifterRun sf 0) s = .next t ∧ t.sft.ctxMem = r.mem ∧ (t.sifter sf).queue = rest ∧ (t.sifter sf).seqno = (s.sifter sf).seqno + 1 ∧
      t.reg .sft sf 0x80 = min (2 ^ 64 - 1) (s.reg .sft sf 0x80 + 1) := by
  obtain ⟨u, hu, hverdict⟩ := State.executeRun_done (s := s.dispatched sf rest) (q := dispatchedRun (s.sifter sf) f p) hclash
    (State.touchCtxs_pinned hready.pinned) ((State.ilnusRun_dispatched hg hwhole).trans hrun)
  refine ⟨_, (exec_sifterRun_eq sf 0 s).trans (State.answer_running hclk _ _), ?_⟩
  rw [hready.sifterRunStep_eq]
  exact hu.dispatched hsf (by decide) (hverdict.trans (State.KeepsHolds.pumpRecs sf 0 _).runs)

theorem exec_sifterRun_fault {insn bit c detail : Nat} {r : IRun} (hbit : bit < 32)
    (hrun : ilnusRun (s.runEnv sf 0 g.bytes.length f) p.insns 256 0 { mem := s.sft.ctxMem } = .fault insn bit c detail r) :
    ∃ t, exec (.sifterRun sf 0) s = .next t ∧ t.sft.ctxMem = s.sft.ctxMem ∧ (t.sifter sf).queue = rest ∧ t.errSet .sft sf bit ∧
      t.reg .sft sf 0x88 = min (2 ^ 64 - 1) (s.reg .sft sf 0x88 + 1) := by
  obtain ⟨u, hu, herr, hverdict⟩ := State.executeRun_fault (s := s.dispatched sf rest) (q := dispatchedRun (s.sifter sf) f p) hclash
    (State.touchCtxs_pinned hready.pinned) hbit ((State.ilnusRun_dispatched hg hwhole).trans hrun)
  have hafter := hverdict.trans (State.KeepsHolds.pumpRecs sf 0 _).runs
  obtain ⟨hmem, hqueue, -, hcount⟩ := State.KeepsQueues.dispatched (m := s.sft.ctxMem) hsf hu (by decide) hafter
  refine ⟨_, (exec_sifterRun_eq sf 0 s).trans (State.answer_running hclk _ _), ?_⟩
  rw [hready.sifterRunStep_eq]
  exact ⟨hmem, hqueue, hafter.errs _ _ _ (State.KeepsErrs.evtAdd u _ _ _ _ (by decide) _ _ _ herr), hcount⟩

end

/-- Settles O45: each event's step says what becomes of the Sifters, and what follows it (records, frames, packets) leaves that. -/
theorem sifterEvents : Obligations.SifterEvents := by
  refine ⟨fun s sf die f more h hsf hclk => ⟨fun hdie hroom => exec_sifterHandover_joins h hsf hclk hdie hroom,
      fun hdie => exec_sifterHandover_turned h hclk hdie⟩, ?runs, ?watermark, ?age, ?stopped, ?release⟩
  case runs =>
    intro s sf f rest p g hsf hclk hcoast hruns hcmds hlowest hsettled hprog hinline hpinned hg hwhole hclash
    have hready : s.MayDispatch sf f rest p := ⟨hcoast, hruns, hcmds, hlowest, hsettled, hprog, hinline, hpinned⟩
    exact ⟨fun r hrun => exec_sifterRun_done hsf hclk hready hg hwhole hclash hrun,
      fun insn bit c detail r hrun hbit => exec_sifterRun_fault hsf hclk hready hg hwhole hclash hbit hrun⟩
  case watermark => exact fun s pd hclk => (exec_watermarkBroadcast_eq pd s).trans (State.answer_running hclk _ _)
  case age =>
    intro s sf hsf hclk old
    obtain ⟨hholds, hcount⟩ := State.holdAgeOut_holds hsf s
    exact ⟨_, (exec_sifterHoldAgeOut_eq sf s).trans (State.answer_running hclk _ _), hholds, hcount⟩
  case stopped =>
    exact fun s sf upset pd => ⟨fun h => ⟨(exec_sifterRun_eq sf upset s).trans (State.answer_stopped h rfl rfl _),
      (exec_sifterHoldAgeOut_eq sf s).trans (State.answer_stopped h rfl rfl _)⟩,
      fun h => (exec_watermarkBroadcast_eq pd s).trans (State.answer_stopped h rfl rfl _)⟩
  case release =>
    intro s e rest hoff hop hz sf gone
    have hoffers : ∀ forward, e.op 0x14 1 = b2n forward → s.OffersRelease e rest forward := fun forward hfw => ⟨hoff, hop, hz, hfw⟩
    simp only [List.forall_mem_cons, List.not_mem_nil, false_imp_iff, implies_true, and_true]
    refine ⟨⟨fun hfw hnone => ?_, fun hfw hnone => ?_⟩, fun h hh hfw hlock => ?_, fun h hh => ⟨fun hfw _ => ?_, fun hfw hok => ?_⟩,
      fun h hh hfw _ => ?_⟩
    · exact (hoffers false hfw).exec_absent hnone
    · exact (hoffers true hfw).exec_absent hnone
    · exact (hoffers true hfw).exec_locked hh hlock
    · exact (hoffers false hfw).exec_released hh nofun
    · exact (hoffers true hfw).exec_released hh fun _ => hok
    · obtain ⟨t, hexec, -, hdone, hholds⟩ := (hoffers false hfw).exec_released hh nofun
      exact ⟨t, hexec, hdone, hholds⟩

end Sys2Proof.Machine
end

section
/-! PROOFS. COPY and the table commands, where a pool of the central store has resident pages and no page in all: the buffer that stages host
data does not go back without the error of R304. -/

namespace Sys2Proof.Machine

/-! ### Staging in a pool without pages -/

/-- A pointer of a pool without pages lies outside the pool's region. -/
theorem State.freeBuf_noPages {s : State} {pool : Nat} (h : poolPages (s.poolReg pool) = 0) (unit q : Nat) :
    (s.freeBuf unit pool q).errSet .pnt 0 2 := by
  have hout : q < poolBase (s.poolReg pool) * pageUnits ∨
      poolBase (s.poolReg pool) * pageUnits + poolPages (s.poolReg pool) * pageUnits ≤ q := by rw [h]; omega
  unfold State.freeBuf
  rw [if_pos hout]
  exact State.KeepsErrs.evtAdd _ _ _ _ _ (by decide) _ _ _ (State.raise_errSet _ _ _ _ _ _ _ _ (by decide))

/-- A transfer staged in such a pool sets bit 2 of Pantry's page when its buffer goes back. -/
theorem State.viaHost_noPages {s : State} {len : Option Nat} {n : Nat} {go : State → State} (hlen : len = some n)
    (h : (s.alloc 14 (hostPool n) none).any (fun r => poolPages ((go r.2).poolReg (hostPool n)) == 0) = true) (e : WinEntry) (addr : Nat) :
    (s.viaHost .answered e len addr go).errSet .pnt 0 2 := by
  obtain ⟨⟨q, t⟩, halloc, hpages⟩ := (Option.any_eq_true ..).mp h
  subst hlen
  have hstep : s.viaHost .answered e (some n) addr go = (go t).freeBuf 0x10 (hostPool n) q := by
    simp [State.viaHost, halloc, State.storeError, upsetOf]
  rw [hstep]
  exact State.freeBuf_noPages (by simpa using hpages) _ _

/-! ### Two commands that a state answers -/

/-- The module READY in normal service with ring 0 on, bus mastering on and stack 0 ONLINE; the command stands at the front of its window; Pantry
is enabled with a pool 0 of one resident page and no page, of which class 14 may hold one buffer. -/
def stagedInNoPages (e : WinEntry) : State := ((({ State.reset with
  ref := { inReset := false, ready := true, linkUp := true, busMaster := true, memSpace := true }
  mem := { units := [(0, { state := 1 })] }
  hif.window := [e]
  pnt.en := true
  pnt.metaBase := 1
  pnt.pools := [(0, 2 ^ 40)] } : State).setReg .hif 0 0x408 0x2_0000_0301).setReg .mctl 0 0x100 2).setReg .pnt 0 0x270 1

/-- A COPY of the byte at host address 0 to device address 0. -/
def copyOneByte : WinEntry := { seq := 7, bytes := leBytes 64 (0x20 * 256 ^ 0x04 + 2 ^ 63 * 256 ^ 0x18 + 256 ^ 0x20) }

/-- An SW_TCAM_WRITE of entry 0 from host address 0. -/
def writeEntryZero : WinEntry := { seq := 7, bytes := leBytes 64 (0x40 * 256 ^ 0x04) }

theorem copyOneByte_offered : (stagedInNoPages copyOneByte).Offers copyOneByte [] := by
  and_intros <;> decide +kernel

theorem writeEntryZero_offered : (stagedInNoPages writeEntryZero).Offers writeEntryZero [] := by
  and_intros <;> decide +kernel

theorem copyOneByte_plain : (stagedInNoPages copyOneByte).Plain 0 1 := by
  refine ⟨by decide +kernel, by decide, by decide +kernel, by decide +kernel, fun i _ hi => ?_⟩
  obtain rfl : i = 0 := by omega
  and_intros <;> decide +kernel

/-- Host memory is within reach of either command. -/
theorem stagedInNoPages_host {e : WinEntry} {n : Nat} (he : e = copyOneByte ∧ n = 1 ∨ e = writeEntryZero ∧ n = 168) :
    (stagedInNoPages e).hostDma = true ∧ (stagedInNoPages e).hostStaged n = true ∧ (stagedInNoPages e).hif.done.length < 4096 := by
  obtain ⟨rfl, rfl⟩ | ⟨rfl, rfl⟩ := he <;> and_intros <;> decide +kernel

theorem copyOneByte_err : ((stagedInNoPages copyOneByte).copyCmd .answered).errSet .pnt 0 2 := by
  rw [State.copyCmd, State.take_runs copyOneByte_offered.1 (by decide +kernel) (by decide +kernel) (by decide +kernel)]
  exact State.viaHost_noPages (n := 1) (by decide +kernel) (by decide +kernel) _ _

theorem writeEntryZero_err : ((stagedInNoPages writeEntryZero).swTcamCmd .answered).errSet .pnt 0 2 := by
  rw [State.swTcamCmd, State.take_runs writeEntryZero_offered.1 (by decide +kernel) (by decide +kernel) (by decide +kernel),
    if_neg (by decide +kernel)]
  exact State.viaHost_noPages (n := 168) (by decide +kernel) (by decide +kernel) _ _

theorem State.Staged.regs {s t : State} (h : s.Staged t) : t.regs = s.regs := congrArg (·.regs) (show t = _ from h)

theorem State.Stored.regs {s t : State} {a : Nat} {bs : List Byte} (h : s.Stored t a bs) : t.regs = s.regs := congrArg (·.regs) h.1

/-- No error of Pantry's page is set before the command. -/
theorem stagedInNoPages_noErr (e : WinEntry) : ¬ (stagedInNoPages e).errSet .pnt 0 2 := by
  rw [State.errSet, State.reg_congr (stagedInNoPages e) (stagedInNoPages copyOneByte) _ _ _ rfl]
  decide +kernel

/-- A state with the registers that the command leaves does not have those that the statement says. -/
theorem stagedInNoPages_regs {e : WinEntry} {t u : State} (herr : u.errSet .pnt 0 2) (hleft : u.regs = t.regs)
    (hclaimed : t.regs = (stagedInNoPages e).regs) : False :=
  stagedInNoPages_noErr e (State.KeepsErrs.of_regs (hleft.trans hclaimed).symm _ _ _ herr)

theorem exec_copy_eq (way : HostWay) (s : State) : exec (.copy way) s = s.answer touchData (s.copyCmd way) := rfl

/-- Refutes O14: a command whose buffer lies in a pool without pages sets bit 2 of Pantry's page as the buffer goes back, which is none of the
changes that the statement allows for staging. -/
theorem not_copyMovesItsBytes : ¬ Obligations.CopyMovesItsBytes := by
  intro h
  obtain ⟨hmoved, -⟩ := h (stagedInNoPages copyOneByte) copyOneByte [] .answered copyOneByte_offered (by decide +kernel) (by decide +kernel)
  obtain ⟨hdma, hstaged, hroom⟩ := stagedInNoPages_host (.inl ⟨rfl, rfl⟩)
  obtain ⟨t, u, hexec, hread, hstored⟩ := hmoved
    ⟨fun hdev => absurd hdev (by decide +kernel), fun _ => ⟨rfl, hdma, hstaged, hroom⟩⟩
    ⟨fun _ => copyOneByte_plain, fun hhost => absurd hhost (by decide +kernel)⟩
  rw [exec_copy_eq, State.answer_next_iff] at hexec
  have hleft : (State.copyCmd .answered (stagedInNoPages copyOneByte)).regs = t.regs := congrArg (·.regs) hexec
  exact stagedInNoPages_regs copyOneByte_err hleft
    ((hstored.1 (by decide +kernel)).regs.trans (hread.2 (by decide +kernel)).regs)

theorem exec_swTcamWrite_eq (way : HostWay) (s : State) : exec (.swTcamWrite way) s = s.answer { touchData with sw := true } (s.swTcamCmd way) :=
  rfl

/-- Refutes O46: as O14, for the 168 bytes of an SW_TCAM_WRITE. -/
theorem not_tableAndMeterCommands : ¬ Obligations.TableAndMeterCommands := by
  intro h
  obtain ⟨htcam, -⟩ := h (stagedInNoPages writeEntryZero) writeEntryZero [] writeEntryZero_offered
  obtain ⟨hdma, hstaged, hroom⟩ := stagedInNoPages_host (.inr ⟨rfl, rfl⟩)
  obtain ⟨-, -, hwritten⟩ := htcam .answered (by decide +kernel) (by decide +kernel) (by decide +kernel) (by decide +kernel) (by decide +kernel)
    ⟨fun hdev => absurd hdev (by decide +kernel), fun _ => ⟨rfl, hdma, hstaged, hroom⟩⟩
  obtain ⟨t, hexec, hread⟩ := hwritten (by decide +kernel) (by decide +kernel)
  rw [exec_swTcamWrite_eq, State.answer_next_iff] at hexec
  have hleft : (State.swTcamCmd .answered (stagedInNoPages writeEntryZero)).regs = t.regs := congrArg (·.regs) hexec
  exact stagedInNoPages_regs writeEntryZero_err hleft (hread.2 (by decide +kernel)).regs

end Sys2Proof.Machine
end

section
/-! PROOFS. A page that has come in, where the Sifters' table lists one at an index that no Sifter has (R297). -/

namespace Sys2Proof.Machine

/-- Pantry enabled with one spilled GiB, page 16 waited for, and every frame free; a record waits in entry 512 of the Sifters' table, whose page
would stand where Pantry's does. -/
def sifterAtPantry : State := { State.reset with
  pnt.en := true
  pnt.spillGib := 1
  pnt.waitIn := [16]
  sft.units := [(512, { recq := [{}] })] }

/-- The page of a Sifter 512 is Pantry's, so that its count of records dropped is Pantry's count of pages read in. -/
theorem sifterAtPantry_aliases : Page.at .sft 512 = Page.at .pnt 0 := by decide

theorem sifterAtPantry_counts : ((sifterAtPantry.pageIn 16 true).pumpAll).reg .pnt 0 0xA0 = 2 := by decide +kernel

theorem exec_pageInDone_eq (pg : Nat) (ok : Bool) (s : State) : exec (.pageInDone pg ok) s =
    s.answer { touchFrames with coll := true } (s.inDomain (switchMux 0) (fun s => (s.pageIn pg ok).pumpAll)) := rfl

/-- Refutes O49: with the page read in, the waiting record of entry 512 is dropped and counted, and Pantry's count goes up by two. -/
theorem not_pantryPagesAndLeaks : ¬ Obligations.PantryPagesAndLeaks := by
  rintro ⟨hin, -⟩
  obtain ⟨⟨t, hexec, -, -, hcount⟩, -⟩ := hin sifterAtPantry 16 (by decide +kernel) (by decide +kernel) (by decide +kernel)
  rw [exec_pageInDone_eq, State.answer_running (by decide +kernel), Host.Outcome.next.injEq] at hexec
  have hregs : t.regs = ((sifterAtPantry.pageIn 16 true).pumpAll).regs := congrArg (·.regs) hexec.symm
  rw [State.reg_congr _ _ _ _ _ hregs, sifterAtPantry_counts] at hcount
  exact absurd hcount (by decide +kernel)

end Sys2Proof.Machine
end

section
/-! PROOFS. The registers of Pantry's layout, of a port's gate schedule, of the PTP clock and of the order of collectives (R314, R331, R347,
R409). -/

namespace Sys2Proof.Machine

/-! ### A write that gives every bit its value -/

/-- RW fields that hold all bits below `n`, the highest first. -/
def fieldsCover : Nat → List RField → Bool
  | n, [] => n == 0
  | n, f :: fs => f.acc == .rw && f.hi + 1 == n && decide (f.lo ≤ f.hi) && fieldsCover f.lo fs

/-- A field copied from a number that agrees above it leaves one that agrees from its lowest bit on. -/
theorem setBits_copy {n d hi lo : Nat} (h : lo ≤ hi) (hd : n / 2 ^ (hi + 1) = d / 2 ^ (hi + 1)) :
    setBits n hi lo (bits d hi lo) / 2 ^ lo = d / 2 ^ lo := by
  have hsplit : d / 2 ^ (hi + 1) = d / 2 ^ lo / 2 ^ (hi + 1 - lo) := by
    rw [Nat.div_div_eq_div_mul, ← Nat.pow_add, Nat.add_sub_cancel' (by omega)]
  rw [setBits_parts n hi lo _ h, Nat.add_mul_div_left _ _ (by positivity), Nat.div_eq_of_lt (Nat.mod_lt _ (by positivity)), Nat.zero_add, hd,
    hsplit, bits_eq, Nat.mod_mod, Nat.mod_add_div]

/-- Such fields, given legal values, bring a register that agrees above them to the value written. -/
theorem State.fields_cover {s : State} {p : Page} {i off d v : Nat} (hn : ∀ f, s.noField p i off f = false) {fs : List RField}
    (hlegal : ∀ f ∈ fs, s.reserved p i off f (bits v f.hi f.lo) v = false) {n old : Nat} (h64 : n ≤ 64) (hc : fieldsCover n fs = true)
    (hd : old / 2 ^ n = v / 2 ^ n) : fs.foldl (s.fieldStep p i off d (2 ^ 64 - 1) v) (old, false) = (v, false) := by
  induction fs generalizing n old with
  | nil => simp_all [fieldsCover]
  | cons f fs ih =>
    simp only [fieldsCover, Bool.and_eq_true, beq_iff_eq, decide_eq_true_eq] at hc
    obtain ⟨⟨⟨hacc, rfl⟩, hlo⟩, hrest⟩ := hc
    have hstep : s.fieldStep p i off d (2 ^ 64 - 1) v (old, false) f = (setBits old f.hi f.lo (bits v f.hi f.lo), false) := by
      have hmask := bits_allOnes_ne_zero f.hi f.lo hlo (by omega)
      simp only [State.fieldStep, hmask, hn, hacc, hlegal f (by simp), decide_false, Bool.or_self, Bool.false_eq_true, if_false]
    rw [List.foldl_cons, hstep]
    exact ih (fun g hg => hlegal g (by simp [hg])) (by omega) hrest (setBits_copy hlo hd)

/-- A served write of legal values to a register whose fields hold all bits below `n`, of a value that fits. -/
theorem State.pageWrite_whole {s : State} {p : Page} {i off k n data : Nat} {r : RegDesc} (hs : s.Serves p i) (ho : off < 0x1000)
    (h8 : off % 8 = 0) (hf : findReg p off = some (r, k)) (hn : ∀ f, s.noField p i off f = false)
    (hlegal : ∀ f ∈ r.fields, s.reserved p i off f (bits data f.hi f.lo) data = false) (h64 : n ≤ 64) (hc : fieldsCover n r.fields = true)
    (hold : s.programmed p i off < 2 ^ n) (hdata : data < 2 ^ n) :
    s.pageWrite p i off data = s.applyReg p i off (s.programmed p i off) data data (2 ^ 64 - 1) := by
  have hle : 2 ^ n ≤ 2 ^ 64 := Nat.pow_le_pow_right (by decide) h64
  have hword : data % 2 ^ 64 = data := Nat.mod_eq_of_lt (by omega)
  have hand : data &&& (2 ^ 64 - 1) = data := by rw [Nat.and_two_pow_sub_one_eq_mod, hword]
  have hfields := State.fields_cover (d := data) hn hlegal h64 hc ((Nat.div_eq_of_lt hold).trans (Nat.div_eq_of_lt hdata).symm)
  rw [State.pageWrite_served s p i off data hs ho h8, hword, State.regWritten, hf]
  dsimp only
  rw [State.fieldsWritten_eq, mergeBits_full _ _ (by omega) (by omega), hfields, hand, if_neg (by simp)]

/-! ### Refusals -/

/-- A register stored and its write refused: the value stays, CFG_REFUSED sets. -/
theorem State.refuse_stored (s : State) {p : Page} {i off v : Nat} (hb : refusedBit p < 64) (hi : i < p.count) (ho : off < 0x1000)
    (he : off ∉ errOffs) : ((s.setReg p i off v).refuse p i off).reg p i off = v % 2 ^ 64 ∧
      ((s.setReg p i off v).refuse p i off).errSet p i (refusedBit p) := by
  have hkept : ((s.setReg p i off v).refuse p i off).reg p i off = (s.setReg p i off v).reg p i off :=
    State.raise_reg_off _ _ _ _ _ _ _ _ _ _ _ ho he
  exact ⟨hkept.trans (State.reg_setReg_mod _ _ _ _ _ hi), State.raise_errSet _ _ _ _ _ _ _ _ hb⟩

/-- One bit of a register just stored. -/
theorem State.bit_stored (s : State) {p : Page} {i off v k : Nat} (hi : i < p.count) (hk : k < 64) :
    (s.setReg p i off v).fld p i off k k = b2n (bitOn v k) := by
  rw [State.fld, State.reg_setReg_mod _ _ _ _ _ hi, bits_mod_word _ _ _ le_rfl hk, bits_one_bit]

/-! ### EN of Pantry -/

section pantry
variable {s : State} {data : Nat}

/-- A write of PNT_CSCFG with a legal size has its two fields taken (R314). -/
theorem State.pageWrite_cscfg (hs : s.Serves .pnt 0) (hspill : bits data 15 9 ≤ 64) :
    ∃ v, bits v 15 9 = bits data 15 9 ∧ v.testBit 0 = data.testBit 0 ∧ s.pageWrite .pnt 0 0x100 data = s.applyPnt 0x100 (s.reg .pnt 0 0x100) v := by
  obtain ⟨v, hv, hw⟩ := State.pageWrite_legal data hs (by decide) (by decide)
    (show findReg .pnt 0x100 = some (⟨0x100, 1, 0, [⟨15, 9, .rw, 0⟩, ⟨0, 0, .rw, 0⟩]⟩, 0) from rfl) (s.reg_lt _ _ _ hs.lt_count)
    (fun _ => rfl) (by simp [State.reserved, reservedPnt]; omega)
  exact ⟨v, hv ⟨15, 9, .rw, 0⟩ (by simp) rfl, testBit_eq_of_bits (hv ⟨0, 0, .rw, 0⟩ (by simp) rfl), hw⟩

theorem bitOn_zero_of_even {n : Nat} (h : n % 2 = 0) : bitOn n 0 = false := by rw [bitOn, Nat.testBit_zero, h]; rfl

theorem bitOn_zero_of_odd {n : Nat} (h : n % 2 = 1) : bitOn n 0 = true := by rw [bitOn, Nat.testBit_zero, h]; rfl

/-- What is left of a refused write is the value with EN as it was (R314). -/
theorem State.cscfg_refused (s : State) (v : Nat) : (((s.setReg .pnt 0 0x100 v).refuse .pnt 0 0x100).pnt = s.pnt) ∧
    ((s.setReg .pnt 0 0x100 v).refuse .pnt 0 0x100).fld .pnt 0 0x100 0 0 = b2n (bitOn v 0) ∧
    ((s.setReg .pnt 0 0x100 v).refuse .pnt 0 0x100).errSet .pnt 0 1 := by
  obtain ⟨hreg, herr⟩ := s.refuse_stored (p := .pnt) (i := 0) (off := 0x100) (v := v) (by decide) (by decide) (by decide) (by decide)
  refine ⟨by simp only [State.refuse, State.regErr, State.raise_pnt]; rfl, ?_, herr⟩
  rw [State.fld, hreg, bits_mod_word _ _ _ (by decide) (by decide), bits_one_bit]

/-- EN rises over a legal layout. -/
theorem State.cscfg_on (hs : s.Serves .pnt 0) (hspill : bits data 15 9 ≤ 64) (hoff : s.reg .pnt 0 0x100 % 2 = 0) (hon : data % 2 = 1)
    (hok : s.layoutOk (bits data 15 9) = true) : ∃ v, bitOn v 0 = true ∧
      s.pageWrite .pnt 0 0x100 data = (s.setReg .pnt 0 0x100 v).pantryOn (bits data 15 9) := by
  obtain ⟨v, hsize, hen, hw⟩ := State.pageWrite_cscfg hs hspill
  have hv : bitOn v 0 = true := hen.trans (bitOn_zero_of_odd hon)
  refine ⟨v, hv, hw.trans ?_⟩
  simp [State.applyPnt, rises, bitOn_zero_of_even hoff, hv, hsize, hok]

/-- EN does not rise over an illegal one. -/
theorem State.cscfg_illegal (hs : s.Serves .pnt 0) (hspill : bits data 15 9 ≤ 64) (hoff : s.reg .pnt 0 0x100 % 2 = 0) (hon : data % 2 = 1)
    (hbad : s.layoutOk (bits data 15 9) = false) : ∃ v, bitOn v 0 = false ∧
      s.pageWrite .pnt 0 0x100 data = (s.setReg .pnt 0 0x100 v).refuse .pnt 0 0x100 := by
  obtain ⟨v, hsize, hen, hw⟩ := State.pageWrite_cscfg hs hspill
  have hv : bitOn v 0 = true := hen.trans (bitOn_zero_of_odd hon)
  refine ⟨clearBit v 0, bitOn_clearBit v 0, hw.trans ?_⟩
  simp [State.applyPnt, rises, bitOn_zero_of_even hoff, hv, hsize, hbad]

/-- EN does not fall while buffers are allocated. -/
theorem State.cscfg_inUse (hs : s.Serves .pnt 0) (hspill : bits data 15 9 ≤ 64) (hon : s.reg .pnt 0 0x100 % 2 = 1) (hoff : data % 2 = 0)
    (hbufs : s.pnt.bufs ≠ []) : ∃ v, bitOn v 0 = true ∧
      s.pageWrite .pnt 0 0x100 data = (s.setReg .pnt 0 0x100 v).refuse .pnt 0 0x100 := by
  obtain ⟨v, -, hen, hw⟩ := State.pageWrite_cscfg hs hspill
  have hv : bitOn v 0 = false := hen.trans (bitOn_zero_of_even hoff)
  refine ⟨setBit v 0, by simp [bitOn, setBit], hw.trans ?_⟩
  simp [State.applyPnt, rises, falls, bitOn_zero_of_odd hon, hv, hbufs]

end pantry

/-! ### CHANGE of a gate schedule -/

section gate
variable {s : State} {n data : Nat}

/-- The next start of a cycle is not before the time asked for, nor before the base, and a whole number of cycles after it. -/
theorem cycleAt_spec {base cycle t : Nat} (hcycle : 1 ≤ cycle) :
    t ≤ cycleAt base cycle t ∧ base ≤ cycleAt base cycle t ∧ (cycleAt base cycle t - base) % cycle = 0 := by
  unfold cycleAt
  split
  · simp; omega
  · have hup : t - base ≤ ceilDiv (t - base) cycle * cycle := by
      unfold ceilDiv
      have := Nat.div_add_mod (t - base + cycle - 1) cycle
      have := Nat.mod_lt (t - base + cycle - 1) hcycle
      rw [Nat.mul_comm]
      omega
    rw [Nat.add_sub_cancel_left, Nat.mul_mod_left]
    omega

/-- The fields of TM_GATE_CTRL. -/
def gateCtrlReg : RegDesc :=
  ⟨0x580, 1, 0, [⟨22, 16, .ro, 0⟩, ⟨14, 8, .rw, 1⟩, ⟨3, 3, .w1c, 0⟩, ⟨2, 2, .w1c, 0⟩, ⟨1, 1, .w1s, 0⟩, ⟨0, 0, .rw, 0⟩]⟩

/-- When a CHANGE written now takes effect (R331). -/
def State.changeTime (s : State) (n : Nat) : Nat :=
  cycleAt (s.reg .port n 0x588) (s.fld .port n 0x590 31 0) (max (s.reg .port n 0x588) (s.time.now + 1000))

/-- A port with a CHANGE pending for that time. -/
def State.changing (s : State) (n : Nat) : Port := { s.port n with gate.changeAt := some (s.changeTime n) }

/-- A write of CHANGE, none pending, makes one pending (R331). -/
theorem State.pageWrite_change (hs : s.Serves .port n) (hchange : data.testBit 1 = true) (hnone : (s.reg .port n 0x580).testBit 1 = false)
    (hlen : 1 ≤ bits data 14 8 ∧ bits data 14 8 ≤ 64) : ∃ v, s.pageWrite .port n 0x580 data =
      ((s.setReg .port n 0x580 v).setReg .port n 0x580 (setBit v 1)).setPort n (s.changing n) := by
  obtain ⟨v, hv, hw⟩ := State.pageWrite_fields s .port n 0x580 data gateCtrlReg 0 hs (by decide) (by decide) rfl (s.reg_lt _ _ _ hs.lt_count)
  have hlegal : s.anyReserved .port n 0x580 (2 ^ 64 - 1) (data % 2 ^ 64) gateCtrlReg.fields = false := by
    have hword := bits_mod_word data 14 8 (by decide) (by decide)
    generalize data % 2 ^ 64 = d at hword ⊢
    simp [State.anyReserved, gateCtrlReg, State.reserved, reservedPort, hword]
    omega
  have hstays : bitOn v 1 = false := (testBit_eq_of_bits (hv ⟨1, 1, .w1s, 0⟩ (by simp [gateCtrlReg]))).trans hnone
  have hasked : bitOn (data % 2 ^ 64) 1 = true := by rw [bitOn, Nat.testBit_mod_two_pow, hchange]; rfl
  rw [hlegal, if_neg Bool.false_ne_true] at hw
  generalize data % 2 ^ 64 = d at hasked hw
  refine ⟨v, hw.trans ?_⟩
  simp [State.applyReg, State.applyPort, State.gateCtrlWritten, hasked, hstays, State.changing, State.changeTime]

theorem State.changeTime_spec (hcycle : 1 ≤ s.fld .port n 0x590 31 0) :
    s.time.now + 1000 ≤ s.changeTime n ∧ s.reg .port n 0x588 ≤ s.changeTime n ∧
      (s.changeTime n - s.reg .port n 0x588) % s.fld .port n 0x590 31 0 = 0 := by
  obtain ⟨hafter, hbase, hstart⟩ := cycleAt_spec hcycle
  exact ⟨(Nat.le_max_right ..).trans hafter, hbase, hstart⟩

end gate

/-! ### The settings of PTP and the order of collectives -/

/-- A change of MT_PTPCFG, to a port in Ethernet mode, is stored and restarts PTP (R347). -/
theorem State.pageWrite_ptpcfg {s : State} {data : Nat} (hs : s.Serves .ref 0) (hdata : data < 2 ^ 17) (hmode : s.portMode (bits data 6 0) = 1)
    (hold : s.reg .ref 0 0x410 < 2 ^ 17) : s.pageWrite .ref 0 0x410 data = s.ptpWritten (s.reg .ref 0 0x410) data :=
  State.pageWrite_whole hs (by decide) (by decide)
    (show findReg .ref 0x410 = some (⟨0x410, 1, 0, [⟨16, 16, .rw, 0⟩, ⟨15, 8, .rw, 0⟩, ⟨7, 7, .rw, 0⟩, ⟨6, 0, .rw, 0⟩]⟩, 0) from rfl)
    (fun _ => rfl) (by simp [State.reserved, State.reservedRef, hmode]) (by decide) rfl hold hdata

/-- What a write of COL_LAST does (R409). -/
theorem State.pageWrite_colLast {s : State} {data : Nat} (hs : s.Serves .coll 0) (hdata : data < 2 ^ 64) :
    s.pageWrite .coll 0 0x108 data = if s.coll.slots.isEmpty && s.coll.held.isEmpty && s.coll.queued.isEmpty
      then { s with coll.last := data, coll.ended := [] } else s.refuse .coll 0 0x108 :=
  State.pageWrite_whole hs (by decide) (by decide) (show findReg .coll 0x108 = some (⟨0x108, 1, 0, [⟨63, 0, .rw, 0⟩]⟩, 0) from rfl)
    (fun _ => rfl) (fun _ _ => rfl) le_rfl rfl (Nat.mod_lt _ (by decide)) hdata

theorem exec_pntCscfgWrite_eq (data : Nat) (s : State) :
    exec (.pntCscfgWrite data) s = s.answer { touchTake with pnt := true } (s.pageWrite .pnt 0 0x100 data) := rfl

theorem exec_tmGateCtrlWrite_eq (n data : Nat) (s : State) :
    exec (.tmGateCtrlWrite n data) s = s.answer { touchTake with ports := true } (s.pageWrite .port n 0x580 data) := rfl

theorem exec_mtPtpcfgWrite_eq (data : Nat) (s : State) :
    exec (.mtPtpcfgWrite data) s = s.answer { touchTake with time := true } (s.pageWrite .ref 0 0x410 data) := rfl

theorem exec_colLastWrite_eq (data : Nat) (s : State) :
    exec (.colLastWrite data) s = s.answer { touchTake with coll := true } (s.pageWrite .coll 0 0x108 data) := rfl

/-- Settles O25: each write is what the register's own action makes of its fields, since every encoding written is legal. -/
theorem pantryGatePtpAndOrderRegisters : Obligations.PantryGatePtpAndOrderRegisters := by
  refine ⟨fun s data hs _ hspill => ⟨fun hoff hon hok => ?on, fun hoff hon hbad => ?illegal, fun hon hoff hbufs => ?inUse⟩, ?gate, ?ptp, ?order⟩
  case on =>
    obtain ⟨v, hv, hw⟩ := State.cscfg_on hs hspill hoff hon hok
    refine ⟨_, (exec_pntCscfgWrite_eq data s).trans (State.answer_eq ..), ?_⟩
    rw [hw]
    refine ⟨rfl, rfl, rfl, (s.bit_stored (by decide) (by decide)).trans (by rw [hv]; rfl), OnlyIn.keep ?_ _⟩
    simp [OnlyIn, FencesKept, State.pantryOn]
  case illegal =>
    obtain ⟨v, hv, hw⟩ := State.cscfg_illegal hs hspill hoff hon hbad
    obtain ⟨hpnt, hen, herr⟩ := s.cscfg_refused v
    refine ⟨_, (exec_pntCscfgWrite_eq data s).trans (State.answer_eq ..), ?_⟩
    rw [hw]
    exact ⟨hpnt, hen.trans (by rw [hv]; rfl), herr⟩
  case inUse =>
    obtain ⟨v, hv, hw⟩ := State.cscfg_inUse hs hspill hon hoff hbufs
    obtain ⟨hpnt, hen, herr⟩ := s.cscfg_refused v
    refine ⟨_, (exec_pntCscfgWrite_eq data s).trans (State.answer_eq ..), ?_⟩
    rw [hw]
    exact ⟨hpnt, hen.trans (by rw [hv]; rfl), herr⟩
  case gate =>
    intro s n data hs _ hchange hnone h1 h64 hcycle
    obtain ⟨v, hw⟩ := State.pageWrite_change hs hchange hnone ⟨h1, h64⟩
    obtain ⟨hafter, hbase, hstart⟩ := State.changeTime_spec hcycle
    refine ⟨_, s.changeTime n, (exec_tmGateCtrlWrite_eq n data s).trans (State.answer_eq ..), ?_⟩
    rw [hw]
    have hport : ∀ t : State, (s.keep { touchTake with ports := true } (t.setPort n (s.changing n))).port n = s.changing n :=
      fun t => State.port_setPort n (s.changing n) t
    rw [hport]
    refine ⟨?_, rfl, hafter, hbase, hstart, rfl, fun m hm => State.port_setPort_other n m _ _ hm⟩
    refine (congrArg (Nat.testBit · 1) (State.reg_setReg_mod _ .port n 0x580 _ hs.lt_count)).trans ?_
    rw [Nat.testBit_mod_two_pow, setBit, Nat.testBit_or, Nat.testBit_two_pow_self]
    simp
  case ptp =>
    intro s data hs hdata hmode hne hold
    refine ⟨_, (exec_mtPtpcfgWrite_eq data s).trans (State.answer_eq ..), ?_⟩
    rw [State.pageWrite_ptpcfg hs hdata hmode hold, State.ptpWritten, if_neg hne.symm]
    exact ⟨s.reg_stored .ref 0 0x410 data hs.lt_count (by omega), rfl, OnlyIn.keep (by simp [OnlyIn, FencesKept]) _⟩
  case order =>
    intro s data hs hdata
    refine ⟨fun hslots hheld hqueued => ?_, fun hbusy => ⟨_, (exec_colLastWrite_eq data s).trans (State.answer_eq ..), ?_⟩⟩
    · rw [exec_colLastWrite_eq, State.pageWrite_colLast hs hdata, hslots, hheld, hqueued]
      rfl
    · rw [State.pageWrite_colLast hs hdata, if_neg (by simp only [Bool.and_eq_true, List.isEmpty_iff]; tauto)]
      exact ⟨State.raise_coll .., State.raise_errSet _ _ _ _ _ _ _ _ (by decide)⟩

end Sys2Proof.Machine
end

section
/-! PROOFS. What the central store's operations and the sending of packets on Rally links leave alone (`State.Sends`): ports, frames and lookup
tables, the clocks and module time, collectives, the journal, what Rally keeps besides its links, error bits once set, and every register but those
of an error and two counts of Pantry's page. -/

namespace Sys2Proof.Machine

/-- What Rally keeps besides its links. -/
def Rly.unlinked (r : Rly) : Rly := { r with links := [] }

/-- The parts of the state that storing in the central store leaves alone, and, but for the bytes queued to outputs, sending on Rally links too. -/
def State.unsent (sent : Bool) (s : State) : Sparse Port × Sw × Time × Clk × Coll × Jnl × Rly × Sparse Nat × List (Nat × List (BitVec 8) × Bool) :=
  (s.ports, s.sw, s.time, s.clk, s.coll, s.jnl, s.rly.unlinked, if sent then [] else s.pnt.outBytes, s.out.frames)

/-- The registers that these operations may change: those of an error, and the counts of bad returns and of refused packets (R304, R307). -/
def sendOffs : List Nat := errOffs ++ [0xA8, 0xB8]

/-- Nothing else differs, and no error bit is lost. -/
structure State.Sends (sent : Bool) (s t : State) : Prop where
  parts : t.unsent sent = s.unsent sent
  errs : s.KeepsErrs t
  regs : ∀ (p : Page) (i o : Nat), o < 0x1000 → o ∉ sendOffs → t.reg p i o = s.reg p i o

namespace State.Sends
variable {sent : Bool} {s t u : State}

theorem ports (h : s.Sends sent t) : t.ports = s.ports := congrArg (·.1) h.parts
theorem sw (h : s.Sends sent t) : t.sw = s.sw := congrArg (·.2.1) h.parts
theorem time (h : s.Sends sent t) : t.time = s.time := congrArg (·.2.2.1) h.parts
theorem clk (h : s.Sends sent t) : t.clk = s.clk := congrArg (·.2.2.2.1) h.parts
theorem coll (h : s.Sends sent t) : t.coll = s.coll := congrArg (·.2.2.2.2.1) h.parts
theorem jnl (h : s.Sends sent t) : t.jnl = s.jnl := congrArg (·.2.2.2.2.2.1) h.parts
theorem rly (h : s.Sends sent t) : t.rly.unlinked = s.rly.unlinked := congrArg (·.2.2.2.2.2.2.1) h.parts
theorem outBytes (h : s.Sends false t) : t.pnt.outBytes = s.pnt.outBytes := congrArg (·.2.2.2.2.2.2.2.1) h.parts
theorem frames (h : s.Sends sent t) : t.out.frames = s.out.frames := congrArg (·.2.2.2.2.2.2.2.2) h.parts

theorem port (h : s.Sends sent t) (n : Nat) : t.port n = s.port n := by rw [State.port, h.ports]; rfl

theorem trans (h : s.Sends sent t) (k : t.Sends sent u) : s.Sends sent u where
  parts := k.parts.trans h.parts
  errs := h.errs.trans k.errs
  regs p i o ho hoff := (k.regs p i o ho hoff).trans (h.regs p i o ho hoff)

/-- A change of other parts of the state. -/
theorem of_parts (regs : t.regs = s.regs) (parts : t.unsent sent = s.unsent sent) : s.Sends sent t :=
  ⟨parts, .of_regs regs, fun _ _ _ _ _ => State.reg_congr _ _ _ _ _ regs⟩

theorem refl (s : State) : s.Sends sent s := .of_parts rfl rfl

/-- A step taken after a change of other parts of the state. -/
theorem after (h : t.Sends sent u) (regs : t.regs = s.regs) (parts : t.unsent sent = s.unsent sent) : s.Sends sent u := (State.Sends.of_parts regs parts).trans h

theorem useFree (s : State) : s.Sends sent s.useFree := .of_parts rfl rfl

/-- A fold of such steps. -/
theorem foldl {α : Type} {f : State → α → State} (h : ∀ (t : State) (a : α), t.Sends sent (f t a)) (l : List α) (s : State) : s.Sends sent (l.foldl f s) :=
  List.foldlRecOn (motive := s.Sends sent) l f (.refl s) fun t ht a _ => ht.trans (h t a)

theorem raise (s : State) (p : Page) (i b tag i0 i1 i2 : Nat) : s.Sends sent (s.raise p i b tag i0 i1 i2) :=
  ⟨by simp [State.unsent], .raise s p i b tag i0 i1 i2,
    fun _ _ _ ho hoff => State.raise_reg_off _ _ _ _ _ _ _ _ _ _ _ ho fun h => hoff (List.mem_append_left _ h)⟩

/-! ### The central store -/

theorem touchPage (s : State) (pg : Nat) : s.Sends sent (s.touchPage pg) := by
  unfold State.touchPage
  split
  · exact .refl s
  · split <;> exact .of_parts rfl rfl

theorem touchBufs (s : State) (qs : List Nat) : s.Sends sent (s.touchBufs qs) := .foldl (fun t _ => .touchPage t _) qs s

theorem outPages (s : State) (pgs : List Nat) : s.Sends sent (s.outPages pgs) := by
  refine .foldl (fun t pg => ?_) pgs s
  split
  · exact .refl t
  · split <;> exact .of_parts rfl rfl

theorem pageWork (s : State) : s.Sends sent s.pageWork := by
  unfold State.pageWork
  split
  · exact .refl s
  · extract_lets cands t
    have ht : s.Sends sent t := (State.Sends.useFree s).trans (.outPages _ _)
    exact ht.trans (.of_parts rfl rfl)

theorem enterPage (s : State) (pg : Nat) : s.Sends sent (s.enterPage pg) := by
  unfold State.enterPage
  split
  · exact .after (.pageWork _) rfl rfl
  · exact .touchPage s pg

theorem sendPause (s : State) (n c q : Nat) : s.Sends sent (s.sendPause n c q) := by
  unfold State.sendPause
  split
  · exact .of_parts rfl rfl
  · exact .refl s

theorem pfcPort (c : Nat) (s : State) (n : Nat) : s.Sends sent (s.pfcPort c n) := by
  unfold State.pfcPort
  dsimp only
  split
  · exact .after (.sendPause _ _ _ _) rfl rfl
  · split
    · exact .after (.sendPause _ _ _ _) rfl rfl
    · exact .refl s

theorem noteLevels (s : State) (c : Nat) : s.Sends sent (s.noteLevels c) := by
  refine .foldl (fun _ _ => ?_) _ s
  exact .of_parts rfl rfl

theorem compareClass (s : State) (c : Nat) : s.Sends sent (s.compareClass c) := by
  have hnoted := State.Sends.noteLevels (sent := sent) s c
  unfold State.compareClass
  dsimp only
  split
  · exact hnoted.trans (.after (.foldl (.pfcPort c) _ _) rfl rfl)
  · split
    · exact hnoted.trans (.of_parts rfl rfl)
    · exact hnoted.trans (.of_parts rfl rfl)

theorem alloc {c p q : Nat} {port : Option Nat} (h : s.alloc c p port = some (q, t)) : s.Sends sent t := by
  unfold State.alloc at h
  split at h
  · exact absurd h.symm (Option.some_ne_none _)
  split at h
  · exact absurd h.symm (Option.some_ne_none _)
  next a _ =>
    obtain ⟨-, rfl⟩ := Prod.mk.inj (Option.some.inj h)
    have hpage : s.Sends sent (s.useFree.enterPage (pageOfPtr a)) := (State.Sends.useFree s).trans (.enterPage _ _)
    generalize s.useFree.enterPage (pageOfPtr a) = u at hpage
    exact hpage.trans (.after (.compareClass _ _) rfl rfl)

/-- An error of the central store, counted as a bad return or a refused packet. -/
theorem pntErr_counted (s : State) (bit info addr : Nat) {k : Nat} (hk : k = 5 ∨ k = 7) (n : Nat) :
    s.Sends sent ((s.pntErr bit info addr).evtAdd .pnt 0 k n) := by
  have herr : s.Sends sent (s.pntErr bit info addr) := .raise ..
  refine herr.trans ⟨rfl, .evtAdd _ _ _ _ _ (by omega), fun p i o ho hoff => State.reg_setReg_off _ _ _ _ _ _ _ _ (by omega) ho ?_⟩
  rintro rfl
  obtain rfl | rfl := hk <;> exact hoff (by decide)

theorem freeBuf (unit pool : Nat) (s : State) (q : Nat) : s.Sends sent (s.freeBuf unit pool q) := by
  unfold State.freeBuf
  dsimp only
  split
  · exact .pntErr_counted s _ _ _ (.inl rfl) _
  split
  · exact .pntErr_counted s _ _ _ (.inl rfl) _
  split
  · exact .pntErr_counted s _ _ _ (.inl rfl) _
  · exact .after (.compareClass _ _) rfl rfl

theorem freeBufs (unit : Nat) (qs : List Nat) (s : State) : s.Sends sent (s.freeBufs unit qs) := .foldl (fun t _ => .freeBuf _ _ t _) qs s

theorem overrun (unit c p : Nat) (s : State) : s.Sends sent (s.overrun unit c p) := by
  unfold State.overrun
  exact .pntErr_counted s _ _ _ (.inr rfl) _

/-! ### Rally links -/

theorem sendHeld (s : State) (n type : Nat) (bad isEnd : Bool) (epoch ack : Nat) (content : List Byte) :
    s.Sends true (s.sendHeld n type bad isEnd epoch ack content) := .of_parts rfl rfl

theorem putControl (s : State) (n kind ack : Nat) : s.Sends true (s.putControl n kind ack) := by
  unfold State.putControl
  exact .after (.sendHeld _ _ _ _ _ _ _ _) rfl rfl

theorem flushControl (n fuel : Nat) (s : State) : s.Sends true (s.flushControl n fuel) := by
  induction fuel generalizing s with
  | zero => exact .refl s
  | succ fuel ih =>
    unfold State.flushControl
    dsimp only
    split
    · exact .refl s
    split
    · exact .trans (.after (.putControl (s.setLink n _) n _ _) rfl rfl) (ih _)
    · exact .refl s

theorem flushLane (n : Nat) (s : State) (lane : Nat) : s.Sends true (s.flushLane n lane) := by
  unfold State.flushLane
  dsimp only
  split
  · exact .refl s
  · refine .after (.foldl (fun _ _ => ?_) _ (s.setLink n _)) rfl rfl
    exact .of_parts rfl rfl

theorem returnCredits (s : State) (k : Pkt) : s.Sends true (s.returnCredits k) := by
  unfold State.returnCredits
  split
  · exact .refl s
  · next n _ => exact .after (.flushLane _ (s.setLink n _) _) rfl rfl

theorem sendPacket (s : State) (n : Nat) (k : Pkt) : s.Sends true (s.sendPacket n k) := by
  unfold State.sendPacket
  dsimp only
  exact .after (.foldl (fun t i => .sendHeld ..) _ _) rfl rfl

theorem freePkt (s : State) (k : Pkt) : s.Sends true (s.freePkt k) := .freeBufs _ _ _

theorem askHeads (s : State) (n : Nat) : s.Sends true (s.askHeads n) := by
  refine .foldl (fun t q => ?_) _ s
  split
  · split
    · exact .refl t
    · exact .touchBufs t _
  · exact .refl t

theorem pump (n fuel : Nat) (s : State) : s.Sends true (s.pump n fuel) := by
  induction fuel generalizing s with
  | zero => exact .refl s
  | succ fuel ih =>
    unfold State.pump
    split
    · exact .refl s
    extract_lets s0 lane
    have h0 : s.Sends true s0 := by
      simp only [s0]
      split
      · exact .refl s
      · exact .useFree s
    split
    · exact h0
    next p rest _ =>
      extract_lets k s1 s2
      have h2 : s.Sends true s2 := h0.trans (.of_parts rfl rfl)
      exact ((((h2.trans (.touchBufs _ _)).trans (.sendPacket _ _ _)).trans (.freePkt _ _)).trans (.returnCredits _ _)).trans (ih _)

theorem pumpPort (s : State) (n : Nat) : s.Sends true (s.pumpPort n) :=
  ((State.Sends.flushControl n _ s).trans (.askHeads _ n)).trans (.pump n _ _)

theorem pumpAll (s : State) : s.Sends true s.pumpAll :=
  .foldl (fun t n => (State.Sends.foldl (.flushLane n) _ t).trans (.pumpPort _ n)) _ s

end State.Sends
end Sys2Proof.Machine
end

section
/-! PROOFS. The traffic manager's and the clock's own events: the age check, shapers, gate schedules, PFC, the time step and PTP (R309, R313, R329
to R334, R341 to R347). -/

namespace Sys2Proof.Machine

/-! ### Bits and registers -/

theorem testBit_clearBit (n k j : Nat) : (clearBit n k).testBit j = if j = k then false else n.testBit j := by
  have hset : clearBit n k = setBits n k k 0 := by
    unfold clearBit setBits
    rw [bits_one_bit, bitOn]
    cases n.testBit k <;> simp [b2n]
  rw [hset, testBit_setBits]
  simp

/-- A bit of a register just stored, of any page and index. -/
theorem State.testBit_reg_setReg (s : State) (p : Page) (i off v : Nat) {k : Nat} (hk : k < 64) :
    ((s.setReg p i off v).reg p i off).testBit k = v.testBit k := by
  simp only [State.reg, State.setReg, Sparse.get_set_same, BitVec.toNat_ofNat, Nat.testBit_xor, Nat.testBit_mod_two_pow, hk, decide_true,
    Bool.true_and, Bool.xor_assoc, Bool.xor_self, Bool.xor_false]

/-! ### Deficits -/

/-- A port with only its deficits changed. -/
theorem State.keepDeficits_port (s : State) (n : Nat) : ∃ d, (s.keepDeficits n).port n = { s.port n with deficit := d } :=
  ⟨_, State.port_setPort ..⟩

theorem State.keepDeficits_port_other (s : State) {n m : Nat} (h : m ≠ n) : (s.keepDeficits n).port m = s.port m := State.port_setPort_other _ _ _ _ h

theorem State.keepDeficits_gate (s : State) (n : Nat) : ((s.keepDeficits n).port n).gate = (s.port n).gate := by
  obtain ⟨d, hd⟩ := s.keepDeficits_port n
  rw [hd]

/-! ### Ageing (R313) -/

/-- Of port `n` the queues, but for those of the classes `cs`, the gates and pauses stay, and so do module time and every register of a unit. -/
structure State.Ages (cs : List Nat) (n : Nat) (s t : State) : Prop where
  queue : ∀ c ∉ cs, (t.port n).queue c = (s.port n).queue c
  gate : (t.port n).gate = (s.port n).gate
  paused : (t.port n).paused = (s.port n).paused
  time : t.time = s.time
  regs : ∀ (p : Page) (i o : Nat), 0xC0 ≤ o → o < 0x1000 → t.reg p i o = s.reg p i o

namespace State.Ages
variable {cs : List Nat} {n : Nat} {s t u : State}

theorem trans (h : s.Ages cs n t) (k : t.Ages cs n u) : s.Ages cs n u where
  queue c hc := (k.queue c hc).trans (h.queue c hc)
  gate := k.gate.trans h.gate
  paused := k.paused.trans h.paused
  time := k.time.trans h.time
  regs p i o h1 h2 := (k.regs p i o h1 h2).trans (h.regs p i o h1 h2)

/-- The port itself stays. -/
theorem of_port (port : t.port n = s.port n) (time : t.time = s.time)
    (regs : ∀ (p : Page) (i o : Nat), 0xC0 ≤ o → o < 0x1000 → t.reg p i o = s.reg p i o) : s.Ages cs n t :=
  ⟨fun _ _ => by rw [port], by rw [port], by rw [port], time, regs⟩

theorem of_parts (ports : t.ports = s.ports) (time : t.time = s.time) (regs : t.regs = s.regs) : s.Ages cs n t :=
  .of_port (by rw [State.port, ports]; rfl) time fun _ _ _ _ _ => State.reg_congr _ _ _ _ _ regs

theorem refl (s : State) : s.Ages cs n s := .of_parts rfl rfl rfl

theorem mono {ds : List Nat} (h : s.Ages cs n t) (hd : cs ⊆ ds) : s.Ages ds n t := { h with queue := fun c hc => h.queue c fun hm => hc (hd hm) }

theorem of_sends {sent : Bool} (h : s.Sends sent t) : s.Ages cs n t :=
  .of_port (h.port n) h.time fun p i o h1 h2 => h.regs p i o h2 fun hm => by
    have : ∀ x ∈ sendOffs, x < 0xC0 := by decide
    exact absurd h1 (Nat.not_le.mpr (this o hm))

theorem evtAdd (s : State) (p : Page) (i k m : Nat) (hk : k < 8) : s.Ages cs n (s.evtAdd p i k m) :=
  .of_port rfl rfl fun _ _ _ h1 h2 => State.reg_setReg_off _ _ _ _ _ _ _ _ (by omega) h2 (by omega)

/-- A port with another frame being received. -/
theorem setRx (s : State) (m : Nat) (rx : Option Nat) : s.Ages cs n (s.setPort m { s.port m with rx := rx }) := by
  by_cases h : n = m
  · subst h
    exact ⟨fun _ _ => by rw [State.port_setPort]; rfl, by rw [State.port_setPort], by rw [State.port_setPort], rfl, fun _ _ _ _ _ => rfl⟩
  · exact .of_port (State.port_setPort_other _ _ _ _ h) rfl fun _ _ _ _ _ => rfl

theorem keepDeficits (s : State) (n : Nat) : s.Ages cs n (s.keepDeficits n) := by
  obtain ⟨d, hd⟩ := s.keepDeficits_port n
  exact ⟨fun _ _ => by rw [hd]; rfl, by rw [hd], by rw [hd], rfl, fun _ _ _ _ _ => rfl⟩

theorem onFrame (s : State) (id : Nat) (g : Frame → Frame) : s.Ages cs n (s.onFrame id g) := by
  unfold State.onFrame
  split
  · exact .of_parts rfl rfl rfl
  · exact .refl s

theorem swallow (s : State) (f : Frame) : s.Ages cs n (s.swallow f) := by
  unfold State.swallow
  split
  · exact .refl s
  split
  · exact .setRx s _ _
  · exact .refl s

theorem removeFrame (s : State) (f : Frame) : s.Ages cs n (s.removeFrame f) := by
  unfold State.removeFrame
  refine .trans (.trans ?_ (.swallow _ f)) (.of_sends (.freeBufs (sent := true) _ _ _))
  exact .of_parts rfl rfl rfl

theorem reap (s : State) (id : Nat) : s.Ages cs n (s.reap id) := by
  unfold State.reap
  split
  · split
    · exact .refl s
    · exact .removeFrame s _
  · exact .refl s

end State.Ages

theorem State.Sends.prefetch {sent : Bool} (s : State) (n c : Nat) : s.Sends sent (s.prefetch n c) := by
  refine .foldl (fun t k => ?_) _ s
  split
  · refine .foldl (fun t q => ?_) _ t
    split
    · exact .refl t
    · exact .touchPage t _
  · exact .refl t

theorem Port.queue_setQueue (x : Port) (c : Nat) (q : List Copy) : (x.setQueue c q).queue c = q := Sparse.get_set_same ..

theorem Port.queue_setQueue_other (x : Port) {c d : Nat} (h : d ≠ c) (q : List Copy) : (x.setQueue c q).queue d = x.queue d :=
  Sparse.get_set_other _ _ _ _ _ h

/-- The head copy of a queue leaves it. -/
theorem State.dequeue_ages (s : State) (n c : Nat) (k : Copy) :
    s.Ages [c] n (s.dequeue n c k) ∧ ((s.dequeue n c k).port n).queue c = ((s.port n).queue c).tail := by
  let s1 := s.setPort n ((s.port n).setQueue c ((s.port n).queue c).tail)
  have hport : s1.port n = (s.port n).setQueue c ((s.port n).queue c).tail := State.port_setPort ..
  have h1 : s.Ages [c] n s1 :=
    ⟨fun d hd => by rw [hport, Port.queue_setQueue_other _ (by simpa using hd)], by rw [hport]; rfl, by rw [hport]; rfl, rfl, fun _ _ _ _ _ => rfl⟩
  have h2 : ∀ ds, s1.Ages ds n (s.dequeue n c k) := fun ds => by
    refine .trans ?_ (.onFrame _ _ _)
    exact .of_parts rfl rfl rfl
  exact ⟨h1.trans (h2 _), ((h2 []).queue c List.not_mem_nil).trans (by rw [hport, Port.queue_setQueue])⟩

/-- A copy aged out is the head of its queue. -/
theorem State.ageOut_ages (s : State) (n c : Nat) (k : Copy) :
    s.Ages [c] n (s.ageOut n c k) ∧ ((s.ageOut n c k).port n).queue c = ((s.port n).queue c).tail := by
  obtain ⟨h1, hq⟩ := s.dequeue_ages n c k
  have h2 : ∀ ds, (s.dequeue n c k).Ages ds n (s.ageOut n c k) := fun ds =>
    ((State.Ages.of_sends (.prefetch (sent := true) _ n c)).trans (.evtAdd _ _ _ _ _ (by decide))).trans (.reap _ _)
  exact ⟨h1.trans (h2 _), ((h2 []).queue c List.not_mem_nil).trans hq⟩

/-- What the age check leaves of a class's queue. -/
def State.agedQueue (s : State) (n c : Nat) : List Copy :=
  match (s.port n).queue c with
  | [] => []
  | k :: tl => if (s.gateBit n c = false ∨ (s.port n).paused.testBit c = true) ∧ s.aged k = true then tl else k :: tl

/-- What it leaves depends on nothing that changes. -/
theorem State.Ages.agedQueue {cs : List Nat} {n c : Nat} {s t : State} (h : s.Ages cs n t) (hc : c ∉ cs) : t.agedQueue n c = s.agedQueue n c := by
  have hgate : t.gateBit n c = s.gateBit n c := by
    rw [State.gateBit, State.gateBit, h.gate, State.gateEn, State.gateEn, State.fld, State.fld, h.regs _ _ _ (by decide) (by decide)]
  have haged : ∀ k, t.aged k = s.aged k := by
    intro k
    unfold State.aged
    by_cases hk : k.cls < 8
    · rw [State.fld, State.fld, h.regs _ _ _ (by omega) (by omega), h.time]
    · simp [hk]
  simp only [State.agedQueue, h.queue c hc, hgate, haged, h.paused]

/-- The age check of one class. -/
def State.ageClass (n : Nat) (s : State) (c : Nat) : State :=
  if !bitOn (s.port n).paused c && s.gateBit n c then s
  else match (s.port n).queue c with
    | k :: _ => if s.aged k then s.ageOut n c k else s
    | [] => s

theorem State.ageCheck_eq (n : Nat) (s : State) : s.ageCheck n = State.keepDeficits n ((List.range 8).foldl (State.ageClass n) s) := rfl

theorem State.agedQueue_cons {s : State} {n c : Nat} {k : Copy} {tl : List Copy} (h : (s.port n).queue c = k :: tl) : s.agedQueue n c =
    if (s.gateBit n c = false ∨ (s.port n).paused.testBit c = true) ∧ s.aged k = true then tl else k :: tl := by rw [State.agedQueue, h]

theorem State.agedQueue_nil {s : State} {n c : Nat} (h : (s.port n).queue c = []) : s.agedQueue n c = [] := by rw [State.agedQueue, h]

theorem State.agedQueue_open {s : State} {n c : Nat} (h : ¬ (s.gateBit n c = false ∨ (s.port n).paused.testBit c = true)) :
    s.agedQueue n c = (s.port n).queue c := by
  cases hq : (s.port n).queue c with
  | nil => exact State.agedQueue_nil hq
  | cons k tl => rw [State.agedQueue_cons hq, if_neg fun hk => h hk.1]

theorem State.ageClass_spec (n : Nat) (s : State) (c : Nat) :
    s.Ages [c] n (s.ageClass n c) ∧ ((s.ageClass n c).port n).queue c = s.agedQueue n c := by
  have hopen : (!bitOn (s.port n).paused c && s.gateBit n c) = true ↔ ¬ (s.gateBit n c = false ∨ (s.port n).paused.testBit c = true) := by
    rw [bitOn]
    cases s.gateBit n c <;> cases (s.port n).paused.testBit c <;> decide
  unfold State.ageClass
  split
  · next h => exact ⟨.refl s, (State.agedQueue_open (hopen.mp h)).symm⟩
  next h =>
  have hshut := not_not.mp (mt hopen.mpr h)
  split
  · next k tl hq =>
    rw [State.agedQueue_cons hq]
    split
    · next haged =>
      obtain ⟨hages, hqueue⟩ := s.ageOut_ages n c k
      exact ⟨hages, by rw [hqueue, hq, if_pos ⟨hshut, haged⟩]; rfl⟩
    · next hyoung => exact ⟨.refl s, by rw [if_neg fun h => hyoung h.2, hq]⟩
  · next hq => exact ⟨.refl s, hq.trans (State.agedQueue_nil hq).symm⟩

/-- The classes checked one after another: what one leaves stays. -/
theorem State.ageClasses (n : Nat) (l : List Nat) (s : State) : s.Ages l n (l.foldl (State.ageClass n) s) := by
  induction l generalizing s with
  | nil => exact .refl s
  | cons c l ih =>
    exact ((s.ageClass_spec n c).1.mono (by simp)).trans ((ih _).mono (by simp))

theorem State.ageCheck_queue (s : State) (n : Nat) {c : Nat} (hc : c < 8) : (((s.ageCheck n).pumpAll).port n).queue c = s.agedQueue n c := by
  obtain ⟨l, r, hsplit⟩ := List.append_of_mem (List.mem_range.mpr hc)
  have hnodup := hsplit ▸ List.nodup_range (n := 8)
  obtain ⟨hl, hr⟩ : c ∉ l ∧ c ∉ r := by
    rw [List.nodup_middle, List.nodup_cons, List.mem_append, not_or] at hnodup
    exact hnodup.1
  let s1 := l.foldl (State.ageClass n) s
  have hrest : (s1.ageClass n c).Ages r n ((s.ageCheck n).pumpAll) := by
    rw [State.ageCheck_eq, hsplit, List.foldl_append, List.foldl_cons]
    exact ((State.ageClasses n r _).trans (.keepDeficits _ n)).trans (.of_sends (.pumpAll _))
  rw [hrest.queue c hr, (s1.ageClass_spec n c).2, (s.ageClasses n l).agedQueue hl]

/-! ### Shapers (R333, R334) -/

/-- A table stored at each key of a list, whose keys differ. -/
theorem Sparse.get_foldl_set {α : Type} [DecidableEq α] (d : α) (f : Nat → α) {l : List Nat} {k : Nat} (hk : k ∈ l) (m : Sparse α) :
    Sparse.get d (l.foldl (fun m c => Sparse.set d m c (f c)) m) k = f k := by
  have hlater : ∀ (l : List Nat) (m : Sparse α), Sparse.get d m k = f k → Sparse.get d (l.foldl (fun m c => Sparse.set d m c (f c)) m) k = f k := by
    intro l
    induction l with
    | nil => exact fun _ h => h
    | cons c l ih =>
      refine fun m h => ih _ ?_
      by_cases hc : k = c
      · rw [hc, Sparse.get_set_same]
      · rw [Sparse.get_set_other _ _ _ _ _ hc, h]
  induction l generalizing m with
  | nil => exact absurd hk List.not_mem_nil
  | cons c l ih =>
    rcases List.mem_cons.mp hk with rfl | hk
    · exact hlater l _ (Sparse.get_set_same ..)
    · exact ih hk _

/-- What a refill leaves of the port. -/
theorem State.refill_port (s : State) (n : Nat) {c : Nat} (hc : c < 8) :
    ((s.refill n).port n).refillNs = s.fld .port n 0x510 16 0 ∧
      ((s.refill n).port n).shaper c = ((s.port n).shaper c).refill (s.reg .port n (0x540 + 8 * c)) (s.port n).refillNs := by
  rw [State.refill, State.port_setPort]
  exact ⟨rfl, Sparse.get_foldl_set {} (fun c => ((s.port n).shaper c).refill (s.reg .port n (0x540 + 8 * c)) (s.port n).refillNs)
    (List.mem_range.mpr hc) _⟩

/-- A shaper whose charge is settled. -/
theorem Shaper.refill_settled (h : Shaper) (v ns : Nat) (ho : h.owing = false) :
    h.refill v ns = {
      en := v.testBit 63, rate := bits v 55 26, burst := bits v 23 0
      tokens := if v.testBit 63 = true ∧ h.en = false then min ((bits v 23 0 * 8000000 : Nat) : Int) (bits v 55 26 * ns : Nat)
        else min ((bits v 23 0 * 8000000 : Nat) : Int) (h.tokens + if v.testBit 63 then ((bits v 55 26 * ns : Nat) : Int) else 0) } := by
  unfold Shaper.refill bitOn byteUnits
  cases v.testBit 63 <;> cases h.en <;> simp [ho]

/-- A shaper that still owes a copy's charge. -/
theorem Shaper.refill_owing (h : Shaper) (v ns : Nat) (ho : h.owing = true) (he : h.en = true) :
    h.refill v ns = {
      en := v.testBit 63, rate := bits v 55 26, burst := bits v 23 0, owing := true
      tokens := h.tokens + if v.testBit 63 then ((bits v 55 26 * ns : Nat) : Int) else 0
      most := some (match h.most with
        | some m => min ((bits v 23 0 * 8000000 : Nat) : Int) (m + if v.testBit 63 then ((bits v 55 26 * ns : Nat) : Int) else 0)
        | none => ((bits v 23 0 * 8000000 : Nat) : Int)) } := by
  unfold Shaper.refill bitOn byteUnits
  cases v.testBit 63 <;> cases h.most <;> simp [ho, he]

/-! ### Gate schedules (R329 to R332) -/

/-- A gate replaced, and the deficits of classes that lose their turn. -/
theorem State.keepDeficits_setGate (s : State) (n : Nat) (g : Gate) :
    (((s.setPort n { s.port n with gate := g }).keepDeficits n).port n).gate = g := by
  rw [State.keepDeficits_gate, State.port_setPort]

theorem State.gateEvent_eq (n : Nat) (s : State) : s.gateEvent n = ((s.keepDeficits n).gateChange n).keepDeficits n := rfl

section gateEvent
variable {s : State} {n : Nat}

/-- With a replacement due the list programmed is in force from its time on (R331). -/
theorem State.gateEvent_replaces {at' : Nat} (hc : (s.port n).gate.changeAt = some at') (hdue : at' ≤ s.time.now) :
    ((s.gateEvent n).reg .port n 0x580).testBit 1 = false ∧ ((s.gateEvent n).port n).gate = { (s.port n).gate with
      oper := s.adminList n, base := s.reg .port n 0x588, cycle := s.fld .port n 0x590 31 0, entry := 0, start := at', closed := false
      changeAt := none } := by
  have hstep : (s.keepDeficits n).gateChange n = (s.keepDeficits n).gateReplace n at' := by
    rw [State.gateChange, State.keepDeficits_gate, hc]
    exact if_pos hdue
  rw [State.gateEvent_eq, hstep]
  constructor
  · refine (State.testBit_reg_setReg _ _ _ _ _ (by decide)).trans ?_
    rw [testBit_clearBit, if_pos rfl]
  · rw [State.keepDeficits_gate]
    exact congrArg Port.gate (State.port_setPort ..)

/-- Without a change pending the event looks at the current entry alone. -/
theorem State.gateEvent_steps (hc : (s.port n).gate.changeAt = none) {g : Gate}
    (hg : ∀ put : Gate → State, State.gateChange.step' (s.keepDeficits n) (s.port n).gate put = put g) :
    ((s.gateEvent n).port n).gate = g ∧ (∀ m, m ≠ n → (s.gateEvent n).port m = s.port m) ∧ (s.gateEvent n).regs = s.regs := by
  have hstep : (s.keepDeficits n).gateChange n = (s.keepDeficits n).setPort n { (s.keepDeficits n).port n with gate := g } := by
    rw [State.gateChange, State.keepDeficits_gate, hc]
    exact hg _
  rw [State.gateEvent_eq, hstep]
  refine ⟨State.keepDeficits_setGate _ _ _, fun m hm => ?_, rfl⟩
  rw [State.keepDeficits_port_other _ hm, State.port_setPort_other _ _ _ _ hm, State.keepDeficits_port_other _ hm]

/-- The next entry begins when the current one has ended (R329). -/
theorem State.gateEvent_next (hc : (s.port n).gate.changeAt = none) (hoper : (s.port n).gate.oper ≠ []) (hopen : (s.port n).gate.closed = false)
    (hended : (s.port n).gate.entryEnd ≤ s.time.now) : ((s.gateEvent n).port n).gate = { (s.port n).gate with
      entry := if (s.port n).gate.entryEnd = (s.port n).gate.cycleStart + (s.port n).gate.cycle then 0 else (s.port n).gate.entry + 1
      start := (s.port n).gate.entryEnd } := by
  refine (State.gateEvent_steps hc fun put => ?_).1
  have hnow : ¬ (s.keepDeficits n).time.now < (s.port n).gate.entryEnd := Nat.not_lt.mpr hended
  rw [State.gateChange.step', if_neg (by simpa using hoper), if_neg (by simp [hopen])]
  dsimp only
  rw [if_neg hnow]
  split <;> rfl

/-- Before that nothing of the schedule changes. -/
theorem State.gateEvent_early (hc : (s.port n).gate.changeAt = none) (hopen : (s.port n).gate.closed = false)
    (hearly : s.time.now < (s.port n).gate.entryEnd) :
    ((s.gateEvent n).port n).gate = (s.port n).gate ∧ (∀ m, m ≠ n → (s.gateEvent n).port m = s.port m) ∧ (s.gateEvent n).regs = s.regs := by
  refine State.gateEvent_steps hc fun put => ?_
  rw [State.gateChange.step']
  split
  · rfl
  rw [if_neg (by simp [hopen])]
  exact if_pos hearly

end gateEvent

/-! ### The time step (R332, R341) -/

/-- Port `n`, its gate control and module time stay. -/
structure State.LeavesPort (n : Nat) (s t : State) : Prop where
  port : t.port n = s.port n
  ctrl : t.reg .port n 0x580 = s.reg .port n 0x580
  time : t.time = s.time

theorem State.LeavesPort.trans {n : Nat} {s t u : State} (h : s.LeavesPort n t) (k : t.LeavesPort n u) : s.LeavesPort n u :=
  ⟨k.port.trans h.port, k.ctrl.trans h.ctrl, k.time.trans h.time⟩

/-- One port at a time step. -/
def State.stepPort (s : State) (n : Nat) : State := (s.gateStepped n).keepDeficits n

theorem State.stepPort_leaves (s : State) {m n : Nat} (h : n ≠ m) : s.LeavesPort n (s.stepPort m) := by
  have haddr : Page.at .port n + 0x580 ≠ Page.at .port m + 0x580 := by
    simp only [Page.at, Page.base, Page.stride]
    omega
  unfold State.stepPort State.gateStepped
  dsimp only
  split
  · exact ⟨(State.keepDeficits_port_other _ h).trans (State.port_setPort_other _ _ _ _ h), rfl, rfl⟩
  · refine ⟨(State.keepDeficits_port_other _ h).trans (State.port_setPort_other _ _ _ _ h), ?_, rfl⟩
    exact State.reg_setReg_other _ _ _ _ _ _ _ _ haddr

theorem State.stepPorts_leave {n : Nat} {l : List Nat} (hl : n ∉ l) (s : State) :
    s.LeavesPort n (l.foldl State.stepPort s) :=
  List.foldlRecOn (motive := s.LeavesPort n) l State.stepPort ⟨rfl, rfl, rfl⟩ fun t ht _ hm =>
    ht.trans (t.stepPort_leaves fun h => hl (h ▸ hm))

/-- An enabled schedule waits closed for a cycle start to come (R332). -/
theorem State.stepPort_waits {s : State} {n : Nat} (hen : s.gateEn n = true) : ((s.stepPort n).reg .port n 0x580).testBit 2 = true ∧
    ((s.port n).gate.oper ≠ [] → 0 < (s.port n).gate.cycle →
      ((s.stepPort n).port n).gate.closed = true ∧ s.time.now ≤ ((s.stepPort n).port n).gate.start) := by
  unfold State.stepPort
  rw [State.keepDeficits_gate, State.gateStepped]
  dsimp only
  rw [if_neg (by simp [hen])]
  refine ⟨(State.testBit_reg_setReg _ _ _ _ _ (by decide)).trans ?_, fun hoper hcycle => ?_⟩
  · rw [testBit_setBit]
    simp
  · refine (congrArg (fun x : Port => x.gate.closed = true ∧ s.time.now ≤ x.gate.start) (State.port_setPort ..)).mpr ?_
    rw [if_neg (by simpa using hoper)]
    exact ⟨rfl, (cycleAt_spec hcycle).1⟩

theorem State.timeStepTo_eq (now : Nat) (s : State) :
    s.timeStepTo now = (List.range 128).foldl State.stepPort { s with time.now := now, time.steps := (s.time.steps + 1) % 2 ^ 16 } := rfl

theorem State.timeStepTo_time (now : Nat) (s : State) : (s.timeStepTo now).time = { s.time with now := now, steps := (s.time.steps + 1) % 2 ^ 16 } := by
  rw [State.timeStepTo_eq]
  refine List.foldlRecOn (motive := fun t : State => t.time = _) _ _ rfl fun t ht _ _ => ?_
  rw [← ht]
  unfold State.stepPort State.gateStepped
  dsimp only
  split <;> rfl

theorem State.timeStepTo_waits {now n : Nat} {s : State} (hn : n < 128) (hen : s.gateEn n = true) :
    ((s.timeStepTo now).reg .port n 0x580).testBit 2 = true ∧ ((s.port n).gate.oper ≠ [] → 0 < (s.port n).gate.cycle →
      ((s.timeStepTo now).port n).gate.closed = true ∧ now ≤ ((s.timeStepTo now).port n).gate.start) := by
  obtain ⟨l, r, hsplit⟩ := List.append_of_mem (List.mem_range.mpr hn)
  have hnodup := hsplit ▸ List.nodup_range (n := 128)
  rw [List.nodup_middle, List.nodup_cons, List.mem_append, not_or] at hnodup
  obtain ⟨⟨hl, hr⟩, -⟩ := hnodup
  let s0 : State := { s with time.now := now, time.steps := (s.time.steps + 1) % 2 ^ 16 }
  have hbefore := State.stepPorts_leave hl s0
  let s1 := l.foldl State.stepPort s0
  have hafter := State.stepPorts_leave hr (s1.stepPort n)
  have hen1 : s1.gateEn n = true := by
    rw [State.gateEn, State.fld, hbefore.ctrl]
    exact hen
  obtain ⟨hflag, hgate⟩ := State.stepPort_waits hen1
  rw [State.timeStepTo_eq, hsplit, List.foldl_append, List.foldl_cons, hafter.ctrl, hafter.port]
  rw [hbefore.port, hbefore.time] at hgate
  exact ⟨hflag, hgate⟩

/-! ### PFC (R309) -/

section pfc
variable {s : State} {n p : Nat}

/-- A PFC frame that the port obeys pauses or resumes its priority. -/
theorem State.pfcReceive_obeys (q : Nat) (hup : s.ethUp n = true) (hrx : (s.reg .port n 0x418).testBit (8 + p) = true) (r : Nat) :
    ((s.pfcReceive n p q).port n).paused.testBit r = if r = p then decide (q ≠ 0) else (s.port n).paused.testBit r := by
  rw [State.pfcReceive, if_pos (by rw [hup, bitOn, hrx]; rfl)]
  obtain ⟨d, hd⟩ := State.keepDeficits_port
    (s.setPort n { s.port n with paused := if q = 0 then clearBit (s.port n).paused p else setBit (s.port n).paused p }) n
  refine (congrArg (fun x : Port => x.paused.testBit r) hd).trans ?_
  dsimp only
  rw [State.port_setPort]
  dsimp only
  split
  · next hq => simp [testBit_clearBit, hq]
  · next hq =>
    rw [testBit_setBit]
    by_cases hr : r = p
    · simp [hr, hq]
    · simp [hr, Ne.symm hr]

theorem State.pfcReceive_ignores (q : Nat) (h : s.ethUp n = false ∨ (s.reg .port n 0x418).testBit (8 + p) = false) : s.pfcReceive n p q = s := by
  rw [State.pfcReceive, if_neg]
  rw [bitOn, Bool.and_eq_true]
  rintro ⟨hup, hrx⟩
  rcases h with h | h
  · exact Bool.false_ne_true (h.symm.trans hup)
  · exact Bool.false_ne_true (h.symm.trans hrx)

theorem State.pauseExpiry_paused (r : Nat) :
    ((s.pauseExpiry n p).port n).paused.testBit r = if r = p then false else (s.port n).paused.testBit r := by
  rw [State.pauseExpiry, State.port_setPort]
  exact testBit_clearBit ..

end pfc

/-! ### PTP (R343, R347) -/

/-- A message for the PTP settings in force names those settings. -/
theorem State.ptpOurs_settings {s : State} {port domain : Nat} {udp : Bool} (h : s.ptpOurs port domain udp = true) :
    s.fld .ref 0 0x410 6 0 = port ∧ s.fld .ref 0 0x410 15 8 = domain ∧ (s.fld .ref 0 0x410 16 16 == 1) = udp := by
  simp only [State.ptpOurs, Bool.and_eq_true, beq_iff_eq] at h
  obtain ⟨⟨⟨⟨-, hport⟩, hdomain⟩, hudp⟩, -⟩ := h
  exact ⟨hport, hdomain, hudp⟩

theorem State.ptpReceive_other {s : State} {port domain : Nat} {udp : Bool} (h : s.ptpOurs port domain udp = false) (kind T : Nat) :
    s.ptpReceive port domain udp kind T = s := by
  rw [State.ptpReceive, if_pos (by rw [h]; rfl)]

theorem State.ptpReceive_ours {s : State} {port domain : Nat} {udp : Bool} (h : s.ptpOurs port domain udp = true) (T : Nat) :
    s.ptpReceive port domain udp 0 T = { s with time.ptpT2 := s.time.now } ∧
      s.ptpReceive port domain udp 1 T = ({ s with time.ptpT1 := T } : State).ptpMeasured ∧
      s.ptpReceive port domain udp 2 T = { s with time.ptpDelay := (s.time.ptpT2 - s.time.ptpT1 + (T - s.time.ptpT3)) / 2 } := by
  have hkind : ∀ kind, s.ptpReceive port domain udp kind T = if kind = 0 then { s with time.ptpT2 := s.time.now }
      else if kind = 1 then ({ s with time.ptpT1 := T } : State).ptpMeasured
      else if kind = 2 then { s with time.ptpDelay := (s.time.ptpT2 - s.time.ptpT1 + (T - s.time.ptpT3)) / 2 } else s := fun kind => by
    rw [State.ptpReceive, if_neg (by simp [h])]
  exact ⟨hkind 0, hkind 1, hkind 2⟩

/-- A Follow_Up gives the offset and sends a Delay_Req. -/
theorem State.ptpMeasured_spec (s : State) : s.ptpMeasured.time.ptpT3 = s.time.now ∧ s.ptpMeasured.out.ptp = s.out.ptp ++
      [{ port := s.fld .ref 0 0x410 6 0, udp := s.fld .ref 0 0x410 16 16 == 1, domain := s.fld .ref 0 0x410 15 8, stamp := s.time.now }] ∧
    s.ptpMeasured.time.offset = s.time.ptpT2 - s.time.ptpT1 - s.time.ptpDelay ∧
    s.ptpMeasured.time.sync = decide (-1000 ≤ s.time.ptpT2 - s.time.ptpT1 - s.time.ptpDelay ∧ s.time.ptpT2 - s.time.ptpT1 - s.time.ptpDelay ≤ 1000) ∧
    s.ptpMeasured.time.now = s.time.now := by
  unfold State.ptpMeasured
  extract_lets off near t
  have hout : t.out = s.out ∧ t.time.now = s.time.now := by
    simp only [t]
    split <;> exact ⟨rfl, rfl⟩
  refine ⟨rfl, by rw [hout.1], rfl, (Bool.decide_and ..).symm, hout.2⟩

/-! ### The statement -/

theorem exec_ageCheck_eq (n : Nat) (s : State) : exec (.ageCheck n) s =
    s.answer touchFrames (s.inDomain (switchMux (portDie n)) (fun s => (s.ageCheck n).pumpAll)) := rfl

theorem exec_shaperRefill_eq (n : Nat) (s : State) : exec (.shaperRefill n) s =
    s.answer { ports := true } (s.inDomain (switchMux (portDie n)) (fun s => (s.refill n).keepDeficits n)) := rfl

theorem exec_gateEntryChange_eq (n : Nat) (s : State) : exec (.gateEntryChange n) s =
    s.answer { ports := true, regs := true } (s.inDomain (switchMux (portDie n)) (fun s => s.gateEvent n)) := rfl

theorem exec_pfcFrameReceive_eq (n p q : Nat) (s : State) : exec (.pfcFrameReceive n p q) s =
    s.answer { ports := true } (s.inDomain (switchMux (portDie n)) (fun s => s.pfcReceive n p q)) := rfl

theorem exec_pfcPauseRepeat_eq (n p : Nat) (s : State) : exec (.pfcPauseRepeat n p) s =
    s.answer { out := true } (s.inDomain (switchMux (portDie n)) (fun s => s.pauseRepeat n p)) := rfl

theorem exec_pfcPauseExpiry_eq (n p : Nat) (s : State) : exec (.pfcPauseExpiry n p) s =
    s.answer { ports := true } (s.inDomain (switchMux (portDie n)) (fun s => s.pauseExpiry n p)) := rfl

theorem exec_timeStep_eq (now : Nat) (s : State) :
    exec (.timeStep now) s = s.answer { time := true, ports := true, regs := true } (s.timeStepTo now) := rfl

theorem exec_ptpMessageReceive_eq (port domain : Nat) (udp : Bool) (kind T : Nat) (s : State) : exec (.ptpMessageReceive port domain udp kind T) s =
    s.answer { time := true, out := true, free := true }
      (s.inDomain (switchMux (portDie port)) (fun s => s.ptpReceive port domain udp kind T)) := rfl

/-- Settles O48, event by event. -/
theorem trafficAndTimeEvents : Obligations.TrafficAndTimeEvents := by
  refine ⟨?age, ?refill, ?gate, ?pfc, ?step, ?other, ?ours⟩
  case age =>
    intro s n hclk
    refine ⟨_, (exec_ageCheck_eq n s).trans (State.answer_running hclk ..), fun c hc => ?_⟩
    exact (s.ageCheck_queue n hc).trans rfl
  case refill =>
    intro s n hclk
    refine ⟨_, (exec_shaperRefill_eq n s).trans (State.answer_running hclk ..), keep_onlyIn _ _ _, fun m hm => ?_, ?_, fun c hc => ?_⟩
    · exact (State.keepDeficits_port_other _ hm).trans (State.port_setPort_other _ _ _ _ hm)
    all_goals obtain ⟨d, hd⟩ := (s.refill n).keepDeficits_port n
    · exact (congrArg Port.refillNs hd).trans (s.refill_port n (c := 0) (by decide)).1
    · have hshaper := (congrArg (Port.shaper · c) hd).trans (s.refill_port n hc).2
      exact ⟨fun ho => hshaper.trans (Shaper.refill_settled _ _ _ ho), fun ho he => hshaper.trans (Shaper.refill_owing _ _ _ ho he)⟩
  case gate =>
    intro s n hclk
    refine ⟨fun at' hc hdue => ?_, fun hc hoper hopen hended => ?_, fun hc hopen hearly => ?_⟩
    · obtain ⟨hflag, hgate⟩ := State.gateEvent_replaces hc hdue
      exact ⟨_, (exec_gateEntryChange_eq n s).trans (State.answer_running hclk ..), hflag, hgate⟩
    · exact ⟨_, (exec_gateEntryChange_eq n s).trans (State.answer_running hclk ..), State.gateEvent_next hc hoper hopen hended⟩
    · obtain ⟨hgate, hports, hregs⟩ := State.gateEvent_early hc hopen hearly
      refine ⟨_, (exec_gateEntryChange_eq n s).trans (State.answer_running hclk ..), hgate, hports, ?_⟩
      simp [OnlyIn, FencesKept, hregs]
  case pfc =>
    intro s n p q _ hclk
    refine ⟨fun hup hrx => ?_, fun h => ?_, fun hx hup => ?_, fun hx => ?_, ?_⟩
    · have hpaused := State.pfcReceive_obeys q hup hrx
      refine ⟨_, (exec_pfcFrameReceive_eq n p q s).trans (State.answer_running hclk ..), keep_onlyIn _ _ _, ?_, fun r hr => ?_⟩
      · exact (hpaused p).trans (if_pos rfl)
      · exact (hpaused r).trans (if_neg hr)
    · rw [exec_pfcFrameReceive_eq, State.answer_running hclk, State.pfcReceive_ignores q h]
      rfl
    · rw [exec_pfcPauseRepeat_eq, State.answer_running hclk, State.pauseRepeat, if_pos (show bitOn _ p = true from hx), State.sendPause, if_pos hup]
      rfl
    · rw [exec_pfcPauseRepeat_eq, State.answer_running hclk, State.pauseRepeat, if_neg (by rw [bitOn, hx]; decide)]
      rfl
    · refine ⟨_, (exec_pfcPauseExpiry_eq n p s).trans (State.answer_running hclk ..), keep_onlyIn _ _ _, ?_, fun r hr => ?_⟩
      · exact (State.pauseExpiry_paused p).trans (if_pos rfl)
      · exact (State.pauseExpiry_paused r).trans (if_neg hr)
  case step =>
    intro s now
    have htime := s.timeStepTo_time now
    have hwaits : ∀ n < 128, s.gateEn n = true → _ := fun n hn hen => State.timeStepTo_waits (now := now) hn hen
    rw [exec_timeStep_eq, State.answer_eq]
    generalize s.timeStepTo now = t at htime hwaits
    exact ⟨_, rfl, htime, keep_onlyIn _ _ _, hwaits⟩
  case other =>
    intro s port domain kind T udp hours
    rw [exec_ptpMessageReceive_eq]
    cases hclk : s.clockStopped (switchMux (portDie port))
    · rw [State.answer_running hclk, State.ptpReceive_other hours]
      rfl
    · exact State.answer_stopped hclk rfl rfl _
  case ours =>
    intro s port domain T udp hours hclk
    obtain ⟨hsync, hfollow, hdelay⟩ := State.ptpReceive_ours hours T
    obtain ⟨hport, hdomain, hudp⟩ := State.ptpOurs_settings hours
    refine ⟨?_, ?_, ?_⟩
    · rw [exec_ptpMessageReceive_eq, State.answer_running hclk, hsync]
      rfl
    · rw [exec_ptpMessageReceive_eq, State.answer_running hclk, hdelay]
      rfl
    · refine ⟨_, (exec_ptpMessageReceive_eq port domain udp 1 T s).trans (State.answer_running hclk ..), ?_⟩
      rw [hfollow]
      obtain ⟨ht3, hsent, hoff, hsync, hnow⟩ := State.ptpMeasured_spec { s with time.ptpT1 := T }
      refine ⟨ht3, hsent.trans ?_, hoff, hsync, hnow, keep_onlyIn _ _ _⟩
      rw [← hport, ← hdomain, ← hudp]
      rfl

end Sys2Proof.Machine
end

section
/-! PROOFS. What packets, requests and device memory leave of collectives and the journal (`State.Calm`): no slot, no waiting launch and no transfer
changes, and no error bit is lost. -/

namespace Sys2Proof.Machine

/-- The parts of the state that packets, requests and device memory leave alone. -/
def State.still (s : State) : Sparse Slot × List HeldLaunch × Option Transfer × Sparse Port × List (Nat × List (BitVec 8) × Bool) :=
  (s.coll.slots, s.coll.queued, s.jnl.transfer, s.ports, s.out.frames)

/-- No collective starts, moves or waits, no transfer changes, the Ethernet sides of ports stay, and no error bit is lost. -/
structure State.Calm (s t : State) : Prop where
  parts : t.still = s.still
  errs : s.KeepsErrs t

namespace State.Calm
variable {s t u : State}

theorem slots (h : s.Calm t) : t.coll.slots = s.coll.slots := congrArg (·.1) h.parts
theorem queued (h : s.Calm t) : t.coll.queued = s.coll.queued := congrArg (·.2.1) h.parts
theorem transfer (h : s.Calm t) : t.jnl.transfer = s.jnl.transfer := congrArg (·.2.2.1) h.parts
theorem ports (h : s.Calm t) : t.ports = s.ports := congrArg (·.2.2.2.1) h.parts
theorem frames (h : s.Calm t) : t.out.frames = s.out.frames := congrArg (·.2.2.2.2) h.parts

theorem trans (h : s.Calm t) (k : t.Calm u) : s.Calm u := ⟨k.parts.trans h.parts, h.errs.trans k.errs⟩

/-- A change of other parts of the state. -/
theorem of_parts (regs : t.regs = s.regs) (parts : t.still = s.still) : s.Calm t := ⟨parts, .of_regs regs⟩

theorem refl (s : State) : s.Calm s := .of_parts rfl rfl

/-- A step taken after a change of other parts of the state. -/
theorem after (h : t.Calm u) (regs : t.regs = s.regs) (parts : t.still = s.still) : s.Calm u := (State.Calm.of_parts regs parts).trans h

theorem of_sends {sent : Bool} (h : s.Sends sent t) : s.Calm t :=
  ⟨by simp only [State.still, h.coll, h.jnl, h.ports, h.frames], h.errs⟩

theorem foldl {α : Type} {f : State → α → State} (h : ∀ (t : State) (a : α), t.Calm (f t a)) (l : List α) (s : State) : s.Calm (l.foldl f s) :=
  List.foldlRecOn (motive := s.Calm) l f (.refl s) fun t ht a _ => ht.trans (h t a)

theorem raise (s : State) (p : Page) (i b tag i0 i1 i2 : Nat) : s.Calm (s.raise p i b tag i0 i1 i2) := .of_sends (.raise (sent := true) s p i b tag i0 i1 i2)

theorem evtAdd (s : State) (p : Page) (i n : Nat) {k : Nat} (hk : k < 8) : s.Calm (s.evtAdd p i k n) := ⟨rfl, .evtAdd s p i k n hk⟩

/-- An event counted if a condition holds. -/
theorem evtAdd_if (s : State) (c : Prop) [Decidable c] (p : Page) (i n : Nat) {k : Nat} (hk : k < 8) :
    s.Calm (if c then s.evtAdd p i k n else s) := by
  split
  · exact .evtAdd s p i n hk
  · exact .refl s

/-! ### Packets -/

theorem freePkt (s : State) (k : Pkt) : s.Calm (s.freePkt k) := .of_sends (.freePkt s k)

theorem dropPkt (s : State) (k : Pkt) : s.Calm (s.dropPkt k) :=
  ((State.Calm.freePkt s k).trans (.of_sends (.returnCredits _ k))).trans (.of_parts rfl rfl)

theorem noteLost (s : State) (k : Pkt) : s.Calm (s.noteLost k) := by
  unfold State.noteLost
  split
  · exact .of_parts rfl rfl
  · exact .refl s

theorem fabErr (s : State) (bit port axis coord reason hi : Nat) : s.Calm (s.fabErr bit port axis coord reason hi) := .raise ..

theorem noRoute (s : State) (k : Pkt) (axis coord reason : Nat) : s.Calm (s.noRoute k axis coord reason) :=
  (((State.Calm.noteLost s k).trans (.fabErr _ _ _ _ _ _ _)).trans (.evtAdd _ _ _ _ (by decide))).trans (.dropPkt _ k)

theorem stale (s : State) (k : Pkt) : s.Calm (s.stale k) :=
  (((State.Calm.noteLost s k).trans (.fabErr _ _ _ _ _ _ _)).trans (.evtAdd _ _ _ _ (by decide))).trans (.dropPkt _ k)

theorem queuePkt (s : State) (n lane : Nat) (k : Pkt) : s.Calm (s.queuePkt n lane k) := by
  unfold State.queuePkt
  dsimp only
  split
  · exact (State.Calm.of_sends (.overrun (sent := true) _ _ _ s)).trans (.dropPkt _ _)
  split
  · exact .dropPkt s _
  · refine .trans (.trans (.after (.evtAdd_if _ _ _ _ _ (by decide)) ?_ ?_) (.evtAdd_if _ _ _ _ _ (by decide))) (.of_sends (.pumpPort _ _)) <;> rfl

theorem takeDetour (s : State) (k : Pkt) (a d p : Nat) : s.Calm (s.takeDetour k a d p) := by
  unfold State.takeDetour
  split
  · exact .noRoute s _ _ _ _
  · exact (State.Calm.evtAdd s _ _ _ (by decide)).trans (.queuePkt _ _ _ _)

theorem route (s : State) (k : Pkt) : s.Calm (s.route k) := by
  unfold State.route
  split
  · exact .dropPkt s k
  dsimp only
  split
  · exact .noRoute s _ _ _ _
  split
  · exact .queuePkt s _ _ _
  split
  · exact .takeDetour s _ _ _ _
  · exact .noRoute s _ _ _ _

theorem injectAs (s : State) (loose : Bool) (unit dst cls txn opc arg : Nat) (mc : Option Nat) (payload : List Byte) :
    s.Calm (s.injectAs loose unit dst cls txn opc arg mc payload) := by
  unfold State.injectAs
  extract_lets e rly s1 key pkt go p
  have h1 : s.Calm s1 := .of_parts rfl rfl
  have hgo : ∀ (bufs : List Nat) (t : State), t.Calm (go bufs t) := by
    intro bufs t
    simp only [go]
    split
    · exact .route t _
    · exact .after (.route _ _) rfl rfl
  split
  · exact h1.trans (.stale _ _)
  split
  · exact h1.trans (hgo _ _)
  split
  · next halloc => exact (h1.trans (.of_sends (.alloc (sent := true) halloc))).trans (hgo _ _)
  · exact (h1.trans (.of_sends (.overrun (sent := true) _ _ _ _))).trans (.of_parts rfl rfl)

/-! ### Device memory -/

theorem memUe (s : State) (who kind a : Nat) : s.Calm (s.memUe who kind a) := (State.Calm.raise s _ _ _ _ _ _ _).trans (.evtAdd _ _ _ _ (by decide))

theorem wake (s : State) (ps : List (Nat × Nat)) : s.Calm (s.wake ps) := by
  refine .foldl (fun t p => ?_) ps s
  dsimp only
  split <;> exact .of_parts rfl rfl

theorem devPutAll (ps : List (Nat × Nat)) (s : State) (bs : List Byte) : s.Calm (s.devPutAll ps bs).1 := by
  induction ps generalizing s bs with
  | nil => exact .refl s
  | cons p ps ih => exact (State.Calm.of_parts rfl rfl : s.Calm (s.devPut p (bs.take p.2)).1).trans (ih _ _)

theorem devReadAs (s : State) (kind : Option Nat) (who a n : Nat) : s.Calm (s.devReadAs kind who a n).2.2 := by
  unfold State.devReadAs
  dsimp only
  split
  · exact .refl s
  split
  · exact (State.Calm.wake s _).trans (.memUe _ _ _ _)
  · dsimp only
    split
    · exact (State.Calm.wake s _).trans (.of_parts rfl rfl)
    · exact .wake s _

theorem devWrite (s : State) (who a : Nat) (bs : List Byte) : s.Calm (s.devWrite who a bs).2 := by
  have hput := (State.Calm.wake s (s.devPieces a bs.length)).trans (.devPutAll (s.devPieces a bs.length) _ bs)
  unfold State.devWrite
  split
  · exact .refl s
  dsimp only
  split
  · exact .refl s
  split
  · exact hput.trans (.memUe _ _ _ _)
  · exact hput

theorem atomicFormat (s : State) (who aop a : Nat) : s.Calm (s.atomicFormat who aop a) := by
  rw [State.atomicFormat]
  exact .raise ..

theorem devAtomic (s : State) (who aop a : Nat) (operand : List Byte) : s.Calm (s.devAtomic who aop a operand).2.2 := by
  unfold State.devAtomic
  split
  · exact .atomicFormat s _ _ _
  dsimp only
  have hread := State.Calm.devReadAs s (some 2) who a (if aopOp aop = 8 then 72 else aopBytes aop)
  split
  · next bs t heq =>
    rw [heq] at hread
    split
    · split
      · exact hread.trans (.atomicFormat _ _ _ _)
      · exact (hread.trans (.devWrite _ _ _ _)).trans (.evtAdd _ _ _ _ (by decide))
    · exact (hread.trans (.devWrite _ _ _ _)).trans (.evtAdd _ _ _ _ (by decide))
  · next st bs t hne heq =>
    rw [heq] at hread
    exact hread

/-! ### Requests and deliveries -/

theorem reply (s : State) (k : Pkt) (opc : Nat) (payload : List Byte) : s.Calm (s.reply k opc payload) := .injectAs ..

/-- A REQ answered, its buffer given back. -/
theorem answered (s : State) (k : Pkt) (opc : Nat) (payload : List Byte) : s.Calm ((s.freePkt k).reply k opc payload) :=
  (State.Calm.freePkt s k).trans (.reply _ k opc payload)

theorem serveReq (s : State) (k : Pkt) : s.Calm (s.serveReq k) := by
  unfold State.serveReq
  dsimp only
  split
  · split
    · exact .answered s k _ _
    · have hwrite := State.Calm.devWrite s (reqWho k) k.arg k.payload
      split <;> exact hwrite.trans (.answered _ k _ _)
  split
  · split
    · exact .answered s k _ _
    · have hread := State.Calm.devReadAs s none (reqWho k) k.arg (field k.payload 0 4)
      split <;> exact hread.trans (.answered _ k _ _)
  split
  · split
    · split
      · exact .answered s k _ _
      · exact (State.Calm.atomicFormat s _ _ _).trans (.answered _ k _ _)
    split
    · exact .answered s k _ _
    · have hatomic := State.Calm.devAtomic s (reqWho k) (field k.payload 0 1) k.arg (k.payload.drop 8)
      split <;> exact hatomic.trans (.answered _ k _ _)
  · exact .answered s k _ _

theorem serveReqs (n : Nat) (s : State) : s.Calm (s.serveReqs n) := by
  induction n generalizing s with
  | zero => exact .refl s
  | succ n ih =>
    unfold State.serveReqs
    split
    · exact .refl s
    split
    · exact .refl s
    · refine .trans ?_ (ih _)
      exact .after (.serveReq _ _) rfl rfl

theorem deliver (s : State) (k : Pkt) : s.Calm (s.deliver k) := by
  unfold State.deliver
  split
  · exact .after (.serveReqs _ _) rfl rfl
  split
  · exact .of_parts rfl rfl
  split
  · exact .of_parts rfl rfl
  split
  · exact (State.Calm.freePkt s k).trans (.evtAdd _ _ _ _ (by decide))
  split
  · exact .of_parts rfl rfl
  split
  · exact (State.Calm.freePkt s k).trans (.evtAdd _ _ _ _ (by decide))
  · exact (State.Calm.freePkt s k).trans (.of_parts rfl rfl)

theorem drainStream (key n : Nat) (s : State) : s.Calm (s.drainStream key n) := by
  induction n generalizing s with
  | zero => exact .refl s
  | succ n ih =>
    unfold State.drainStream
    dsimp only
    split
    · exact .refl s
    · refine .trans ?_ (ih _)
      exact .after (.deliver _ _) rfl rfl

/-! ### The journal -/

theorem jnlErr (s : State) (bit i0 i1 peer tag : Nat) : s.Calm (s.jnlErr bit i0 i1 peer tag) := by
  rw [State.jnlErr]
  exact .raise ..

theorem releaseOldest (s : State) : s.Calm s.releaseOldest := by
  unfold State.releaseOldest
  split
  · exact .refl s
  · exact .after (.evtAdd _ _ _ _ (by decide)) rfl rfl

theorem closeRange (s : State) : s.Calm s.closeRange := by
  unfold State.closeRange
  split
  · extract_lets s1
    have h1 : s.Calm s1 := by
      simp only [s1]
      split
      · exact .releaseOldest s
      · exact .refl s
    exact h1.trans (.of_parts rfl rfl)
  · exact .of_parts rfl rfl

theorem makeRoom (len n : Nat) (s : State) : s.Calm (s.makeRoom len n) := by
  induction n generalizing s with
  | zero => exact .refl s
  | succ n ih =>
    unfold State.makeRoom
    split
    · exact .refl s
    · exact (State.Calm.releaseOldest s).trans (ih _)

theorem ringPut (s : State) (base size w tag : Nat) (bs : List Byte) : s.Calm (s.ringPut base size w tag bs) := by
  unfold State.ringPut
  extract_lets tail s1
  have h1 : s.Calm s1 := by
    simp only [s1]
    split
    · exact .refl s
    · exact .after (.devWrite { s with free := s.free + 112 } _ _ _) rfl rfl
  exact h1.trans (.devWrite _ _ _ _)

theorem storeEntry (s : State) (tag : Nat) (bs : List Byte) : s.Calm (s.storeEntry tag bs).1 := by
  unfold State.storeEntry
  extract_lets s1
  have h1 : s.Calm s1 := by
    simp only [s1]
    split
    · exact .makeRoom _ _ s
    · exact .refl s
  split
  · exact (h1.trans (.jnlErr _ _ _ _ _ _)).trans (.trans (.closeRange _) (.evtAdd _ _ _ _ (by decide)))
  · exact (h1.trans (.ringPut _ _ _ _ _ _)).trans (.after (.evtAdd _ _ _ _ (by decide)) rfl rfl)

theorem journalCopy (s : State) (h : JHead) (data : List Byte) : s.Calm (s.journalCopy h data) := by
  unfold State.journalCopy State.appendEntry
  split
  · dsimp only
    split
    · exact (State.Calm.storeEntry s _ _).trans (.injectAs _ _ _ _ _ _ _ _ _ _)
    · exact .storeEntry s _ _
  split
  · exact .evtAdd s _ _ _ (by decide)
  · exact .refl s

/-! ### Records of a Sifter -/

theorem onSifter (s : State) (sf : Nat) (f : Sifter → Sifter) : s.Calm (s.onSifter sf f) := .of_parts rfl rfl

theorem dropRec (sf : Nat) (s : State) : s.Calm (s.dropRec sf) := .evtAdd s _ _ _ (by decide)

theorem ringSignal (sf r : Nat) (s : State) : s.Calm (s.ringSignal sf r) := by
  unfold State.ringSignal
  dsimp only
  split
  · split
    · split
      · exact .of_parts rfl rfl
      · exact .refl s
    · exact .refl s
  · exact .refl s

theorem ringConsumed {unit addr : Nat} {c : Option Nat} (h : s.ringConsumed unit addr = (c, t)) : s.Calm t := by
  have hread : s.Calm (if xDev addr then s.devRead (whoOf unit) (xAddr addr) 8 else (0, s.hostRead (xAddr addr) 8, s)).2.2 := by
    split
    · exact .devReadAs s none _ _ 8
    · exact .refl s
  unfold State.ringConsumed at h
  split at h
  all_goals
    next heq =>
    rw [heq] at hread
    cases h
    exact hread

theorem ringRecord (sf r : Nat) (rec : SRec) (frame : List Byte) (bad : Bool) (copyLen : Nat) (s : State) :
    s.Calm (s.ringRecord sf r rec frame bad copyLen) := by
  unfold State.ringRecord
  dsimp only
  split
  · exact .dropRec sf s
  split
  · next hc =>
    split
    · exact (((State.Calm.ringConsumed hc).trans (.devWrite _ _ _ _)).trans (.onSifter _ _ _)).trans (.ringSignal _ _ _)
    · exact (State.Calm.ringConsumed hc).trans (.dropRec _ _)
  · next hc => exact (State.Calm.ringConsumed hc).trans (.dropRec _ _)

end State.Calm
end Sys2Proof.Machine
end

section
/-! PROOFS. Packets taken from a port, delivered in order, routed and discarded; the resequencer's wait and the detour (R292, R359 to R382). -/

namespace Sys2Proof.Machine

/-! ### The fabric settles -/

/-- No collective and no transfer of the journal runs. -/
structure State.CollIdle (s : State) : Prop where
  slots : s.coll.slots = []
  queued : s.coll.queued = []
  transfer : s.jnl.transfer = none

theorem State.CollIdle.calm {s t : State} (h : s.CollIdle) (k : s.Calm t) : t.CollIdle :=
  ⟨k.slots.trans h.slots, k.queued.trans h.queued, k.transfer.trans h.transfer⟩

/-- What is lost on the way is forgotten, and the ports send. -/
theorem State.CollIdle.settled {s : State} (h : s.CollIdle) : s.fabricSettled = State.pumpAll { s with coll.lost := [] } := by
  rw [State.fabricSettled, State.fencedTransfer, h.transfer]
  dsimp only
  rw [State.collSettle, if_pos (by rw [h.slots, h.queued]; rfl)]

theorem State.fabricSettled_noColl {s : State} (hc : s.NoColl) (ht : s.jnl.transfer = none) : s.fabricSettled = s.pumpAll := by
  rw [State.fabricSettled, State.fencedTransfer, ht]
  dsimp only
  rw [State.collSettle_none hc]

/-- The fabric's settling leaves what Rally keeps besides its links, error bits, and other registers. -/
structure State.Settles (s t : State) : Prop where
  rly : t.rly.unlinked = s.rly.unlinked
  errs : s.KeepsErrs t
  regs : ∀ (p : Page) (i o : Nat), o < 0x1000 → o ∉ sendOffs → t.reg p i o = s.reg p i o

namespace State.Settles
variable {s t : State}

theorem arrived (h : s.Settles t) : t.rly.arrived = s.rly.arrived := (congrArg Rly.arrived h.rly :)
theorem dlv (h : s.Settles t) : t.rly.dlv = s.rly.dlv := (congrArg Rly.dlv h.rly :)
theorem drop (h : s.Settles t) : t.rly.drop = s.rly.drop := (congrArg Rly.drop h.rly :)
theorem mgt (h : s.Settles t) : t.rly.mgt = s.rly.mgt := (congrArg Rly.mgt h.rly :)
theorem rspIn (h : s.Settles t) : t.rly.rspIn = s.rly.rspIn := (congrArg Rly.rspIn h.rly :)
theorem stream (h : s.Settles t) (key : Nat) : t.stream key = s.stream key := (congrArg (fun r : Rly => Sparse.get ({} : Reseq) r.reseq key) h.rly :)

end State.Settles

theorem State.CollIdle.settles {s : State} (h : s.CollIdle) : s.Settles s.fabricSettled := by
  have hsent := State.Sends.pumpAll { s with coll.lost := [] }
  rw [h.settled]
  exact ⟨hsent.rly, hsent.errs, hsent.regs⟩

/-- A command of the fabric, after a calm step. -/
theorem State.fabric_settles {s t : State} (hs : s.CollIdle) (h : s.Calm t) : t.Settles (s.keep touchColl t.fabricSettled) := by
  have hsettles := (hs.calm h).settles
  exact ⟨hsettles.rly, hsettles.errs, hsettles.regs⟩

/-! ### A packet discarded (R377) -/

/-- The packet `k` is discarded: DROP of its epoch counts it, and what has arrived and the responses stay. -/
structure State.Discards (s : State) (k : Pkt) (t : State) : Prop where
  calm : s.Calm t
  arrived : t.rly.arrived = s.rly.arrived
  rspIn : t.rly.rspIn = s.rly.rspIn
  drop : t.rly.drop.num k.epoch = s.rly.drop.num k.epoch + 1

namespace State.Discards
variable {s t u : State} {k : Pkt}

/-- After a calm step that leaves Rally alone. -/
theorem after (h : t.Discards k u) (calm : s.Calm t) (rly : t.rly = s.rly) : s.Discards k u :=
  ⟨calm.trans h.calm, h.arrived.trans (by rw [rly]), h.rspIn.trans (by rw [rly]), h.drop.trans (by rw [rly])⟩

theorem dropPkt (s : State) (k : Pkt) : s.Discards k (s.dropPkt k) := by
  have hsent : s.Sends true ((s.freePkt k).returnCredits k) := (State.Sends.freePkt s k).trans (.returnCredits _ k)
  refine ⟨.dropPkt s k, (congrArg Rly.arrived hsent.rly :), (congrArg Rly.rspIn hsent.rly :), (Sparse.get_set_same ..).trans ?_⟩
  exact (congrArg (fun r : Rly => r.drop.num k.epoch + 1) hsent.rly :)

theorem noteLost_rly (s : State) (k : Pkt) : (s.noteLost k).rly = s.rly := by
  unfold State.noteLost
  split <;> rfl

theorem fabErr_rly (s : State) (bit port axis coord reason hi : Nat) : (s.fabErr bit port axis coord reason hi).rly = s.rly := by
  rw [State.fabErr, State.raise_rly]

/-- A packet counted and discarded after an error of the fabric. -/
theorem faulted (s : State) (k : Pkt) {b e : Nat} (port axis coord reason hi : Nat) (hb : b < 64) (he : e < 8) :
    s.Discards k ((((s.noteLost k).fabErr b port axis coord reason hi).evtAdd .fab 0 e 1).dropPkt k) ∧
      ((((s.noteLost k).fabErr b port axis coord reason hi).evtAdd .fab 0 e 1).dropPkt k).errSet .fab 0 b := by
  have hcalm : s.Calm ((s.noteLost k).fabErr b port axis coord reason hi) := (State.Calm.noteLost s k).trans (.fabErr _ _ _ _ _ _ _)
  have hrly : ((s.noteLost k).fabErr b port axis coord reason hi).rly = s.rly := (fabErr_rly ..).trans (noteLost_rly s k)
  have herr : ((s.noteLost k).fabErr b port axis coord reason hi).errSet .fab 0 b := by
    rw [State.fabErr]
    exact State.raise_errSet _ _ _ _ _ _ _ _ hb
  generalize (s.noteLost k).fabErr b port axis coord reason hi = t at *
  have hcount : t.Calm (t.evtAdd .fab 0 e 1) := .evtAdd t _ _ _ he
  exact ⟨(dropPkt _ k).after (hcalm.trans hcount) hrly, (hcount.trans (.dropPkt _ k)).errs _ _ _ herr⟩

theorem stale (s : State) (k : Pkt) : s.Discards k (s.stale k) ∧ (s.stale k).errSet .fab 0 5 := by
  rw [State.stale]
  exact faulted s k _ _ _ _ _ (by decide) (by decide)

theorem noRoute (s : State) (k : Pkt) (axis coord reason : Nat) :
    s.Discards k (s.noRoute k axis coord reason) ∧ (s.noRoute k axis coord reason).errSet .fab 0 4 := by
  rw [State.noRoute]
  exact faulted s k _ _ _ _ _ (by decide) (by decide)

end State.Discards

/-! ### A packet taken from its port (R368) -/

/-- The packets that have arrived and not been taken replaced. -/
def State.setArrived (s : State) (l : List (Nat × Pkt)) : State := { s with rly.arrived := l }

/-- A packet as it is taken from port `n`. -/
def State.taken (s : State) (n : Nat) (k : Pkt) : Pkt := { k with inPort := some n, lane := min 6 (s.laneIn n k) }

/-- The oldest packet of a port leaves the packets that have arrived. -/
theorem State.takeArrived_eq {s : State} {n upset : Nat} {k : Pkt} {before after : List (Nat × Pkt)} (h : s.rly.arrived = before ++ (n, k) :: after)
    (hb : ∀ a ∈ before, a.1 ≠ n) : s.takeArrived n upset = (s.setArrived (before ++ after)).packetIn n upset k := by
  have hfind : s.rly.arrived.find? (fun a => a.1 == n) = some (n, k) := by
    rw [h, List.find?_append, List.find?_eq_none.mpr (by simpa using hb)]
    simp
  have herase : s.rly.arrived.eraseP (fun a => a.1 == n) = before ++ after := by
    rw [h, List.eraseP_append_right _ (by simpa using hb), List.eraseP_cons_of_pos (by simp)]
  rw [State.takeArrived, hfind]
  dsimp only
  rw [herase]
  rfl

section packetIn
variable {s : State} {n : Nat} {k : Pkt}

theorem State.packetIn_malformed (h : k.wellFormed = false) (upset : Nat) : s.packetIn n upset k = s.dropPkt (s.taken n k) := by
  refine if_pos (.inl ?_)
  exact (Bool.not_eq_true' _).mpr h

theorem State.packetIn_stale (hw : k.wellFormed = true) (hlen : k.payload.length = k.len) (ha : s.versionActive k.epoch = false) (upset : Nat) :
    s.packetIn n upset k = s.stale (s.taken n k) := by
  refine (if_neg ?_).trans (if_pos ?_)
  · rintro (h | h)
    · exact Bool.false_ne_true ((Bool.not_eq_true' _).mp h |>.symm.trans hw)
    · exact h hlen
  · exact (Bool.not_eq_true' _).mpr ha

theorem State.packetIn_empty (hw : k.wellFormed = true) (hp : k.payload = []) (hlen : k.len = 0) (ha : s.versionActive k.epoch = true) (upset : Nat) :
    s.packetIn n upset k = if k.dst = s.module then s.arriveHere (s.taken n k) else s.route (s.taken n k) := by
  refine (if_neg ?_).trans ((if_neg ?_).trans (if_pos ?_))
  · rintro (h | h)
    · exact Bool.false_ne_true ((Bool.not_eq_true' _).mp h |>.symm.trans hw)
    · exact h ((congrArg List.length hp).trans hlen.symm)
  · exact fun h => Bool.false_ne_true ((Bool.not_eq_true' _).mp h |>.symm.trans ha)
  · exact List.isEmpty_iff.mpr hp

end packetIn

/-! ### Delivery in order (R292, R360 to R362) -/

section arriveHere
variable {s : State} {k : Pkt}

theorem State.arriveHere_unasked (hb : k.bad = false) (hc : k.cls = 1) (hn : ∀ r ∈ s.rly.txns, ¬ (r.txn = k.txn ∧ r.dst = k.src)) :
    s.arriveHere k = s.dropPkt k := by
  refine (if_neg (by rw [hb]; decide)).trans (if_pos ⟨hc, ?_⟩)
  simpa using hn

theorem State.stream_set (s : State) (key : Nat) (r : Reseq) :
    State.stream { s with rly.reseq := Sparse.set {} s.rly.reseq key r } key = r := Sparse.get_set_same ..

/-- One packet waits in a stream, and it is the next: it is delivered. -/
theorem State.drainStream_one {key q : Nat} {p : Pkt} (h : s.stream key = { expected := q, waiting := [(q, p)] }) :
    s.drainStream key 1 = State.deliver p
      { s with rly.reseq := Sparse.set {} s.rly.reseq key { expected := (q + 1) % 2 ^ 16, waiting := [] } } := by
  simp [State.drainStream, h]

/-- A packet that is next in its stream, where none waits, is counted in DLV and handed to the unit it sinks into. -/
theorem State.arriveHere_next (hb : k.bad = false) (hc : k.cls = 1 → ∃ r ∈ s.rly.txns, r.txn = k.txn ∧ r.dst = k.src) (hl : k.loose = false)
    (hw : (s.stream (streamKey k.src k.cls k.mc)).waiting = []) (he : (s.stream (streamKey k.src k.cls k.mc)).expected = k.seq) :
    ∃ u, s.arriveHere k = u.deliver { k with inPort := none } ∧ s.Calm u ∧ u.rly.dlv = s.rly.dlv.addNum k.epoch 1 ∧
      u.rly.rspIn = s.rly.rspIn ∧ u.rly.mgt = s.rly.mgt ∧ (u.stream (streamKey k.src k.cls k.mc)).expected = (k.seq + 1) % 2 ^ 16 := by
  have hasked : ¬ (k.cls = 1 ∧ (!s.rly.txns.any (fun r => r.txn == k.txn && r.dst == k.src)) = true) := by
    rintro ⟨h1, hnone⟩
    obtain ⟨r, hr, htxn, hdst⟩ := hc h1
    rw [Bool.not_eq_true', List.any_eq_false] at hnone
    exact hnone r hr (by rw [htxn, hdst]; simp)
  have hsent := State.Sends.returnCredits s k
  unfold State.arriveHere
  extract_lets dlv key r ahead s1 r2 s2
  rw [if_neg (by rw [hb]; decide), if_neg hasked, if_neg (by rw [hl]; decide), if_neg (by simp [ahead, r, key, hw, he])]
  have hr2 : r2 = { expected := k.seq, waiting := [(k.seq, { k with inPort := none })] } := by simp [r2, r, key, hw, he]
  rw [hr2]
  refine ⟨_, State.drainStream_one (State.stream_set ..), ?_, ?_, ?_, ?_, ?_⟩
  · exact (State.Calm.of_sends hsent).trans (.of_parts rfl rfl)
  · exact (congrArg (fun r : Rly => r.dlv.addNum k.epoch 1) hsent.rly :)
  · exact (congrArg Rly.rspIn hsent.rly :)
  · exact (congrArg Rly.mgt hsent.rly :)
  · exact congrArg Reseq.expected (State.stream_set ..)

end arriveHere

theorem State.deliver_rsp (s : State) {k : Pkt} (h : k.cls = 1) : s.deliver k = { s with rly.rspIn := s.rly.rspIn ++ [k] } := by
  rw [State.deliver, if_neg (by omega), if_pos h]

theorem State.deliver_mgt {s : State} {k : Pkt} (h : k.cls = 4) (hroom : s.mgtBytes + 16 + k.payload.length ≤ 262144) :
    s.deliver k = { s.freePkt k with rly.mgt := s.rly.mgt ++ [{ k with bufs := [] }] } := by
  rw [State.deliver, if_neg (by omega), if_neg (by omega), if_neg (by omega), if_neg (by omega), if_neg (by omega), if_neg (by omega)]

/-! ### Routing to a fenced neighbour (R371) -/

theorem State.route_fenced {s : State} {k : Pkt} {a : Nat} (hn : s.nextAxis k = some a) (hf : s.neighbourFenced a (coordOf k.dst a) = true) :
    s.route k = s.noRoute k a (coordOf k.dst a) 1 := by
  rw [State.route, hn]
  exact if_pos hf

/-! ### The resequencer's wait (R292) -/

theorem State.skipGap_empty {s : State} {key : Nat} (h : (s.stream key).waiting = []) : s.skipGap key = s := by
  rw [State.skipGap]
  dsimp only
  rw [h]

theorem State.skipGap_raises {s : State} {key : Nat} (h : (s.stream key).waiting ≠ []) : s.Calm (s.skipGap key) ∧ (s.skipGap key).errSet .sw 0 3 := by
  unfold State.skipGap
  extract_lets r ahead
  split
  · next hnone => exact absurd hnone h
  next w ws _ =>
  extract_lets gap s1 r2 rly
  have h1 : s.Calm s1 := .raise ..
  have herr : s1.errSet .sw 0 3 := State.raise_errSet _ _ _ _ _ _ _ _ (by decide)
  have h2 : s1.Calm (State.drainStream key r.waiting.length { s1 with rly.reseq := Sparse.set {} s1.rly.reseq key r2 }) := .after (.drainStream _ _ _) rfl rfl
  exact ⟨h1.trans h2, h2.errs _ _ _ herr⟩

/-! ### The detour (R370) -/

/-- The count of detours stays at a packet queued. -/
theorem State.queuePkt_detours (s : State) (n lane : Nat) (k : Pkt) : (s.queuePkt n lane k).reg .fab 0 0x88 = s.reg .fab 0 0x88 := by
  have hevt : ∀ (c : Prop) [Decidable c] (t : State) (e : Nat), e = 2 ∨ e = 3 →
      (if c then t.evtAdd .sw 0 e 1 else t).reg .fab 0 0x88 = t.reg .fab 0 0x88 := by
    intro c _ t e he
    split
    · exact State.reg_setReg_off _ _ _ _ _ _ _ _ (by omega) (by decide) (by omega)
    · rfl
  have hsent : ∀ {t u : State}, t.Sends true u → u.reg .fab 0 0x88 = t.reg .fab 0 0x88 := fun h => h.regs _ _ _ (by decide) (by decide)
  have hdrop : ∀ (t : State) (p : Pkt), (t.dropPkt p).reg .fab 0 0x88 = t.reg .fab 0 0x88 :=
    fun t p => hsent (u := (t.freePkt p).returnCredits p) ((State.Sends.freePkt t p).trans (.returnCredits _ p))
  unfold State.queuePkt
  dsimp only
  split
  · exact (hdrop _ _).trans (hsent (.overrun _ _ _ s))
  split
  · exact hdrop _ _
  · exact (hsent (.pumpPort _ _)).trans ((hevt _ _ _ (.inr rfl)).trans (hevt _ _ _ (.inl rfl)))

/-- The packet at the head of a lane leaves it. -/
def State.headTaken (s : State) (n lane : Nat) (p : Pkt) (rest : List Pkt) : State :=
  let s1 := s.setLink n { s.link n with txq := Sparse.set [] (s.link n).txq lane rest }
  { s1 with pnt.outBytes := s1.pnt.outBytes.subNum n (s1.bufBytes p.bufs) }

/-- A lane with no packet has nothing to do. -/
theorem State.starvedDetour_empty {s : State} {n lane : Nat} (h : Sparse.get [] (s.link n).txq lane = []) : s.starvedDetour n lane = s := by
  rw [State.starvedDetour]
  dsimp only
  rw [h]

/-- The head of a lane whose usable ports all lack credit takes its detour, and is counted. -/
theorem State.starvedDetour_counts {s : State} {n lane a d q : Nat} {p : Pkt} {rest : List Pkt}
    (hq : Sparse.get [] (s.link n).txq lane = p :: rest) (hen : s.rlEpoch.testBit 15 = true) (hesc : p.esc = false) (ha : s.nextAxis p = some a)
    (hd : s.detourPort p a (coordOf p.dst a) = some (d, q)) (hf : s.neighbourFenced a d = false)
    (hstarved : ∀ r ∈ s.usablePorts (s.rte p.epoch a (coordOf p.dst a)), (s.link r).credits.num lane < creditCost p.len) :
    s.Calm (s.starvedDetour n lane) ∧ (s.starvedDetour n lane).reg .fab 0 0x88 = min (2 ^ 64 - 1) (s.reg .fab 0 0x88 + 1) := by
  have hall : (s.usablePorts (s.rte p.epoch a (coordOf p.dst a))).all (fun r => decide ((s.link r).credits.num lane < creditCost p.len)) = true :=
    List.all_eq_true.mpr fun r hr => decide_eq_true (hstarved r hr)
  have heq : s.starvedDetour n lane = (s.headTaken n lane p rest).takeDetour p a d q := by
    rw [State.starvedDetour]
    dsimp only
    rw [hq]
    dsimp only
    rw [if_pos (by rw [bitOn, hen, hesc]; rfl), ha]
    dsimp only
    rw [hall, if_pos rfl, hd]
    rfl
  have hcalm : s.Calm (s.headTaken n lane p rest) := .of_parts rfl rfl
  have hregs : (s.headTaken n lane p rest).regs = s.regs := rfl
  generalize s.headTaken n lane p rest = t at *
  have hnf : ¬ t.neighbourFenced a d = true := by
    rw [State.neighbourFenced, State.reg_congr _ _ _ _ _ hregs]
    exact Bool.eq_false_iff.mp hf
  rw [heq]
  refine ⟨hcalm.trans (.takeDetour _ _ _ _ _), ?_⟩
  rw [State.takeDetour, if_neg hnf, State.queuePkt_detours]
  refine (State.reg_evtAdd_same t (by decide) 1 1).trans ?_
  rw [State.reg_congr _ _ _ _ _ hregs]
  rfl

/-! ### The statement -/

theorem exec_rallyPacketArrival_eq (n upset : Nat) (s : State) : exec (.rallyPacketArrival n upset) s =
    s.answer touchColl (s.inDomain (switchMux (portDie n)) (fun s => (s.takeArrived n upset).fabricSettled)) := rfl

theorem exec_reseqTimeout_eq (key : Nat) (s : State) : exec (.reseqTimeout key) s =
    s.answer touchColl (s.inDomain (switchMux 0) (fun s => (s.skipGap key).fabricSettled)) := rfl

theorem exec_detourTimeout_eq (n lane : Nat) (s : State) : exec (.detourTimeout n lane) s =
    s.answer touchColl (s.inDomain (switchMux (portDie n)) (fun s => (s.starvedDetour n lane).fabricSettled)) := rfl

/-- The oldest packet of a running port is taken, and the fabric settles. -/
theorem exec_rallyPacketArrival_takes {s : State} {n : Nat} {k : Pkt} {before after : List (Nat × Pkt)}
    (hclk : s.clockStopped (switchMux (portDie n)) = false) (h : s.rly.arrived = before ++ (n, k) :: after) (hb : ∀ a ∈ before, a.1 ≠ n) :
    exec (.rallyPacketArrival n 0) s = .next (s.keep touchColl
      ((s.setArrived (before ++ after)).packetIn n 0 k).fabricSettled) := by
  rw [exec_rallyPacketArrival_eq, State.answer_running hclk, State.takeArrived_eq h hb]

section statement
variable {s : State} {n : Nat} {k : Pkt} {before after : List (Nat × Pkt)}

/-- The packet is discarded and counted, and of the responses none changes. -/
theorem exec_rallyPacketArrival_discards (hs : s.CollIdle) (hclk : s.clockStopped (switchMux (portDie n)) = false)
    (h : s.rly.arrived = before ++ (n, k) :: after) (hb : ∀ a ∈ before, a.1 ≠ n) {t : State}
    (ht : (s.setArrived (before ++ after)).packetIn n 0 k = t)
    (hd : (s.setArrived (before ++ after)).Discards ((s.setArrived (before ++ after)).taken n k) t) :
    ∃ u, exec (.rallyPacketArrival n 0) s = .next u ∧
      (u.rly.arrived = before ++ after ∧ u.rly.drop.num k.epoch = s.rly.drop.num k.epoch + 1) ∧ u.rly.rspIn = s.rly.rspIn ∧ t.KeepsErrs u := by
  have hset : t.Settles (s.keep touchColl t.fabricSettled) := State.fabric_settles hs (hd.calm.after rfl rfl)
  refine ⟨_, exec_rallyPacketArrival_takes hclk h hb, ?_⟩
  rw [ht]
  exact ⟨⟨hset.arrived.trans hd.arrived, (congrArg (Sparse.num · k.epoch) hset.drop).trans hd.drop⟩, hset.rspIn.trans hd.rspIn, hset.errs⟩

/-- The packet is handed to the unit it sinks into. -/
theorem exec_rallyPacketArrival_delivers (hs : s.CollIdle) (hclk : s.clockStopped (switchMux (portDie n)) = false)
    (h : s.rly.arrived = before ++ (n, k) :: after) (hb : ∀ a ∈ before, a.1 ≠ n) (hw : k.wellFormed = true) (hp : k.payload = [])
    (hlen : k.len = 0) (ha : s.versionActive k.epoch = true) (hdst : k.dst = s.module) (hbad : k.bad = false) (hl : k.loose = false)
    (hc : k.cls = 1 → ∃ r ∈ s.rly.txns, r.txn = k.txn ∧ r.dst = k.src)
    (hwait : (s.stream (streamKey k.src k.cls k.mc)).waiting = []) (he : (s.stream (streamKey k.src k.cls k.mc)).expected = k.seq) :
    ∃ (u : State) (m : Pkt), exec (.rallyPacketArrival n 0) s = .next (s.keep touchColl (u.deliver m).fabricSettled) ∧
      (u.deliver m).Settles (s.keep touchColl (u.deliver m).fabricSettled) ∧ m.hdr = k.hdr ∧ m.payload = [] ∧
      u.rly.dlv = s.rly.dlv.addNum k.epoch 1 ∧ u.rly.rspIn = s.rly.rspIn ∧ u.rly.mgt = s.rly.mgt ∧
      (u.stream (streamKey k.src k.cls k.mc)).expected = (k.seq + 1) % 2 ^ 16 := by
  let s1 := s.setArrived (before ++ after)
  obtain ⟨u, hu, hcalm, hdlv, hrsp, hmgt, hnext⟩ := State.arriveHere_next (s := s1) (k := s1.taken n k) hbad hc hl hwait he
  have hin : State.packetIn n 0 k s1 = u.deliver { s1.taken n k with inPort := none } := by
    rw [State.packetIn_empty (s := s1) hw hp hlen ha, if_pos (show k.dst = s1.module from hdst), hu]
  have hstep : s.Calm (u.deliver { s1.taken n k with inPort := none }) :=
    ((State.Calm.of_parts rfl rfl : s.Calm s1).trans hcalm).trans (.deliver _ _)
  refine ⟨u, { s1.taken n k with inPort := none }, ?_, State.fabric_settles hs hstep, rfl, hp, hdlv, hrsp, hmgt, hnext⟩
  rw [exec_rallyPacketArrival_takes hclk h hb, hin]

end statement

/-- Settles O51: the oldest packet by what it is, then the resequencer's wait and the detour. -/
theorem packetsAreTakenAndRouted : Obligations.PacketsAreTakenAndRouted := by
  intro s n hc htr _ hclk
  have hs : s.CollIdle := ⟨hc.1, hc.2.1, htr⟩
  refine ⟨fun k before after h hb => ?arrival, fun key hclk0 => ⟨fun hnone => ?empty, fun hwait => ?skip⟩, fun lane hnone => ?idle,
    fun lane a d q p rest hq hen hesc ha hd hf hstarved => ?detour⟩
  case arrival =>
    refine ⟨fun hw => ?malformed, fun hw hlen hact => ?stale, fun hw hp hlen hact hdst a ha _ hf => ?fenced,
      fun hw hp hlen hact hdst hcls hbad => ⟨fun hnone => ?unasked, fun hsome hwait he => ?response⟩,
      fun hw hp hlen hact hdst hcls hl hbad hroom hwait he => ?management⟩
    case malformed =>
      obtain ⟨t, hexec, hdrops, -, -⟩ := exec_rallyPacketArrival_discards hs hclk h hb (State.packetIn_malformed hw 0) (.dropPkt _ _)
      exact ⟨t, hexec, hdrops⟩
    case stale =>
      have hin := State.packetIn_stale (s := s.setArrived (before ++ after)) (n := n) hw hlen hact 0
      obtain ⟨hd, herr⟩ := State.Discards.stale (s.setArrived (before ++ after)) ((s.setArrived (before ++ after)).taken n k)
      obtain ⟨t, hexec, hdrops, -, herrs⟩ := exec_rallyPacketArrival_discards hs hclk h hb hin hd
      exact ⟨t, hexec, hdrops, herrs _ _ _ herr⟩
    case fenced =>
      have hin := State.packetIn_empty (s := s.setArrived (before ++ after)) (n := n) hw hp hlen hact 0
      rw [if_neg (show ¬ k.dst = (s.setArrived (before ++ after)).module from hdst),
        State.route_fenced (s := s.setArrived (before ++ after)) (k := (s.setArrived (before ++ after)).taken n k) ha hf] at hin
      obtain ⟨hd, herr⟩ := State.Discards.noRoute (s.setArrived (before ++ after)) ((s.setArrived (before ++ after)).taken n k) a
        (coordOf k.dst a) 1
      obtain ⟨t, hexec, hdrops, -, herrs⟩ := exec_rallyPacketArrival_discards hs hclk h hb hin hd
      exact ⟨t, hexec, hdrops, herrs _ _ _ herr⟩
    case unasked =>
      have hin := State.packetIn_empty (s := s.setArrived (before ++ after)) (n := n) hw hp hlen hact 0
      rw [if_pos (show k.dst = (s.setArrived (before ++ after)).module from hdst),
        State.arriveHere_unasked (s := s.setArrived (before ++ after)) (k := (s.setArrived (before ++ after)).taken n k) hbad hcls hnone] at hin
      obtain ⟨t, hexec, hdrops, hrsp, -⟩ := exec_rallyPacketArrival_discards hs hclk h hb hin (.dropPkt _ _)
      exact ⟨t, hexec, hdrops, hrsp⟩
    case response =>
      have hl : k.loose = false := by
        simp only [Pkt.wellFormed, hcls, Bool.and_eq_true, Bool.or_eq_true] at hw
        simpa using hw.2
      obtain ⟨u, m, hexec, hset, hhdr, -, hdlv, hrsp, -, -⟩ := exec_rallyPacketArrival_delivers hs hclk h hb hw hp hlen hact hdst hbad hl
        (fun _ => hsome) (hcls ▸ hwait) (hcls ▸ he)
      have hm : m.cls = 1 := (congrArg (fun x => bits x 103 101) hhdr).trans hcls
      rw [State.deliver_rsp u hm] at hexec hset
      refine ⟨_, m, hexec, ?_, hset.rspIn.trans (by rw [hrsp]), hhdr⟩
      rw [hset.dlv]
      exact (congrArg (Sparse.num · k.epoch) hdlv).trans (Sparse.get_set_same ..)
    case management =>
      obtain ⟨u, m, hexec, hset, hhdr, hmp, hdlv, -, hmgt, hnext⟩ := exec_rallyPacketArrival_delivers hs hclk h hb hw hp hlen hact hdst hbad hl
        (fun h1 => absurd (h1.symm.trans hcls) (by decide)) (hcls ▸ hwait) (hcls ▸ he)
      have hm : m.cls = 4 := (congrArg (fun x => bits x 103 101) hhdr).trans hcls
      have hbytes : u.mgtBytes + 16 + m.payload.length ≤ 262144 := by
        rw [State.mgtBytes, hmgt, hmp]
        exact hroom
      have hfree := State.Sends.freePkt u m
      rw [State.deliver_mgt hm hbytes] at hexec hset
      refine ⟨_, hexec, ?_, ⟨{ m with bufs := [] }, hset.mgt.trans (by rw [hmgt]), hhdr⟩, ?_⟩
      · rw [hset.dlv]
        refine (congrArg (fun r : Rly => r.dlv.num k.epoch) hfree.rly : _).trans ?_
        exact (congrArg (Sparse.num · k.epoch) hdlv).trans (Sparse.get_set_same ..)
      · rw [hset.stream]
        exact (congrArg (fun r : Rly => (Sparse.get ({} : Reseq) r.reseq (streamKey k.src 4 k.mc)).expected) hfree.rly : _).trans (hcls ▸ hnext)
  case empty =>
    rw [exec_reseqTimeout_eq, State.answer_running hclk0, State.skipGap_empty hnone, State.fabricSettled_noColl hc htr]
  case skip =>
    obtain ⟨hcalm, herr⟩ := State.skipGap_raises hwait
    exact ⟨_, (exec_reseqTimeout_eq key s).trans (State.answer_running hclk0 ..), (State.fabric_settles hs hcalm).errs _ _ _ herr⟩
  case idle =>
    rw [exec_detourTimeout_eq, State.answer_running hclk, State.starvedDetour_empty hnone, State.fabricSettled_noColl hc htr]
  case detour =>
    obtain ⟨hcalm, hcount⟩ := State.starvedDetour_counts hq hen hesc ha hd hf hstarved
    exact ⟨_, (exec_detourTimeout_eq n lane s).trans (State.answer_running hclk ..),
      ((State.fabric_settles hs hcalm).regs _ _ _ (by decide) (by decide)).trans hcount⟩

end Sys2Proof.Machine
end

section
/-! PROOFS. What frames that move through the central store, and the records made of them, leave of the ports (`State.Hears`): nothing departs, no
port comes up or goes down, and none begins to receive. -/

namespace Sys2Proof.Machine

/-- No frame departs, no port comes up or goes down, and a port that receives nothing still receives nothing. -/
structure State.Hears (s t : State) : Prop where
  frames : t.out.frames = s.out.frames
  up : ∀ n, (t.port n).up = (s.port n).up
  rx : ∀ n, (s.port n).rx = none → (t.port n).rx = none

namespace State.Hears
variable {s t u : State}

theorem trans (h : s.Hears t) (k : t.Hears u) : s.Hears u where
  frames := k.frames.trans h.frames
  up n := (k.up n).trans (h.up n)
  rx n hn := k.rx n (h.rx n hn)

/-- The ports stay. -/
theorem of_ports (ports : t.ports = s.ports) (frames : t.out.frames = s.out.frames) : s.Hears t :=
  have hport : ∀ n, t.port n = s.port n := fun n => by rw [State.port, ports]; rfl
  ⟨frames, fun n => by rw [hport], fun n hn => by rw [hport, hn]⟩

theorem refl (s : State) : s.Hears s := .of_ports rfl rfl

/-- A step taken after a change that leaves the ports. -/
theorem after (h : t.Hears u) (ports : t.ports = s.ports) (frames : t.out.frames = s.out.frames) : s.Hears u := (State.Hears.of_ports ports frames).trans h

theorem of_sends {sent : Bool} (h : s.Sends sent t) : s.Hears t := .of_ports h.ports h.frames

theorem of_calm (h : s.Calm t) : s.Hears t := .of_ports h.ports h.frames

theorem foldl {α : Type} {f : State → α → State} (h : ∀ (t : State) (a : α), t.Hears (f t a)) (l : List α) (s : State) : s.Hears (l.foldl f s) :=
  List.foldlRecOn (motive := s.Hears) l f (.refl s) fun t ht a _ => ht.trans (h t a)

/-- A port changed in other parts. -/
theorem setPort (s : State) (n : Nat) {x : Port} (hup : x.up = (s.port n).up) (hrx : (s.port n).rx = none → x.rx = none) : s.Hears (s.setPort n x) := by
  have hport : ∀ m, ((s.setPort n x).port m) = if m = n then x else s.port m := fun m => by
    split
    · next h => rw [h, State.port_setPort]
    · next h => exact State.port_setPort_other _ _ _ _ h
  refine ⟨rfl, fun m => ?_, fun m hm => ?_⟩ <;> rw [hport] <;> split
  · next h => rw [h, hup]
  · rfl
  · next h => exact hrx (h ▸ hm)
  · exact hm

theorem setQueue (s : State) (n c : Nat) (q : List Copy) : s.Hears (s.setPort n ((s.port n).setQueue c q)) :=
  .setPort (x := (s.port n).setQueue c q) s n rfl id

theorem evtAdd (s : State) (p : Page) (i k n : Nat) : s.Hears (s.evtAdd p i k n) := .of_ports rfl rfl

theorem setFrame (f : Frame) (s : State) : s.Hears (s.setFrame f) := .of_ports rfl rfl

theorem onFrame (s : State) (id : Nat) (g : Frame → Frame) : s.Hears (s.onFrame id g) := by
  unfold State.onFrame
  split
  · exact .setFrame _ s
  · exact .refl s

theorem swallow (s : State) (f : Frame) : s.Hears (s.swallow f) := by
  unfold State.swallow
  split
  · exact .refl s
  split
  · next hrx => exact .setPort s _ rfl fun hnone => absurd (hnone.symm.trans hrx) nofun
  · exact .refl s

theorem removeFrame (s : State) (f : Frame) : s.Hears (s.removeFrame f) := by
  unfold State.removeFrame
  refine .trans ?_ (.of_sends (.freeBufs (sent := true) _ _ _))
  exact .after (.swallow _ f) rfl rfl

theorem reap (s : State) (id : Nat) : s.Hears (s.reap id) := by
  unfold State.reap
  split
  · split
    · exact .refl s
    · exact .removeFrame s _
  · exact .refl s

theorem enqueue (f : Frame) (s : State) (o : Nat) : s.Hears (s.enqueue f o) := by
  unfold State.enqueue
  split
  · split <;> exact .evtAdd s _ _ _ _
  extract_lets x k s1
  have h1 : s.Hears s1 := (State.Hears.setQueue s o f.ocls (x.queue f.ocls ++ [k])).trans (.onFrame _ _ _)
  exact h1.trans (.after (.of_sends (.prefetch (sent := true) _ _ _)) rfl rfl)

theorem flushFrames (s : State) (ids : List Nat) : s.Hears (s.flushFrames ids) := by
  refine .foldl (fun t id => ?_) ids s
  split
  · exact .refl t
  split
  · exact .refl t
  split
  · exact (State.Hears.setFrame _ t).trans (.reap _ _)
  · exact ((State.Hears.setFrame _ t).trans (.foldl (.enqueue _) _ _)).trans (.reap _ _)

theorem flushPort (s : State) (p : Nat) : s.Hears (s.flushPort p) := .flushFrames s _

theorem raise (s : State) (p : Page) (i b tag i0 i1 i2 : Nat) : s.Hears (s.raise p i b tag i0 i1 i2) :=
  .of_sends (.raise (sent := true) s p i b tag i0 i1 i2)

theorem sbAdd (s : State) (idx v : Nat) : s.Hears (s.sbAdd idx v) := .of_ports rfl rfl

theorem storeError (s : State) (unit tag upset q : Nat) : s.Hears (s.storeError unit tag upset q) := by
  unfold State.storeError
  extract_lets i info
  split
  · exact ((State.Hears.of_sends (.useFree (sent := true) s)).trans (.raise _ _ _ _ _ _ _ _)).trans (.sbAdd _ _ _)
  split
  · exact .raise _ _ _ _ _ _ _ _
  · exact .refl s

/-! ### Records of Sifters -/

theorem endRec (sf : Nat) (rec : SRec) (s : State) : s.Hears (s.endRec sf rec) := by
  unfold State.endRec
  refine .trans (.trans ?_ (.onFrame _ _ _)) (.reap _ _)
  split
  · exact .of_sends (.freeBufs (sent := true) _ _ s)
  · exact .refl s

theorem askRec (rec : SRec) (s : State) : s.Hears (s.askRec rec) := by
  unfold State.askRec
  extract_lets s1
  have h1 : s.Hears s1 := by
    simp only [s1]
    split
    · exact .of_sends (.touchPage (sent := true) s _)
    · exact .refl s
  split
  · split
    · exact h1
    · exact h1.trans (.of_sends (.touchBufs (sent := true) _ _))
  · exact h1

theorem writeRecord (sf : Nat) (rec : SRec) (s : State) : s.Hears (s.writeRecord sf rec) := by
  unfold State.writeRecord
  split
  next bytes bad copyLen _ =>
  extract_lets s1 s2
  have h1 : s.Hears s1 := by
    simp only [s1]
    split
    · exact .of_sends (.touchPage (sent := true) s _)
    · exact .refl s
  have h2 : s.Hears s2 := by
    simp only [s2]
    split
    · exact h1
    · exact h1.trans (.of_calm (.journalCopy _ _ _))
  exact (h2.trans (.of_calm (.ringRecord _ _ _ _ _ _ _))).trans (.endRec _ _ _)

theorem flushRecs (sf upset fuel : Nat) (s : State) : s.Hears (s.flushRecs sf upset fuel) := by
  induction fuel generalizing s upset with
  | zero => exact .refl s
  | succ fuel ih =>
    unfold State.flushRecs
    extract_lets x
    split
    · exact .refl s
    extract_lets ended went
    have hwent : ∀ t : State, t.Hears (went t) := fun t => .of_calm (.onSifter t sf _)
    split
    · exact .refl s
    split
    · refine .trans ?_ (ih _ _)
      exact (((hwent s).trans (.evtAdd _ _ _ _ _)).trans (.of_calm (.dropRec _ _))).trans (.endRec _ _ _)
    next r t hbuf =>
    have ht : s.Hears t := by
      split at hbuf
      · cases hbuf
        exact .refl s
      · obtain ⟨a, ha, hbuf⟩ := Option.map_eq_some_iff.mp hbuf
        cases hbuf
        exact .of_sends (.alloc (sent := true) ha)
    split
    · extract_lets u
      have hu : s.Hears u := (ht.trans (hwent t)).trans (.storeError _ _ _ _ _)
      refine hu.trans (.trans ?_ (ih _ _))
      split
      · exact (State.Hears.of_calm (.dropRec _ _)).trans (.endRec _ _ _)
      · exact .writeRecord _ _ _
    · exact (ht.trans (.of_calm (.onSifter t sf _))).trans (.askRec _ _)

theorem pumpAllRecs (s : State) : s.Hears s.pumpAllRecs := .foldl (fun t _ => .flushRecs _ _ _ t) _ s

end State.Hears
end Sys2Proof.Machine
end

section
/-! PROOFS. Ethernet links, and frames from arrival to departure (R280 to R291, R307, R324 to R327, R350). -/

namespace Sys2Proof.Machine

/-! ### Frames that depart -/

/-- What the wire gets of a frame on an output. -/
def Frame.departing (f : Frame) (o : Nat) : Nat × List Byte × Bool := (o, if f.bad then markedBytes f.bytes else f.bytes, f.bad)

/-- A departing copy changes the port's buckets only. -/
theorem Port.shape_eq (x : Port) (c wire : Nat) : ∃ shapers, x.shape c wire = { x with shapers := shapers } := by
  unfold Port.shape
  extract_lets h t
  split
  · exact ⟨_, rfl⟩
  split <;> exact ⟨_, rfl⟩

/-- These frames depart, no port comes up or goes down, and a port that receives nothing still receives nothing. -/
structure State.Departs (sent : List (Nat × List Byte × Bool)) (s t : State) : Prop where
  frames : t.out.frames = s.out.frames ++ sent
  up : ∀ n, (t.port n).up = (s.port n).up
  rx : ∀ n, (s.port n).rx = none → (t.port n).rx = none

namespace State.Departs
variable {sent more : List (Nat × List Byte × Bool)} {s t u : State}

theorem of_hears (h : s.Hears t) : s.Departs [] t := ⟨by rw [h.frames, List.append_nil], h.up, h.rx⟩

theorem trans (h : s.Departs sent t) (k : t.Departs more u) : s.Departs (sent ++ more) u where
  frames := by rw [k.frames, h.frames, List.append_assoc]
  up n := (k.up n).trans (h.up n)
  rx n hn := k.rx n (h.rx n hn)

theorem hears (h : s.Departs sent t) (k : t.Hears u) : s.Departs sent u := List.append_nil sent ▸ h.trans (.of_hears k)

theorem after (h : s.Hears t) (k : t.Departs sent u) : s.Departs sent u := (State.Departs.of_hears h).trans k

theorem depart (f : Frame) (s : State) (o : Nat) : s.Departs [f.departing o] (s.depart f o) := by
  unfold State.depart
  extract_lets bytes out s1 s2
  obtain ⟨shapers, hshape⟩ := (s1.port o).shape_eq f.ocls (wireLen bytes.length)
  have hup : ((s1.port o).shape f.ocls (wireLen bytes.length)).up = (s1.port o).up := by rw [hshape]
  have hrx : ((s1.port o).shape f.ocls (wireLen bytes.length)).rx = (s1.port o).rx := by rw [hshape]
  have h2 : s1.Hears s2 := .setPort s1 o hup hrx.trans
  have hsent : s.Departs [f.departing o] s2 := ⟨h2.frames, h2.up, h2.rx⟩
  split
  · exact hsent.hears (.evtAdd _ _ _ _ _)
  · exact hsent

theorem foldl_depart (f : Frame) (l : List Nat) (s : State) : s.Departs (l.map f.departing) (l.foldl (State.depart f) s) := by
  induction l generalizing s with
  | nil => exact .of_hears (.refl s)
  | cons o l ih => exact (State.Departs.depart f s o).trans (ih _)

end State.Departs

/-! ### The end of a frame (R288, R289, R301) -/

theorem State.growFrame_hears {f : Frame} {len : Nat} {s t : State} {bs : List Nat} (h : s.growFrame f len = some (bs, t)) : s.Hears t := by
  unfold State.growFrame at h
  refine List.foldlRecOn (motive := fun r => ∀ bs t, r = some (bs, t) → s.Hears t) _ _ ?_ ?_ bs t h
  · intro bs t h
    cases h
    exact .refl s
  intro r hr p _ bs t h
  split at h
  · cases h
  next bs' s' =>
    split at h
    next b t' halloc =>
      cases h
      exact (hr _ _ rfl).trans (.of_sends (.alloc (sent := true) halloc))
    · cases h

/-- A frame of at most 256 bytes needs no further buffer. -/
theorem State.growFrame_short (f : Frame) {len : Nat} (h : len ≤ 256) (s : State) : s.growFrame f len = some ([], s) := by
  rw [State.growFrame, if_neg (by omega), if_neg (by omega)]
  rfl

theorem State.Hears.meterEnd (charged : Option (Nat × Nat × Nat)) (len : Nat) (s : State) : s.Hears (s.meterEnd charged len) := by
  unfold State.meterEnd
  split
  · exact .refl s
  · exact .of_ports rfl rfl

/-- A port that receives nothing more. -/
def State.rxDone (s : State) (n : Nat) : State := s.setPort n { s.port n with rx := none }

theorem State.rxDone_port (s : State) (n : Nat) : (s.rxDone n).port n = { s.port n with rx := none } := State.port_setPort ..

/-- A frame as its end leaves it, with a buffer refused or not. -/
def Frame.atEnd (f : Frame) (data : List Byte) (good : Bool) (upset : Nat) (refused : Bool) (extra : List Nat) : Frame :=
  { f with
    bytes := (f.bytes ++ data).take 9216, complete := true, bufs := f.bufs ++ extra, ct := []
    bad := (decide (9216 < (f.bytes ++ data).length) || !good) || refused || upset == 2 || f.bad }

/-- The buffers that a frame's end needs, and whether one was refused. -/
def State.grown (s : State) (f : Frame) (len : Nat) : List Nat × Bool × State :=
  match s.growFrame f len with
  | some (bs, t) => (bs, false, t)
  | none => ([], true, s.evtAdd .pnt 0 0 1)

theorem State.grown_hears (s : State) (f : Frame) (len : Nat) : s.Hears (s.grown f len).2.2 := by
  unfold State.grown
  split
  · next h => exact State.growFrame_hears h
  · exact .evtAdd s _ _ _ _

/-- A frame that is stored whole: its end is metered, and counted where it is bad. -/
def State.frameEnded (s : State) (f0 f : Frame) (n len upset : Nat) (r288 : Bool) : State :=
  let s3 := ((s.storeError (n / 32) 0 upset (f.bufs.getLastD 0)).setFrame f).meterEnd f.meter len
  let dropped := f0.decided && f0.outs.isEmpty && f0.ct.isEmpty && !f0.held
  if r288 && !dropped && (f0.ct.isEmpty || !f0.outs.isEmpty) then s3.evtAdd .sw 0 5 1 else s3

theorem State.Hears.frameEnded (s : State) (f0 f : Frame) (n len upset : Nat) (r288 : Bool) : s.Hears (s.frameEnded f0 f n len upset r288) := by
  unfold State.frameEnded
  extract_lets s3 dropped
  have h3 : s.Hears s3 := ((State.Hears.storeError s _ _ _ _).trans (.setFrame _ _)).trans (.meterEnd _ _ _)
  split
  · exact h3.trans (.evtAdd _ _ _ _ _)
  · exact h3

/-- The end of a frame that is stored (R288, R289). -/
theorem State.endFrame_eq {s : State} {n id : Nat} {f0 : Frame} (hrx : (s.port n).rx = some id) (hf : s.frame id = some f0)
    (data : List Byte) (good : Bool) (upset : Nat) :
    let (extra, refused, s1) := (s.rxDone n).grown f0 ((f0.bytes ++ data).take 9216).length
    let f := f0.atEnd data good upset refused extra
    let s2 := s1.frameEnded f0 f n (f0.bytes ++ data).length upset (decide (9216 < (f0.bytes ++ data).length) || !good)
    s.endFrame n data good upset = ((f0.ct.foldl (State.depart f) s2).flushPort n).reap id := by
  have hf0 : (s.rxDone n).frame id = some f0 := hf
  rw [State.rxDone] at hf0
  simp only [State.endFrame, hrx, hf0]
  rfl

/-- It is sent on every output it cuts through to. -/
theorem State.endFrame_departs {s : State} {n id : Nat} {f0 : Frame} (hrx : (s.port n).rx = some id) (hf : s.frame id = some f0)
    (data : List Byte) (good : Bool) (upset : Nat) :
    let (extra, refused, _) := (s.rxDone n).grown f0 ((f0.bytes ++ data).take 9216).length
    (s.rxDone n).Departs (f0.ct.map (f0.atEnd data good upset refused extra).departing) (s.endFrame n data good upset) := by
  have hgrown := (s.rxDone n).grown_hears f0 ((f0.bytes ++ data).take 9216).length
  have heq := State.endFrame_eq hrx hf data good upset
  generalize (s.rxDone n).grown f0 ((f0.bytes ++ data).take 9216).length = g at hgrown heq ⊢
  obtain ⟨extra, refused, s1⟩ := g
  dsimp only at hgrown heq ⊢
  rw [heq]
  exact ((State.Departs.after (hgrown.trans (.frameEnded ..)) (.foldl_depart _ _ _)).hears (.flushPort _ n)).hears (.reap _ id)

/-- The end of a good frame of at most 256 bytes that has a buffer sends it as it is. -/
theorem State.endFrame_short {s : State} {n id : Nat} {f : Frame} {data : List Byte} (hrx : (s.port n).rx = some id) (hf : s.frame id = some f)
    (hbad : f.bad = false) (hlen : f.bytes.length + data.length ≤ 256) :
    (s.rxDone n).Departs (f.ct.map fun o => (o, f.bytes ++ data, false)) (s.endFrame n data true 0) := by
  have hall : (f.bytes ++ data).length ≤ 256 := by rwa [List.length_append]
  have htake : (f.bytes ++ data).take 9216 = f.bytes ++ data := List.take_of_length_le (by omega)
  have hdeparts := State.endFrame_departs hrx hf data true 0
  rw [htake, State.grown, State.growFrame_short f hall] at hdeparts
  have hwhole : (f.atEnd data true 0 false []).departing = fun o => (o, f.bytes ++ data, false) := by
    have hgood : (f.atEnd data true 0 false []).bad = false := by
      rw [Frame.atEnd, decide_eq_false (by omega), hbad]
      rfl
    funext o
    rw [Frame.departing, hgood]
    exact congrArg (fun bytes => (o, bytes, false)) htake
  exact hwhole ▸ hdeparts

/-- Whatever the port was receiving, it receives nothing after the frame's end. -/
theorem State.endFrame_rests (s : State) (n : Nat) (data : List Byte) (good : Bool) (upset : Nat) :
    ((s.endFrame n data good upset).port n).up = (s.port n).up ∧ ((s.endFrame n data good upset).port n).rx = none := by
  rcases hrx : (s.port n).rx with _ | id
  · have hsame : s.endFrame n data good upset = s := by rw [State.endFrame, hrx]
    rw [hsame]
    exact ⟨rfl, hrx⟩
  have hdone := s.rxDone_port n
  rcases hf : s.frame id with _ | f
  · have hsame : s.endFrame n data good upset = s.rxDone n := by
      have hf0 : (s.rxDone n).frame id = none := hf
      rw [State.rxDone] at hf0
      simp only [State.endFrame, hrx, hf0]
      rfl
    rw [hsame, hdone]
    exact ⟨rfl, rfl⟩
  · have hdeparts := State.endFrame_departs hrx hf data good upset
    exact ⟨(hdeparts.up n).trans (by rw [hdone]), hdeparts.rx n (by rw [hdone])⟩

/-! ### A frame that is stored alone -/

section
variable {s : State} {f : Frame} (h : s.sw.frames = [f])
include h

theorem State.frame_of_alone : s.frame f.id = some f := by simp [State.frame, h]

theorem State.setFrame_alone {g : Frame} (hg : g.id = f.id) : (s.setFrame g).sw.frames = [g] := by simp [State.setFrame, h, hg]

theorem State.onFrame_alone (g : Frame → Frame) (hg : (g f).id = f.id) : (s.onFrame f.id g).sw.frames = [g f] := by
  rw [State.onFrame, State.frame_of_alone h]
  exact State.setFrame_alone h hg

theorem State.reap_needed (hn : f.needed = true) : s.reap f.id = s := by simp [State.reap, State.frame_of_alone h, hn]

/-- A whole frame that nothing needs leaves, and its buffers go back. -/
theorem State.reap_alone (hn : f.needed = false) (hc : f.complete = true) :
    s.reap f.id = ({ s with sw.frames := [] } : State).freeBufs (f.port / 32) f.bufs := by
  simp [State.reap, State.frame_of_alone h, hn, State.removeFrame, State.swallow, hc, h]

theorem State.heldBack_alone (o : Nat) {g : Frame} (hg : g.id = f.id) : s.heldBack g o = false := by simp [State.heldBack, h, hg]

end

/-- A whole good frame that is settled and stored alone takes its places in the queues. -/
theorem State.flushPort_alone {s : State} {f : Frame} (h : s.sw.frames = [f]) (hd : f.decided = true) (hheld : f.held = false)
    (hc : f.complete = true) (hb : f.bad = false) :
    s.flushPort f.port = (f.outs.foldl (State.enqueue f) (s.setFrame { f with outs := [] })).reap f.id := by
  have hof : s.framesOf f.port = [f.id] := by simp [State.framesOf, h]
  rw [State.flushPort, hof, State.flushFrames]
  simp [State.frame_of_alone h, hd, hheld, hc, hb, State.heldBack_alone h]

theorem State.flushPort_out {s : State} {f : Frame} (h : s.sw.frames = [f]) (hd : f.decided = true) (hheld : f.held = false)
    (hc : f.complete = true) (hb : f.bad = false) {o : Nat} (ho : f.outs = [o]) :
    s.flushPort f.port = ((s.setFrame { f with outs := [] }).enqueue f o).reap f.id := by
  rw [State.flushPort_alone h hd hheld hc hb, ho]
  rfl

/-- The copy of a frame that a queue takes. -/
def Frame.copy (f : Frame) : Copy := { frame := f.id, stamp := f.stamp, inPort := f.port, seq := f.seq, len := f.bytes.length, cls := f.cls }

theorem State.enqueue_alone {s : State} {f g : Frame} (h : s.sw.frames = [g]) (hg : g.id = f.id) {o : Nat} (hout : s.outBelow o = true) :
    (s.enqueue f o).sw.frames = [{ g with refs := g.refs + 1 }] ∧
      ((s.enqueue f o).port o).queue f.ocls = (s.port o).queue f.ocls ++ [f.copy] := by
  let s1 := s.setPort o ((s.port o).setQueue f.ocls ((s.port o).queue f.ocls ++ [f.copy]))
  have h1 : (s1.onFrame f.id fun g => { g with refs := g.refs + 1 }).sw.frames = [{ g with refs := g.refs + 1 }] :=
    hg ▸ State.onFrame_alone (s := s1) h _ rfl
  have hages : s1.Ages [] o (s1.onFrame f.id fun g => { g with refs := g.refs + 1 }) := .onFrame _ _ _
  rw [State.enqueue, hout]
  have hfetch := fun t : State => State.Sends.prefetch (sent := true) t o f.ocls
  refine ⟨(congrArg Sw.frames (hfetch _).sw).trans h1, (congrArg (Port.queue · f.ocls) ((hfetch _).port o)).trans ((hages.queue _ List.not_mem_nil).trans ?_)⟩
  rw [State.port_setPort, Port.queue_setQueue]

/-! ### A lookup that misses (R280, R324) -/

/-- A frame just stored whole that is dropped leaves no frame behind. -/
theorem State.dropFrame_alone {s : State} {f : Frame} (h : s.sw.frames = [f]) (hc : f.complete = true) (hb : f.bad = false) (hrefs : f.refs = 0)
    (hrecs : f.recs = 0) (hct : f.ct = []) :
    (s.dropFrame f.id).sw.frames = [] ∧ ({ s with sw.frames := [] } : State).Sends false (s.dropFrame f.id) := by
  let g : Frame := { f with decided := true, outs := [], held := false }
  have hset : (s.setFrame g).sw.frames = [g] := State.setFrame_alone h rfl
  have hset2 : ((s.setFrame g).setFrame g).sw.frames = [g] := State.setFrame_alone hset rfl
  have hunneeded : g.needed = false := by simp [g, Frame.needed, hrefs, hrecs, hct, hc]
  have hgone : ∀ t : State, t.sw.frames = [g] → t.reap f.id = ({ t with sw.frames := [] } : State).freeBufs (f.port / 32) f.bufs :=
    fun t ht => State.reap_alone (f := g) ht hunneeded hc
  have hflush : (s.setFrame g).flushPort f.port = ({ s with sw.frames := [] } : State).freeBufs (f.port / 32) f.bufs := by
    rw [show f.port = g.port from rfl, State.flushPort_alone hset rfl rfl hc hb]
    exact (hgone _ hset2).trans rfl
  have hfree := State.Sends.freeBufs (sent := false) (f.port / 32) f.bufs ({ s with sw.frames := [] } : State)
  have hframes := congrArg Sw.frames hfree.sw
  have hdrop : s.dropFrame f.id = ({ s with sw.frames := [] } : State).freeBufs (f.port / 32) f.bufs := by
    rw [State.dropFrame, State.frame_of_alone h]
    exact (congrArg (State.reap f.id) hflush).trans (by simp [State.reap, State.frame, hframes])
  rw [hdrop]
  exact ⟨hframes, hfree⟩

/-- A frame whose verdict is settled. -/
def Frame.settled (f : Frame) (cls : Nat) (outs : List Nat) : Frame := { f with decided := true, outs := outs, ocls := cls }

/-- A whole frame that cuts through to no output takes its places in the queues. -/
theorem State.settleFrame_uncut {s : State} {id : Nat} {f : Frame} (hf : s.frame id = some f) (hc : f.complete = true) {cls : Nat} {outs : List Nat}
    (hcut : (if f.complete && f.bad then [] else outs.filter ((s.setFrame (f.settled cls outs)).cutThrough (f.settled cls outs))) = []) :
    s.settleFrame id cls outs =
      (((((s.setFrame (f.settled cls outs)).setFrame { f.settled cls outs with ct := [] }).evtAdd .sw 0 2 0).flushPort f.port).reap id) := by
  have hall : outs.filter (fun o => !([] : List Nat).contains o) = outs := by simp
  generalize hcs : (if f.complete && f.bad then [] else outs.filter ((s.setFrame (f.settled cls outs)).cutThrough (f.settled cls outs))) = cut at hcut
  have heq : s.settleFrame id cls outs =
      (((if f.complete then cut.foldl (State.depart (f.settled cls outs))
          (((s.setFrame (f.settled cls outs)).setFrame
            { f.settled cls outs with outs := outs.filter (fun o => !cut.contains o), ct := if f.complete then [] else cut }).evtAdd .sw 0 2 cut.length)
        else cut.foldl (fun s o => s.setPort o ((s.port o).shapeOpen cls))
          (((s.setFrame (f.settled cls outs)).setFrame
            { f.settled cls outs with outs := outs.filter (fun o => !cut.contains o), ct := if f.complete then [] else cut }).evtAdd .sw 0 2 cut.length)
        ).flushPort f.port).reap id) := by
    subst hcs
    rw [State.settleFrame, hf]
    rfl
  rw [heq, hcut, hc, hall]
  rfl

/-- A frame settled on one output whose copy waits there. -/
def Frame.queued (f : Frame) (cls : Nat) : Frame := { f with decided := true, outs := [], ct := [], ocls := cls, refs := f.refs + 1 }

theorem State.outBelow_congr {s t : State} {o : Nat} (hreg : t.reg .port o 0x408 = s.reg .port o 0x408) (hbytes : t.pnt.outBytes = s.pnt.outBytes) :
    t.outBelow o = s.outBelow o := by
  rw [State.outBelow, State.fld, hreg, hbytes]
  rfl

/-- A frame just stored whole that may not cut through to its output waits there, last in its class's queue. -/
theorem State.settleFrame_alone {s : State} {f : Frame} (h : s.sw.frames = [f]) (hc : f.complete = true) (hb : f.bad = false) (hheld : f.held = false)
    {o cls : Nat} (hcut : s.fld .port f.port 0x400 0 0 ≠ 1) (hout : s.outBelow o = true) :
    (s.settleFrame f.id cls [o]).sw.frames = [f.queued cls] ∧
      ((s.settleFrame f.id cls [o]).port o).queue cls = (s.port o).queue cls ++ [f.copy] ∧ s.Hears (s.settleFrame f.id cls [o]) := by
  let g : Frame := { f.settled cls [o] with ct := [] }
  let t := ((s.setFrame (f.settled cls [o])).setFrame g).evtAdd .sw 0 2 0
  have ht : t.sw.frames = [g] := State.setFrame_alone (f := f.settled cls [o]) (State.setFrame_alone h rfl) rfl
  have hnocut : (s.setFrame (f.settled cls [o])).cutThrough (f.settled cls [o]) o = false := by
    have : (s.setFrame (f.settled cls [o])).fld .port (f.settled cls [o]).port 0x400 0 0 ≠ 1 := hcut
    simp [State.cutThrough, this]
  let g' : Frame := { g with outs := [] }
  let u := (t.setFrame g').enqueue g o
  have hbelow : (t.setFrame g').outBelow o = true :=
    (State.outBelow_congr ((State.Ages.evtAdd (cs := []) (n := o) _ .sw 0 2 0 (by decide)).regs .port o 0x408 (by decide) (by decide)) rfl).trans hout
  obtain ⟨hu, hq⟩ := State.enqueue_alone (s := t.setFrame g') (f := g) (State.setFrame_alone ht rfl) rfl hbelow
  have hneeded : (f.queued cls).needed = true := by simp [Frame.needed, Frame.queued]
  have hreap : u.reap f.id = u := State.reap_needed (f := f.queued cls) hu hneeded
  have hsettle : s.settleFrame f.id cls [o] = u := by
    rw [State.settleFrame_uncut (State.frame_of_alone h) hc (by simp [hnocut])]
    change (t.flushPort g.port).reap f.id = u
    rw [State.flushPort_out (o := o) ht rfl hheld hc hb rfl]
    exact (congrArg (State.reap f.id) hreap).trans hreap
  have hears : s.Hears u := ((((State.Hears.setFrame _ s).trans (.setFrame g _)).trans (.evtAdd _ _ _ _ _)).trans (.setFrame _ _)).trans (.enqueue g _ o)
  rw [hsettle]
  exact ⟨hu, hq, hears⟩

/-! ### Arrival (R280, R288, R325) -/

/-- A frame that arrives whole is stamped and counted on its port. -/
def State.arrived (s : State) (n : Nat) : State :=
  (s.stampArrival n).setPort n { s.port n with arrivals := (s.port n).arrivals + 1, rx := none }

/-- What the central store keeps of it, in a buffer. -/
def State.arrival (s : State) (n : Nat) (data : List Byte) (cls b arrivals : Nat) : Frame :=
  { id := s.sw.nextFrame, port := n, stamp := s.timeOn (portDie n), seq := arrivals, bytes := data, complete := true, cls := cls, bufs := [b] }

/-- A frame is kept. -/
def State.keepFrame (s : State) (f : Frame) : State := { s with sw.frames := s.sw.frames ++ [f], sw.nextFrame := f.id + 1 }

theorem State.ethArrive_ignored {s : State} {n : Nat} (h : s.ethUp n = false ∨ (s.port n).rx ≠ none) (data : List Byte) (ended fcsOk : Bool)
    (upset index : Nat) : s.ethArrive n data ended fcsOk upset index = s := by
  have : (!s.ethUp n || (s.port n).rx.isSome) = true := by
    obtain hdown | hbusy := h
    · rw [hdown]; rfl
    · rw [Option.isSome_iff_ne_none.mpr hbusy, Bool.or_true]
  rw [State.ethArrive, if_pos this]

section
variable {s : State} {n : Nat} (hup : s.ethUp n = true) (hrx : (s.port n).rx = none)
include hup hrx

theorem State.ethArrive_eq (data : List Byte) (fcsOk : Bool) (index : Nat) : s.ethArrive n data true fcsOk 0 index =
    if !fcsOk then (s.arrived n).evtAdd .sw 0 5 1
    else match (s.arrived n).alloc (s.ingressClass n (parseFrame data)) 0 (some n) with
      | none => (s.arrived n).evtAdd .pnt 0 0 1
      | some (b, s1) =>
        let f := s1.arrival n data (s.ingressClass n (parseFrame data)) b ((s.port n).arrivals + 1)
        match (s1.keepFrame f).lookup (parseFrame data) data n (s.ingressClass n (parseFrame data)) with
        | (none, s6) => s6.missed f
        | (some r, s6) => s6.resultKnown f (parseFrame data) r := by
  rw [State.ethArrive, hup, hrx]
  rfl

/-- A whole frame with a bad FCS is counted and not kept. -/
theorem State.ethArrive_bad (data : List Byte) (index : Nat) : s.ethArrive n data true false 0 index = (s.arrived n).evtAdd .sw 0 5 1 :=
  State.ethArrive_eq hup hrx data false index

/-- A frame refused a buffer is counted. -/
theorem State.ethArrive_refused {data : List Byte} (h : s.canAlloc (s.ingressClass n (parseFrame data)) 0 (some n) = false) (index : Nat) :
    s.ethArrive n data true true 0 index = (s.arrived n).evtAdd .pnt 0 0 1 := by
  have hno : (s.arrived n).alloc (s.ingressClass n (parseFrame data)) 0 (some n) = none := by
    have : (s.arrived n).canAlloc (s.ingressClass n (parseFrame data)) 0 (some n) = false := h
    rw [State.alloc, this]
    rfl
  rw [State.ethArrive_eq hup hrx, hno]
  rfl

end

theorem State.alloc_of_canAlloc {s : State} {c p : Nat} {port : Option Nat} (h : s.canAlloc c p port = true) : ∃ b t, s.alloc c p port = some (b, t) := by
  obtain ⟨q, hq⟩ := Option.isSome_iff_exists.mp (Bool.and_eq_true_iff.mp h).2
  exact ⟨q, _, by rw [State.alloc, h, hq]; rfl⟩

theorem State.lookup_miss {s : State} {p : Parsed} {data : List Byte} {n cls : Nat} (h : s.ternaryHit (s.ternaryKey p data n cls) = none) :
    s.lookup p data n cls = (none, s.evtAdd .sw 0 0 1) := by
  rw [State.lookup, h]

theorem State.ternaryHit_congr {s t : State} (h : t.sw.tcam = s.sw.tcam) (key : Nat) : t.ternaryHit key = s.ternaryHit key := by
  rw [State.ternaryHit, h]
  rfl

theorem State.ternaryKey_congr {s t : State} {n : Nat} (h : t.reg .port n 0x410 = s.reg .port n 0x410) (p : Parsed) (data : List Byte) (cls : Nat) :
    t.ternaryKey p data n cls = s.ternaryKey p data n cls := by
  rw [State.ternaryKey, h]
  rfl

/-- A whole good frame whose lookup misses is stored, and the miss is counted. -/
theorem State.ethArrive_missed {s : State} {n : Nat} {data : List Byte} (hup : s.ethUp n = true) (hrx : (s.port n).rx = none)
    (hcan : s.canAlloc (s.ingressClass n (parseFrame data)) 0 (some n) = true)
    (hmiss : s.ternaryHit (s.ternaryKey (parseFrame data) data n (s.ingressClass n (parseFrame data))) = none) (index : Nat) :
    ∃ b s1, (s.arrived n).Sends false s1 ∧
      let f := s1.arrival n data (s.ingressClass n (parseFrame data)) b ((s.port n).arrivals + 1)
      s.ethArrive n data true true 0 index = ((s1.keepFrame f).evtAdd .sw 0 0 1).missed f := by
  obtain ⟨b, s1, halloc⟩ := State.alloc_of_canAlloc (s := s.arrived n) (c := s.ingressClass n (parseFrame data)) (p := 0) (port := some n) hcan
  have hsends : (s.arrived n).Sends false s1 := .alloc halloc
  refine ⟨b, s1, hsends, ?_⟩
  have hkey : (s1.keepFrame (s1.arrival n data (s.ingressClass n (parseFrame data)) b ((s.port n).arrivals + 1))).ternaryHit
      (s1.ternaryKey (parseFrame data) data n (s.ingressClass n (parseFrame data))) = none := by
    rw [State.ternaryKey_congr (hsends.regs _ _ _ (by decide) (by decide))]
    exact (State.ternaryHit_congr (congrArg Sw.tcam hsends.sw) _).trans hmiss
  rw [State.ethArrive_eq hup hrx, halloc]
  simp only [State.lookup_miss hkey]
  rfl

end Sys2Proof.Machine
end

section
/-! PROOFS. Frames that miss, and the copy that a port selects (R280, R313, R324, R326, R327): `Obligations.EthernetFrames`. -/

namespace Sys2Proof.Machine

/-! ### A frame that missed -/

/-- What a frame that missed, stored alone, finds of the state it arrived at. -/
structure State.Missed (s : State) (n : Nat) (f : Frame) (u : State) : Prop where
  alone : u.sw.frames = [f]
  setting : u.reg .port n 0x400 = s.reg .port n 0x400
  below : ∀ o, u.outBelow o = s.outBelow o
  count : u.reg .sw 0 0x80 = min max64 (s.reg .sw 0 0x80 + 1)
  queue : ∀ o c, (u.port o).queue c = (s.port o).queue c
  sent : u.out.frames = s.out.frames

theorem State.arrived_queue (s : State) (n o c : Nat) : ((s.arrived n).port o).queue c = (s.port o).queue c := by
  rw [State.arrived]
  by_cases h : o = n
  · rw [h, State.port_setPort]
    rfl
  · rw [State.port_setPort_other _ _ _ _ h]
    rfl

theorem State.Sends.timeOn {sent : Bool} {s t : State} (h : s.Sends sent t) (die : Nat) : t.timeOn die = s.timeOn die := by
  rw [State.timeOn, State.clockStopped, State.mux, h.clk, h.time]
  rfl

/-- A frame stored as the first is counted as a miss. -/
theorem State.Sends.missed {s t : State} {n : Nat} (h : (s.arrived n).Sends false t) (hnone : s.sw.frames = []) (f : Frame) :
    s.Missed n f ((t.keepFrame f).evtAdd .sw 0 0 1) := by
  have hregs : ∀ (p : Page) (i o : Nat), 0xC0 ≤ o → o < 0x1000 → ((t.keepFrame f).evtAdd .sw 0 0 1).reg p i o = s.reg p i o := fun p i o h1 h2 =>
    ((State.Ages.evtAdd (cs := []) (n := 0) (t.keepFrame f) .sw 0 0 1 (by decide)).regs p i o h1 h2).trans
      ((State.Ages.of_sends (cs := []) (n := 0) h).regs p i o h1 h2)
  refine ⟨?_, hregs _ _ _ (by decide) (by decide), fun o => ?_, ?_, fun o c => ?_, h.frames⟩
  · exact (congrArg (· ++ [f]) ((congrArg Sw.frames h.sw).trans hnone)).trans rfl
  · exact State.outBelow_congr (hregs _ _ _ (by decide) (by decide)) h.outBytes
  · exact ((t.keepFrame f).reg_evtAdd_same (by decide) 0 1).trans (congrArg (fun v => min max64 (v + 1)) (h.regs .sw 0 0x80 (by decide) (by decide)))
  · exact (congrArg (Port.queue · c) (h.port o)).trans (s.arrived_queue n o c)

section
variable {s u : State} {n : Nat} {f : Frame} (h : s.Missed n f u) (hp : f.port = n) (hc : f.complete = true) (hb : f.bad = false)
include h hp hc hb

/-- By the port's setting it is dropped and leaves no frame behind. -/
theorem State.Missed.dropped (hrefs : f.refs = 0) (hrecs : f.recs = 0) (hct : f.ct = []) (hset : bits (s.reg .port n 0x400) 2 1 ≠ 1) :
    (u.missed f).sw.frames = [] ∧ (u.missed f).reg .sw 0 0x80 = min max64 (s.reg .sw 0 0x80 + 1) ∧ (u.missed f).out.frames = s.out.frames := by
  obtain ⟨hgone, hsends⟩ := State.dropFrame_alone h.alone hc hb hrefs hrecs hct
  have hmissed : u.missed f = u.dropFrame f.id := by rw [State.missed, hp, h.setting, if_neg hset]
  rw [hmissed]
  exact ⟨hgone, (hsends.regs .sw 0 0x80 (by decide) (by decide)).trans h.count, hsends.frames.trans h.sent⟩

/-- Or, with cut-through off, it waits whole at MISS_PORT, last in its class's queue. -/
theorem State.Missed.forwarded (hheld : f.held = false) (hset : bits (s.reg .port n 0x400) 2 1 = 1) (hcut : bit (s.reg .port n 0x400) 0 = 0)
    (hout : s.outBelow (bits (s.reg .port n 0x400) 14 8) = true) :
    (u.missed f).sw.frames = [f.queued f.cls] ∧
      ((u.missed f).port (bits (s.reg .port n 0x400) 14 8)).queue f.cls = (s.port (bits (s.reg .port n 0x400) 14 8)).queue f.cls ++ [f.copy] ∧
      (u.missed f).out.frames = s.out.frames := by
  have hmissed : u.missed f = u.settleFrame f.id f.cls [bits (s.reg .port n 0x400) 14 8] := by rw [State.missed, hp, h.setting, if_pos hset]
  have hoff : u.fld .port f.port 0x400 0 0 ≠ 1 := by
    have : bits (s.reg .port n 0x400) 0 0 = bit (s.reg .port n 0x400) 0 := rfl
    rw [State.fld, hp, h.setting, this, hcut]
    decide
  obtain ⟨hframes, hqueue, hears⟩ := State.settleFrame_alone (cls := f.cls) h.alone hc hb hheld hoff ((h.below _).trans hout)
  rw [hmissed]
  exact ⟨hframes, hqueue.trans (congrArg (· ++ [f.copy]) (h.queue _ _)), hears.frames.trans h.sent⟩

end

/-! ### The copy that a port selects (R313, R326, R327) -/

/-- Asking for pages changes only which pages are marked. -/
def State.asked (s : State) (touched out waits : List Nat) : State := { s with pnt.touched := touched, pnt.pagingOut := out, pnt.waitIn := waits }

/-- The state with pages asked for, and nothing else changed. -/
def State.Asks (s t : State) : Prop := ∃ touched out waits, t = s.asked touched out waits

namespace State.Asks
variable {s t u : State}

theorem refl (s : State) : s.Asks s := ⟨_, _, _, rfl⟩

theorem trans (h : s.Asks t) (k : t.Asks u) : s.Asks u := by
  obtain ⟨_, _, _, rfl⟩ := h
  obtain ⟨_, _, _, rfl⟩ := k
  exact ⟨_, _, _, rfl⟩

theorem foldl {α : Type} {f : State → α → State} (h : ∀ (t : State) (a : α), t.Asks (f t a)) (l : List α) (s : State) : s.Asks (l.foldl f s) :=
  List.foldlRecOn (motive := s.Asks) l f (.refl s) fun t ht a _ => ht.trans (h t a)

theorem touchPage (s : State) (pg : Nat) : s.Asks (s.touchPage pg) := by
  unfold State.touchPage
  split
  · exact .refl s
  · split <;> exact ⟨_, _, _, rfl⟩

theorem prefetch (s : State) (n c : Nat) : s.Asks (s.prefetch n c) := by
  refine .foldl (fun t k => ?_) _ s
  split
  · refine .foldl (fun t q => ?_) _ t
    split
    · exact .refl t
    · exact .touchPage t _
  · exact .refl t

theorem pickClass (h : s.Asks t) (n : Nat) : t.pickClass n = s.pickClass n := by
  obtain ⟨_, _, _, rfl⟩ := h
  rfl

end State.Asks

/-- The choice of a class changes only what the scheduler keeps of the port. -/
theorem State.pickClass_port (s : State) (n : Nat) :
    ∃ deficit visited last, (s.pickClass n).2 = { s.port n with deficit := deficit, visited := visited, lastServed := last } := by
  unfold State.pickClass
  extract_lets x ok x1 strict order
  split
  · exact ⟨_, _, _, rfl⟩
  split
  · exact ⟨_, _, _, rfl⟩
  split <;> exact ⟨_, _, _, rfl⟩

theorem State.frame_onFrame {s : State} {id : Nat} {f : Frame} (h : s.frame id = some f) (g : Frame → Frame) (hg : (g f).id = f.id) :
    (s.onFrame id g).frame id = some (g f) := by
  have hid : f.id = id := by simpa using List.find?_some h
  rw [State.onFrame, h]
  have hsame : (fun e : Frame => e.id == id) ∘ (fun e : Frame => if e.id == (g f).id then g f else e) = fun e => e.id == id := by
    funext e
    simp only [Function.comp]
    split
    next he => rw [eq_of_beq he]
    · rfl
  have hfind := List.find?_map (p := fun e : Frame => e.id == id) (f := fun e : Frame => if e.id == (g f).id then g f else e) (l := s.sw.frames)
  rw [hsame] at hfind
  refine hfind.trans ?_
  rw [show s.sw.frames.find? (fun e => e.id == id) = some f from h]
  simp [hg]

theorem State.Hears.dequeue (s : State) (n c : Nat) (k : Copy) : s.Hears (s.dequeue n c k) := by
  unfold State.dequeue
  extract_lets x s1 size pnt s2
  have h1 : s.Hears s1 := .setQueue s n c _
  exact h1.trans (.after (.onFrame s2 _ _) rfl rfl)

theorem State.frame_dequeue {s : State} {k : Copy} {f : Frame} (h : s.frame k.frame = some f) (n c : Nat) :
    (s.dequeue n c k).frame k.frame = some { f with refs := f.refs - 1 } := by
  unfold State.dequeue
  extract_lets x s1 size pnt s2
  exact State.frame_onFrame (s := s2) h (fun g => { g with refs := g.refs - 1 }) rfl

theorem State.Ages.depart {n : Nat} (f : Frame) (s : State) : s.Ages [] n (s.depart f n) := by
  unfold State.depart
  extract_lets bytes out s1 s2
  obtain ⟨shapers, hshape⟩ := (s1.port n).shape_eq f.ocls (wireLen bytes.length)
  have hport : s2.port n = { s.port n with shapers := shapers } := (State.port_setPort ..).trans hshape
  have h2 : s.Ages [] n s2 := ⟨fun c _ => by rw [hport]; rfl, by rw [hport], by rw [hport], rfl, fun _ _ _ _ _ => rfl⟩
  split
  · exact h2.trans (.evtAdd _ _ _ _ _ (by decide))
  · exact h2

theorem State.Hears.keepDeficits (s : State) (n : Nat) : s.Hears (s.keepDeficits n) := by
  unfold State.keepDeficits
  exact .setPort s n rfl id

/-- The head copy of the class selected departs unless it is too old. -/
theorem State.txSelect_sends {s : State} {n c : Nat} {x : Port} {k : Copy} {tl : List Copy} {f : Frame} (hpick : s.pickClass n = (some c, x))
    (hq : (s.port n).queue c = k :: tl) (hage : s.aged k = false) (hf : s.frame k.frame = some f) (hbad : f.bad = false) (fuel : Nat) :
    (s.txSelect n (fuel + 1)).out.frames = s.out.frames ++ [(n, f.bytes, false)] ∧ ((s.txSelect n (fuel + 1)).port n).queue c = tl := by
  obtain ⟨_, _, _, hx⟩ := s.pickClass_port n
  rw [hpick] at hx
  change x = _ at hx
  let s1 := (s.setPort n x).dequeue n c k
  let g : Frame := { f with refs := f.refs - 1 }
  have hg : s1.frame k.frame = some g := State.frame_dequeue (s := s.setPort n x) hf n c
  have heq : s.txSelect n (fuel + 1) = ((((s1.touchBufs g.bufs).depart { g with ocls := c } n).prefetch n c).reap k.frame).keepDeficits n := by
    rw [State.txSelect, hpick]
    simp only [hq, hage, hg, s1]
    rfl
  have hqx : ((s.setPort n x).port n).queue c = k :: tl := by
    rw [State.port_setPort, hx]
    exact hq
  have hq1 : (s1.port n).queue c = tl := ((s.setPort n x).dequeue_ages n c k).2.trans (by rw [hqx]; rfl)
  have hsent : ({ g with ocls := c } : Frame).departing n = (n, f.bytes, false) := by
    change (n, if f.bad then markedBytes f.bytes else f.bytes, f.bad) = _
    rw [hbad]
    rfl
  have htouch := State.Sends.touchBufs (sent := true) s1 g.bufs
  have hrest : ∀ t : State, t.Sends true (t.prefetch n c) := fun t => .prefetch t n c
  rw [heq]
  constructor
  · have hframes : s1.out.frames = s.out.frames := (State.Hears.dequeue (s.setPort n x) n c k).frames
    have hdeparts := State.Departs.after (.of_sends htouch) (.depart { g with ocls := c } _ n)
    have hall := ((hdeparts.hears (.of_sends (hrest _))).hears (.reap _ k.frame)).hears (.keepDeficits _ n)
    rw [hall.frames, hframes, hsent]
  · have hages := ((((State.Ages.of_sends (cs := []) htouch).trans (.depart { g with ocls := c } _)).trans (.of_sends (hrest _))).trans
      (.reap _ k.frame)).trans (.keepDeficits _ n)
    exact (hages.queue c List.not_mem_nil).trans hq1

/-- Pages asked for before do not change that. -/
theorem State.Asks.txSelect_sends {s t : State} (h : s.Asks t) {n c : Nat} {x : Port} {k : Copy} {tl : List Copy} {f : Frame}
    (hpick : s.pickClass n = (some c, x)) (hq : (s.port n).queue c = k :: tl) (hage : s.aged k = false) (hf : s.frame k.frame = some f)
    (hbad : f.bad = false) (fuel : Nat) :
    (t.txSelect n (fuel + 1)).out.frames = s.out.frames ++ [(n, f.bytes, false)] ∧ ((t.txSelect n (fuel + 1)).port n).queue c = tl := by
  have hpick' := (h.pickClass n).trans hpick
  obtain ⟨_, _, _, rfl⟩ := h
  exact State.txSelect_sends hpick' hq hage hf hbad fuel

theorem State.txSelectCmd_idle {s : State} {n : Nat} (hup : s.ethUp n = true) (hidle : s.txBusy n = false) :
    s.txSelectCmd n = ((List.range 8).foldl (fun t c => t.prefetch n c) s).txSelect n (s.queuedCopies n + 1) := by
  have : (s.ethUp n && !s.txBusy n) = true := by rw [hup, hidle]; rfl
  rw [State.txSelectCmd, if_pos this]

/-! ### `Obligations.EthernetFrames` -/

theorem exec_ethernetLinkUp_eq (n : Nat) (s : State) : exec (.ethernetLinkUp n) s =
    s.answer { ports := true } (s.inDomain (switchMux (portDie n)) (fun s => s.ethLinkUp n)) := rfl

theorem exec_ethernetLinkDown_eq (n : Nat) (s : State) : exec (.ethernetLinkDown n) s =
    s.answer touchFrames (s.inDomain (switchMux (portDie n)) (fun s => s.ethLinkDown n)) := rfl

theorem exec_ethFrameArrival_eq (n : Nat) (data : List (BitVec 8)) (ended fcsOk : Bool) (upset index : Nat) (s : State) :
    exec (.ethFrameArrival n data ended fcsOk upset index) s = s.answer { touchFrames with time := true }
      (s.inDomain (switchMux (portDie n)) (fun s => s.ethArrive n data ended fcsOk upset index)) := rfl

theorem exec_ethFrameEnd_eq (n : Nat) (data : List (BitVec 8)) (fcsOk : Bool) (upset : Nat) (s : State) :
    exec (.ethFrameEnd n data fcsOk upset) s = s.answer touchFrames (s.inDomain (switchMux (portDie n)) (fun s => s.ethEnd n data fcsOk upset)) := rfl

theorem exec_txSelect_eq (n : Nat) (s : State) : exec (.txSelect n) s =
    s.answer touchFrames (s.inDomain (switchMux (portDie n)) (fun s => (s.txSelectCmd n).pumpAll)) := rfl

/-- A port comes up where its mode, its EN, its clock and its neighbour's width permit it (R348, R350). -/
theorem State.ethLinkUp_eq (s : State) (n : Nat) : s.ethLinkUp n =
    if s.portMode n = 1 ∧ s.fld .port n 0x810 0 0 = 1 ∧ s.serdesOn n = true ∧ (n % 2 = 1 → s.fld .port (n - 1) 0x810 4 3 ≠ 3)
    then s.setPort n { s.port n with up := true } else s := by
  unfold State.ethLinkUp
  refine if_congr ?_ rfl rfl
  simp only [Bool.and_eq_true, Bool.not_eq_true', beq_iff_eq, Bool.and_eq_false_imp, beq_eq_false_iff_ne]
  tauto

theorem State.ethLinkDown_rests (s : State) (n : Nat) : ((s.ethLinkDown n).port n).up = false ∧ ((s.ethLinkDown n).port n).rx = none := by
  have hdown := State.port_setPort n { s.port n with up := false } s
  obtain ⟨hup, hrx⟩ := (s.setPort n { s.port n with up := false }).endFrame_rests n [] false 0
  have hrecs := State.Hears.pumpAllRecs ((s.setPort n { s.port n with up := false }).endFrame n [] false 0)
  exact ⟨(hrecs.up n).trans (hup.trans (by rw [hdown])), hrecs.rx n hrx⟩

/-- Settles O47: each event of a link or a frame, by what it does to a frame stored alone or to the head of a queue. -/
theorem ethernetFrames : Obligations.EthernetFrames := by
  unfold Obligations.EthernetFrames
  refine ⟨fun s n hclk => ⟨fun hmode hen hclocked hwide => ?_, fun hno => ?_, ?_⟩, fun s n index data hn _ hclk => ⟨fun ended fcsOk upset hno => ?_, ?_⟩,
    fun s n id o f data hclk hrx hf hport _ _ hct hbad _ hlen => ?_, fun s n c x k tl f hclk hup hidle hpick hq hage hf hbad => ?_⟩
  · rw [exec_ethernetLinkUp_eq, State.answer_running hclk, State.ethLinkUp_eq, if_pos ⟨hmode, hen, hclocked, hwide⟩]
    rfl
  · rw [exec_ethernetLinkUp_eq, State.answer_running hclk, State.ethLinkUp_eq, if_neg]
    · rfl
    · rintro ⟨hmode, hen, hclocked, -⟩
      simp [hmode, hen, hclocked] at hno
  · rw [exec_ethernetLinkDown_eq, State.answer_running hclk]
    exact ⟨_, rfl, s.ethLinkDown_rests n⟩
  · rw [exec_ethFrameArrival_eq, State.answer_running hclk, State.ethArrive_ignored hno]
    rfl
  · intro hup hrx cls v o w last
    have hexec : ∀ fcsOk, exec (.ethFrameArrival n data true fcsOk 0 index) s =
        .next (s.keep { touchFrames with time := true } (s.ethArrive n data true fcsOk 0 index)) := fun fcsOk =>
      (exec_ethFrameArrival_eq n data true fcsOk 0 index s).trans (State.answer_running hclk _ _)
    refine ⟨rfl, ⟨_, hexec false, ?_⟩, fun hno => ⟨_, hexec true, ?_⟩, fun hcan hnone hmiss => ?_⟩
    · rw [State.ethArrive_bad hup hrx]
      refine ⟨?_, rfl, rfl, rfl, (s.arrived n).reg_evtAdd_same (by decide) 5 1,
        keep_onlyIn { ports := true, regs := true, sw := true, time := true } s ((s.arrived n).evtAdd .sw 0 5 1)⟩
      exact congrArg Port.arrivals (State.port_setPort n { s.port n with arrivals := (s.port n).arrivals + 1, rx := none } (s.stampArrival n))
    · rw [State.ethArrive_refused hup hrx hno]
      exact ⟨rfl, (s.arrived n).reg_evtAdd_same (by decide) 0 1,
        keep_onlyIn { ports := true, regs := true, sw := true, time := true } s ((s.arrived n).evtAdd .pnt 0 0 1)⟩
    · obtain ⟨b, s1, hsends, hmissed⟩ := State.ethArrive_missed hup hrx hcan hmiss index
      let f := s1.arrival n data cls b ((s.port n).arrivals + 1)
      have hfound : s.Missed n f ((s1.keepFrame f).evtAdd .sw 0 0 1) := hsends.missed hnone f
      refine ⟨fun hset => ⟨_, hexec true, ?_⟩, fun hset hcut hout => ⟨_, f.queued cls, f.copy, hexec true, ?_⟩⟩
      · rw [hmissed]
        exact hfound.dropped rfl rfl rfl rfl rfl rfl hset
      · rw [hmissed]
        obtain ⟨hframes, hqueue, hsent⟩ := hfound.forwarded rfl rfl rfl rfl hset hcut hout
        exact ⟨hframes, rfl, rfl, hsends.timeOn (portDie n), hqueue, rfl, rfl, rfl, hsent⟩
  · rw [exec_ethFrameEnd_eq, State.answer_running hclk]
    refine ⟨_, rfl, ?_, ?_⟩
    · exact (State.Hears.pumpAllRecs (s.endFrame n data true 0)).rx n (s.endFrame_rests n data true 0).2
    · have hsent := (State.endFrame_short hrx hf hbad hlen).hears (.pumpAllRecs _)
      rw [hct] at hsent
      exact hsent.frames
  · rw [exec_txSelect_eq, State.answer_running hclk]
    have hasks : s.Asks ((List.range 8).foldl (fun t c => t.prefetch n c) s) := .foldl (fun t c => .prefetch t n c) _ s
    obtain ⟨hframes, hqueue⟩ := hasks.txSelect_sends hpick hq hage hf hbad (s.queuedCopies n)
    rw [← State.txSelectCmd_idle hup hidle] at hframes hqueue
    have hpump := State.Sends.pumpAll (s.txSelectCmd n)
    exact ⟨_, rfl, hpump.frames.trans hframes, (congrArg (Port.queue · c) (hpump.port n)).trans hqueue⟩

end Sys2Proof.Machine
end

section
/-! PROOFS. With nothing commanded a step is `State.idle`, whose only change is to module time (R341, log 25):
`Obligations.IdleStepMovesOnlyTime`. -/

namespace Sys2Proof.Machine

theorem step_of_pending_nil {s : State} (h : s.pending = []) : step s = .next s.idle := by
  simp only [step, h]

/-- Settles O2: the empty queue selects the idle step, which writes `time.now` alone. -/
theorem idleStepMovesOnlyTime : Obligations.IdleStepMovesOnlyTime := by
  intro s hempty
  calc step s = .next s.idle := step_of_pending_nil hempty
    _ = .next { s with time := { s.time with now := (s.time.now + 1) % 2 ^ 64 } } := by rw [State.idle]

end Sys2Proof.Machine
end

section
/-! PROOFS. The fabric's registers and a port's settings (R349, R366, R376, R380, R385, R386). -/

namespace Sys2Proof.Machine

/-! ### What a write leaves -/

/-- `t` is `s`, or `s` with a reserved encoding reported besides. -/
def State.Reports (p : Page) (i off : Nat) (s t : State) : Prop := t = s ∨ t = s.regErr p i 0 off

namespace State.Reports
variable {p : Page} {i off : Nat} {s t : State}

theorem reg (h : State.Reports p i off s t) {o : Nat} (ho : o < 0x1000) (he : o ∉ errOffs) : t.reg p i o = s.reg p i o := by
  obtain rfl | rfl := h
  · rfl
  · exact State.raise_reg_off _ _ _ _ _ _ _ _ _ _ _ ho he

theorem errs (h : State.Reports p i off s t) : s.KeepsErrs t := by
  obtain rfl | rfl := h
  · exact .of_regs rfl
  · exact State.KeepsErrs.raise s p i 0 _ _ _ _

/-- A refused write leaves its register, and CFG_REFUSED is set. -/
theorem refused (h : State.Reports p i off (s.refuse p i off) t) (hb : refusedBit p < 64) (ho : off < 0x1000) (he : off ∉ errOffs) :
    t.reg p i off = s.reg p i off ∧ t.errSet p i (refusedBit p) :=
  ⟨(h.reg ho he).trans (State.raise_reg_off _ _ _ _ _ _ _ _ _ _ _ ho he), h.errs _ _ _ (State.raise_errSet _ _ _ _ _ _ _ _ hb)⟩

/-- A field of a register just stored. -/
theorem fld_stored {v hi lo : Nat} (h : State.Reports p i off (s.setReg p i off v) t) (hi' : i < p.count) (ho : off < 0x1000) (he : off ∉ errOffs)
    (hlo : lo ≤ hi) (h64 : hi < 64) : t.fld p i off hi lo = bits v hi lo := by
  rw [State.fld, h.reg ho he, State.reg_setReg_mod _ _ _ _ _ hi', bits_mod_word _ _ _ hlo h64]

end State.Reports

/-- A served write does what follows the value that its legal RW fields take, and may report a reserved encoding (R12, R14). -/
theorem State.pageWrite_taken {s : State} {p : Page} {i off k : Nat} {r : RegDesc} {data : Nat} (hs : s.Serves p i) (ho : off < 0x1000)
    (h8 : off % 8 = 0) (hf : findReg p off = some (r, k)) (hp : s.programmed p i off < 2 ^ 64) (hn : ∀ f, s.noField p i off f = false)
    (hdata : data < 2 ^ 64) :
    ∃ v, (∀ f ∈ r.fields, f.acc = .rw → s.reserved p i off f (bits data f.hi f.lo) data = false → bits v f.hi f.lo = bits data f.hi f.lo) ∧
      State.Reports p i off (s.applyReg p i off (s.programmed p i off) v data (2 ^ 64 - 1)) (s.pageWrite p i off data) := by
  obtain ⟨v, hv, hw⟩ := State.pageWrite_fields s p i off data r k hs ho h8 hf hp
  rw [Nat.mod_eq_of_lt hdata] at hv hw
  refine ⟨v, fun f hm ha hlegal => ?_, ?_⟩
  · obtain ⟨hlo, hhi⟩ := findReg_field hf hm
    rw [hv f hm, State.fieldNew_rw _ _ _ _ _ _ _ _ _ ha (hn f) (bits_allOnes_ne_zero _ _ hlo hhi) hlegal]
  · rw [hw]
    split
    · exact .inr rfl
    · exact .inl rfl

/-- RW fields that hold all bits below `n` and read alike make numbers that agree there. -/
theorem mod_eq_of_fieldsCover {v w : Nat} {fs : List RField} {n : Nat} (hc : fieldsCover n fs = true)
    (h : ∀ f ∈ fs, f.acc = .rw → bits v f.hi f.lo = bits w f.hi f.lo) : v % 2 ^ n = w % 2 ^ n := by
  induction fs generalizing n with
  | nil =>
    obtain rfl : n = 0 := by simpa [fieldsCover] using hc
    rw [pow_zero, Nat.mod_one, Nat.mod_one]
  | cons f fs ih =>
    simp only [fieldsCover, Bool.and_eq_true, beq_iff_eq, decide_eq_true_eq] at hc
    obtain ⟨⟨⟨hacc, rfl⟩, hlo⟩, hrest⟩ := hc
    have hbelow := ih hrest fun g hg => h g (List.mem_cons_of_mem _ hg)
    have hfield := h f List.mem_cons_self hacc
    rw [bits_eq, bits_eq] at hfield
    have hsplit : 2 ^ (f.hi + 1) = 2 ^ f.lo * 2 ^ (f.hi + 1 - f.lo) := by
      rw [← Nat.pow_add]
      congr 1
      omega
    rw [hsplit, Nat.mod_mul, Nat.mod_mul, hbelow, hfield]

/-! ### The fabric's page -/

/-- The fields of RL_COORD: the extents of the axes, and the coordinates together. -/
def coordReg : RegDesc := ⟨0x100, 1, 0, [⟨27, 24, .rw, 0⟩, ⟨23, 20, .rw, 0⟩, ⟨19, 16, .rw, 0⟩, ⟨11, 0, .rw, 0⟩]⟩

/-- The fields of RL_EPOCH: NM_WAIT, NM_EN, the axis orders of versions 1 and 0, ACTIVE of each, and INJ. -/
def epochReg : RegDesc :=
  ⟨0x118, 1, 0, [⟨23, 16, .rw, 16⟩, ⟨15, 15, .rw, 0⟩, ⟨14, 9, .rw, 6⟩, ⟨8, 3, .rw, 6⟩, ⟨2, 2, .rw, 0⟩, ⟨1, 1, .rw, 0⟩, ⟨0, 0, .rw, 0⟩]⟩

/-- The offset of the entry of an axis and a coordinate in a version. -/
def rteOff (version axis coord : Nat) : Nat := 0x400 + 0x180 * version + 0x80 * axis + 8 * coord

/-- The fields of a route entry: the detour's coordinate and permit, and two ports with a bit for each that it is valid. -/
def rteReg : RegDesc :=
  ⟨0x400, 96, 8, [⟨31, 28, .rw, 0⟩, ⟨27, 27, .rw, 0⟩, ⟨23, 23, .rw, 0⟩, ⟨22, 16, .rw, 0⟩, ⟨15, 15, .rw, 0⟩, ⟨14, 8, .rw, 0⟩]⟩

theorem findReg_rte : ∀ version < 2, ∀ axis < 3, ∀ coord < 16,
    findReg .fab (rteOff version axis coord) = some (rteReg, 48 * version + 16 * axis + coord) := by decide +kernel

/-- The fields of RL_PMODE: a mode for each group of eight ports. -/
def pmodeReg : RegDesc :=
  ⟨0x110, 1, 0, (List.range 16).reverse.map fun g => ⟨2 * g + 1, 2 * g, .rw, 0⟩⟩

section fabric
variable {s : State} {data : Nat} (hs : s.Serves .fab 0) (hdata : data < 2 ^ 64)
include hs hdata

/-- A write of a register of the fabric's page, by its legal fields. -/
theorem State.pageWrite_fab {off k : Nat} {r : RegDesc} (ho : off < 0x1000) (h8 : off % 8 = 0) (h20 : off ≠ 0x20) (hf : findReg .fab off = some (r, k)) :
    ∃ v, (∀ f ∈ r.fields, f.acc = .rw → s.reserved .fab 0 off f (bits data f.hi f.lo) data = false → bits v f.hi f.lo = bits data f.hi f.lo) ∧
      State.Reports .fab 0 off (s.applyFab off (s.reg .fab 0 off) v) (s.pageWrite .fab 0 off data) := by
  obtain ⟨v, hv, hw⟩ := State.pageWrite_taken hs ho h8 hf (s.reg_lt _ _ _ hs.lt_count) (fun _ => rfl) hdata
  rw [State.applyReg, if_neg h20] at hw
  exact ⟨v, hv, hw⟩

/-- The same where every encoding is legal. -/
theorem State.pageWrite_fab_legal {off k : Nat} {r : RegDesc} (ho : off < 0x1000) (h8 : off % 8 = 0) (h20 : off ≠ 0x20)
    (hf : findReg .fab off = some (r, k)) (hlegal : ∀ f ∈ r.fields, f.acc = .rw → s.reserved .fab 0 off f (bits data f.hi f.lo) data = false) :
    ∃ v, (∀ f ∈ r.fields, f.acc = .rw → bits v f.hi f.lo = bits data f.hi f.lo) ∧
      s.pageWrite .fab 0 off data = s.applyFab off (s.reg .fab 0 off) v := by
  obtain ⟨v, hv, hw⟩ := State.pageWrite_legal data hs ho h8 hf (s.reg_lt _ _ _ hs.lt_count) (fun _ => rfl)
    (by rwa [Nat.mod_eq_of_lt hdata])
  rw [State.applyReg, if_neg h20] at hw
  exact ⟨v, hv, hw⟩

/-! ### RL_COORD (R366) -/

theorem State.pageWrite_coord_up (h : s.rallyDown = false) : State.Reports .fab 0 0x100 (s.refuse .fab 0 0x100) (s.pageWrite .fab 0 0x100 data) := by
  obtain ⟨v, -, hw⟩ := State.pageWrite_fab hs hdata (by decide) (by decide) (by decide) (show findReg .fab 0x100 = some (coordReg, 0) from rfl)
  rwa [State.applyFab, if_pos (.inl rfl), h, if_neg Bool.false_ne_true] at hw

theorem State.pageWrite_coord_down (h : s.rallyDown = true)
    (hfit : ∀ a < 3, bits data (4 * a + 3) (4 * a) ≤ bits data (4 * a + 19) (4 * a + 16)) :
    ∃ v, bits v 11 0 = bits data 11 0 ∧ (∀ a < 3, bits v (4 * a + 19) (4 * a + 16) = bits data (4 * a + 19) (4 * a + 16)) ∧
      s.pageWrite .fab 0 0x100 data = s.setReg .fab 0 0x100 v := by
  have hlegal : ∀ f ∈ coordReg.fields, f.acc = .rw → s.reserved .fab 0 0x100 f (bits data f.hi f.lo) data = false := fun f _ _ => by
    simpa [State.reserved, State.reservedFab] using fun _ => hfit
  obtain ⟨v, hv, hw⟩ := State.pageWrite_fab_legal hs hdata (by decide) (by decide) (by decide)
    (show findReg .fab 0x100 = some (coordReg, 0) from rfl) hlegal
  rw [State.applyFab, if_pos (.inl rfl), h, if_pos rfl] at hw
  simp only [coordReg, List.forall_mem_cons, true_imp_iff] at hv
  obtain ⟨hz, hy, hx, hcoords, -⟩ := hv
  refine ⟨v, hcoords, fun a ha => ?_, hw⟩
  interval_cases a
  · exact hx
  · exact hy
  · exact hz

/-! ### RL_EPOCH (R376) -/

/-- INJ and the ACTIVE bits have no reserved encoding. -/
theorem State.pageWrite_epoch : ∃ v, (∀ k < 3, v.testBit k = data.testBit k) ∧
    State.Reports .fab 0 0x118 (s.epochWritten (s.reg .fab 0 0x118) v) (s.pageWrite .fab 0 0x118 data) := by
  obtain ⟨v, hv, hw⟩ := State.pageWrite_fab hs hdata (by decide) (by decide) (by decide) (show findReg .fab 0x118 = some (epochReg, 0) from rfl)
  refine ⟨v, fun k hk => testBit_eq_of_bits ?_, hw⟩
  have hmem : (⟨k, k, .rw, 0⟩ : RField) ∈ epochReg.fields := by
    interval_cases k <;> decide
  refine hv ⟨k, k, .rw, 0⟩ hmem rfl ?_
  simp [State.reserved, State.reservedFab]
  omega

end fabric

theorem bit_lt_two (n i : Nat) : bit n i < 2 := Nat.mod_lt _ (by decide)

theorem bit_eq_b2n (n i : Nat) : bit n i = b2n (n.testBit i) := by
  rw [← bitOn, ← bits_one_bit, bits, Nat.add_sub_cancel_left, pow_one, bit]

/-- INJ moves to a version that is not ACTIVE. -/
theorem State.epochWritten_refused {s : State} {old new : Nat} (hinj : bit old 0 ≠ bit new 0) (hoff : new.testBit (1 + bit new 0) = false) :
    s.epochWritten old new = s.refuse .fab 0 0x118 := by
  unfold State.epochWritten
  extract_lets inj bad
  refine if_pos ?_
  simp only [bad, inj, bitOn, hoff, bne_iff_ne.mpr hinj]
  simp

/-- Neither ACTIVE bit nor INJ changes. -/
theorem State.epochWritten_stored {s : State} {old new : Nat} (h : ∀ k < 3, new.testBit k = old.testBit k) :
    s.epochWritten old new = s.setReg .fab 0 0x118 new := by
  have hinj : bit new 0 = bit old 0 := by rw [bit_eq_b2n, bit_eq_b2n, h 0 (by decide)]
  have hlt := bit_lt_two old 0
  have hedge : ∀ k < 3, rises old new k = false ∧ falls old new k = false := fun k hk => by
    simp [rises, falls, bitOn, h k hk]
  unfold State.epochWritten
  extract_lets inj bad
  refine if_neg ?_
  simp [bad, inj, hinj, List.range_succ, hedge 1, hedge 2, (hedge (1 + bit old 0) (by omega)).2]

section fabric
variable {s : State} {data : Nat} (hs : s.Serves .fab 0) (hdata : data < 2 ^ 64)
include hs hdata

/-- A write of legal values that changes neither ACTIVE nor INJ is stored. -/
theorem State.pageWrite_epoch_stored (h : bits data 2 0 = bits (s.reg .fab 0 0x118) 2 0) (hwait : bits data 23 16 ≠ 0)
    (h1 : orderBad (bits data 14 9) = false) (h0 : orderBad (bits data 8 3) = false) :
    ∃ v, (∀ f ∈ epochReg.fields, f.acc = .rw → bits v f.hi f.lo = bits data f.hi f.lo) ∧
      s.pageWrite .fab 0 0x118 data = s.setReg .fab 0 0x118 v := by
  obtain ⟨v, hv, hw⟩ := State.pageWrite_fab_legal hs hdata (by decide) (by decide) (by decide) (show findReg .fab 0x118 = some (epochReg, 0) from rfl)
    (by simp [epochReg, State.reserved, State.reservedFab, hwait, h1, h0])
  refine ⟨v, hv, hw.trans (State.epochWritten_stored fun k hk => ?_)⟩
  have hdata : v.testBit k = data.testBit k := testBit_eq_of_bits (hv ⟨k, k, .rw, 0⟩ (by interval_cases k <;> decide) rfl)
  have hbit : ∀ n : Nat, (bits n 2 0).testBit k = n.testBit k := fun n => by
    rw [bits, Nat.testBit_mod_two_pow, Nat.shiftRight_zero, decide_eq_true hk, Bool.true_and]
  rw [hdata, ← hbit data, h, hbit]

/-! ### Route entries (R376, R384) -/

/-- The write is taken where the version is not ACTIVE, and refused where it is. -/
theorem State.pageWrite_rte {version axis coord : Nat} (hv : version < 2) (ha : axis < 3) (hc : coord < 16) :
    ∃ v, (∀ f ∈ rteReg.fields, f.lo ≠ 28 → bits v f.hi f.lo = bits data f.hi f.lo) ∧
      State.Reports .fab 0 (rteOff version axis coord)
        (if s.versionActive version then s.refuse .fab 0 (rteOff version axis coord) else s.setReg .fab 0 (rteOff version axis coord) v)
        (s.pageWrite .fab 0 (rteOff version axis coord) data) := by
  have hfind := findReg_rte version hv axis ha coord hc
  have hrange : 0x400 ≤ rteOff version axis coord ∧ rteOff version axis coord < 0x1000 ∧ rteOff version axis coord % 8 = 0 ∧
      (rteOff version axis coord - 0x400) / 0x180 = version := by
    unfold rteOff
    omega
  generalize rteOff version axis coord = off at hfind hrange ⊢
  obtain ⟨hlo, hhi, h8, hver⟩ := hrange
  obtain ⟨v, hv, hw⟩ := State.pageWrite_fab hs hdata hhi h8 (by omega) hfind
  refine ⟨v, fun f hf h28 => hv f hf ?_ ?_, ?_⟩
  · revert f
    decide
  · simp (disch := omega) only [State.reserved, State.reservedFab, if_neg, if_pos]
    simp [h28]
  · simpa (disch := omega) only [State.applyFab, if_neg, if_pos, hver] using hw

/-! ### RL_FENCE and RL_PMODE (R349, R380) -/

theorem State.pageWrite_rlFence : ∃ v, bits v 47 0 = bits data 47 0 ∧
    s.pageWrite .fab 0 0x120 data = (s.setReg .fab 0 0x120 v).fabricSettled := by
  obtain ⟨v, hv, hw⟩ := State.pageWrite_fab_legal hs hdata (by decide) (by decide) (by decide)
    (show findReg .fab 0x120 = some (⟨0x120, 1, 0, [⟨47, 0, .rw, 0⟩]⟩, 0) from rfl) (by simp [State.reserved, State.reservedFab])
  exact ⟨v, hv ⟨47, 0, .rw, 0⟩ (by simp) rfl, hw⟩

theorem State.pageWrite_pmode (h : ∀ g < 16, bits data (2 * g + 1) (2 * g) ≠ 3) : ∃ v, bits v 31 0 = bits data 31 0 ∧
    s.pageWrite .fab 0 0x110 data = s.pmodeWritten (s.reg .fab 0 0x110) v := by
  have hlegal : ∀ f ∈ pmodeReg.fields, f.acc = .rw → s.reserved .fab 0 0x110 f (bits data f.hi f.lo) data = false := fun f _ _ => by
    simpa [State.reserved, State.reservedFab] using h
  obtain ⟨v, hv, hw⟩ := State.pageWrite_fab_legal hs hdata (by decide) (by decide) (by decide)
    (show findReg .fab 0x110 = some (pmodeReg, 0) from rfl) hlegal
  exact ⟨v, mod_eq_of_fieldsCover (n := 32) (by rfl) hv, hw⟩

end fabric

/-! ### RL_PORTCFG (R385) -/

theorem State.pageWrite_portCfg {s : State} {n data : Nat} (hs : s.Serves .port n) (haxis : bits data 7 6 < 3) :
    ∃ v, (bits v 7 6 = bits data 7 6 ∧ bits v 5 2 = bits data 5 2 ∧ bit v 0 = bit data 0) ∧
      s.pageWrite .port n 0x800 data = s.portCfgWritten n 0x800 v := by
  obtain ⟨v, hv, hw⟩ := State.pageWrite_legal data hs (by decide) (by decide)
    (show findReg .port 0x800 = some (⟨0x800, 1, 0, [⟨7, 6, .rw, 0⟩, ⟨5, 2, .rw, 0⟩, ⟨0, 0, .rw, 0⟩]⟩, 0) from rfl) (s.reg_lt _ _ _ hs.lt_count)
    (fun _ => rfl) (by simp [State.reserved, reservedPort]; omega)
  simp only [List.forall_mem_cons, true_imp_iff] at hv
  obtain ⟨hx, hc, hen, -⟩ := hv
  exact ⟨v, ⟨hx, hc, hen⟩, hw⟩

/-! ### A fabric that carries nothing -/

theorem State.fabricSettled_still {s : State} (hl : s.rly.links = []) (hc : s.NoColl) (ht : s.jnl.transfer = none) : s.fabricSettled = s := by
  rw [State.fabricSettled_noColl hc ht, State.pumpAll, hl]
  rfl

section idle
variable {s : State} (h : s.FabricIdle)
include h

theorem State.FabricIdle.settled (p : Page) (i off v : Nat) : (s.setReg p i off v).fabricSettled = s.setReg p i off v :=
  State.fabricSettled_still (s := s.setReg p i off v) h.1 h.2.2.1 h.2.2.2

theorem State.FabricIdle.portDown (n : Nat) : s.portDown n = s := by
  obtain ⟨hlinks, hports, -, -⟩ := h
  have hdown : (s.link n).st = lkDown := by rw [State.link, hlinks]; rfl
  rw [State.portDown, (hports n).1, if_neg Bool.false_ne_true, State.linkDown]
  exact if_pos hdown

theorem State.FabricIdle.clearQueues (n : Nat) : s.clearQueues n = s := by
  obtain ⟨-, hports, -, -⟩ := h
  exact List.foldl_fixed' (fun c => by rw [(hports n).2 c]; rfl) _

theorem State.FabricIdle.pmodeWritten (old new : Nat) : s.pmodeWritten old new = s.setReg .fab 0 0x110 new := by
  unfold State.pmodeWritten
  extract_lets gs t
  have hport : ∀ g k, (s.portDown (8 * g + k)).clearQueues (8 * g + k) = s := fun g k =>
    (congrArg (State.clearQueues _) (h.portDown _)).trans (h.clearQueues _)
  have hgroup : ∀ g, (List.range 8).foldl (fun s k => (s.portDown (8 * g + k)).clearQueues (8 * g + k)) s = s := by
    intro g
    exact List.foldlRecOn (motive := (· = s)) _ _ rfl fun t ht k _ => by
      rw [ht]
      exact hport g k
  have ht : t = s := List.foldlRecOn (motive := (· = s)) _ _ rfl fun t ht g _ => by
    rw [ht]
    exact hgroup g
  rw [ht, h.settled]

theorem State.FabricIdle.portCfgWritten (n v : Nat) : s.portCfgWritten n 0x800 v = s.setReg .port n 0x800 v := by
  unfold State.portCfgWritten
  extract_lets mine t u
  have ht : t = s := by simp only [t, h.portDown, ite_self]
  have hu : u = s := by simp [u, ht]
  rw [hu, h.settled]

end idle

/-! ### The statement -/

theorem exec_rlCoordWrite_eq (data : Nat) (s : State) : exec (.rlCoordWrite data) s = s.answer touchTake (s.pageWrite .fab 0 0x100 data) := rfl

theorem exec_rlEpochWrite_eq (data : Nat) (s : State) : exec (.rlEpochWrite data) s = s.answer touchTake (s.pageWrite .fab 0 0x118 data) := rfl

theorem exec_rlRteWrite_eq {version axis coord : Nat} (hv : version < 2) (ha : axis < 3) (hc : coord < 16) (data : Nat) (s : State) :
    exec (.rlRteWrite version axis coord data) s = s.answer touchTake (s.pageWrite .fab 0 (rteOff version axis coord) data) :=
  congrArg (s.answer touchTake) (if_pos ⟨hv, ha, hc⟩)

theorem exec_rlFenceWrite_eq (data : Nat) (s : State) : exec (.rlFenceWrite data) s = s.answer touchColl (s.pageWrite .fab 0 0x120 data) := rfl

theorem exec_rlPmodeWrite_eq (data : Nat) (s : State) : exec (.rlPmodeWrite data) s = s.answer touchColl (s.pageWrite .fab 0 0x110 data) := rfl

theorem exec_portCfgWrite_eq (n data : Nat) (s : State) : exec (.portCfgWrite n 0x800 data) s = s.answer touchColl (s.pageWrite .port n 0x800 data) := rfl

/-- A command that may change registers and leaves the fences keeps a register stored. -/
theorem State.answer_setReg (s : State) {m : Touch} (hregs : m.regs = true) (hf : m.fence = false) (hu : m.unfence = false) (p : Page) (i off v : Nat) :
    s.answer m (s.setReg p i off v) = .next (s.setReg p i off v) := by
  rw [State.answer, State.keep]
  simp only [hregs, hf, hu, State.setReg, ite_self, if_true, Bool.false_eq_true, if_false]

/-- Settles O26: each write is what the register's own action makes of its legal fields, and where nothing is carried that action only stores. -/
theorem fabricRegisters : Obligations.FabricRegisters := by
  intro s data hs hdata
  obtain ⟨fence, hfence, hwfence⟩ := State.pageWrite_rlFence hs hdata
  refine ⟨fun hup => ?coordUp, fun hdown hfit => ?coordDown, fun hinj hoff => ?epochRefused, fun hsame hwait h1 h0 => ?epochStored,
    fun version axis coord hv ha hc => ⟨fun hact => ?rteRefused, fun hact => ?rteStored⟩, ?fence, fun hmode => ?pmode, fun n hport haxis => ?portCfg,
    fun hidle => ⟨?fenceIdle, fun hmode => ?pmodeIdle, fun n hport haxis => ?portCfgIdle⟩⟩
  case coordUp => exact ⟨_, exec_rlCoordWrite_eq data s, (State.pageWrite_coord_up hs hdata hup).refused (by decide) (by decide) (by decide)⟩
  case coordDown =>
    obtain ⟨v, hcoords, hextents, hw⟩ := State.pageWrite_coord_down hs hdata hdown hfit
    exact ⟨v, hcoords, hextents, by rw [exec_rlCoordWrite_eq, hw, State.answer_setReg s rfl rfl rfl]⟩
  case epochRefused =>
    obtain ⟨v, hv, hw⟩ := State.pageWrite_epoch hs hdata
    have hbit : bit v 0 = bit data 0 := by rw [bit_eq_b2n, bit_eq_b2n, hv 0 (by decide)]
    have hlt := bit_lt_two data 0
    rw [State.epochWritten_refused (by rw [hbit]; exact hinj.symm) (by rw [hbit, hv _ (by omega), hoff])] at hw
    exact ⟨_, exec_rlEpochWrite_eq data s, hw.refused (by decide) (by decide) (by decide)⟩
  case epochStored =>
    obtain ⟨v, hv, hw⟩ := State.pageWrite_epoch_stored hs hdata hsame hwait h1 h0
    have hfld : ∀ f ∈ epochReg.fields, (s.setReg .fab 0 0x118 v).fld .fab 0 0x118 f.hi f.lo = bits data f.hi f.lo := fun f hf => by
      have hrange : f.lo ≤ f.hi ∧ f.hi < 64 ∧ f.acc = .rw := by
        revert f
        decide
      obtain ⟨hlo, h64, hacc⟩ := hrange
      exact (State.Reports.fld_stored (.inl rfl) hs.lt_count (by decide) (by decide) hlo h64).trans (hv f hf hacc)
    simp only [epochReg, List.forall_mem_cons] at hfld
    obtain ⟨hnmWait, hnm, horder1, horder0, -⟩ := hfld
    exact ⟨_, by rw [exec_rlEpochWrite_eq, hw, State.answer_setReg s rfl rfl rfl], hnmWait, hnm, horder1, horder0⟩
  case rteRefused =>
    obtain ⟨v, -, hw⟩ := State.pageWrite_rte hs hdata hv ha hc
    rw [if_pos hact] at hw
    exact ⟨_, exec_rlRteWrite_eq hv ha hc data s, hw.refused (by decide) (by unfold rteOff; omega) (by simp [errOffs, rteOff]; omega)⟩
  case rteStored =>
    obtain ⟨v, hfields, hw⟩ := State.pageWrite_rte hs hdata hv ha hc
    rw [if_neg (by rw [hact]; exact Bool.false_ne_true)] at hw
    have hfld : ∀ f ∈ rteReg.fields, f.lo ≠ 28 → (s.pageWrite .fab 0 (rteOff version axis coord) data).fld .fab 0 (rteOff version axis coord) f.hi f.lo =
        bits data f.hi f.lo := fun f hf h28 => by
      have hrange : f.lo ≤ f.hi ∧ f.hi < 64 := findReg_field (findReg_rte version hv axis ha coord hc) hf
      exact (hw.fld_stored hs.lt_count (by unfold rteOff; omega) (by simp [errOffs, rteOff]; omega) hrange.1 hrange.2).trans (hfields f hf h28)
    exact ⟨_, exec_rlRteWrite_eq hv ha hc data s, hfld ⟨22, 16, .rw, 0⟩ (by decide) (by decide), hfld ⟨14, 8, .rw, 0⟩ (by decide) (by decide),
      hfld ⟨15, 15, .rw, 0⟩ (by decide) (by decide), hfld ⟨23, 23, .rw, 0⟩ (by decide) (by decide), hfld ⟨27, 27, .rw, 0⟩ (by decide) (by decide)⟩
  case fence => exact ⟨fence, hfence, by rw [exec_rlFenceWrite_eq, hwfence, State.answer_eq]⟩
  case pmode =>
    obtain ⟨v, hv, hw⟩ := State.pageWrite_pmode hs hdata hmode
    exact ⟨v, hv, by rw [exec_rlPmodeWrite_eq, hw, State.answer_eq]⟩
  case portCfg =>
    obtain ⟨v, ⟨hx, hc, hen⟩, hw⟩ := State.pageWrite_portCfg hport haxis
    exact ⟨v, hx, hc, hen, by rw [exec_portCfgWrite_eq, hw, State.answer_eq]⟩
  case fenceIdle => exact ⟨fence, hfence, by rw [exec_rlFenceWrite_eq, hwfence, hidle.settled, State.answer_setReg s rfl rfl rfl]⟩
  case pmodeIdle =>
    obtain ⟨v, hv, hw⟩ := State.pageWrite_pmode hs hdata hmode
    exact ⟨v, hv, by rw [exec_rlPmodeWrite_eq, hw, hidle.pmodeWritten, State.answer_setReg s rfl rfl rfl]⟩
  case portCfgIdle =>
    obtain ⟨v, ⟨hx, hc, hen⟩, hw⟩ := State.pageWrite_portCfg hport haxis
    exact ⟨v, hx, hc, hen, by rw [exec_portCfgWrite_eq, hw, hidle.portCfgWritten, State.answer_setReg s rfl rfl rfl]⟩

end Sys2Proof.Machine
end

section
/-! PROOFS. What sending on Rally links and routing leave of the links (`State.Emits`): the state, the peer and the receiving side of every link stay,
what its retry buffer held stays in front, and flits only follow those sent before. -/

namespace Sys2Proof.Machine

/-- Of a link, what sending, queueing packets and owing credits leave alone. -/
def Link.standing (k : Link) : Link := { k with txFseq := 0, retry := [], credits := [], owed := [], txq := [], ctl := [] }

/-- Links change only as sending, queueing and owing change them; one that is not UP spends no credits. -/
structure State.Emits (s t : State) : Prop where
  standing : ∀ n, (t.link n).standing = (s.link n).standing
  retry : ∀ n, (s.link n).retry <+: (t.link n).retry
  credits : ∀ n, (s.link n).st ≠ lkUp → (t.link n).credits = (s.link n).credits
  flits : s.out.flits <+: t.out.flits

namespace State.Emits
variable {s t u : State}

theorem st (h : s.Emits t) (n : Nat) : (t.link n).st = (s.link n).st := (congrArg Link.st (h.standing n) :)
theorem peer (h : s.Emits t) (n : Nat) : (t.link n).peer = (s.link n).peer := (congrArg Link.peer (h.standing n) :)
theorem rxFseq (h : s.Emits t) (n : Nat) : (t.link n).rxFseq = (s.link n).rxFseq := (congrArg Link.rxFseq (h.standing n) :)
theorem nakSent (h : s.Emits t) (n : Nat) : (t.link n).nakSent = (s.link n).nakSent := (congrArg Link.nakSent (h.standing n) :)
theorem noProg (h : s.Emits t) (n : Nat) : (t.link n).noProg = (s.link n).noProg := (congrArg Link.noProg (h.standing n) :)
theorem resume (h : s.Emits t) (n : Nat) : (t.link n).resume = (s.link n).resume := (congrArg Link.resume (h.standing n) :)
theorem identOk (h : s.Emits t) (n : Nat) : (t.link n).identOk = (s.link n).identOk := (congrArg Link.identOk (h.standing n) :)
theorem gotCredits (h : s.Emits t) (n : Nat) : (t.link n).gotCredits = (s.link n).gotCredits := (congrArg Link.gotCredits (h.standing n) :)

theorem trans (h : s.Emits t) (k : t.Emits u) : s.Emits u where
  standing n := (k.standing n).trans (h.standing n)
  retry n := (h.retry n).trans (k.retry n)
  credits n hn := (k.credits n (by rwa [h.st])).trans (h.credits n hn)
  flits := h.flits.trans k.flits

/-- A change of other parts of the state, with or without a flit sent. -/
theorem of_links (links : t.rly.links = s.rly.links) (flits : s.out.flits <+: t.out.flits) : s.Emits t := by
  have hlink : ∀ n, t.link n = s.link n := fun n => by rw [State.link, links]; rfl
  exact ⟨fun n => by rw [hlink], fun n => by rw [hlink], fun n _ => by rw [hlink], flits⟩

theorem of_parts (rly : t.rly = s.rly) (out : t.out = s.out) : s.Emits t := .of_links (by rw [rly]) (by rw [out])

theorem refl (s : State) : s.Emits s := .of_parts rfl rfl

/-- A step taken after a change of other parts of the state. -/
theorem after (h : t.Emits u) (rly : t.rly = s.rly) (out : t.out = s.out) : s.Emits u := (State.Emits.of_parts rly out).trans h

/-- A fold of such steps. -/
theorem foldl {α : Type} {f : State → α → State} (h : ∀ (t : State) (a : α), t.Emits (f t a)) (l : List α) (s : State) : s.Emits (l.foldl f s) :=
  List.foldlRecOn (motive := s.Emits) l f (.refl s) fun t ht a _ => ht.trans (h t a)

/-- A link changed in what sending may change. -/
theorem setLink (s : State) (n : Nat) {x : Link} (standing : x.standing = (s.link n).standing) (retry : (s.link n).retry <+: x.retry)
    (credits : (s.link n).st ≠ lkUp → x.credits = (s.link n).credits) : s.Emits (s.setLink n x) := by
  have hlink : ∀ m, (s.setLink n x).link m = if m = n then x else s.link m := fun m => by
    split
    · next h => rw [h, State.link_setLink]
    · next h => exact State.link_setLink_other _ _ _ _ h
  refine ⟨fun m => ?_, fun m => ?_, fun m hm => ?_, List.prefix_rfl⟩ <;> rw [hlink] <;> split
  · next h => rw [h, standing]
  · rfl
  · next h => rwa [h]
  · exact List.prefix_rfl
  · next h => rw [h] at hm ⊢; exact credits hm
  · rfl

/-- A step taken after such a change. -/
theorem linked {n : Nat} {x : Link} (h : (s.setLink n x).Emits t) (standing : x.standing = (s.link n).standing) (retry : (s.link n).retry <+: x.retry)
    (credits : (s.link n).st ≠ lkUp → x.credits = (s.link n).credits) : s.Emits t := (State.Emits.setLink s n standing retry credits).trans h

theorem raise (s : State) (p : Page) (i b tag i0 i1 i2 : Nat) : s.Emits (s.raise p i b tag i0 i1 i2) :=
  .of_links (by rw [State.raise_rly]) (by rw [State.raise_out_flits])

theorem evtAdd (s : State) (p : Page) (i k n : Nat) : s.Emits (s.evtAdd p i k n) := .of_parts rfl rfl

theorem evtAdd_if (s : State) (c : Prop) [Decidable c] (p : Page) (i k n : Nat) : s.Emits (if c then s.evtAdd p i k n else s) := by
  split
  · exact .evtAdd s _ _ _ _
  · exact .refl s

/-! ### The central store -/

theorem touchPage (s : State) (pg : Nat) : s.Emits (s.touchPage pg) := by
  unfold State.touchPage
  split
  · exact .refl s
  · split <;> exact .of_parts rfl rfl

theorem touchBufs (s : State) (qs : List Nat) : s.Emits (s.touchBufs qs) := .foldl (fun t _ => .touchPage t _) qs s

theorem sendPause (s : State) (n c q : Nat) : s.Emits (s.sendPause n c q) := by
  unfold State.sendPause
  split
  · exact .of_links rfl List.prefix_rfl
  · exact .refl s

theorem pfcPort (c : Nat) (s : State) (n : Nat) : s.Emits (s.pfcPort c n) := by
  unfold State.pfcPort
  dsimp only
  split
  · exact .after (.sendPause _ _ _ _) rfl rfl
  · split
    · exact .after (.sendPause _ _ _ _) rfl rfl
    · exact .refl s

theorem noteLevels (s : State) (c : Nat) : s.Emits (s.noteLevels c) := by
  refine .foldl (fun _ _ => ?_) _ s
  exact .of_links rfl List.prefix_rfl

theorem compareClass (s : State) (c : Nat) : s.Emits (s.compareClass c) := by
  have hnoted := State.Emits.noteLevels s c
  unfold State.compareClass
  dsimp only
  split
  · exact hnoted.trans (.after (.foldl (.pfcPort c) _ _) rfl rfl)
  · split
    · exact hnoted.trans (.of_parts rfl rfl)
    · exact hnoted.trans (.of_parts rfl rfl)

theorem pntErr_counted (s : State) (bit info addr k n : Nat) : s.Emits ((s.pntErr bit info addr).evtAdd .pnt 0 k n) :=
  (State.Emits.raise s _ _ _ _ _ _ _).trans (.evtAdd _ _ _ _ _)

theorem freeBuf (unit pool : Nat) (s : State) (q : Nat) : s.Emits (s.freeBuf unit pool q) := by
  unfold State.freeBuf
  dsimp only
  split
  · exact .pntErr_counted s _ _ _ _ _
  split
  · exact .pntErr_counted s _ _ _ _ _
  split
  · exact .pntErr_counted s _ _ _ _ _
  · exact .after (.compareClass _ _) rfl rfl

theorem freePkt (s : State) (k : Pkt) : s.Emits (s.freePkt k) := .foldl (fun t _ => .freeBuf _ _ t _) _ s

theorem overrun (unit c p : Nat) (s : State) : s.Emits (s.overrun unit c p) := by
  unfold State.overrun
  exact .pntErr_counted s _ _ _ _ _

/-! ### Sending -/

theorem putFlit (n : Nat) (f : List Byte) (s : State) : s.Emits (s.putFlit n f) := .of_links rfl (List.prefix_append ..)

theorem sendHeld (s : State) (n type : Nat) (bad isEnd : Bool) (epoch ack : Nat) (content : List Byte) :
    s.Emits (s.sendHeld n type bad isEnd epoch ack content) :=
  .linked (.putFlit n _ _) rfl (List.prefix_append ..) fun _ => rfl

theorem putControl (s : State) (n kind ack : Nat) : s.Emits (s.putControl n kind ack) := by
  unfold State.putControl
  exact .after (.sendHeld _ _ _ _ _ _ _ _) rfl rfl

theorem sendControl (s : State) (n kind ack : Nat) : s.Emits (s.sendControl n kind ack) := by
  unfold State.sendControl
  dsimp only
  split
  · exact .putControl s n kind ack
  · exact .setLink s n rfl List.prefix_rfl fun _ => rfl

theorem flushControl (n fuel : Nat) (s : State) : s.Emits (s.flushControl n fuel) := by
  induction fuel generalizing s with
  | zero => exact .refl s
  | succ fuel ih =>
    unfold State.flushControl
    dsimp only
    split
    · exact .refl s
    split
    · exact .linked (.trans (.putControl _ _ _ _) (ih _)) rfl List.prefix_rfl fun _ => rfl
    · exact .refl s

theorem sendCredits (s : State) (n lane count : Nat) : s.Emits (s.sendCredits n lane count) := by
  unfold State.sendCredits
  exact .after (.putFlit _ _ _) rfl rfl

theorem flushLane (n : Nat) (s : State) (lane : Nat) : s.Emits (s.flushLane n lane) := by
  unfold State.flushLane
  dsimp only
  split
  · exact .refl s
  · exact .linked (.foldl (fun t m => .sendCredits t _ _ m) _ _) rfl List.prefix_rfl fun _ => rfl

theorem returnCredits (s : State) (k : Pkt) : s.Emits (s.returnCredits k) := by
  unfold State.returnCredits
  split
  · exact .refl s
  · exact .linked (.flushLane _ _ _) rfl List.prefix_rfl fun _ => rfl

theorem sendPacket (s : State) (n : Nat) (k : Pkt) : s.Emits (s.sendPacket n k) := by
  unfold State.sendPacket
  dsimp only
  exact .after (.foldl (fun t i => .sendHeld ..) _ _) rfl rfl

theorem askHeads (s : State) (n : Nat) : s.Emits (s.askHeads n) := by
  refine .foldl (fun t q => ?_) _ s
  split
  · split
    · exact .refl t
    · exact .touchBufs t _
  · exact .refl t

/-- Only a link that is UP has a packet to send. -/
theorem st_of_sendable {n l : Nat} {ls : List Nat} (h : s.sendable n = l :: ls) : (s.link n).st = lkUp := by
  unfold State.sendable at h
  extract_lets k at h
  split at h
  · exact absurd h nofun
  · next hup =>
    simp only [Bool.or_eq_true, Bool.not_eq_true', not_or, Bool.not_eq_false, State.linkUp, Bool.and_eq_true, beq_iff_eq] at hup
    exact hup.1.2

theorem pump (n fuel : Nat) (s : State) : s.Emits (s.pump n fuel) := by
  induction fuel generalizing s with
  | zero => exact .refl s
  | succ fuel ih =>
    unfold State.pump
    split
    · exact .refl s
    next hsend =>
    extract_lets s0 lane k
    have h0 : s.Emits s0 := by
      simp only [s0]
      split
      · exact .refl s
      · exact .of_parts rfl rfl
    have hup : (s0.link n).st = lkUp := (h0.st n).trans (st_of_sendable hsend)
    split
    · exact h0
    next p rest _ =>
      extract_lets s1 pnt s2
      have h1 : s0.Emits s1 := .setLink s0 n rfl List.prefix_rfl fun hdown => absurd hup hdown
      have h2 : s.Emits s2 := (h0.trans h1).trans (.of_parts rfl rfl)
      exact ((((h2.trans (.touchBufs _ _)).trans (.sendPacket _ _ _)).trans (.freePkt _ _)).trans (.returnCredits _ _)).trans (ih _)

theorem pumpPort (s : State) (n : Nat) : s.Emits (s.pumpPort n) := ((State.Emits.flushControl n _ s).trans (.askHeads _ n)).trans (.pump n _ _)

theorem pumpAll (s : State) : s.Emits s.pumpAll :=
  .foldl (fun t n => (State.Emits.foldl (.flushLane n) _ t).trans (.pumpPort _ n)) _ s

/-! ### Packets -/

theorem dropPkt (s : State) (k : Pkt) : s.Emits (s.dropPkt k) :=
  ((State.Emits.freePkt s k).trans (.returnCredits _ k)).trans (.of_links rfl List.prefix_rfl)

theorem noRoute (s : State) (k : Pkt) (axis coord reason : Nat) : s.Emits (s.noRoute k axis coord reason) := by
  have hlost : s.Emits (s.noteLost k) := by
    unfold State.noteLost
    split
    · exact .of_parts rfl rfl
    · exact .refl s
  exact ((hlost.trans (.raise _ _ _ _ _ _ _ _)).trans (.evtAdd _ _ _ _ _)).trans (.dropPkt _ k)

theorem queuePkt (s : State) (n lane : Nat) (k : Pkt) : s.Emits (s.queuePkt n lane k) := by
  unfold State.queuePkt
  extract_lets l ct p s1 pnt s2 s3
  split
  · exact (State.Emits.overrun _ _ _ s).trans (.dropPkt _ _)
  split
  · exact .dropPkt s _
  · have h1 : s.Emits s1 := .setLink s n rfl List.prefix_rfl fun _ => rfl
    have h2 : s.Emits s2 := h1.trans (.of_parts rfl rfl)
    have h3 : s.Emits s3 := h2.trans (.evtAdd_if s2 _ _ _ _ _)
    exact (h3.trans (.evtAdd_if _ _ _ _ _ _)).trans (.pumpPort _ n)

theorem takeDetour (s : State) (k : Pkt) (a d p : Nat) : s.Emits (s.takeDetour k a d p) := by
  unfold State.takeDetour
  split
  · exact .noRoute s _ _ _ _
  · exact (State.Emits.evtAdd s _ _ _ _).trans (.queuePkt _ _ _ _)

theorem route (s : State) (k : Pkt) : s.Emits (s.route k) := by
  unfold State.route
  split
  · exact .dropPkt s k
  dsimp only
  split
  · exact .noRoute s _ _ _ _
  split
  · exact .queuePkt s _ _ _
  split
  · exact .takeDetour s _ _ _ _
  · exact .noRoute s _ _ _ _

end State.Emits

/-- What a command of the fabric leaves of the state that a calm step made: links only send, and registers but those of errors stay. -/
theorem State.fabric_emits {s t : State} (hs : s.CollIdle) (h : s.Calm t) : t.Emits (s.keep touchColl t.fabricSettled) := by
  have hpump : t.Emits t.fabricSettled := by
    rw [(hs.calm h).settled]
    exact .after (.pumpAll _) rfl rfl
  exact ⟨hpump.standing, hpump.retry, hpump.credits, hpump.flits⟩

end Sys2Proof.Machine
end

section
/-! PROOFS. Rally links: flits, replays, retraining, and links that come up (R351 to R358, R367, R382, R385). -/

namespace Sys2Proof.Machine

/-! ### Bytes of a flit -/

theorem slice_of_le {l : List Byte} {i n : Nat} (h : i + n ≤ l.length) : slice l i n = (l.drop i).take n := by
  have hlen : ((l.drop i).take n).length = n := by
    rw [List.length_take, List.length_drop]
    omega
  rw [slice, hlen, Nat.sub_self, List.replicate_zero, List.append_nil]

/-- Bytes within a part of a list are bytes of the list. -/
theorem slice_slice {l : List Byte} {a m i n : Nat} (hm : a + m ≤ l.length) (hn : i + n ≤ m) : slice (slice l a m) i n = slice l (a + i) n := by
  rw [slice_of_le hm, slice_of_le (by rw [List.length_take, List.length_drop]; omega), slice_of_le (by omega), List.drop_take, List.drop_drop,
    List.take_take, Nat.min_eq_left (by omega)]

/-- The middle part of three. -/
theorem slice_middle (a b c : List Byte) {i n : Nat} (hi : a.length = i) (hn : b.length = n) : slice (a ++ (b ++ c)) i n = b := by
  rw [slice_of_le (by simp only [List.length_append]; omega), List.drop_left' hi, List.take_left' hn]

theorem leBytes_length (k n : Nat) : (leBytes k n).length = k := by
  induction k generalizing n with
  | zero => rfl
  | succ k ih => rw [leBytes, List.length_cons, ih]

theorem leNat_leBytes (k n : Nat) : leNat (leBytes k n) = n % 256 ^ k := by
  induction k generalizing n with
  | zero => rw [pow_zero, Nat.mod_one]; rfl
  | succ k ih => rw [leBytes, leNat, ih, pow_succ', Nat.mod_mul, BitVec.toNat_ofNat]

/-- The control word of a flit. -/
def flitCtl (fseq ack type : Nat) (bad : Bool) (cvc ccount : Nat) : Nat :=
  fseq * 2 ^ 36 + ack * 2 ^ 24 + type * 2 ^ 21 + b2n bad * 2 ^ 20 + cvc * 2 ^ 17 + ccount * 2 ^ 8

/-- A flit is its control word, its content and its CRC. -/
theorem mkFlit_eq (fseq ack type : Nat) (bad : Bool) (cvc ccount : Nat) (content : List Byte) : ∃ crc,
    mkFlit fseq ack type bad cvc ccount content = leBytes 6 (flitCtl fseq ack type bad cvc ccount) ++ (content ++ crc) :=
  ⟨_, List.append_assoc ..⟩

/-- A flit's control word reads back in its low 48 bits. -/
theorem mkFlit_ctl (fseq ack type : Nat) (bad : Bool) (cvc ccount : Nat) (content : List Byte) :
    field (mkFlit fseq ack type bad cvc ccount content) 0 6 = flitCtl fseq ack type bad cvc ccount % 2 ^ 48 := by
  obtain ⟨crc, heq⟩ := mkFlit_eq fseq ack type bad cvc ccount content
  rw [field, heq]
  exact (congrArg leNat (slice_middle [] _ _ rfl (leBytes_length ..))).trans (leNat_leBytes 6 _)

/-- The content follows. -/
theorem mkFlit_content (fseq ack type : Nat) (bad : Bool) (cvc ccount : Nat) (head rest : List Byte) :
    slice (mkFlit fseq ack type bad cvc ccount (head ++ rest)) 6 head.length = head := by
  obtain ⟨crc, heq⟩ := mkFlit_eq fseq ack type bad cvc ccount (head ++ rest)
  rw [heq, List.append_assoc]
  exact slice_middle _ _ _ (leBytes_length ..) rfl

/-! ### Control flits (R354, R358) -/

section control
variable {s : State} {n kind ack : Nat}

theorem State.sendControl_now (hctl : (s.link n).ctl = []) (hroom : (s.link n).retry.length < 1024) :
    s.sendControl n kind ack = s.putControl n kind ack := by
  refine if_pos ?_
  rw [hctl, Link.fits, decide_eq_true (by omega)]
  rfl

/-- The flit stays in the retry buffer. -/
theorem State.putControl_retry (s : State) (n kind ack : Nat) :
    ∃ r, ((s.putControl n kind ack).link n).retry = (s.link n).retry ++ [r] := ⟨_, congrArg Link.retry (State.link_setLink ..)⟩

theorem State.Calm.sendControl (s : State) (n kind ack : Nat) : s.Calm (s.sendControl n kind ack) := by
  unfold State.sendControl
  dsimp only
  split
  · exact .of_sends (.putControl s n kind ack)
  · exact .of_parts rfl rfl

/-- What an IDENT begins with: its kind and what it says. -/
def State.identHead (s : State) (n : Nat) : List Byte := leBytes 1 1 ++ s.identBytes n

theorem State.length_identHead (s : State) (n : Nat) : (s.identHead n).length = 14 := by
  simp [State.identHead, State.identBytes, leBytes_length]

/-- An IDENT goes out: a control flit that says who the port is. -/
theorem State.putControl_ident (s : State) (n ack : Nat) : ∃ f, (s.putControl n 1 ack).out.flits = s.out.flits ++ [(n, f)] ∧
    bits (field f 0 6) 23 21 = 5 ∧ slice f 6 14 = s.identHead n := by
  have hcontent : (s.identHead n ++ Config.freeBytes 245 s.free).take 246 = s.identHead n ++ (Config.freeBytes 245 s.free).take 232 := by
    rw [List.take_append, s.length_identHead, List.take_of_length_le (by rw [s.length_identHead]; decide)]
  refine ⟨mkFlit (s.link n).txFseq ack 5 false 7 0 (s.identHead n ++ (Config.freeBytes 245 s.free).take 232), ?_, ?_, ?_⟩
  · rw [← hcontent]
    rfl
  · rw [mkFlit_ctl, bits_eq, flitCtl, b2n]
    generalize (s.link n).txFseq = fseq
    simp only [Bool.false_eq_true, if_false]
    omega
  · have hhead := mkFlit_content (s.link n).txFseq ack 5 false 7 0 (s.identHead n) ((Config.freeBytes 245 s.free).take 232)
    rwa [s.length_identHead] at hhead

end control

/-! ### Errors of the fabric (R382) -/

theorem State.fabErr_errSet (s : State) {b : Nat} (hb : b < 64) (port axis coord reason hi : Nat) : (s.fabErr b port axis coord reason hi).errSet .fab 0 b := by
  rw [State.fabErr]
  exact State.raise_errSet _ _ _ _ _ _ _ _ hb

theorem State.Emits.fabErr (s : State) (b port axis coord reason hi : Nat) : s.Emits (s.fabErr b port axis coord reason hi) := .raise ..

/-! ### A flit received (R352 to R355) -/

theorem State.Sends.arrived {sent : Bool} {s t : State} (h : s.Sends sent t) : t.rly.arrived = s.rly.arrived := (congrArg Rly.arrived h.rly :)

/-- An acknowledgement is about flits sent: the number expected next stays. -/
theorem Link.acked_rxFseq (k : Link) (ack : Nat) : (k.acked ack).rxFseq = k.rxFseq := by
  unfold Link.acked
  split
  · rfl
  dsimp only
  split <;> rfl

/-- The codewords of the pair being received that cannot be corrected, once a flit brings `cw` (R352). -/
def Link.pairBad (k : Link) (cw : Nat) : Nat := if k.pos = 0 then cw % 4 else k.cwBad

/-- The place in the pair of codewords moved on by a flit. -/
def Link.moved (k : Link) (cw : Nat) : Link := { k with pos := (k.pos + 1) % 5, cwBad := k.pairBad cw }

/-- A flit's CRC is good, and it touches no codeword that cannot be corrected (R352, R353). -/
def Link.intact (k : Link) (f : List Byte) (cw : Nat) : Prop :=
  crc32 (slice f 0 252) = field f 252 4 ∧
    ¬ ((k.pos ≤ 2 ∧ (k.pairBad cw).testBit 0 = true) ∨ (2 ≤ k.pos ∧ (k.pairBad cw).testBit 1 = true))

theorem Link.intact_iff (k : Link) (f : List Byte) (cw : Nat) :
    (crc32 (slice f 0 252) == field f 252 4 && !cwTouches k.pos (k.pairBad cw)) = true ↔ k.intact f cw := by
  rw [Bool.and_eq_true, beq_iff_eq, Bool.not_eq_true', ← Bool.not_eq_true, cwTouches, Link.intact]
  simp only [Bool.or_eq_true, Bool.and_eq_true, decide_eq_true_eq, bitOn]

/-- A flit of type 4 carries a whole packet. -/
theorem State.flitTaken_whole (s : State) (n ack : Nat) (bad : Bool) (content : List Byte) :
    s.flitTaken n 4 ack bad content = s.packetEnd n bad content := rfl

/-- The packet that a whole flit's content makes (R359). -/
def wholePacket (bad : Bool) (content : List Byte) : Pkt :=
  let hdr := field content 0 8 * 2 ^ 64 + field content 8 8
  { hdr := hdr, payload := if flitCount (bits hdr 93 79) * 246 = content.length then slice content 16 (bits hdr 93 79) else [], bad := bad }

/-- The packet waits to be taken from its port, and the link goes on receiving. -/
theorem State.packetEnd_eq (s : State) (n : Nat) (bad : Bool) (content : List Byte) : s.packetEnd n bad content =
    { s.setLink n { s.link n with rxPart := [], rxOn := false } with rly.arrived := s.rly.arrived ++ [(n, wholePacket bad content)] } := rfl

/-- The header of a packet in one flit stands after the flit's control word. -/
theorem wholePacket_hdr {f : List Byte} (hlen : f.length = 256) (bad : Bool) :
    (wholePacket bad (slice f 6 246)).hdr = field f 6 8 * 2 ^ 64 + field f 14 8 := by
  have hpart : ∀ i, i + 8 ≤ 246 → field (slice f 6 246) i 8 = field f (6 + i) 8 := fun i hi =>
    congrArg leNat (slice_slice (by omega) hi)
  rw [wholePacket, hpart 0 (by decide), hpart 8 (by decide)]

/-- A packet that arrives whole is the last of those that wait, and its link's numbers stay. -/
theorem State.packetEnd_takes (s : State) (n : Nat) (bad : Bool) (content : List Byte) :
    s.Calm (s.packetEnd n bad content) ∧ (s.packetEnd n bad content).rly.arrived = s.rly.arrived ++ [(n, wholePacket bad content)] ∧
      ((s.packetEnd n bad content).link n).rxFseq = (s.link n).rxFseq ∧ ((s.packetEnd n bad content).link n).nakSent = (s.link n).nakSent := by
  have hlink : (s.packetEnd n bad content).link n = { s.link n with rxPart := [], rxOn := false } := by
    rw [State.packetEnd_eq]
    exact State.link_setLink ..
  rw [hlink]
  exact ⟨.of_parts rfl rfl, rfl, rfl, rfl⟩

section flit
variable {s : State} {n cw : Nat} {f : List Byte}

/-- A link that is down, or whose lanes retrain, takes no flit. -/
theorem State.flitIn_down (h : (s.link n).st = lkDown ∨ (s.link n).st = lkRetraining) : s.flitIn n f cw = s := if_pos (.inr h)

variable (hon : s.rallyOn n = true) (hdown : (s.link n).st ≠ lkDown) (hre : (s.link n).st ≠ lkRetraining)
include hon hdown hre

/-- Of a running link no reason holds to ignore a flit. -/
theorem State.flitIn_running : ¬ ((!s.rallyOn n) = true ∨ (s.link n).st = lkDown ∨ (s.link n).st = lkRetraining) := by
  rw [hon]
  simp [hdown, hre]

/-- The first flit that is not intact brings a NAK. -/
theorem State.flitIn_broken (h : ¬ (s.link n).intact f cw) (hnak : (s.link n).nakSent = false) : s.flitIn n f cw =
    ((s.setLink n ((s.link n).moved cw)).setLink n { (s.link n).moved cw with nakSent := true }).sendControl n 2 (s.link n).rxFseq := by
  rw [← Link.intact_iff, Bool.not_eq_true] at h
  refine (if_neg (State.flitIn_running hon hdown hre)).trans ((if_pos ?_).trans (if_neg ?_))
  · exact (Bool.not_eq_true' _).mpr h
  · exact Bool.eq_false_iff.mp hnak

/-- An intact flit of another number than the next is dropped. -/
theorem State.flitIn_other (h : (s.link n).intact f cw) (htype : bits (field f 0 6) 23 21 ≠ 0) (hseq : bits (field f 0 6) 47 36 ≠ (s.link n).rxFseq) :
    s.flitIn n f cw = s.setLink n ((s.link n).moved cw) := by
  rw [← Link.intact_iff] at h
  refine (if_neg (State.flitIn_running hon hdown hre)).trans ((if_neg ?_).trans (if_pos ?_))
  · exact fun hbad => Bool.false_ne_true (((Bool.not_eq_true' _).mp hbad).symm.trans h)
  · rw [bne_iff_ne.mpr htype, beq_eq_false_iff_ne.mpr hseq]
    simp

/-- An intact flit of the next number that carries a whole packet is taken. -/
theorem State.flitIn_whole (h : (s.link n).intact f cw) (htype : bits (field f 0 6) 23 21 = 4) (hseq : bits (field f 0 6) 47 36 = (s.link n).rxFseq) :
    ∃ x : Link, x.rxFseq = ((s.link n).rxFseq + 1) % 4096 ∧ x.nakSent = false ∧ s.flitIn n f cw =
      (((s.setLink n ((s.link n).moved cw)).setLink n x).packetEnd n (bitOn (field f 0 6) 20) (slice f 6 246)).pumpPort n := by
  rw [← Link.intact_iff] at h
  unfold State.flitIn
  extract_lets k0 cwBad k s1 ctl fseq ack type cvc okCrc expected isNak k1 k2 k3
  have hexpected : expected = true := by
    simp only [expected, type, ctl, fseq, htype, hseq]
    exact beq_self_eq_true _
  have hk2 : k2.rxFseq = (s.link n).rxFseq := by
    simp only [k2]
    split <;> exact Link.acked_rxFseq ..
  refine ⟨k3, congrArg (fun q => (q + 1) % 4096) hk2, rfl, ?_⟩
  rw [if_neg (State.flitIn_running hon hdown hre), show okCrc = true from h, hexpected]
  have hplain : type = 4 := htype
  have hk : k = (s.link n).moved cw := rfl
  rw [if_neg (by simp), if_neg (by simp), if_neg (by rw [hplain]; decide), hplain, State.flitTaken_whole, ← hk]

/-- What is known then: the packet waits, and the link expects the next flit. -/
theorem State.flitIn_takes (h : (s.link n).intact f cw) (htype : bits (field f 0 6) 23 21 = 4) (hseq : bits (field f 0 6) 47 36 = (s.link n).rxFseq) :
    s.Calm (s.flitIn n f cw) ∧
      (s.flitIn n f cw).rly.arrived = s.rly.arrived ++ [(n, wholePacket (bitOn (field f 0 6) 20) (slice f 6 246))] ∧
      ((s.flitIn n f cw).link n).rxFseq = ((s.link n).rxFseq + 1) % 4096 ∧ ((s.flitIn n f cw).link n).nakSent = false := by
  obtain ⟨x, hx, hxnak, hin⟩ := State.flitIn_whole hon hdown hre h htype hseq
  have hlink : ((s.setLink n ((s.link n).moved cw)).setLink n x).link n = x := State.link_setLink ..
  have hcalm : s.Calm ((s.setLink n ((s.link n).moved cw)).setLink n x) := .of_parts rfl rfl
  have harrived : ((s.setLink n ((s.link n).moved cw)).setLink n x).rly.arrived = s.rly.arrived := rfl
  generalize (s.setLink n ((s.link n).moved cw)).setLink n x = u at hin hlink hcalm harrived
  obtain ⟨hend, hpkt, hrx, hnak⟩ := u.packetEnd_takes n (bitOn (field f 0 6) 20) (slice f 6 246)
  rw [hin]
  generalize u.packetEnd n (bitOn (field f 0 6) 20) (slice f 6 246) = v at hend hpkt hrx hnak
  have hpump := State.Sends.pumpPort v n
  have hsent := State.Emits.pumpPort v n
  refine ⟨(hcalm.trans hend).trans (.of_sends hpump), ?_, ?_, ?_⟩
  · rw [hpump.arrived, hpkt, harrived]
  · rw [hsent.rxFseq, hrx, hlink, hx]
  · rw [hsent.nakSent, hnak, hlink, hxnak]

/-- A NAK goes out at once where nothing waits and the retry buffer has room. -/
theorem State.flitIn_naks (h : ¬ (s.link n).intact f cw) (hnak : (s.link n).nakSent = false) (hctl : (s.link n).ctl = [])
    (hroom : (s.link n).retry.length < 1024) : s.Calm (s.flitIn n f cw) ∧ ((s.flitIn n f cw).link n).nakSent = true ∧
    (∃ r, ((s.flitIn n f cw).link n).retry = (s.link n).retry ++ [r]) ∧ ((s.flitIn n f cw).link n).rxFseq = (s.link n).rxFseq := by
  rw [State.flitIn_broken hon hdown hre h hnak]
  have hlink : ((s.setLink n ((s.link n).moved cw)).setLink n { (s.link n).moved cw with nakSent := true }).link n =
      { (s.link n).moved cw with nakSent := true } := State.link_setLink ..
  have hcalm : s.Calm ((s.setLink n ((s.link n).moved cw)).setLink n { (s.link n).moved cw with nakSent := true }) := .of_parts rfl rfl
  generalize (s.setLink n ((s.link n).moved cw)).setLink n { (s.link n).moved cw with nakSent := true } = u at hlink hcalm ⊢
  rw [State.sendControl_now (by rw [hlink]; exact hctl) (by rw [hlink]; exact hroom)]
  have hsent := State.Emits.putControl u n 2 (s.link n).rxFseq
  obtain ⟨r, hr⟩ := u.putControl_retry n 2 (s.link n).rxFseq
  refine ⟨hcalm.trans (.of_sends (.putControl u n 2 _)), ?_, ⟨r, hr.trans ?_⟩, ?_⟩
  · rw [hsent.nakSent, hlink]
  · rw [hlink]
    rfl
  · rw [hsent.rxFseq, hlink]
    rfl

end flit

/-! ### Replays and retraining (R355, R356) -/

theorem State.Calm.setReg (s : State) (p : Page) (i off v : Nat) (ho : off < 0x1000) (h20 : off ≠ 0x20) : s.Calm (s.setReg p i off v) :=
  ⟨rfl, .setReg s p i off v ho h20⟩

theorem State.Calm.retrain (s : State) (n : Nat) : s.Calm (s.retrain n) := by
  have hcount : ∀ (x : Link) (v : Nat), s.Calm ((s.setLink n x).setReg .port n 0x808 v) := fun x v =>
    .after (.setReg (s.setLink n x) _ _ _ _ (by decide) (by decide)) rfl rfl
  exact .trans (hcount _ _) (.of_parts rfl rfl)

/-- The lanes retrain, and the state the link was in is kept. -/
theorem State.retrain_link {s : State} {n : Nat} (h : (s.link n).st ≠ lkRetraining) :
    (s.retrain n).link n = { s.link n with st := lkRetraining, resume := (s.link n).st, noProg := 0 } :=
  (State.link_setLink ..).trans (by rw [if_neg h])

/-- Flits sent again, oldest first. -/
def State.resend (n : Nat) (l : List Retry) (s : State) : State := { s with out.flits := s.out.flits ++ l.map fun x => (n, x.flit) }

theorem State.foldl_putFlit (n : Nat) (l : List Retry) (s : State) : l.foldl (fun s x => s.putFlit n x.flit) s = s.resend n l := by
  induction l generalizing s with
  | nil => rw [State.resend, List.map_nil, List.append_nil]; rfl
  | cons x l ih =>
    rw [List.foldl_cons, ih]
    simp [State.resend, State.putFlit]

/-- The flits are sent again and the replay is counted, in REPLAYS and in the Scorebook. -/
def State.replayed (s : State) (n : Nat) : State :=
  ((s.resend n (s.link n).retry).setReg .port n 0x808
    (setBits (s.reg .port n 0x808) 63 32 (min 0xFFFFFFFF (bits (s.reg .port n 0x808) 63 32 + 1)))).sbAdd (0x0300 + n) 1

theorem State.Calm.replayed (s : State) (n : Nat) : s.Calm (s.replayed n) :=
  .trans (.after (.setReg (s.resend n (s.link n).retry) .port n 0x808 _ (by decide) (by decide)) rfl rfl) (.of_parts rfl rfl)

section replay
variable {s : State} {n : Nat} (hdown : (s.link n).st ≠ lkDown) (hre : (s.link n).st ≠ lkRetraining) (hheld : (s.link n).retry ≠ [])
include hdown hre hheld

/-- A replay starts at the oldest flit held: it sends them all. -/
theorem State.replayDue_eq : s.replayDue n =
    if 8 ≤ (s.link n).noProg + 1 then
      (((s.replayed n).setLink n { s.link n with noProg := 0 }).sendControl n 3 (s.link n).ackSeq).retrain n
    else (s.replayed n).setLink n { s.link n with noProg := (s.link n).noProg + 1 } := by
  obtain ⟨r, rest, hretry⟩ := List.exists_cons_of_ne_nil hheld
  have hall : (s.link n).retry.dropWhile (fun x => x.fseq != r.fseq) = (s.link n).retry := by
    rw [hretry, List.dropWhile_cons_of_neg (by simp)]
  have hdue : s.replayDue n = s.replay n r.fseq := by
    unfold State.replayDue
    dsimp only
    rw [hretry]
    exact if_neg (not_or.mpr ⟨hdown, hre⟩)
  rw [hdue, State.replay]
  dsimp only
  rw [hall, State.foldl_putFlit]
  rfl

/-- The eighth replay without progress retrains the lanes. -/
theorem State.replayDue_retrains (hprog : 7 ≤ (s.link n).noProg) : s.Calm (s.replayDue n) ∧ ((s.replayDue n).link n).st = lkRetraining ∧
    ((s.replayDue n).link n).resume = (s.link n).st ∧ ((s.replayDue n).link n).noProg = 0 := by
  rw [State.replayDue_eq hdown hre hheld, if_pos (by omega)]
  have hcalm : s.Calm ((s.replayed n).setLink n { s.link n with noProg := 0 }) := (State.Calm.replayed s n).trans (.of_parts rfl rfl)
  have hst : (((s.replayed n).setLink n { s.link n with noProg := 0 }).link n).st = (s.link n).st := by rw [State.link_setLink]
  generalize (s.replayed n).setLink n { s.link n with noProg := 0 } = t at hcalm hst ⊢
  have hsent : ((t.sendControl n 3 (s.link n).ackSeq).link n).st = (s.link n).st := ((State.Emits.sendControl t n 3 _).st n).trans hst
  rw [State.retrain_link (by rwa [hsent])]
  exact ⟨(hcalm.trans (.sendControl t n 3 _)).trans (.retrain _ n), rfl, hsent, rfl⟩

/-- An earlier one counts. -/
theorem State.replayDue_counts (hprog : (s.link n).noProg < 7) (hn : n < 128) : s.Calm (s.replayDue n) ∧
    (s.replayDue n).out.flits = s.out.flits ++ (s.link n).retry.map (fun x => (n, x.flit)) ∧
    (s.replayDue n).fld .port n 0x808 63 32 = min 0xFFFFFFFF (s.fld .port n 0x808 63 32 + 1) ∧
    ((s.replayDue n).link n).noProg = (s.link n).noProg + 1 := by
  rw [State.replayDue_eq hdown hre hheld, if_neg (by omega)]
  refine ⟨(State.Calm.replayed s n).trans (.of_parts rfl rfl), rfl, ?_, congrArg Link.noProg (State.link_setLink ..)⟩
  refine (congrArg (bits · 63 32) (State.reg_setReg_mod _ .port n 0x808 _ hn)).trans ?_
  rw [bits_mod_word _ _ _ (by decide) (by decide), bits_setBits _ _ _ _ (by decide), Nat.mod_eq_of_lt (by omega)]
  rfl

end replay

/-! ### Links that go down and come back (R356, R380) -/

/-- Packets routed again, each counted. -/
theorem State.reroute_keeps (l : List Pkt) (s : State) : s.Calm (l.foldl (fun s p => (s.evtAdd .fab 0 0 1).route p) s) ∧
    s.Emits (l.foldl (fun s p => (s.evtAdd .fab 0 0 1).route p) s) := by
  have hone : ∀ (t : State) (p : Pkt), t.Calm ((t.evtAdd .fab 0 0 1).route p) ∧ t.Emits ((t.evtAdd .fab 0 0 1).route p) := fun t p =>
    ⟨(State.Calm.evtAdd t .fab 0 1 (by decide)).trans (.route _ p), (State.Emits.evtAdd t .fab 0 0 1).trans (.route _ p)⟩
  exact ⟨.foldl (fun t p => (hone t p).1) l s, .foldl (fun t p => (hone t p).2) l s⟩

theorem State.Calm.dropCount (s : State) (e n : Nat) : s.Calm (s.dropCount e n) := .of_parts rfl rfl

theorem State.link_dropCount (s : State) (e n m : Nat) : (s.dropCount e n).link m = s.link m := rfl

/-- A link that goes down: its queued packets are routed again, and it stays down. -/
theorem State.linkDown_goes {s : State} {n : Nat} (h : (s.link n).st ≠ lkDown) : s.Calm (s.linkDown n) ∧ ((s.linkDown n).link n).st = lkDown := by
  unfold State.linkDown
  extract_lets k wasUp axis coord s1 pnt s2 s3
  rw [if_neg h]
  have h0 : s.Calm (s.setLink n { peer := k.peer }) := .of_parts rfl rfl
  have hcalm : s.Calm s2 := ((h0.trans (.dropCount _ 0 _)).trans (.dropCount _ 1 _)).trans (.of_parts (s := s1) rfl rfl)
  have hst : (s1.link n).st = lkDown := by
    simp only [s1, State.link_dropCount, State.link_setLink]
    rfl
  have h3 : s2.Calm s3 ∧ s3.link n = s1.link n := by
    simp only [s3]
    split
    · exact ⟨.setReg s2 .fab 0 0x120 _ (by decide) (by decide), rfl⟩
    · exact ⟨.refl s2, rfl⟩
  obtain ⟨hcalm3, hlink⟩ := h3
  obtain ⟨hroute, hsent⟩ := State.reroute_keeps (k.txq.flatMap Prod.snd) s3
  exact ⟨(hcalm.trans hcalm3).trans hroute, (hsent.st n).trans ((congrArg Link.st hlink).trans hst)⟩

/-- A retrain whose time is over takes the link down and is reported. -/
theorem State.retrainLost_goes {s : State} {n : Nat} (h : (s.link n).st = lkRetraining) :
    s.Calm (s.retrainLost n) ∧ ((s.retrainLost n).link n).st = lkDown ∧ (s.retrainLost n).errSet .fab 0 3 := by
  rw [State.retrainLost, if_neg (not_not.mpr h)]
  have hcalm := State.Calm.fabErr s 3 n (s.fld .port n 0x800 7 6) (s.fld .port n 0x800 5 2) 0 0
  have hsent := State.Emits.fabErr s 3 n (s.fld .port n 0x800 7 6) (s.fld .port n 0x800 5 2) 0 0
  have herr := s.fabErr_errSet (b := 3) (by decide) n (s.fld .port n 0x800 7 6) (s.fld .port n 0x800 5 2) 0 0
  generalize s.fabErr 3 n (s.fld .port n 0x800 7 6) (s.fld .port n 0x800 5 2) 0 0 = t at hcalm hsent herr ⊢
  obtain ⟨hdown, hst⟩ := State.linkDown_goes (s := t) (n := n) (by rw [hsent.st, h]; decide)
  exact ⟨hcalm.trans hdown, hst, hdown.errs _ _ _ herr⟩

/-- Lanes trained again bring a link back to the state it was in. -/
theorem State.lanesTrained_back {s : State} {n : Nat} (h : (s.link n).st = lkRetraining) : s.Calm (s.lanesTrained n) ∧
    ((s.lanesTrained n).link n).st = (s.link n).resume ∧ ((s.lanesTrained n).link n).rxFseq = (s.link n).rxFseq := by
  have htrained : s.lanesTrained n = (s.setLink n { s.link n with st := (s.link n).resume, pos := 0 }).pumpPort n := if_pos h
  rw [htrained]
  have hlink := State.link_setLink n { s.link n with st := (s.link n).resume, pos := 0 } s
  have hcalm : s.Calm (s.setLink n { s.link n with st := (s.link n).resume, pos := 0 }) := .of_parts rfl rfl
  generalize s.setLink n { s.link n with st := (s.link n).resume, pos := 0 } = t at hlink hcalm ⊢
  have hpump := State.Emits.pumpPort t n
  rw [hpump.st, hpump.rxFseq, hlink]
  exact ⟨hcalm.trans (.of_sends (.pumpPort t n)), rfl, rfl⟩

/-- An enabled, clocked port that is down begins to train, and says who it is. -/
theorem State.lanesTrained_starts {s : State} {n : Nat} (hst : (s.link n).st = lkDown) (hctl : (s.link n).ctl = []) (hretry : (s.link n).retry = [])
    (hon : s.rallyOn n = true) (hclk : s.serdesOn n = true) (hen : s.fld .port n 0x800 0 0 = 1) : s.Calm (s.lanesTrained n) ∧
    (((s.lanesTrained n).link n).st = lkTraining ∧ ((s.lanesTrained n).link n).identOk = false ∧ ((s.lanesTrained n).link n).gotCredits = false) ∧
    ∃ f, (s.lanesTrained n).out.flits = s.out.flits ++ [(n, f)] ∧ bits (field f 0 6) 23 21 = 5 ∧ slice f 6 14 = s.identHead n := by
  let x : Link := { s.link n with st := lkTraining, identOk := false, gotCredits := false, pos := 0 }
  have hlink : (s.setLink n x).link n = x := State.link_setLink ..
  have htrained : s.lanesTrained n = (s.setLink n x).putControl n 1 (s.link n).ackSeq := by
    rw [← State.sendControl_now (by rw [hlink]; exact hctl) (by rw [hlink]; simp [x, hretry])]
    refine (if_neg (by rw [hst]; decide)).trans (if_neg ?_)
    rw [hon, hclk, hen, hst]
    decide
  have hsent := State.Emits.putControl (s.setLink n x) n 1 (s.link n).ackSeq
  rw [htrained, hsent.st, hsent.identOk, hsent.gotCredits, hlink]
  exact ⟨.after (.of_sends (.putControl (s.setLink n x) n 1 _)) rfl rfl, ⟨rfl, rfl, rfl⟩, State.putControl_ident (s.setLink n x) n _⟩

/-! ### The peer's IDENT and credits (R358, R367) -/

/-- A link in TRAINING comes up once the peer is known and its credits are here, and waits otherwise. -/
theorem State.linkReady_eq {s : State} {n : Nat} (hst : (s.link n).st = lkTraining) : s.linkReady n =
    if (s.link n).identOk = true ∧ (s.link n).gotCredits = true then (s.setLink n { s.link n with st := lkUp }).pumpPort n else s := by
  rw [State.linkReady]
  dsimp only
  rw [hst]
  simp

/-- What of the link is known then. -/
theorem State.linkReady_comesUp {s : State} {n : Nat} (hst : (s.link n).st = lkTraining) : s.Calm (s.linkReady n) ∧
    ((s.linkReady n).link n).st = (if (s.link n).identOk = true ∧ (s.link n).gotCredits = true then lkUp else lkTraining) ∧
    ((s.linkReady n).link n).identOk = (s.link n).identOk ∧ ((s.linkReady n).link n).gotCredits = (s.link n).gotCredits ∧
    ((s.linkReady n).link n).peer = (s.link n).peer := by
  rw [State.linkReady_eq hst]
  split
  · have hpump := State.Emits.pumpPort (s.setLink n { s.link n with st := lkUp }) n
    rw [hpump.st, hpump.identOk, hpump.gotCredits, hpump.peer, State.link_setLink]
    exact ⟨.after (.of_sends (.pumpPort _ n)) rfl rfl, rfl, rfl, rfl, rfl⟩
  · exact ⟨.refl s, hst, rfl, rfl, rfl⟩

/-- The axes on which two modules' coordinates differ. -/
def differing (peer me : Nat) : List Nat := (List.range 3).filter fun a => coordOf peer a != coordOf me a

theorem differing_eq_iff (peer me axis : Nat) :
    differing peer me = [axis] ↔ axis < 3 ∧ ∀ a < 3, (coordOf peer a ≠ coordOf me a ↔ a = axis) := by
  have hmem : ∀ a, a ∈ differing peer me ↔ a < 3 ∧ coordOf peer a ≠ coordOf me a := fun a => by
    rw [differing, List.mem_filter, List.mem_range, bne_iff_ne]
  constructor
  · intro h
    rw [h] at hmem
    simp only [List.mem_singleton] at hmem
    exact ⟨((hmem axis).mp rfl).1, fun a ha => ⟨fun hne => (hmem a).mpr ⟨ha, hne⟩, fun heq => ((hmem a).mp heq).2⟩⟩
  · rintro ⟨haxis, h⟩
    have honly : differing peer me = (List.range 3).filter (· == axis) :=
      List.filter_congr fun a ha => by rw [Bool.eq_iff_iff, bne_iff_ne, beq_iff_eq, h a (List.mem_range.mp ha)]
    rw [honly]
    interval_cases axis <;> rfl

/-- The first check that an IDENT fails, as ERR_INFO has it (R367, R382). -/
def State.identFault (s : State) (n sysId extents peer : Nat) : Option Nat :=
  if sysId ≠ s.reg .fab 0 0x108 then some 0
  else if extents ≠ s.fld .fab 0 0x100 27 16 then some 1
  else if differing peer s.module ≠ [s.fld .port n 0x800 7 6] then some 2
  else if coordOf peer (s.fld .port n 0x800 7 6) ≠ s.fld .port n 0x800 5 2 then some 3
  else none

/-- The credits granted to a peer, each in as many flits as it takes (R357). -/
def State.grantCredits (s : State) (n : Nat) (t : State) : State :=
  let grant (lane : Nat) : Nat := 16 * s.fld .fab 0 0x128 (7 * lane + 6) (7 * lane)
  (List.range 7).foldl (fun t lane =>
    ((List.range (ceilDiv (grant lane) 511)).map (fun i => min 511 (grant lane - 511 * i))).foldl (fun t m => t.sendCredits n lane m) t) t

theorem State.Calm.sendCredits (s : State) (n lane count : Nat) : s.Calm (s.sendCredits n lane count) := .of_parts rfl rfl

theorem State.grantCredits_sends (s : State) (n : Nat) (t : State) : t.Emits (s.grantCredits n t) ∧ t.Calm (s.grantCredits n t) :=
  ⟨.foldl (fun t lane => .foldl (fun t m => .sendCredits t n lane m) _ t) _ t,
    .foldl (fun t lane => .foldl (fun t m => .sendCredits t n lane m) _ t) _ t⟩

section ident
variable {s : State} {n sysId extents peer : Nat} (hst : (s.link n).st = lkTraining)
include hst

theorem State.identIn_eq : s.identIn n sysId extents peer = match s.identFault n sysId extents peer with
    | some r =>
      let a := (differing peer s.module).headD (s.fld .port n 0x800 7 6)
      (s.setLink n { s.link n with st := lkMismatch, peer := peer, identOk := false }).fabErr 2 n a (coordOf peer a) r 0
    | none => (s.grantCredits n (s.setLink n { s.link n with st := lkTraining, peer := peer, identOk := true })).linkReady n :=
  if_neg (by rw [hst]; decide)

/-- An IDENT that fails a check leaves the link in MISMATCH, and is reported. -/
theorem State.identIn_mismatch {r : Nat} (h : s.identFault n sysId extents peer = some r) :
    s.Calm (s.identIn n sysId extents peer) ∧ ((s.identIn n sysId extents peer).link n).st = lkMismatch ∧
      (s.identIn n sysId extents peer).errSet .fab 0 2 := by
  rw [State.identIn_eq hst, h]
  have hsent := State.Emits.fabErr (s.setLink n { s.link n with st := lkMismatch, peer := peer, identOk := false }) 2 n
  refine ⟨.after (.fabErr (s.setLink n _) _ _ _ _ _ _) rfl rfl, ((hsent _ _ _ _).st n).trans ?_, State.fabErr_errSet _ (by decide) _ _ _ _ _⟩
  rw [State.link_setLink]

/-- One that passes makes the peer known. -/
theorem State.identIn_known (h : s.identFault n sysId extents peer = none) : s.Calm (s.identIn n sysId extents peer) ∧
    ((s.identIn n sysId extents peer).link n).st = (if (s.link n).gotCredits then lkUp else lkTraining) ∧
    ((s.identIn n sysId extents peer).link n).identOk = true ∧ ((s.identIn n sysId extents peer).link n).peer = peer := by
  let x : Link := { s.link n with st := lkTraining, peer := peer, identOk := true }
  have hlink : (s.setLink n x).link n = x := State.link_setLink ..
  obtain ⟨hsent, hcalm⟩ := s.grantCredits_sends n (s.setLink n x)
  obtain ⟨hready, hup, hknown, -, hpeer⟩ := State.linkReady_comesUp (s := s.grantCredits n (s.setLink n x)) (n := n) (by rw [hsent.st, hlink])
  rw [hsent.identOk, hsent.gotCredits, hlink] at hup
  rw [State.identIn_eq hst, h]
  refine ⟨.after (hcalm.trans hready) rfl rfl, hup.trans (by simp [x]), hknown.trans ?_, hpeer.trans ?_⟩
  · rw [hsent.identOk, hlink]
  · rw [hsent.peer, hlink]

end ident

/-- The credits an IDENT's sender grants, lane by lane. -/
def creditTable (credits : List Nat) : Sparse Nat := (List.range 7).foldl (fun m l => m.setNum l (credits.getD l 0)) []

theorem creditTable_num (credits : List Nat) {l : Nat} (h : l < 7) : (creditTable credits).num l = credits.getD l 0 := by
  rw [creditTable, Sparse.num]
  interval_cases l <;> simp [List.range_succ, Sparse.setNum, Sparse.get_set_other]

/-- The peer's credits are taken, and the link comes up if the peer is known. -/
theorem State.creditsIn_takes {s : State} {n : Nat} (hst : (s.link n).st = lkTraining) (credits : List Nat) : s.Calm (s.creditsIn n credits) ∧
    ((s.creditsIn n credits).link n).st = (if (s.link n).identOk then lkUp else lkTraining) ∧ ((s.creditsIn n credits).link n).gotCredits = true ∧
    ((s.link n).identOk = false → ((s.creditsIn n credits).link n).credits = creditTable credits) := by
  let x : Link := { s.link n with gotCredits := true, credits := creditTable credits }
  have hlink : (s.setLink n x).link n = x := State.link_setLink ..
  have htrain : ((s.setLink n x).link n).st = lkTraining := by rw [hlink]; exact hst
  have hin : s.creditsIn n credits = (s.setLink n x).linkReady n := if_neg (by rw [hst]; decide)
  obtain ⟨hcalm, hup, -, hgot, -⟩ := State.linkReady_comesUp htrain
  rw [hlink] at hup hgot
  rw [hin]
  refine ⟨.after hcalm rfl rfl, hup.trans (by simp [x]), hgot, fun hnone => ?_⟩
  rw [State.linkReady_eq htrain, hlink, if_neg (by simp [x, hnone]), hlink]

/-! ### The statement -/

/-- A calm event of a running port: links only send after it, and what it left of Rally besides, errors and registers stay. -/
theorem State.answer_event {s : State} {n : Nat} (hs : s.CollIdle) (hclk : s.clockStopped (switchMux (portDie n)) = false) {go : State → State}
    (hcalm : s.Calm (go s)) : ∃ t,
    s.answer touchColl (s.inDomain (switchMux (portDie n)) (fun s => (go s).fabricSettled)) = .next t ∧ (go s).Emits t ∧ (go s).Settles t :=
  ⟨_, State.answer_running hclk .., State.fabric_emits hs hcalm, State.fabric_settles hs hcalm⟩

theorem exec_flitReceive_running {s : State} {n cw : Nat} {f : List Byte} (hclk : s.clockStopped (switchMux (portDie n)) = false) :
    exec (.flitReceive n f cw) s = .next (s.keep touchColl (s.flitIn n f cw).fabricSettled) := State.answer_running hclk ..

/-- What a peer's IDENT must say to be known. -/
def State.identFits (s : State) (n sysId extents peer : Nat) : Prop :=
  sysId = s.reg .fab 0 0x108 ∧ extents = s.fld .fab 0 0x100 27 16 ∧
    (∀ a < 3, coordOf peer a ≠ coordOf s.module a ↔ a = s.fld .port n 0x800 7 6) ∧ coordOf peer (s.fld .port n 0x800 7 6) = s.fld .port n 0x800 5 2

/-- The checks pass for exactly the IDENT that fits a port on an axis. -/
theorem State.identFault_eq_none {s : State} {n sysId extents peer : Nat} :
    s.identFault n sysId extents peer = none ↔ s.identFits n sysId extents peer ∧ s.fld .port n 0x800 7 6 < 3 := by
  have hchecks : s.identFault n sysId extents peer = none ↔ sysId = s.reg .fab 0 0x108 ∧ extents = s.fld .fab 0 0x100 27 16 ∧
      differing peer s.module = [s.fld .port n 0x800 7 6] ∧ coordOf peer (s.fld .port n 0x800 7 6) = s.fld .port n 0x800 5 2 := by
    unfold State.identFault
    split_ifs <;> simp_all
  rw [hchecks, differing_eq_iff, State.identFits]
  tauto

/-- Settles O50: each event is a calm step of which the links' part is known, and the fabric's settling after it only sends. -/
theorem rallyLinkEvents : Obligations.RallyLinkEvents := by
  intro s n hc htr hn hclk k
  have hs : s.CollIdle := ⟨hc.1, hc.2.1, htr⟩
  refine ⟨fun f cw hlen hon => ⟨fun hgood hst htype hseq => ?whole, fun hgood htype hseq hdown hre => ?other, fun hbad hst hnak hctl hroom => ?broken,
      fun hst => ?down⟩,
    fun hdown hre hheld hprog => ?eighth, fun hdown hre hprog hheld => ?replay, fun hst _ => ?lost, fun hst => ?back,
    fun hst hctl hretry hon hclkOn hen => ?starts, fun sysId extents peer hst _ => ⟨fun hfits haxis => ?known, fun hfits => ?mismatch⟩,
    fun credits hst => ?credits⟩
  case whole =>
    obtain ⟨hdown, hre⟩ : k.st ≠ lkDown ∧ k.st ≠ lkRetraining := by
      rcases hst with h | h <;> rw [h] <;> decide
    obtain ⟨hcalm, harrived, hrx, hnak⟩ := State.flitIn_takes hon hdown hre hgood htype hseq
    obtain ⟨t, hexec, hem, hset⟩ := State.answer_event hs hclk (go := State.flitIn n f cw) hcalm
    exact ⟨t, _, hexec, hset.arrived.trans harrived, wholePacket_hdr hlen _, rfl, (hem.rxFseq n).trans hrx, (hem.nakSent n).trans hnak⟩
  case other =>
    rw [exec_flitReceive_running hclk, State.flitIn_other hon hdown hre hgood htype hseq,
      State.fabricSettled_noColl (s := s.setLink n (k.moved cw)) hc htr]
    rfl
  case broken =>
    obtain ⟨hdown, hre⟩ : k.st ≠ lkDown ∧ k.st ≠ lkRetraining := by
      rw [hst]
      decide
    obtain ⟨hcalm, hsent, ⟨r, hr⟩, hrx⟩ := State.flitIn_naks hon hdown hre hbad hnak hctl hroom
    obtain ⟨t, hexec, hem, -⟩ := State.answer_event hs hclk (go := State.flitIn n f cw) hcalm
    obtain ⟨more, hmore⟩ := hem.retry n
    refine ⟨t, r :: more, hexec, (hem.nakSent n).trans hsent, ?_, List.cons_ne_nil _ _, (hem.rxFseq n).trans hrx⟩
    rw [← hmore, hr]
    exact List.append_assoc ..
  case down => rw [exec_flitReceive_running hclk, State.flitIn_down hst, State.fabricSettled_noColl hc htr]
  case eighth =>
    obtain ⟨hcalm, hst, hresume, hnone⟩ := State.replayDue_retrains hdown hre hheld hprog
    obtain ⟨t, hexec, hem, -⟩ := State.answer_event hs hclk (go := State.replayDue n) hcalm
    exact ⟨t, hexec, (hem.st n).trans hst, (hem.resume n).trans hresume, (hem.noProg n).trans hnone⟩
  case replay =>
    obtain ⟨hcalm, hflits, hcount, hnext⟩ := State.replayDue_counts hdown hre hheld hprog hn
    obtain ⟨t, hexec, hem, hset⟩ := State.answer_event hs hclk (go := State.replayDue n) hcalm
    obtain ⟨more, hmore⟩ := hem.flits
    refine ⟨t, more, hexec, by rw [← hmore, hflits], ?_, (hem.noProg n).trans hnext⟩
    exact (congrArg (bits · 63 32) (hset.regs .port n 0x808 (by decide) (by decide))).trans hcount
  case lost =>
    obtain ⟨hcalm, hst', herr⟩ := State.retrainLost_goes hst
    obtain ⟨t, hexec, hem, hset⟩ := State.answer_event hs hclk (go := State.retrainLost n) hcalm
    exact ⟨t, hexec, (hem.st n).trans hst', hset.errs _ _ _ herr⟩
  case back =>
    obtain ⟨hcalm, hst', hrx⟩ := State.lanesTrained_back hst
    obtain ⟨t, hexec, hem, -⟩ := State.answer_event hs hclk (go := State.lanesTrained n) hcalm
    exact ⟨t, hexec, (hem.st n).trans hst', (hem.rxFseq n).trans hrx⟩
  case starts =>
    obtain ⟨hcalm, ⟨hst', hident, hgot⟩, f, hflits, htype, hhead⟩ := State.lanesTrained_starts hst hctl hretry hon hclkOn hen
    obtain ⟨t, hexec, hem, -⟩ := State.answer_event hs hclk (go := State.lanesTrained n) hcalm
    obtain ⟨more, hmore⟩ := hem.flits
    refine ⟨t, f, more, hexec, (hem.st n).trans hst', (hem.identOk n).trans hident, (hem.gotCredits n).trans hgot, ?_, htype, ?_⟩
    · rw [← hmore, hflits]
      exact List.append_assoc ..
    · simp only [hhead, State.identHead, State.identBytes, List.append_assoc]
      rfl
  case known =>
    obtain ⟨hcalm, hst', hident, hpeer⟩ := State.identIn_known hst (State.identFault_eq_none.mpr ⟨hfits, haxis⟩)
    obtain ⟨t, hexec, hem, -⟩ := State.answer_event hs hclk (go := State.identIn n sysId extents peer) hcalm
    exact ⟨t, hexec, (hem.st n).trans hst', (hem.identOk n).trans hident, (hem.peer n).trans hpeer⟩
  case mismatch =>
    obtain ⟨r, hr⟩ := Option.ne_none_iff_exists'.mp fun hnone => hfits (State.identFault_eq_none.mp hnone).1
    obtain ⟨hcalm, hst', herr⟩ := State.identIn_mismatch hst hr
    obtain ⟨t, hexec, hem, hset⟩ := State.answer_event hs hclk (go := State.identIn n sysId extents peer) hcalm
    exact ⟨t, hexec, (hem.st n).trans hst', hset.errs _ _ _ herr⟩
  case credits =>
    obtain ⟨hcalm, hst', hgot, htable⟩ := State.creditsIn_takes hst credits
    obtain ⟨t, hexec, hem, -⟩ := State.answer_event hs hclk (go := State.creditsIn n credits) hcalm
    refine ⟨t, hexec, (hem.st n).trans hst', (hem.gotCredits n).trans hgot, fun hnone l hl => ?_⟩
    have hwaits : ((s.creditsIn n credits).link n).st ≠ lkUp := by
      rw [hst', if_neg (by rw [show (s.link n).identOk = false from hnone]; decide)]
      decide
    rw [hem.credits n hwaits, htable hnone, creditTable_num credits hl]

end Sys2Proof.Machine
end

section
/-! PROOFS. What packets leave alone (`State.Posts`): sending, queueing and discarding them, and the central store's and the Rally links' part in it, change
nothing of a collective but the packets noted as lost, no command, no placement and no setting, and of an engine's event counts no count of chunks. -/

namespace Sys2Proof.Machine

/-! ### The event counts of chunks -/

/-- The event counts of an engine that say what became of chunks: sent, received, received with a wrong CRC (R417). -/
def chunkCounts : List Nat := [2, 3, 5]

theorem chunkCounts_lt {k : Nat} (h : k ∈ chunkCounts) : 0x80 + 8 * k < 0x1000 ∧ 0x80 + 8 * k ∉ errOffs := by
  revert h
  revert k
  decide

/-- From `s` to `t` no engine has counted a chunk. -/
def State.CountsChunksAs (s t : State) : Prop := ∀ e < 4, ∀ k ∈ chunkCounts, t.reg .coll e (0x80 + 8 * k) = s.reg .coll e (0x80 + 8 * k)

namespace State.CountsChunksAs
variable {s t u : State}

theorem trans (h : s.CountsChunksAs t) (k : t.CountsChunksAs u) : s.CountsChunksAs u := fun e he j hj => (k e he j hj).trans (h e he j hj)

theorem of_regs (h : t.regs = s.regs) : s.CountsChunksAs t := fun _ _ _ _ => State.reg_congr _ _ _ _ _ h

theorem raise (s : State) (p : Page) (i b tag i0 i1 i2 : Nat) : s.CountsChunksAs (s.raise p i b tag i0 i1 i2) :=
  fun _ _ _ hk => State.raise_reg_off _ _ _ _ _ _ _ _ _ _ _ (chunkCounts_lt hk).1 (chunkCounts_lt hk).2

/-- An event counted on another page. -/
theorem evtAdd (s : State) {p : Page} {i k : Nat} (hp : .coll ≠ p) (hi : i < p.count) (hk : k < 8) (n : Nat) : s.CountsChunksAs (s.evtAdd p i k n) :=
  fun _ he _ hj => State.reg_setReg_page s hp hi he (by omega) (chunkCounts_lt hj).1 _

/-- Another event counted, on whatever page. -/
theorem evtAdd_off (s : State) (p : Page) (i n : Nat) {k : Nat} (hk : k < 8) (hkc : k ∉ chunkCounts) : s.CountsChunksAs (s.evtAdd p i k n) :=
  fun _ _ j hj => State.reg_setReg_off _ _ _ _ _ _ _ _ (by omega) (chunkCounts_lt hj).1 (by
    have hne : j ≠ k := fun h => hkc (h ▸ hj)
    omega)

end State.CountsChunksAs

/-! ### What packets leave alone -/

/-- The registers of an error lie in the common header. -/
theorem errOffs_lt {o : Nat} (h : o ∈ errOffs) : o < 0xC0 := by
  revert h
  revert o
  decide

/-- The host interface without what an error sends. -/
def Hif.silent (h : Hif) : Hif := { h with errq := [], errqOvf := false, msixPba := [] }

/-- A state without what packets may change. -/
def State.unposted (s : State) : State :=
  { s with ref := {}, hif := s.hif.silent, pnt := {}, rly := {}, coll := { s.coll with lost := [] }, sb := {}, regs := [], out := {}, free := 0 }

/-- Nothing else differs; no error bit is lost, and no register differs but those of the common header, of which the counts of chunks stay. -/
structure State.Posts (s t : State) : Prop where
  parts : t.unposted = s.unposted
  errs : s.KeepsErrs t
  settings : ∀ (p : Page) (i o : Nat), 0xC0 ≤ o → o < 0x1000 → t.reg p i o = s.reg p i o
  counts : s.CountsChunksAs t

theorem State.sendVec_silent (v : Nat) (s : State) : (s.sendVec v).hif.silent = s.hif.silent := by
  unfold State.sendVec
  split <;> rfl

theorem State.setErrStat_silent (p : Page) (i v : Nat) (s : State) : (s.setErrStat p i v).hif.silent = s.hif.silent := by
  have hpush : ∀ (g : Nat) (t : State), (t.errqPush g).hif.silent = t.hif.silent := by
    intro g t
    unfold State.errqPush
    split <;> rfl
  unfold State.setErrStat
  dsimp only
  split
  · exact (hpush _ _).trans (State.sendVec_silent _ _)
  · rfl

theorem State.raise_silent (s : State) (p : Page) (i b tag i0 i1 i2 : Nat) : (s.raise p i b tag i0 i1 i2).hif.silent = s.hif.silent := by
  have hcaptured : (s.captured p i b tag i0 i1 i2).hif = s.hif := by
    unfold State.captured
    split
    · rfl
    · simp only [State.setReg_hif]
  have hcounted : ∀ t : State, (t.counted p b).hif = t.hif := by
    intro t
    unfold State.counted
    dsimp only
    split <;> rfl
  have hnoted : (s.noted p i b tag i0 i1 i2).hif.silent = s.hif.silent := by
    unfold State.noted
    rw [hcounted, State.setErrStat_silent, hcaptured]
  rw [State.raise_eq]
  split
  · unfold State.fatal
    rw [State.sbRequest_hif, State.evtAdd_hif]
    exact (State.sendVec_silent 0 _).trans hnoted
  · exact hnoted

namespace State.Posts
variable {s t u : State}

theorem clk (h : s.Posts t) : t.clk = s.clk := (congrArg State.clk h.parts :)
theorem place (h : s.Posts t) : t.place = s.place := (congrArg State.place h.parts :)
theorem blocks (h : s.Posts t) : t.blocks = s.blocks := (congrArg State.blocks h.parts :)
theorem opened (h : s.Posts t) : t.hif.opened = s.hif.opened := (congrArg (·.hif.opened) h.parts :)
theorem done (h : s.Posts t) : t.hif.done = s.hif.done := (congrArg (·.hif.done) h.parts :)
theorem window (h : s.Posts t) : t.hif.window = s.hif.window := (congrArg (·.hif.window) h.parts :)
theorem inflight (h : s.Posts t) : t.hif.inflight = s.hif.inflight := (congrArg (·.hif.inflight) h.parts :)
theorem coll (h : s.Posts t) : { t.coll with lost := [] } = { s.coll with lost := [] } := (congrArg State.coll h.parts :)
theorem slots (h : s.Posts t) : t.coll.slots = s.coll.slots := (congrArg Coll.slots h.coll :)
theorem queued (h : s.Posts t) : t.coll.queued = s.coll.queued := (congrArg Coll.queued h.coll :)
theorem strict (h : s.Posts t) : t.strict = s.strict := (congrArg Place.strict h.place :)

theorem slot (h : s.Posts t) (j : Nat) : t.slot j = s.slot j := by rw [State.slot, h.slots]; rfl

theorem openCmd (h : s.Posts t) (q : Nat) : t.openCmd q = s.openCmd q := by rw [State.openCmd, h.opened]; rfl

theorem trans (h : s.Posts t) (k : t.Posts u) : s.Posts u where
  parts := k.parts.trans h.parts
  errs := h.errs.trans k.errs
  settings p i o hlo hhi := (k.settings p i o hlo hhi).trans (h.settings p i o hlo hhi)
  counts := h.counts.trans k.counts

/-- A change of other parts of the state. -/
theorem of_parts (regs : t.regs = s.regs) (parts : t.unposted = s.unposted) : s.Posts t :=
  ⟨parts, .of_regs regs, fun _ _ _ _ _ => State.reg_congr _ _ _ _ _ regs, .of_regs regs⟩

theorem refl (s : State) : s.Posts s := .of_parts rfl rfl

/-- A step taken after a change of other parts of the state. -/
theorem after (h : t.Posts u) (regs : t.regs = s.regs) (parts : t.unposted = s.unposted) : s.Posts u := (State.Posts.of_parts regs parts).trans h

theorem useFree (s : State) : s.Posts s.useFree := .of_parts rfl rfl

/-- A fold of such steps. -/
theorem foldl {α : Type} {f : State → α → State} (h : ∀ (t : State) (a : α), t.Posts (f t a)) (l : List α) (s : State) : s.Posts (l.foldl f s) :=
  List.foldlRecOn (motive := s.Posts) l f (.refl s) fun t ht a _ => ht.trans (h t a)

theorem raise (s : State) (p : Page) (i b tag i0 i1 i2 : Nat) : s.Posts (s.raise p i b tag i0 i1 i2) :=
  ⟨by simp [State.unposted, State.raise_silent], .raise s p i b tag i0 i1 i2,
    fun _ _ _ hlo hhi => State.raise_reg_off _ _ _ _ _ _ _ _ _ _ _ hhi (fun hoff => absurd (errOffs_lt hoff) (by omega)),
    .raise s p i b tag i0 i1 i2⟩

/-- An event that is no chunk's counted. -/
theorem evtAdd_of_counts {s : State} {p : Page} {i k n : Nat} (hk : k < 8) (h : s.CountsChunksAs (s.evtAdd p i k n)) : s.Posts (s.evtAdd p i k n) :=
  ⟨rfl, .evtAdd s p i k n hk, fun _ _ _ hlo hhi => State.reg_setReg_off _ _ _ _ _ _ _ _ (by omega) hhi (by omega), h⟩

/-- An event counted on another page than an engine's. -/
theorem evtAdd (s : State) {p : Page} {i k : Nat} (hp : .coll ≠ p) (hi : i < p.count) (hk : k < 8) (n : Nat) : s.Posts (s.evtAdd p i k n) :=
  .evtAdd_of_counts hk (.evtAdd s hp hi hk n)

/-- Another event than a chunk's counted, on whatever page. -/
theorem evtAdd_off (s : State) (p : Page) (i n : Nat) {k : Nat} (hk : k < 8) (hkc : k ∉ chunkCounts) : s.Posts (s.evtAdd p i k n) :=
  .evtAdd_of_counts hk (.evtAdd_off s p i n hk hkc)

/-! ### The central store -/

theorem touchPage (s : State) (pg : Nat) : s.Posts (s.touchPage pg) := by
  unfold State.touchPage
  split
  · exact .refl s
  · split <;> exact .of_parts rfl rfl

theorem touchBufs (s : State) (qs : List Nat) : s.Posts (s.touchBufs qs) := .foldl (fun t _ => .touchPage t _) qs s

theorem outPages (s : State) (pgs : List Nat) : s.Posts (s.outPages pgs) := by
  refine .foldl (fun t pg => ?_) pgs s
  split
  · exact .refl t
  · split <;> exact .of_parts rfl rfl

theorem pageWork (s : State) : s.Posts s.pageWork := by
  unfold State.pageWork
  split
  · exact .refl s
  · exact (State.Posts.useFree s).trans ((State.Posts.outPages _ _).trans (.of_parts rfl rfl))

theorem enterPage (s : State) (pg : Nat) : s.Posts (s.enterPage pg) := by
  unfold State.enterPage
  split
  · exact .after (.pageWork _) rfl rfl
  · exact .touchPage s pg

theorem sendPause (s : State) (n c q : Nat) : s.Posts (s.sendPause n c q) := by
  unfold State.sendPause
  split <;> exact .of_parts rfl rfl

theorem pfcPort (c : Nat) (s : State) (n : Nat) : s.Posts (s.pfcPort c n) := by
  unfold State.pfcPort
  dsimp only
  split
  · exact .after (.sendPause _ _ _ _) rfl rfl
  · split
    · exact .after (.sendPause _ _ _ _) rfl rfl
    · exact .refl s

theorem compareClass (s : State) (c : Nat) : s.Posts (s.compareClass c) := by
  have hnoted : s.Posts (s.noteLevels c) := by
    refine .foldl (fun t p => ?_) _ s
    exact .of_parts rfl rfl
  unfold State.compareClass
  dsimp only
  split
  · exact hnoted.trans (.after (.foldl (.pfcPort c) _ _) rfl rfl)
  · split <;> exact hnoted.trans (.of_parts rfl rfl)

theorem alloc {c p q : Nat} {port : Option Nat} (h : s.alloc c p port = some (q, t)) : s.Posts t := by
  unfold State.alloc at h
  split at h
  · exact absurd h.symm (Option.some_ne_none _)
  split at h
  · exact absurd h.symm (Option.some_ne_none _)
  next a _ =>
    obtain ⟨-, rfl⟩ := Prod.mk.inj (Option.some.inj h)
    have hpage : s.Posts (s.useFree.enterPage (pageOfPtr a)) := (State.Posts.useFree s).trans (.enterPage _ _)
    generalize s.useFree.enterPage (pageOfPtr a) = u at hpage
    exact hpage.trans (.after (.compareClass _ _) rfl rfl)

/-- An error of the central store, counted. -/
theorem pntErr_counted (s : State) (bit info addr : Nat) {k : Nat} (hk : k < 8) (n : Nat) : s.Posts ((s.pntErr bit info addr).evtAdd .pnt 0 k n) :=
  (State.Posts.raise s _ _ _ _ _ _ _).trans (.evtAdd _ (by decide) (by decide) hk n)

theorem freeBuf (unit pool : Nat) (s : State) (q : Nat) : s.Posts (s.freeBuf unit pool q) := by
  unfold State.freeBuf
  dsimp only
  split
  · exact .pntErr_counted s _ _ _ (by decide) _
  split
  · exact .pntErr_counted s _ _ _ (by decide) _
  split
  · exact .pntErr_counted s _ _ _ (by decide) _
  · exact .after (.compareClass _ _) rfl rfl

theorem freeBufs (unit : Nat) (qs : List Nat) (s : State) : s.Posts (s.freeBufs unit qs) := .foldl (fun t _ => .freeBuf _ _ t _) qs s

theorem overrun (unit c p : Nat) (s : State) : s.Posts (s.overrun unit c p) := by
  unfold State.overrun
  exact .pntErr_counted s _ _ _ (by decide) _

/-! ### Rally links -/

theorem putControl (s : State) (n kind ack : Nat) : s.Posts (s.putControl n kind ack) := .of_parts rfl rfl

theorem flushControl (n fuel : Nat) (s : State) : s.Posts (s.flushControl n fuel) := by
  induction fuel generalizing s with
  | zero => exact .refl s
  | succ fuel ih =>
    unfold State.flushControl
    dsimp only
    split
    · exact .refl s
    split
    · exact .trans (.after (.putControl (s.setLink n _) n _ _) rfl rfl) (ih _)
    · exact .refl s

theorem flushLane (n : Nat) (s : State) (lane : Nat) : s.Posts (s.flushLane n lane) := by
  unfold State.flushLane
  dsimp only
  split
  · exact .refl s
  · refine .after (.foldl (fun t m => ?_) _ (s.setLink n _)) rfl rfl
    exact .of_parts rfl rfl

theorem returnCredits (s : State) (k : Pkt) : s.Posts (s.returnCredits k) := by
  unfold State.returnCredits
  split
  · exact .refl s
  · next n _ => exact .after (.flushLane _ (s.setLink n _) _) rfl rfl

theorem sendPacket (s : State) (n : Nat) (k : Pkt) : s.Posts (s.sendPacket n k) := by
  unfold State.sendPacket
  dsimp only
  refine .after (.foldl (fun t i => ?_) _ _) rfl rfl
  exact .of_parts rfl rfl

theorem freePkt (s : State) (k : Pkt) : s.Posts (s.freePkt k) := .freeBufs _ _ _

theorem askHeads (s : State) (n : Nat) : s.Posts (s.askHeads n) := by
  refine .foldl (fun t q => ?_) _ s
  split
  · split
    · exact .refl t
    · exact .touchBufs t _
  · exact .refl t

theorem pump (n fuel : Nat) (s : State) : s.Posts (s.pump n fuel) := by
  induction fuel generalizing s with
  | zero => exact .refl s
  | succ fuel ih =>
    unfold State.pump
    split
    · exact .refl s
    extract_lets s0 lane
    have h0 : s.Posts s0 := by
      simp only [s0]
      split
      · exact .refl s
      · exact .useFree s
    split
    · exact h0
    next p rest _ =>
      extract_lets k s1 s2
      have h2 : s.Posts s2 := h0.trans (.of_parts rfl rfl)
      exact ((((h2.trans (.touchBufs _ _)).trans (.sendPacket _ _ _)).trans (.freePkt _ _)).trans (.returnCredits _ _)).trans (ih _)

theorem pumpPort (s : State) (n : Nat) : s.Posts (s.pumpPort n) := ((State.Posts.flushControl n _ s).trans (.askHeads _ n)).trans (.pump n _ _)

theorem pumpAll (s : State) : s.Posts s.pumpAll := .foldl (fun t n => (State.Posts.foldl (.flushLane n) _ t).trans (.pumpPort _ n)) _ s

/-! ### Packets -/

/-- An error of the fabric, counted. -/
theorem fabErr_counted (s : State) (bit port axis coord reason hi : Nat) {k : Nat} (hk : k < 8) (n : Nat) :
    s.Posts ((s.fabErr bit port axis coord reason hi).evtAdd .fab 0 k n) :=
  (State.Posts.raise s _ _ _ _ _ _ _).trans (.evtAdd _ (by decide) (by decide) hk n)

theorem dropPkt (s : State) (k : Pkt) : s.Posts (s.dropPkt k) :=
  ((State.Posts.freePkt s k).trans (.returnCredits _ k)).trans (.of_parts rfl rfl)

theorem noteLost (s : State) (k : Pkt) : s.Posts (s.noteLost k) := by
  unfold State.noteLost
  split <;> exact .of_parts rfl rfl

/-- An event of the switch core counted if a condition holds. -/
theorem evtAdd_sw_if (s : State) (c : Prop) [Decidable c] {k : Nat} (hk : k < 8) (n : Nat) : s.Posts (if c then s.evtAdd .sw 0 k n else s) := by
  split
  · exact .evtAdd s (by decide) (by decide) hk n
  · exact .refl s

theorem queuePkt (s : State) (n lane : Nat) (k : Pkt) : s.Posts (s.queuePkt n lane k) := by
  unfold State.queuePkt
  dsimp only
  split
  · exact (State.Posts.overrun _ _ _ s).trans (.dropPkt _ _)
  split
  · exact .dropPkt s _
  · refine .trans (.trans (.after (.evtAdd_sw_if _ _ (by decide) _) ?_ ?_) (.evtAdd_sw_if _ _ (by decide) _)) (.pumpPort _ _) <;> rfl

theorem noRoute (s : State) (k : Pkt) (axis coord reason : Nat) : s.Posts (s.noRoute k axis coord reason) := by
  unfold State.noRoute
  exact ((State.Posts.noteLost s k).trans (.fabErr_counted _ _ _ _ _ _ _ (by decide) _)).trans (.dropPkt _ k)

theorem stale (s : State) (k : Pkt) : s.Posts (s.stale k) := by
  unfold State.stale
  exact ((State.Posts.noteLost s k).trans (.fabErr_counted _ _ _ _ _ _ _ (by decide) _)).trans (.dropPkt _ k)

theorem takeDetour (s : State) (k : Pkt) (a d p : Nat) : s.Posts (s.takeDetour k a d p) := by
  unfold State.takeDetour
  split
  · exact .noRoute s _ _ _ _
  · exact (State.Posts.evtAdd s (by decide) (by decide) (by decide) 1).trans (.queuePkt _ _ _ _)

theorem route (s : State) (k : Pkt) : s.Posts (s.route k) := by
  unfold State.route
  split
  · exact .dropPkt s k
  dsimp only
  split
  · exact .noRoute s _ _ _ _
  split
  · exact .queuePkt s _ _ _
  split
  · exact .takeDetour s _ _ _ _
  · exact .noRoute s _ _ _ _

theorem injectAs (s : State) (loose : Bool) (unit dst cls txn opc arg : Nat) (mc : Option Nat) (payload : List Byte) :
    s.Posts (s.injectAs loose unit dst cls txn opc arg mc payload) := by
  unfold State.injectAs
  extract_lets e rly s1 key pkt go p
  have h1 : s.Posts s1 := .of_parts rfl rfl
  have hgo : ∀ (bufs : List Nat) (t : State), t.Posts (go bufs t) := by
    intro bufs t
    simp only [go]
    split
    · exact .route t _
    · exact .after (.route _ _) rfl rfl
  split
  · exact h1.trans (.stale _ _)
  split
  · exact h1.trans (hgo _ _)
  split
  · next halloc => exact (h1.trans (.alloc halloc)).trans (hgo _ _)
  · exact (h1.trans (.overrun _ _ _ _)).trans (.of_parts rfl rfl)

theorem injectLine (s : State) (loose : Bool) (unit axis mask cls opc arg : Nat) (payload : List Byte) :
    s.Posts (s.injectLine loose unit axis mask cls opc arg payload).1 := by
  unfold State.injectLine
  refine (State.Posts.evtAdd s (by decide) (by decide) (by decide) _).trans (.foldl (fun t c => ?_) _ _)
  exact (State.Posts.injectAs t _ _ _ _ _ _ _ _ _).trans (.evtAdd _ (by decide) (by decide) (by decide) _)

/-! ### What a collective sends -/

theorem looseRefused (s : State) : s.Posts s.looseRefused := .fabErr_counted s _ _ _ _ _ _ (by decide) _

theorem collSends (l : LRec) (rank opc : Nat) (payload : List Byte) (ds : List (Nat × Nat)) (s : State) :
    s.Posts (s.collSends l rank opc payload ds).2 := by
  induction ds generalizing s with
  | nil => exact .refl s
  | cons d ds ih =>
    unfold State.collSends
    dsimp only
    split
    · exact .refl s
    split
    · exact .looseRefused s
    · exact (State.Posts.injectAs s _ _ _ _ _ _ _ _ _).trans (ih _)

theorem collAbortAll (s : State) (l : LRec) (rank code : Nat) : s.Posts (s.collAbortAll l rank code) :=
  .foldl (fun t _ => .injectAs t _ _ _ _ _ _ _ _ _) _ s

/-- Whether a member is a fenced neighbour depends on settings alone. -/
theorem memberFenced (h : s.Posts t) (l : LRec) (r : Nat) : t.memberFenced l r = s.memberFenced l r := by
  have hmodule : t.module = s.module := congrArg (bits · 11 0) (h.settings .fab 0 0x100 (by decide) (by decide))
  have hfence : ∀ a c, t.neighbourFenced a c = s.neighbourFenced a c := fun a c =>
    congrArg (bitOn · (16 * a + c)) (h.settings .fab 0 0x120 (by decide) (by decide))
  simp only [State.memberFenced, hmodule, hfence]

end State.Posts

/-- Where no member named is a fenced neighbour, and the collective is not loose in strict mode, nothing ends a send. -/
theorem State.collSends_sent {l : LRec} {ds : List (Nat × Nat)} {s : State} (hf : ∀ d ∈ ds, s.memberFenced l d.1 = false)
    (hl : ¬ (l.loose = true ∧ s.strict = true)) (rank opc : Nat) (payload : List Byte) : (s.collSends l rank opc payload ds).1 = none := by
  induction ds generalizing s with
  | nil => rfl
  | cons d ds ih =>
    have hpost := State.Posts.injectAs s l.loose (unitColl (slotOf l.ticket)) (l.members.getD d.1 0) 3 0 opc (collArg (slotOf l.ticket) rank d.2) none payload
    unfold State.collSends
    dsimp only
    rw [hf d List.mem_cons_self, if_neg Bool.false_ne_true, if_neg (by simpa using hl)]
    exact ih (fun c hc => (hpost.memberFenced l c.1).trans (hf c (List.mem_cons_of_mem d hc))) (by rwa [hpost.strict])

end Sys2Proof.Machine
end

section
/-! PROOFS. How a launch and a collective end (R404, R407, R412 to R416): its command completes (`State.Closes`), its slot is free again
(`State.Concludes`), and where nothing else runs or waits the engines then rest. -/

namespace Sys2Proof.Machine

/-! ### What a command of the engines shows after the ports have sent -/

/-- The completions, the commands, the collectives, the error bits and the counts of chunks are those of the effect `s`. -/
structure State.Shows (s t : State) : Prop where
  done : t.hif.done = s.hif.done
  opened : t.hif.opened = s.hif.opened
  window : t.hif.window = s.hif.window
  coll : t.coll = s.coll
  errs : s.KeepsErrs t
  counts : s.CountsChunksAs t

/-- A command of the collective engines leaves what its effect shows. -/
theorem State.answer_pumped (s u : State) : ∃ t, s.answer touchColl u.pumpAll = .next t ∧ u.Shows t := by
  have hpost := State.Posts.pumpAll u
  exact ⟨_, rfl, hpost.done, hpost.opened, hpost.window, (State.Sends.pumpAll u).coll, hpost.errs, hpost.counts⟩

theorem State.Shows.slot {s t : State} (h : s.Shows t) (j : Nat) : t.slot j = s.slot j := by rw [State.slot, h.coll]; rfl

/-! ### The launch command completes -/

/-- The engines' state without what is noted of collectives that ended: lost packets and tickets. -/
def Coll.ongoing (c : Coll) : Coll := { c with lost := [], ended := [] }

/-- The command `c` of a collective completes with STATUS `st`, and no other; the slots and the launches that are held or wait stay as they are. -/
structure State.Closes (c : OpenCmd) (st : Nat) (s t : State) : Prop where
  done : t.hif.done = s.hif.done ++ [c.compl st 0 0 0]
  window : t.hif.window = s.hif.window
  coll : t.coll.ongoing = s.coll.ongoing
  errs : s.KeepsErrs t
  counts : s.CountsChunksAs t

theorem State.Posts.ongoing {s t : State} (h : s.Posts t) : t.coll.ongoing = s.coll.ongoing := (congrArg Coll.ongoing h.coll :)

namespace State.Closes
variable {c : OpenCmd} {st : Nat} {s t u : State}

theorem slots (h : State.Closes c st s t) : t.coll.slots = s.coll.slots := (congrArg Coll.slots h.coll :)
theorem queued (h : State.Closes c st s t) : t.coll.queued = s.coll.queued := (congrArg Coll.queued h.coll :)
theorem held (h : State.Closes c st s t) : t.coll.held = s.coll.held := (congrArg Coll.held h.coll :)
theorem last (h : State.Closes c st s t) : t.coll.last = s.coll.last := (congrArg Coll.last h.coll :)

/-- Packets may be sent before. -/
theorem posted (h : State.Closes c st t u) (k : s.Posts t) : State.Closes c st s u :=
  ⟨by rw [h.done, k.done], h.window.trans k.window, h.coll.trans k.ongoing, k.errs.trans h.errs, k.counts.trans h.counts⟩

/-- Packets may be sent after. -/
theorem posts (h : State.Closes c st s t) (k : t.Posts u) : State.Closes c st s u :=
  ⟨by rw [k.done, h.done], k.window.trans h.window, k.ongoing.trans h.coll, h.errs.trans k.errs, h.counts.trans k.counts⟩

/-- Other parts of the state may change after. -/
theorem of_parts (h : State.Closes c st s t) (hif : u.hif = t.hif) (coll : u.coll.ongoing = t.coll.ongoing) (regs : u.regs = t.regs) :
    State.Closes c st s u :=
  ⟨by rw [hif, h.done], by rw [hif, h.window], coll.trans h.coll, h.errs.trans (.of_regs regs), h.counts.trans (.of_regs regs)⟩

end State.Closes

/-- With a place in the buffer, the open command of a SEQ completes. -/
theorem State.endLaunch_open {s : State} {q : Nat} {c : OpenCmd} (hc : s.openCmd q = some c) (hroom : s.hif.done.length < 4096) (st : Nat) :
    s.endLaunch q st =
      { s with hif := { s.hif with opened := s.hif.opened.filter (fun o => o.seq != c.seq), done := s.hif.done ++ [c.compl st 0 0 0] } } := by
  have hplace : s.room c.ring = true := by simp [State.room, hroom]
  rw [State.endLaunch, hc]
  exact State.finishOpen_room s c st 0 0 0 hplace

theorem State.Closes.endLaunch {s : State} {q : Nat} {c : OpenCmd} (hc : s.openCmd q = some c) (hroom : s.hif.done.length < 4096) (st : Nat) :
    State.Closes c st s (s.endLaunch q st) := by
  rw [State.endLaunch_open hc hroom]
  exact ⟨rfl, rfl, rfl, .of_regs rfl, .of_regs rfl⟩

/-! ### How a collective ends -/

/-- An error of an engine recorded and counted, and the launch command of SEQ `q` completed with the STATUS that names it (R416, R554). -/
def State.collReported (e bit tag ticket info info2 q : Nat) (s : State) : State :=
  ((s.raise .coll e bit tag ticket info info2).evtAdd .coll e 1 1).endLaunch q (statusOf .coll bit)

/-- The tickets whose collectives have ended here replaced. -/
def State.setEnded (tickets : List Nat) (s : State) : State := { s with coll.ended := tickets }

theorem State.refuseLaunch_eq (l : LRec) (q tag bit info2 : Nat) (abort : Bool) (s : State) :
    s.refuseLaunch l q tag bit info2 abort =
      let rank := (l.rankOf s.module).getD 0
      let t := s.collReported 0 bit tag l.ticket (collInfo rank 0 (slotOf l.ticket) 0 0) info2 q
      if abort then (t.setEnded (addTo t.coll.ended l.ticket)).collAbortAll l rank bit else t := rfl

theorem State.collEnds_eq (l : LRec) (q tag rank bit peer chunk addr : Nat) (remote : Option Nat) (s : State) :
    s.collEnds l q tag rank bit peer chunk addr remote =
      let j := slotOf l.ticket
      let t := s.collReported (engineOf j) bit tag l.ticket (collInfo (remote.getD rank) (b2n remote.isSome) j peer chunk) addr q
      let u := (t.freeAt l.dst l.outBytes).setEnded (addTo t.coll.ended l.ticket)
      if remote.isSome then u else u.collAbortAll l rank bit := rfl

/-- Bytes of device memory that become free values are no concern of the commands, the collectives or the registers. -/
theorem State.freeAt_leaves (s : State) (a n : Nat) : (s.freeAt a n).hif = s.hif ∧ (s.freeAt a n).coll = s.coll ∧ (s.freeAt a n).regs = s.regs :=
  List.foldlRecOn (motive := fun t : State => t.hif = s.hif ∧ t.coll = s.coll ∧ t.regs = s.regs) _ _ ⟨rfl, rfl, rfl⟩ fun _ ht _ _ => ht

section ends
variable {s : State} {q : Nat} {c : OpenCmd} (hc : s.openCmd q = some c) (hroom : s.hif.done.length < 4096)
include hc hroom

theorem State.Closes.collReported (e tag ticket info info2 : Nat) {bit : Nat} (hbit : bit < 64) :
    State.Closes c (0x2200 + bit) s (s.collReported e bit tag ticket info info2 q) ∧ (s.collReported e bit tag ticket info info2 q).errSet .coll e bit := by
  have hset : (s.raise .coll e bit tag ticket info info2).errSet .coll e bit := State.raise_errSet _ _ _ _ _ _ _ _ hbit
  have hraise := State.Posts.raise s .coll e bit tag ticket info info2
  unfold State.collReported
  generalize s.raise .coll e bit tag ticket info info2 = t at *
  have hcount : t.Posts (t.evtAdd .coll e 1 1) := .evtAdd_off t _ _ _ (by decide) (by decide)
  have hpost := hraise.trans hcount
  have hclose : State.Closes c (0x2200 + bit) (t.evtAdd .coll e 1 1) ((t.evtAdd .coll e 1 1).endLaunch q (statusOf .coll bit)) :=
    .endLaunch (by rwa [hpost.openCmd]) (by rwa [hpost.done]) _
  exact ⟨hclose.posted hpost, hclose.errs _ _ _ (hcount.errs _ _ _ hset)⟩

/-- A launch ends without having been accepted (R407, R408). -/
theorem State.Closes.refuseLaunch (l : LRec) (tag info2 : Nat) (abort : Bool) {bit : Nat} (hbit : bit < 64) :
    State.Closes c (0x2200 + bit) s (s.refuseLaunch l q tag bit info2 abort) ∧ (s.refuseLaunch l q tag bit info2 abort).errSet .coll 0 bit := by
  rw [State.refuseLaunch_eq]
  extract_lets rank t
  obtain ⟨hclose, hset⟩ : State.Closes c (0x2200 + bit) s t ∧ t.errSet .coll 0 bit := State.Closes.collReported hc hroom 0 tag _ _ info2 hbit
  split
  · have hnoted : State.Closes c (0x2200 + bit) s (t.setEnded (addTo t.coll.ended l.ticket)) := hclose.of_parts rfl rfl rfl
    have hpost := State.Posts.collAbortAll (t.setEnded (addTo t.coll.ended l.ticket)) l rank bit
    exact ⟨hnoted.posts hpost, hpost.errs _ _ _ hset⟩
  · exact ⟨hclose, hset⟩

/-- An accepted collective ends by a fault (R412 to R416). -/
theorem State.Closes.collEnds (l : LRec) (tag rank peer chunk addr : Nat) (remote : Option Nat) {bit : Nat} (hbit : bit < 64) :
    State.Closes c (0x2200 + bit) s (s.collEnds l q tag rank bit peer chunk addr remote) ∧
      (s.collEnds l q tag rank bit peer chunk addr remote).errSet .coll (engineOf (slotOf l.ticket)) bit := by
  rw [State.collEnds_eq]
  extract_lets j t u
  obtain ⟨hclose, hset⟩ : State.Closes c (0x2200 + bit) s t ∧ t.errSet .coll (engineOf j) bit :=
    State.Closes.collReported hc hroom (engineOf j) tag _ _ addr hbit
  obtain ⟨hhif, hcoll, hregs⟩ := t.freeAt_leaves l.dst l.outBytes
  have hfreed : State.Closes c (0x2200 + bit) s u := hclose.of_parts hhif (congrArg Coll.ongoing hcoll :) hregs
  have hset2 : u.errSet .coll (engineOf j) bit := State.KeepsErrs.of_regs hregs _ _ _ hset
  split
  · exact ⟨hfreed, hset2⟩
  · have hpost := State.Posts.collAbortAll u l rank bit
    exact ⟨hfreed.posts hpost, hpost.errs _ _ _ hset2⟩

end ends

/-! ### A slot that is free again -/

/-- The slot `j` is free, every other as it was. -/
structure State.Frees (j : Nat) (s t : State) : Prop where
  slots : t.coll.slots = Sparse.set {} s.coll.slots j {}
  queued : t.coll.queued = s.coll.queued
  done : t.hif.done = s.hif.done
  opened : t.hif.opened = s.hif.opened
  errs : s.KeepsErrs t
  counts : s.CountsChunksAs t

theorem State.Frees.freeSlot (s : State) (j : Nat) : State.Frees j s (s.freeSlot j) := by
  have hpost := State.Posts.freeBufs (unitColl j) (s.slot j).loaves s
  have hcoll : ∀ t : State, t = s.freeBufs (unitColl j) (s.slot j).loaves → t.coll = s.coll := by
    rintro t rfl
    exact (State.Sends.freeBufs (sent := true) _ _ s).coll
  unfold State.freeSlot
  dsimp only
  generalize State.freeBufs (unitColl j) (s.slot j).loaves s = t at *
  refine ⟨?_, hpost.queued, hpost.done, hpost.opened, hpost.errs, hpost.counts⟩
  rw [← hcoll t rfl]
  rfl

/-- The collective in slot `j` has ended: its command `c` completes with STATUS `st`, and its slot is free. -/
structure State.Concludes (j : Nat) (c : OpenCmd) (st : Nat) (s t : State) : Prop where
  slots : t.coll.slots = Sparse.set {} s.coll.slots j {}
  queued : t.coll.queued = s.coll.queued
  done : t.hif.done = s.hif.done ++ [c.compl st 0 0 0]
  errs : s.KeepsErrs t
  counts : s.CountsChunksAs t

theorem State.openCmd_congr {s t : State} (h : t.hif.opened = s.hif.opened) (q : Nat) : t.openCmd q = s.openCmd q := by
  rw [State.openCmd, h]
  rfl

section concludes
variable {s : State} {j : Nat} {c : OpenCmd} (hc : s.openCmd (s.slot j).seq = some c) (hroom : s.hif.done.length < 4096)
include hc hroom

/-- A collective in a slot ends by a fault. -/
theorem State.Concludes.collFault (hbusy : (s.slot j).state ≠ 0) (peer chunk addr : Nat) (remote : Option Nat) {bit : Nat} (hbit : bit < 64) :
    State.Concludes j c (0x2200 + bit) s (s.collFault j bit peer chunk addr remote) ∧
      (s.collFault j bit peer chunk addr remote).errSet .coll (engineOf (slotOf (s.slot j).launch.ticket)) bit := by
  have hfree := State.Frees.freeSlot s j
  obtain ⟨hclose, hset⟩ := State.Closes.collEnds (s := s.freeSlot j) (by rwa [State.openCmd_congr hfree.opened]) (by rwa [hfree.done])
    (s.slot j).launch (s.slot j).tag (s.slot j).rank peer chunk addr remote hbit
  unfold State.collFault
  dsimp only
  rw [if_neg (by simp [Slot.busy, hbusy])]
  exact ⟨⟨hclose.slots.trans hfree.slots, hclose.queued.trans hfree.queued, by rw [hclose.done, hfree.done], hfree.errs.trans hclose.errs,
    hfree.counts.trans hclose.counts⟩, hset⟩

/-- A collective that signals no counter is delivered (R404). -/
theorem State.Concludes.deliverColl (hdone : (s.slot j).launch.doneEn = false) : State.Concludes j c 0 s (s.deliverColl j) := by
  have hcount : s.Posts (s.evtAdd .coll (engineOf j) 0 1) := .evtAdd_off s _ _ _ (by decide) (by decide)
  have hclose := (State.Closes.endLaunch (s := s.evtAdd .coll (engineOf j) 0 1) hc hroom 0).posted hcount
  unfold State.deliverColl
  dsimp only
  rw [hdone, if_neg Bool.false_ne_true]
  generalize (s.evtAdd .coll (engineOf j) 0 1).endLaunch (s.slot j).seq 0 = t at *
  have hfree := State.Frees.freeSlot t j
  exact ⟨by rw [hfree.slots, hclose.slots], hfree.queued.trans hclose.queued, by rw [hfree.done, hclose.done], hclose.errs.trans hfree.errs,
    hclose.counts.trans hfree.counts⟩

end concludes

/-! ### The engines at rest -/

/-- No packet is noted as lost. -/
def State.noneLost (s : State) : State := { s with coll.lost := [] }

/-- Where no slot is in use and no launch waits, the pass over the collectives forgets what was lost, and no more. -/
theorem State.collSettle_rest {s : State} (hslots : s.coll.slots = []) (hqueued : s.coll.queued = []) :
    s.collSettle = s.noneLost := by
  rw [State.collSettle, hslots, hqueued]
  rfl

/-- A command with which the last collective ended: it has completed, and its slot is free. -/
theorem State.Concludes.answered {j : Nat} {c : OpenCmd} {st : Nat} {s u : State} (h : State.Concludes j c st s u)
    (hlast : Sparse.set {} s.coll.slots j {} = []) (hqueued : s.coll.queued = []) (s0 : State) :
    ∃ t, s0.answer touchColl u.collSettle.pumpAll = .next t ∧ t.coll.queued = [] ∧ (t.slot j).state = 0 ∧
      t.hif.done = s.hif.done ++ [c.compl st 0 0 0] ∧ u.KeepsErrs t ∧ u.CountsChunksAs t := by
  have hslots : u.coll.slots = [] := h.slots.trans hlast
  have hnone : u.coll.queued = [] := h.queued.trans hqueued
  rw [State.collSettle_rest hslots hnone]
  obtain ⟨t, ht, hshow⟩ := State.answer_pumped s0 u.noneLost
  have hempty : t.coll.slots = [] := (congrArg Coll.slots hshow.coll).trans hslots
  refine ⟨t, ht, (congrArg Coll.queued hshow.coll).trans hnone, ?_, hshow.done.trans h.done, hshow.errs, hshow.counts⟩
  rw [State.slot, hempty]
  rfl

/-! ### The only slot in use -/

section single
variable {s : State} {j : Nat} {x : Slot} (h : s.coll.slots = [(j, x)])
include h

theorem State.slot_single : s.slot j = x := by
  rw [State.slot, h]
  exact if_pos rfl

/-- Its table with it free is empty. -/
theorem State.slots_single_free : Sparse.set {} s.coll.slots j {} = [] := by
  rw [h]
  simp [Sparse.set]

/-- The other slots are free. -/
theorem State.slot_single_other {k : Nat} (hk : k ≠ j) : (s.slot k).state = 0 := by
  rw [State.slot, h]
  exact congrArg Slot.state (if_neg (Ne.symm hk))

end single

/-- A slot stored anew and then freed is just freed. -/
theorem State.slots_setSlot_free (s : State) (j : Nat) (y : Slot) :
    Sparse.set {} (s.setSlot j y).coll.slots j {} = Sparse.set {} s.coll.slots j {} := Sparse.set_set _ _ _ _ _

end Sys2Proof.Machine
end

section
/-! PROOFS. Collectives in their slots (R392, R400, R404, R410 to R412): one that waits stays as it is (`Slot.Waits`), a BARRIER has no chunks, a slot
starts, and a control packet reaches the collective in its slot. -/

namespace Sys2Proof.Machine

/-! ### A collective that waits -/

/-- A collective that waits for a JOIN or for a FIN, with no sender to ask for chunks. -/
structure Slot.Waits (x : Slot) : Prop where
  asked : x.toAsk = []
  waits : (x.state = 2 ∧ ∃ r ∈ x.others, r ∉ x.joins) ∨ (x.state = 4 ∧ ∃ r ∈ x.others, r ∉ x.fins)

/-- Some member is missing from a list. -/
theorem not_all_contains {as bs : List Nat} (h : ∃ r ∈ as, r ∉ bs) : as.all (bs.contains ·) = false := by
  obtain ⟨r, hr, hnot⟩ := h
  exact List.all_eq_false.mpr ⟨r, hr, by simpa using hnot⟩

theorem State.askSenders_none {s : State} {j : Nat} (h : (s.slot j).toAsk = []) : s.askSenders j = s := by
  unfold State.askSenders
  dsimp only
  rw [h, if_pos (by simp)]

/-- The first of the three steps in which a collective moves on: every JOIN is here. -/
def State.endJoining (j : Nat) (s : State) : State :=
  if (s.slot j).state = 2 ∧ (s.slot j).others.all ((s.slot j).joins.contains ·) then s.setSlot j { s.slot j with state := 3 } else s

/-- The second: everything has been received and sent. -/
def State.endRunning (j : Nat) (s : State) : State :=
  if (s.slot j).state = 3 ∧ (s.slot j).gotAll ∧ (s.slot j).sentAll ∧ (s.slot j).inputReady ∧ !s.collBusy (s.slot j) then s.collOutput j else s

/-- The third: every FIN is here. -/
def State.endFinishing (j : Nat) (s : State) : State :=
  if (s.slot j).state = 4 ∧ (s.slot j).others.all ((s.slot j).fins.contains ·) then s.deliverColl j else s

theorem State.collAdvance_eq (s : State) (j : Nat) : s.collAdvance j = (((s.endJoining j).askSenders j).endRunning j).endFinishing j := rfl

theorem State.collAdvance_waits {s : State} {j : Nat} (h : (s.slot j).Waits) : s.collAdvance j = s := by
  have hjoin : s.endJoining j = s := by
    refine if_neg fun hall => ?_
    obtain ⟨-, hr⟩ | ⟨h4, -⟩ := h.waits
    · exact Bool.false_ne_true ((not_all_contains hr).symm.trans hall.2)
    · have := hall.1
      omega
  have hrun : s.endRunning j = s := by
    refine if_neg fun hall => ?_
    have := hall.1
    obtain ⟨h2, -⟩ | ⟨h4, -⟩ := h.waits <;> omega
  have hfin : s.endFinishing j = s := by
    refine if_neg fun hall => ?_
    obtain ⟨h2, -⟩ | ⟨-, hr⟩ := h.waits
    · have := hall.1
      omega
    · exact Bool.false_ne_true ((not_all_contains hr).symm.trans hall.2)
  rw [State.collAdvance_eq, hjoin, State.askSenders_none h.asked, hrun, hfin]

/-- With no packet lost here, a collective without tiles and without a counter to signal goes on. -/
theorem State.collLost_none {l : LRec} (htiles : l.tiles = false) (hdone : l.doneEn = false) (s : State) (rank : Nat) : s.collLost [] l rank = none := by
  simp [State.collLost, htiles, hdone]

/-- What the pass over the collectives does with a launch that waits for its slot. -/
def State.checkQueued (lost : List (Nat × Nat)) (s : State) (h : HeldLaunch) : State :=
  match s.collLost lost h.launch ((h.launch.rankOf s.module).getD 0) with
  | some r => s.queueFault h 6 r none
  | none => s

/-- What the pass over the collectives does with a slot. -/
def State.checkSlot (lost : List (Nat × Nat)) (s : State) (j : Nat) : State :=
  if !(s.slot j).busy then s
  else match s.collLost lost (s.slot j).launch (s.slot j).rank with
  | some r => s.collFault j 6 r 0 0 none
  | none => if s.clk.coast then s else s.collAdvance j

theorem State.collCheck_eq (s : State) : s.collCheck =
    (List.range 16).foldl (State.checkSlot s.coll.lost) (s.coll.queued.foldl (State.checkQueued s.coll.lost) s.noneLost) := rfl

theorem State.collSettle_eq (s : State) :
    s.collSettle = if s.coll.slots.isEmpty && s.coll.queued.isEmpty then s.noneLost else s.collCheck := rfl

/-- A free slot stays as it is. -/
theorem State.checkSlot_free {s : State} {j : Nat} (h : (s.slot j).state = 0) (lost : List (Nat × Nat)) : s.checkSlot lost j = s :=
  if_pos (by simp [Slot.busy, h])

theorem State.checkSlot_waits {s : State} {j : Nat} (h : (s.slot j).Waits) {lost : List (Nat × Nat)}
    (hgoes : s.collLost lost (s.slot j).launch (s.slot j).rank = none) : s.checkSlot lost j = s := by
  unfold State.checkSlot
  rw [hgoes]
  dsimp only
  rw [State.collAdvance_waits h, ite_self, ite_self]

/-- Where no launch waits, nothing was lost and every collective waits, the pass over the collectives changes nothing. -/
theorem State.collSettle_waits {s : State} (hqueued : s.coll.queued = []) (hlost : s.coll.lost = [])
    (h : ∀ k, (s.slot k).state ≠ 0 → (s.slot k).Waits ∧ s.collLost [] (s.slot k).launch (s.slot k).rank = none) : s.collSettle = s := by
  have hsame : s.noneLost = s := by rw [State.noneLost, ← hlost]
  rw [State.collSettle_eq, State.collCheck_eq, hsame, hqueued, hlost, List.foldl_nil, List.foldl_fixed' (fun k => ?_), ite_self]
  by_cases hfree : (s.slot k).state = 0
  · exact State.checkSlot_free hfree []
  · exact State.checkSlot_waits (h k hfree).1 (h k hfree).2

/-- A command that leaves the only collective waiting shows what was stored in its slot. -/
theorem State.answer_waits {u : State} {j : Nat} {y : Slot} (hj : u.slot j = y) (hfree : ∀ k, k ≠ j → (u.slot k).state = 0)
    (hqueued : u.coll.queued = []) (hlost : u.coll.lost = []) (hy : y.Waits) (hgoes : u.collLost [] y.launch y.rank = none) (s : State) :
    ∃ t, s.answer touchColl (u.collAdvance j).collSettle.pumpAll = .next t ∧ u.Shows t ∧ t.slot j = y := by
  have hsettle : u.collSettle = u := by
    refine State.collSettle_waits hqueued hlost fun k hk => ?_
    by_cases hkj : k = j
    · rw [hkj, hj]
      exact ⟨hy, hgoes⟩
    · exact absurd (hfree k hkj) hk
  rw [State.collAdvance_waits (by rwa [hj]), hsettle]
  obtain ⟨t, ht, hshow⟩ := State.answer_pumped s u
  exact ⟨t, ht, hshow, (hshow.slot j).trans hj⟩

/-! ### A BARRIER has no chunks (R391, R401) -/

section barrier
variable {l : LRec} (hop : l.op = 6)
include hop

theorem LRec.stretch_barrier (r d p : Nat) : l.stretch r d p = [] := by
  simp [LRec.stretch, hop, reduces]

theorem LRec.inBytes_barrier (r : Nat) : l.inBytes r = 0 := by
  simp [LRec.inBytes, hop, reduces]

theorem LRec.outBytes_barrier : l.outBytes = 0 := by
  simp [LRec.outBytes, hop]

end barrier

section barrier
variable {x : Slot} (hop : x.launch.op = 6)
include hop

theorem Slot.sources_barrier (p : Nat) : x.sources p = [] := by
  simp [Slot.sources, LRec.stretch_barrier hop]

theorem Slot.toAsk_barrier : x.toAsk = [] := by
  simp [Slot.toAsk, Slot.sources_barrier hop]

theorem Slot.streams_barrier : x.streams = 0 := by
  have hzero : ∀ ps : List Nat, (ps.map (fun p => (x.sources p).length)).foldl max 0 = 0 := by
    intro ps
    induction ps with
    | nil => rfl
    | cons p ps ih => simpa [Slot.sources_barrier hop] using ih
  exact hzero _

theorem Slot.gotAll_barrier : x.gotAll = true := by
  simp [Slot.gotAll, Slot.gotPhase, LRec.stretch_barrier hop, LRec.chunks]

theorem Slot.sentAll_barrier : x.sentAll = true := by
  simp [Slot.sentAll, Slot.targets, LRec.stream, LRec.stretch_barrier hop]

theorem Slot.output_barrier (own : List Byte) : x.output own = [] := by
  simp [Slot.output, hop]

/-- No bytes of device memory are waited for. -/
theorem State.collBusy_barrier (s : State) : s.collBusy x = false := by
  have hnone : ∀ a, s.devBusy a 0 = false := by
    intro a
    simp [State.devBusy, State.devPieces, piecesOf]
  simp [State.collBusy, LRec.inBytes_barrier hop, LRec.outBytes_barrier hop, hnone]

end barrier

/-- A BARRIER without another member runs through: it joins, has nothing to send or write, and is delivered (R404). -/
theorem State.collAdvance_alone {s : State} {j : Nat} (hop : (s.slot j).launch.op = 6) (htiles : (s.slot j).launch.tiles = false)
    (halone : (s.slot j).others = []) (hstate : (s.slot j).state = 2) :
    s.collAdvance j = ((s.setSlot j { s.slot j with state := 3 }).setSlot j { s.slot j with state := 4 }).deliverColl j := by
  have hothers : ∀ n, ({ s.slot j with state := n } : Slot).others = [] := fun _ => halone
  have hready : ({ s.slot j with state := 3 } : Slot).inputReady = true := by
    simp [Slot.inputReady, LRec.covered, htiles]
  have hjoin : s.endJoining j = s.setSlot j { s.slot j with state := 3 } := if_pos ⟨hstate, by simp [halone]⟩
  have hask : (s.setSlot j { s.slot j with state := 3 }).askSenders j = s.setSlot j { s.slot j with state := 3 } :=
    State.askSenders_none (by rw [State.slot_setSlot]; exact Slot.toAsk_barrier hop)
  have hrun : (s.setSlot j { s.slot j with state := 3 }).endRunning j =
      (s.setSlot j { s.slot j with state := 3 }).setSlot j { s.slot j with state := 4 } := by
    rw [State.endRunning, State.slot_setSlot,
      if_pos ⟨rfl, Slot.gotAll_barrier hop, Slot.sentAll_barrier hop, hready, by simp [State.collBusy_barrier (x := { s.slot j with state := 3 }) hop]⟩]
    unfold State.collOutput
    simp [State.readInput, LRec.inBytes_barrier hop, State.devWrite, Slot.output_barrier (x := { s.slot j with state := 3 }) hop, hothers,
      State.collControl, State.collSends, settleSend]
  rw [State.collAdvance_eq, hjoin, hask, hrun, State.endFinishing, State.slot_setSlot, if_pos ⟨rfl, by simp [hothers]⟩]

end Sys2Proof.Machine
end

section
/-! PROOFS. A BARRIER as the only collective (R392, R400, R404, R407, R410 to R413): its slot starts, control packets reach it there, and it ends. -/

namespace Sys2Proof.Machine

/-! ### A control packet reaches the collective in its slot (R392, R410, R412) -/

theorem State.takeInbox_coll (s : State) (i : Nat) (k : Pkt) : (s.takeInbox i k).coll = { s.coll with inbox := removeAt i s.coll.inbox } :=
  (State.Sends.freePkt _ k).coll

/-- A packet taken from the inbox leaves the slots. -/
theorem State.takeInbox_slot (s : State) (i : Nat) (k : Pkt) (j : Nat) : (s.takeInbox i k).slot j = s.slot j := by
  rw [State.slot, State.takeInbox_coll]
  rfl

/-- The packet's buffers go back, as after a packet discarded. -/
theorem State.Posts.takeInbox (s : State) (i : Nat) (k : Pkt) : State.Posts { s with coll.inbox := removeAt i s.coll.inbox } (s.takeInbox i k) :=
  State.Posts.freePkt _ k

theorem State.inboxAt_opc {s : State} {i opc : Nat} {k : Pkt} (h : s.inboxAt i opc = some k) : k.opc = opc := by
  unfold State.inboxAt at h
  split at h
  · split at h
    · next hk =>
      cases h
      simpa using (Bool.and_eq_true_iff.mp hk).1
    · exact absurd h.symm (Option.some_ne_none _)
  · exact absurd h.symm (Option.some_ne_none _)

theorem State.controlIn_slot {s : State} {i opc j : Nat} {k : Pkt} (hcoast : s.clk.coast = false) (hk : s.inboxAt i opc = some k)
    (hj : slotOf k.control.ticket = j) (hbusy : (s.slot j).state ≠ 0) (hticket : (s.slot j).launch.ticket = k.control.ticket) :
    s.controlIn i opc = (s.takeInbox i k).applyCtl j k.control := by
  unfold State.controlIn
  rw [hcoast, if_neg Bool.false_ne_true, hk]
  dsimp only
  rw [hj, State.takeInbox_slot, if_pos (by simp [Slot.busy, hbusy, hticket])]

/-- A slot with a grant taken (R400). -/
def Slot.granting (x : Slot) (c : PendCtl) : Slot := { x with granted := x.granted.setNum c.rank (grantTo (x.granted.num c.rank) c.arg) }

section applied
variable {s : State} {j : Nat} {c : PendCtl}

theorem State.applyCtl_join (h : c.opc = 1) (hd : c.digest = (s.slot j).launch.digest) :
    s.applyCtl j c = (s.setSlot j { s.slot j with joins := addTo (s.slot j).joins c.rank }).collAdvance j := by
  simp [State.applyCtl, h, hd]

theorem State.applyCtl_ready (h : c.opc = 2) : s.applyCtl j c = s.setSlot j ((s.slot j).granting c) := by
  simp [State.applyCtl, h, Slot.granting]

theorem State.applyCtl_fin (h : c.opc = 4) :
    s.applyCtl j c = (s.setSlot j { s.slot j with fins := addTo (s.slot j).fins c.rank }).collAdvance j := by
  simp [State.applyCtl, h]

theorem State.applyCtl_abort (h : c.opc = 5) : s.applyCtl j c = s.collFault j c.code 0 0 0 (some c.origin) := by
  simp [State.applyCtl, h]

end applied

/-- A grant stands for the number of its packet, modulo 2^24 (R398, R400). -/
theorem grantTo_mod (g v : Nat) : grantTo g v % 2 ^ 24 = v % 2 ^ 24 := by
  unfold grantTo
  omega

/-- A collective whose last FIN is here is delivered (R404). -/
theorem State.collAdvance_finished {s : State} {j : Nat} (hask : (s.slot j).toAsk = []) (hstate : (s.slot j).state = 4)
    (hfins : ∀ r ∈ (s.slot j).others, r ∈ (s.slot j).fins) : s.collAdvance j = s.deliverColl j := by
  have hjoin : s.endJoining j = s := if_neg fun h => by have := h.1; omega
  have hrun : s.endRunning j = s := if_neg fun h => by have := h.1; omega
  rw [State.collAdvance_eq, hjoin, State.askSenders_none hask, hrun]
  exact if_pos ⟨hstate, by simpa using hfins⟩

/-! ### A started BARRIER, the only collective -/

/-- The slot `j` alone is in use: `x`, without a counter to signal, whose launch command `c` is open; no launch waits, no packet was lost, and there is a
place for a completion. -/
structure State.Runs (s : State) (j : Nat) (x : Slot) (c : OpenCmd) : Prop where
  slots : s.coll.slots = [(j, x)]
  queued : s.coll.queued = []
  lost : s.coll.lost = []
  room : s.hif.done.length < 4096
  place : slotOf x.launch.ticket = j
  signals : x.launch.doneEn = false
  command : s.openCmd x.seq = some c

theorem State.Runs.slot {s : State} {j : Nat} {x : Slot} {c : OpenCmd} (h : s.Runs j x c) : s.slot j = x := State.slot_single h.slots

/-- The only collective is a BARRIER without tiles, and the engines run. -/
structure State.Barrier (s : State) (j : Nat) (x : Slot) (c : OpenCmd) : Prop extends State.Runs s j x c where
  coast : s.clk.coast = false
  op : x.launch.op = 6
  tiles : x.launch.tiles = false

namespace State.Barrier
variable {s : State} {j i : Nat} {x : Slot} {c : OpenCmd} {k : Pkt} (h : s.Barrier j x c)
include h

theorem toAsk (y : Slot) (hy : y.launch = x.launch) : y.toAsk = [] := Slot.toAsk_barrier (by rw [hy, h.op])

/-- What the packet `k`, taken from the inbox, is applied to. -/
theorem taken (hstate : x.state ≠ 0) (hticket : k.control.ticket = x.launch.ticket) {opc : Nat} (hk : s.inboxAt i opc = some k) :
    s.controlIn i opc = (s.takeInbox i k).applyCtl j k.control :=
  State.controlIn_slot h.coast hk (by rw [hticket, h.place]) (by rwa [h.slot]) (by rw [h.slot, hticket])

theorem free_other (y : Slot) (m : Nat) (hm : m ≠ j) : (((s.takeInbox i k).setSlot j y).slot m).state = 0 := by
  rw [State.slot_setSlot_other _ _ _ _ hm, State.takeInbox_slot]
  exact State.slot_single_other h.slots hm

theorem slots_free (y : Slot) : Sparse.set {} ((s.takeInbox i k).setSlot j y).coll.slots j {} = [] := by
  rw [State.slots_setSlot_free, State.takeInbox_coll]
  exact State.slots_single_free h.slots

/-- A packet that leaves the collective waiting has stored `y` in its slot. -/
theorem waits {y : Slot} (hlaunch : y.launch = x.launch)
    (hy : (y.state = 2 ∧ ∃ r ∈ y.others, r ∉ y.joins) ∨ (y.state = 4 ∧ ∃ r ∈ y.others, r ∉ y.fins)) :
    ∃ t, s.answer touchColl (((s.takeInbox i k).setSlot j y).collAdvance j).collSettle.pumpAll = .next t ∧
      t.coll.inbox = removeAt i s.coll.inbox ∧ t.slot j = y := by
  have hcoll := State.takeInbox_coll s i k
  obtain ⟨t, ht, hshow, hslot⟩ := State.answer_waits (u := (s.takeInbox i k).setSlot j y) (State.slot_setSlot ..) (h.free_other y)
    ((congrArg Coll.queued hcoll).trans h.queued) ((congrArg Coll.lost hcoll).trans h.lost) ⟨h.toAsk y hlaunch, hy⟩
    (State.collLost_none (by rw [hlaunch, h.tiles]) (by rw [hlaunch, h.signals]) _ _) s
  exact ⟨t, ht, (congrArg Coll.inbox hshow.coll).trans (congrArg Coll.inbox hcoll :), hslot⟩

theorem timeout (hstate : 2 ≤ x.state) : ∃ t, exec (.collTimeout j) s = .next t ∧ t.errSet .coll (engineOf j) 5 ∧ (t.slot j).state = 0 ∧
    t.hif.done = s.hif.done ++ [c.compl 0x2205 0 0 0] := by
  have hexec : exec (.collTimeout j) s = s.answer touchColl (s.collTimedOut j).pumpAll := rfl
  have hdue : s.collTimedOut j = (s.collFault j 5 x.lateRank 0 0 none).collSettle := by
    unfold State.collTimedOut
    rw [h.slot, h.coast]
    exact if_neg (by simp only [Bool.or_false, decide_eq_true_eq]; omega)
  obtain ⟨hends, hset⟩ := State.Concludes.collFault (s := s) (j := j) (bit := 5) (by rw [h.slot, h.command]) h.room (by rw [h.slot]; omega)
    x.lateRank 0 0 none (by decide)
  obtain ⟨t, ht, -, hfree, hdone, herrs, -⟩ := hends.answered (State.slots_single_free h.slots) h.queued s
  rw [h.slot, h.place] at hset
  exact ⟨t, by rw [hexec, hdue, ht], herrs _ _ _ hset, hfree, hdone⟩

theorem join (hticket : k.control.ticket = x.launch.ticket) (hk : s.inboxAt i 1 = some k) (hd : k.control.digest = x.launch.digest)
    (hstate : x.state = 2) (hmore : ∃ r ∈ x.others, r ∉ addTo x.joins k.control.rank) :
    ∃ t, exec (.collJoin i) s = .next t ∧ t.slot j = { x with joins := addTo x.joins k.control.rank } := by
  have hexec : exec (.collJoin i) s = s.answer touchColl (s.controlIn i 1).collSettle.pumpAll := rfl
  have hslot : (s.takeInbox i k).slot j = x := by rw [State.takeInbox_slot, h.slot]
  rw [hexec, h.taken (by omega) hticket hk, State.applyCtl_join (State.inboxAt_opc hk) (by rw [hslot, hd]), hslot]
  obtain ⟨t, ht, -, hy⟩ := h.waits (i := i) (k := k) (y := { x with joins := addTo x.joins k.control.rank }) rfl (.inl ⟨hstate, hmore⟩)
  exact ⟨t, ht, hy⟩

theorem ready (hticket : k.control.ticket = x.launch.ticket) (hk : s.inboxAt i 2 = some k)
    (hwaits : (x.state = 2 ∧ ∃ r ∈ x.others, r ∉ x.joins) ∨ (x.state = 4 ∧ ∃ r ∈ x.others, r ∉ x.fins)) :
    ∃ t, exec (.collReady i) s = .next t ∧ t.coll.inbox = removeAt i s.coll.inbox ∧ t.slot j = { x with granted := (t.slot j).granted } ∧
      (t.slot j).granted.num k.control.rank % 2 ^ 24 = k.control.arg % 2 ^ 24 := by
  have hexec : exec (.collReady i) s = s.answer touchColl (s.controlIn i 2).collSettle.pumpAll := rfl
  have hslot : (s.takeInbox i k).slot j = x := by rw [State.takeInbox_slot, h.slot]
  have hbusy : x.state ≠ 0 := by
    obtain ⟨h2, -⟩ | ⟨h4, -⟩ := hwaits <;> omega
  have hy : (x.granting k.control).Waits := ⟨h.toAsk _ rfl, hwaits⟩
  obtain ⟨t, ht, hinbox, hslots⟩ := h.waits (i := i) (k := k) (y := x.granting k.control) rfl hwaits
  rw [State.collAdvance_waits (by rwa [State.slot_setSlot])] at ht
  refine ⟨t, by rw [hexec, h.taken hbusy hticket hk, State.applyCtl_ready (State.inboxAt_opc hk), hslot, ht], hinbox, by rw [hslots]; rfl, ?_⟩
  rw [hslots]
  exact (congrArg (· % 2 ^ 24) (Sparse.get_set_same ..)).trans (grantTo_mod _ _)

theorem fin (hticket : k.control.ticket = x.launch.ticket) (hk : s.inboxAt i 4 = some k) (hstate : x.state = 4)
    (hall : ∀ r ∈ x.others, r ∈ addTo x.fins k.control.rank) :
    ∃ t, exec (.collFin i) s = .next t ∧ (t.slot j).state = 0 ∧ t.hif.done = s.hif.done ++ [c.compl 0 0 0 0] := by
  have hexec : exec (.collFin i) s = s.answer touchColl (s.controlIn i 4).collSettle.pumpAll := rfl
  have hslot : (s.takeInbox i k).slot j = x := by rw [State.takeInbox_slot, h.slot]
  have hpost := State.Posts.takeInbox s i k
  rw [hexec, h.taken (by omega) hticket hk, State.applyCtl_fin (State.inboxAt_opc hk), hslot]
  have hy : ((s.takeInbox i k).setSlot j { x with fins := addTo x.fins k.control.rank }).slot j = { x with fins := addTo x.fins k.control.rank } :=
    State.slot_setSlot ..
  rw [State.collAdvance_finished (by rw [hy]; exact h.toAsk _ rfl) (by rw [hy]; exact hstate) (by rw [hy]; exact hall)]
  have hends := State.Concludes.deliverColl (s := (s.takeInbox i k).setSlot j { x with fins := addTo x.fins k.control.rank }) (j := j) (c := c)
    (by rw [hy]; exact (hpost.openCmd x.seq).trans h.command) (by rw [State.setSlot_hif, hpost.done]; exact h.room) (by rw [hy]; exact h.signals)
  obtain ⟨t, ht, -, hfree, hdone, -, -⟩ := hends.answered (h.slots_free _) ((congrArg Coll.queued (State.takeInbox_coll s i k)).trans h.queued) s
  exact ⟨t, ht, hfree, by rw [hdone, State.setSlot_hif, hpost.done]⟩

theorem abort (hticket : k.control.ticket = x.launch.ticket) (hk : s.inboxAt i 5 = some k) (hstate : x.state ≠ 0) (hcode : k.control.code < 32) :
    ∃ t, exec (.collAbort i) s = .next t ∧ t.errSet .coll (engineOf j) k.control.code ∧ (t.slot j).state = 0 ∧
      t.hif.done = s.hif.done ++ [c.compl (0x2200 + k.control.code) 0 0 0] := by
  have hexec : exec (.collAbort i) s = s.answer touchColl (s.controlIn i 5).collSettle.pumpAll := rfl
  have hslot : (s.takeInbox i k).slot j = x := by rw [State.takeInbox_slot, h.slot]
  have hpost := State.Posts.takeInbox s i k
  have hcoll := State.takeInbox_coll s i k
  obtain ⟨hends, hset⟩ := State.Concludes.collFault (s := s.takeInbox i k) (j := j) (c := c) (bit := k.control.code)
    (by rw [hslot]; exact (hpost.openCmd x.seq).trans h.command) (by rw [hpost.done]; exact h.room) (by rwa [hslot]) 0 0 0 (some k.control.origin)
    (by omega)
  obtain ⟨t, ht, -, hfree, hdone, herrs, -⟩ := hends.answered (by rw [hcoll]; exact State.slots_single_free h.slots)
    ((congrArg Coll.queued hcoll).trans h.queued) s
  rw [hslot, h.place] at hset
  exact ⟨t, by rw [hexec, h.taken hstate hticket hk, State.applyCtl_abort (State.inboxAt_opc hk), ht], herrs _ _ _ hset, hfree,
    by rw [hdone, hpost.done]⟩

end State.Barrier

/-! ### A slot starts (R400, R407) -/

/-- A launch that leaves the queue for its slot, as it stands there in STATE `n`. -/
def HeldLaunch.entered (h : HeldLaunch) (n rank : Nat) : Slot :=
  { state := n, launch := h.launch, seq := h.seq, tag := h.tag, rank, joins := h.joins, fins := h.fins, granted := h.granted }

/-- The only launch that waits, of a BARRIER, for the slot `j`, which is free as every other, and its command `c`. -/
structure State.Due (s : State) (j : Nat) (h : HeldLaunch) (c : OpenCmd) : Prop where
  slots : s.coll.slots = []
  lost : s.coll.lost = []
  room : s.hif.done.length < 4096
  coast : s.clk.coast = false
  place : slotOf h.launch.ticket = j
  queued : s.coll.queued = [h]
  command : s.openCmd h.seq = some c
  op : h.launch.op = 6
  tiles : h.launch.tiles = false
  signals : h.launch.doneEn = false

/-- The state with no launch waiting. -/
def State.unqueued (s : State) : State := { s with coll.queued := [] }

namespace State.Due
variable {s : State} {j : Nat} {h : HeldLaunch} {c : OpenCmd} (hs : s.Due j h c)
include hs

theorem slot_free (k : Nat) : (s.slot k) = {} := by
  rw [State.slot, hs.slots]
  rfl

/-- With no member fenced the slot needs no buffer, and the BARRIER joins. -/
theorem starts (hfence : ∀ r ∈ h.launch.others ((h.launch.rankOf s.module).getD 0), s.memberFenced h.launch r = false) :
    s.slotStart j = ((s.unqueued.setSlot j (h.entered 2 ((h.launch.rankOf s.module).getD 0))).collAdvance j).collSettle := by
  generalize hrank : (h.launch.rankOf s.module).getD 0 = rank at *
  have hstart : s.slotStart j = ((s.unqueued.setSlot j (h.entered 1 rank)).startSlot j false).collSettle := by
    unfold State.slotStart
    dsimp only
    rw [hs.coast, hs.slot_free, hs.queued, ← hrank]
    simp [hs.place, Slot.busy, State.unqueued, HeldLaunch.entered]
  have hslot : (s.unqueued.setSlot j (h.entered 1 rank)).slot j = h.entered 1 rank := State.slot_setSlot ..
  have hmissing : (s.unqueued.setSlot j (h.entered 1 rank)).missing (h.entered 1 rank).launch (h.entered 1 rank).others = none :=
    List.find?_eq_none.mpr fun r hr => by
      rw [Bool.not_eq_true]
      exact hfence r hr
  have hagain : (s.unqueued.setSlot j (h.entered 1 rank)).setSlot j (h.entered 2 rank) = s.unqueued.setSlot j (h.entered 2 rank) := by
    unfold State.setSlot
    rw [Sparse.set_set]
  rw [hstart]
  unfold State.startSlot
  dsimp only
  rw [hslot, hmissing, Slot.streams_barrier hs.op, Nat.mul_zero]
  exact congrArg (fun t : State => (t.collAdvance j).collSettle) hagain

/-- Alone in its group, it is delivered at once. -/
theorem alone (hmembers : h.launch.members = [s.module]) : ∃ t, exec (.collSlotStart j) s = .next t ∧ t.coll.queued = [] ∧ (t.slot j).state = 0 ∧
    t.hif.done = s.hif.done ++ [c.compl 0 0 0 0] := by
  have hexec : exec (.collSlotStart j) s = s.answer touchColl (s.slotStart j).pumpAll := rfl
  have hothers : h.launch.others ((h.launch.rankOf s.module).getD 0) = [] := by
    simp [LRec.others, LRec.rankOf, hmembers]
  have hstart := hs.starts (by simp [hothers])
  generalize (h.launch.rankOf s.module).getD 0 = rank at *
  have hslot : (s.unqueued.setSlot j (h.entered 2 rank)).slot j = h.entered 2 rank := State.slot_setSlot ..
  rw [hexec, hstart, State.collAdvance_alone (by rw [hslot]; exact hs.op) (by rw [hslot]; exact hs.tiles) (by rw [hslot]; exact hothers)
    (by rw [hslot]; rfl), hslot]
  have hends := State.Concludes.deliverColl (j := j) (c := c)
    (s := ((s.unqueued.setSlot j (h.entered 2 rank)).setSlot j { h.entered 2 rank with state := 3 }).setSlot j { h.entered 2 rank with state := 4 })
    (by rw [State.slot_setSlot]; exact hs.command) hs.room (by rw [State.slot_setSlot]; exact hs.signals)
  obtain ⟨t, ht, hqueued, hfree, hdone, -, -⟩ := hends.answered
    (by rw [State.slots_setSlot_free, State.slots_setSlot_free, State.slots_setSlot_free]; exact congrArg (Sparse.set {} · j {}) hs.slots) rfl s
  exact ⟨t, ht, hqueued, hfree, hdone⟩

/-- With a member's JOIN not here, it joins. -/
theorem joins (hmore : ∃ r ∈ h.launch.others ((h.launch.rankOf s.module).getD 0), r ∉ h.joins)
    (hfence : ∀ r ∈ h.launch.others ((h.launch.rankOf s.module).getD 0), s.memberFenced h.launch r = false) :
    ∃ t, exec (.collSlotStart j) s = .next t ∧ t.coll.queued = [] ∧ (t.slot j).state = 2 ∧ (t.slot j).launch = h.launch ∧ t.hif.done = s.hif.done := by
  have hexec : exec (.collSlotStart j) s = s.answer touchColl (s.slotStart j).pumpAll := rfl
  have hstart := hs.starts hfence
  generalize (h.launch.rankOf s.module).getD 0 = rank at *
  obtain ⟨t, ht, hshow, hslot⟩ := State.answer_waits (u := s.unqueued.setSlot j (h.entered 2 rank)) (j := j) (y := h.entered 2 rank)
    (State.slot_setSlot ..) (fun k hk => by rw [State.slot_setSlot_other _ _ _ _ hk]; exact congrArg Slot.state (hs.slot_free k)) rfl hs.lost
    ⟨Slot.toAsk_barrier hs.op, .inl ⟨rfl, hmore⟩⟩ (State.collLost_none hs.tiles hs.signals _ _) s
  exact ⟨t, by rw [hexec, hstart, ht], congrArg Coll.queued hshow.coll, by rw [hslot]; rfl, by rw [hslot]; rfl, hshow.done⟩

end State.Due

end Sys2Proof.Machine
end

section
/-! PROOFS. Launches (R407, R408, R410, R412, R413): a record that breaks a rule, one out of order, one accepted and one held, and a hold that expires;
with what a slot does, `Obligations.CollectivesRunAndEnd`. -/

namespace Sys2Proof.Machine

/-! ### Launches that end without having been accepted -/

/-- A launch that ends where no slot is in use and no launch waits. -/
theorem State.Closes.answered {c : OpenCmd} {st : Nat} {s u : State} (h : State.Closes c st s u) (hslots : s.coll.slots = []) (hqueued : s.coll.queued = [])
    (s0 : State) : ∃ t, s0.answer touchColl u.collSettle.pumpAll = .next t ∧ t.coll.held = s.coll.held ∧ t.coll.last = s.coll.last ∧
      t.hif.done = s.hif.done ++ [c.compl st 0 0 0] ∧ u.KeepsErrs t := by
  rw [State.collSettle_rest (h.slots.trans hslots) (h.queued.trans hqueued)]
  obtain ⟨t, ht, hshow⟩ := State.answer_pumped s0 u.noneLost
  exact ⟨t, ht, (congrArg Coll.held hshow.coll).trans h.held, (congrArg Coll.last hshow.coll).trans h.last, hshow.done.trans h.done, hshow.errs⟩

/-- A hold that expires (R408). -/
theorem State.holdExpired_ends {s : State} {h : HeldLaunch} {c : OpenCmd} (hnone : s.NoColl) (hcoast : s.clk.coast = false) (hroom : s.hif.done.length < 4096)
    (hheld : s.coll.held = [h]) (hc : s.openCmd h.seq = some c) : ∃ t, exec (.collHoldExpiry 0) s = .next t ∧ t.coll.held = [] ∧ t.errSet .coll 0 3 ∧
      t.hif.done = s.hif.done ++ [c.compl 0x2203 0 0 0] := by
  have hexec : exec (.collHoldExpiry 0) s = s.answer touchColl (s.holdExpired 0).pumpAll := rfl
  have hdue : s.holdExpired 0 = (({ s with coll.held := [] } : State).refuseLaunch h.launch h.seq h.tag 3 0 true).collSettle := by
    unfold State.holdExpired
    rw [hcoast, hheld]
    rfl
  obtain ⟨hslots, hqueued, -⟩ := hnone
  obtain ⟨hclose, hset⟩ := State.Closes.refuseLaunch (s := { s with coll.held := [] }) (q := h.seq) hc hroom h.launch h.tag 0 true (bit := 3) (by decide)
  obtain ⟨t, ht, hheld, -, hdone, herrs⟩ := hclose.answered hslots hqueued s
  exact ⟨t, by rw [hexec, hdue, ht], hheld, herrs _ _ _ hset, hdone⟩

/-! ### A launch accepted (R407, R410) -/

theorem State.collLost_congr {s t : State} (hplace : t.place = s.place) (hblocks : t.blocks = s.blocks) (lost : List (Nat × Nat)) (l : LRec)
    (rank : Nat) : t.collLost lost l rank = s.collLost lost l rank := by
  have hphys : ∀ n, t.physOf n = s.physOf n := by
    intro n
    simp only [State.physOf, hplace]
  have hblock : ∀ p, t.block p = s.block p := by
    intro p
    simp only [State.block, hblocks]
  simp only [State.collLost, hphys, hblock]

/-- The launch stands in the queue; COL_LAST and the tables say so. -/
def State.accepted (h : HeldLaunch) (s : State) : State :=
  let e := engineOf (slotOf h.launch.ticket)
  { s with coll := { s.coll with
      last := h.launch.ticket, ended := s.coll.ended.filter (· != h.launch.ticket), queued := s.coll.queued ++ [h]
      table := Sparse.set [] s.coll.table e ((s.pendTable e).filter (fun c => c.ticket != h.launch.ticket)) } }

/-- The launch's JOIN to every other member (R392). -/
def State.sendJoin (h : HeldLaunch) (s : State) : Option SendEnd × State :=
  let rank := (h.launch.rankOf s.module).getD 0
  s.collControl h.launch rank 1 h.launch.digest 0 0 (h.launch.others rank)

theorem State.Posts.sendJoin (s : State) (h : HeldLaunch) : s.Posts (s.sendJoin h).2 := .collSends _ _ _ _ _ s

/-- With no packet kept for its ticket and no member missing, a launch is accepted and sends JOIN. -/
theorem State.acceptLaunch_sent {s : State} {h : HeldLaunch}
    (hpend : (s.pendTable (engineOf (slotOf h.launch.ticket))).all (fun c => c.ticket != h.launch.ticket) = true)
    (hfence : ∀ r ∈ h.launch.others ((h.launch.rankOf s.module).getD 0), s.memberFenced h.launch r = false)
    (hloose : ¬ (h.launch.loose = true ∧ s.strict = true)) : s.acceptLaunch h = ((s.accepted h).sendJoin h).2 := by
  have hempty : (s.pendTable (engineOf (slotOf h.launch.ticket))).filter (fun c => c.ticket == h.launch.ticket) = [] := by
    simpa [List.filter_eq_nil_iff] using hpend
  have hsent : ((s.accepted h).sendJoin h).1 = none := by
    refine State.collSends_sent (s := s.accepted h) (fun d hd => ?_) hloose _ _ _
    obtain ⟨r, hr, rfl⟩ := List.mem_map.mp hd
    exact hfence r hr
  have haccept : s.acceptLaunch h = settleSend (fun bit d s => s.queueFault h bit d none) ((s.accepted h).sendJoin h) := by
    unfold State.acceptLaunch State.takePending
    dsimp only
    rw [show ({ s with coll.last := h.launch.ticket, coll.ended := s.coll.ended.filter (· != h.launch.ticket) } : State).pendTable
      (engineOf (slotOf h.launch.ticket)) = s.pendTable (engineOf (slotOf h.launch.ticket)) from rfl, hempty]
    rfl
  rw [haccept]
  generalize (s.accepted h).sendJoin h = r at *
  obtain ⟨o, t⟩ := r
  obtain rfl : o = none := hsent
  rfl

/-- With a single launch waiting and no slot in use, the pass over the collectives looks at that launch. -/
theorem State.collSettle_queued {s : State} {h : HeldLaunch} (hslots : s.coll.slots = []) (hqueued : s.coll.queued = [h])
    (hleft : (State.checkQueued s.coll.lost s.noneLost h).coll.slots = []) :
    s.collSettle = State.checkQueued s.coll.lost s.noneLost h := by
  have hcheck : s.collCheck = (List.range 16).foldl (State.checkSlot s.coll.lost) (State.checkQueued s.coll.lost s.noneLost h) := by
    rw [State.collCheck_eq, hqueued]
    rfl
  rw [State.collSettle, hslots, hqueued]
  exact hcheck.trans (List.foldl_fixed' (fun k => State.checkSlot_free (by rw [State.slot, hleft]; rfl) _) _)

/-- The launches of the ticket leave the queue. -/
def State.dequeued (h : HeldLaunch) (s : State) : State :=
  { s with coll.queued := s.coll.queued.filter (fun q => q.launch.ticket != h.launch.ticket) }

theorem State.Closes.queueFault {s : State} {h : HeldLaunch} {c : OpenCmd} (hc : s.openCmd h.seq = some c) (hroom : s.hif.done.length < 4096)
    (peer : Nat) (remote : Option Nat) {bit : Nat} (hbit : bit < 64) :
    State.Closes c (0x2200 + bit) (s.dequeued h) (s.queueFault h bit peer remote) ∧
      (s.queueFault h bit peer remote).errSet .coll (engineOf (slotOf h.launch.ticket)) bit :=
  State.Closes.collEnds (s := s.dequeued h) hc hroom h.launch h.tag _ peer 0 0 remote hbit

/-- The launch `h`, alone, of the open command `c`, which is accepted next: no packet is kept for its ticket and no member is missing. -/
structure State.Accepts (s : State) (h : HeldLaunch) (c : OpenCmd) : Prop where
  idle : s.NoColl
  held : s.coll.held = []
  room : s.hif.done.length < 4096
  command : s.openCmd h.seq = some c
  pending : (s.pendTable (engineOf (slotOf h.launch.ticket))).all (fun d => d.ticket != h.launch.ticket) = true
  goes : s.collLost [] h.launch ((h.launch.rankOf s.module).getD 0) = none
  fenced : ∀ r ∈ h.launch.others ((h.launch.rankOf s.module).getD 0), s.memberFenced h.launch r = false
  loose : ¬ (h.launch.loose = true ∧ s.strict = true)

namespace State.Accepts
variable {s : State} {h : HeldLaunch} {c : OpenCmd} (hs : s.Accepts h c)
include hs

theorem accepts : (s.acceptLaunch h).retryHeld 16 = ((s.accepted h).sendJoin h).2 := by
  have hpost := State.Posts.sendJoin (s.accepted h) h
  rw [State.acceptLaunch_sent hs.pending hs.fenced hs.loose]
  generalize ((s.accepted h).sendJoin h).2 = w at *
  have hheld : w.coll.held = [] := (congrArg Coll.held hpost.coll :).trans hs.held
  unfold State.retryHeld
  rw [hheld]
  rfl

/-- The launch waits for its slot; or it has other members, and a JOIN to one of them was lost here. -/
theorem answered (s0 : State) : ∃ t, s0.answer touchColl ((s.acceptLaunch h).retryHeld 16).collSettle.pumpAll = .next t ∧ t.coll.last = h.launch.ticket ∧
    t.hif.window = s.hif.window ∧
    ((t.coll.queued = [h] ∧ t.hif.done = s.hif.done ∧ t.hif.opened = s.hif.opened) ∨
      (h.launch.others ((h.launch.rankOf s.module).getD 0) ≠ [] ∧ t.coll.queued = [] ∧ t.errSet .coll (engineOf (slotOf h.launch.ticket)) 6 ∧
        t.hif.done = s.hif.done ++ [c.compl 0x2206 0 0 0])) := by
  obtain ⟨hslots, hqueued, hlost⟩ := hs.idle
  have hpost := State.Posts.sendJoin (s.accepted h) h
  have halone : h.launch.others ((h.launch.rankOf s.module).getD 0) = [] → ((s.accepted h).sendJoin h).2 = s.accepted h := by
    intro hnone
    show ((s.accepted h).collControl _ _ _ _ _ _ (h.launch.others ((h.launch.rankOf s.module).getD 0))).2 = _
    rw [hnone]
    rfl
  rw [hs.accepts]
  generalize ((s.accepted h).sendJoin h).2 = w at *
  have hwslots : w.coll.slots = [] := hpost.slots.trans hslots
  have hwqueued : w.coll.queued = [h] := hpost.queued.trans (by simp [State.accepted, hqueued])
  have hgone : ∀ lost rank, w.noneLost.collLost lost h.launch rank = s.collLost lost h.launch rank :=
    fun lost rank => State.collLost_congr hpost.place hpost.blocks lost h.launch rank
  cases hfate : w.noneLost.collLost w.coll.lost h.launch ((h.launch.rankOf w.noneLost.module).getD 0) with
  | none =>
    have hcheck : State.checkQueued w.coll.lost w.noneLost h = w.noneLost := by rw [State.checkQueued, hfate]
    rw [State.collSettle_queued hwslots hwqueued (by rw [hcheck]; exact hwslots), hcheck]
    obtain ⟨t, ht, hshow⟩ := State.answer_pumped s0 w.noneLost
    exact ⟨t, ht, (congrArg Coll.last hshow.coll :).trans (congrArg Coll.last hpost.coll :), hshow.window.trans hpost.window,
      .inl ⟨(congrArg Coll.queued hshow.coll :).trans hwqueued, hshow.done.trans hpost.done, hshow.opened.trans hpost.opened⟩⟩
  | some r =>
    have hcheck : State.checkQueued w.coll.lost w.noneLost h = w.noneLost.queueFault h 6 r none := by rw [State.checkQueued, hfate]
    obtain ⟨hclose, hset⟩ := State.Closes.queueFault (s := w.noneLost) (h := h) (c := c) ((hpost.openCmd h.seq).trans hs.command)
      (by rw [show w.noneLost.hif.done = s.hif.done from hpost.done]; exact hs.room) r none (bit := 6) (by decide)
    have hempty : (w.noneLost.dequeued h).coll.queued = [] := by
      simp [State.dequeued, State.noneLost, hwqueued]
    rw [State.collSettle_queued hwslots hwqueued (by rw [hcheck]; exact hclose.slots.trans hwslots), hcheck]
    obtain ⟨t, ht, hshow⟩ := State.answer_pumped s0 (w.noneLost.queueFault h 6 r none)
    refine ⟨t, ht, (congrArg Coll.last hshow.coll :).trans (hclose.last.trans (congrArg Coll.last hpost.coll :)),
      hshow.window.trans (hclose.window.trans hpost.window), .inr ⟨fun hnone => ?_, (congrArg Coll.queued hshow.coll :).trans (hclose.queued.trans hempty),
        hshow.errs _ _ _ hset, by rw [hshow.done, hclose.done]; exact congrArg (· ++ _) hpost.done⟩⟩
    rw [halone hnone] at hfate hgone
    rw [show (s.accepted h).coll.lost = [] from hlost, hgone] at hfate
    exact absurd (hs.goes.symm.trans hfate) (Option.some_ne_none r).symm

end State.Accepts

/-! ### The order of launches (R363, R407, R408) -/

/-- The launch is the only one held. -/
def State.holding (h : HeldLaunch) (s : State) : State := { s with coll.held := [h] }

section order
variable {s : State} {l : LRec} (hstrict : ¬ (l.loose = true ∧ s.strict = true)) (q tag : Nat)
include hstrict

theorem State.orderLaunch_late (hticket : l.ticket ≤ s.coll.last) : s.orderLaunch l q tag = s.refuseLaunch l q tag 3 0 false := by
  unfold State.orderLaunch
  rw [if_neg (by simpa using hstrict), if_pos hticket]

theorem State.orderLaunch_early (hticket : s.coll.last < l.ticket) (hprev : l.prev ≠ s.coll.last) (hheld : s.coll.held = []) :
    s.orderLaunch l q tag = (s.holding { launch := l, seq := q, tag }).evtAdd .coll (engineOf (slotOf l.ticket)) 7 1 := by
  unfold State.orderLaunch
  rw [if_neg (by simpa using hstrict), if_neg (by omega), if_pos hprev, hheld, if_neg (by decide)]
  rfl

theorem State.orderLaunch_next (hticket : s.coll.last < l.ticket) (hprev : l.prev = s.coll.last) :
    s.orderLaunch l q tag = (s.acceptLaunch { launch := l, seq := q, tag }).retryHeld 16 := by
  unfold State.orderLaunch
  rw [if_neg (by simpa using hstrict), if_neg (by omega), if_neg (not_not.mpr hprev)]

end order

/-! ### COLL_LAUNCH (R388, R389, R407) -/

/-- The launch `e` of an axes group is at the front of the window, `rest` behind it; its record `bs` lies in plain memory, no other command has its SEQ, and
no collective is started, waits or is held. -/
structure State.Launches (s : State) (e : WinEntry) (rest : List WinEntry) (bs : List Byte) : Prop where
  offers : s.Offers e rest
  opcode : e.opcode = 0x50
  device : xIsDev (e.op 0x10 8) = true
  aligned : xAddr (e.op 0x10 8) % 64 = 0
  zeros : e.zeros 0x18 0x40 = true
  coast : s.clk.coast = false
  calm : s.xBusy (e.op 0x10 8) 128 = false
  plain : s.Plain (xAddr (e.op 0x10 8)) 128
  room : s.hif.done.length < 4096
  idle : s.NoColl
  held : s.coll.held = []
  record : bs = s.dev.read (xAddr (e.op 0x10 8)) 128
  only : ∀ q ∈ s.hif.opened, q.seq ≠ e.seq
  axes : (field bs 0x15 1).testBit 0 = false

/-- The launch taken from the window, its command open. -/
def State.launchTaken (e : WinEntry) (rest : List WinEntry) (s : State) : State :=
  { s with hif.window := rest, hif.opened := s.hif.opened ++ [e.toOpen] }

namespace State.Launches
variable {s : State} {e : WinEntry} {rest : List WinEntry} {bs : List Byte} (hs : s.Launches e rest bs)
include hs

/-- The record is read, and its launch checked. -/
theorem checked : s.collLaunchCmd = match s.launchFault bs (launchOf bs (boxMembers (field bs 0x28 8))) with
    | some off => (s.launchTaken e rest).refuseLaunch (launchOf bs (boxMembers (field bs 0x28 8))) e.seq e.tag 2 off false
    | none => ((s.launchTaken e rest).orderLaunch (launchOf bs (boxMembers (field bs 0x28 8))) e.seq e.tag).collSettle := by
  have hdev : xDev (e.op 0x10 8) = true := (Bool.and_eq_true_iff.mp hs.device).1
  have hplain : ({ s with hif.window := rest } : State).Plain (xAddr (e.op 0x10 8)) 128 := hs.plain
  have hread : ({ s with hif.window := rest } : State).xRead e.tag (e.op 0x10 8) 128 = (0, bs, { s with hif.window := rest }) := by
    rw [State.xRead, if_pos hdev, devRead_plain _ _ _ _ hplain, hs.record]
  have hgroup : ∀ t : State, t.readGroup bs = (0, boxMembers (field bs 0x28 8), t) := by
    intro t
    rw [State.readGroup, bitOn, hs.axes]
    rfl
  unfold State.collLaunchCmd
  rw [State.take_runs hs.offers.1 (by simp [hs.opcode]) (by simp [hs.device, hs.aligned, hs.zeros])
    (Bool.or_eq_false_iff.mpr ⟨hs.coast, hs.calm⟩), hread]
  dsimp only
  rw [hgroup]
  rfl

theorem command : (s.launchTaken e rest).openCmd e.seq = some e.toOpen := by
  have hnone : s.hif.opened.find? (fun o => o.seq == e.seq) = none := List.find?_eq_none.mpr fun q hq => by simpa using hs.only q hq
  simp [State.openCmd, State.launchTaken, List.find?_append, hnone, WinEntry.toOpen]

theorem malformed {off : Nat} (hoff : s.launchFault bs (launchOf bs (boxMembers (field bs 0x28 8))) = some off) :
    ∃ t, exec .collLaunch s = .next t ∧ t.hif.done = s.hif.done ++ [e.compl 0x2202 0] ∧ t.errSet .coll 0 2 ∧ t.coll.last = s.coll.last := by
  have hexec : exec .collLaunch s = s.answer touchColl s.collLaunchCmd.pumpAll := rfl
  obtain ⟨hclose, hset⟩ := State.Closes.refuseLaunch hs.command hs.room (launchOf bs (boxMembers (field bs 0x28 8))) e.tag off false (bit := 2) (by decide)
  obtain ⟨t, ht, hshow⟩ := State.answer_pumped s
    ((s.launchTaken e rest).refuseLaunch (launchOf bs (boxMembers (field bs 0x28 8))) e.seq e.tag 2 off false)
  refine ⟨t, ?_, hshow.done.trans hclose.done, hshow.errs _ _ _ hset, (congrArg Coll.last hshow.coll).trans hclose.last⟩
  rw [hexec, hs.checked, hoff, ← ht]

section wellFormed
variable {l : LRec} (hl : l = launchOf bs (boxMembers (field bs 0x28 8))) (hok : s.launchFault bs l = none)
include hl hok

theorem ordered : exec .collLaunch s = s.answer touchColl ((s.launchTaken e rest).orderLaunch l e.seq e.tag).collSettle.pumpAll := by
  have hexec : exec .collLaunch s = s.answer touchColl s.collLaunchCmd.pumpAll := rfl
  subst hl
  rw [hexec, hs.checked, hok]

theorem loose (hloose : l.loose = true) (hstrict : s.strict = true) : ∃ t, exec .collLaunch s = .next t ∧
    t.hif.done = s.hif.done ++ [e.compl 0x2209 0] ∧ t.errSet .fab 0 6 ∧ t.coll.last = s.coll.last := by
  have hpost := State.Posts.looseRefused (s.launchTaken e rest)
  have hset : (s.launchTaken e rest).looseRefused.errSet .fab 0 6 :=
    State.KeepsErrs.evtAdd _ _ _ _ _ (by decide) _ _ _ (State.raise_errSet _ _ _ _ _ _ _ _ (by decide))
  obtain ⟨hclose, -⟩ := State.Closes.refuseLaunch (s := (s.launchTaken e rest).looseRefused) ((hpost.openCmd _).trans hs.command)
    (by rw [hpost.done]; exact hs.room) l e.tag 0 true (bit := 9) (by decide)
  obtain ⟨hslots, hqueued, -⟩ := hs.idle
  obtain ⟨t, ht, -, hlast, hdone, herrs⟩ := hclose.answered (hpost.slots.trans hslots) (hpost.queued.trans hqueued) s
  refine ⟨t, ?_, by rw [hdone, hpost.done]; rfl, herrs _ _ _ (hclose.errs _ _ _ hset), hlast.trans (congrArg Coll.last hpost.coll :)⟩
  rw [hs.ordered hl hok, ← ht, State.orderLaunch, hloose]
  exact congrArg (fun u : State => s.answer touchColl u.collSettle.pumpAll) (if_pos hstrict)

section strict
variable (hstrict : ¬ (l.loose = true ∧ s.strict = true))
include hstrict

theorem late (hticket : l.ticket ≤ s.coll.last) : ∃ t, exec .collLaunch s = .next t ∧ t.hif.done = s.hif.done ++ [e.compl 0x2203 0] ∧ t.errSet .coll 0 3 := by
  obtain ⟨hclose, hset⟩ := State.Closes.refuseLaunch hs.command hs.room l e.tag 0 false (bit := 3) (by decide)
  obtain ⟨hslots, hqueued, -⟩ := hs.idle
  obtain ⟨t, ht, -, -, hdone, herrs⟩ := hclose.answered hslots hqueued s
  refine ⟨t, ?_, hdone, herrs _ _ _ hset⟩
  rw [hs.ordered hl hok, State.orderLaunch_late (s := s.launchTaken e rest) hstrict e.seq e.tag hticket, ht]

theorem early (hticket : s.coll.last < l.ticket) (hprev : l.prev ≠ s.coll.last) : ∃ t, exec .collLaunch s = .next t ∧ t.coll.last = s.coll.last ∧
    t.coll.held = [{ launch := l, seq := e.seq, tag := e.tag }] ∧ t.hif.opened = s.hif.opened ++ [e.toOpen] := by
  obtain ⟨hslots, hqueued, -⟩ := hs.idle
  have hrest := State.collSettle_rest hslots hqueued
    (s := ((s.launchTaken e rest).holding { launch := l, seq := e.seq, tag := e.tag }).evtAdd .coll (engineOf (slotOf l.ticket)) 7 1)
  rw [hs.ordered hl hok, State.orderLaunch_early (s := s.launchTaken e rest) hstrict e.seq e.tag hticket hprev hs.held, hrest]
  obtain ⟨t, ht, hshow⟩ := State.answer_pumped s
    (((s.launchTaken e rest).holding { launch := l, seq := e.seq, tag := e.tag }).evtAdd .coll (engineOf (slotOf l.ticket)) 7 1).noneLost
  exact ⟨t, ht, (congrArg Coll.last hshow.coll :), (congrArg Coll.held hshow.coll :), hshow.opened⟩

theorem next (hticket : s.coll.last < l.ticket) (hprev : l.prev = s.coll.last)
    (hpend : (s.pendTable (engineOf (slotOf l.ticket))).all (fun c => c.ticket != l.ticket) = true)
    (hgoes : s.collLost [] l ((l.rankOf s.module).getD 0) = none) (hfence : ∀ r ∈ l.others ((l.rankOf s.module).getD 0), s.memberFenced l r = false) :
    ∃ t, exec .collLaunch s = .next t ∧ t.coll.last = l.ticket ∧ t.hif.window = rest ∧
      ((t.coll.queued = [{ launch := l, seq := e.seq, tag := e.tag }] ∧ t.hif.done = s.hif.done ∧ t.hif.opened = s.hif.opened ++ [e.toOpen]) ∨
        (l.others ((l.rankOf s.module).getD 0) ≠ [] ∧ t.coll.queued = [] ∧ t.errSet .coll (engineOf (slotOf l.ticket)) 6 ∧
          t.hif.done = s.hif.done ++ [e.compl 0x2206 0])) := by
  have haccept : (s.launchTaken e rest).Accepts { launch := l, seq := e.seq, tag := e.tag } e.toOpen :=
    ⟨hs.idle, hs.held, hs.room, hs.command, hpend, hgoes, hfence, hstrict⟩
  rw [hs.ordered hl hok, State.orderLaunch_next (s := s.launchTaken e rest) hstrict e.seq e.tag hticket hprev]
  exact haccept.answered s

end strict

end wellFormed

end State.Launches

/-- Settles O52: each row is the effect of its command, then the pass over the collectives, with none or one in the module. -/
theorem collectivesRunAndEnd : Obligations.CollectivesRunAndEnd := by
  refine ⟨?launches, fun s h c hidle hcoast hroom hheld hc => State.holdExpired_ends hidle hcoast hroom hheld hc, ?starts, ?runs⟩
  case launches =>
    intro s e rest hoffers hop hdev haligned hzeros hcoast hcalm hplain hroom hidle hheld bs l honly haxes h rank
    have hs : s.Launches e rest bs := ⟨hoffers, hop, hdev, haligned, hzeros, hcoast, hcalm, hplain, hroom, hidle, hheld, rfl, honly, haxes⟩
    exact ⟨fun off hoff => hs.malformed hoff, fun hok hloose hstrict => hs.loose rfl hok hloose hstrict, fun hok hstrict =>
      ⟨hs.late rfl hok hstrict, hs.next rfl hok hstrict, hs.early rfl hok hstrict⟩⟩
  case starts =>
    intro s j h c hslots hlost hroom _ hcoast hplace hqueued hc hop htiles hsignals
    have hs : s.Due j h c := ⟨hslots, hlost, hroom, hcoast, hplace, hqueued, hc, hop, htiles, hsignals⟩
    exact ⟨hs.alone, hs.joins⟩
  case runs =>
    intro s j i x k c _ hslots hqueued hlost hcoast hroom hplace hop htiles hsignals hc ends
    have hs : s.Barrier j x c := ⟨⟨hslots, hqueued, hlost, hroom, hplace, hsignals, hc⟩, hcoast, hop, htiles⟩
    refine ⟨fun hstate => ?_, fun hticket => ⟨hs.join hticket, hs.ready hticket, fun hk hstate hall => ?_, fun hk hstate hcode => ?_⟩⟩
    · obtain ⟨t, ht, hset, hfree, hdone⟩ := hs.timeout hstate
      exact ⟨t, ht, hset, hfree, [], hdone⟩
    · obtain ⟨t, ht, hfree, hdone⟩ := hs.fin hticket hk hstate hall
      exact ⟨t, ht, hfree, [], hdone⟩
    · obtain ⟨t, ht, hset, hfree, hdone⟩ := hs.abort hticket hk hstate hcode
      exact ⟨t, ht, hset, hfree, [], hdone⟩

end Sys2Proof.Machine
end

section
/-! PROOFS. What the collectives that run leave of one another and of what they have received and sent (`State.Carries`). -/

namespace Sys2Proof.Machine

/-- What a collective has received and sent: the chunks by sender and phase, their number, the bytes and the chunks by target. -/
def Slot.cargo (x : Slot) : Sparse Nat × Nat × Mem × Sparse Nat := (x.got, x.chunks, x.outBytes, x.sent)

/-- No free slot comes into use, a collective that stays in its slot has received and sent what it had, and no engine has counted a chunk. -/
structure State.Carries (s t : State) : Prop where
  slots : ∀ k, (t.slot k).state ≠ 0 → (s.slot k).state ≠ 0 ∧ (t.slot k).cargo = (s.slot k).cargo
  counts : s.CountsChunksAs t

namespace State.Carries
variable {s t u : State}

theorem trans (h : s.Carries t) (k : t.Carries u) : s.Carries u where
  slots j hj := by
    obtain ⟨htbusy, htcargo⟩ := k.slots j hj
    obtain ⟨hsbusy, hscargo⟩ := h.slots j htbusy
    exact ⟨hsbusy, htcargo.trans hscargo⟩
  counts := h.counts.trans k.counts

theorem of_slots (slots : t.coll.slots = s.coll.slots) (counts : s.CountsChunksAs t) : s.Carries t where
  slots j hj := by
    have hsame : t.slot j = s.slot j := by rw [State.slot, slots]; rfl
    rw [hsame] at hj ⊢
    exact ⟨hj, rfl⟩
  counts := counts

/-- A change of other parts of the state. -/
theorem of_parts (slots : t.coll.slots = s.coll.slots) (regs : t.regs = s.regs) : s.Carries t := of_slots slots (.of_regs regs)

theorem refl (s : State) : s.Carries s := of_parts rfl rfl

theorem of_posts (h : s.Posts t) : s.Carries t := of_slots h.slots h.counts

/-- A fold of such steps. -/
theorem foldl {α : Type} {f : State → α → State} (h : ∀ (t : State) (a : α), t.Carries (f t a)) (l : List α) (s : State) : s.Carries (l.foldl f s) :=
  List.foldlRecOn (motive := s.Carries) l f (.refl s) fun t ht a _ => ht.trans (h t a)

/-- A slot in use stored anew, its cargo as it was. -/
theorem stored (h : s.Carries t) {j : Nat} {y : Slot} (hbusy : (s.slot j).state ≠ 0) (hcargo : y.cargo = (s.slot j).cargo) : s.Carries (t.setSlot j y) where
  slots k hk := by
    by_cases hkj : k = j
    · subst hkj
      rw [State.slot_setSlot]
      exact ⟨hbusy, hcargo⟩
    · rw [State.slot_setSlot_other _ _ _ _ hkj] at hk ⊢
      exact h.slots k hk
  counts := h.counts.trans (.of_regs rfl)

theorem setSlot {j : Nat} {y : Slot} (hbusy : (s.slot j).state ≠ 0) (hcargo : y.cargo = (s.slot j).cargo) : s.Carries (s.setSlot j y) :=
  (refl s).stored hbusy hcargo

/-! ### A collective ends -/

theorem freeSlot (s : State) (j : Nat) : s.Carries (s.freeSlot j) := by
  have hfree := State.Frees.freeSlot s j
  refine ⟨fun k hk => ?_, hfree.counts⟩
  have hsame : (s.freeSlot j).slot k = (s.setSlot j {}).slot k := by rw [State.slot, hfree.slots]; rfl
  rw [hsame] at hk ⊢
  by_cases hkj : k = j
  · subst hkj
    rw [State.slot_setSlot] at hk
    exact absurd rfl hk
  · rw [State.slot_setSlot_other _ _ _ _ hkj] at hk ⊢
    exact ⟨hk, rfl⟩

theorem endLaunch (s : State) (q st : Nat) : s.Carries (s.endLaunch q st) := by
  unfold State.endLaunch
  split
  · unfold State.finishOpen State.finishIn
    split <;> exact .of_parts rfl rfl
  · exact .refl s

theorem collReported (s : State) (e bit tag ticket info info2 q : Nat) : s.Carries (s.collReported e bit tag ticket info info2 q) :=
  ((of_posts (.raise s _ _ _ _ _ _ _)).trans (of_posts (.evtAdd_off _ _ _ _ (by decide) (by decide)))).trans (.endLaunch _ _ _)

theorem collEnds (s : State) (l : LRec) (q tag rank bit peer chunk addr : Nat) (remote : Option Nat) :
    s.Carries (s.collEnds l q tag rank bit peer chunk addr remote) := by
  rw [State.collEnds_eq]
  extract_lets j t u
  obtain ⟨-, hcoll, hregs⟩ := t.freeAt_leaves l.dst l.outBytes
  have hended : s.Carries u := (State.Carries.collReported s _ _ _ _ _ _ _).trans (.of_parts (congrArg Coll.slots hcoll :) hregs)
  split
  · exact hended
  · exact hended.trans (.of_posts (.collAbortAll u l rank bit))

theorem collFault (s : State) (j bit peer chunk addr : Nat) (remote : Option Nat) : s.Carries (s.collFault j bit peer chunk addr remote) := by
  unfold State.collFault
  dsimp only
  split
  · exact .refl s
  · exact (State.Carries.freeSlot s j).trans (.collEnds _ _ _ _ _ _ _ _ _ _)

theorem queueFault (s : State) (h : HeldLaunch) (bit peer : Nat) (remote : Option Nat) : s.Carries (s.queueFault h bit peer remote) :=
  (State.Carries.of_parts rfl rfl : s.Carries (s.dequeued h)).trans (.collEnds _ _ _ _ _ _ _ _ _ _)

/-- What ends a send ends the collective. -/
theorem settleSend {fault : Nat → Nat → State → State} (hfault : ∀ (bit d : Nat) (t : State), t.Carries (fault bit d t)) {r : Option SendEnd × State} (h : s.Carries r.2) :
    s.Carries (settleSend fault r) := by
  obtain ⟨_ | (d | _), t⟩ := r
  · exact h
  · exact h.trans (hfault 6 d t)
  · exact h.trans (hfault 9 0 t)

theorem deliverColl (s : State) (j : Nat) : s.Carries (s.deliverColl j) := by
  unfold State.deliverColl
  dsimp only
  refine ((State.Carries.trans ?_ (.of_posts (.evtAdd_off _ .coll _ _ (k := 0) (by decide) (by decide)))).trans (.endLaunch _ _ _)).trans (.freeSlot _ j)
  split <;> exact .of_parts rfl rfl

/-! ### Device memory -/

theorem memUe (s : State) (who kind a : Nat) : s.Carries (s.memUe who kind a) :=
  (of_posts (.raise s _ _ _ _ _ _ _)).trans (of_posts (.evtAdd_off _ _ _ _ (by decide) (by decide)))

theorem wake (s : State) (ps : List (Nat × Nat)) : s.Carries (s.wake ps) := by
  refine .foldl (fun t p => ?_) ps s
  dsimp only
  split <;> exact .of_parts rfl rfl

theorem devPutAll (ps : List (Nat × Nat)) (s : State) (bs : List Byte) : s.Carries (s.devPutAll ps bs).1 := by
  induction ps generalizing s bs with
  | nil => exact .refl s
  | cons p ps ih => exact (State.Carries.of_parts rfl rfl : s.Carries (s.devPut p (bs.take p.2)).1).trans (ih _ _)

theorem devRead (s : State) (who a n : Nat) : s.Carries (s.devRead who a n).2.2 := by
  unfold State.devRead State.devReadAs
  dsimp only
  split
  · exact .refl s
  split
  · exact (State.Carries.wake s _).trans (.memUe _ _ _ _)
  · dsimp only
    split
    · exact (State.Carries.wake s _).trans (.of_parts rfl rfl)
    · exact .wake s _

theorem devWrite (s : State) (who a : Nat) (bs : List Byte) : s.Carries (s.devWrite who a bs).2 := by
  have hput := (State.Carries.wake s (s.devPieces a bs.length)).trans (.devPutAll (s.devPieces a bs.length) _ bs)
  unfold State.devWrite
  split
  · exact .refl s
  dsimp only
  split
  · exact .refl s
  split
  · exact hput.trans (.memUe _ _ _ _)
  · exact hput

theorem readInput (s : State) (j off len : Nat) : s.Carries (s.readInput j off len).2.2 := by
  unfold State.readInput
  dsimp only
  split
  · exact .refl s
  · exact .devRead s _ _ _

/-! ### A collective moves on -/

theorem askSenders (s : State) (j : Nat) : s.Carries (s.askSenders j) := by
  unfold State.askSenders
  dsimp only
  split
  · exact .refl s
  next hidle =>
    have hbusy : (s.slot j).state ≠ 0 := fun h => hidle (by simp [h])
    refine .settleSend (fun bit d t => .collFault t j bit d 0 0 none) (.trans ?_ (.of_posts (.collSends _ _ _ _ _ _)))
    exact .setSlot hbusy rfl

theorem collOutput {j : Nat} (hbusy : (s.slot j).state ≠ 0) : s.Carries (s.collOutput j) := by
  have hread := State.Carries.readInput s j 0 ((s.slot j).launch.inBytes (s.slot j).rank)
  unfold State.collOutput
  dsimp only
  split
  · next own t heq =>
    rw [heq] at hread
    have hwrite := State.Carries.devWrite t (whoOf (unitColl j) 0 0 (s.slot j).tag) (s.slot j).launch.dst ((s.slot j).output own)
    split
    · next u hput =>
      rw [hput] at hwrite
      refine .settleSend (fun bit d t => .collFault t j bit d 0 0 none) (.trans ?_ (.of_posts (.collSends _ _ _ _ _ _)))
      exact (hread.trans hwrite).stored hbusy rfl
    · next u _ hput =>
      rw [hput] at hwrite
      exact (hread.trans hwrite).trans (.collFault _ _ _ _ _ _ _)
  · next t _ heq =>
    rw [heq] at hread
    exact hread.trans (.collFault _ _ _ _ _ _ _)

theorem endJoining (s : State) (j : Nat) : s.Carries (s.endJoining j) := by
  unfold State.endJoining
  split
  · next h => exact .setSlot (by omega) rfl
  · exact .refl s

theorem endRunning (s : State) (j : Nat) : s.Carries (s.endRunning j) := by
  unfold State.endRunning
  split
  · next h => exact .collOutput (by omega)
  · exact .refl s

theorem endFinishing (s : State) (j : Nat) : s.Carries (s.endFinishing j) := by
  unfold State.endFinishing
  split
  · exact .deliverColl s j
  · exact .refl s

theorem collAdvance (s : State) (j : Nat) : s.Carries (s.collAdvance j) := by
  rw [State.collAdvance_eq]
  exact (((State.Carries.endJoining s j).trans (.askSenders _ j)).trans (.endRunning _ j)).trans (.endFinishing _ j)

theorem checkQueued (lost : List (Nat × Nat)) (s : State) (h : HeldLaunch) : s.Carries (s.checkQueued lost h) := by
  unfold State.checkQueued
  split
  · exact .queueFault s _ _ _ _
  · exact .refl s

theorem checkSlot (lost : List (Nat × Nat)) (s : State) (j : Nat) : s.Carries (s.checkSlot lost j) := by
  unfold State.checkSlot
  split
  · exact .refl s
  split
  · exact .collFault s _ _ _ _ _ _
  split
  · exact .refl s
  · exact .collAdvance s j

theorem collSettle (s : State) : s.Carries s.collSettle := by
  unfold State.collSettle
  split
  · exact .of_parts rfl rfl
  · rw [State.collCheck_eq]
    exact ((State.Carries.of_parts rfl rfl : s.Carries s.noneLost).trans (.foldl (.checkQueued _) _ _)).trans (.foldl (.checkSlot _) _ _)

end State.Carries

end Sys2Proof.Machine
end

section
/-! PROOFS. Chunks received and sent, and tiles (R399 to R402, R406, R414, R416): `Obligations.CollectiveChunksAndTiles`. -/

namespace Sys2Proof.Machine

theorem engineOf_lt (j : Nat) : engineOf j < 4 := Nat.mod_lt _ (by decide)

/-- A command whose effect is `u` shows what `u` has received and sent, and its counts of chunks, after the pass over the collectives. -/
theorem State.Carries.answered {s u : State} (h : s.Carries u) (s0 : State) : ∃ t, s0.answer touchColl u.collSettle.pumpAll = .next t ∧ s.Carries t := by
  obtain ⟨t, ht, hshow⟩ := State.answer_pumped s0 u.collSettle
  exact ⟨t, ht, (h.trans (.collSettle u)).trans (.of_slots (congrArg Coll.slots hshow.coll) hshow.counts)⟩

/-! ### A chunk received (R399, R400, R414) -/

/-- A slot with a chunk of `rank` and `phase` kept and a further one granted (R400). -/
def Slot.received (x : Slot) (q rank phase first count : Nat) (data : List Byte) : Slot :=
  let y := x.store q first count data
  { y with got := y.got.addNum (4096 * rank + phase) 1, chunks := (y.chunks + 1) % 2 ^ 24, given := y.given.setNum rank (x.given.num rank + 1) }

/-- What is kept of a chunk are its values; what the slot counts stays. -/
theorem Slot.store_keeps (x : Slot) (q first count : Nat) (data : List Byte) :
    (x.store q first count data).got = x.got ∧ (x.store q first count data).chunks = x.chunks := by
  unfold Slot.store
  dsimp only
  split
  · exact ⟨rfl, rfl⟩
  split <;> exact ⟨rfl, rfl⟩

/-- Where nothing is reduced, the bytes of a chunk stand in the output. -/
theorem Slot.store_outBytes {x : Slot} (h : reduces x.launch.op = false) (q first count : Nat) (data : List Byte) :
    (x.store q first count data).outBytes = x.outBytes.write first (slice data 0 count) := by
  simp [Slot.store, h]

/-- The packet `k` taken, and its chunk counted as received. -/
def State.chunkTaken (i j : Nat) (k : Pkt) (s : State) : State := (s.takeInbox i k).evtAdd .coll (engineOf j) 3 1

/-- The packet `k` taken, and its chunk counted as received and as bad. -/
def State.badTaken (i j : Nat) (k : Pkt) (s : State) : State := (s.chunkTaken i j k).evtAdd .coll (engineOf j) 5 1

section data
variable {s : State} {i j : Nat} {x : Slot} {k : Pkt} (hslots : s.slot j = x) (hcoast : s.clk.coast = false) (hk : s.inboxAt i 3 = some k)
  (hj : bits k.arg 39 36 = j) (hstate : 2 ≤ x.state)
include hslots hcoast hk hj hstate

/-- A chunk whose CRC is wrong ends the collective. -/
theorem State.dataIn_bad (hcrc : crc32c (k.payload.take 28 ++ k.payload.drop 32) ≠ field k.payload 28 4) : ∃ rank n,
    s.dataIn i 0 = (s.badTaken i j k).collFault j 7 rank n 0 none := by
  have hslot : (s.takeInbox i k).slot j = x := by rw [State.takeInbox_slot, hslots]
  unfold State.dataIn
  rw [hcoast, if_neg Bool.false_ne_true, hk]
  dsimp only
  rw [hj, hslot, if_neg (by omega), if_neg (by decide), if_pos hcrc]
  exact ⟨_, _, rfl⟩

/-- A sound chunk is kept, and a further one granted to its sender. -/
theorem State.dataIn_sound (hcrc : crc32c (k.payload.take 28 ++ k.payload.drop 32) = field k.payload 28 4)
    (hticket : field k.payload 0 8 = x.launch.ticket) : ∃ q r, s.dataIn i 0 =
      (settleSend (fun bit d s => s.collFault j bit d 0 0 none) r).collAdvance j ∧
      ((s.chunkTaken i j k).setSlot j (x.received q (field k.payload 8 2) (field k.payload 10 2) (field k.payload 0x10 8) (field k.payload 0x18 2)
        (k.payload.drop 32))).Posts r.2 := by
  have hslot : (s.takeInbox i k).slot j = x := by rw [State.takeInbox_slot, hslots]
  unfold State.dataIn
  rw [hcoast, if_neg Bool.false_ne_true, hk]
  dsimp only
  rw [hj, hslot, if_neg (by omega), if_neg (by decide), if_neg (not_not.mpr hcrc), if_neg (not_not.mpr hticket), if_neg (by decide)]
  exact ⟨_, _, rfl, .collSends _ _ _ _ _ _⟩

end data

/-! ### A chunk sent (R399, R401, R406) -/

/-- The chunk number `n` noted as sent to each of a list of ranks. -/
def Slot.sentTo (x : Slot) (ds : List Nat) (n : Nat) : Slot := { x with sent := ds.foldl (fun m r => m.setNum r (n + 1)) x.sent }

theorem Slot.sentTo_num (x : Slot) {ds : List Nat} {d : Nat} (h : d ∈ ds) (n : Nat) : (x.sentTo ds n).sent.num d = n + 1 :=
  Sparse.get_foldl_set 0 (fun _ => n + 1) h x.sent

/-- The round of an engine replaced. -/
def State.inRound (m : Sparse Nat) (s : State) : State := { s with coll.round := m }

/-- The ranks that a chunk for `d` in phase `p` goes to. -/
def Slot.reached (x : Slot) (d p : Nat) : List Nat := if x.launch.multicast then x.launch.peers x.rank p else [d]

/-- An engine with one slot that has a chunk to send serves that slot (R406). -/
theorem State.nextSlot_only {s : State} {j : Nat} {x : Slot} {d k p q first count : Nat} (hlt : j < 16) (hslots : s.coll.slots = [(j, x)])
    (hnext : x.nextChunk = some (d, k, p, q, first, count))
    (hbusy : ∀ off len, x.ownPart q first count = some (off, len) → s.devBusy (x.launch.src + off) len = false) :
    ∃ m, s.nextSlot (engineOf j) = some (j, s.inRound m) := by
  have hother : ∀ i, i ≠ j → (s.slot i).nextChunk = none := fun i hi => if_neg (by rw [State.slot_single_other hslots hi]; decide)
  have hx : s.slot j = x := State.slot_single hslots
  unfold State.nextSlot
  extract_lets ready
  have hmem : ∀ i, i ∈ ready ↔ i = j := by
    intro i
    simp only [ready, List.mem_filter, List.mem_map, List.mem_range]
    constructor
    · rintro ⟨-, hi⟩
      by_contra hne
      rw [hother i hne] at hi
      exact absurd hi Bool.false_ne_true
    · rintro rfl
      refine ⟨⟨i / 4, by omega, by simp only [engineOf]; omega⟩, ?_⟩
      rw [hx, hnext]
      dsimp only
      split
      · next off len hown => rw [hbusy off len hown]; rfl
      · rfl
  split
  · next i hfind =>
    obtain rfl := (hmem i).mp (List.mem_of_find?_eq_some hfind)
    exact ⟨s.coll.round, rfl⟩
  · have hne : ready ≠ [] := List.ne_nil_of_mem ((hmem j).mpr rfl)
    obtain ⟨i, rest, hready⟩ := List.exists_cons_of_ne_nil hne
    obtain rfl := (hmem i).mp (by rw [hready]; exact List.mem_cons_self)
    rw [hready]
    exact ⟨_, rfl⟩

section send
variable {s : State} {j : Nat} {x : Slot} {d k p q first count : Nat} (hslot : s.slot j = x)
include hslot

/-- Its own input read from plain memory, or what it has received, is the data of a chunk. -/
theorem State.chunkData_plain (hplain : ∀ off len, x.ownPart q first count = some (off, len) → 0 < len → s.Plain (x.launch.src + off) len) :
    ∃ data, s.chunkData j q first count = (0, data, s) := by
  have hread : ∀ off len, x.ownPart q first count = some (off, len) → ∃ bs, s.readInput j off len = (0, bs, s) := by
    intro off len hown
    unfold State.readInput
    dsimp only
    split
    · exact ⟨[], rfl⟩
    · rw [hslot, devRead_plain _ _ _ _ (hplain off len hown (by omega))]
      exact ⟨_, rfl⟩
  unfold State.chunkData
  rw [hslot]
  dsimp only
  split
  · next off len hown =>
    obtain ⟨bs, hbs⟩ := hread off len hown
    rw [hbs]
    exact ⟨_, rfl⟩
  · exact ⟨_, rfl⟩

/-- A chunk without a missing target is sent, noted and counted. -/
theorem State.sendChunk_sent (hfence : ∀ r ∈ x.reached d p, s.memberFenced x.launch r = false) (hloose : ¬ (x.launch.loose = true ∧ s.strict = true))
    (hdata : ∃ data, s.chunkData j q first count = (0, data, s)) :
    ∃ u, s.sendChunk j (d, k, p, q, first, count) = (u.evtAdd .coll (engineOf j) 2 1).collAdvance j ∧ (s.setSlot j (x.sentTo (x.reached d p) k)).Posts u := by
  obtain ⟨data, hdata⟩ := hdata
  have hmissing : s.missing x.launch (x.reached d p) = none := List.find?_eq_none.mpr fun r hr => by
    rw [Bool.not_eq_true]
    exact hfence r hr
  unfold State.sendChunk
  dsimp only
  rw [hslot, show (if x.launch.multicast = true then x.launch.peers x.rank p else [d]) = x.reached d p from rfl, hmissing, hdata]
  dsimp only
  rw [if_neg (by simpa using hloose)]
  refine ⟨_, rfl, ?_⟩
  split
  · exact .injectLine _ _ _ _ _ _ _ _ _
  · exact .collSends _ _ _ _ _ _

end send

/-! ### The rows of the only collective -/

/-- A count of chunks of the engine of slot `j`, raised by one. -/
theorem State.reg_chunkCounted (s : State) (j k : Nat) :
    (s.evtAdd .coll (engineOf j) k 1).reg .coll (engineOf j) (0x80 + 8 * k) = min max64 (s.reg .coll (engineOf j) (0x80 + 8 * k) + 1) :=
  State.reg_evtAdd_same s (engineOf_lt j) k 1

/-- The chunk taken is counted as received (R417). -/
theorem State.chunkTaken_counted (s : State) (i j : Nat) (k : Pkt) :
    (s.chunkTaken i j k).reg .coll (engineOf j) 0x98 = min max64 (s.reg .coll (engineOf j) 0x98 + 1) := by
  refine (State.reg_chunkCounted (s.takeInbox i k) j 3).trans (congrArg (fun v => min max64 (v + 1)) ?_)
  exact (State.Posts.takeInbox s i k).counts _ (engineOf_lt j) 3 (by decide)

theorem State.badTaken_received (s : State) (i j : Nat) (k : Pkt) :
    (s.badTaken i j k).reg .coll (engineOf j) 0x98 = min max64 (s.reg .coll (engineOf j) 0x98 + 1) :=
  (State.reg_setReg_off _ _ _ _ _ _ _ _ (by decide) (by decide) (by decide)).trans (s.chunkTaken_counted i j k)

theorem State.badTaken_bad (s : State) (i j : Nat) (k : Pkt) :
    (s.badTaken i j k).reg .coll (engineOf j) 0xA8 = min max64 (s.reg .coll (engineOf j) 0xA8 + 1) := by
  refine (State.reg_chunkCounted (s.chunkTaken i j k) j 5).trans (congrArg (fun v => min max64 (v + 1)) ?_)
  refine (State.reg_setReg_off _ _ _ _ _ _ _ _ (by decide) (by decide) (by decide)).trans ?_
  exact (State.Posts.takeInbox s i k).counts _ (engineOf_lt j) 5 (by decide)

theorem State.badTaken_coll (s : State) (i j : Nat) (k : Pkt) : (s.badTaken i j k).coll = { s.coll with inbox := removeAt i s.coll.inbox } :=
  State.takeInbox_coll s i k

namespace State.Runs
variable {s : State} {j : Nat} {x : Slot} {c : OpenCmd} (hs : s.Runs j x c)
include hs

theorem badChunk {i : Nat} {k : Pkt} (hcoast : s.clk.coast = false) (hk : s.inboxAt i 3 = some k) (hj : bits k.arg 39 36 = j) (hstate : 2 ≤ x.state)
    (hcrc : crc32c (k.payload.take 28 ++ k.payload.drop 32) ≠ field k.payload 28 4) : ∃ t, exec (.collData i 0) s = .next t ∧
      t.errSet .coll (engineOf j) 7 ∧ (t.slot j).state = 0 ∧ t.reg .coll (engineOf j) 0x98 = min max64 (s.reg .coll (engineOf j) 0x98 + 1) ∧
      t.reg .coll (engineOf j) 0xA8 = min max64 (s.reg .coll (engineOf j) 0xA8 + 1) ∧ t.hif.done = s.hif.done ++ [c.compl 0x2207 0 0 0] := by
  have hexec : exec (.collData i 0) s = s.answer touchColl (s.dataIn i 0).collSettle.pumpAll := rfl
  obtain ⟨rank, n, hbad⟩ := State.dataIn_bad hs.slot hcoast hk hj hstate hcrc
  have hpost := State.Posts.takeInbox s i k
  have hcoll := s.badTaken_coll i j k
  have hslot : (s.badTaken i j k).slot j = x := (State.takeInbox_slot s i k j).trans hs.slot
  have hdone : (s.badTaken i j k).hif.done = s.hif.done := hpost.done
  obtain ⟨hends, hset⟩ := State.Concludes.collFault (s := s.badTaken i j k) (j := j) (c := c) (bit := 7)
    (by rw [hslot]; exact (hpost.openCmd x.seq).trans hs.command) (by rw [hdone]; exact hs.room) (by rw [hslot]; omega) rank n 0 none (by decide)
  rw [hslot, hs.place] at hset
  obtain ⟨t, ht, -, hfree, hended, herrs, hcounts⟩ := hends.answered (by rw [hcoll]; exact State.slots_single_free hs.slots)
    ((congrArg Coll.queued hcoll).trans hs.queued) s
  have hkept := hends.counts.trans hcounts
  refine ⟨t, by rw [hexec, hbad, ht], herrs _ _ _ hset, hfree, ?_, ?_, by rw [hended, hdone]⟩
  · exact (hkept _ (engineOf_lt j) 3 (by decide)).trans (s.badTaken_received i j k)
  · exact (hkept _ (engineOf_lt j) 5 (by decide)).trans (s.badTaken_bad i j k)

theorem soundChunk {i : Nat} {k : Pkt} (hcoast : s.clk.coast = false) (hk : s.inboxAt i 3 = some k) (hj : bits k.arg 39 36 = j) (hstate : 2 ≤ x.state)
    (hcrc : crc32c (k.payload.take 28 ++ k.payload.drop 32) = field k.payload 28 4) (hticket : field k.payload 0 8 = x.launch.ticket) :
    ∃ t q, exec (.collData i 0) s = .next t ∧ t.reg .coll (engineOf j) 0x98 = min max64 (s.reg .coll (engineOf j) 0x98 + 1) ∧
      ((t.slot j).state ≠ 0 → (t.slot j).cargo = (x.received q (field k.payload 8 2) (field k.payload 10 2) (field k.payload 0x10 8)
        (field k.payload 0x18 2) (k.payload.drop 32)).cargo) := by
  have hexec : exec (.collData i 0) s = s.answer touchColl (s.dataIn i 0).collSettle.pumpAll := rfl
  obtain ⟨q, r, hdata, hpost⟩ := State.dataIn_sound hs.slot hcoast hk hj hstate hcrc hticket
  have hcount := s.chunkTaken_counted i j k
  generalize hy : x.received q _ _ _ _ _ = y at hpost
  have hkept : State.Carries ((s.chunkTaken i j k).setSlot j y) (s.dataIn i 0) := by
    rw [hdata]
    exact (State.Carries.settleSend (fun bit d t => .collFault t j bit d 0 0 none) (.of_posts hpost)).trans (.collAdvance _ j)
  obtain ⟨t, ht, hkept⟩ := hkept.answered s
  refine ⟨t, q, by rw [hexec, ht], (hkept.counts _ (engineOf_lt j) 3 (by decide)).trans hcount, fun hbusy => ?_⟩
  rw [(hkept.slots j hbusy).2, State.slot_setSlot, hy]

theorem sends {d k p q first count : Nat} (hlt : j < 16) (hcoast : s.clk.coast = false) (hnext : x.nextChunk = some (d, k, p, q, first, count))
    (hloose : ¬ (x.launch.loose = true ∧ s.strict = true)) (hfence : ∀ r, r = d ∨ r ∈ x.launch.peers x.rank p → s.memberFenced x.launch r = false)
    (htarget : x.launch.multicast = true → d ∈ x.launch.peers x.rank p)
    (hown : ∀ off len, x.ownPart q first count = some (off, len) →
      s.devBusy (x.launch.src + off) len = false ∧ (0 < len → s.Plain (x.launch.src + off) len)) :
    ∃ t, exec (.collChunkSend (engineOf j)) s = .next t ∧ t.reg .coll (engineOf j) 0x90 = min max64 (s.reg .coll (engineOf j) 0x90 + 1) ∧
      ((t.slot j).state ≠ 0 → k < (t.slot j).sent.num d) := by
  have hexec : exec (.collChunkSend (engineOf j)) s = s.answer touchColl (s.chunkSend (engineOf j)).pumpAll := rfl
  have hreached : ∀ r ∈ x.reached d p, r = d ∨ r ∈ x.launch.peers x.rank p := by
    intro r hr
    unfold Slot.reached at hr
    split at hr
    · exact .inr hr
    · exact .inl (List.mem_singleton.mp hr)
  have hmem : d ∈ x.reached d p := by
    unfold Slot.reached
    split
    · next hm => exact htarget hm
    · exact List.mem_singleton_self d
  obtain ⟨m, hserves⟩ := State.nextSlot_only hlt hs.slots hnext fun off len h => (hown off len h).1
  have hround : s.chunkSend (engineOf j) = ((s.inRound (m.addNum j 1)).sendChunk j (d, k, p, q, first, count)).collSettle := by
    have hslot : (s.inRound m).slot j = x := hs.slot
    unfold State.chunkSend
    rw [hcoast, if_neg Bool.false_ne_true, hserves]
    dsimp only
    rw [hslot, hnext]
    rfl
  have hw : (s.inRound (m.addNum j 1)).slot j = x := hs.slot
  obtain ⟨u, hsent, hpost⟩ := State.sendChunk_sent (k := k) hw (fun r hr => hfence r (hreached r hr)) hloose
    (State.chunkData_plain hw fun off len h => (hown off len h).2)
  have hslot : (u.evtAdd .coll (engineOf j) 2 1).slot j = x.sentTo (x.reached d p) k := (hpost.slot j).trans (State.slot_setSlot ..)
  have hcount : (u.evtAdd .coll (engineOf j) 2 1).reg .coll (engineOf j) 0x90 = min max64 (s.reg .coll (engineOf j) 0x90 + 1) := by
    refine (State.reg_chunkCounted u j 2).trans (congrArg (fun v => min max64 (v + 1)) ?_)
    exact hpost.counts _ (engineOf_lt j) 2 (by decide)
  obtain ⟨t, ht, hkept⟩ := (State.Carries.collAdvance (u.evtAdd .coll (engineOf j) 2 1) j).answered s
  refine ⟨t, by rw [hexec, hround, hsent, ht], (hkept.counts _ (engineOf_lt j) 2 (by decide)).trans hcount, fun hbusy => ?_⟩
  have hcargo := (hkept.slots j hbusy).2
  rw [hslot] at hcargo
  have hsame : (t.slot j).sent = (x.sentTo (x.reached d p) k).sent := congrArg (·.2.2.2) hcargo
  rw [hsame, x.sentTo_num hmem]
  omega

theorem tiles {p : Nat} (hcoast : s.clk.coast = false) (htiles : x.launch.tiles = true) (hask : x.toAsk = []) (hstate : x.state = 2)
    (hphys : s.physOf x.launch.tileShape = some p) (hlive : ((s.block p).cnt x.launch.tileCnt).abandoned = none) (hmore : ∃ r ∈ x.others, r ∉ x.joins) :
    ∃ t, exec (.collTileReady j) s = .next t ∧
      t.slot j = { x with tiles := max x.tiles (((s.block p).cnt x.launch.tileCnt).value - x.launch.tileBase) } := by
  have hexec : exec (.collTileReady j) s = s.answer touchColl (s.tileReady j).pumpAll := rfl
  have hready : s.tileReady j = ((s.setSlot j { x with tiles := max x.tiles (((s.block p).cnt x.launch.tileCnt).value - x.launch.tileBase) }).collAdvance
      j).collSettle := by
    unfold State.tileReady
    dsimp only
    rw [hs.slot, if_neg (by simp [Slot.busy, hstate, htiles, hcoast]), hphys]
  have hgoes : s.collLost [] x.launch x.rank = none := by
    simp [State.collLost, hphys, hlive, hs.signals]
  obtain ⟨t, ht, -, hslot⟩ := State.answer_waits (j := j)
    (u := s.setSlot j { x with tiles := max x.tiles (((s.block p).cnt x.launch.tileCnt).value - x.launch.tileBase) })
    (State.slot_setSlot ..) (fun i hi => by rw [State.slot_setSlot_other _ _ _ _ hi]; exact State.slot_single_other hs.slots hi) hs.queued hs.lost
    ⟨hask, .inl ⟨hstate, hmore⟩⟩ hgoes s
  exact ⟨t, by rw [hexec, hready, ht], hslot⟩

end State.Runs

/-- In COAST the engines do nothing of their own (R387). -/
theorem State.coast_rests {s : State} (hcoast : s.clk.coast = true) (e j : Nat) :
    s.chunkSend e = s ∧ s.tileReady j = s ∧ s.collTimedOut j = s ∧ s.slotStart j = s ∧ s.holdExpired 0 = s :=
  ⟨if_pos hcoast, if_pos (by simp [hcoast]), if_pos (by simp [hcoast]), if_pos hcoast, by rw [State.holdExpired, hcoast]; rfl⟩

/-- Settles O53: what a command stores in the only slot is carried through the rest of it while the collective stays there. -/
theorem collectiveChunksAndTiles : Obligations.CollectiveChunksAndTiles := by
  intro s j x c hlt hslots hqueued hlost hroom hplace hsignals hc
  have hs : s.Runs j x c := ⟨hslots, hqueued, hlost, hroom, hplace, hsignals, hc⟩
  refine ⟨fun hcoast i hi => ?coast, fun i k hcoast _ hk hj hstate => ⟨fun hcrc => ?bad, fun hcrc hticket => ?sound⟩,
    fun d k p q first count _ hcoast hnext hloose hfence htarget hown => hs.sends hlt hcoast hnext hloose hfence htarget hown,
    fun p hcoast htiles hask hstate hphys hlive hmore => hs.tiles hcoast htiles hask hstate hphys hlive hmore⟩
  case coast =>
    obtain ⟨hsend, htile, htime, hstart, hhold⟩ := State.coast_rests hcoast (engineOf j) j
    have hrests : ∀ u : State, u = s → s.answer touchColl u.pumpAll = .next (s.keep touchColl s.pumpAll) := by
      rintro u rfl
      rfl
    simp only [List.mem_cons, List.not_mem_nil, or_false] at hi
    obtain rfl | rfl | rfl | rfl | rfl := hi
    · exact hrests _ hsend
    · exact hrests _ htile
    · exact hrests _ htime
    · exact hrests _ hstart
    · exact hrests _ hhold
  case bad =>
    obtain ⟨t, ht, hset, hfree, hgot, hbad, hdone⟩ := hs.badChunk hcoast hk hj hstate hcrc
    exact ⟨t, [], ht, hset, hfree, hgot, hbad, hdone⟩
  case sound =>
    obtain ⟨t, q, ht, hgot, hcargo⟩ := hs.soundChunk hcoast hk hj hstate hcrc hticket
    refine ⟨t, ht, hgot, fun hbusy => ?_⟩
    have hnow := hcargo hbusy
    obtain ⟨hkgot, hkchunks⟩ := x.store_keeps q (field k.payload 0x10 8) (field k.payload 0x18 2) (k.payload.drop 32)
    refine ⟨?_, (congrArg (·.2.1) hnow).trans (congrArg (fun n => (n + 1) % 2 ^ 24) hkchunks), fun hreduces => ?_⟩
    · exact (congrArg (fun y => Sparse.num y.1 _) hnow).trans ((Sparse.get_set_same ..).trans (congrArg (fun m => Sparse.num m _ + 1) hkgot))
    · exact (congrArg (·.2.2.1) hnow).trans (Slot.store_outBytes hreduces _ _ _ _)

end Sys2Proof.Machine
end

section
/-! PROOFS. Plain memory (R421, R422): what keeps a range plain, and what MEM_ACCESS does there (R419, R422, R438, R441, R442, R447). -/

namespace Sys2Proof.Machine

/-! ### What keeps a range plain -/

/-- What makes a range plain is the address map in force, the regions that the module keeps for itself, the clocks, what waits for memory, and the
stacks but for their dirty lines. -/
theorem State.Plain.congr {s t : State} {a n : Nat} (h : s.Plain a n) (hmode : t.reg .mctl 0 0x100 = s.reg .mctl 0 0x100) (hpnt : t.pnt = s.pnt)
    (hjnl : t.jnl = s.jnl) (hclk : t.clk = s.clk) (hqueue : t.mem.queue = s.mem.queue)
    (hstacks : ∀ i, ∃ d, t.stack i = { s.stack i with dirty := d }) : t.Plain a n := by
  obtain ⟨hnear, hfits, hheld, hwaits, hunits⟩ := h
  have hpools : t.poolReg = s.poolReg := funext fun p => by simp only [State.poolReg, hpnt]
  have hregions : t.heldRegions = s.heldRegions := by simp only [State.heldRegions, hpools, hpnt, hjnl]
  refine ⟨?_, hfits, ?_, hqueue ▸ hwaits, fun i hlo hhi => ?_⟩
  · rw [State.nearFar, State.fld, hmode]
    exact hnear
  · rw [State.holdsIn, hregions]
    exact hheld
  · obtain ⟨d, hd⟩ := hstacks i
    obtain ⟨hclean, hclock⟩ := hunits i hlo hhi
    rw [hd, State.clockStopped, State.mux, hclk]
    exact ⟨hclean, hclock⟩

/-- What packets and errors leave alone keeps a range plain, where Pantry stays as it is. -/
theorem State.Posts.plain {s t : State} {a n : Nat} (h : s.Posts t) (hpnt : t.pnt = s.pnt) (hplain : s.Plain a n) : t.Plain a n := by
  have hmem : t.mem = s.mem := (congrArg State.mem h.parts :)
  refine hplain.congr (h.settings .mctl 0 0x100 (by decide) (by decide)) hpnt (congrArg State.jnl h.parts :) h.clk (by rw [hmem]) fun i => ?_
  exact ⟨(s.stack i).dirty, by rw [State.stack, hmem]; rfl⟩

/-- A store keeps a range plain. -/
theorem State.Stored.plain {s t : State} {a b n : Nat} {bs : List Byte} (h : s.Stored t b bs) (hplain : s.Plain a n) : t.Plain a n := by
  obtain ⟨heq, hstacks⟩ := h
  refine hplain.congr ?_ ?_ ?_ ?_ ?_ hstacks <;> rw [heq]
  rfl

/-- A part of a plain range is plain. -/
theorem State.Plain.sub {s : State} {a n b m : Nat} (h : s.Plain a n) (hlo : a ≤ b) (hhi : b + m ≤ a + n) : s.Plain b m := by
  obtain ⟨hnear, hfits, hheld, hwaits, hunits⟩ := h
  refine ⟨hnear, by omega, ?_, fun q hq => ?_, fun i h1 h2 => ?_⟩
  · simp only [State.holdsIn, List.any_eq_false, Bool.and_eq_true, decide_eq_true_eq, not_and] at hheld ⊢
    exact fun r hr hb => by have := hheld r hr; omega
  · have := hwaits q hq
    omega
  · obtain ⟨hclean, hclock⟩ := hunits i (by omega) (by omega)
    exact ⟨Stack.Clean_sub _ _ _ _ _ hclean hlo hhi, hclock⟩

/-- An access to plain memory need not wait. -/
theorem State.Plain.served {s : State} {m : MemReq} (h : s.Plain m.addr m.len) : s.memWaits m = false := by
  rw [State.memWaits, Plain_free s _ _ h, Bool.false_or, List.any_eq_false]
  intro q hq
  have := h.2.2.2.1 q hq
  simp only [Bool.and_eq_true, decide_eq_true_eq, not_and]
  omega

theorem State.askMem_plain {s : State} {m : MemReq} (h : s.Plain m.addr m.len) : s.askMem m = s.serveMem m := by
  rw [State.askMem, h.served]
  rfl

/-- An access that must wait joins those that wait, and nothing else changes. -/
theorem State.askMem_waits {s : State} {m : MemReq} (h : s.memWaits m = true) : s.askMem m = { s with mem.queue := s.mem.queue ++ [m] } := if_pos h

/-! ### Errors of the memory -/

/-- A Scorebook count is none of what packets leave alone. -/
theorem State.Posts.sbAdd (s : State) (k n : Nat) : s.Posts (s.sbAdd k n) := .of_parts rfl rfl

/-- An uncorrectable word reported changes no memory and no setting. -/
theorem State.Posts.memUe (s : State) (who kind a : Nat) : s.Posts (s.memUe who kind a) :=
  (State.Posts.raise s _ _ _ _ _ _ _).trans (.evtAdd_off _ _ _ _ (by decide) (by decide))

/-- A correction reported likewise. -/
theorem State.Posts.memCe (s : State) (who kind a : Nat) : s.Posts (s.memCe who kind a) := by
  unfold State.memCe
  extract_lets n symbol t
  have ht : s.Posts t := ((State.Posts.useFree s).trans (.raise _ _ _ _ _ _ _ _)).trans (.sbAdd _ _ _)
  split
  · exact ht
  · exact ht.trans (.evtAdd_off _ _ _ _ (by decide) (by decide))

@[simp] theorem State.memCe_pnt (s : State) (who kind a : Nat) : (s.memCe who kind a).pnt = s.pnt := by
  unfold State.memCe
  dsimp only
  split <;> simp

theorem State.memUe_errSet (s : State) (who kind a : Nat) : (s.memUe who kind a).errSet .stk (a / 2 ^ 36) 3 := by
  unfold State.memUe
  extract_lets n
  exact State.KeepsErrs.evtAdd _ _ _ _ _ (by decide) _ _ _ (State.raise_errSet _ _ _ _ _ _ _ _ (by decide))

theorem State.memCe_errSet (s : State) (who kind a : Nat) : (s.memCe who kind a).errSet .stk (a / 2 ^ 36) 2 := by
  unfold State.memCe
  extract_lets n symbol t
  have ht : t.errSet .stk n 2 := State.KeepsErrs.sbAdd _ _ _ _ _ _ (State.raise_errSet _ _ _ _ _ _ _ _ (by decide))
  split
  · exact ht
  · exact State.KeepsErrs.evtAdd _ _ _ _ _ (by decide) _ _ _ ht

/-- What packets and errors leave alone: both memories and the stacks. -/
theorem State.Posts.dev {s t : State} (h : s.Posts t) : t.dev = s.dev := (congrArg State.dev h.parts :)
theorem State.Posts.host {s t : State} (h : s.Posts t) : t.host = s.host := (congrArg State.host h.parts :)
theorem State.Posts.mem {s t : State} (h : s.Posts t) : t.mem = s.mem := (congrArg State.mem h.parts :)

/-! ### MEM_ACCESS -/

/-- The request of a MEM_ACCESS. -/
def accessReq (write : Bool) (a n : Nat) (data : List Byte) (outcome : Nat) : MemReq :=
  { write, addr := a, len := if write then data.length else n, data, outcome }

/-- One of a legal length within device memory is the request of its bytes (R422). -/
theorem exec_memAccess_asks (s : State) (write : Bool) (a n : Nat) (data : List Byte) (outcome : Nat)
    (h0 : 0 < if write then data.length else n) (hle : (if write then data.length else n) ≤ 16384)
    (hfits : a + (if write then data.length else n) ≤ devBytes) :
    exec (.memAccess write a n data outcome) s = s.answer touchMem (s.askMem (accessReq write a n data outcome)) := by
  show s.answer touchMem (s.memAccess write a n data outcome) = _
  rw [State.memAccess]
  simp only [accessReq]
  rw [if_neg (by simp; omega)]

/-- A read of plain memory is served at once: what the hardware makes of its first byte, and then the read of the range. -/
theorem exec_memAccess_read {s : State} {a n : Nat} (h0 : 0 < n) (hle : n ≤ 16384) (h : s.Plain a n) (outcome : Nat) (ho : outcome ≠ 2) :
    let r := (s.strike (whoOf 0x10) a outcome).devRead (whoOf 0x10) a n
    exec (.memAccess false a n [] outcome) s = s.answer touchMem { r.2.2 with out.mem := some (r.1, r.2.1) } := by
  rw [exec_memAccess_asks s false a n [] outcome h0 hle h.2.1, State.askMem_plain (m := accessReq false a n [] outcome) h]
  have hfirst : s.firstByte a = a := by rw [State.firstByte, h.1]; rfl
  simp [State.serveMem, State.serveAccess, accessReq, Plain_online s a n false h, hfirst, ho]

/-- A word found uncorrectable joins those of its stack. -/
theorem State.strike_uncorrectable (s : State) (who a : Nat) :
    s.strike who a 1 = s.setStack (a / 2 ^ 36) { s.stack (a / 2 ^ 36) with bad := addTo (s.stack (a / 2 ^ 36)).bad (a / 32) } := rfl


/-- The range of an access begins with a piece in the stack of its first byte. -/
theorem State.Plain.pieces_cons {s : State} {a n : Nat} (h0 : 0 < n) (h : s.Plain a n) :
    ∃ k ps, 0 < k ∧ s.devPieces a n = (a, k) :: ps := by
  rw [Plain_pieces s a n h, piecesOf, if_neg (by omega)]
  exact ⟨_, _, by have := Nat.mod_lt a (show 0 < 2 ^ 36 by decide); omega, rfl⟩

/-- The only uncorrectable word that an access can meet, where the others that the stack remembers lie outside, is the one added. -/
theorem find?_addTo_new {p : Nat → Bool} {l : List Nat} {x : Nat} (hx : p x = true) (hl : ∀ y ∈ l, p y = false) : (addTo l x).find? p = some x := by
  unfold addTo
  split
  · next hmem =>
    have := hl x (by simpa using hmem)
    simp_all
  · rw [List.find?_append, List.find?_eq_none.mpr (by simpa using hl)]
    simp [hx]

/-- Where the word of the first byte of a plain range is found uncorrectable, a read of the range meets it. -/
theorem State.devBad_struck {s : State} {a n : Nat} (h0 : 0 < n) (h : s.Plain a n) (who : Nat) :
    (s.strike who a 1).devBad (s.devPieces a n) = some (32 * (a / 32), 0) := by
  obtain ⟨k, ps, hk, hps⟩ := h.pieces_cons h0
  have hin : (a, k) ∈ s.devPieces a n := hps ▸ List.mem_cons_self
  obtain ⟨-, -, -, hlost, hbad⟩ := Plain_stack s a n h _ hin
  have hle : a + k ≤ a + n := (piecesOf_bound (2 ^ 36) (by decide) _ _ _ _ (Plain_pieces s a n h ▸ hin)).2.1
  have hlines : (s.stack (a / 2 ^ 36)).lost.find? (meetsUnit 128 (a, k)) = none := by
    rw [List.find?_eq_none]
    intro l hl
    have := hlost l hl
    simp [meetsUnit]; omega
  have hword : (addTo (s.stack (a / 2 ^ 36)).bad (a / 32)).find? (meetsUnit 32 (a, k)) = some (a / 32) := by
    refine find?_addTo_new (by simp [meetsUnit]; omega) fun w hw => ?_
    have := hbad w hw
    simp [meetsUnit]; omega
  rw [hps, State.devBad, List.findSome?_cons]
  simp only [State.strike_uncorrectable, State.stack_setStack, hlines, hword, Option.map_some]



theorem State.wake_dev (s : State) (ps : List (Nat × Nat)) : (s.wake ps).dev = s.dev := by
  unfold State.wake
  induction ps generalizing s with
  | nil => rfl
  | cons p ps ih =>
    rw [List.foldl_cons, ih]
    dsimp only
    split <;> rfl

/-- Finding a word uncorrectable puts no stack out of service. -/
theorem State.strike_offline (s : State) (who a : Nat) (w : Bool) (ps : List (Nat × Nat)) :
    (s.strike who a 1).devOffline w ps = s.devOffline w ps := by
  have hstate : ∀ i, ((s.strike who a 1).stack i).state = (s.stack i).state ∧ ((s.strike who a 1).stack i).failedCh = (s.stack i).failedCh := by
    intro i
    rw [State.strike_uncorrectable]
    by_cases hi : i = a / 2 ^ 36
    · rw [hi, State.stack_setStack]
      exact ⟨rfl, rfl⟩
    · rw [State.stack_setStack_other _ _ _ _ hi]
      exact ⟨rfl, rfl⟩
  unfold State.devOffline
  refine List.any_congr rfl fun p => ?_
  dsimp only
  rw [(hstate _).1, (hstate _).2]
  rfl

/-- A read that meets the word just found uncorrectable answers MEM_UE and records the error (R438). -/
theorem State.devRead_struck {s : State} {a n : Nat} (h0 : 0 < n) (h : s.Plain a n) (who : Nat) :
    (s.strike who a 1).devRead who a n =
      (0x3003, [], (((s.strike who a 1).wake (s.devPieces a n)).memUe who 0 (32 * (a / 32)))) := by
  have hlt : ¬ devBytes < a + n := by have := h.2.1; omega
  have hpieces : (s.strike who a 1).devPieces a n = s.devPieces a n := rfl
  rw [State.devRead, State.devReadAs, hpieces, State.strike_offline, Plain_online s a n false h, State.devBad_struck h0 h]
  simp [hlt, stMemUe]

/-- A sound read answers the bytes and changes nothing else. -/
theorem exec_memAccess_read_sound {s : State} {a n : Nat} (h0 : 0 < n) (hle : n ≤ 16384) (h : s.Plain a n) :
    exec (.memAccess false a n [] 0) s = .next { s with out := { s.out with mem := some (0, s.dev.read a n) } } := by
  have hstrike : s.strike (whoOf 0x10) a 0 = s := rfl
  rw [exec_memAccess_read h0 hle h 0 (by decide), hstrike, devRead_plain s _ a n h]
  rfl

/-- A read whose first word is found uncorrectable answers MEM_UE. -/
theorem exec_memAccess_read_struck {s : State} {a n : Nat} (h0 : 0 < n) (hle : n ≤ 16384) (h : s.Plain a n) :
    ∃ t, exec (.memAccess false a n [] 1) s = .next t ∧ t.out.mem = some (0x3003, []) ∧ t.errSet .stk (a / 2 ^ 36) 3 ∧ t.dev = s.dev ∧
      OnlyIn touchMem s t := by
  rw [exec_memAccess_read h0 hle h 1 (by decide), State.devRead_struck h0 h]
  have herr := State.memUe_errSet ((s.strike (whoOf 0x10) a 1).wake (s.devPieces a n)) (whoOf 0x10) 0 (32 * (a / 32))
  have hn : 32 * (a / 32) / 2 ^ 36 = a / 2 ^ 36 := by omega
  rw [hn] at herr
  refine ⟨_, rfl, rfl, herr, ?_, keep_onlyIn _ _ _⟩
  exact (State.Posts.memUe _ _ _ _).dev.trans (State.wake_dev _ _)

/-- A correction at an access, of a symbol or of a bit of the cache, changes no byte and sets MEM_CE. -/
theorem exec_memAccess_read_corrected {s : State} {a n o : Nat} (h0 : 0 < n) (hle : n ≤ 16384) (h : s.Plain a n) (ho : o ∈ [3, 4]) :
    ∃ t, exec (.memAccess false a n [] o) s = .next t ∧ t.out.mem = some (0, s.dev.read a n) ∧ t.errSet .stk (a / 2 ^ 36) 2 ∧
      t.dev = s.dev ∧ t.mem = s.mem ∧ OnlyIn touchMem s t := by
  obtain ⟨kind, hstrike⟩ : ∃ kind, s.strike (whoOf 0x10) a o = s.memCe (whoOf 0x10) kind a := by
    simp only [List.mem_cons, List.not_mem_nil, or_false] at ho
    rcases ho with rfl | rfl
    · exact ⟨0, rfl⟩
    · exact ⟨1, rfl⟩
  have hposts := State.Posts.memCe s (whoOf 0x10) kind a
  rw [exec_memAccess_read h0 hle h o (by rintro rfl; simp at ho), hstrike, devRead_plain _ _ a n (hposts.plain (State.memCe_pnt _ _ _ _) h), hposts.dev]
  exact ⟨_, rfl, rfl, State.memCe_errSet s (whoOf 0x10) kind a, hposts.dev, hposts.mem, keep_onlyIn _ _ _⟩

/-- A read that must wait for a channel or a stack joins those that wait. -/
theorem exec_memAccess_read_waits {s : State} {a n o : Nat} (h0 : 0 < n) (hle : n ≤ 16384) (hfits : a + n ≤ 2 ^ 40) (h : s.devBusy a n = true) :
    exec (.memAccess false a n [] o) s = .next { s with mem := { s.mem with queue := s.mem.queue ++ [{ addr := a, len := n, outcome := o }] } } := by
  rw [exec_memAccess_asks s false a n [] o h0 hle hfits, State.askMem_waits (m := accessReq false a n [] o)]
  · rfl
  · exact Bool.or_eq_true_iff.mpr (.inl h)

/-- A write of plain memory stores its bytes. -/
theorem exec_memAccess_write {s : State} {a : Nat} {data : List Byte} (h0 : data ≠ []) (hle : data.length ≤ 16384) (h : s.Plain a data.length) :
    ∃ t, exec (.memAccess true a 0 data 0) s = .next t ∧ ({ s with out := { s.out with mem := some (0, []) } } : State).Stored t a data := by
  obtain ⟨t, ht, heq, hstacks⟩ := devWrite_plain s (whoOf 0x10) a data h0 h
  have hserved : s.askMem (accessReq true a 0 data 0) = { t with out.mem := some (0, []) } := by
    rw [State.askMem_plain (m := accessReq true a 0 data 0) h]
    have hstrike : s.strike (whoOf 0x10) (s.firstByte a) 0 = s := rfl
    simp [State.serveMem, State.serveAccess, accessReq, Plain_online s a _ true h, hstrike, ht]
  rw [exec_memAccess_asks s true a 0 data 0 (List.length_pos_of_ne_nil h0) hle h.2.1, hserved]
  refine ⟨_, rfl, ?_, hstacks⟩
  rw [heq]
  rfl

/-! ### A stack out of service -/

/-- In normal service a range within one stack is one piece. -/
theorem State.devPieces_within {s : State} {a n : Nat} (hnear : s.nearFar = false) (h0 : 0 < n) (hin : a / 2 ^ 36 = (a + n - 1) / 2 ^ 36) :
    s.devPieces a n = [(a, n)] := by
  have hmin : min n (2 ^ 36 - a % 2 ^ 36) = n := by omega
  rw [State.devPieces, hnear, if_neg (by decide), piecesOf, if_neg (by omega), hmin, Nat.sub_self]
  congr 1

theorem State.devOffline_within {s : State} {a n : Nat} (w : Bool) (hnear : s.nearFar = false) (h0 : 0 < n)
    (hin : a / 2 ^ 36 = (a + n - 1) / 2 ^ 36) (hstate : (s.stack (a / 2 ^ 36)).state = 3) : s.devOffline w (s.devPieces a n) = true := by
  rw [State.devPieces_within hnear h0 hin]
  simp [State.devOffline, hnear, hstate, -Nat.reducePow]

/-- An access that lies within a stack out of service is answered so, and changes nothing (R442). -/
theorem exec_memAccess_offline {s : State} {w : Bool} {a n outcome : Nat} {data : List Byte} (h0 : 0 < if w then data.length else n)
    (hle : (if w then data.length else n) ≤ 16384) (hnear : s.nearFar = false) (hfits : a + (if w then data.length else n) ≤ 2 ^ 40)
    (hin : a / 2 ^ 36 = (a + (if w then data.length else n) - 1) / 2 ^ 36) (hstate : (s.stack (a / 2 ^ 36)).state = 3)
    (hfree : s.memWaits { addr := a, len := if w then data.length else n } = false) (ho : outcome ≠ 2) :
    exec (.memAccess w a n data outcome) s = .next { s with out := { s.out with mem := some (0x3007, []) } } := by
  have hserved : s.askMem (accessReq w a n data outcome) = { s with out.mem := some (0x3007, []) } := by
    have hasks : s.askMem (accessReq w a n data outcome) = s.serveMem (accessReq w a n data outcome) := if_neg (by exact hfree ▸ Bool.false_ne_true)
    rw [hasks]
    cases w with
    | true =>
      have hoff := State.devOffline_within true hnear h0 hin hstate
      rw [if_pos rfl] at h0 hoff
      have hne : data.isEmpty = false := by simpa using List.ne_nil_of_length_pos h0
      simp [State.serveMem, State.serveAccess, accessReq, hoff, State.devWrite, stOffline, hne]
    | false =>
      have hoff := State.devOffline_within false hnear h0 hin hstate
      rw [if_neg (by decide)] at hoff
      simp [State.serveMem, State.serveAccess, accessReq, hoff, State.devRead, State.devReadAs, stOffline, ho]
  rw [exec_memAccess_asks s w a n data outcome h0 hle hfits, hserved]
  rfl

/-- Settles O29: a request for plain memory is served at once; the read or the write is that of a plain range, on the state in which the
outcome of the first word has struck. -/
theorem memoryAccessReadsAndWrites : Obligations.MemoryAccessReadsAndWrites := by
  intro s a
  refine ⟨fun n h0 hle h => ⟨exec_memAccess_read_sound h0 hle h, exec_memAccess_read_struck h0 hle h, fun o ho => ?_⟩, fun n o h0 hle hfits h => ?_,
    fun data h0 hle h => exec_memAccess_write h0 hle h, ?_⟩
  · exact exec_memAccess_read_corrected h0 hle h ho
  · exact exec_memAccess_read_waits h0 hle hfits h
  · intro w data n outcome len h0 hle hnear hfits hin hstate hfree ho
    exact exec_memAccess_offline h0 hle hnear hfits hin hstate hfree ho

end Sys2Proof.Machine
end

section
/-! PROOFS. The BAR2 window (R497, R539 to R541, R543): when it is refused, and what its reads and writes of plain memory do. -/

namespace Sys2Proof.Machine

/-! ### When the window is refused -/

theorem State.barRefused_outside (s : State) : s.barRefused none = true ↔
    s.ref.memSpace = false ∨ s.ref.d3hot = true ∨ s.ref.ready = false ∨ s.fld .sec 0 0x108 1 1 = 1 := by
  simp [State.barRefused, State.barsOpen, State.ideRefused, or_assoc]

theorem State.barRefused_stream (s : State) (k : Nat) : s.barRefused (some k) = true ↔
    s.ref.memSpace = false ∨ s.ref.d3hot = true ∨ s.ref.ready = false ∨ s.sec.ideInsecure.testBit k = true ∨
      (s.fld .sec 0 0x108 1 1 = 1 ∧ s.sec.ideSecure.testBit k = false) := by
  simp [State.barRefused, State.barsOpen, State.ideRefused, or_assoc, bitOn]

/-! ### A write in pieces -/

/-- One piece of a BAR2 write, of a write to `addr`, stored. -/
def State.bar2Piece (addr : Nat) (s : State) (p : Nat × List Byte) : State :=
  match s.devWrite (whoOf 0x10) p.1 p.2 with
  | (0, t) => t
  | (_, t) => t.raise .hif 0 5 0 addr 0 0

theorem State.serveBar2_write {m : MemReq} (h : m.write = true) (s : State) : s.serveBar2 m = (bar2Pieces m.addr m.data).foldl (State.bar2Piece m.addr) s := by
  rw [State.serveBar2, if_pos h]
  rfl

/-- A piece in plain memory is stored. -/
theorem State.bar2Piece_plain {s : State} {lo : Nat} {bs : List Byte} (addr : Nat) (h0 : bs ≠ []) (h : s.Plain lo bs.length) :
    s.Stored (s.bar2Piece addr (lo, bs)) lo bs := by
  obtain ⟨t, ht, hstored⟩ := devWrite_plain s (whoOf 0x10) lo bs h0 h
  rw [State.bar2Piece, ht]
  exact hstored

/-- Where the `i`-th unit of 256 bytes that a range meets begins, within the range: the first one where the range does. -/
def unitStart (a n i : Nat) : Nat := if i = 0 then a else min (a + n) ((a / 256 + i) * 256)

/-- The pieces of a write go from one unit's beginning to the next one's. -/
theorem bar2Pieces_eq (a : Nat) (data : List Byte) : bar2Pieces a data =
    (List.range ((a + data.length - 1) / 256 + 1 - a / 256)).map (fun i =>
      (unitStart a data.length i, (data.drop (unitStart a data.length i - a)).take (unitStart a data.length (i + 1) - unitStart a data.length i))) := by
  refine List.map_congr_left fun i hi => ?_
  have hlo : max a ((a / 256 + i) * 256) = unitStart a data.length i := by
    rw [List.mem_range] at hi
    unfold unitStart
    split <;> omega
  have hhi : min (a + data.length) ((a / 256 + i) * 256 + 256) = unitStart a data.length (i + 1) := by
    have hnext : (a / 256 + i) * 256 + 256 = (a / 256 + (i + 1)) * 256 := by omega
    rw [unitStart, if_neg (Nat.succ_ne_zero i), hnext]
  dsimp only
  rw [hlo, hhi]

/-- The first pieces of a write to plain memory store the bytes up to where the next unit begins. -/
theorem State.bar2Pieces_stored {s : State} {a : Nat} {data : List Byte} (h0 : 0 < data.length) (h : s.Plain a data.length) (addr k : Nat)
    (hk : k < (a + data.length - 1) / 256 + 1 - a / 256) :
    s.Stored (((bar2Pieces a data).take (k + 1)).foldl (State.bar2Piece addr) s) a (data.take (unitStart a data.length (k + 1) - a)) := by
  have hlast : ∀ i, i < (a + data.length - 1) / 256 + 1 - a / 256 → unitStart a data.length i < unitStart a data.length (i + 1) ∧
      a ≤ unitStart a data.length i ∧ unitStart a data.length (i + 1) ≤ a + data.length := by
    intro i hi
    rw [unitStart, unitStart, if_neg (Nat.succ_ne_zero i)]
    split <;> omega
  have hpiece : ∀ i, i < (a + data.length - 1) / 256 + 1 - a / 256 → ∀ t : State, (t.Plain a data.length) →
      t.Stored (t.bar2Piece addr (unitStart a data.length i, (data.drop (unitStart a data.length i - a)).take
        (unitStart a data.length (i + 1) - unitStart a data.length i))) (unitStart a data.length i)
        ((data.drop (unitStart a data.length i - a)).take (unitStart a data.length (i + 1) - unitStart a data.length i)) := by
    intro i hi t ht
    obtain ⟨hlt, hlo, hhi⟩ := hlast i hi
    have hlen : ((data.drop (unitStart a data.length i - a)).take (unitStart a data.length (i + 1) - unitStart a data.length i)).length =
        unitStart a data.length (i + 1) - unitStart a data.length i := by
      rw [List.length_take, List.length_drop]
      omega
    refine State.bar2Piece_plain addr (fun h => ?_) (ht.sub hlo (by omega))
    rw [h, List.length_nil] at hlen
    omega
  rw [bar2Pieces_eq]
  induction k with
  | zero =>
    have hfirst := hpiece 0 hk s h
    rw [← List.map_take, List.take_range, Nat.min_eq_left hk]
    simpa [List.range_succ, unitStart] using hfirst
  | succ k ih =>
    have hprev := ih (by omega)
    have hnext := hpiece (k + 1) hk _ (hprev.plain h)
    obtain ⟨-, hlo, hmid⟩ := hlast k (by omega)
    obtain ⟨hlt, hlo', hhi⟩ := hlast (k + 1) hk
    rw [← List.map_take, List.take_range, Nat.min_eq_left (by omega)] at hprev hnext ⊢
    rw [List.range_succ, List.map_append, List.foldl_append]
    have hlen : (data.take (unitStart a data.length (k + 1) - a)).length = unitStart a data.length (k + 1) - a := by
      rw [List.length_take]
      omega
    have hjoin : data.take (unitStart a data.length (k + 1 + 1) - a) = data.take (unitStart a data.length (k + 1) - a) ++
        (data.drop (unitStart a data.length (k + 1) - a)).take (unitStart a data.length (k + 1 + 1) - unitStart a data.length (k + 1)) := by
      rw [← List.take_add]
      congr 1
      omega
    rw [hjoin]
    refine Stored_trans _ _ _ _ _ _ hprev ?_
    rw [hlen, Nat.add_sub_cancel' hlo']
    exact hnext

/-- A write through BAR2 to plain memory stores its bytes. -/
theorem State.serveBar2_stores {s : State} {m : MemReq} (hw : m.write = true) (h0 : m.data ≠ []) (h : s.Plain m.addr m.data.length) :
    s.Stored (s.serveBar2 m) m.addr m.data := by
  have hlen := List.length_pos_of_ne_nil h0
  obtain ⟨k, hk⟩ : ∃ k, (m.addr + m.data.length - 1) / 256 + 1 - m.addr / 256 = k + 1 :=
    Nat.exists_eq_succ_of_ne_zero (by omega)
  have hall := State.bar2Pieces_stored hlen h m.addr k (by omega)
  have hend : unitStart m.addr m.data.length (k + 1) = m.addr + m.data.length := by
    rw [unitStart, if_neg (Nat.succ_ne_zero k)]
    omega
  have hcount : (bar2Pieces m.addr m.data).length = k + 1 := by rw [bar2Pieces, List.length_map, List.length_range, hk]
  rw [hend, Nat.add_sub_cancel_left, List.take_length, List.take_of_length_le (Nat.le_of_eq hcount)] at hall
  rw [State.serveBar2_write hw]
  exact hall

/-! ### The commands -/

/-- What an access of the host through BAR2 may change. -/
def touchBar2 (write : Bool) : Touch := { touchTake with dev := write, mem := true, free := true }

theorem exec_bar2Read_eq (offset len : Nat) (stream : Option Nat) (s : State) :
    exec (.bar2Read offset len stream) s = s.answer (touchBar2 false) (s.bar2Read offset len stream) := rfl

theorem exec_bar2Write_eq (offset : Nat) (data : List Byte) (stream : Option Nat) (s : State) :
    exec (.bar2Write offset data stream) s = s.answer (touchBar2 true) (s.bar2Write offset data stream) := rfl

/-- A write's command leaves what its store leaves. -/
theorem State.Stored.keep_touchBar2 {s t : State} {a : Nat} {bs : List Byte} (h : s.Stored t a bs) : s.Stored (s.keep (touchBar2 true) t) a bs := by
  obtain ⟨heq, hstacks⟩ := h
  refine ⟨?_, hstacks⟩
  rw [heq]
  rfl

/-- The request of an access that the window lets through. -/
def bar2Req (s : State) (write : Bool) (offset n : Nat) (data : List Byte) : MemReq :=
  { write, addr := s.bar2Addr offset, len := n, data, stamp := some s.hif.seqNext }

section window
variable {s : State} {offset len : Nat} {data : List Byte} {stream : Option Nat}

theorem State.bar2Read_asks (hlink : s.linked = true) (h0 : 0 < len) (hopen : s.barRefused stream = false) (hin : offset + len ≤ s.bar2Size) :
    s.bar2Read offset len stream = s.askMem (bar2Req s false offset len []) := by
  have hlt : ¬ s.bar2Size < offset + len := by omega
  simp [State.bar2Read, bar2Req, hlink, hopen, Nat.ne_of_gt h0, hlt]

theorem State.bar2Read_refused (hlink : s.linked = true) (h0 : 0 < len) (h : s.barRefused stream = true ∨ s.bar2Size < offset + len) :
    s.bar2Read offset len stream = { s with out.bar2 := some (1, []) } := by
  simp [State.bar2Read, hlink, Nat.ne_of_gt h0, h]

theorem State.bar2Write_asks (hlink : s.linked = true) (h0 : data ≠ []) (hopen : s.barRefused stream = false) (hroom : s.stalled = false)
    (hin : offset + data.length ≤ s.bar2Size) : s.bar2Write offset data stream = s.askMem (bar2Req s true offset data.length data) := by
  have hlt : ¬ s.bar2Size < offset + data.length := by omega
  simp [State.bar2Write, bar2Req, hlink, hopen, hroom, h0, hlt]

theorem State.bar2Write_refused (h : s.barRefused stream = true ∨ s.bar2Size < offset + data.length) : s.bar2Write offset data stream = s := by
  refine if_pos ?_
  rcases h with h | h <;> simp [h]

/-- A read of plain memory through the window answers its bytes. -/
theorem exec_bar2Read_plain (hlink : s.linked = true) (h0 : 0 < len) (hopen : s.barRefused stream = false) (hin : offset + len ≤ s.bar2Size)
    (h : s.Plain (s.bar2Addr offset) len) :
    exec (.bar2Read offset len stream) s = .next { s with out := { s.out with bar2 := some (0, s.dev.read (s.bar2Addr offset) len) } } := by
  rw [exec_bar2Read_eq, State.bar2Read_asks hlink h0 hopen hin, State.askMem_plain (m := bar2Req s false offset len []) h]
  simp only [State.serveMem, State.serveBar2, bar2Req, devRead_plain s _ _ _ h]
  rfl

/-- A write of plain memory through the window stores its bytes. -/
theorem exec_bar2Write_plain (hlink : s.linked = true) (h0 : data ≠ []) (hopen : s.barRefused stream = false) (hroom : s.hif.window.length + 8 ≤ 4096)
    (hin : offset + data.length ≤ s.bar2Size) (h : s.Plain (s.bar2Addr offset) data.length) :
    ∃ t, exec (.bar2Write offset data stream) s = .next t ∧ s.Stored t (s.bar2Addr offset) data := by
  have hstall : s.stalled = false := decide_eq_false (by unfold windowSize; omega)
  have hstored := State.serveBar2_stores (m := bar2Req s true offset data.length data) rfl h0 h
  rw [exec_bar2Write_eq, State.bar2Write_asks hlink h0 hopen hstall hin, State.askMem_plain (m := bar2Req s true offset data.length data) h]
  exact ⟨_, rfl, hstored.keep_touchBar2⟩

end window

/-- Settles O17: an access inside the window is one of the memory's, at BASE × 2^30 plus its offset. -/
theorem bar2ReachesDeviceMemory : Obligations.Bar2ReachesDeviceMemory := by
  refine ⟨fun s k => ⟨s.barRefused_outside, s.barRefused_stream k⟩, fun s offset len data stream hlink => ?_⟩
  intro a size
  refine ⟨fun h0 hopen hin h => exec_bar2Read_plain hlink h0 hopen hin h, fun h0 hopen hroom hin h => exec_bar2Write_plain hlink h0 hopen hroom hin h,
    fun h0 h => ?_, fun h => ?_, fun h0 hopen hin hbusy => ?_⟩
  · rw [exec_bar2Read_eq, State.bar2Read_refused hlink h0 h]
    rfl
  · rw [exec_bar2Write_eq, State.bar2Write_refused h]
    rfl
  · rw [exec_bar2Read_eq, State.bar2Read_asks hlink h0 hopen hin,
      State.askMem_waits (m := bar2Req s false offset len []) (Bool.or_eq_true_iff.mpr (.inl hbusy))]
    rfl

end Sys2Proof.Machine
end

section
/-! PROOFS. Atomics at the LB4 (R428 to R431), as commands of the LB4 and by the host's ATOMIC (R550). -/

namespace Sys2Proof.Machine

/-! ### Operands in bytes -/

theorem slice_length (l : List Byte) (a n : Nat) : (slice l a n).length = n := by
  rw [slice, List.length_append, List.length_replicate, List.length_take]
  omega

/-- A slice byte by byte: bytes beyond the list read as 0. -/
theorem slice_getD (l : List Byte) {a n i : Nat} (h : i < n) : (slice l a n).getD i 0 = l.getD (a + i) 0 := by
  rw [slice]
  simp only [List.getD_eq_getElem?_getD]
  by_cases hi : a + i < l.length
  · rw [List.getElem?_append_left (by rw [List.length_take, List.length_drop]; omega), List.getElem?_take_of_lt h, List.getElem?_drop]
  · rw [List.getElem?_append_right (by rw [List.length_take, List.length_drop]; omega), List.getElem?_replicate,
      List.getElem?_eq_none (l := l) (by omega)]
    split <;> rfl

/-- Lists of one length that agree byte by byte are equal. -/
theorem bytes_ext {l m : List Byte} (hlen : l.length = m.length) (h : ∀ i, i < l.length → l.getD i 0 = m.getD i 0) : l = m :=
  List.ext_getElem hlen fun i h1 h2 => by simpa [List.getD_eq_getElem?_getD, h1, h2] using h i h1

/-- Bytes within a slice, wherever the list ends. -/
theorem slice_within (l : List Byte) {a m i n : Nat} (h : i + n ≤ m) : slice (slice l a m) i n = slice l (a + i) n := by
  refine bytes_ext ((slice_length ..).trans (slice_length ..).symm) fun j hj => ?_
  rw [slice_length] at hj
  rw [slice_getD _ hj, slice_getD _ hj, slice_getD _ (by omega), Nat.add_assoc]

/-- The low bytes of a number given in bytes. -/
theorem leBytes_take {k n : Nat} (h : k ≤ n) (x : Nat) : (leBytes n x).take k = leBytes k x := by
  induction k generalizing n x with
  | zero => rfl
  | succ k ih =>
    obtain ⟨n, rfl⟩ := Nat.exists_eq_succ_of_ne_zero (Nat.ne_of_gt (Nat.lt_of_lt_of_le k.succ_pos h))
    rw [leBytes, List.take_succ_cons, ih (by omega), leBytes]

/-- The low bytes of a number, read as a number. -/
theorem field_leBytes {k n : Nat} (h : k ≤ n) (x : Nat) : field (leBytes n x) 0 k = x % 256 ^ k := by
  rw [field, slice_of_le (by rw [leBytes_length]; omega), List.drop_zero, leBytes_take h, leNat_leBytes]

/-- The second of two numbers of one width. -/
theorem field_append_second (k x y : Nat) : field (leBytes k x ++ leBytes k y) k k = y % 256 ^ k := by
  rw [field, slice_of_le (by rw [List.length_append, leBytes_length, leBytes_length]), List.drop_left' (leBytes_length ..),
    List.take_of_length_le (Nat.le_of_eq (leBytes_length ..)), leNat_leBytes]

/-- The first of two. -/
theorem field_append_first (k x y : Nat) : field (leBytes k x ++ leBytes k y) 0 k = x % 256 ^ k := by
  rw [field, slice_of_le (by rw [List.length_append, leBytes_length, leBytes_length]; omega), List.drop_zero, List.take_left' (leBytes_length ..),
    leNat_leBytes]

/-- Bytes are those of the number they give. -/
theorem leBytes_leNat (bs : List Byte) : leBytes bs.length (leNat bs) = bs := by
  induction bs with
  | nil => rfl
  | cons b bs ih =>
    have hb := b.isLt
    have hdiv : (b.toNat + 256 * leNat bs) / 256 = leNat bs := by omega
    have hlow : BitVec.ofNat 8 (b.toNat + 256 * leNat bs) = b := BitVec.eq_of_toNat_eq (by rw [BitVec.toNat_ofNat]; omega)
    rw [List.length_cons, leNat, leBytes, hdiv, ih, hlow]

/-! ### What the LB4 does -/

section atomic
variable {s : State} {who aop a : Nat} {operand : List Byte}

theorem aopBytes_pos (aop : Nat) : 0 < aopBytes aop := by
  unfold aopBytes
  split
  · decide
  · split <;> decide

/-- An integer atomic or FADD on an aligned word of plain memory: its result is stored, it answers the old value, and it is counted. -/
theorem State.devAtomic_word (hok : aopOk aop = true) (hop : aopOp aop ≠ 8) (hal : a % aopBytes aop = 0) (h : s.Plain a (aopBytes aop)) :
    let w := aopBytes aop
    let old := leNat (s.dev.read a w)
    ∃ t, s.devAtomic who aop a operand = (0, old, t.evtAdd .stk (a / 2 ^ 36) 3 1) ∧
      s.Stored t a (leBytes w (atomicResult (aopOp aop) (8 * w) old (field operand 0 w) (field operand w w))) := by
  intro w old
  have hlen : ∀ v, (leBytes w v).length = w := leBytes_length w
  obtain ⟨t, ht, hstored⟩ := devWrite_plain s who a (leBytes w (atomicResult (aopOp aop) (8 * w) old (field operand 0 w) (field operand w w)))
    (List.ne_nil_of_length_pos (by rw [hlen]; exact aopBytes_pos aop)) (by rw [hlen]; exact h)
  refine ⟨t, ?_, hstored⟩
  have hfits : (!aopOk aop || !aopAligned aop a || s.nearFar) = false := by simp [hok, aopAligned, hal, h.1]
  rw [State.devAtomic, hfits]
  simp only [hop, if_false, Bool.false_eq_true, devReadAs_plain s _ who a _ h]
  rw [ht]

/-- ADD_EXACT on an aligned line of plain memory whose total may be added to. -/
theorem State.devAtomic_exact (hok : aopOk aop = true) (hop : aopOp aop = 8) (hal : a % 128 = 0) (h : s.Plain a 72)
    (hz : (Total.ofBytes (s.dev.read a 72)).zst ≠ 3) :
    ∃ t, s.devAtomic who aop a operand = (0, 0, t.evtAdd .stk (a / 2 ^ 36) 4 1) ∧
      s.Stored t a (addExactTotal (aopKind aop) (Total.ofBytes (s.dev.read a 72)) operand).toBytes := by
  have hlen : ∀ x : Total, x.toBytes.length = 72 := fun x => leBytes_length 72 _
  obtain ⟨t, ht, hstored⟩ := devWrite_plain s who a (addExactTotal (aopKind aop) (Total.ofBytes (s.dev.read a 72)) operand).toBytes
    (List.ne_nil_of_length_pos (by rw [hlen]; decide)) (by rw [hlen]; exact h)
  refine ⟨t, ?_, hstored⟩
  have hfits : (!aopOk aop || !aopAligned aop a || s.nearFar) = false := by simp [hok, aopAligned, aopBytes, hop, hal, h.1]
  rw [State.devAtomic, hfits]
  simp only [hop, if_true, if_false, Bool.false_eq_true, devReadAs_plain s _ who a _ h, hz]
  rw [ht]

/-- A misaligned atomic, or one in near/far mode, is refused. -/
theorem State.devAtomic_refused (h : aopAligned aop a = false ∨ s.nearFar = true) :
    s.devAtomic who aop a operand = (0x3005, 0, s.atomicFormat who aop a) := by
  have hfits : (!aopOk aop || !aopAligned aop a || s.nearFar) = true := by
    rcases h with h | h <;> simp [h]
  rw [State.devAtomic, hfits]
  rfl

theorem State.atomicFormat_errSet (ha : a < 2 ^ 40) : (s.atomicFormat who aop a).errSet .stk (a / 2 ^ 36) 5 := by
  have hn : a / 2 ^ 36 % 16 = a / 2 ^ 36 := Nat.mod_eq_of_lt (by omega)
  unfold State.atomicFormat
  extract_lets pc
  rw [hn]
  exact State.raise_errSet _ _ _ _ _ _ _ _ (by decide)

theorem State.Posts.atomicFormat (s : State) (who aop a : Nat) : s.Posts (s.atomicFormat who aop a) := by
  unfold State.atomicFormat
  exact .raise _ _ _ _ _ _ _ _

end atomic

/-! ### Atomics as commands of the LB4 -/

/-- The request of an atomic. -/
def atomicReq (aop a : Nat) (operand : List Byte) : MemReq :=
  { write := true, addr := a, len := if aopOp aop = 8 then 72 else aopBytes aop, data := operand, aop := some aop }

/-- What an atomic at an LB4 may change. -/
def touchAtomic : Touch := { dev := true, mem := true, regs := true, out := true, free := true }

/-- `t` is what an atomic leaves that stores `bs` and answers `ans`: memory holds the bytes, and only counts, lists of dirty lines and free values differ
besides. -/
def State.AtomicStores (s t : State) (a : Nat) (bs : List Byte) (ans : Nat × List Byte) : Prop :=
  t.dev = s.dev.write a bs ∧ t.out = { s.out with mem := some ans } ∧ OnlyIn touchAtomic s t

section commands
variable {s : State} {aop a : Nat} {operand : List Byte}

/-- An atomic within device memory that nothing makes wait is served at once. -/
theorem State.memAtomic_serves (ha : a < 2 ^ 40) (hfree : s.memWaits { addr := a, len := if aopOp aop = 8 then 72 else aopBytes aop } = false) :
    s.memAtomic aop a operand = s.serveAtomic (atomicReq aop a operand) aop := by
  have hin : ¬ devBytes ≤ a := Nat.not_le.mpr ha
  have hasks : s.askMem (atomicReq aop a operand) = s.serveMem (atomicReq aop a operand) := if_neg (by exact hfree ▸ Bool.false_ne_true)
  rw [State.memAtomic, if_neg hin]
  exact hasks

/-- One in plain memory. -/
theorem State.memAtomic_plain {n : Nat} (hn : (if aopOp aop = 8 then 72 else aopBytes aop) = n) (h0 : 0 < n) (h : s.Plain a n) :
    s.memAtomic aop a operand = s.serveAtomic (atomicReq aop a operand) aop := by
  have hfits : a + n ≤ 2 ^ 40 := h.2.1
  refine State.memAtomic_serves (by omega) ?_
  rw [hn]
  exact State.Plain.served (m := { addr := a, len := n }) h

/-- What a command leaves whose atomic was stored and counted. -/
theorem State.Stored.answer_atomic {s t : State} {bs : List Byte} (h : s.Stored t a bs) (n k : Nat) (ans : Nat × List Byte) :
    ∃ u, s.answer touchMem { (t.evtAdd .stk n k 1) with out.mem := some ans } = .next u ∧ s.AtomicStores u a bs ans := by
  obtain ⟨heq, -⟩ := h
  rw [heq]
  exact ⟨_, rfl, rfl, rfl, keep_onlyIn touchAtomic s _⟩

/-- An integer atomic, or FADD outside strict mode, on an aligned word of plain memory. -/
theorem answer_memAtomic_word (hok : aopOk aop = true) (hop : aopOp aop ≠ 8) (hstrict : aopOp aop = 7 → s.strict = false) (hal : a % aopBytes aop = 0)
    (h : s.Plain a (aopBytes aop)) :
    let w := aopBytes aop
    let old := leNat (s.dev.read a w)
    ∃ t, s.answer touchMem (s.memAtomic aop a operand) = .next t ∧
      s.AtomicStores t a (leBytes w (atomicResult (aopOp aop) (8 * w) old (field operand 0 w) (field operand w w))) (0, leBytes w old) := by
  intro w old
  obtain ⟨t, ht, hstored⟩ := State.devAtomic_word (who := whoOf 0x10) (operand := operand) hok hop hal h
  have hserve : s.memAtomic aop a operand = { (t.evtAdd .stk (a / 2 ^ 36) 3 1) with out.mem := some (0, leBytes w old) } := by
    have hstays : ¬ (aopOp aop = 7 ∧ s.strict ∧ aopOk aop ∧ aopAligned aop a ∧ !s.nearFar) := fun ⟨h7, hs, _⟩ => by simp [hstrict h7] at hs
    rw [State.memAtomic_plain (if_neg hop) (aopBytes_pos aop) h, State.serveAtomic]
    simp only [atomicReq, hstays, if_false, ht, hop, ne_eq, not_false_eq_true, and_self, if_true]
    rfl
  rw [hserve]
  exact hstored.answer_atomic _ _ _

/-- ADD_EXACT likewise. -/
theorem answer_memAtomic_exact (hok : aopOk aop = true) (hop : aopOp aop = 8) (hal : a % 128 = 0) (h : s.Plain a 72)
    (hz : (Total.ofBytes (s.dev.read a 72)).zst ≠ 3) :
    ∃ t, s.answer touchMem (s.memAtomic aop a operand) = .next t ∧
      s.AtomicStores t a (addExactTotal (aopKind aop) (Total.ofBytes (s.dev.read a 72)) operand).toBytes (0, []) := by
  obtain ⟨t, ht, hstored⟩ := State.devAtomic_exact (who := whoOf 0x10) (operand := operand) hok hop hal h hz
  have hserve : s.memAtomic aop a operand = { (t.evtAdd .stk (a / 2 ^ 36) 4 1) with out.mem := some (0, []) } := by
    rw [State.memAtomic_plain (if_pos hop) (by decide) h, State.serveAtomic]
    simp [atomicReq, ht, hop]
  rw [hserve]
  exact hstored.answer_atomic _ _ _

/-- An atomic that is misaligned, or comes in near/far mode, is answered MEM_ATOMIC_FORMAT, and memory stays. -/
theorem answer_memAtomic_refused (hop : aopOp aop < 7) (ha : a < 2 ^ 40) (hfree : s.memWaits { addr := a, len := aopBytes aop } = false)
    (h : a % aopBytes aop ≠ 0 ∨ s.nearFar = true) :
    ∃ t, s.answer touchMem (s.memAtomic aop a operand) = .next t ∧ t.out.mem = some (0x3005, []) ∧ t.errSet .stk (a / 2 ^ 36) 5 ∧ t.dev = s.dev ∧
      t.mem = s.mem := by
  have hbad : aopAligned aop a = false ∨ s.nearFar = true := h.imp_left beq_eq_false_iff_ne.mpr
  have hserve : s.memAtomic aop a operand = { (s.atomicFormat (whoOf 0x10) aop a) with out.mem := some (0x3005, []) } := by
    have hat := State.devAtomic_refused (who := whoOf 0x10) (operand := operand) hbad
    rw [State.memAtomic_serves ha (by rw [if_neg (by omega)]; exact hfree), State.serveAtomic, if_neg (by omega)]
    simp only [atomicReq, hat]
    generalize s.atomicFormat (whoOf 0x10) aop a = u
    rfl
  have hposts := State.Posts.atomicFormat s (whoOf 0x10) aop a
  have herr := State.atomicFormat_errSet (s := s) (who := whoOf 0x10) (aop := aop) ha
  rw [hserve]
  exact ⟨_, rfl, rfl, herr, hposts.dev, hposts.mem⟩

end commands

/-! ### Each atomic -/

/-- The AOP of an integer atomic of 32 or 64 bits names it. -/
theorem aopOf_facts : ∀ op < 7, ∀ w ∈ [32, 64], aopOk (aopOf op w) = true ∧ aopOp (aopOf op w) = op ∧ aopBytes (aopOf op w) = w / 8 := by decide

/-- The AOP of an ADD_EXACT of a KIND. -/
theorem addExact_facts : ∀ fmt < 4, aopOk (8 + 32 * (fmt % 4)) = true ∧ aopOp (8 + 32 * (fmt % 4)) = 8 ∧ aopKind (8 + 32 * (fmt % 4)) = fmt := by decide

/-- A width in bits is that of its bytes. -/
theorem widths {w : Nat} (h : w ∈ [32, 64]) : 8 * (w / 8) = w ∧ 256 ^ (w / 8) = 2 ^ w ∧ w / 8 ≤ 8 := by
  revert h
  simp only [List.mem_cons, List.not_mem_nil, or_false]
  rintro (rfl | rfl) <;> decide

section each
variable {s : State} {a w op x y : Nat}

theorem answer_integer (hop : op < 7) (hw : w ∈ [32, 64]) (hal : a % (w / 8) = 0) (h : s.Plain a (w / 8)) (operand : List Byte) :
    let old := leNat (s.dev.read a (w / 8))
    ∃ t, s.answer touchMem (s.memAtomic (aopOf op w) a operand) = .next t ∧
      s.AtomicStores t a (leBytes (w / 8) (atomicResult op w old (field operand 0 (w / 8)) (field operand (w / 8) (w / 8))))
        (0, leBytes (w / 8) old) := by
  obtain ⟨hok, hop', hbytes⟩ := aopOf_facts op hop w hw
  have hall := answer_memAtomic_word (operand := operand) hok (by omega) (by omega) (hbytes ▸ hal) (hbytes ▸ h)
  simp only [hop', hbytes, (widths hw).1] at hall
  exact hall

/-- The operand of an atomic other than CAS, at the atomic's width. -/
theorem answer_binary (hop : op < 7) (hw : w ∈ [32, 64]) (hal : a % (w / 8) = 0) (h : s.Plain a (w / 8)) {new : Nat}
    (hnew : ∀ z, atomicResult op w (leNat (s.dev.read a (w / 8))) (x % 2 ^ w) z = new) :
    ∃ t, s.answer touchMem (s.memAtomic (aopOf op w) a (leBytes 8 x)) = .next t ∧
      s.AtomicStores t a (leBytes (w / 8) new) (0, leBytes (w / 8) (leNat (s.dev.read a (w / 8)))) := by
  obtain ⟨-, hpow, hle⟩ := widths hw
  have hall := answer_integer hop hw hal h (leBytes 8 x)
  rw [field_leBytes hle, hpow] at hall
  simp only [hnew] at hall
  exact hall

/-- CAS: the compare value and the new value, each at the atomic's width. -/
theorem answer_cas (hw : w ∈ [32, 64]) (hal : a % (w / 8) = 0) (h : s.Plain a (w / 8)) :
    let old := leNat (s.dev.read a (w / 8))
    ∃ t, s.answer touchMem (s.memAtomic (aopOf 6 w) a (leBytes (w / 8) x ++ leBytes (w / 8) y)) = .next t ∧
      s.AtomicStores t a (leBytes (w / 8) (if old = x % 2 ^ w then y % 2 ^ w else old)) (0, leBytes (w / 8) old) := by
  have hpow := (widths hw).2.1
  have hall := answer_integer (op := 6) (by decide) hw hal h (leBytes (w / 8) x ++ leBytes (w / 8) y)
  rw [field_append_first, field_append_second, hpow] at hall
  exact hall

/-- FADD outside strict mode. -/
theorem answer_fadd (hal : a % 4 = 0) (h : s.Plain a 4) (hstrict : s.strict = false) :
    ∃ t, s.answer touchMem (s.memAtomic 7 a (leBytes 4 x)) = .next t ∧
      s.AtomicStores t a (leBytes 4 (fadd 0xA 0 (leNat (s.dev.read a 4)) (x % 2 ^ 32))) (0, s.dev.read a 4) := by
  have hlen : (s.dev.read a 4).length = 4 := by rw [Mem.read, List.length_map, List.length_range]
  have hold : leBytes 4 (leNat (s.dev.read a 4)) = s.dev.read a 4 := by
    have := leBytes_leNat (s.dev.read a 4)
    rwa [hlen] at this
  have hall := answer_memAtomic_word (aop := 7) (operand := leBytes 4 x) (by decide) (by decide) (fun _ => hstrict) hal h
  have hbytes : aopBytes 7 = 4 := by decide
  simp only [hbytes, hold, field_leBytes (Nat.le_refl 4)] at hall
  exact hall

/-- FADD in strict mode is refused, and nothing else changes. -/
theorem answer_fadd_strict (hal : a % 4 = 0) (h : s.Plain a 4) (hstrict : s.strict = true) :
    s.answer touchMem (s.memAtomic 7 a (leBytes 4 x)) = .next { s with out := { s.out with mem := some (0x0842, []) } } := by
  have haligned : aopAligned 7 a = true := beq_iff_eq.mpr hal
  have hok : aopOk 7 = true := by decide
  have hop : aopOp 7 = 7 := by decide
  rw [State.memAtomic_plain (n := 4) (by decide) (by decide) h, State.serveAtomic, if_pos ⟨hop, hstrict, hok, haligned, by rw [h.1]; rfl⟩]
  rfl

end each

/-- Settles O30: an atomic within plain memory is served at once, and the LB4 stores its result; one that the LB4 refuses only answers. -/
theorem atomicsAtTheStack : Obligations.AtomicsAtTheStack := by
  intro s a x y
  refine ⟨fun w hw hal h => ?_, fun hal h hstrict => ?_, fun hal h hz fmt hfmt => ?_,
    fun hal h hstrict => answer_fadd_strict hal h hstrict, fun w hw ha hfree hbad c hc => ?_⟩
  · intro old v c new hc
    simp only [List.mem_cons, Prod.mk.injEq, List.not_mem_nil, or_false] at hc
    rcases hc with ⟨rfl, rfl⟩ | ⟨rfl, rfl⟩ | ⟨rfl, rfl⟩ | ⟨rfl, rfl⟩ | ⟨rfl, rfl⟩ | ⟨rfl, rfl⟩ | ⟨rfl, rfl⟩
    · exact answer_binary (op := 0) (by decide) hw hal h fun _ => rfl
    · exact answer_binary (op := 1) (by decide) hw hal h fun _ => rfl
    · exact answer_binary (op := 2) (by decide) hw hal h fun _ => rfl
    · exact answer_binary (op := 3) (by decide) hw hal h fun _ => rfl
    · exact answer_binary (op := 4) (by decide) hw hal h fun _ => rfl
    · exact answer_binary (op := 5) (by decide) hw hal h fun _ => rfl
    · exact answer_cas hw hal h
  · obtain ⟨t, ht, hdev, hout, honly⟩ := answer_fadd (x := x) hal h hstrict
    exact ⟨t, ht, hout, hdev, honly⟩
  · obtain ⟨hok, hop, hkind⟩ := addExact_facts fmt hfmt
    have hall := answer_memAtomic_exact (operand := leBytes 72 x) hok hop hal h hz
    rw [hkind] at hall
    obtain ⟨t, ht, hdev, hout, honly⟩ := hall
    exact ⟨t, ht, hout, hdev, honly⟩
  · have hrefused : ∀ op < 7, ∀ operand, ∃ t, s.answer touchMem (s.memAtomic (aopOf op w) a operand) = .next t ∧ t.out.mem = some (0x3005, []) ∧
        t.errSet .stk (a / 2 ^ 36) 5 ∧ t.dev = s.dev ∧ t.mem = s.mem := by
      intro op hop operand
      obtain ⟨-, hop', hbytes⟩ := aopOf_facts op hop w hw
      exact answer_memAtomic_refused (by omega) ha (hbytes ▸ hfree) (hbytes ▸ hbad)
    simp only [List.mem_cons, List.not_mem_nil, or_false] at hc
    rcases hc with rfl | rfl | rfl | rfl | rfl | rfl | rfl
    · exact hrefused 0 (by decide) _
    · exact hrefused 1 (by decide) _
    · exact hrefused 2 (by decide) _
    · exact hrefused 3 (by decide) _
    · exact hrefused 4 (by decide) _
    · exact hrefused 5 (by decide) _
    · exact hrefused 6 (by decide) _

/-! ### The host's ATOMIC -/

theorem exec_atomic_eq (s : State) : exec .atomic s = s.answer touchData s.atomicCmd := rfl

/-- An operand at the descriptor's operand bytes. -/
theorem WinEntry.operand_field (e : WinEntry) {i w : Nat} (h : i + w ≤ 16) : field (slice e.bytes 0x20 16) i w = e.op (0x20 + i) w := by
  rw [field, slice_within e.bytes h]
  rfl

theorem aopBytes_le {aop : Nat} (h : aopOp aop ≠ 8) : aopBytes aop ≤ 8 := by
  rw [aopBytes, if_neg h]
  split <;> decide

section hostAtomic
variable {s : State} {e : WinEntry} {rest : List WinEntry}

/-- A well-formed integer ATOMIC of plain memory, taken at the front of the window, is executed at the LB4 and ends with the old value. -/
theorem State.atomicCmd_word {old : Nat} {u : State} (h : s.Offers e rest) (hopc : e.opcode = 0x21) (hfmt : e.atomicOk = true) (hop : aopOp (e.op 0x10 1) ≤ 6)
    (hplain : s.Plain (e.op 0x18 8) (aopBytes (e.op 0x10 1)))
    (hat : ({ s with hif.window := rest } : State).devAtomic (whoOf 0x10 0 0 e.tag) (e.op 0x10 1) (e.op 0x18 8) (slice e.bytes 0x20 16) = (0, old, u)) :
    s.atomicCmd = u.finishEntry e 0 old := by
  have hfree : ({ s with hif.window := rest } : State).memWaits { addr := e.op 0x18 8, len := aopBytes (e.op 0x10 1) } = false :=
    State.Plain.served (m := { addr := e.op 0x18 8, len := aopBytes (e.op 0x10 1) }) hplain
  have h7 : (aopOp (e.op 0x10 1) == 7) = false := beq_eq_false_iff_ne.mpr (by omega)
  have h8 : (aopOp (e.op 0x10 1) == 8) = false := beq_eq_false_iff_ne.mpr (by omega)
  rw [State.atomicCmd, State.take_runs h.1 (by simp [hopc]) hfmt (by simp only [hfree, h8, Bool.and_false, Bool.false_and, Bool.or_false])]
  simp only [h7, h8, Bool.and_false, Bool.false_and, Bool.false_eq_true, if_false, ne_eq, not_true_eq_false, hat, if_true]

end hostAtomic

/-- Settles O15: the command at the front is taken, its atomic is the LB4's on the state behind it, and its completion has room there. -/
theorem atomicCommandStoresAndReturnsOld : Obligations.AtomicCommandStoresAndReturnsOld := by
  intro s e rest h hopc hfmt aop a w hok hop hal hplain old
  have h8 : aopOp aop ≠ 8 := by omega
  have hle := aopBytes_le h8
  obtain ⟨t, ht, heq, -⟩ := State.devAtomic_word (s := { s with hif.window := rest }) (who := whoOf 0x10 0 0 e.tag) (operand := slice e.bytes 0x20 16)
    hok h8 hal hplain
  rw [e.operand_field (i := 0) (by omega), e.operand_field (by omega)] at heq
  rw [exec_atomic_eq, State.atomicCmd_word h hopc hfmt hop hplain ht, heq]
  rw [State.finishEntry, State.finishIn_room _ _ _ (by exact h.2)]
  exact ⟨_, rfl, rfl, rfl, keep_onlyIn { hif := true, dev := true, mem := true, regs := true, free := true } s _⟩

end Sys2Proof.Machine
end

section
/-! PROOFS. Patrol scrub, retraining, a stack taken out of service, and self-refresh (R438, R441, R442, R444, R448). -/

namespace Sys2Proof.Machine

/-! ### Patrol scrub -/

section scrub
variable {s : State} {word : Nat}

/-- The stack of a word, by its number and by its address. -/
theorem word_stack (word : Nat) : 32 * word / 2 ^ 36 = word / 2 ^ 31 := by omega

theorem exec_hbmScrub_runs (hword : word < 2 ^ 35) (hclk : s.clockStopped (lb4Mux (word / 2 ^ 31)) = false) (outcome : Nat) :
    exec (.hbmScrub word outcome) s = .next (s.keep touchMem (s.hbmScrub word outcome)) := by
  have hrun := State.answer_running hclk touchMem (fun s => if 2 ^ 35 ≤ word then s else s.hbmScrub word outcome)
  rw [if_neg (by omega)] at hrun
  exact hrun

section inService
variable (hstate : (s.stack (word / 2 ^ 31)).state ≠ 3) (hbad : word ∉ (s.stack (word / 2 ^ 31)).bad)
include hstate hbad

theorem State.hbmScrub_sound : s.hbmScrub word 0 = s := by
  simp only [State.hbmScrub, word_stack]
  simp [hstate, hbad, -Nat.reducePow]

theorem State.hbmScrub_corrected : s.hbmScrub word 1 = s.memCe 0 3 (32 * word) := by
  simp only [State.hbmScrub, word_stack]
  simp [hstate, hbad, -Nat.reducePow]

theorem State.hbmScrub_uncorrectable : s.hbmScrub word 2 =
    (s.setStack (word / 2 ^ 31) { s.stack (word / 2 ^ 31) with bad := (s.stack (word / 2 ^ 31)).bad ++ [word] }).memUe 0 3 (32 * word) := by
  have hadd : addTo (s.stack (word / 2 ^ 31)).bad word = (s.stack (word / 2 ^ 31)).bad ++ [word] := by simp [addTo, hbad, -Nat.reducePow]
  simp only [State.hbmScrub, word_stack, hadd]
  simp [hstate, -Nat.reducePow]

end inService
end scrub

/-! ### Retraining -/

/-- A retrain may begin, on a stack in service or in self-refresh with none under way. -/
theorem State.retrainStart_eq {s : State} {n ch : Nat} (hidle : (s.stack n).retraining = false) (hstate : (s.stack n).state = 1 ∨ (s.stack n).state = 2) :
    s.retrainStart n ch = ((s.setStack n { s.stack n with retraining := true, retrainCh := ch }).raise .stk n 4 0
      (stackInfo (2 * ch) 0 (n * 2 ^ 36)) 0 0).evtAdd .stk n 2 1 := by
  have hgoes : ¬ ((s.stack n).retraining ∨ ((s.stack n).state ≠ 1 ∧ (s.stack n).state ≠ 2)) := by
    rw [hidle]
    rintro (h | h)
    · cases h
    · omega
  rw [State.retrainStart]
  exact if_neg hgoes

section start
variable {s : State} {n ch : Nat} (hidle : (s.stack n).retraining = false) (hstate : (s.stack n).state = 1 ∨ (s.stack n).state = 2)
include hidle hstate

theorem State.retrainStart_stack : (s.retrainStart n ch).stack n = { s.stack n with retraining := true, retrainCh := ch } := by
  rw [State.retrainStart_eq hidle hstate, State.stack, State.evtAdd_mem, State.raise_mem]
  exact State.stack_setStack _ _ _

theorem State.retrainStart_stack_other {m : Nat} (hm : m ≠ n) : (s.retrainStart n ch).stack m = s.stack m := by
  rw [State.retrainStart_eq hidle hstate, State.stack, State.evtAdd_mem, State.raise_mem]
  exact State.stack_setStack_other _ _ _ _ hm

theorem State.retrainStart_errSet : (s.retrainStart n ch).errSet .stk n 4 := by
  rw [State.retrainStart_eq hidle hstate]
  exact State.KeepsErrs.evtAdd _ _ _ _ _ (by decide) _ _ _ (State.raise_errSet _ _ _ _ _ _ _ _ (by decide))

omit hidle hstate in
theorem State.retrainStart_waiters : (s.retrainStart n ch).mem.queue = s.mem.queue ∧ (s.retrainStart n ch).rly = s.rly ∧
    (s.retrainStart n ch).sft = s.sft ∧ (s.retrainStart n ch).dev = s.dev := by
  unfold State.retrainStart
  dsimp only
  split <;> simp [State.setStack]

end start

/-! ### What waits for memory -/

theorem State.pumpRecs_none {s : State} {sf : Nat} (h : (s.sifter sf).recq = []) : s.pumpRecs sf = s := by
  rw [State.pumpRecs, State.flushRecs, h]

theorem State.pumpAllRecs_none {s : State} (h : ∀ sf, (s.sifter sf).recq = []) : s.pumpAllRecs = s := by
  rw [State.pumpAllRecs]
  generalize s.sft.units = l
  induction l with
  | nil => rfl
  | cons c l ih => rw [List.foldl_cons, State.pumpRecs_none (h c.1), ih]

/-- With nothing waiting for memory, nothing goes on. -/
theorem State.serveWaiting_none {s : State} (h : s.NoWaiters) : s.serveWaiting = s := by
  obtain ⟨hqueue, hreqs, hrecs⟩ := h
  have hsame : ({ s with mem.queue := [] } : State) = s := by rw [← hqueue]
  simp only [State.serveWaiting, hqueue, List.foldl_nil, hsame, hreqs, List.length_nil, State.serveReqs]
  exact State.pumpAllRecs_none hrecs

/-- What waits for memory is the same where the queue, the REQ server's requests and the Sifters are. -/
theorem State.NoWaiters.congr {s t : State} (h : s.NoWaiters) (hqueue : t.mem.queue = s.mem.queue) (hrly : t.rly = s.rly) (hsft : t.sft = s.sft) :
    t.NoWaiters := by
  obtain ⟨h1, h2, h3⟩ := h
  exact ⟨hqueue.trans h1, by rw [hrly]; exact h2, fun sf => by rw [State.sifter, hsft]; exact h3 sf⟩

/-! ### A stack taken out of service -/

/-- Dirty lines lost leave free values in memory, and change nothing else. -/
theorem State.freeLines_eq (s : State) (ls : List Nat) :
    ∃ d f, ls.foldl (fun s l => s.freeDev (128 * l) 128) s = { s with dev := d, free := f } := by
  induction ls generalizing s with
  | nil => exact ⟨_, _, rfl⟩
  | cons l ls ih =>
    obtain ⟨d, f, h⟩ := ih (s.freeDev (128 * l) 128)
    exact ⟨d, f, h⟩

/-- The stack as it goes out of service for a channel. -/
def Stack.offline (k : Stack) (ch : Nat) : Stack :=
  { k with state := 3, failed := true, failedCh := ch, dirty := [], retraining := false, held := false }

section offline
variable {s : State} {n ch : Nat}

/-- A stack going out of service: its cache is emptied, it is OFFLINE, and the error is recorded. -/
theorem State.stackOffline_eq (h : (s.stack n).state ≠ 3) : ∃ d f, s.stackOffline n ch =
    (((({ s with dev := d, free := f } : State).setStack n ((s.stack n).offline ch)).raise .stk n 7 0 (stackInfo (2 * ch) 0 (n * 2 ^ 36)) 0 0).sbAdd
      (0x0170 + n) 1).storeLost n := by
  obtain ⟨d, f, hlines⟩ := s.freeLines_eq (s.stack n).dirty
  refine ⟨d, f, ?_⟩
  rw [State.stackOffline, if_neg h]
  dsimp only
  rw [hlines]
  rfl

@[simp] theorem State.storeLost_mem (n : Nat) (s : State) : (s.storeLost n).mem = s.mem := by
  unfold State.storeLost
  split <;> simp

@[simp] theorem State.storeLost_rly (n : Nat) (s : State) : (s.storeLost n).rly = s.rly := by
  unfold State.storeLost
  split <;> simp

@[simp] theorem State.storeLost_sft (n : Nat) (s : State) : (s.storeLost n).sft = s.sft := by
  unfold State.storeLost
  split <;> simp

theorem State.KeepsErrs.storeLost (s : State) (n : Nat) : s.KeepsErrs (s.storeLost n) := by
  unfold State.storeLost
  split
  · exact .raise _ _ _ _ _ _ _ _
  · exact .of_regs rfl

/-- A register that no error touches stays as it was where a stack's regions are lost. -/
theorem State.storeLost_reg_off (s : State) (n : Nat) (p : Page) (i : Nat) {o : Nat} (h : o < 0x1000) (ho : o ∉ errOffs) :
    (s.storeLost n).reg p i o = s.reg p i o := by
  unfold State.storeLost
  split
  · exact State.raise_reg_off _ _ _ _ _ _ _ _ _ _ _ h ho
  · rfl

variable (h : (s.stack n).state ≠ 3)
include h

theorem State.stackOffline_mem : (s.stackOffline n ch).mem = (s.setStack n ((s.stack n).offline ch)).mem := by
  obtain ⟨d, f, heq⟩ := State.stackOffline_eq (ch := ch) h
  rw [heq, State.storeLost_mem, State.sbAdd_mem, State.raise_mem]
  rfl

theorem State.stackOffline_errSet : (s.stackOffline n ch).errSet .stk n 7 := by
  obtain ⟨d, f, heq⟩ := State.stackOffline_eq (ch := ch) h
  rw [heq]
  exact State.KeepsErrs.storeLost _ _ _ _ _ (State.KeepsErrs.sbAdd _ _ _ _ _ _ (State.raise_errSet _ _ _ _ _ _ _ _ (by decide)))

theorem State.stackOffline_waiters : (s.stackOffline n ch).rly = s.rly ∧ (s.stackOffline n ch).sft = s.sft := by
  obtain ⟨d, f, heq⟩ := State.stackOffline_eq (ch := ch) h
  rw [heq]
  constructor <;> simp

theorem State.stackOffline_retrainAsked : (s.stackOffline n ch).retrainAsked n = s.retrainAsked n := by
  obtain ⟨d, f, heq⟩ := State.stackOffline_eq (ch := ch) h
  have hreg : (s.stackOffline n ch).reg .stk n 0x108 = s.reg .stk n 0x108 := by
    rw [heq, State.storeLost_reg_off _ _ _ _ (by decide) (by decide), State.reg_congr _ _ _ _ _ (State.sbAdd_regs _ _ _),
      State.raise_reg_off _ _ _ _ _ _ _ _ _ _ _ (by decide) (by decide)]
    rfl
  unfold State.retrainAsked State.fld
  rw [hreg]

end offline

/-! ### A retrain that ends -/

section done
variable {s : State} {n : Nat}

/-- A stack whose retrain has ended, with its channel's count of consecutive failures. -/
def Stack.retrained (k : Stack) (fails : Nat) : Stack := { k with retraining := false, retrainFails := k.retrainFails.setNum k.retrainCh fails }

theorem exec_hbmRetrainDone_runs (hn : n < 16) (hclk : s.clockStopped (lb4Mux n) = false) (ok : Bool) :
    exec (.hbmRetrainDone n ok) s = .next (s.keep touchWaits (s.retrainDone n ok)) := by
  have hrun := State.answer_running hclk touchWaits (fun s => if 16 ≤ n then s else s.retrainDone n ok)
  rw [if_neg (by omega)] at hrun
  exact hrun

variable (hbusy : (s.stack n).retraining = true)
include hbusy

/-- A retrain that ends otherwise than with a third failure. -/
theorem State.retrainDone_goesOn {ok : Bool} {f : Nat} (hf : (if ok then 0 else (s.stack n).retrainFails.num (s.stack n).retrainCh + 1) = f) (h3 : f < 3) :
    s.retrainDone n ok = ((s.setStack n ((s.stack n).retrained f)).retrainNext n (s.stack n).retrainCh).serveWaiting := by
  subst hf
  rw [State.retrainDone, hbusy]
  simp only [Bool.not_true, Bool.false_eq_true, if_false, h3, if_true]
  rfl

/-- With none further asked for and nothing waiting, that is all. -/
theorem State.retrainDone_quiet {ok : Bool} {f : Nat} (hf : (if ok then 0 else (s.stack n).retrainFails.num (s.stack n).retrainCh + 1) = f) (h3 : f < 3)
    (hwait : s.NoWaiters) (hasked : s.retrainAsked n = none) : s.retrainDone n ok = s.setStack n ((s.stack n).retrained f) := by
  have hnext : (s.setStack n ((s.stack n).retrained f)).retrainNext n (s.stack n).retrainCh = s.setStack n ((s.stack n).retrained f) := by
    have hasked' : (s.setStack n ((s.stack n).retrained f)).retrainAsked n = none := hasked
    rw [State.retrainNext, hasked']
  rw [State.retrainDone_goesOn hbusy hf h3, hnext]
  exact State.serveWaiting_none (hwait.congr rfl rfl rfl)

/-- The third failure in a row takes the stack out of service. -/
theorem State.retrainDone_offline (h2 : 2 ≤ (s.stack n).retrainFails.num (s.stack n).retrainCh) (hstate : (s.stack n).state ≠ 3) (hwait : s.NoWaiters)
    (hasked : s.retrainAsked n = none) :
    s.retrainDone n false = (s.setStack n ((s.stack n).retrained ((s.stack n).retrainFails.num (s.stack n).retrainCh + 1))).stackOffline n
      (s.stack n).retrainCh := by
  generalize hf : (s.stack n).retrainFails.num (s.stack n).retrainCh + 1 = f at *
  have h3 : ¬ f < 3 := by omega
  generalize hu : s.setStack n ((s.stack n).retrained f) = u
  have hus : (u.stack n).state ≠ 3 := by
    rw [← hu, State.stack_setStack]
    exact hstate
  have hnext : (u.stackOffline n (s.stack n).retrainCh).retrainNext n (s.stack n).retrainCh = u.stackOffline n (s.stack n).retrainCh := by
    have hasked' : u.retrainAsked n = none := by rw [← hu]; exact hasked
    rw [State.retrainNext, State.stackOffline_retrainAsked hus, hasked']
  have hwait' : (u.stackOffline n (s.stack n).retrainCh).NoWaiters := by
    obtain ⟨hrly, hsft⟩ := State.stackOffline_waiters (ch := (s.stack n).retrainCh) hus
    refine hwait.congr ?_ (hrly.trans (hu ▸ rfl)) (hsft.trans (hu ▸ rfl))
    rw [State.stackOffline_mem hus, ← hu]
    rfl
  rw [← State.serveWaiting_none hwait', ← hnext, ← hu]
  rw [State.retrainDone, hbusy]
  simp only [Bool.not_true, Bool.false_eq_true, if_false, hf, h3]
  rfl

/-- A retrain of another channel that was asked for meanwhile begins. -/
theorem State.retrainDone_next {c : Nat} (hc : c ≠ (s.stack n).retrainCh) (hasked : s.retrainAsked n = some c) (hstate : (s.stack n).state = 1)
    (hwait : s.NoWaiters) : s.retrainDone n true = (s.setStack n ((s.stack n).retrained 0)).retrainStart n c := by
  generalize hu : s.setStack n ((s.stack n).retrained 0) = u
  have hus : u.stack n = (s.stack n).retrained 0 := by rw [← hu, State.stack_setStack]
  have hnext : u.retrainNext n (s.stack n).retrainCh = u.retrainStart n c := by
    have hasked' : u.retrainAsked n = some c := by rw [← hu]; exact hasked
    have hon : ¬ (c = (s.stack n).retrainCh ∨ (u.stack n).state = 3) := by
      rw [hus]
      exact not_or.mpr ⟨hc, by rw [Stack.retrained, hstate]; decide⟩
    rw [State.retrainNext, hasked']
    exact if_neg hon
  have hwait' : (u.retrainStart n c).NoWaiters := by
    obtain ⟨hqueue, hrly, hsft, -⟩ := State.retrainStart_waiters (s := u) (n := n) (ch := c)
    exact hwait.congr (hqueue.trans (hu ▸ rfl)) (hrly.trans (hu ▸ rfl)) (hsft.trans (hu ▸ rfl))
  rw [State.retrainDone_goesOn hbusy (f := 0) rfl (by decide), hu, hnext]
  exact State.serveWaiting_none hwait'

end done

/-! ### Self-refresh -/

theorem State.selfRefresh_enters {s : State} {n : Nat} (hon : s.fld .mctl 0 0x100 1 1 = 1) (hstate : (s.stack n).state = 1)
    (hidle : (s.stack n).retraining = false) (hheld : (s.stack n).held = false) :
    s.selfRefresh n = s.setStack n { s.stack n with state := 2, dirty := [] } := by
  simp [State.selfRefresh, hon, hstate, hidle, hheld]

theorem exec_selfRefreshEntry_runs {s : State} {n : Nat} (hn : n < 16) (hclk : s.clockStopped (lb4Mux n) = false) :
    exec (.selfRefreshEntry n) s = .next (s.keep { mem := true } (s.selfRefresh n)) := by
  have hrun := State.answer_running hclk { mem := true } (fun s => if 16 ≤ n then s else s.selfRefresh n)
  rw [if_neg (by omega)] at hrun
  exact hrun

theorem exec_hbmRetrainStart_runs {s : State} {n ch : Nat} (hn : n < 16) (hch : ch < 32) (hclk : s.clockStopped (lb4Mux n) = false) :
    exec (.hbmRetrainStart n ch) s = .next (s.keep touchMem (s.retrainStart n ch)) := by
  have hrun := State.answer_running hclk touchMem (fun s => if 16 ≤ n ∨ 32 ≤ ch then s else s.retrainStart n ch)
  rw [if_neg (by omega)] at hrun
  exact hrun

/-! ### The statement -/

section
variable {s : State}

theorem scrub_clause (word : Nat) (hword : word < 2 ^ 35) (hclk : s.clockStopped (lb4Mux (word / 2 ^ 31)) = false)
    (hstate : (s.stack (word / 2 ^ 31)).state ≠ 3) (hbad : word ∉ (s.stack (word / 2 ^ 31)).bad) :
    exec (.hbmScrub word 0) s = .next s ∧
    (∃ t, exec (.hbmScrub word 1) s = .next t ∧ t.errSet .stk (word / 2 ^ 31) 2 ∧ t.mem = s.mem ∧ t.dev = s.dev ∧ OnlyIn touchMem s t) ∧
    (∃ t, exec (.hbmScrub word 2) s = .next t ∧ t.errSet .stk (word / 2 ^ 31) 3 ∧
      t.stack (word / 2 ^ 31) = { s.stack (word / 2 ^ 31) with bad := (s.stack (word / 2 ^ 31)).bad ++ [word] } ∧ t.dev = s.dev ∧
      OnlyIn touchMem s t) := by
  refine ⟨?_, ?_, ?_⟩
  · rw [exec_hbmScrub_runs hword hclk, State.hbmScrub_sound hstate hbad]
    rfl
  · have hposts := State.Posts.memCe s 0 3 (32 * word)
    have herr := State.memCe_errSet s 0 3 (32 * word)
    rw [word_stack] at herr
    rw [exec_hbmScrub_runs hword hclk, State.hbmScrub_corrected hstate hbad]
    exact ⟨_, rfl, herr, hposts.mem, hposts.dev, keep_onlyIn _ _ _⟩
  · rw [exec_hbmScrub_runs hword hclk, State.hbmScrub_uncorrectable hstate hbad]
    generalize hu : s.setStack (word / 2 ^ 31) { s.stack (word / 2 ^ 31) with bad := (s.stack (word / 2 ^ 31)).bad ++ [word] } = u
    have hposts := State.Posts.memUe u 0 3 (32 * word)
    have herr := State.memUe_errSet u 0 3 (32 * word)
    rw [word_stack] at herr
    refine ⟨_, rfl, herr, ?_, hposts.dev.trans (hu ▸ rfl), keep_onlyIn _ _ _⟩
    show (u.memUe 0 3 (32 * word)).stack (word / 2 ^ 31) = _
    rw [State.stack, hposts.mem, ← hu]
    exact State.stack_setStack _ _ _

end

/-- Settles O31: each event is what its operation says on a stack whose clock runs; where nothing waits for memory, nothing goes on after a
retrain. -/
theorem scrubRetrainAndSelfRefresh : Obligations.ScrubRetrainAndSelfRefresh := by
  refine ⟨fun s word hword hclk hstate hbad => scrub_clause word hword hclk hstate hbad, fun s n ch hn hch hclk hidle hstate => ?_,
    fun s n hn hclk hwait hbusy => ?_, fun s n hn hclk hon hstate hidle hheld => ?_⟩
  · rw [exec_hbmRetrainStart_runs hn hch hclk]
    exact ⟨_, rfl, State.retrainStart_stack hidle hstate, State.retrainStart_errSet hidle hstate,
      fun m hm => State.retrainStart_stack_other hidle hstate hm, State.retrainStart_waiters.2.2.2⟩
  · intro k f
    refine ⟨fun hasked => ⟨?_, fun h2 => ?_, fun h2 hstate => ?_⟩, fun c hc hasked hstate => ?_⟩
    · rw [exec_hbmRetrainDone_runs hn hclk, State.retrainDone_quiet hbusy (f := 0) rfl (by decide) hwait hasked]
      rfl
    · rw [exec_hbmRetrainDone_runs hn hclk, State.retrainDone_quiet hbusy (f := f + 1) rfl (by omega) hwait hasked]
      rfl
    · rw [exec_hbmRetrainDone_runs hn hclk, State.retrainDone_offline hbusy h2 hstate hwait hasked]
      generalize hu : s.setStack n ((s.stack n).retrained ((s.stack n).retrainFails.num (s.stack n).retrainCh + 1)) = u
      have hus : u.stack n = k.retrained (f + 1) := by rw [← hu, State.stack_setStack]
      have hon : (u.stack n).state ≠ 3 := by rw [hus]; exact hstate
      have hmem : ∀ m, (s.keep touchWaits (u.stackOffline n (s.stack n).retrainCh)).stack m =
          (u.setStack n ((u.stack n).offline (s.stack n).retrainCh)).stack m := fun m => by
        show (u.stackOffline n (s.stack n).retrainCh).stack m = _
        rw [State.stack, State.stackOffline_mem hon]
        rfl
      refine ⟨_, rfl, ?_, State.stackOffline_errSet hon, fun m hm => ?_⟩
      · rw [hmem, State.stack_setStack, hus]
        rfl
      · rw [hmem, State.stack_setStack_other _ _ _ _ hm, ← hu, State.stack_setStack_other _ _ _ _ hm]
    · rw [exec_hbmRetrainDone_runs hn hclk, State.retrainDone_next hbusy hc hasked hstate hwait]
      generalize hu : s.setStack n ((s.stack n).retrained 0) = u
      have hus : u.stack n = k.retrained 0 := by rw [← hu, State.stack_setStack]
      have hstack : (s.keep touchWaits (u.retrainStart n c)).stack n = { k.retrained 0 with retraining := true, retrainCh := c } := by
        show (u.retrainStart n c).stack n = _
        rw [State.retrainStart_stack (by rw [hus]; rfl) (.inl (by rw [hus]; exact hstate)), hus]
      refine ⟨_, rfl, ?_, ?_, ?_⟩ <;> rw [hstack]
      exact Sparse.get_set_same ..
  · rw [exec_selfRefreshEntry_runs hn hclk, State.selfRefresh_enters hon hstate hidle hheld]
    rfl

end Sys2Proof.Machine
end

section
/-! PROOFS. The memory's mode, retraining on request, and the clock multiplexers' registers (R425, R441, R448, R527, R535). -/

namespace Sys2Proof.Machine

/-- A field of a register just stored. -/
theorem State.fld_setReg (s : State) {p : Page} {i : Nat} (hi : i < p.count) (off v : Nat) {high low : Nat} (hle : low ≤ high) (h64 : high < 64) :
    (s.setReg p i off v).fld p i off high low = bits v high low := by
  rw [State.fld, State.reg_setReg_mod _ _ _ _ _ hi, bits_mod_word _ _ _ hle h64]

/-! ### MEM_MODE -/

/-- The fields of MEM_MODE: self-refresh allowed, and near/far. -/
def memModeReg : RegDesc := ⟨0x100, 1, 0, [⟨1, 1, .rw, 0⟩, ⟨0, 0, .rw, 1⟩]⟩

section mode
variable {s : State} {data old new : Nat}

/-- A write of MEM_MODE has the fields written and no other effect than `State.modeWritten`. -/
theorem State.pageWrite_mode (hs : s.Serves .mctl 0) : ∃ v, bits v 1 1 = bits data 1 1 ∧ bits v 0 0 = bits data 0 0 ∧
    s.pageWrite .mctl 0 0x100 data = s.modeWritten (s.reg .mctl 0 0x100) v := by
  obtain ⟨v, hv, hw⟩ := State.pageWrite_legal (r := memModeReg) (k := 0) (off := 0x100) data hs (by decide) (by decide) (by decide)
    (s.reg_lt _ _ _ hs.lt_count) (fun _ => rfl) (fun _ _ _ => rfl)
  simp only [memModeReg, List.forall_mem_cons, true_imp_iff] at hv
  obtain ⟨hsr, hnf, -⟩ := hv
  exact ⟨v, hsr, hnf, hw⟩

/-- The cells of the stacks with their lists of dirty lines emptied. -/
def cleanedUnits (l : Sparse Stack) : Sparse Stack := (l.map (fun c => (c.1, { c.2 with dirty := [] }))).filter (fun c => decide (c.2 ≠ {}))

theorem cleanedUnits_dirty {l : Sparse Stack} {c : Nat × Stack} (h : c ∈ cleanedUnits l) : c.2.dirty = [] := by
  obtain ⟨d, -, rfl⟩ := List.mem_map.mp (List.mem_filter.mp h).1
  rfl

/-- A change of NF that its conditions allow is stored, and the caches are emptied. -/
theorem State.modeWritten_allowed (h : bits new 0 0 ≠ bits old 0 0) (hmay : s.nfMayChange = true) :
    s.modeWritten old new = { s.setReg .mctl 0 0x100 new with mem.units := cleanedUnits s.mem.units } := by
  have hchange : ¬ bit old 0 = bit new 0 := fun heq => h heq.symm
  rw [State.modeWritten, if_neg hchange, if_pos hmay]
  rfl

/-- One that they do not is refused, and NF stays. -/
theorem State.modeWritten_refused (h : bits new 0 0 ≠ bits old 0 0) (hmay : s.nfMayChange = false) :
    s.modeWritten old new = (s.setReg .mctl 0 0x100 (setBits new 0 0 (bit old 0))).refuse .mctl 0 0x100 := by
  have hchange : ¬ bit old 0 = bit new 0 := fun heq => h heq.symm
  rw [State.modeWritten, if_neg hchange, hmay]
  rfl

/-- What MEM_MODE's write and MEM_MAINT's may change. -/
def touchMode : Touch := { touchTake with mem := true }

theorem exec_memModeWrite_eq (data : Nat) (s : State) : exec (.memModeWrite data) s = s.answer touchMode (s.pageWrite .mctl 0 0x100 data) := rfl

theorem exec_memModeWrite_allowed (hs : s.Serves .mctl 0) (h : bits data 0 0 ≠ s.fld .mctl 0 0x100 0 0) (hmay : s.nfMayChange = true) :
    ∃ t, exec (.memModeWrite data) s = .next t ∧ t.fld .mctl 0 0x100 0 0 = bits data 0 0 ∧ t.fld .mctl 0 0x100 1 1 = bits data 1 1 ∧
      (∀ c ∈ t.mem.units, c.2.dirty = []) ∧ OnlyIn { mem := true, regs := true } s t := by
  obtain ⟨v, hsr, hnf, hw⟩ := State.pageWrite_mode (data := data) hs
  have hstored := fun {high low : Nat} => s.fld_setReg (p := .mctl) (i := 0) (by decide) 0x100 v (high := high) (low := low)
  rw [exec_memModeWrite_eq, hw, State.modeWritten_allowed (by rw [hnf]; exact h) hmay]
  exact ⟨_, rfl, (hstored (by decide) (by decide)).trans hnf, (hstored (by decide) (by decide)).trans hsr, fun c hc => cleanedUnits_dirty hc,
    keep_onlyIn { mem := true, regs := true } s _⟩

theorem exec_memModeWrite_refused (hs : s.Serves .mctl 0) (h : bits data 0 0 ≠ s.fld .mctl 0 0x100 0 0) (hmay : s.nfMayChange = false) :
    ∃ t, exec (.memModeWrite data) s = .next t ∧ t.fld .mctl 0 0x100 0 0 = s.fld .mctl 0 0x100 0 0 ∧ t.mem = s.mem ∧ t.errSet .mctl 0 1 := by
  obtain ⟨v, -, hnf, hw⟩ := State.pageWrite_mode (data := data) hs
  rw [exec_memModeWrite_eq, hw, State.modeWritten_refused (by rw [hnf]; exact h) hmay]
  obtain ⟨hreg, herr⟩ := s.refuse_stored (p := .mctl) (i := 0) (off := 0x100) (v := setBits v 0 0 (bit (s.reg .mctl 0 0x100) 0)) (by decide) (by decide)
    (by decide) (by decide)
  refine ⟨_, rfl, ?_, State.raise_mem .., herr⟩
  show bits (((s.setReg .mctl 0 0x100 (setBits v 0 0 (bit (s.reg .mctl 0 0x100) 0))).refuse .mctl 0 0x100).reg .mctl 0 0x100) 0 0 = _
  rw [hreg, bits_mod_word _ _ _ (by decide) (by decide), bits_setBits _ _ _ _ (by decide)]
  exact Nat.mod_mod _ 2

end mode

/-! ### MEM_MAINT -/

/-- The fields of MEM_MAINT: RETRAIN, CH and the scrub's period. -/
def memMaintReg : RegDesc := ⟨0x108, 1, 0, [⟨32, 32, .w1s, 0⟩, ⟨31, 27, .rw, 0⟩, ⟨15, 0, .rw, 24⟩]⟩

section maint
variable {s : State} {n data : Nat}

/-- A write of MEM_MAINT with a legal period has CH as written and no other effect than `State.maintWritten`. -/
theorem State.pageWrite_maint (hs : s.Serves .stk n) (hperiod : bits data 15 0 ≠ 0) : ∃ v, bits v 31 27 = bits data 31 27 ∧
    s.pageWrite .stk n 0x108 data = s.maintWritten n v (data % 2 ^ 64) := by
  obtain ⟨v, hv, hw⟩ := State.pageWrite_legal (r := memMaintReg) (k := 0) (off := 0x108) data hs (by decide) (by decide) (by decide)
    (s.reg_lt _ _ _ hs.lt_count) (fun _ => rfl) (by
      simp only [memMaintReg, List.forall_mem_cons]
      simp [State.reserved, hperiod])
  simp only [memMaintReg, List.forall_mem_cons, true_imp_iff] at hv
  obtain ⟨-, hch, -⟩ := hv
  exact ⟨v, hch, hw⟩

/-- RETRAIN of a stack that is ONLINE is stored, and a retrain of the channel written is asked for. -/
theorem State.maintWritten_starts {v : Nat} (hset : data.testBit 32 = true) (hstate : (s.stack n).state = 1) :
    s.maintWritten n v (data % 2 ^ 64) = (s.setReg .stk n 0x108 (setBit v 32)).retrainStart n (bits v 31 27) := by
  have hbit : bitOn (data % 2 ^ 64) 32 = true := by
    rw [bitOn, Nat.testBit_mod_two_pow]
    exact Bool.and_eq_true_iff.mpr ⟨by decide, hset⟩
  simp [State.maintWritten, hbit, hstate, -Nat.reducePow]

theorem exec_memMaintRetrain_eq (n data : Nat) (s : State) :
    exec (.memMaintRetrain n data) s = s.answer touchMode (s.pageWrite .stk n 0x108 data) := rfl

theorem exec_memMaintRetrain_starts (hs : s.Serves .stk n) (hset : data.testBit 32 = true) (hperiod : bits data 15 0 ≠ 0) (hstate : (s.stack n).state = 1)
    (hidle : (s.stack n).retraining = false) :
    ∃ t, exec (.memMaintRetrain n data) s = .next t ∧ t.stack n = { s.stack n with retraining := true, retrainCh := bits data 31 27 } ∧
      t.errSet .stk n 4 ∧ ∀ m, m ≠ n → t.stack m = s.stack m := by
  obtain ⟨v, hch, hw⟩ := State.pageWrite_maint hs hperiod
  generalize hu : s.setReg .stk n 0x108 (setBit v 32) = u
  have hstack : u.stack = s.stack := by rw [← hu]; rfl
  have hidle' : (u.stack n).retraining = false := by rw [hstack]; exact hidle
  have hstate' : (u.stack n).state = 1 := by rw [hstack]; exact hstate
  rw [exec_memMaintRetrain_eq, hw, State.maintWritten_starts hset hstate, hch, hu, ← hstack]
  exact ⟨_, rfl, State.retrainStart_stack hidle' (.inl hstate'), State.retrainStart_errSet hidle' (.inl hstate'),
    fun m hm => State.retrainStart_stack_other hidle' (.inl hstate') hm⟩

end maint

/-! ### CLK_MUX -/

/-- The fields of a CLK_MUX: STUCK, PENDING and SRC. -/
def clkMuxReg : RegDesc := ⟨0x400, 25, 8, [⟨3, 3, .ro, 0⟩, ⟨2, 2, .ro, 0⟩, ⟨1, 0, .rw, 2⟩]⟩

theorem findReg_clkMux {m : Nat} (h : m < 25) : findReg .clk (0x400 + 8 * m) = some (clkMuxReg, m) := by
  revert h
  revert m
  decide

section mux
variable {s : State} {m data : Nat}

/-- A write of a multiplexer's register has no other effect than `State.muxWrite` of the source written. -/
theorem State.pageWrite_mux (hs : s.Serves .clk 0) (hm : m < 25) : s.pageWrite .clk 0 (0x400 + 8 * m) data = s.muxWrite m (bits data 1 0) := by
  have hprog : s.programmed .clk 0 (0x400 + 8 * m) = s.viewClk (0x400 + 8 * m) % 2 ^ 64 := by
    rw [State.programmed]
    exact if_pos (by omega)
  obtain ⟨v, hv, hw⟩ := State.pageWrite_legal (r := clkMuxReg) (k := m) (off := 0x400 + 8 * m) data hs (by omega) (by omega) (findReg_clkMux hm)
    (hprog ▸ Nat.mod_lt _ (by decide)) (fun _ => rfl) (fun f _ _ => by
      simp (disch := omega) only [State.reserved, if_neg])
  simp only [clkMuxReg, List.forall_mem_cons, true_imp_iff] at hv
  obtain ⟨-, -, hsrc, -⟩ := hv
  have hindex : (0x400 + 8 * m - 0x400) / 8 = m := by omega
  have hcovered : ¬ bits (2 ^ 64 - 1) 1 0 = 0 := by decide
  rw [hw]
  simp (disch := omega) only [State.applyReg, State.applyClk, if_neg, if_pos, hindex, hcovered, hsrc, if_false]

/-- What a multiplexer's write may change. -/
def touchMux : Touch := { touchTake with clk := true }

theorem exec_clkMuxWrite_eq (hs : s.Serves .clk 0) (hm : m < 25) : exec (.clkMuxWrite m data) s = s.answer touchMux (s.muxWrite m (bits data 1 0)) := by
  show s.answer touchMux (if m < 25 then s.pageWrite .clk 0 (0x400 + 8 * m) data else s) = _
  rw [if_pos hm, State.pageWrite_mux hs hm]

/-- A reserved source sets REG_WRITE. -/
theorem exec_clkMuxWrite_reserved (hs : s.Serves .clk 0) (hm : m < 25) (h : bits data 1 0 = 3 ∨ (bits data 1 0 = 2 ∧ m ≠ 0)) :
    ∃ t, exec (.clkMuxWrite m data) s = .next t ∧ t.mux m = s.mux m ∧ t.errSet .clk 0 0 := by
  rw [exec_clkMuxWrite_eq hs hm, State.muxWrite, if_pos h]
  refine ⟨_, rfl, ?_, State.raise_errSet _ _ _ _ _ _ _ _ (by decide)⟩
  exact congrArg (fun c : Clk => Sparse.get {} c.muxes m) (State.raise0_clk ..)

/-- A switch asked for while one is pending is refused. -/
theorem exec_clkMuxWrite_pending (hs : s.Serves .clk 0) (hm : m < 25) (h : ¬ (bits data 1 0 = 3 ∨ (bits data 1 0 = 2 ∧ m ≠ 0)))
    (hpend : (s.mux m).pending = true) : ∃ t, exec (.clkMuxWrite m data) s = .next t ∧ t.mux m = s.mux m ∧ t.errSet .clk 0 1 := by
  rw [exec_clkMuxWrite_eq hs hm, State.muxWrite, if_neg h, if_pos (.inl hpend)]
  refine ⟨_, rfl, ?_, State.raise_errSet _ _ _ _ _ _ _ _ (by decide)⟩
  exact congrArg (fun c : Clk => Sparse.get {} c.muxes m) (State.raise_clk ..)

/-- A switch that may begin becomes pending. -/
theorem exec_clkMuxWrite_begins (hs : s.Serves .clk 0) (hm : m < 25) (h : ¬ (bits data 1 0 = 3 ∨ (bits data 1 0 = 2 ∧ m ≠ 0)))
    (hpend : (s.mux m).pending = false) (hlock : bits data 1 0 = 1 → (s.pll (muxPll m)).locked = true) :
    exec (.clkMuxWrite m data) s = .next (s.setMux m { s.mux m with src := bits data 1 0, pending := true, old := (s.mux m).src }) := by
  have hgoes : ¬ ((s.mux m).pending ∨ (bits data 1 0 = 1 ∧ !(s.pll (muxPll m)).locked)) := by
    rw [hpend]
    rintro (h | ⟨hsrc, hun⟩)
    · cases h
    · simp [hlock hsrc] at hun
  rw [exec_clkMuxWrite_eq hs hm, State.muxWrite, if_neg h, if_neg hgoes]
  rfl

end mux

/-- Settles O27: each register's write is its own action, on the fields as written. -/
theorem memoryModeRetrainAndClockRegisters : Obligations.MemoryModeRetrainAndClockRegisters := by
  refine ⟨fun s data hs _ => ⟨fun h hmay => exec_memModeWrite_allowed hs h hmay, fun h hmay => exec_memModeWrite_refused hs h hmay⟩,
    fun s n data hs _ hset hperiod hstate hidle => exec_memMaintRetrain_starts hs hset hperiod hstate hidle, fun s m data hs hm _ => ?_⟩
  intro src
  exact ⟨fun h => exec_clkMuxWrite_reserved hs hm h, fun h hpend => exec_clkMuxWrite_pending hs hm h hpend,
    fun h hpend hlock => exec_clkMuxWrite_begins hs hm h hpend hlock⟩

end Sys2Proof.Machine
end

section
/-! PROOFS. Audit descriptors (R433, R463 to R468): how one begins and what its end writes. -/

namespace Sys2Proof.Machine

/-! ### The fence of a block whose store is uncorrectable -/

/-- A block in service that is fenced on its own is on record as fenced, and no collective changes. -/
theorem State.fenceFor_onRecord {s : State} {p : Nat} (code : Nat) (o : FlightOp) (under : Option FlightOp) (detail aux : Nat)
    (hin : s.inService p = true) (hf : s.fencedBlock p = false) :
    (s.fenceFor p code o under detail aux).fence.blocks.testBit p = true ∧ (s.fenceFor p code o under detail aux).coll = s.coll := by
  have hrecorded : ∀ (st : Nat) (w : FlightOp) (t : State), s.Steady t →
      (t.fenceBlock p st w).fence.blocks.testBit p = true ∧ (t.fenceBlock p st w).coll = s.coll := by
    intro st w t ht
    have heffects := State.Steady.fenceEffects (t.fenced p) p st w
    rw [t.fenceBlock_eq p st w ((ht.inService p).trans hin) ((ht.fencedBlock p).trans hf)]
    refine ⟨?_, heffects.coll.trans ht.coll⟩
    rw [heffects.fence, State.fenced, setBit, Nat.testBit_or, Nat.testBit_two_pow_self, Bool.or_true]
  unfold State.fenceFor
  rw [hin, hf, if_neg (by decide)]
  dsimp only
  split
  · split
    · exact hrecorded _ _ _ ((State.Records.raise s _ _ _ _ _ _ _).trans (.traceRec _ _ _ _ _ _ _ _ _ _)).steady
    · exact hrecorded _ _ _ (State.Records.raise s _ _ _ _ _ _ _).steady
  · exact hrecorded _ _ _ (State.Records.raise s _ _ _ _ _ _ _).steady

/-! ### The reading of a descriptor -/

/-- The read of a descriptor: a correction is on record. -/
def State.audRead (p : Nat) (reads : StoreRead) (s : State) : State :=
  if reads = .corrected then s.storeCorrected p (s.block p).lastWord else s

theorem State.Posts.storeCorrected (s : State) (p : Nat) (o : FlightOp) : s.Posts (s.storeCorrected p o) := by
  unfold State.storeCorrected
  split
  · exact .of_parts rfl rfl
  · dsimp only
    split
    · exact (State.Posts.sbAdd s _ _).trans (.raise _ _ _ _ _ _ _ _)
    · exact .sbAdd s _ _

@[simp] theorem State.storeCorrected_pnt (s : State) (p : Nat) (o : FlightOp) : (s.storeCorrected p o).pnt = s.pnt := by
  unfold State.storeCorrected
  split
  · rfl
  · dsimp only
    split <;> simp

@[simp] theorem State.storeCorrected_coll (s : State) (p : Nat) (o : FlightOp) : (s.storeCorrected p o).coll = s.coll := by
  unfold State.storeCorrected
  split
  · rfl
  · dsimp only
    split <;> simp

theorem State.audRead_coll (s : State) (p : Nat) (reads : StoreRead) : (s.audRead p reads).coll = s.coll := by
  unfold State.audRead
  split
  · simp
  · rfl

theorem State.Posts.audRead (s : State) (p : Nat) (reads : StoreRead) : s.Posts (s.audRead p reads) := by
  unfold State.audRead
  split
  · exact .storeCorrected s _ _
  · exact .of_parts rfl rfl

theorem State.audRead_pnt (s : State) (p : Nat) (reads : StoreRead) : (s.audRead p reads).pnt = s.pnt := by
  unfold State.audRead
  split
  · simp
  · rfl

section posts
variable {s t : State} (h : s.Posts t)
include h

theorem State.Posts.block (p : Nat) : t.block p = s.block p := (congrArg (fun u : State => u.block p) h.parts :)
theorem State.Posts.jnl : t.jnl = s.jnl := (congrArg State.jnl h.parts :)
theorem State.Posts.time : t.time = s.time := (congrArg State.time h.parts :)

theorem State.Posts.audFormatOk (d : AudDesc) : t.audFormatOk d = s.audFormatOk d := (congrArg (fun u : State => u.audFormatOk d) h.parts :)

theorem State.Posts.blockDigest (p : Nat) (d : AudDesc) (indig : List Byte) : t.blockDigest p d indig = s.blockDigest p d indig :=
  (congrArg (fun u : State => u.blockDigest p d indig) h.parts :)

theorem State.Posts.nearFar : t.nearFar = s.nearFar := by
  rw [State.nearFar, State.nearFar, State.fld, State.fld, h.settings .mctl 0 0x100 (by decide) (by decide)]

theorem State.Posts.devBusy (a n : Nat) : t.devBusy a n = s.devBusy a n := by
  have hpieces : t.devPieces a n = s.devPieces a n := by rw [State.devPieces, State.devPieces, h.nearFar]
  have hstack : t.stack = s.stack := funext fun i => by rw [State.stack, h.mem]; rfl
  have hclock : t.clockStopped = s.clockStopped := funext fun m => by rw [State.clockStopped, State.mux, h.clk]; rfl
  rw [State.devBusy, State.devBusy, hpieces, hstack, hclock]

theorem State.Posts.audWaits (js : List Nat) : t.audWaits js = s.audWaits js := by
  rw [State.audWaits, State.audWaits, h.jnl]
  simp only [h.devBusy]

end posts

/-! ### The beginning of a descriptor -/

/-- A descriptor in flight: its index, the code it will end with and its digests. -/
def Queue.begun (q : Queue) (st : Nat) (indig digest : List Byte) (now : Nat) : Queue :=
  { q with started := q.started + 1, flight := [(q.started, st)], accepted := false, indig, digest, since := now }

/-- A descriptor begins in block `p`, whose audit unit stood as `q`. -/
def State.audBegun (p : Nat) (q : Queue) (st : Nat) (indig digest : List Byte) (s : State) : State :=
  s.onBlock p (fun b => { b with aud := { b.aud with
    started := q.started + 1, flight := [(q.started, st)], accepted := false, indig := indig, digest := digest, since := s.time.now } })

/-- An audit unit may start its next descriptor (R463). -/
structure State.AuditStarts (s : State) (p : Nat) : Prop where
  rings : s.ringsRun = true
  on : (s.block p).aud.en = true
  goes : (s.block p).aud.halted = false
  alive : s.fencedBlock p = false
  free : (s.block p).aud.flight = []
  due : (s.block p).aud.started + 1 ≤ ((s.block p).cnt (s.block p).aud.post).value

section start
variable {s : State} {p : Nat}

theorem State.AuditStarts.guard (h : s.AuditStarts p) : (!s.ringsRun || !(s.block p).aud.en || (s.block p).aud.halted || s.fencedBlock p ||
    !(s.block p).aud.flight.isEmpty || decide (((s.block p).cnt (s.block p).aud.post).value < (s.block p).aud.started + 1)) = false := by
  have hdue := h.due
  simp only [h.rings, h.on, h.goes, h.alive, h.free, List.isEmpty_nil, Bool.not_true, Bool.or_self, Bool.false_or, decide_eq_false_iff_not]
  omega

theorem State.audStart_uncorrectable (h : s.AuditStarts p) :
    s.audStart p .uncorrectable = s.fenceFor p eStoreUe (s.block p).lastWord none 0 0 := by
  rw [State.audStart]
  dsimp only
  rw [h.guard]
  rfl

/-- What a descriptor that is read begins with. -/
theorem State.audStart_reads (h : s.AuditStarts p) {reads : StoreRead} (hr : reads ≠ .uncorrectable) :
    let q := (s.block p).aud
    let d := (s.block p).audDesc q.started
    let u := s.audRead p reads
    s.audStart p reads =
      if !u.audFormatOk d then u.audBegun p q 0x83 [] []
      else if u.audWaits ((s.block p).audInputs d) then s
      else match u.ingressDigests ((s.block p).audInputs d) with
        | (0x01, bs, t) => t.audBegun p q 0x01 (inputDigest d.inCount bs) (t.blockDigest p d (inputDigest d.inCount bs))
        | (st, _, t) => t.audBegun p q st [] [] := by
  intro q d u
  rw [State.audStart]
  dsimp only
  rw [h.guard, if_neg Bool.false_ne_true, if_neg hr]
  rfl

/-- The ingress digests of entries held, each in plain memory, are read in order. -/
theorem State.ingressDigests_held (js : List Nat)
    (h : ∀ j ∈ js, ∃ e, s.jnl.entries.find? (fun e => e.jseq == j) = some e ∧ s.Plain (e.addr + 0x40) 32) :
    s.ingressDigests js = (0x01, js.flatMap (fun j => match s.jnl.entries.find? (fun e => e.jseq == j) with
      | some e => s.dev.read (e.addr + 0x40) 32
      | none => []), s) := by
  induction js with
  | nil => rfl
  | cons j js ih =>
    obtain ⟨e, he, hplain⟩ := h j List.mem_cons_self
    rw [State.ingressDigests, he, List.flatMap_cons, he]
    dsimp only
    simp only [devRead_plain s _ _ _ hplain, ih fun i hi => h i (List.mem_cons_of_mem _ hi)]

/-- The first entry named is none that the journal holds. -/
theorem State.ingressDigests_missing {js : List Nat} (hjs : js ≠ []) (h : ∀ e ∈ s.jnl.entries, e.jseq ≠ js.headD 0) :
    s.ingressDigests js = (0x90, [], s) := by
  cases js with
  | nil => exact absurd rfl hjs
  | cons j js =>
    have hnone : s.jnl.entries.find? (fun e => e.jseq == j) = none :=
      List.find?_eq_none.mpr fun e he hj => h e he (beq_iff_eq.mp hj)
    rw [State.ingressDigests, hnone]

theorem exec_auditDescriptorStart_eq (s : State) (p : Nat) (reads : StoreRead) :
    exec (.auditDescriptorStart p reads) s = s.answer touchAudit (s.audStart p reads).collSettle := rfl

/-- A command that only puts a descriptor in flight, once its read is on record. -/
theorem answer_audBegun {u : State} (hu : s.Posts u) (hcoll : u.NoColl) (st : Nat) (indig digest : List Byte) :
    ∃ t, s.answer touchAudit (u.audBegun p (s.block p).aud st indig digest).collSettle = .next t ∧
      (t.block p).aud = (s.block p).aud.begun st indig digest s.time.now ∧ t.dev = s.dev := by
  have hnone : (u.audBegun p (s.block p).aud st indig digest).NoColl := hcoll
  rw [State.collSettle_none hnone]
  refine ⟨_, rfl, ?_, hu.dev⟩
  show ((u.audBegun p (s.block p).aud st indig digest).block p).aud = _
  rw [State.audBegun, State.block_onBlock_same, hu.block, hu.time]
  rfl

/-- A descriptor whose read is uncorrectable fences the block. -/
theorem auditStart_fences (hcoll : s.NoColl) (h : s.AuditStarts p) (hin : s.inService p = true) :
    ∃ t, exec (.auditDescriptorStart p .uncorrectable) s = .next t ∧ t.fencedBlock p = true := by
  obtain ⟨hfence, hsame⟩ := State.fenceFor_onRecord eStoreUe (s.block p).lastWord none 0 0 hin h.alive
  rw [exec_auditDescriptorStart_eq, State.audStart_uncorrectable h, State.collSettle_none (by rwa [State.NoColl, hsame])]
  refine ⟨_, rfl, ?_⟩
  show (s.fence.blocks ||| (s.fenceFor p eStoreUe (s.block p).lastWord none 0 0).fence.blocks).testBit p = true
  rw [Nat.testBit_or, hfence, Bool.or_true]

section reads
variable {reads : StoreRead} (hcoll : s.NoColl) (h : s.AuditStarts p) (hr : reads ≠ .uncorrectable)
include hcoll h hr

/-- A malformed descriptor is in flight with code 0x83. -/
theorem auditStart_malformed (hbad : s.audFormatOk ((s.block p).audDesc (s.block p).aud.started) = false) :
    ∃ t, exec (.auditDescriptorStart p reads) s = .next t ∧ (t.block p).aud = (s.block p).aud.begun 0x83 [] [] s.time.now ∧ t.dev = s.dev := by
  have hposts := State.Posts.audRead s p reads
  have hnone : (s.audRead p reads).NoColl := by rwa [State.NoColl, State.audRead_coll]
  rw [exec_auditDescriptorStart_eq, State.audStart_reads h hr, hposts.audFormatOk, hbad]
  exact answer_audBegun hposts hnone _ _ _

/-- One whose first entry the journal does not hold is in flight with code 0x90. -/
theorem auditStart_missing (hok : s.audFormatOk ((s.block p).audDesc (s.block p).aud.started) = true)
    (hfree : s.audWaits ((s.block p).audInputs ((s.block p).audDesc (s.block p).aud.started)) = false)
    (hjs : (s.block p).audInputs ((s.block p).audDesc (s.block p).aud.started) ≠ [])
    (hmiss : ∀ e ∈ s.jnl.entries, e.jseq ≠ ((s.block p).audInputs ((s.block p).audDesc (s.block p).aud.started)).headD 0) :
    ∃ t, exec (.auditDescriptorStart p reads) s = .next t ∧ (t.block p).aud = (s.block p).aud.begun 0x90 [] [] s.time.now ∧ t.dev = s.dev := by
  have hposts := State.Posts.audRead s p reads
  have hnone : (s.audRead p reads).NoColl := by rwa [State.NoColl, State.audRead_coll]
  have hdigests := State.ingressDigests_missing (s := s.audRead p reads) hjs (by rw [hposts.jnl]; exact hmiss)
  rw [exec_auditDescriptorStart_eq, State.audStart_reads h hr, hposts.audFormatOk, hok, hposts.audWaits, hfree, hdigests]
  exact answer_audBegun hposts hnone _ _ _

/-- The ingress digests of the entries named, as the journal holds them. -/
def State.heldDigests (s : State) (js : List Nat) : List Byte :=
  js.flatMap (fun j => match s.jnl.entries.find? (fun e => e.jseq == j) with
    | some e => s.dev.read (e.addr + 0x40) 32
    | none => [])

/-- One whose entries are held, in plain memory, is in flight with code 0x01, its digests made. -/
theorem auditStart_held (hok : s.audFormatOk ((s.block p).audDesc (s.block p).aud.started) = true)
    (hfree : s.audWaits ((s.block p).audInputs ((s.block p).audDesc (s.block p).aud.started)) = false)
    (hheld : ∀ j ∈ (s.block p).audInputs ((s.block p).audDesc (s.block p).aud.started),
      ∃ e, s.jnl.entries.find? (fun e => e.jseq == j) = some e ∧ s.Plain (e.addr + 0x40) 32) :
    let d := (s.block p).audDesc (s.block p).aud.started
    let indig := inputDigest d.inCount (s.heldDigests ((s.block p).audInputs d))
    ∃ t, exec (.auditDescriptorStart p reads) s = .next t ∧
      (t.block p).aud = (s.block p).aud.begun 0x01 indig (s.blockDigest p d indig) s.time.now ∧ t.dev = s.dev := by
  intro d indig
  have hposts := State.Posts.audRead s p reads
  have hnone : (s.audRead p reads).NoColl := by rwa [State.NoColl, State.audRead_coll]
  have hdigests : (s.audRead p reads).ingressDigests ((s.block p).audInputs d) = (0x01, s.heldDigests ((s.block p).audInputs d), s.audRead p reads) := by
    rw [State.ingressDigests_held _ (by
      rw [hposts.jnl]
      exact fun j hj => (hheld j hj).imp fun e he => ⟨he.1, hposts.plain (State.audRead_pnt s p reads) he.2⟩), hposts.jnl, hposts.dev]
    rfl
  rw [exec_auditDescriptorStart_eq, State.audStart_reads h hr, hposts.audFormatOk, hok, hposts.audWaits, hfree, hdigests]
  have hbegun := answer_audBegun (p := p) hposts hnone 0x01 indig (s.blockDigest p d indig)
  rw [← hposts.blockDigest] at hbegun ⊢
  exact hbegun

end reads
end start

/-! ### The end of a descriptor -/

/-- A block's store and its audit unit are as they were. -/
def Block.SameWork (b c : Block) : Prop := c.store = b.store ∧ c.aud = b.aud

theorem Block.SameWork.trans {b c d : Block} (h : b.SameWork c) (k : c.SameWork d) : b.SameWork d := ⟨k.1.trans h.1, k.2.trans h.2⟩

theorem Block.SameWork.checkArm (b : Block) : b.SameWork b.checkArm := by
  unfold Block.checkArm
  split
  · exact ⟨rfl, rfl⟩
  · split <;> exact ⟨rfl, rfl⟩

theorem Block.SameWork.addCnt (i n : Nat) (b : Block) : b.SameWork (b.addCnt i n) := by
  unfold Block.addCnt
  dsimp only
  split
  · exact ⟨rfl, rfl⟩
  · exact .checkArm (b.setCnt i { b.cnt i with value := min max64 ((b.cnt i).value + n) })

theorem Block.SameWork.publishOne (b : Block) (e : Nat × Nat × Nat × Nat) : b.SameWork (b.publishOne e) := by
  unfold Block.publishOne
  split
  · exact .addCnt _ _ (b.setCnt e.1 { b.cnt e.1 with ahead := (b.cnt e.1).ahead - e.2.1 })
  · exact ⟨rfl, rfl⟩

theorem Block.SameWork.publish (b : Block) : b.SameWork b.publish :=
  List.foldlRecOn (motive := fun c => b.SameWork c) b.sigs Block.publishOne ⟨rfl, rfl⟩ fun c hc e _ => hc.trans (.publishOne c e)

theorem State.wakeHost_work (s : State) (p : Nat) : (s.block p).SameWork (s.wakeHost.block p) := by
  obtain ⟨q, hq⟩ := State.Requeues.wakeHost s p
  rw [hq]
  exact ⟨rfl, rfl⟩

theorem State.cntAdd_work (s : State) (p i n : Nat) : (s.block p).SameWork ((s.cntAdd p i n).block p) := by
  have hadd := Block.SameWork.addCnt i n (s.block p)
  rw [← State.block_onBlock_same s p (Block.addCnt i n)] at hadd
  exact hadd.trans (State.wakeHost_work _ p)

/-- What the end of a descriptor writes in its block. -/
def Block.audEnded (d : AudDesc) (i st : Nat) (b : Block) : Block :=
  let ok := st == 0x01
  let m := if ok then b.store.write d.dout (dig32 b.aud.digest) else b.store
  { b with
    store := m.write (b.aud.slotAddr 64 i + 4) [BitVec.ofNat 8 st]
    aud := { b.aud with
      flight := [], accepted := false, digest := [], indig := []
      ended := (b.aud.ended + 1) % 2 ^ 32
      halted := !ok
      code := if ok then 0 else st
      index := if ok then 0 else i % 2 ^ b.aud.slotsLog2 } }

section finish
variable {s : State} {p i st : Nat} {more : List (Nat × Nat)}

/-- The end of a descriptor that may end leaves its block's store and audit unit as it writes them. -/
theorem State.audEnd_block (hflight : (s.block p).aud.flight = (i, st) :: more) (halive : s.fencedBlock p = false)
    (hends : (st == 0x01 && ((s.block p).audDesc i).alarm && !(s.block p).aud.accepted) = false) :
    ((s.block p).audEnded ((s.block p).audDesc i) i st).SameWork ((s.audEnd p).block p) := by
  have hpublish : ∀ w : State, (w.block p).SameWork ((w.onBlock p Block.publish).wakeHost.block p) := fun w => by
    have hpub := Block.SameWork.publish (w.block p)
    rw [← State.block_onBlock_same w p Block.publish] at hpub
    exact hpub.trans (State.wakeHost_work _ p)
  have hcount := State.cntAdd_work (s.onBlock p (Block.audEnded ((s.block p).audDesc i) i st)) p (s.block p).aud.done 1
  rw [State.block_onBlock_same] at hcount
  rw [State.audEnd, hflight]
  dsimp only
  rw [halive, hends]
  simp only [Bool.or_self, Bool.false_eq_true, if_false]
  split
  · exact hcount.trans (hpublish _)
  · exact hcount.trans (hpublish _)

theorem exec_auditDescriptorEnd_eq (s : State) (p : Nat) : exec (.auditDescriptorEnd p) s = s.answer touchAudit (s.audEnd p) := rfl

/-- A descriptor that succeeded writes its digest and its code. -/
theorem auditEnd_succeeds (hflight : (s.block p).aud.flight = (i, 0x01) :: more) (halive : s.fencedBlock p = false)
    (hends : ((s.block p).audDesc i).alarm = false ∨ (s.block p).aud.accepted = true) :
    let b := s.block p
    ∃ t, exec (.auditDescriptorEnd p) s = .next t ∧
      (t.block p).store = (b.store.write (b.audDesc i).dout (dig32 b.aud.digest)).write (b.aud.slotAddr 64 i + 4) [1] ∧
      (t.block p).aud = { b.aud with
        flight := [], accepted := false, digest := [], indig := [], ended := (b.aud.ended + 1) % 2 ^ 32, halted := false, code := 0, index := 0 } := by
  obtain ⟨hstore, haud⟩ := State.audEnd_block hflight halive (by rcases hends with h | h <;> simp [h])
  exact ⟨_, exec_auditDescriptorEnd_eq s p, hstore, haud⟩

/-- One that failed writes its code, and the unit halts. -/
theorem auditEnd_fails (hflight : (s.block p).aud.flight = (i, st) :: more) (halive : s.fencedBlock p = false) (hst : st ≠ 0x01) :
    let b := s.block p
    ∃ t, exec (.auditDescriptorEnd p) s = .next t ∧ (t.block p).store = b.store.write (b.aud.slotAddr 64 i + 4) [BitVec.ofNat 8 st] ∧
      (t.block p).aud.halted = true ∧ (t.block p).aud.code = st := by
  have hfailed : (st == 0x01) = false := beq_eq_false_iff_ne.mpr hst
  obtain ⟨hstore, haud⟩ := State.audEnd_block hflight halive (by rw [hfailed]; rfl)
  simp only [Block.audEnded, hfailed, Bool.false_eq_true, if_false, Bool.not_false] at hstore haud
  exact ⟨_, exec_auditDescriptorEnd_eq s p, hstore, congrArg Queue.halted haud, congrArg Queue.code haud⟩

end finish
end Sys2Proof.Machine
end

section
/-! PROOFS. Alarm records, their batches, the signer and the seal rings (R468 to R475, R498). -/

namespace Sys2Proof.Machine

/-! ### Records -/

section record
variable {s : State} {p i : Nat} {more : List (Nat × Nat)}

/-- A batch with one record more. -/
def Batch.joined (o : Batch) (r : AlarmRec) (untimed : Bool) : Batch := { o with recs := o.recs ++ [r], untimed := o.untimed || untimed }

/-- A block whose record has been accepted. -/
def Block.recordAccepted (b : Block) : Block := { b with aud.accepted := true }

/-- The record that stands first joins the batch of the moment, where none is due and the batch stays short of 4,096 records. -/
theorem State.acceptRecord_joins (hflight : (s.block p).aud.flight = (i, 0x01) :: more) (hfirst : s.recordFirst p = true) (hdue : s.batchDue = false)
    {o : Batch} {n : Nat} (hjoin : s.joinBatch = (o, n)) (hshort : o.recs.length + 1 < 4096) :
    s.acceptRecord p = ({ s with sec := { s.sec with
      openB := some (o.joined (s.alarmRecord p ((s.block p).audDesc i)) s.untimedNow), batchNo := n, recno := (s.sec.recno + 1) % 2 ^ 64 } } : State).onBlock p
        Block.recordAccepted := by
  have hfull : decide (4096 ≤ o.recs.length + 1) = false := decide_eq_false (by omega)
  rw [State.acceptRecord, hflight]
  simp only [hfirst, hdue, hjoin, hfull, Bool.not_true, Bool.or_false, Bool.false_and, Bool.false_eq_true, if_false, ne_eq, not_true_eq_false, decide_false]
  rfl

theorem exec_sealRecordAccept_eq (s : State) (p : Nat) :
    exec (.sealRecordAccept p) s = s.answer { sec := true, blocks := true } (s.acceptRecord p) := rfl

/-- A record that joins a batch. -/
theorem sealRecordAccept_joins (hflight : (s.block p).aud.flight = (i, 0x01) :: more) (hfirst : s.recordFirst p = true) (hdue : s.batchDue = false)
    {o : Batch} {n : Nat} (hjoin : s.joinBatch = (o, n)) (hshort : o.recs.length + 1 < 4096) :
    ∃ t, exec (.sealRecordAccept p) s = .next t ∧ (t.block p).aud = { (s.block p).aud with accepted := true } ∧
      t.sec = { s.sec with openB := some (o.joined (s.alarmRecord p ((s.block p).audDesc i)) s.untimedNow), batchNo := n,
                           recno := (s.sec.recno + 1) % 2 ^ 64 } := by
  rw [exec_sealRecordAccept_eq, State.acceptRecord_joins hflight hfirst hdue hjoin hshort]
  refine ⟨_, rfl, ?_, rfl⟩
  exact congrArg Block.aud (State.block_onBlock_same _ p Block.recordAccepted)

/-- With none open a batch opens. -/
theorem sealRecordAccept_opens (hflight : (s.block p).aud.flight = (i, 0x01) :: more) (hfirst : s.recordFirst p = true) (hnone : s.sec.openB = none) :
    ∃ t, exec (.sealRecordAccept p) s = .next t ∧ (t.block p).aud = { (s.block p).aud with accepted := true } ∧
      t.sec = { s.sec with batchNo := (s.sec.batchNo + 1) % 2 ^ 64, recno := (s.sec.recno + 1) % 2 ^ 64,
                           openB := some { number := s.sec.batchNo, openTime := s.time.now, firstRec := s.sec.recno,
                                           recs := [s.alarmRecord p ((s.block p).audDesc i)], untimed := s.untimedNow } } := by
  have hdue : s.batchDue = false := by rw [State.batchDue, hnone, Bool.and_false]
  have hjoin : s.joinBatch = ({ number := s.sec.batchNo, openTime := s.time.now, firstRec := s.sec.recno }, (s.sec.batchNo + 1) % 2 ^ 64) := by
    rw [State.joinBatch, hnone]
  exact sealRecordAccept_joins hflight hfirst hdue hjoin (by simp)

/-- An open one that is not due takes the record. -/
theorem sealRecordAccept_adds (hflight : (s.block p).aud.flight = (i, 0x01) :: more) (hfirst : s.recordFirst p = true) {o : Batch}
    (hopen : s.sec.openB = some o) (hdue : s.batchDue = false) (hshort : o.recs.length + 1 < 4096) :
    ∃ t, exec (.sealRecordAccept p) s = .next t ∧ (t.block p).aud = { (s.block p).aud with accepted := true } ∧
      t.sec = { s.sec with recno := (s.sec.recno + 1) % 2 ^ 64,
                           openB := some (o.joined (s.alarmRecord p ((s.block p).audDesc i)) s.untimedNow) } := by
  have hjoin : s.joinBatch = (o, s.sec.batchNo) := by rw [State.joinBatch, hopen]
  exact sealRecordAccept_joins hflight hfirst hdue hjoin hshort

end record

/-! ### Batches and the signer -/

section batch
variable {s : State}

theorem sealBatchClose_closes {o : Batch} (hopen : s.sec.openB = some o) (hdue : s.batchDue = true) :
    exec .sealBatchClose s = .next { s with sec := { s.sec with
      openB := none, queue := s.sec.queue ++ [{ o with closeTime := s.time.now, early := false, untimed := o.untimed || s.untimedNow }] } } := by
  show s.answer { sec := true } (if s.batchDue then s.closeBatch false else s) = _
  rw [if_pos hdue, State.closeBatch, hopen]
  rfl

theorem sealBatchClose_waits (hdue : s.batchDue = false) : exec .sealBatchClose s = .next s := by
  show s.answer { sec := true } (if s.batchDue then s.closeBatch false else s) = _
  rw [hdue, if_neg Bool.false_ne_true]
  rfl

/-- A signature draws the 32 bytes of its hedging, and changes nothing else. -/
theorem State.signPair_draws (s : State) (key : Nat) (msg : List Byte) : (s.signPair key msg).2 = { s with free := s.free + 32 } := rfl

theorem exec_sealBatchSign_eq (s : State) : exec .sealBatchSign s = s.answer { sec := true, free := true } s.signBatch := rfl

theorem sealBatchSign_signs {b : Batch} {rest : List Batch} (hqueue : s.sec.queue = b :: rest) (hsigned : b.signed = []) (htrng : s.sec.trngOk = true) :
    exec .sealBatchSign s = .next { s with free := s.free + 32, sec := { s.sec with
      prevSeal := sha3 (s.sealBody b)
      queue := { b with signed := s.sealBody b ++ (s.signPair s.sec.sealKey (s.sealBody b)).1 ++ List.replicate 579 0 } :: rest } } := by
  rw [exec_sealBatchSign_eq, State.signBatch, hqueue]
  simp only [hsigned, htrng, List.isEmpty_nil, Bool.not_true, Bool.or_self, Bool.false_eq_true, if_false, State.signPair_draws]
  rfl

theorem sealBatchSign_waits {b : Batch} {rest : List Batch} (hqueue : s.sec.queue = b :: rest) (htrng : s.sec.trngOk = false) :
    exec .sealBatchSign s = .next s := by
  rw [exec_sealBatchSign_eq, State.signBatch, hqueue]
  simp only [htrng, Bool.not_false, Bool.or_true, if_true]
  rfl

end batch

/-! ### Rings -/

/-- The slot that a seal ring fills next. -/
def SRing.cell (g : SRing) (w : Nat) : Nat := g.base + g.prod % 2 ^ g.slotsLog2 * w

/-- Where a seal ring's consumer keeps its count. -/
def State.sealCons (s : State) (reg : Nat) : Nat := s.reg .sec 0 reg / 8 * 8

/-- A seal ring takes its next slot: it is on, its memory can be reached and is plain, and its consumer has left room (R475). -/
structure State.SealFits (s : State) (g : SRing) (reg w : Nat) (hostOk : Bool) : Prop where
  on : g.en = true
  consOk : xOk (s.sealCons reg) = true
  cellOk : xOk (g.cell w) = true
  consFree : s.xBusy (s.sealCons reg) 8 = false
  cellFree : s.xBusy (g.cell w) w = false
  consPlain : xDev (s.sealCons reg) = true → s.Plain (xAddr (s.sealCons reg)) 8
  consHost : xDev (s.sealCons reg) = false → s.hostDma = true
  cellPlain : xDev (g.cell w) = true → s.Plain (xAddr (g.cell w)) w
  cellHost : xDev (g.cell w) = false → s.hostDma = true ∧ hostOk = true
  room : g.prod < leNat (s.bytesAt (s.sealCons reg) 8) + 2 ^ g.slotsLog2

/-- Bytes stand at an XADDR. -/
def State.Holds (s t : State) (x : Nat) (bs : List Byte) : Prop :=
  (xDev x = true → t.dev = s.dev.write (xAddr x) bs) ∧ (xDev x = false → t.host = s.host.write (xAddr x) bs)

section rings
variable {s : State} {g : SRing} {reg w : Nat} {hostOk : Bool}

/-- Bytes read by XADDR where they are plain, or in host memory. -/
theorem State.xRead_plain (tag : Nat) {x n : Nat} (h : xDev x = true → s.Plain (xAddr x) n) : s.xRead tag x n = (0, s.bytesAt x n, s) := by
  unfold State.xRead State.bytesAt
  by_cases hx : xDev x = true
  · rw [if_pos hx, if_pos hx, devRead_plain s _ _ _ (h hx)]
  · rw [if_neg hx, if_neg hx]
    rfl

/-- Bytes written by XADDR where it is plain, or in host memory. -/
theorem State.xWrite_plain (tag : Nat) {x : Nat} {bs : List Byte} (h0 : bs ≠ []) (h : xDev x = true → s.Plain (xAddr x) bs.length) :
    ∃ t, s.xWrite tag x bs = (0, t) ∧ s.Holds t x bs ∧ t.sec = s.sec := by
  unfold State.xWrite
  by_cases hx : xDev x = true
  · obtain ⟨t, ht, heq, -⟩ := devWrite_plain s (whoOf 0x10 0 0 tag) (xAddr x) bs h0 (h hx)
    rw [if_pos hx]
    exact ⟨t, ht, ⟨fun _ => by rw [heq], fun hn => absurd hx (hn ▸ Bool.false_ne_true)⟩, by rw [heq]⟩
  · rw [if_neg hx]
    exact ⟨_, rfl, ⟨fun hy => absurd hy hx, fun _ => rfl⟩, rfl⟩

/-- Free values drawn leave a range plain. -/
theorem State.Plain.drawn {a n : Nat} (h : s.Plain a n) (f : Nat) : ({ s with free := f } : State).Plain a n := h

/-- A ring that takes its next slot is given the bytes there. -/
theorem State.sealSlot_takes (h : s.SealFits g reg w hostOk) {bs : State → List Byte × State} {data : List Byte} {f : Nat}
    (hbs : bs s = (data, { s with free := f })) (hlen : data.length = w) (h0 : 0 < w) :
    ∃ v, s.sealSlot g reg w hostOk bs = (true, v) ∧ s.Holds v (g.cell w) data ∧ v.sec = s.sec := by
  obtain ⟨t, ht, hholds, hsec⟩ := State.xWrite_plain (s := { s with free := f }) 0 (List.ne_nil_of_length_pos (hlen ▸ h0))
    (fun hx => by rw [hlen]; exact (h.cellPlain hx).drawn f)
  refine ⟨t, ?_, hholds, hsec⟩
  have hreach : (!g.en || !xOk (s.sealCons reg) || !xOk (g.cell w) || ((xHost (s.sealCons reg) || xHost (g.cell w)) && !s.hostDma) ||
      s.xBusy (s.sealCons reg) 8 || s.xBusy (g.cell w) w) = false := by
    have hdma : ((xHost (s.sealCons reg) || xHost (g.cell w)) && !s.hostDma) = false := by
      by_cases hc : xDev (s.sealCons reg) = true <;> by_cases hx : xDev (g.cell w) = true
      · simp [xHost, hc, hx]
      · simp [(h.cellHost (Bool.eq_false_of_not_eq_true hx)).1]
      · simp [h.consHost (Bool.eq_false_of_not_eq_true hc)]
      · simp [h.consHost (Bool.eq_false_of_not_eq_true hc)]
    simp [h.on, h.consOk, h.cellOk, hdma, h.consFree, h.cellFree]
  have hroom : ¬ leNat (s.bytesAt (s.sealCons reg) 8) + 2 ^ g.slotsLog2 ≤ g.prod := Nat.not_le.mpr h.room
  have hhost : (xHost (g.cell w) && !hostOk) = false := by
    by_cases hx : xDev (g.cell w) = true
    · simp [xHost, hx]
    · simp [(h.cellHost (Bool.eq_false_of_not_eq_true hx)).2]
  have hread := State.xRead_plain 0 h.consPlain
  simp only [State.sealCons, SRing.cell] at hreach hroom hhost hread ht
  rw [State.sealSlot]
  dsimp only
  rw [hreach, if_neg Bool.false_ne_true]
  simp only [hread, hroom, if_false, hhost, Bool.false_eq_true, hbs, ht]

/-- What a write of a seal ring may change. -/
def touchSeal : Touch := { touchData with sec := true }

theorem exec_sealRingWrite_eq (s : State) (hostOk : Bool) : exec (.sealRingWrite hostOk) s = s.answer touchSeal (s.sealWrite hostOk) := rfl

/-- A record's bytes draw free values at most. -/
theorem State.recordBytes_draws (s : State) (b : Batch) (i : Nat) : ∃ f, s.recordBytes b i = ((s.recordBytes b i).1, { s with free := f }) := by
  unfold State.recordBytes
  dsimp only
  split
  · exact ⟨_, rfl⟩
  · exact ⟨s.free, rfl⟩

/-- The next record of a signed batch goes to its ring's next slot. -/
theorem sealRingWrite_record {b : Batch} {rest : List Batch} (hqueue : s.sec.queue = b :: rest) (hsigned : b.signed ≠ []) (hmore : b.written < b.recs.length)
    (htrng : (b.recs.getD b.written {}).each = true → s.sec.trngOk = true) (hlen : (s.recordBytes b b.written).1.length = 16384)
    (h : s.SealFits s.sec.recRing 0x410 16384 hostOk) :
    ∃ t, exec (.sealRingWrite hostOk) s = .next t ∧ s.Holds t (s.sec.recRing.cell 16384) (s.recordBytes b b.written).1 ∧
      t.sec = { s.sec with queue := { b with written := b.written + 1 } :: rest, recRing := { s.sec.recRing with prod := s.sec.recRing.prod + 1 } } := by
  obtain ⟨f, hdraws⟩ := s.recordBytes_draws b b.written
  obtain ⟨v, hv, hholds, hsec⟩ := State.sealSlot_takes h (bs := fun s => s.recordBytes b b.written) hdraws hlen (by decide)
  have hgoes : ((b.recs.getD b.written {}).each && !s.sec.trngOk) = false := by
    cases he : (b.recs.getD b.written {}).each with
    | false => rfl
    | true => rw [htrng he]; rfl
  have hwrite : s.sealWrite hostOk = { v with sec := { v.sec with
      queue := { b with written := b.written + 1 } :: rest, recRing := { v.sec.recRing with prod := v.sec.recRing.prod + 1 } } } := by
    rw [State.sealWrite, hqueue]
    dsimp only
    rw [List.isEmpty_eq_false_iff.mpr hsigned, if_neg Bool.false_ne_true, if_pos hmore, hgoes, if_neg Bool.false_ne_true, hv]
  rw [exec_sealRingWrite_eq, hwrite, hsec]
  exact ⟨_, rfl, hholds, rfl⟩

/-- After the last record its seal does. -/
theorem sealRingWrite_seal {b : Batch} {rest : List Batch} (hqueue : s.sec.queue = b :: rest) (hsigned : b.signed ≠ []) (hlast : b.recs.length ≤ b.written)
    (hlen : b.signed.length = 4096) (h : s.SealFits s.sec.sealRing 0x428 4096 hostOk) :
    ∃ t, exec (.sealRingWrite hostOk) s = .next t ∧ s.Holds t (s.sec.sealRing.cell 4096) b.signed ∧
      t.sec = { s.sec with queue := rest, sealRing := { s.sec.sealRing with prod := s.sec.sealRing.prod + 1 } } := by
  obtain ⟨v, hv, hholds, hsec⟩ := State.sealSlot_takes h (bs := fun s => (b.signed, s)) (f := s.free) rfl hlen (by decide)
  have hwrite : s.sealWrite hostOk = { v with sec := { v.sec with
      queue := rest, sealRing := { v.sec.sealRing with prod := v.sec.sealRing.prod + 1 } } } := by
    rw [State.sealWrite, hqueue]
    dsimp only
    rw [List.isEmpty_eq_false_iff.mpr hsigned, if_neg Bool.false_ne_true, if_neg (Nat.not_lt.mpr hlast), hv]
  rw [exec_sealRingWrite_eq, hwrite, hsec]
  exact ⟨_, rfl, hholds, rfl⟩

end rings

/-! ### The statement -/

/-- Settles O60: a descriptor begins as its read finds it, ends as its code says, and its record goes on through the batch, the signer and the
rings, each command being one step of that way. -/
theorem auditAndSealing : Obligations.AuditAndSealing := by
  refine ⟨fun s p hcoll hrings hon hgoes halive hfree hdue => ?_, fun s p i st more hflight halive => ?_, fun s => ⟨?_, ?_, ?_, ?_⟩⟩
  · have hstarts : s.AuditStarts p := ⟨hrings, hon, hgoes, halive, hfree, hdue⟩
    exact ⟨fun hin => auditStart_fences hcoll hstarts hin, fun reads hr => ⟨fun hbad => auditStart_malformed hcoll hstarts hr hbad,
      fun hok hwaits hjs hmiss => auditStart_missing hcoll hstarts hr hok hwaits hjs hmiss,
      fun hok hwaits hheld => auditStart_held hcoll hstarts hr hok hwaits hheld⟩⟩
  · refine ⟨fun hst hends => ?_, fun hst => auditEnd_fails hflight halive hst, fun hst _ _ hfirst => ⟨fun hnone => ?_, fun o hopen hdue hshort => ?_⟩⟩
    · exact auditEnd_succeeds (hst ▸ hflight) halive hends
    · exact sealRecordAccept_opens (hst ▸ hflight) hfirst hnone
    · exact sealRecordAccept_adds (hst ▸ hflight) hfirst hopen hdue hshort
  · exact fun o hopen hdue => sealBatchClose_closes hopen hdue
  · exact sealBatchClose_waits
  · exact fun b rest hqueue hsigned => ⟨sealBatchSign_signs hqueue hsigned, sealBatchSign_waits hqueue⟩
  · intro b rest hostOk hqueue hsigned cell fits holds
    have hfits : ∀ (g : SRing) (reg w : Nat), fits g reg w → s.SealFits g reg w hostOk := fun g reg w ⟨h1, h2, h3, h4, h5, h6, h7, h8, h9, h10⟩ =>
      ⟨h1, h2, h3, h4, h5, h6, h7, h8, h9, h10⟩
    exact ⟨fun hmore htrng hlen h => sealRingWrite_record hqueue hsigned hmore htrng hlen (hfits _ _ _ h),
      fun hlast hlen h => sealRingWrite_seal hqueue hsigned hlast hlen (hfits _ _ _ h)⟩

end Sys2Proof.Machine
end

section
/-! PROOFS. The canonical form of device memory and host memory (R419, R422, R428, R540, R541): what every store of the module keeps. -/

namespace Sys2Proof.Machine

/-- Each of the two memories is in its canonical form in `t` if it is in `s`. -/
structure State.KeepsForm (s t : State) : Prop where
  dev : s.dev.wf = true → t.dev.wf = true
  host : s.host.wf = true → t.host.wf = true

theorem State.KeepsForm.memOk {s t : State} (h : s.KeepsForm t) (hs : s.memOk) : t.memOk := ⟨h.dev hs.1, h.host hs.2⟩

namespace State.KeepsForm
variable {s t u : State}

theorem trans (h : s.KeepsForm t) (k : t.KeepsForm u) : s.KeepsForm u := ⟨k.dev ∘ h.dev, k.host ∘ h.host⟩

/-- A step that leaves both memories as they were. -/
theorem of_parts (dev : t.dev = s.dev) (host : t.host = s.host) : s.KeepsForm t := ⟨fun h => dev ▸ h, fun h => host ▸ h⟩

theorem refl (s : State) : s.KeepsForm s := .of_parts rfl rfl

/-- A step taken after a change of other parts of the state. -/
theorem after (h : t.KeepsForm u) (dev : t.dev = s.dev) (host : t.host = s.host) : s.KeepsForm u := (State.KeepsForm.of_parts dev host).trans h

theorem foldl {α : Type} {f : State → α → State} (h : ∀ (t : State) (a : α), t.KeepsForm (f t a)) (l : List α) (s : State) :
    s.KeepsForm (l.foldl f s) :=
  List.foldlRecOn (motive := s.KeepsForm) l f (.refl s) fun t ht a _ => ht.trans (h t a)

theorem ite {c : Prop} [Decidable c] (h : c → s.KeepsForm t) (k : ¬ c → s.KeepsForm u) : s.KeepsForm (if c then t else u) := by
  split
  · next hc => exact h hc
  · next hc => exact k hc

/-- Bytes written to host memory. -/
theorem hostWrite (s : State) (a : Nat) (bs : List Byte) : s.KeepsForm (s.hostWrite a bs) := ⟨id, Mem.write_wf _ _ _⟩

/-- What a command leaves of its effect. -/
theorem keep (h : s.KeepsForm t) (m : Touch) : s.KeepsForm (s.keep m t) :=
  ⟨fun hs => by simp only [State.keep]; split; exacts [h.dev hs, hs], fun hs => by simp only [State.keep]; split; exacts [h.host hs, hs]⟩

/-! ### Errors, counts and what is sent -/

theorem of_posts (h : s.Posts t) : s.KeepsForm t := .of_parts h.dev h.host

theorem raise (s : State) (p : Page) (i b tag i0 i1 i2 : Nat) : s.KeepsForm (s.raise p i b tag i0 i1 i2) := .of_posts (.raise s _ _ _ _ _ _ _)

theorem evtAdd (s : State) (p : Page) (i k n : Nat) : s.KeepsForm (s.evtAdd p i k n) := .of_parts rfl rfl

theorem sbAdd (s : State) (item n : Nat) : s.KeepsForm (s.sbAdd item n) := .of_parts rfl rfl

/-! ### Parts of the state that hold no bytes of memory -/

theorem useFree (s : State) : s.KeepsForm s.useFree := .of_parts rfl rfl

theorem setStack (s : State) (n : Nat) (k : Stack) : s.KeepsForm (s.setStack n k) := .of_parts rfl rfl

theorem setHring (s : State) (r : Nat) (x : HRing) : s.KeepsForm (s.setHring r x) := .of_parts rfl rfl

theorem onSifter (s : State) (sf : Nat) (f : Sifter → Sifter) : s.KeepsForm (s.onSifter sf f) := .of_parts rfl rfl

theorem setHif (s : State) (x : Hif) : s.KeepsForm { s with hif := x } := .of_parts rfl rfl

theorem setOut (s : State) (x : Out) : s.KeepsForm { s with out := x } := .of_parts rfl rfl

/-! ### Device memory -/

theorem memUe (s : State) (who kind a : Nat) : s.KeepsForm (s.memUe who kind a) := .of_posts (.memUe s _ _ _)

theorem memCe (s : State) (who kind a : Nat) : s.KeepsForm (s.memCe who kind a) := .of_posts (.memCe s _ _ _)

theorem wake (s : State) (ps : List (Nat × Nat)) : s.KeepsForm (s.wake ps) := by
  refine .foldl (fun t p => ?_) ps s
  exact .ite (fun _ => .of_parts rfl rfl) fun _ => .refl t

theorem devPut (s : State) (p : Nat × Nat) (bs : List Byte) : s.KeepsForm (s.devPut p bs).1 := by
  refine ⟨fun h => ?_, id⟩
  have hfold : ∀ (f : Mem → Nat → Mem), (∀ m i, m.wf = true → (f m i).wf = true) → ∀ (l : List Nat) (m : Mem), m.wf = true → (l.foldl f m).wf = true :=
    fun f hf l m hm => List.foldlRecOn (motive := fun m => m.wf = true) l f hm fun m hm i _ => hf m i hm
  exact hfold _ (fun m _ hm => Mem.write_wf m _ _ hm) _ _ (hfold _ (fun m _ hm => Mem.write_wf m _ _ hm) _ _ (Mem.write_wf _ _ _ h))

theorem devPutAll (ps : List (Nat × Nat)) (s : State) (bs : List Byte) : s.KeepsForm (s.devPutAll ps bs).1 := by
  induction ps generalizing s bs with
  | nil => exact .refl s
  | cons p ps ih => exact (State.KeepsForm.devPut s p (bs.take p.2)).trans (ih _ _)

theorem devReadAs {kind : Option Nat} {who a n st : Nat} {bs : List Byte} (h : s.devReadAs kind who a n = (st, bs, t)) : s.KeepsForm t := by
  unfold State.devReadAs at h
  dsimp only at h
  split at h
  · cases h
    exact .refl s
  split at h
  · cases h
    exact (State.KeepsForm.wake s _).trans (.memUe _ _ _ _)
  · cases h
    refine .trans (.wake s _) (.ite (fun _ => .of_parts rfl rfl) fun _ => .refl _)

theorem devRead {who a n st : Nat} {bs : List Byte} (h : s.devRead who a n = (st, bs, t)) : s.KeepsForm t := .devReadAs h

theorem devWrite (s : State) (who a : Nat) (bs : List Byte) : s.KeepsForm (s.devWrite who a bs).2 := by
  have hput := (State.KeepsForm.wake s (s.devPieces a bs.length)).trans (.devPutAll (s.devPieces a bs.length) _ bs)
  unfold State.devWrite
  split
  · exact .refl s
  dsimp only
  split
  · exact .refl s
  split
  · exact hput.trans (.memUe _ _ _ _)
  · exact hput

/-- A write whose outcome is given. -/
theorem of_devWrite {who a st : Nat} {bs : List Byte} (h : s.devWrite who a bs = (st, t)) : s.KeepsForm t := by
  have hw := State.KeepsForm.devWrite s who a bs
  rwa [h] at hw

theorem atomicFormat (s : State) (who aop a : Nat) : s.KeepsForm (s.atomicFormat who aop a) := .of_posts (.atomicFormat s _ _ _)

theorem devAtomic (s : State) (who aop a : Nat) (operand : List Byte) : s.KeepsForm (s.devAtomic who aop a operand).2.2 := by
  unfold State.devAtomic
  split
  · exact .atomicFormat s _ _ _
  dsimp only
  split
  · next hread =>
    have ht := State.KeepsForm.devReadAs hread
    split
    · split
      · exact ht.trans (.atomicFormat _ _ _ _)
      · exact (ht.trans (.devWrite _ _ _ _)).trans (.evtAdd _ _ _ _ _)
    · exact (ht.trans (.devWrite _ _ _ _)).trans (.evtAdd _ _ _ _ _)
  · next hread => exact .devReadAs hread

theorem freeDev (a n : Nat) (s : State) : s.KeepsForm (s.freeDev a n) := ⟨Mem.write_wf _ _ _, id⟩

theorem freeAt (a n : Nat) (s : State) : s.KeepsForm (s.freeAt a n) := by
  unfold State.freeAt
  exact .foldl (fun t (p : Nat × Nat) => .freeDev p.1 p.2 t) _ s

theorem freeX (x n : Nat) (s : State) : s.KeepsForm (s.freeX x n) := by
  unfold State.freeX
  split
  · exact .freeAt _ _ s
  · exact .trans (.hostWrite s _ _) (.of_parts rfl rfl)

/-! ### Reads and writes by XADDR -/

theorem xRead {tag x n st : Nat} {bs : List Byte} (h : s.xRead tag x n = (st, bs, t)) : s.KeepsForm t := by
  unfold State.xRead at h
  split at h
  · exact .devRead h
  · cases h
    exact .refl s

theorem xWrite {tag x st : Nat} {bs : List Byte} (h : s.xWrite tag x bs = (st, t)) : s.KeepsForm t := by
  unfold State.xWrite at h
  split at h
  · exact .of_devWrite h
  · cases h
    exact .hostWrite s _ _

/-! ### Accesses of the host -/

theorem loseLine (a : Nat) (s : State) : s.KeepsForm (s.loseLine a) := by
  unfold State.loseLine
  dsimp only
  split
  · exact .refl s
  split
  · exact (State.KeepsForm.setStack s _ _).trans (.raise _ _ _ _ _ _ _ _)
  · exact (State.KeepsForm.setStack s _ _).trans (.evtAdd _ _ _ _ _)

theorem strike (who a outcome : Nat) (s : State) : s.KeepsForm (s.strike who a outcome) := by
  unfold State.strike
  refine .ite (fun _ => .of_parts rfl rfl) fun _ => .ite (fun _ => .loseLine a s) fun _ => .ite (fun _ => .memCe s _ _ _) fun _ => ?_
  exact .ite (fun _ => .memCe s _ _ _) fun _ => .refl s

theorem serveAccess (m : MemReq) (s : State) : s.KeepsForm (s.serveAccess m) := by
  unfold State.serveAccess
  extract_lets who t x
  have ht : s.KeepsForm t := .ite (fun _ => .refl s) fun _ => .strike _ _ _ s
  refine ht.trans (.ite (fun _ => ?_) fun _ => .ite (fun _ => ?_) fun _ => ?_)
  · exact (State.KeepsForm.devWrite t _ _ _).trans (.of_parts rfl rfl)
  · exact (State.KeepsForm.memUe t _ _ _).trans (.of_parts rfl rfl)
  · exact (State.KeepsForm.devRead rfl).trans (.of_parts rfl rfl)

theorem serveAtomic (m : MemReq) (aop : Nat) (s : State) : s.KeepsForm (s.serveAtomic m aop) := by
  unfold State.serveAtomic
  split
  · exact .of_parts rfl rfl
  · exact (State.KeepsForm.devAtomic s _ _ _ _).trans (.of_parts rfl rfl)

theorem bar2Piece (addr : Nat) (s : State) (p : Nat × List Byte) : s.KeepsForm (s.bar2Piece addr p) := by
  unfold State.bar2Piece
  split
  · next h => exact .of_devWrite h
  · next h => exact (of_devWrite h).trans (.raise _ _ _ _ _ _ _ _)

theorem serveBar2 (m : MemReq) (s : State) : s.KeepsForm (s.serveBar2 m) := by
  by_cases hw : m.write = true
  · rw [State.serveBar2_write hw]
    exact .foldl (.bar2Piece _) _ s
  · rw [State.serveBar2, if_neg hw]
    split
    · next h => exact (devRead h).trans (.setOut _ _)
    · next h => exact ((devRead h).trans (.raise _ _ _ _ _ _ _ _)).trans (.setOut _ _)

theorem serveMem (m : MemReq) (s : State) : s.KeepsForm (s.serveMem m) := by
  unfold State.serveMem
  split
  · exact .serveBar2 m s
  · exact .serveAtomic m _ s
  · exact .serveAccess m s

theorem askMem (m : MemReq) (s : State) : s.KeepsForm (s.askMem m) := .ite (fun _ => .of_parts rfl rfl) fun _ => .serveMem m s

/-! ### The journal -/

theorem releaseOldest (s : State) : s.KeepsForm s.releaseOldest := by
  unfold State.releaseOldest
  split <;> exact .of_parts rfl rfl

theorem closeRange (s : State) : s.KeepsForm s.closeRange := by
  unfold State.closeRange
  split
  · exact .trans (.ite (fun _ => .releaseOldest s) fun _ => .refl s) (.of_parts rfl rfl)
  · exact .of_parts rfl rfl

theorem makeRoom (len n : Nat) (s : State) : s.KeepsForm (s.makeRoom len n) := by
  induction n generalizing s with
  | zero => exact .refl s
  | succ n ih =>
    unfold State.makeRoom
    exact .ite (fun _ => .refl s) fun _ => (State.KeepsForm.releaseOldest s).trans (ih _)

theorem ringPut (s : State) (base size w tag : Nat) (bs : List Byte) : s.KeepsForm (s.ringPut base size w tag bs) := by
  unfold State.ringPut
  extract_lets tail s1
  have h1 : s.KeepsForm s1 := .ite (fun _ => .refl s) fun _ => .after (.devWrite { s with free := s.free + 112 } _ _ _) rfl rfl
  exact h1.trans (.devWrite _ _ _ _)

theorem storeEntry (s : State) (tag : Nat) (bs : List Byte) : s.KeepsForm (s.storeEntry tag bs).1 := by
  unfold State.storeEntry
  extract_lets s1
  have h1 : s.KeepsForm s1 := .ite (fun _ => .makeRoom _ _ s) fun _ => .refl s
  split
  · exact (h1.trans (.raise _ _ _ _ _ _ _ _)).trans (.trans (.closeRange _) (.evtAdd _ _ _ _ _))
  · exact (h1.trans (.ringPut _ _ _ _ _ _)).trans (.of_parts rfl rfl)

theorem inject (unit dst cls txn opc arg : Nat) (mc : Option Nat) (payload : List Byte) (s : State) :
    s.KeepsForm (s.inject unit dst cls txn opc arg mc payload) := .of_posts (.injectAs s _ _ _ _ _ _ _ _ _)

theorem appendEntry (s : State) (tag : Nat) (h : JHead) (data : List Byte) : s.KeepsForm (s.appendEntry tag h data).1 := by
  unfold State.appendEntry
  dsimp only
  split
  · exact (State.KeepsForm.storeEntry s _ _).trans (.inject _ _ _ _ _ _ _ _ _)
  · exact .storeEntry s _ _

theorem journalCopy (s : State) (h : JHead) (data : List Byte) : s.KeepsForm (s.journalCopy h data) :=
  .ite (fun _ => .appendEntry s _ _ _) fun _ => .ite (fun _ => .evtAdd s _ _ _ _) fun _ => .refl s

/-! ### Frames and records -/

theorem onFrame (s : State) (id : Nat) (g : Frame → Frame) : s.KeepsForm (s.onFrame id g) := by
  unfold State.onFrame
  split <;> exact .of_parts rfl rfl

theorem swallow (s : State) (f : Frame) : s.KeepsForm (s.swallow f) :=
  .ite (fun _ => .refl s) fun _ => .ite (fun _ => .of_parts rfl rfl) fun _ => .refl s

theorem removeFrame (s : State) (f : Frame) : s.KeepsForm (s.removeFrame f) := by
  unfold State.removeFrame
  refine .trans ?_ (.of_posts (.freeBufs _ _ _))
  exact .after (.swallow _ f) rfl rfl

theorem reap (s : State) (id : Nat) : s.KeepsForm (s.reap id) := by
  unfold State.reap
  split
  · exact .ite (fun _ => .refl s) fun _ => .removeFrame s _
  · exact .refl s

theorem endRec (sf : Nat) (rec : SRec) (s : State) : s.KeepsForm (s.endRec sf rec) := by
  unfold State.endRec
  refine .trans (.trans ?_ (.onFrame _ _ _)) (.reap _ _)
  split
  · exact .of_posts (.freeBufs _ _ s)
  · exact .refl s

theorem askRec (rec : SRec) (s : State) : s.KeepsForm (s.askRec rec) := by
  unfold State.askRec
  extract_lets s1
  have h1 : s.KeepsForm s1 := by
    simp only [s1]
    split
    · exact .of_posts (.touchPage s _)
    · exact .refl s
  split
  · exact h1.trans (.ite (fun _ => .refl _) fun _ => .of_posts (.touchBufs _ _))
  · exact h1

theorem ringSignal (sf r : Nat) (s : State) : s.KeepsForm (s.ringSignal sf r) := by
  unfold State.ringSignal
  dsimp only
  split
  · split
    · exact .ite (fun _ => .of_parts rfl rfl) fun _ => .refl s
    · exact .refl s
  · exact .refl s

theorem ringConsumed {unit addr : Nat} {c : Option Nat} (h : s.ringConsumed unit addr = (c, t)) : s.KeepsForm t := by
  have hread : ∀ {st : Nat} {bs : List Byte} {w : State},
      (if xDev addr then s.devRead (whoOf unit) (xAddr addr) 8 else (0, s.hostRead (xAddr addr) 8, s)) = (st, bs, w) → s.KeepsForm w := by
    intro st bs w hw
    split at hw
    · exact .devRead hw
    · cases hw
      exact .refl s
  unfold State.ringConsumed at h
  split at h
  · next hw =>
    cases h
    exact hread hw
  · next hw =>
    cases h
    exact hread hw

theorem ringRecord (sf r : Nat) (rec : SRec) (frame : List Byte) (bad : Bool) (copyLen : Nat) (s : State) :
    s.KeepsForm (s.ringRecord sf r rec frame bad copyLen) := by
  unfold State.ringRecord
  dsimp only
  split
  · exact .evtAdd s _ _ _ _
  split
  · next hc =>
    split
    · exact (((ringConsumed hc).trans (.devWrite _ _ _ _)).trans (.onSifter _ _ _)).trans (.ringSignal _ _ _)
    · exact (ringConsumed hc).trans (.evtAdd _ _ _ _ _)
  · next hc => exact (ringConsumed hc).trans (.evtAdd _ _ _ _ _)

theorem writeRecord (sf : Nat) (rec : SRec) (s : State) : s.KeepsForm (s.writeRecord sf rec) := by
  unfold State.writeRecord
  split
  next bytes bad copyLen _ =>
  extract_lets s1 s2
  have h1 : s.KeepsForm s1 := by
    simp only [s1]
    split
    · exact .of_posts (.touchPage s _)
    · exact .refl s
  have h2 : s.KeepsForm s2 := h1.trans (.ite (fun _ => .refl _) fun _ => .journalCopy _ _ _)
  exact (h2.trans (.ringRecord _ _ _ _ _ _ _)).trans (.endRec _ _ _)

theorem storeError (s : State) (unit tag upset q : Nat) : s.KeepsForm (s.storeError unit tag upset q) := by
  unfold State.storeError
  refine .ite (fun _ => ?_) fun _ => .ite (fun _ => .raise s _ _ _ _ _ _ _) fun _ => .refl s
  exact ((State.KeepsForm.useFree s).trans (.raise _ _ _ _ _ _ _ _)).trans (.sbAdd _ _ _)

theorem flushRecs (sf upset fuel : Nat) (s : State) : s.KeepsForm (s.flushRecs sf upset fuel) := by
  induction fuel generalizing s upset with
  | zero => exact .refl s
  | succ fuel ih =>
    unfold State.flushRecs
    extract_lets x
    split
    · exact .refl s
    extract_lets ended went
    have hwent : ∀ v : State, v.KeepsForm (went v) := fun v => .onSifter v sf _
    split
    · exact .refl s
    split
    · exact ((((hwent s).trans (.evtAdd _ _ _ _ _)).trans (.evtAdd _ _ _ _ _)).trans (.endRec _ _ _)).trans (ih _ _)
    next r t hbuf =>
    have ht : s.KeepsForm t := by
      split at hbuf
      · cases hbuf
        exact .refl s
      · obtain ⟨a, ha, hbuf⟩ := Option.map_eq_some_iff.mp hbuf
        cases hbuf
        exact .of_posts (.alloc ha)
    split
    · extract_lets u
      have hu : s.KeepsForm u := (ht.trans (hwent t)).trans (.storeError _ _ _ _ _)
      refine hu.trans (.trans (.ite (fun _ => ?_) fun _ => .writeRecord _ _ _) (ih _ _))
      exact (State.KeepsForm.evtAdd _ _ _ _ _).trans (.endRec _ _ _)
    · exact (ht.trans (.onSifter _ _ _)).trans (.askRec _ _)

theorem pumpAllRecs (s : State) : s.KeepsForm s.pumpAllRecs := .foldl (fun t _ => .flushRecs _ _ _ t) _ s

/-! ### The Rally REQ server -/

theorem serveReq (k : Pkt) (s : State) : s.KeepsForm (s.serveReq k) := by
  have hreply : ∀ (u : State) (opc : Nat) (payload : List Byte), u.KeepsForm ((u.freePkt k).reply k opc payload) := fun u opc payload =>
    (State.KeepsForm.of_posts (.freePkt u k)).trans (.inject _ _ _ _ _ _ _ _ _)
  unfold State.serveReq
  extract_lets done fault
  have hfault : ∀ (u : State) (code : Nat), u.KeepsForm (fault code u) := fun u code => hreply u _ _
  refine .ite (fun _ => .ite (fun _ => hfault s _) fun _ => ?_) fun _ => .ite (fun _ => .ite (fun _ => hfault s _) fun _ => ?_) fun _ =>
    .ite (fun _ => .ite (fun _ => .ite (fun _ => hfault s _) fun _ => ?_) fun _ => .ite (fun _ => hfault s _) fun _ => ?_) fun _ => hfault s _
  · exact (State.KeepsForm.devWrite s _ _ _).trans (.ite (fun _ => hreply _ _ _) fun _ => hfault _ _)
  · exact (State.KeepsForm.devRead rfl).trans (.ite (fun _ => hreply _ _ _) fun _ => hfault _ _)
  · exact (State.KeepsForm.atomicFormat s _ _ _).trans (hfault _ _)
  · exact (State.KeepsForm.devAtomic s _ _ _ _).trans (.ite (fun _ => hreply _ _ _) fun _ => hfault _ _)

theorem serveReqs (n : Nat) (s : State) : s.KeepsForm (s.serveReqs n) := by
  induction n generalizing s with
  | zero => exact .refl s
  | succ n ih =>
    unfold State.serveReqs
    split
    · exact .refl s
    next k rest _ =>
    have hserve : s.KeepsForm (({ s with rly.reqIn := rest } : State).serveReq k) := .after (t := { s with rly.reqIn := rest }) (.serveReq _ _) rfl rfl
    exact .ite (fun _ => .refl s) fun _ => hserve.trans (ih _)

theorem serveWaiting (s : State) : s.KeepsForm s.serveWaiting := by
  unfold State.serveWaiting
  extract_lets idle t
  have ht : s.KeepsForm t := .after (t := { s with mem.queue := [] }) (.foldl (fun u m => .askMem m u) _ _) rfl rfl
  exact (ht.trans (.serveReqs _ _)).trans (.pumpAllRecs _)

/-! ### Scrub, retraining and self-refresh -/

theorem hbmScrub (word outcome : Nat) (s : State) : s.KeepsForm (s.hbmScrub word outcome) := by
  unfold State.hbmScrub
  refine .ite (fun _ => .refl s) fun _ => .ite (fun _ => ?_) fun _ => .ite (fun _ => .memCe s _ _ _) fun _ => .refl s
  exact (State.KeepsForm.setStack s _ _).trans (.memUe _ _ _ _)

theorem retrainStart (n ch : Nat) (s : State) : s.KeepsForm (s.retrainStart n ch) := by
  unfold State.retrainStart
  exact .ite (fun _ => .refl s) fun _ => ((State.KeepsForm.setStack s _ _).trans (.raise _ _ _ _ _ _ _ _)).trans (.evtAdd _ _ _ _ _)

theorem storeLost (n : Nat) (s : State) : s.KeepsForm (s.storeLost n) := .ite (fun _ => .raise s _ _ _ _ _ _ _) fun _ => .refl s

theorem stackOffline (n ch : Nat) (s : State) : s.KeepsForm (s.stackOffline n ch) := by
  unfold State.stackOffline
  refine .ite (fun _ => .refl s) fun _ => ?_
  extract_lets k t
  have ht : s.KeepsForm t := .foldl (fun u l => .freeDev _ _ u) _ s
  exact (((ht.trans (.setStack _ _ _)).trans (.raise _ _ _ _ _ _ _ _)).trans (.sbAdd _ _ _)).trans (.storeLost n _)

theorem retrainNext (n ch : Nat) (s : State) : s.KeepsForm (s.retrainNext n ch) := by
  unfold State.retrainNext
  split
  · exact .refl s
  · exact .ite (fun _ => .of_parts rfl rfl) fun _ => .retrainStart _ _ s

theorem retrainDone (n : Nat) (ok : Bool) (s : State) : s.KeepsForm (s.retrainDone n ok) := by
  unfold State.retrainDone
  refine .ite (fun _ => .refl s) fun _ => ?_
  extract_lets f t
  have ht : s.KeepsForm t := .of_parts rfl rfl
  exact (ht.trans (.ite (fun _ => .refl _) fun _ => .stackOffline _ _ _)).trans (.trans (.retrainNext _ _ _) (.serveWaiting _))

theorem selfRefresh (n : Nat) (s : State) : s.KeepsForm (s.selfRefresh n) := .ite (fun _ => .refl s) fun _ => .of_parts rfl rfl

theorem inDomain {go : State → State} (h : ∀ t : State, t.KeepsForm (go t)) (m : Nat) (s : State) : s.KeepsForm (s.inDomain m go) :=
  .ite (fun _ => .refl s) fun _ => h s

/-! ### Commands of the window and their completions -/

theorem finishEntry (e : WinEntry) (st r0 : Nat) (s : State) : s.KeepsForm (s.finishEntry e st r0) := .of_parts (by simp) (by simp)

/-- A command taken from the window keeps the form if its own part does. -/
theorem take {chosen formatOk : WinEntry → Bool} {waits : State → WinEntry → Bool} {body : WinEntry → State → State}
    (h : ∀ (e : WinEntry) (t : State), t.KeepsForm (body e t)) (s : State) : s.KeepsForm (State.take chosen formatOk waits body s) := by
  unfold State.take
  split
  · exact .after (h _ _) rfl rfl
  unfold State.takeFront
  split
  · exact .refl s
  refine .ite (fun _ => .refl s) fun _ => ?_
  refine .after (t := { s with hif.window := _ }) (.ite (fun _ => .raise _ _ _ _ _ _ _ _) fun _ => .ite (fun _ => .finishEntry _ _ _ _) fun _ =>
    .ite (fun _ => .finishEntry _ _ _ _) fun _ => .ite (fun _ => .of_parts rfl rfl) fun _ => h _ _) rfl rfl

theorem viaHost {go : State → State} (h : ∀ t : State, t.KeepsForm (go t)) (way : HostWay) (e : WinEntry) (len : Option Nat) (addr : Nat) (s : State) :
    s.KeepsForm (s.viaHost way e len addr go) := by
  unfold State.viaHost
  split
  · exact h s
  refine .ite (fun _ => (State.KeepsForm.raise s _ _ _ _ _ _ _).trans (.finishEntry _ _ _ _)) fun _ => ?_
  split
  · exact h s
  next halloc =>
  extract_lets u
  have hu : s.KeepsForm u := (State.KeepsForm.of_posts (.alloc halloc)).trans (.storeError _ _ _ _ _)
  exact (hu.trans (.ite (fun _ => .finishEntry _ _ _ _) fun _ => h _)).trans (.of_posts (.freeBuf _ _ _ _))

theorem copyCmd (way : HostWay) (s : State) : s.KeepsForm (s.copyCmd way) := by
  refine .take (fun e t => ?_) s
  refine .trans (.ite (fun _ => .freeX _ _ t) fun _ => .refl t) (.viaHost (fun u => ?_) _ _ _ _ _)
  split
  · next hread =>
    split
    · next hwrite => exact ((xRead hread).trans (.xWrite hwrite)).trans (.finishEntry _ _ _ _)
    · next hwrite => exact (((xRead hread).trans (.xWrite hwrite)).trans (.freeX _ _ _)).trans (.finishEntry _ _ _ _)
  · next hread => exact ((xRead hread).trans (.freeX _ _ _)).trans (.finishEntry _ _ _ _)

theorem atomicCmd (s : State) : s.KeepsForm s.atomicCmd := by
  refine .take (fun e t => ?_) s
  refine .ite (fun _ => .finishEntry _ _ _ _) fun _ => ?_
  split
  next st operand u hoperand =>
  have hu : t.KeepsForm u := by
    split at hoperand
    · exact .xRead hoperand
    · cases hoperand
      exact .refl t
  refine hu.trans (.ite (fun _ => .finishEntry _ _ _ _) fun _ => ?_)
  exact (State.KeepsForm.devAtomic u _ _ _ _).trans (.finishEntry _ _ _ _)

theorem admitEnding (s : State) : s.KeepsForm s.admitEnding := by
  unfold State.admitEnding
  exact .foldl (fun t _ => .ite (fun _ => .setHif t _) fun _ => .refl t) _ s

theorem sendVec (v : Nat) (s : State) : s.KeepsForm (s.sendVec v) := .ite (fun _ => .of_parts rfl rfl) fun _ => .of_parts rfl rfl

theorem ringVec (r : Nat) (s : State) : s.KeepsForm (s.ringVec r) :=
  .ite (fun _ => .refl s) fun _ => .ite (fun _ => .of_parts rfl rfl) fun _ => (State.KeepsForm.sendVec _ s).trans (.of_parts rfl rfl)

theorem ringWrite (r : Nat) (hostOk : Bool) (s : State) : s.KeepsForm (s.ringWrite r hostOk) := by
  unfold State.ringWrite
  extract_lets s1
  have h1 : s.KeepsForm s1 := .admitEnding s
  split
  · exact h1
  refine h1.trans (.ite (fun _ => .refl _) fun _ => .ite (fun _ => .raise _ _ _ _ _ _ _ _) fun _ => ?_)
  extract_lets t u
  have hu : s1.KeepsForm u := (State.KeepsForm.hostWrite s1 _ _).trans (.hostWrite _ _ _)
  exact (((hu.trans (.setHif u _)).trans (.setHring _ _ _)).trans (.ringVec _ _)).trans (.admitEnding _)

/-! ### Accesses and atomics as commands -/

theorem memAccess (write : Bool) (a n : Nat) (data : List Byte) (outcome : Nat) (s : State) : s.KeepsForm (s.memAccess write a n data outcome) :=
  .ite (fun _ => .refl s) fun _ => .askMem _ s

theorem memAtomic (aop a : Nat) (operand : List Byte) (s : State) : s.KeepsForm (s.memAtomic aop a operand) :=
  .ite (fun _ => .refl s) fun _ => .askMem _ s

theorem bar2Read (offset len : Nat) (stream : Option Nat) (s : State) : s.KeepsForm (s.bar2Read offset len stream) :=
  .ite (fun _ => .refl s) fun _ => .ite (fun _ => .of_parts rfl rfl) fun _ => .askMem _ s

theorem bar2Write (offset : Nat) (data : List Byte) (stream : Option Nat) (s : State) : s.KeepsForm (s.bar2Write offset data stream) :=
  .ite (fun _ => .refl s) fun _ => .askMem _ s

end State.KeepsForm

/-- A command that leaves what a step leaves which keeps the form keeps it. -/
theorem State.KeepsForm.answer {s t u : State} {m : Touch} (h : s.KeepsForm u) (hs : s.memOk) (he : s.answer m u = .next t) : t.memOk := by
  rw [State.answer_next_iff] at he
  exact he ▸ (h.keep m).memOk hs

/-- Settles O32: each of the commands is a chain of steps that change memory by `Mem.write` alone, which keeps the form. -/
theorem storingKeepsMemoryCanonical : Obligations.StoringKeepsMemoryCanonical := by
  intro s t c hs he w h way stream a b n m o data hc
  simp only [List.mem_cons, List.not_mem_nil, or_false] at hc
  have hatomic : ∀ aop x operand, s.answer touchMem (s.memAtomic aop x operand) = .next t → t.memOk := fun _ _ _ he =>
    (State.KeepsForm.memAtomic _ _ _ s).answer hs he
  rcases hc with rfl | rfl | rfl | rfl | rfl | rfl | rfl | rfl | rfl | rfl | rfl | rfl | rfl | rfl | rfl | rfl | rfl | rfl | rfl
  · exact (State.KeepsForm.memAccess w a n data o s).answer hs he
  · exact (State.KeepsForm.bar2Write a data stream s).answer hs he
  · exact (State.KeepsForm.bar2Read a n stream s).answer hs he
  · exact (State.KeepsForm.copyCmd way s).answer hs he
  · exact (State.KeepsForm.atomicCmd s).answer hs he
  · exact (State.KeepsForm.ringWrite n h s).answer hs he
  · exact hatomic _ _ _ he
  · exact hatomic _ _ _ he
  · exact hatomic _ _ _ he
  · exact hatomic _ _ _ he
  · exact hatomic _ _ _ he
  · exact hatomic _ _ _ he
  · exact hatomic _ _ _ he
  · exact hatomic _ _ _ he
  · exact hatomic _ _ _ he
  · exact (State.KeepsForm.inDomain (fun u => .ite (fun _ => .refl u) fun _ => .hbmScrub a n u) _ s).answer hs he
  · exact (State.KeepsForm.inDomain (fun u => .ite (fun _ => .refl u) fun _ => .retrainStart a n u) _ s).answer hs he
  · exact (State.KeepsForm.inDomain (fun u => .ite (fun _ => .refl u) fun _ => .retrainDone a w u) _ s).answer hs he
  · exact (State.KeepsForm.inDomain (fun u => .ite (fun _ => .refl u) fun _ => .selfRefresh a u) _ s).answer hs he

end Sys2Proof.Machine
end
